-- ==== Sys2Proof/Word.lean ====
section
/-!
DEFINITION. The words of the block's registers and memories (R19): registers are 32 bits wide, some 64; memories are
byte addressed and little-endian.
-/
namespace Sys2Proof

/-- A byte of device memory, host memory or scratchpad memory. -/
abbrev Byte := BitVec 8
/-- A 32-bit register word, a parameter of a command slot, a word of a record. -/
abbrev Word := BitVec 32
/-- A 64-bit register or parameter; every register is held as 64 bits, a 32-bit one with its high half 0. -/
abbrev DWord := BitVec 64

end Sys2Proof
end

