-- ==== Sys2Proof/Config.lean ====
section
/-!
DEFINITION. What the spec leaves to the part or leaves open: the twelve parts and their fuses (R3, R10, R14), and the free
values.
-/
namespace Sys2Proof

/-- The twelve part numbers (R3). -/
inductive Part where
  | uz9616C | uz9616 | uz9612C | uz9612 | uz9608C | uz9608 | uz7604C | uz7604
  | uz5408C | uz5408 | uz5404 | uz3008
  deriving DecidableEq, Repr

namespace Config

/-- `GLB_PART` of a part: four BCD digits and C_SUFFIX (R10). -/
def partWord : Part → Nat
  | .uz9616C => 0x19616 | .uz9616 => 0x9616 | .uz9612C => 0x19612 | .uz9612 => 0x9612
  | .uz9608C => 0x19608 | .uz9608 => 0x9608 | .uz7604C => 0x17604 | .uz7604 => 0x7604
  | .uz5408C => 0x15408 | .uz5408 => 0x5408 | .uz5404 => 0x5404 | .uz3008 => 0x3008

/-- `GLB_FUSE_CFG` of a part with STRAP_TEST low and a good fuse sense (R14). -/
def fuseWord : Part → Nat
  | .uz9616C => 0x00000038FFFF3FFF | .uz9616 => 0x00000030FFFF3FFF
  | .uz9612C => 0x00000038FFFF3FF7 | .uz9612 => 0x00000030FFFF3FF7
  | .uz9608C => 0x00000018FFFF3FF5 | .uz9608 => 0x00000010FFFF3FF5
  | .uz7604C => 0x00000018FFFF3FF1 | .uz7604 => 0x00000010FFFF3FF1
  | .uz5408C => 0x0000000B000F3335 | .uz5408 => 0x00000003000F3335
  | .uz5404 => 0x00000003000F3331 | .uz3008 => 0x00000003000F3FF0

/-- The free values: value number `k` of everything the spec leaves open while the block goes on (a signature, a coded
byte the spec does not compute, a value it states no rule for). It has no body, so nothing can be proved of any one of
them; `State.freeCtr` counts how many have been taken. -/
opaque freeWord : Nat → BitVec 64

/-- Whether a level meets the codec's own limits (R112): the standards' tables of levels are no part of the spec. From the
codec, profile, level, tier, width, height, `TK_NUM`, `TK_DEN`, peak rate, buffer size, tile columns and row bands, 0 says that
it does, 1 that a size or rate limit is broken, any other number that the tile layout is beyond it. -/
opaque levelCheck : List Nat → Nat

/-- α after a band (R143), as an unsigned 8.8 number: the spec gives the formula over real numbers and no rounding, and does not say
whether the weight of a band with floor units counts in full. From α, the bits of the band's normal units, QP_band, the band's weight,
its normal units and all its units. -/
opaque alphaUpdate : List Nat → Nat

/-- The qindex with the quantiser step of an HEVC QP (R109, R143): the step table of AV1 is no part of the spec. -/
opaque av1Index : Nat → Nat

/-- The smallest qindex whose quantiser step, times a number of bits, is not below a product of α and a weight (R143): the step table of
AV1 is no part of the spec. -/
opaque av1Fit : Nat → Nat → Nat

/-- The DIGEST of PLAN over the configuration fields of R229 (R239): the spec names a check value and no function. -/
opaque digest : List Nat → Nat

/-- The CRC-8 of a repair log entry (R472): its polynomial is no part of the spec. -/
opaque crc8 : Nat → Nat

/-- `PTP_MODE_DLY` of an Ethernet mode (R268, R283): the device's constant for the mode is no part of the spec. -/
opaque modeDelay : Nat → Nat

/-- AES-256 key unwrap with padding (R492): the plaintext of a wrapped record under the transport key, or nothing where the integrity
check fails. The cipher is no part of the spec. -/
opaque keyUnwrap : List Byte → List Byte → List Byte

/-- The 24-bit check value of a key (R491): the cipher and the hash are no part of the spec. -/
opaque keyCheck : List Byte → Nat

end Config
end Sys2Proof
end

