-- ==== Sys2Proof/Syntax.lean ====
section
/-!
DEFINITION. The commands the block takes: one constructor of `Instr` for each row of the opcode table, with the operands
the environment gives it. A value that a unit produces and the spec gives no rule to compute (coded bytes, measured
quantities, the contents of host memory) is an operand of the event that brings it.
-/
namespace Sys2Proof

/-- Who accesses a register: a function through its own BAR0 (0 is PF0, 1 to 32 the VFs), or a command processor
(R18, R388). -/
inductive Agent where
  | func (f : Nat)
  | cpx (h : Nat)
  deriving DecidableEq, Repr

/-- A host command as the fetch reads it from its slots (R69, R82), with what a read of the source the command names
returns (`data`; none when that read fails). -/
structure Cmd where
  queue : Nat := 0
  opcode : Nat := 0
  tag : Nat := 0
  handle : Nat := 0
  func : Nat := 0
  fence : Bool := false
  quiet : Bool := false
  atTick : Bool := false
  readback : Bool := false
  tick : Nat := 0
  /-- Slots, the readback slot included. -/
  slots : Nat := 1
  /-- P0 and on: the parameter words of its own slots. -/
  params : List Nat := []
  /-- The readback slot's words 0 to 2: destination and length. -/
  rbAddr : Nat := 0
  rbLen : Nat := 0
  data : Option (List (BitVec 8)) := none
  deriving DecidableEq, Repr

/-- The payload of a tick beacon as received (R48, R228): hops, accumulated correction, the grid of the tick lead, the offset of device
time the member measures from it, in ns, and the residence time it adds on relaying. -/
structure BeaconMsg where
  hops : Nat
  correction : Nat := 0
  num : Nat
  den : Nat
  offset : Int := 0
  residence : Nat := 0
  deriving DecidableEq, Repr

/-- What the scout hands over for one row band (R103, R104, R142): its blocks, how many have CUT_BLOCK and NO_REF set, the
weights of a key and of an inter picture, the sum of ACT, and the map's bytes. -/
structure ScoutMap where
  blocks : Nat
  cutBlocks : Nat
  noRef : Nat
  weightKey : Nat
  weightInter : Nat
  actSum : Nat
  bytes : List (BitVec 8) := []
  deriving DecidableEq, Repr

/-- What the pipes measure of a completed encode picture (R120): mean QP × 256, PSNR, structural mean, cycles of the slowest
pipe, cycles per pipe, order count, mean ACT and the parameter-set and metadata bytes. -/
structure EncStats where
  avgQp : Nat := 0
  psnr : Nat := 0
  struct : Nat := 0
  cycles : Nat := 0
  order : Nat := 0
  actMean : Nat := 0
  winLate : Bool := false
  deriving DecidableEq, Repr

/-- The rows of the encoder failure table (R121, R134). -/
inductive EncFault where
  /-- An uncorrectable error in a window strip or far patch: left out. -/
  | strip (far : Bool)
  /-- An uncorrectable or late error in source data, a prediction fetch or stage 1 to 4 working data, with the unit of the column that it
  affects. -/
  | poison (unit : Nat)
  /-- The missing data is a floor unit's own prediction (R134). -/
  | floorPrediction
  /-- Stage 5 or the micro-sequencer stops. -/
  | stop
  deriving DecidableEq, Repr

/-- A part of a picture: its blocks in decoding order, and, for a row with entropy synchronisation, how many blocks of the part before it
are reconstructed before it starts (two coding units of the row above; R162). -/
structure DecPart where
  blocks : List Nat
  after : Nat := 0
  deriving DecidableEq, Repr

/-- What the check of R168 looks at in a parameter set or sequence header: its identifier, whether each element lies in the range of its
codec, the leading zeros of its longest Exp-Golomb code, its bytes, whether its profile is one of R164, and the format, size and picture
buffers it asks for. -/
structure ParamSet where
  id : Nat := 0
  inRange : Bool := true
  zeros : Nat := 0
  bytes : Nat := 0
  profile : Bool := true
  chroma : Nat := 0
  /-- 0 is 8 bits, 1 is 10 bits. -/
  depth : Nat := 0
  width : Nat := 0
  height : Nat := 0
  buffers : Nat := 0
  deriving DecidableEq, Repr

/-- The picture header: blocks of the picture, map width, chroma format, the parts in bitstream order, whether the picture is inter-coded,
and whether it is the second field of the pair that the field before it opened (R161, R162, R173, R175, R181). -/
structure DecHeader where
  blocks : Nat
  mapW : Nat
  chroma : Nat := 0
  parts : List DecPart := []
  inter : Bool := false
  second : Bool := false
  deriving DecidableEq, Repr

/-- What the front end finds for the block the back end is due to reconstruct (R168 to R170, R174 to R176). -/
inductive BlockResult where
  /-- The next block is decodable: the order identifiers of the pictures it predicts from, and the sides of the band whose halo it
  reads (bit 0 above, bit 1 below). -/
  | good (refs : List Nat) (needs : Nat)
  /-- The next block is damaged: the REASON of R173, and how many blocks of the pipe, this one included, the damage covers. -/
  | damaged (reason run : Nat)
  /-- The picture header or sequence header is parsed. -/
  | header (p : DecHeader)
  /-- The bin limit is exceeded: the unit and the rest of its part. -/
  | binLimit (run : Nat)
  /-- A read past the end of data: the rest of the part. -/
  | overread (run : Nat)
  /-- No picture header or sequence header (R171). -/
  | noHeader
  /-- A parameter set is received, and checked before it is stored. -/
  | paramSet (p : ParamSet)
  deriving DecidableEq, Repr

/-- What the codec's syntax says of a completed decode picture (R177 to R179): is it a reference (long-term), is it shown, its
order identifier, the references it removes, the output geometry, and the order in which HELD pictures become due. -/
structure DecDone where
  isRef : Bool := true
  longTerm : Bool := false
  shown : Bool := true
  order : Nat := 0
  /-- Descriptors the codec removes from the references. -/
  removed : List Nat := []
  /-- The decoded picture's (or field's) size and format code, and the cropped output size and offset. -/
  picW : Nat := 0
  picH : Nat := 0
  format : Nat := 0
  width : Nat := 0
  height : Nat := 0
  cropX : Nat := 0
  cropY : Nat := 0
  key : Bool := false
  field : Bool := false
  bottom : Bool := false
  /-- References that the access unit shows again (show_existing_frame). -/
  again : List Nat := []
  /-- Its place in output order among the HELD pictures, and how many of these are due for output now (R178). -/
  place : Nat := 0
  due : Nat := 1
  /-- Cycles of filtering across part boundaries after the last block (R162). -/
  tail : Nat := 0
  /-- The access unit held only parameter sets or metadata, or a RASL picture that is skipped. -/
  skipped : Bool := false
  rasl : Bool := false
  deriving DecidableEq, Repr

/-- The rows of the decoder failure table (R183). -/
inductive DecFault where
  | stagedError (run : Nat)
  | refFetch
  | guard (address : Nat)
  | frontStop
  | backStop
  deriving DecidableEq, Repr

/-- A received ring message: the link it came in on and its header (R221). -/
structure RingHdr where
  link : Nat
  src : Nat
  dst : Nat := 0
  bcast : Bool := false
  epoch : Nat
  tick : Nat
  deriving DecidableEq, Repr

/-- The payload of HELLO (R223), with the round trip an ECHO closes, as the timestamps of R26 give it. -/
structure HelloMsg where
  ringId : Nat
  pos : Nat
  size : Nat
  echo : Bool := false
  hasTable : Bool := false
  num : Nat
  den : Nat
  seq : Nat := 0
  residence : Nat := 0
  serial : Nat := 0
  epoch : Nat := 0
  epochTick : Nat := 0
  tlead : Nat := 0xFF
  pleads : List Nat := []
  rtt : Nat := 0
  deriving DecidableEq, Repr

/-- The payload of PLAN (R239). -/
structure PlanMsg where
  rsid : Nat
  key : Bool
  nextKey : Bool
  carryVoid : Bool
  digest : Nat
  cap : Nat
  target : Nat
  finalSeen : Nat
  order : Nat := 0
  shares : List Nat
  deriving DecidableEq, Repr

/-- The fields of HALO, SEAM_UP, SEAM_DOWN and BAND messages before their data (R223): FLAGS, SEQ or band index, OFFSET, TOTAL,
and how many data bytes follow. -/
structure DataHdr where
  rsid : Nat
  flags : Nat
  index : Nat
  offset : Nat
  total : Nat
  bytes : Nat
  deriving DecidableEq, Repr

/-- A sample row data header of ST 2110-20 and its bytes (R278): row, offset in samples. -/
structure Srd where
  row : Nat
  offset : Nat
  data : List (BitVec 8)
  deriving DecidableEq, Repr

/-- A received RTP packet (R275 to R279, R494): its addresses, RTP header, frame length from destination address to FCS, colour marks,
whether it starts a NAL unit or OBU (else it continues a fragment), the payload as reassembly keeps it, the rows of ST 2110-20, and the
key its SRTP tag verifies under (0 none, 1 the current key, 2 the next). -/
structure RxPkt where
  v6 : Bool := false
  dst : Nat := 0
  src : Nat := 0
  dport : Nat := 0
  seq : Nat
  ts : Nat
  marker : Bool := false
  bytes : Nat := 0
  dscp : Nat := 0
  dei : Bool := false
  start : Bool := true
  /-- Its last NAL unit or OBU ends in it. -/
  ends : Bool := true
  data : List (BitVec 8) := []
  field : Nat := 0
  srds : List Srd := []
  auth : Nat := 1
  deriving DecidableEq, Repr

/-- What a received Ethernet frame is (R266, R269, R275). -/
inductive RxFrame where
  /-- Bad FCS. -/
  | badFcs
  /-- An IEEE 1588 frame: by EtherType (0), UDP over IPv4 (1) or over IPv6 (2), its domain and its bytes without FCS. -/
  | ptp (transport domain : Nat) (frame : List (BitVec 8))
  | rtp (p : RxPkt)
  /-- Any other frame, a pause frame among them. -/
  | other
  deriving DecidableEq, Repr

/-- Which frame asks for cells (R354): the oldest that waits for a queue, or the next packet of the oldest band record a stream has
not wholly sent, with the lengths of the record's NAL units, or of its OBUs without size fields, as the codec's syntax delimits them
(R274). -/
inductive CellSource where
  | queue (q : Nat)
  | packet (stream : Nat) (units : List Nat)
  deriving DecidableEq, Repr

/-- An error in the cell pool (R356). -/
inductive CellError where
  | corrected
  /-- Uncorrectable data of the frame in transmission from the queue. -/
  | data
  /-- An uncorrectable link entry. -/
  | link
  deriving DecidableEq, Repr

/-- A MIG_DATA message (R223): migration identifier, region, index, LAST, offset, total and data; whether the region's CRC holds, which its
LAST message shows, and whether every region of the copy is held with it (R247). -/
structure MigData where
  id : Nat
  region : Nat
  index : Nat := 0
  last : Bool := false
  offset : Nat := 0
  total : Nat := 0
  data : List (BitVec 8) := []
  crcOk : Bool := true
  whole : Bool := false
  deriving DecidableEq, Repr

/-- A migration message in the sender's slot of the domain mailbox (R223, R224). -/
inductive MigMail where
  | data (h : MigData)
  | commitReq (id handle : Nat)
  | commitAck (id : Nat)
  | query (id step : Nat) (answer : Bool)
  | abort (id step : Nat)
  deriving DecidableEq, Repr

/-- A request that a source presents to the memory front end (R316): its ARB0 requester (R326), its service class, its address, its
length within one granule, and the bytes it writes. -/
structure MemAccess where
  src : Nat
  sc : Nat
  addr : Nat
  bytes : Nat
  data : Option (List (BitVec 8)) := none
  deriving DecidableEq, Repr

/-- The on-die ECC result of a burst (R313). -/
inductive EccResult where
  | clean
  | corrected
  | uncorrectable
  deriving DecidableEq, Repr

/-- How far a DMA transfer has come when it stops (R333): rows completed, bytes of the bursts then in progress, and what a source
in host memory reads, row after row. -/
structure DmaProgress where
  rows : Nat := 0
  orphan : Nat := 0
  data : List (BitVec 8) := []
  deriving DecidableEq, Repr

/-- An access to a scratchpad bank (R344 to R348): the unit's owner code, logical bank, offset, bytes, what it writes, the ECC result of
a read, and the write of a synchronous port in the same cycle: its offset and bytes. -/
structure SpdAccess where
  who : Nat
  bank : Nat
  offset : Nat
  bytes : Nat
  data : Option (List (BitVec 8)) := none
  ecc : EccResult := .clean
  other : Option (Nat × List (BitVec 8)) := none
  deriving DecidableEq, Repr

/-- A host access over CXL.mem (R375 to R377, R382): its host address, the bytes it writes, whether they are poisoned, and what a read leaves
in the host's caches: no copy, a shared copy, or an exclusive one. -/
structure CxlAccess where
  addr : Nat
  bytes : Nat
  data : Option (List (BitVec 8)) := none
  poison : Bool := false
  caches : Nat := 0
  deriving DecidableEq, Repr

/-- What a DOE object asks for (R383, R384, R498): an answer that needs no identity, a certificate or signature, the opening or closing of a
secure session, or the programming of an IDE key, by its slot handle, inside a session. -/
inductive DoeWhat where
  | plain
  | identity
  | openSession
  | closeSession
  | ideKey (handle : Nat) (key : List (BitVec 8))
  deriving DecidableEq, Repr

/-- A DOE object the host writes (R384): its length in bytes, what it asks for, and whether the host has read the last response. -/
structure DoeObject where
  bytes : Nat
  what : DoeWhat
  taken : Bool := true
  deriving DecidableEq, Repr

/-- The kinds of host-memory and peer requests the device makes (R382): a fetch of a submission queue, a reply write of a completion queue, or
an access of a DMA channel. -/
inductive DevRequest where
  | fetch (queue : Nat)
  | reply (queue : Nat)
  | dma (channel addr : Nat) (p : DmaProgress)
  deriving DecidableEq, Repr

/-- What reading an Oxvex image finds (R389 to R391, R400, R488, R489): whether it could be read, is well formed, is signed with two good
keys and carries the die code, its security version and COMMIT_SVN, and the versions and digests of its sections. -/
structure OxvexImage where
  readOk : Bool := true
  formed : Bool := true
  signed : Bool := true
  dieOk : Bool := true
  svn : Nat := 0
  commitSvn : Bool := false
  fwBase : Nat := 0
  fwBuild : Nat := 0
  fwDigest : Nat := 0
  encBase : Nat := 0
  encDigest : Nat := 0
  decBase : Nat := 0
  decDigest : Nat := 0
  deriving DecidableEq, Repr

/-- What reading a patch image finds (R398, R400, R488): as for a whole image, with the patch level, the words of each section it holds, the
microcode base each was built for, the digests of the stores with the patch, and whether the cycle manifest holds. -/
structure PatchImage where
  formed : Bool := true
  signed : Bool := true
  dieOk : Bool := true
  svn : Nat := 0
  level : Nat := 1
  encWords : Option Nat := none
  decWords : Option Nat := none
  encBase : Nat := 0
  decBase : Nat := 0
  encDigest : Nat := 0
  decDigest : Nat := 0
  cyclesOk : Bool := true
  deriving DecidableEq, Repr

/-- The data a faulting micro-routine wrote (R396): a pipe's picture data, or the saved context of a stream. -/
inductive UsqData where
  | pipe (p : Nat)
  | context (stream : Nat)
  deriving DecidableEq, Repr

/-- What starts a wake (R423, R444). -/
inductive WakeCause where
  | source (n : Nat)
  | hostAccess
  | l1Exit
  | d0
  deriving DecidableEq, Repr

/-- What a wake brings with it (R52, R392, R443): cycles that Snowdrop's running count still gains, whether the retained contents match
their digest, which self-tests fail, and, for a wake during a sleep entry, the abort point that comes next (4: none). -/
structure WakeInfo where
  cycles : Nat := 0
  digestOk : Bool := true
  tests : Nat := 0
  ap : Nat := 0
  deriving DecidableEq, Repr

/-- What start-up finds (R12, R310, R392, R484, R497, R500, R508, R512): the fuse check, the self-tests that fail, the identity seed and
certificate, the memory's devices, the retained contents, the survivor copies whose CRC fails, and the cycles that Snowdrop's running count
still gains when the reset came in Deep sleep (R52). -/
structure StartUp where
  fuseErr : Bool := false
  tests : Nat := 0
  seedBad : Bool := false
  certBad : Bool := false
  memOk : Bool := true
  density : Nat := 1
  clamshell : Bool := false
  digestOk : Bool := true
  badCopies : List Nat := []
  cycles : Nat := 0
  deriving DecidableEq, Repr

/-- The commands: one constructor for each row of the opcode table, in its order. -/
inductive Instr where
  /-- REGISTER_WRITE (R19). A host or CPX write to a BAR0 register that has no row of its own, applying width, alignment, 64-bit pairing, access-code and reserved-field rules. -/
  | registerWrite (a : Agent) (off : Nat) (bytes : Nat) (v : DWord)
  /-- TB_TIME_SEC_READ (R25). A read of the low word of TB_TIME_SEC, or a 64-bit read of it, latches seconds, nanoseconds and fraction into the shadow copy. -/
  | tbTimeSecRead
  /-- TB_CTRL_WRITE (R40). A write of TB_CTRL changes the discipline source, servo owner or PTP port, and a change of SRC clears LOCKED. -/
  | tbCtrlWrite (a : Agent) (v : Word)
  /-- TB_ADJ_STEP_WRITE (R44). The servo owner writes a signed step, which is applied to device time on the next TCLK edge with the grid effects of R45. -/
  | tbAdjStepWrite (a : Agent) (v : Word)
  /-- SERVO_OFFSET_WRITE (R42). The servo owner writes TB_SERVO_OFS, and the hardware sets or clears LOCKED from the reported offsets. -/
  | servoOffsetWrite (a : Agent) (v : Word)
  /-- SERVO_TIMEOUT (R42). No TB_SERVO_OFS write has arrived for 4 s, so LOCKED clears and HOLDOVER sets. -/
  | servoTimeout
  /-- TIME_PLL_LOCK_LOSS (R24). The time PLL loses lock, and the time base switches to the backup TCLK within 64 ns, setting CLK_ALT and raising source 103. -/
  | timePllLockLoss
  /-- TIME_PLL_RETURN (R24). After the time PLL has held lock for 10 ms, the time base returns to it at the next tick, or at the next whole millisecond when no grid runs. -/
  | timePllReturn
  /-- TICK_FIRE (R32). Device time reaches TK_NEXT, and the tick fires and performs the ordered tick actions of R32. -/
  | tickFire
  /-- LEAD_COMPARE_NO_GRID (R405). While no grid runs, the belief comparison runs every 1 ms of device time. -/
  | leadCompareNoGrid
  /-- TICK_OUT_ACTIVE (R33). At T(n) plus TK_OUT_OFS of a marked tick, TICK_OUT is driven active. -/
  | tickOutActive
  /-- TICK_OUT_INACTIVE (R33). After WIDTH_NS, TICK_OUT returns inactive. -/
  | tickOutInactive
  /-- PPS_OUT_PULSE (R47). Device nanoseconds pass 0, so PPS_OUT goes high. -/
  | ppsOutPulse
  /-- PPS_OUT_END (R47). After WIDTH_US, PPS_OUT goes low. -/
  | ppsOutEnd
  /-- PPS_CAPTURE (R46). A rising edge on PPS_IN at least 100 ms after the last capture latches device time and raises source 94. -/
  | ppsCapture
  /-- TIME_SET (R44). The command writes device seconds and nanoseconds directly, with the grid effects of R45 and source 93. -/
  | timeSet (c : Cmd)
  /-- TICK_CONFIG (R29). The command validates TK_NUM and TK_DEN and computes a new grid, or leaves a grid with the same period unchanged. -/
  | tickConfig (c : Cmd)
  /-- LAUNCH_SET (R37). The command changes a stream's L and D from the next tick, or from the tick named by AT_TICK. -/
  | launchSet (c : Cmd)
  /-- BEACON (R48). A member receives a tick beacon, relays it with its residence time added, and disciplines itself from the beacon with the lower hop count. -/
  | beacon (m : RingHdr) (b : BeaconMsg)
  /-- BEACON_LOSS (R50). No beacon has arrived for three consecutive ticks, so BEACON_OK clears and source 101 is raised. -/
  | beaconLoss
  /-- REFCLK_AON_LOSS (R52). REFCLK_AON stops in Deep sleep, and Snowdrop switches the sleep span count to the RC oscillator within 160 ns. -/
  | refclkAonLoss (cycles : Nat)
  /-- REFCLK_AON_RETURN (R52). On the first REFCLK_AON edge after its return, Snowdrop switches back to the REFCLK_AON count. -/
  | refclkAonReturn (cycles : Nat)
  /-- PICTURE_LAUNCH (R35). At T(n) plus L, a bound picture launches on its pipes, switching context and starting the scout and the deadline timer. -/
  | pictureLaunch (stream : Nat)
  /-- DELAYED_LAUNCH (R200). A launch delayed by a busy pipe after a forward step fires when the last of its pipes becomes free. -/
  | delayedLaunch (stream : Nat)
  /-- DEADLINE_BACKSTOP (R172). The deadline timer runs out, ending the picture in any state, writing grey for unreconstructed blocks and recording FS10. -/
  | deadlineBackstop (stream : Nat)
  /-- CMDQ_TAIL_WRITE (R65). The owner rings the submission doorbell, and an invalid tail puts the queue in error. -/
  | cmdqTailWrite (a : Agent) (q : Nat) (v : Word)
  /-- COMMAND_FETCH (R66). The lead CPX fetches pending commands round-robin and validates headers, owner and opcode. -/
  | commandFetch (slots : Option (List Nat))
  /-- CPLQ_HEAD_WRITE (R67). The owner returns completion entries, and an invalid head write is ignored and sets DB_ERR. -/
  | cplqHeadWrite (a : Agent) (q : Nat) (v : Word)
  /-- HELD_REPLY_WRITE (R67). A reply waiting in the holding list is written once the completion queue has room and the link is up. -/
  | heldReplyWrite (q : Nat) (ok : Bool)
  /-- CMDQ_CFG_WRITE (R64). A write of CMDQ_CFG enables a queue after its checks, or disables it, discarding unstarted commands. -/
  | cmdqCfgWrite (a : Agent) (q : Nat) (v : Word)
  /-- CPLQ_CFG_WRITE (R86). A write of CPLQ_CFG enables a completion queue, or disables it, discarding held replies and resetting head, tail and phase. -/
  | cplqCfgWrite (a : Agent) (q : Nat) (v : Word)
  /-- CPLQ_OWNER_WRITE (R418). PF0 changes a completion queue's owner, and the queue's interrupt source configuration returns to its reset values for the new owner. -/
  | cplqOwnerWrite (a : Agent) (q : Nat) (v : Word)
  /-- NOP (R76). The command does nothing and replies OK. -/
  | nop (c : Cmd)
  /-- DEVICE_INFO (R91). The command writes the class 0x01 identity record to the destination. -/
  | deviceInfo (c : Cmd)
  /-- STATE_READ (R88). The command writes snapshot records of the visible objects of a class. -/
  | stateRead (c : Cmd)
  /-- STATE_WRITE (R89). The command applies one record to an object after ownership, generation and class validation. -/
  | stateWrite (c : Cmd)
  /-- FAULT_CLEAR (R428). The command clears the named FC_STATUS bits and replies with the count of bits still set. -/
  | faultClear (c : Cmd)
  /-- STREAM_OPEN (R189). The command takes a FREE stream handle for the issuing function. -/
  | streamOpen (c : Cmd)
  /-- STREAM_CONFIG (R190). The command validates and applies an encode or decode configuration, reserves memory and returns the floor time. -/
  | streamConfig (c : Cmd)
  /-- STREAM_CLOSE (R192). The command closes a stream, with or without draining, clearing slot entries, descriptors, votes and the reservation. -/
  | streamClose (c : Cmd)
  /-- BITSTREAM_RING_RELEASE (R192). After a close, the bitstream ring is released once every released band is sent, or at the second tick after the reply. -/
  | bitstreamRingRelease (stream : Nat)
  /-- STREAM_MIGRATE_OUT (R246). The command requests freezing a stand-alone stream for migration to a destination. -/
  | streamMigrateOut (c : Cmd)
  /-- STREAM_MIGRATE_IN (R248). The command takes a handle at the destination, writes COPYING and queries the source. -/
  | streamMigrateIn (c : Cmd)
  /-- ENC_PICTURE (R119). The command submits a source picture bound to a tick for an encode stream. -/
  | encPicture (c : Cmd)
  /-- ENC_KEY_REQUEST (R116). The command requests that the picture of a named tick be coded as a key picture. -/
  | encKeyRequest (c : Cmd)
  /-- ENC_RC_UPDATE (R146). The command stages rate and quantiser field changes for a later launch. -/
  | encRcUpdate (c : Cmd)
  /-- ENC_QP_MAP (R147). The command copies a quantiser offset map into reserved memory, to apply from a tick. -/
  | encQpMap (c : Cmd)
  /-- DEC_AU (R165). The command stages an access unit into buffer pools and binds it to a tick. -/
  | decAu (c : Cmd)
  /-- DEC_FLUSH (R180). The command outputs every HELD picture with FLUSHED set and clears every REF mark. -/
  | decFlush (c : Cmd)
  /-- DEC_REF_DROP (R176). The command removes the usable mark from the most recent matching reference. -/
  | decRefDrop (c : Cmd)
  /-- SLOT_LOAD (R196). The command writes a pipe's next slot-table bank after checks. -/
  | slotLoad (c : Cmd)
  /-- SLOT_SWAP (R197). The command checks the resulting configuration and marks pipes pending for swap at the next tick. -/
  | slotSwap (c : Cmd)
  /-- GATE_LIST_LOAD (R290). The command stages an admin gate list and schedules its switch. -/
  | gateListLoad (c : Cmd)
  /-- SHAPER_SET (R298). The command configures the two-bucket shaper of an egress queue. -/
  | shaperSet (c : Cmd)
  /-- POLICER_SET (R301). The command configures an ingest policer. -/
  | policerSet (c : Cmd)
  /-- FLOW_OPEN (R271). The command opens an egress or ingest RTP flow. -/
  | flowOpen (c : Cmd)
  /-- FLOW_CLOSE (R272). The command closes a flow and discards its queued packets. -/
  | flowClose (c : Cmd)
  /-- INGEST_MAP (R277). The command binds an ST 2110-20 ingest flow to rotating frame buffers. -/
  | ingestMap (c : Cmd)
  /-- RING_JOIN (R219). The command brings up both Fulet links, exchanges HELLO and joins or creates a ring. -/
  | ringJoin (c : Cmd)
  /-- RING_JOIN_TIMEOUT (R219). One neighbour has not answered for 1 s, so the join replies with one link, or fails when none answered. -/
  | ringJoinTimeout
  /-- ROLE_SET (R226). The command broadcasts a ROLE_UPDATE for a new tick or picture lead at epoch E + 1. -/
  | roleSet (c : Cmd)
  /-- RING_LEAVE (R220). The command stops ring traffic at the next tick, clears RING_CFG and notifies both neighbours. -/
  | ringLeave (c : Cmd)
  /-- VOTE_SET (R438). The command places or withdraws the HOST vote on a power domain. -/
  | voteSet (c : Cmd)
  /-- KEY_LOAD (R492). The command loads a wrapped key, performs a transport key exchange, or erases a slot. -/
  | keyLoad (c : Cmd)
  /-- ZEROIZE (R495). The command zeroises every volatile key, and with SCOPE 1 also the identity seed. -/
  | zeroize (c : Cmd)
  /-- SELF_TEST (R487). The command runs the selected pre-operational self-tests on demand. -/
  | selfTest (c : Cmd) (fails : Nat)
  /-- ATTEST (R500). The command writes a signed measurement report with the host's nonce. -/
  | attest (c : Cmd)
  /-- MICROCODE_PATCH (R398). The command validates a patch image and writes it into the unused half of the patch area. -/
  | microcodePatch (c : Cmd) (x : PatchImage)
  /-- MICROCODE_PATCH_SWITCH (R399). At the first tick at which no targeted sequencer serves a busy pipe, all targeted sequencers switch their routine vectors. -/
  | microcodePatchSwitch
  /-- SPARE_SWAP (R470). The command requests a substitution, or a return, for a pipe, bank or PLL. -/
  | spareSwap (c : Cmd)
  /-- MONITOR_CONFIG (R463). The command configures a monitor from the next tick. -/
  | monitorConfig (c : Cmd)
  /-- REPAIR_LOG_READ (R473). The command writes the repair log header and entries to host memory. -/
  | repairLogRead (c : Cmd)
  /-- SCOUT_BAND_DELIVERED (R102). The scout finishes a band and hands its map to the pipes. -/
  | scoutBandDelivered (unit stream band : Nat) (m : ScoutMap)
  /-- SCOUT_WAIT_EXPIRY (R102). Band 0 is not delivered by the cap, so the pipe starts band 0 without scout data and LATE is recorded. -/
  | scoutWaitExpiry (pipe : Nat)
  /-- CU_START (R130). A coding unit is due to enter stage 1 and the time check decides normal or floor coding. -/
  | cuStart (pipe late : Nat) (far : Bool) (needs : Nat)
  /-- WAIT_CUT (R131). During a wait for scout data or a halo, the time check fails and the pipe ends the wait and floor-codes the rest of its column. -/
  | waitCut (pipe : Nat)
  /-- CU_BIT_CHECK (R135). Stage 3 computes a unit's bit bound and the RC block applies the bit check before release to stage 4. -/
  | cuBitCheck (pipe u : Nat) (trimmed : Bool)
  /-- CU_HANDOFF (R98). Stage 6 writes a unit's coded bytes into the bitstream ring. -/
  | cuHandoff (pipe : Nat) (bytes : List (BitVec 8)) (bits : Nat)
  /-- SEAM_STRIP_DONE (R99). The seam filter finishes a strip at an internal tile-column boundary. -/
  | seamStripDone (stream : Nat)
  /-- BAND_RELEASE (R153). A row band is released to the packetiser and as a marker in the bitstream ring, once all columns are handed off and the previous band is released. -/
  | bandRelease (stream : Nat)
  /-- ENC_PICTURE_COMPLETE (R149). An encode picture completes, and statistics, marks, the buffer model and the reply are written. -/
  | encPictureComplete (stream : Nat) (st : EncStats)
  /-- ENC_PIPE_FAULT (R121). A fault in an encoder pipe poisons or stops its column for the picture. -/
  | encPipeFault (pipe : Nat) (f : EncFault)
  /-- DEC_BLOCK_START (R170). The back end is due to reconstruct a block, and the time check decides reconstruction or concealment. -/
  | decBlockStart (pipe : Nat) (r : BlockResult) (unfetched : List Nat)
  /-- DEC_PICTURE_COMPLETE (R177). A decode picture completes, and marks, output records, map, statistics and the reply are written. -/
  | decPictureComplete (stream : Nat) (d : DecDone)
  /-- DEC_PIPE_FAULT (R183). A fault or guard event in a decoder pipe conceals or stops its blocks. -/
  | decPipeFault (pipe : Nat) (f : DecFault)
  /-- DEC_S_REC_HEAD_WRITE (R178). The host returns output records, and waiting HELD pictures are output in order. -/
  | decSRecHeadWrite (a : Agent) (stream : Nat) (v : Word)
  /-- DEC_S_OUT_REL_WRITE (R178). The host gives a buffer back, decrementing its OUT count. -/
  | decSOutRelWrite (a : Agent) (stream : Nat) (v : Word)
  /-- FB_ASSIGN_WRITE (R202). PF0 assigns a range of descriptors to a function. -/
  | fbAssignWrite (a : Agent) (v : Word)
  /-- FB_DESC_COMMIT (R203). A write of descriptor word 3 commits the staged words 0 to 3, or is refused. -/
  | fbDescCommit (a : Agent) (d : Nat) (v : Word)
  /-- FB_READY_WRITE (R207). The owner marks a descriptor READY, or clears READY with CLEAR set. -/
  | fbReadyWrite (a : Agent) (v : Word)
  /-- FB_RING_RD_WRITE (R211). The host advances its bitstream ring read offset, accepted only within the unread data. -/
  | fbRingRdWrite (a : Agent) (stream : Nat) (v : Word)
  /-- FB_ARENA_WRITE (R215). PF0 changes a function's arena, which is ignored while the function has streams outside FREE. -/
  | fbArenaWrite (a : Agent) (f : Nat) (sizeReg : Bool) (v : DWord)
  /-- HELLO (R219). A HELLO or its ECHO is received, checked against ring parameters, and used to measure delay and copy the role table. -/
  | hello (m : RingHdr) (h : HelloMsg)
  /-- LEAVE (R220). A neighbour's LEAVE notice is received and PARTITIONED is set. -/
  | leave (m : RingHdr)
  /-- ROLE_UPDATE (R226). A ROLE_UPDATE is received and the change is scheduled for tick SWITCH, the lower origin winning. -/
  | roleUpdate (m : RingHdr) (kind rsid pos origin newEpoch switchTick : Nat)
  /-- NAK (R227). A NAK for a dropped message is received, and a NAK of an ASK ends it as a grant of 0. -/
  | nak (m : RingHdr) (type reason seq rsid epoch tick : Nat)
  /-- MESSAGE_DISCARD (R221). A ring message with a bad CRC or a reserved TYPE is discarded and counted. -/
  | messageDiscard (link : Nat) (badCrc : Bool)
  /-- PLAN (R239). A member receives PLAN with shares, target and key flags for the tick. -/
  | plan (m : RingHdr) (p : PlanMsg)
  /-- PLAN_SEND_TIMEOUT (R239). At T(n) + 1 µs with a FINAL still missing, the picture lead sends PLAN with that FINAL_SEEN bit at 0. -/
  | planSendTimeout (rsid : Nat)
  /-- DONATE (R240). The bank receives donated bits and adds them to the pool. -/
  | donate (m : RingHdr) (rsid seq bits : Nat)
  /-- ASK (R240). The bank receives a request for bits and answers at once with GRANT. -/
  | ask (m : RingHdr) (rsid seq bits : Nat)
  /-- GRANT (R241). A member receives granted bits, which are added to its budget or carried into the next picture. -/
  | grant (m : RingHdr) (rsid seq bits : Nat)
  /-- FINAL (R241). A member's FINAL is received, reporting its bits, carry and complexity to the ring model. -/
  | final (m : RingHdr) (rsid flags bits carry cplx cut : Nat)
  /-- HALO (R233). A HALO message is received and its image data is placed in the halo area. -/
  | halo (m : RingHdr) (h : DataHdr)
  /-- HALO_DEADLINE (R235). At T(n) + HALO_DL, a halo side not arrived is missing for the whole picture. -/
  | haloDeadline (rsid side : Nat)
  /-- STALE_HALO_DROP (R296). HALO and SEAM messages of tick n still queued at T(n + 1) are dropped and their cells freed. -/
  | staleHaloDrop
  /-- SEAM_UP (R236). The member above receives the unfiltered border rows, filters the seam strip and returns SEAM_DOWN. -/
  | seamUp (m : RingHdr) (h : DataHdr)
  /-- SEAM_DOWN (R236). The member below receives the filtered border rows, completing its picture. -/
  | seamDown (m : RingHdr) (h : DataHdr)
  /-- SEAM_DEADLINE (R236). A seam not exchanged by T(n) + D leaves unfiltered rows marked dirty and the picture edge-extended. -/
  | seamDeadline (rsid : Nat)
  /-- BAND (R232). The picture lead receives a forwarded row band and releases global bands in order. -/
  | band (m : RingHdr) (h : DataHdr) (data : List (BitVec 8))
  /-- FORWARDED_BAND_DROP (R232). A band not complete at the picture lead by T(n + 1) is dropped and the ring picture is sent without it. -/
  | forwardedBandDrop (rsid : Nat)
  /-- MIG_DATA (R247). The destination receives migration region data and checks region CRCs. -/
  | migData (m : RingHdr) (h : MigData)
  /-- MIG_COMMIT_REQ (R249). The source receives a commit request, writes GIVEN and acknowledges, or answers MIG_ABORT. -/
  | migCommitReq (m : RingHdr) (id handle : Nat)
  /-- MIG_COMMIT_ACK (R249). The destination receives the acknowledgement, writes OWNED and replies OK with the new handle. -/
  | migCommitAck (m : RingHdr) (id : Nat)
  /-- MIG_QUERY (R248). A migration query is received and answered with the step, or the answer is acted on. -/
  | migQuery (m : RingHdr) (id step : Nat) (answer : Bool)
  /-- MIG_ABORT (R251). The destination receives MIG_ABORT, releases its handle and reservation and replies NO_RESOURCE. -/
  | migAbort (m : RingHdr) (id step : Nat)
  /-- MIGRATION_TIMEOUT (R251). The source has not written GIVEN by the end of tick f + 3, so it aborts and returns the stream to RUNNING. -/
  | migrationTimeout (handle : Nat)
  /-- MIGRATE_IN_TIMEOUT (R248). The destination has received neither configuration nor answer by the end of the fourth tick, so it aborts. -/
  | migrateInTimeout (handle : Nat)
  /-- UIO_WRITE_RECEIVE (R380). An unordered I/O write arrives from a peer and is accepted into the mailbox or a migrating reservation, or refused. -/
  | uioWriteReceive (peer address : Nat) (data : List (BitVec 8)) (mail : Option MigMail)
  /-- LN_GRP_CFG_WRITE (R257). A write of a lane group's USE takes its lanes down and brings them up in the new role, or is refused while in use. -/
  | lnGrpCfgWrite (a : Agent) (g : Nat) (v : Word)
  /-- LN_PRBS_INJ_WRITE (R265). A write injects one bit error, or sets periodic error injection. -/
  | lnPrbsInjWrite (a : Agent) (lane : Nat) (v : Word)
  /-- FULET_LINK_DOWN (R263). An UP link loses lock or has too many uncorrectable codewords, goes DOWN, partitions the ring and retrains. -/
  | fuletLinkDown (link : Nat)
  /-- ETH_LINK_CHANGE (R267). A port's LINK changes, and while it is down its egress queues are flushed. -/
  | ethLinkChange (port : Nat) (up : Bool) (faults : Nat)
  /-- ETH_FRAME_RECEIVE (R266). A frame is received and timestamped, then filtered to PTP, to an ingest flow with policer and SRTP, or discarded. -/
  | ethFrameReceive (port bytes : Nat) (f : RxFrame)
  /-- PTP_TX_TAIL_WRITE (R269). The servo owner queues PTP transmit entries for sending on traffic class 7. -/
  | ptpTxTailWrite (a : Agent) (port : Nat) (v : Word)
  /-- GATE_ENTRY_CHANGE (R291). A gate list interval ends and the next entry's gate states take effect. -/
  | gateEntryChange (g : Nat)
  /-- GATE_LIST_SWITCH (R292). At the switch instant, the admin copy becomes the oper copy. -/
  | gateListSwitch (g : Nat)
  /-- FRAME_SELECT (R288). At a frame boundary, gate change or credit update, the highest eligible head is started, charged and timestamped. -/
  | frameSelect (k : Nat)
  /-- CELL_ENQUEUE (R354). A frame takes cells in the cell pool, waits for room, or is dropped by its origin's rule. -/
  | cellEnqueue (src : CellSource)
  /-- CELLQ_FLUSH_WRITE (R355). A write names a queue to be flushed at its next packet boundary. -/
  | cellqFlushWrite (a : Agent) (v : Word)
  /-- CELL_LINK_ERROR (R356). An uncorrectable link entry flushes the owning queue and starts a sweep of the link memory. -/
  | cellLinkError (queue cell : Nat) (e : CellError)
  /-- CELL_SWEEP_DONE (R356). The link-memory sweep ends, freeing the queue's cells and quarantining cells with bad tags. -/
  | cellSweepDone (bad : Nat)
  /-- MEMORY_REQUEST (R316). A source presents a memory request with its service class to the front end. -/
  | memoryRequest (r : MemAccess)
  /-- ARB_BURST_END (R321). A burst ends and the arbiter grants the next candidate at or after its pointer. -/
  | arbBurstEnd (arb group cands : Nat) (hold : Bool) (cycles : Nat)
  /-- MEMORY_BURST_COMPLETE (R313). A memory burst completes with its CRC and ECC results, correcting, poisoning or scheduling retirement. -/
  | memoryBurstComplete (ch src : Nat) (ecc : EccResult)
  /-- MC_CRC_ERROR (R312). A burst CRC mismatch is repeated, then triggers emergency retraining, then is treated as uncorrectable or fails the channel. -/
  | mcCrcError (ch src : Nat) (trainOk : Bool)
  /-- MC_REFRESH (R311). A channel issues per-bank refresh at the rate its devices require. -/
  | mcRefresh (ch temp : Nat) (x2 : Bool)
  /-- MC_PERIODIC_RETRAIN (R311). Every 1 ms, or after an 8 °C move, a channel retrains WCK and data alignment. -/
  | mcPeriodicRetrain (ch temp : Nat)
  /-- PAGE_RETIRE_COPY_DONE (R314). A retirement copy ends, the table entry becomes VALID and accesses go to the new page. -/
  | pageRetireCopyDone (entry : Nat)
  /-- ARB_FREEZE_WRITE (R323). A write of ARB_CTL.FREEZE stops or resumes granting. -/
  | arbFreezeWrite (a : Agent) (arb : Nat) (v : Word)
  /-- DMA_EN_WRITE (R333). A write of DMA_CH_CTL.EN enables a channel, or clears it and withdraws the running transfer. -/
  | dmaEnWrite (a : Agent) (n : Nat) (en : Bool) (p : DmaProgress)
  /-- DMA_ARM (R330). A write of ARM = 1 arms the shadow set. -/
  | dmaArm (a : Agent) (n : Nat)
  /-- DMA_DISARM (R330). A write of DISARM = 1 clears ARM. -/
  | dmaDisarm (a : Agent) (n : Nat)
  /-- DMA_HANDOVER (R330). An enabled, armed and idle channel copies the shadow set into the active set and checks the extents. -/
  | dmaHandover (n : Nat) (late : List (Nat × BitVec 32)) (lateArm : Bool)
  /-- DMA_DESCRIPTOR_COMPLETE (R332). A descriptor completes after its writes, or its readbacks, and LINK loads the next one. -/
  | dmaDescriptorComplete (n : Nat) (data : List (BitVec 8))
  /-- DMA_ERROR (R334). A poisoned read or CXL error in flight stops the descriptor and withdraws the transfer. -/
  | dmaError (n code addr : Nat) (p : DmaProgress)
  /-- SPD_ACCESS (R344). A port or bridge access to a scratchpad word is served, refused, rotated, split or collided. -/
  | spdAccess (x : SpdAccess)
  /-- SPD_BANK_OWN_WRITE (R345). A write of SPD_BANK_OWN starts a bank ownership hand-over, with optional clear. -/
  | spdBankOwnWrite (a : Agent) (b : Nat) (v : Word)
  /-- SPD_HANDOVER_DONE (R345). After drain and clear, the new owner takes the bank and PENDING clears. -/
  | spdHandoverDone (b : Nat)
  /-- SPD_BANK_STATE_WRITE (R349). A write of SPD_BANK_CFG.STATE starts a transition to ON, RETENTION or OFF. -/
  | spdBankStateWrite (a : Agent) (b : Nat) (v : Word)
  /-- SPD_BANK_TRANSITION_DONE (R349). A bank's power transition ends, applying any STATE written meanwhile. -/
  | spdBankTransitionDone (b : Nat)
  /-- WINDOW_CACHE_TEST_START (R350). Every PERIOD_MS, on an idle pipe, the test engine starts testing the next window-cache region. -/
  | windowCacheTestStart (unit : Nat)
  /-- WINDOW_CACHE_TEST_DONE (R351). A region test ends, comparing restored words and fitting spare rows on failure. -/
  | windowCacheTestDone (cluster : Nat) (rows : List Nat)
  /-- BP_ALLOCATE (R361). A requester's buffer allocation is granted by ARB3, answered EMPTY, or spilled to the next larger pool. -/
  | bpAllocate (k r : Nat)
  /-- BP_FREE_WRITE (R358). A buffer is freed back to its pool, and double or bad frees are flagged. -/
  | bpFreeWrite (a : Agent) (k : Nat) (v : Word)
  /-- BP_ALLOC_READ (R360). A PF0 read of BP_ALLOC allocates a buffer as the lead CPX, never spilling. -/
  | bpAllocRead (k : Nat)
  /-- BP_CFG_WRITE (R357). A write of BP_CFG enables a pool after its checks, or disables it when no buffer is in use. -/
  | bpCfgWrite (a : Agent) (k : Nat) (v : Word)
  /-- CXL_LINK_DOWN (R368). The CXL link goes down, and host-memory queue accesses and DMA accesses fail. -/
  | cxlLinkDown (dma : List (Nat × DmaProgress))
  /-- CXL_LINK_UP (R368). The CXL link trains up and held replies are written. -/
  | cxlLinkUp (speed width : Nat)
  /-- L1_ENTRY_REQUEST (R369). An L1 entry request is accepted only with no CXL.cache or CXL.mem transaction outstanding. -/
  | l1EntryRequest
  /-- L1_EXIT (R369). The link leaves L1 within 8 µs of a request, and in Deep sleep this starts a wake. -/
  | l1Exit (host : Bool) (x : WakeInfo)
  /-- L0P_REQUEST (R369). The host negotiates an L0p width change, which the device accepts down to x4. -/
  | l0pRequest (width : Nat)
  /-- CXL_MEM_REQUEST (R375). A host CXL.mem access reaches device memory through the HDM decoder, with snoop-filter tracking. -/
  | cxlMemRequest (x : CxlAccess)
  /-- HOST_SNOOP (R378). A host snoop is answered at once as invalid, without data. -/
  | hostSnoop (line : Nat)
  /-- HDM_DECODER_COMMIT (R376). The host commits the HDM decoder, which locks, or sets Error Not Committed. -/
  | hdmDecoderCommit (base size ways gran : Nat)
  /-- VF_ENABLE_WRITE (R373). A write of VF Enable or NumVFs enables VFs, or clears them as a function-level reset of every VF. -/
  | vfEnableWrite (numVfs : Nat) (enable : Bool) (dma : List (Nat × DmaProgress))
  /-- FUNCTION_LEVEL_RESET (R385). An FLR resets one function's queues, streams, flows, descriptors, DMA channels and key slots. -/
  | functionLevelReset (f : Nat) (dma : List (Nat × DmaProgress))
  /-- CXL_RESET (R385). A CXL reset through the DVSEC acts as a warm reset, optionally clearing memory. -/
  | cxlReset (clear : Bool) (dma : List (Nat × DmaProgress)) (x : StartUp)
  /-- DOE_REQUEST (R384). A DOE object carrying discovery, SPDM or secured SPDM is answered. -/
  | doeRequest (x : DoeObject)
  /-- DOE_ABORT (R384). DOE Abort discards the object in progress within 1 ms. -/
  | doeAbort
  /-- IDE_KEY_SET_SWITCH (R383). The host signals a key set switch and the new IDE keys take effect. -/
  | ideKeySetSwitch (protocol dir set : Nat)
  /-- IDE_INTEGRITY_FAIL (R383). A flit fails integrity, so the port enters the insecure state, retrains and records a fault. -/
  | ideIntegrityFail
  /-- COMPLETION_TIMEOUT (R382). A device request has no completion after 50 ms and fails under the requester's rule. -/
  | completionTimeout (who : DevRequest)
  /-- MSIX_UNMASK (R374). A masked vector with its PBA bit set is unmasked and sends its message. -/
  | msixUnmask (f v : Nat)
  /-- CPX_BOOT_GO (R390). PF0 writes GO, and the security module fetches, verifies and loads an Oxvex image, then starts both CPXs. -/
  | cpxBootGo (a : Agent)
  /-- USQ_ROUTINE_BOUNDARY (R395). A micro-routine reaches its end mark, and the sequencer takes pending events in order. -/
  | usqRoutineBoundary (u wait : Nat) (next : Option Nat) (stop : Bool)
  /-- USQ_ROUTINE_OVERRUN (R394). A routine reaches 4,096 cycles without its end mark and is stopped. -/
  | usqRoutineOverrun (u : Nat) (pipes : List Nat)
  /-- USQ_FAULT (R396). A fault during a running routine poisons its later data and logs the step. -/
  | usqFault (u routine step fs : Nat) (d : UsqData)
  /-- AON_LEAD_REQUEST (R402). A write of AON_LEAD_REQ changes the lead owner and epoch when EXPECT matches. -/
  | aonLeadRequest (a : Agent) (owner expect : Nat)
  /-- AON_POWER_UP (R403). Snowdrop powers up after a loss of VDD_AON and sets AON_LEAD from STRAP_LEAD and the beliefs. -/
  | aonPowerUp
  /-- CPX_RELEASE (R407). A fenced CPX writes RELEASE to ask that the fence be lifted at the next agreeing comparison. -/
  | cpxRelease (h : Nat)
  /-- CPX_ADOPT (R409). A write of ADOPT halts the non-lead CPX, aborts its commands, and has the lead serve its half; clearing it starts the hand-back. -/
  | cpxAdopt (a : Agent) (h : Nat) (on : Bool)
  /-- CPX_HALT (R409). A write of HALT stops the non-lead CPX without adoption, and its half is treated as fenced. -/
  | cpxHalt (a : Agent) (h : Nat)
  /-- CPX_WATCHDOG_EXPIRY (R408). The other CPX has not written its heartbeat in WDOG_TICKS intervals, so WDOG is set and FS14 recorded. -/
  | cpxWatchdogExpiry (h : Nat)
  /-- IC_CLAIM (R419). A read of IC_CLAIM claims the highest deliverable source and pushes it on the target's stack. -/
  | icClaim (a : Agent) (t : Nat)
  /-- IC_COMPLETE (R421). A write of IC_COMPLETE pops or removes a source from the stack, under STRICT mode checks. -/
  | icComplete (a : Agent) (t : Nat) (v : Word)
  /-- IC_SRC_CFG_WRITE (R418). A write routes a source to a target with a priority, subject to ownership rules. -/
  | icSrcCfgWrite (a : Agent) (n : Nat) (v : Word)
  /-- IC_MESSAGE_SEND (R422). An idle target, or a moderation time or count reached, sends a message to the target. -/
  | icMessageSend (t : Nat)
  /-- FC_CLEAR_WRITE (R428). A write of ones clears FC_STATUS bits. -/
  | fcClearWrite (a : Agent) (v : DWord)
  /-- FC_MASK_WRITE (R429). A write of FC_MASK changes which faults drive FAULT_N, and the pin follows at once. -/
  | fcMaskWrite (a : Agent) (v : DWord)
  /-- FC_INJECT (R430). In test mode, a write records an injected occurrence of a fault source. -/
  | fcInject (a : Agent) (v : Word)
  /-- DOMAIN_RESTORE_DONE (R437). A domain's restore delay ends and the domain is ON. -/
  | domainRestoreDone (d : Nat)
  /-- SLEEP_REQUEST (R441). PF0 requests Nap or Deep, and an accepted entry runs through its abort points to sleep. -/
  | sleepRequest (a : Agent) (v : Word) (w : Option WakeCause) (d3hot : Bool)
  /-- WAKE_EVENT (R444). A watched source, host access, L1 exit or D3hot to D0 starts a wake or aborts an entry, and domains are restored in step order. -/
  | wakeEvent (w : WakeCause) (x : WakeInfo)
  /-- DROOP_CROSSING (R449). A sensor's droop crosses WARN or SLOW, warning or halving its region's clock. -/
  | droopCrossing (sensor mv : Nat)
  /-- DROOP_CRIT_EXPIRY (R449). Droop stays at or above CRIT_MV for 100 ns while slowed, so CRIT is set and FS33 recorded. -/
  | droopCritExpiry (sensor : Nat)
  /-- DROOP_HOLD_EXPIRY (R449). Droop stays below SLOW_MV − HYST_MV for HOLD_US, so the full clock is restored. -/
  | droopHoldExpiry (sensor : Nat)
  /-- THERMAL_CHANGE (R451). Junction temperature crosses WARN_C, 105 °C or TRIP_C, warning, asserting FS32 or slowing every region. -/
  | thermalChange (temp sensor : Nat)
  /-- THERMAL_SHUTDOWN (R451). At 125 °C, Snowdrop switches every domain off and holds the device in reset until a rail is cycled. -/
  | thermalShutdown
  /-- AVS_TARGET_WRITE (R452). A write of PM_AVS sends the VDD_CORE target to the regulator over AVSBus. -/
  | avsTargetWrite (a : Agent) (v : Word)
  /-- AVS_MISMATCH_EXPIRY (R452). The regulator readback differs from the target for 1 ms, or a transaction fails, asserting FS34. -/
  | avsMismatchExpiry (mv : Nat) (busErr : Bool)
  /-- MONITOR_PERIOD (R458). Every PERIOD_US, monitors of level quantities take a periodic sample. -/
  | monitorPeriod (droop temp : List Nat)
  /-- MONITOR_SNAP_WRITE (R461). A PF0 write of MON_GLB_CTL.SNAP takes a snapshot at once while no grid runs. -/
  | monitorSnapWrite (a : Agent)
  /-- AGING_MEASURE (R464). Once per second, each aging oscillator is counted and compared with its reference, setting WORN past the limit. -/
  | agingMeasure (u : Nat) (ppm : Int)
  /-- SPD_BANK_COPY_DONE (R467). The copy of a failing scratchpad bank to the spare bank ends and accesses go to physical bank 64. -/
  | spdBankCopyDone
  /-- PLL_LOCK_LOSS (R469). Core PLL A loses lock, so every region is slowed and switches to PLL B within 2 µs. -/
  | pllLockLoss
  /-- REPAIR_LOG_PROGRAMMED (R471). Programming of a repair log entry into OTP ends. -/
  | repairLogProgrammed
  /-- SEC_CONDITIONAL_TEST_FAIL (R486). A conditional self-test fails, so the module enters ERROR and zeroises every key. -/
  | secConditionalTestFail
  /-- KEYSTORE_ECC_ERROR (R497). An uncorrectable error in a key slot zeroises that slot and records FS31. -/
  | keystoreEccError (slot : Nat)
  /-- POWER_UP (R526). The rails ramp in order and the device holds reset until PERST_N is released. -/
  | powerUp (aonLost strapLead strapTest : Bool)
  /-- RAIL_UNDERVOLTAGE (R525). A monitored rail falls below 90 % for 1 µs and the die is held in reset until a cold reset. -/
  | railUndervoltage (aon : Bool)
  /-- PERST_N_ASSERT (R505). PERST_N goes low, or a link hot reset arrives, causing a warm reset or a link reset by GLB_PERST_CFG.MODE. -/
  | perstNAssert (hot : Bool) (dma : List (Nat × DmaProgress)) (x : StartUp)
  /-- PERST_N_RELEASE (R508). PERST_N is released and the cold or warm start-up sequence runs to READY. -/
  | perstNRelease (x : StartUp)
  /-- LINK_RESET (R516). A link-only reset resets configuration space and the HDM decoder, and stops host-memory queues, while streams continue. -/
  | linkReset (dma : List (Nat × DmaProgress))
  /-- GLB_RST_WARM (R505). A write of WARM with KEY triggers a warm reset. -/
  | glbRstWarm (a : Agent) (v : Word) (dma : List (Nat × DmaProgress)) (x : StartUp)
  /-- GLB_RST_COLD (R505). A write of COLD with KEY triggers a cold reset. -/
  | glbRstCold (a : Agent) (v : Word) (x : StartUp)
  /-- GLB_RST_HALF (R506). A write of HALF resets the non-lead half, or is refused for the lead half. -/
  | glbRstHalf (a : Agent) (v : Word)
  /-- HALF_RESET_DONE (R505). A half reset completes and its lanes retrain and its CPX restarts after the digest check. -/
  | halfResetDone (h : Nat) (digestOk : Bool)
  /-- STREAM_RESET (R511). A write of GLB_STREAM_RST aborts a stream's pictures and resets its coding state. -/
  | streamReset (a : Agent) (v : Word)
  /-- SURVIVOR_DISCARD (R512). A write of GLB_SURV_DISCARD.ALL discards every survivor record. -/
  | survivorDiscard (a : Agent) (v : Word)
  /-- REFCLK_LANE_LOSS (R529). REFCLK_LANE is lost, so the time base moves to backup TCLK and the lanes go down. -/
  | refclkLaneLoss
  /-- REFCLK_CXL_LOSS (R529). REFCLK_CXL is lost while PERST_N is high and the link goes down. -/
  | refclkCxlLoss (dma : List (Nat × DmaProgress))
  /-- SMBUS_READ (R532). An SMBus read at address 0x3A returns a Snowdrop-held register value. -/
  | smbusRead (reg : Nat)
  /-- FULET_LINK_UP (R261). A Fulet link finishes bring-up or retraining, reaches UP, measures its delay, sends HELLO and raises source 124 or 125. -/
  | fuletLinkUp (link lanes : Nat) (rate25 degraded stepFail reversed : Bool) (skew : Nat)
  /-- PRBS_CHECKER_LOCK (R265). A lane checker in test use locks after 64 error-free bits or loses lock on 32 errors within 64 bits, setting LN_EVT.PRBS_LOSS. -/
  | prbsCheckerLock (lane : Nat) (locked : Bool) (errors : Nat)
  /-- REFCLK_LANE_RETURN (R529). REFCLK_LANE returns after a loss, and the lanes go down and retrain under R263. -/
  | refclkLaneReturn
  /-- IMAGE_READ_COMPLETE (R390). The security module finishes reading an Oxvex image, verifies and loads it, and starts both CPXs or sets FAILED with ERR and BOOT_FAIL. -/
  | imageReadComplete (x : OxvexImage)
  /-- SCOUT_STOP (R426). A scout unit is stopped by a fault, setting SCT_STS.STOPPED and SCT_EVT.STOP and recording FS7, so its pipes code without scout data. -/
  | scoutStop (unit : Nat)
  /-- BACK_INVALIDATE_RESPONSE (R377). The host answers a back-invalidate snoop, and the device agent waiting on the tracked line proceeds. -/
  | backInvalidateResponse (line : Nat)
  /-- CXL_INTERNAL_ERROR (R382). An uncorrectable internal error of the CXL controller reports AER fatal and CXL RAS uncorrectable, records FS26 and retrains the link. -/
  | cxlInternalError
  /-- BOUNDARY_SCAN (R533). A JTAG instruction on TCK, TMS and TDI places the device in boundary scan, which holds every output at the level that scan sets. -/
  | boundaryScan (levels : Option Nat)
  deriving DecidableEq, Repr

end Sys2Proof
end

