-- ==== Sys2Proof/Machine/Bits.lean ====
section
/-!
DEFINITION. Bit fields, sign extension and byte order: the helpers every register, record and packet of the manual is
read and written with. Bit fields are [msb:lsb] (R21); words are little-endian (R19).
-/
namespace Sys2Proof.Machine

/-- The field of `w` bits whose least significant bit is `lo`, as a number. -/
def bitField (v : DWord) (lo w : Nat) : Nat := (v.toNat >>> lo) % 2 ^ w

/-- `v` with the field of `w` bits at `lo` replaced by the low `w` bits of `x`. -/
def setBitField (v : DWord) (lo w x : Nat) : DWord :=
  (v &&& ~~~(BitVec.ofNat 64 ((2 ^ w - 1) <<< lo))) ||| BitVec.ofNat 64 ((x % 2 ^ w) <<< lo)

/-- The same field of a number (a parameter word, a slot word). -/
def natField (v lo w : Nat) : Nat := (v >>> lo) % 2 ^ w

/-- The `w`-bit two's complement reading of a number. -/
def signed (w x : Nat) : Int :=
  let m := x % 2 ^ w
  if 2 * m < 2 ^ w then (m : Int) else (m : Int) - (2 ^ w : Nat)

/-- The `w`-bit two's complement form of an integer. -/
def unsigned (w : Nat) (x : Int) : Nat := (x % ((2 ^ w : Nat) : Int)).toNat

/-- `n` bytes of a number, least significant first (R19: little-endian). -/
def leBytes : Nat → Nat → List Byte
  | 0, _ => []
  | n + 1, x => BitVec.ofNat 8 x :: leBytes n (x / 256)

/-- The number that bytes, least significant first, spell. -/
def leNat : List Byte → Nat
  | [] => 0
  | b :: bs => b.toNat + 256 * leNat bs

/-- Division rounding up, as the manual's ceil. -/
def ceilDiv (a b : Nat) : Nat := if b = 0 then 0 else (a + b - 1) / b

/-- The least multiple of `b` at or above `a`. -/
def roundUp (a b : Nat) : Nat := ceilDiv a b * b

/-- A count that stays at its largest value (the manual's "saturating"). -/
def satAdd (top a b : Nat) : Nat := min top (a + b)

/-- A number moved to the nearer bound of a range. -/
def clampNat (lo hi x : Nat) : Nat := max lo (min hi x)

/-- An integer moved to the nearer bound of a range. -/
def clampInt (lo hi x : Int) : Int := max lo (min hi x)

/-- The positions, below `n`, of the bits that are 1. -/
def bitsOf (n x : Nat) : List Nat := (List.range n).filter fun i => x.testBit i

/-- The number whose bits are the given positions. -/
def maskOf (l : List Nat) : Nat := l.foldl (fun a i => a ||| 2 ^ i) 0

/-- The number of bits that are 1 among the low `n`. -/
def popCount (n x : Nat) : Nat := (bitsOf n x).length

end Sys2Proof.Machine
end

