-- ==== Sys2Proof/Machine/Store.lean ====
section
/-!
DEFINITION. Sparse storage as plain data: a list of (key, value) pairs in ONE canonical form, keys strictly rising and no
entry equal to what an unlisted key reads as. Registers, memories, streams, flows and queues are all held this way.
-/
namespace Sys2Proof.Machine

/-- A sparse table: keys strictly rising; an unlisted key reads as the table's default. -/
abbrev Store (α : Type) := List (Nat × α)

/-- The entry listed under a key. -/
def storeFind {α : Type} : Store α → Nat → Option α
  | [], _ => none
  | (k, v) :: rest, i => if k = i then some v else storeFind rest i

/-- What a key reads as: its entry, or the default of the key. -/
def storeGet {α : Type} (d : Nat → α) (st : Store α) (i : Nat) : α := (storeFind st i).getD (d i)

/-- The table without an entry for the key. -/
def storeDrop {α : Type} : Store α → Nat → Store α
  | [], _ => []
  | (k, v) :: rest, i => if k = i then storeDrop rest i else (k, v) :: storeDrop rest i

/-- The table with the key's entry set, whatever its value. -/
def storeInsert {α : Type} : Store α → Nat → α → Store α
  | [], i, x => [(i, x)]
  | (k, v) :: rest, i, x =>
    if k = i then (i, x) :: rest else if i < k then (i, x) :: (k, v) :: rest else (k, v) :: storeInsert rest i x

/-- Write a key: a value equal to the default removes the entry, so that equal tables are equal data. -/
def storePut {α : Type} [DecidableEq α] (d : Nat → α) (st : Store α) (i : Nat) (x : α) : Store α :=
  if x = d i then storeDrop st i else storeInsert st i x

/-- Every key of the table lies at or above `lo`, keys strictly rising, no entry at its default. -/
def storeWfFrom {α : Type} [DecidableEq α] (d : Nat → α) : Nat → Store α → Bool
  | _, [] => true
  | lo, (k, v) :: rest => decide (lo ≤ k) && decide (v ≠ d k) && storeWfFrom d (k + 1) rest

/-- The canonical form. -/
def storeWf {α : Type} [DecidableEq α] (d : Nat → α) (st : Store α) : Bool := storeWfFrom d 0 st

/-- The table with every key for which `p` holds set back to its default. -/
def storeErase {α : Type} (p : Nat → Bool) (st : Store α) : Store α := st.filter fun e => !p e.1

/-- The listed keys whose value satisfies `p`, in rising order. -/
def storeKeys {α : Type} (p : Nat → α → Bool) (st : Store α) : List Nat :=
  (st.filter fun e => p e.1 e.2).map Prod.fst

end Sys2Proof.Machine
end

