-- ==== Sys2Proof/Machine/RegMap.lean ====
section
/-!
DEFINITION. The register map: one constructor for each BAR0 register the manual names, with its offset, its instances, its
width, the bits a host write reaches and its reset value, from the register and field tables of every chapter
(R8, R57, R85, R122, R123, R157, R184, R213, R215, R252, R281 to R283, R304, R335, R337, R338, R362, R411, R412, R424,
R431, R453, R474, R501, R518).
-/
namespace Sys2Proof.Machine

/-- The BAR0 registers, by the manual's names. -/
inductive Reg where
  | GLB_ID | GLB_REV | GLB_PART | GLB_FUSE_CFG | GLB_SERIAL | GLB_SCRATCH | GLB_RST_CTL | GLB_RST_STS | GLB_PERST_CFG
  | GLB_STREAM_RST | GLB_SURV | GLB_SURV_DISCARD | GLB_RST_CNT | TB_CTRL | TB_STATUS | TB_TIME_SEC | TB_TIME_NS
  | TB_TIME_FRAC | TB_ADJ_RATE | TB_ADJ_STEP | TB_SERVO_OFS | TB_LOCK_CFG | TB_PPS_CAP_SEC | TB_PPS_CAP_NS
  | TB_PPS_OUT_CFG | TB_SLEEP_SPAN | TB_SLEEP_ERR | TB_EVT | TK_CTRL | TK_NUM | TK_DEN | TK_Q | TK_R | TK_ACC
  | TK_INDEX | TK_NEXT_SEC | TK_NEXT_NS | TK_MISSED | TK_OUT_CFG | TK_OUT_OFS | TK_LATE_CNT | CMDQ_BASE | CMDQ_CFG
  | CMDQ_OWNER | CMDQ_TAIL | CMDQ_HEAD | CMDQ_STS | CPLQ_BASE | CPLQ_CFG | CPLQ_OWNER | CPLQ_HEAD | CPLQ_TAIL
  | CPLQ_STS | CMDQ_HELD | IC_CTL | IC_STS | IC_MERGE_CNT | IC_IGNORED_CNT | IC_PEND | IC_ACTIVE | IC_LIVE
  | IC_SRC_CFG | IC_SPURIOUS_CNT | IC_CLAIM | IC_COMPLETE | IC_TGT_STS | IC_MOD | FC_STATUS | FC_MASK | FC_CLEAR
  | FC_FIRST | FC_LAST | FC_INJECT | FC_CNT | ENC_CL_STS | ENC_CL_SPARE | ENC_EP_STS | ENC_EP_POS | ENC_EP_STREAM
  | ENC_EP_TICK | ENC_EP_CYC_LAST | ENC_EP_CYC_MAX | ENC_EP_TRIM_CNT | ENC_EP_WIN_CNT | ENC_EP_POISON_CNT
  | ENC_EP_EVT | ENC_EP_EVT_EN | DEC_STS | DEC_SPARE | DEC_DP_STS | DEC_DP_POS | DEC_DP_STREAM | DEC_DP_TICK
  | DEC_DP_CYC_LAST | DEC_DP_CYC_MAX | DEC_DP_CONC_CNT | DEC_DP_BINLIM_CNT | DEC_DP_GUARD_CNT | DEC_DP_EVT
  | DEC_DP_EVT_EN | DEC_DP_GUARD_ADDR | DEC_S_STS | DEC_S_ERR | DEC_S_REC_HEAD | DEC_S_REC_TAIL | DEC_S_OUT_REL
  | DEC_S_CONC_CNT | DEC_S_SUBST_CNT | DEC_S_PS_CNT | SCT_STS | SCT_POS | SCT_LATE_CNT | SCT_CUT_CNT | SCT_EVT
  | SCT_EVT_EN | SLT_STS | SLT_DELAY_CNT | SLT_DELAY_MAX | SLT_SWAP_TICK | SLT_MAP_DEC | SLT_MAP_ENC | SLT_BANK
  | SLT_ACT | SLT_NEXT | FB_DESC_BASE | FB_DESC_DIM | FB_DESC_FMT | FB_DESC_OWN | FB_DESC_MARKS | FB_DESC_ORDER
  | FB_DESC_TICK | FB_ASSIGN | FB_ASSIGN_FUNC | FB_READY | FB_ARENA_BASE | FB_ARENA_SIZE | FB_S_RING_BASE
  | FB_S_RING_SIZE | FB_S_RING_WR | FB_S_RING_RD | FB_S_RING_CFG | FB_S_OVR_CNT | RC_STS | RC_SUM | RC_FLOOR_PIC_CNT
  | RC_FLOOR_CU_CNT | RC_REPEAT_CNT | RC_SLOW_FLOOR_CNT | RC_S_FILL | RC_S_TARGET | RC_S_CAP | RC_S_QP | RC_S_ALPHA
  | RC_S_FLOORED | RC_S_CAUSE | RC_S_FLOOR_TIME | RING_CFG | RING_STS | RING_EPOCH | RING_EPOCH_PREV
  | RING_EPOCH_TICK | RING_TICK_LEAD | RING_FL_DELAY | RING_DOM_DIR | RING_EVT | RING_EVT_EN | RING_STALE_CNT
  | RING_UNKNOWN_CNT | RING_HALO_LATE_CNT | RING_SEAM_LATE_CNT | RING_TOKEN_LATE_CNT | RING_FWD_LATE_CNT
  | RING_DESYNC_CNT | RING_PLAN_MISS_CNT | RING_RS_STS | RING_RS_SHARE | RING_RS_TOKENS_IN | RING_RS_TOKENS_OUT
  | RING_RS_CARRY | RING_RS_POOL | RING_RS_PLAN_TICK | FL_CFG | FL_STS | FL_CRC_CNT | FL_FEC_CORR_CNT
  | FL_FEC_UNC_CNT | FL_RETRAIN_CNT | FL_SKEW | FL_EVT | FL_EVT_EN | LN_GRP_CFG | LN_STS | LN_EQ | LN_PRBS_CFG
  | LN_PRBS_ERR | LN_PRBS_INJ | LN_EVT | LN_EVT_EN | ETH_CFG | ETH_STS | ETH_MAC | ETH_TX_FRAMES | ETH_RX_FRAMES
  | ETH_FCS_CNT | ETH_RX_DROP_CNT | ETH_FEC_CORR_CNT | ETH_FEC_UNC_CNT | ETH_EVT | ETH_EVT_EN | PTP_CFG
  | PTP_MODE_DLY | PTP_BRD_DLY | PTP_RING_BASE | PTP_RX_HEAD | PTP_RX_TAIL | PTP_TX_TAIL | PTP_TX_HEAD
  | PTP_RX_DROP_CNT | GT_STS | GT_COUNT | GT_CYCLE | GT_BASE_SEC | GT_BASE_NS | GT_SWITCH_NS | GT_SWITCH_SEC
  | GT_HOLD_CNT | GT_OVERSIZE_CNT | GT_OVERRUN_CNT | GT_EVT | GT_EVT_EN | GT_ADMIN | GT_OPER | SH_CIR | SH_PIR
  | SH_CBS | SH_PBS | SH_CFG | SH_C_CREDIT | SH_P_CREDIT | SH_DROP_CNT | SH_CTL_RATE | SH_CTL_BURST | SH_CTL_CREDIT
  | SH_CTL_HOLD_CNT | SH_EVT | SH_EVT_EN | PL_CIR | PL_PIR | PL_CBS | PL_PBS | PL_CFG | PL_C_CREDIT | PL_P_CREDIT
  | PL_GREEN_CNT | PL_YELLOW_CNT | PL_RED_CNT | PL_YDROP_CNT | MC_CFG | MC_STS | MC_CAP | MC_AGE | MC_RETIRE_CFG
  | MC_RETIRE_CNT | MC_SC0_OVER_CNT | MC_UE_ADDR | MC_EVT | MC_CH_STS | MC_CH_CE_CNT | MC_CH_UE_CNT | MC_CH_RETRY_CNT
  | MC_CH_TRAIN_CNT | MC_CH_LAT_MAX | MC_CH_EVT | MC_CH_EVT_EN | MC_RETIRE_TBL | ARB_CTL | ARB_STS | ARB_MASK
  | ARB_MASK_FENCE | ARB_CUTOFF_CNT | ARB_EVT | ARB_EVT_EN | DMA_SH | DMA_ACT | DMA_CH_CTL | DMA_STS | DMA_CH_CFG
  | DMA_CH_OWNER | DMA_DONE_BYTES | DMA_ORPHAN_BYTES | DMA_ERR_ADDR | DMA_CH_EVT_EN | DMA_GLB_STS | SPD_BANK_OWN
  | SPD_BANK_CFG | SPD_BANK_STS | SPD_EVT | SPD_CE_CNT | SPD_UE_CNT | SPD_ERR_ADDR | SPD_BUSY_CNT | SPD_WCT_CFG
  | SPD_WCT_STS | SPD_WCT_FAIL_CNT | SPD_WCT_LAST | CELLQ_STS | CELLQ_CFG | CELLQ_CE_CNT | CELLQ_UE_CNT | CELLQ_EVT
  | CELLQ_EVT_EN | CELLQ_ERR_CELL | CELLQ_FLUSH | CELLQ_QUAR_CNT | CELLQ_Q_LIMIT | CELLQ_Q_DEPTH | CELLQ_Q_DROP_CNT
  | BP_BASE | BP_MIRROR | BP_CFG | BP_THRESH_HI | BP_THRESH_LO | BP_STS | BP_ALLOC | BP_FREE | BP_EMPTY_CNT
  | BP_DFREE_CNT | BP_SPILL_CNT | BP_ERR_IDX | BP_EVT | BP_EVT_EN | PM_STATE | PM_SLEEP_REQ | PM_SLEEP_STS | PM_EVT
  | PM_EVT_EN | PM_TEMP | PM_THERM | PM_AVS | PM_AVS_STS | PM_DOM_STS | AON_VOTE | AON_WAKE_SRC | AON_WAKE_CAUSE
  | AON_SLEEP_CNT | AON_LEAD | AON_LEAD_REQ | MON_CFG | MON_BASE | MON_LIMIT | MON_LO_LIMIT | MON_MIN | MON_MAX
  | MON_COUNT | MON_STS | MON_SUM | MON_S_MIN | MON_S_MAX | MON_S_COUNT | MON_S_SUM | MON_HIST | MON_S_HIST
  | MON_GLB_CTL | MON_GLB_EVT | MON_GLB_EVT_EN | MON_EVT | MON_EVT_EN | MON_SNAP_TICK | MON_AGE | DRP_CFG | DRP_STS
  | DRP_SLOW_CNT | DRP_SLOW_NS | DRP_EVT | DRP_EVT_EN | SPR_CFG | SPR_STS | SPR_FAILED | SPR_PENDING | SPR_EVT
  | SPR_EVT_EN | SPR_LOG_USED | SPR_WC_ROWS | CPX_BOOT_ADDR | CPX_BOOT_LEN | CPX_BOOT_CTL | CPX_BOOT_STS
  | CPX_VERSION | CPX_STS | CPX_CTL | CPX_BELIEF | CPX_HEARTBEAT | CPX_EVT | CPX_EVT_EN | CPX_REFUSED_CNT
  | USQ_VERSION | USQ_STS | USQ_PC | USQ_STEP_LOG | USQ_EVT | USQ_EVT_EN | USQ_POISON_CNT | USQ_LAT_MAX | USQ_CS_ADDR
  | USQ_CS_DATA | SEC_STS | SEC_SVC_IND | SEC_SELFTEST | SEC_MIN_SVN | SEC_EVT | SEC_EVT_EN | SEC_SRTP_AUTH_CNT
  | SEC_SRTP_REPLAY_CNT | SEC_KEYS_USED | SEC_SESSIONS | SEC_MB | FB_ERR | FB_ERR_IDX
  deriving DecidableEq, Repr

/-- What the register tables say of a register: where its instances lie (instance `i` at
`base + (i / inner) * stride + (i % inner) * innerStride`), whether it is 64 bits wide, the bits a write sets (RW, RWS),
the bits a written 1 clears (W1C), whether any write clears it, whether it keeps its value across a warm reset (RWS), and
its value at reset. -/
structure RegInfo where
  base : Nat
  count : Nat
  stride : Nat
  inner : Nat := 1
  innerStride : Nat := 0
  wide : Bool := false
  rw : Nat := 0
  w1c : Nat := 0
  anyClears : Bool := false
  sticky : Bool := false
  reset : Nat := 0
  deriving DecidableEq, Repr

/-- The row of each register. -/
def regInfo : Reg → RegInfo
  | .GLB_ID => { base := 0x0, count := 1, stride := 0x0, reset := 0x5A560001 }
  | .GLB_REV => { base := 0x4, count := 1, stride := 0x0, reset := 0x10 }
  | .GLB_PART => { base := 0x8, count := 1, stride := 0x0 }
  | .GLB_FUSE_CFG => { base := 0x10, count := 1, stride := 0x0, wide := true }
  | .GLB_SERIAL => { base := 0x18, count := 1, stride := 0x0, wide := true }
  | .GLB_SCRATCH => { base := 0x20, count := 1, stride := 0x0, rw := 0xFFFFFFFF }
  | .GLB_RST_CTL => { base := 0x100, count := 1, stride := 0x0, rw := 0xFFFF000F }
  | .GLB_RST_STS => { base := 0x104, count := 1, stride := 0x0, w1c := 0x380 }
  | .GLB_PERST_CFG => { base := 0x108, count := 1, stride := 0x0, rw := 0x1, sticky := true }
  | .GLB_STREAM_RST => { base := 0x10C, count := 1, stride := 0x0, rw := 0x800001FF }
  | .GLB_SURV => { base := 0x110, count := 1, stride := 0x0 }
  | .GLB_SURV_DISCARD => { base := 0x114, count := 1, stride := 0x0, rw := 0x1 }
  | .GLB_RST_CNT => { base := 0x118, count := 1, stride := 0x0, anyClears := true, sticky := true }
  | .TB_CTRL => { base := 0x100000, count := 1, stride := 0x0, rw := 0x1F, sticky := true }
  | .TB_STATUS => { base := 0x100004, count := 1, stride := 0x0 }
  | .TB_TIME_SEC => { base := 0x100008, count := 1, stride := 0x0, wide := true }
  | .TB_TIME_NS => { base := 0x100010, count := 1, stride := 0x0 }
  | .TB_TIME_FRAC => { base := 0x100014, count := 1, stride := 0x0 }
  | .TB_ADJ_RATE => { base := 0x100018, count := 1, stride := 0x0, rw := 0xFFFFFFFF, sticky := true }
  | .TB_ADJ_STEP => { base := 0x10001C, count := 1, stride := 0x0, rw := 0xFFFFFFFF }
  | .TB_SERVO_OFS => { base := 0x100020, count := 1, stride := 0x0, rw := 0xFFFFFFFF }
  | .TB_LOCK_CFG => { base := 0x100024, count := 1, stride := 0x0, rw := 0xFFFFFF, sticky := true, reset := 0x80032 }
  | .TB_PPS_CAP_SEC => { base := 0x100028, count := 1, stride := 0x0, wide := true }
  | .TB_PPS_CAP_NS => { base := 0x100030, count := 1, stride := 0x0 }
  | .TB_PPS_OUT_CFG => { base := 0x100034, count := 1, stride := 0x0, rw := 0xFFFFFF01, sticky := true, reset := 0x3E800 }
  | .TB_SLEEP_SPAN => { base := 0x100038, count := 1, stride := 0x0, wide := true }
  | .TB_SLEEP_ERR => { base := 0x100040, count := 1, stride := 0x0, wide := true }
  | .TB_EVT => { base := 0x100048, count := 1, stride := 0x0, w1c := 0xFFF }
  | .TK_CTRL => { base := 0x100100, count := 1, stride := 0x0 }
  | .TK_NUM => { base := 0x100104, count := 1, stride := 0x0 }
  | .TK_DEN => { base := 0x100108, count := 1, stride := 0x0 }
  | .TK_Q => { base := 0x10010C, count := 1, stride := 0x0 }
  | .TK_R => { base := 0x100110, count := 1, stride := 0x0 }
  | .TK_ACC => { base := 0x100114, count := 1, stride := 0x0 }
  | .TK_INDEX => { base := 0x100118, count := 1, stride := 0x0, wide := true }
  | .TK_NEXT_SEC => { base := 0x100120, count := 1, stride := 0x0, wide := true }
  | .TK_NEXT_NS => { base := 0x100128, count := 1, stride := 0x0 }
  | .TK_MISSED => { base := 0x10012C, count := 1, stride := 0x0, anyClears := true }
  | .TK_OUT_CFG => { base := 0x100130, count := 1, stride := 0x0, rw := 0xFFFFFFF3, sticky := true, reset := 0x3E8000 }
  | .TK_OUT_OFS => { base := 0x100134, count := 1, stride := 0x0, rw := 0xFFFFFFFF, sticky := true }
  | .TK_LATE_CNT => { base := 0x100138, count := 1, stride := 0x0 }
  | .CMDQ_BASE => { base := 0x200000, count := 64, stride := 0x40, wide := true, rw := 0xFFFFFFFFFFFFF001 }
  | .CMDQ_CFG => { base := 0x200008, count := 64, stride := 0x40, rw := 0x8000F3FF }
  | .CMDQ_OWNER => { base := 0x20000C, count := 64, stride := 0x40, rw := 0x3F }
  | .CMDQ_TAIL => { base := 0x200010, count := 64, stride := 0x40, rw := 0xFFF }
  | .CMDQ_HEAD => { base := 0x200014, count := 64, stride := 0x40 }
  | .CMDQ_STS => { base := 0x200018, count := 64, stride := 0x40, w1c := 0xE }
  | .CPLQ_BASE => { base := 0x201000, count := 64, stride := 0x40, wide := true, rw := 0xFFFFFFFFFFFFF001 }
  | .CPLQ_CFG => { base := 0x201008, count := 64, stride := 0x40, rw := 0x8000000F }
  | .CPLQ_OWNER => { base := 0x20100C, count := 64, stride := 0x40, rw := 0x3F }
  | .CPLQ_HEAD => { base := 0x201010, count := 64, stride := 0x40, rw := 0xFFF }
  | .CPLQ_TAIL => { base := 0x201014, count := 64, stride := 0x40, reset := 0x1000 }
  | .CPLQ_STS => { base := 0x201018, count := 64, stride := 0x40, w1c := 0x602 }
  | .CMDQ_HELD => { base := 0x202000, count := 1, stride := 0x0 }
  | .IC_CTL => { base := 0x300000, count := 1, stride := 0x0, rw := 0x1, reset := 0x1 }
  | .IC_STS => { base := 0x300004, count := 1, stride := 0x0, w1c := 0x3 }
  | .IC_MERGE_CNT => { base := 0x300008, count := 1, stride := 0x0, anyClears := true }
  | .IC_IGNORED_CNT => { base := 0x30000C, count := 1, stride := 0x0, anyClears := true }
  | .IC_PEND => { base := 0x300100, count := 8, stride := 0x4, w1c := 0xFFFFFFFF }
  | .IC_ACTIVE => { base := 0x300120, count := 8, stride := 0x4 }
  | .IC_LIVE => { base := 0x300140, count := 8, stride := 0x4 }
  | .IC_SRC_CFG => { base := 0x301000, count := 256, stride := 0x4, rw := 0x3FFF3F, reset := 0x38 }
  | .IC_SPURIOUS_CNT => { base := 0x302000, count := 256, stride := 0x4, anyClears := true }
  | .IC_CLAIM => { base := 0x308000, count := 770, stride := 0x10, reset := 0x80000000 }
  | .IC_COMPLETE => { base := 0x308004, count := 770, stride := 0x10, rw := 0xFF }
  | .IC_TGT_STS => { base := 0x308008, count := 770, stride := 0x10, reset := 0x200 }
  | .IC_MOD => { base := 0x30800C, count := 770, stride := 0x10, rw := 0xFFFFFF }
  | .FC_STATUS => { base := 0x380000, count := 1, stride := 0x0, wide := true }
  | .FC_MASK => { base := 0x380008, count := 1, stride := 0x0, wide := true, rw := 0xFFFFFFFFFFFFFFFF, reset := 0x813F71020 }
  | .FC_CLEAR => { base := 0x380010, count := 1, stride := 0x0, wide := true, rw := 0xFFFFFFFFFFFFFFFF }
  | .FC_FIRST => { base := 0x380018, count := 1, stride := 0x0, wide := true }
  | .FC_LAST => { base := 0x380020, count := 1, stride := 0x0, wide := true }
  | .FC_INJECT => { base := 0x380028, count := 1, stride := 0x0, rw := 0x13F }
  | .FC_CNT => { base := 0x380100, count := 64, stride := 0x4, anyClears := true }
  | .ENC_CL_STS => { base := 0x400000, count := 4, stride := 0x40000 }
  | .ENC_CL_SPARE => { base := 0x400004, count := 4, stride := 0x40000, reset := 0x8 }
  | .ENC_EP_STS => { base := 0x400100, count := 16, stride := 0x40000, inner := 4, innerStride := 64 }
  | .ENC_EP_POS => { base := 0x400104, count := 16, stride := 0x40000, inner := 4, innerStride := 64 }
  | .ENC_EP_STREAM => { base := 0x400108, count := 16, stride := 0x40000, inner := 4, innerStride := 64 }
  | .ENC_EP_TICK => { base := 0x40010C, count := 16, stride := 0x40000, inner := 4, innerStride := 64 }
  | .ENC_EP_CYC_LAST => { base := 0x400110, count := 16, stride := 0x40000, inner := 4, innerStride := 64 }
  | .ENC_EP_CYC_MAX => { base := 0x400114, count := 16, stride := 0x40000, inner := 4, innerStride := 64, anyClears := true }
  | .ENC_EP_TRIM_CNT => { base := 0x400118, count := 16, stride := 0x40000, inner := 4, innerStride := 64, anyClears := true }
  | .ENC_EP_WIN_CNT => { base := 0x40011C, count := 16, stride := 0x40000, inner := 4, innerStride := 64, anyClears := true }
  | .ENC_EP_POISON_CNT => { base := 0x400120, count := 16, stride := 0x40000, inner := 4, innerStride := 64, anyClears := true }
  | .ENC_EP_EVT => { base := 0x400124, count := 16, stride := 0x40000, inner := 4, innerStride := 64, w1c := 0x1F }
  | .ENC_EP_EVT_EN => { base := 0x400128, count := 16, stride := 0x40000, inner := 4, innerStride := 64, rw := 0x1F }
  | .DEC_STS => { base := 0x500000, count := 1, stride := 0x0 }
  | .DEC_SPARE => { base := 0x500004, count := 1, stride := 0x0, reset := 0x88 }
  | .DEC_DP_STS => { base := 0x500100, count := 8, stride := 0x40 }
  | .DEC_DP_POS => { base := 0x500104, count := 8, stride := 0x40 }
  | .DEC_DP_STREAM => { base := 0x500108, count := 8, stride := 0x40 }
  | .DEC_DP_TICK => { base := 0x50010C, count := 8, stride := 0x40 }
  | .DEC_DP_CYC_LAST => { base := 0x500110, count := 8, stride := 0x40 }
  | .DEC_DP_CYC_MAX => { base := 0x500114, count := 8, stride := 0x40, anyClears := true }
  | .DEC_DP_CONC_CNT => { base := 0x500118, count := 8, stride := 0x40, anyClears := true }
  | .DEC_DP_BINLIM_CNT => { base := 0x50011C, count := 8, stride := 0x40, anyClears := true }
  | .DEC_DP_GUARD_CNT => { base := 0x500120, count := 8, stride := 0x40, anyClears := true }
  | .DEC_DP_EVT => { base := 0x500124, count := 8, stride := 0x40, w1c := 0x3F }
  | .DEC_DP_EVT_EN => { base := 0x500128, count := 8, stride := 0x40, rw := 0x3F }
  | .DEC_DP_GUARD_ADDR => { base := 0x500130, count := 8, stride := 0x40, wide := true }
  | .DEC_S_STS => { base := 0x501000, count := 512, stride := 0x20 }
  | .DEC_S_ERR => { base := 0x501004, count := 512, stride := 0x20, w1c := 0x1F }
  | .DEC_S_REC_HEAD => { base := 0x501008, count := 512, stride := 0x20, rw := 0xFFF }
  | .DEC_S_REC_TAIL => { base := 0x50100C, count := 512, stride := 0x20, reset := 0x1000 }
  | .DEC_S_OUT_REL => { base := 0x501010, count := 512, stride := 0x20, rw := 0x1FFF }
  | .DEC_S_CONC_CNT => { base := 0x501014, count := 512, stride := 0x20, anyClears := true }
  | .DEC_S_SUBST_CNT => { base := 0x501018, count := 512, stride := 0x20, anyClears := true }
  | .DEC_S_PS_CNT => { base := 0x50101C, count := 512, stride := 0x20, anyClears := true }
  | .SCT_STS => { base := 0x580000, count := 4, stride := 0x1000 }
  | .SCT_POS => { base := 0x580004, count := 4, stride := 0x1000 }
  | .SCT_LATE_CNT => { base := 0x580008, count := 4, stride := 0x1000, anyClears := true }
  | .SCT_CUT_CNT => { base := 0x58000C, count := 4, stride := 0x1000, anyClears := true }
  | .SCT_EVT => { base := 0x580010, count := 4, stride := 0x1000, w1c := 0x7 }
  | .SCT_EVT_EN => { base := 0x580014, count := 4, stride := 0x1000, rw := 0x7 }
  | .SLT_STS => { base := 0x600000, count := 1, stride := 0x0 }
  | .SLT_DELAY_CNT => { base := 0x600004, count := 1, stride := 0x0, anyClears := true }
  | .SLT_DELAY_MAX => { base := 0x600008, count := 1, stride := 0x0, anyClears := true }
  | .SLT_SWAP_TICK => { base := 0x60000C, count := 1, stride := 0x0 }
  | .SLT_MAP_DEC => { base := 0x600020, count := 1, stride := 0x0 }
  | .SLT_MAP_ENC => { base := 0x600010, count := 4, stride := 0x4, reset := 0x688 }
  | .SLT_BANK => { base := 0x600040, count := 24, stride := 0x4 }
  | .SLT_ACT => { base := 0x601000, count := 1536, stride := 0x200, inner := 64, innerStride := 4 }
  | .SLT_NEXT => { base := 0x601100, count := 1536, stride := 0x200, inner := 64, innerStride := 4 }
  | .FB_DESC_BASE => { base := 0x680000, count := 8192, stride := 0x20, wide := true, rw := 0xFFFFFFFFFFFFF000 }
  | .FB_DESC_DIM => { base := 0x680008, count := 8192, stride := 0x20, rw := 0xFFFFFFFF }
  | .FB_DESC_FMT => { base := 0x68000C, count := 8192, stride := 0x20, rw := 0xFFFFFFFF }
  | .FB_DESC_OWN => { base := 0x680010, count := 8192, stride := 0x20 }
  | .FB_DESC_MARKS => { base := 0x680014, count := 8192, stride := 0x20 }
  | .FB_DESC_ORDER => { base := 0x680018, count := 8192, stride := 0x20 }
  | .FB_DESC_TICK => { base := 0x68001C, count := 8192, stride := 0x20 }
  | .FB_ASSIGN => { base := 0x6C0000, count := 1, stride := 0x0, rw := 0x7FFFFFF }
  | .FB_ASSIGN_FUNC => { base := 0x6C0004, count := 1, stride := 0x0, rw := 0x3F }
  | .FB_READY => { base := 0x6C0008, count := 1, stride := 0x0, rw := 0x80001FFF }
  | .FB_ARENA_BASE => { base := 0x6C0100, count := 33, stride := 0x10, wide := true, rw := 0xFFFFFFFFFFFFF000 }
  | .FB_ARENA_SIZE => { base := 0x6C0108, count := 33, stride := 0x10, wide := true, rw := 0xFFFFFFFFFFFFF000 }
  | .FB_S_RING_BASE => { base := 0x6C1000, count := 512, stride := 0x20, wide := true }
  | .FB_S_RING_SIZE => { base := 0x6C1008, count := 512, stride := 0x20 }
  | .FB_S_RING_WR => { base := 0x6C100C, count := 512, stride := 0x20 }
  | .FB_S_RING_RD => { base := 0x6C1010, count := 512, stride := 0x20, rw := 0xFFFFFFFF }
  | .FB_S_RING_CFG => { base := 0x6C1014, count := 512, stride := 0x20, rw := 0x1, w1c := 0x2 }
  | .FB_S_OVR_CNT => { base := 0x6C1018, count := 512, stride := 0x20, anyClears := true }
  | .RC_STS => { base := 0x700000, count := 1, stride := 0x0 }
  | .RC_SUM => { base := 0x700004, count := 1, stride := 0x0 }
  | .RC_FLOOR_PIC_CNT => { base := 0x700008, count := 1, stride := 0x0, anyClears := true }
  | .RC_FLOOR_CU_CNT => { base := 0x70000C, count := 1, stride := 0x0, anyClears := true }
  | .RC_REPEAT_CNT => { base := 0x700010, count := 1, stride := 0x0, anyClears := true }
  | .RC_SLOW_FLOOR_CNT => { base := 0x700014, count := 1, stride := 0x0, anyClears := true }
  | .RC_S_FILL => { base := 0x701000, count := 512, stride := 0x20 }
  | .RC_S_TARGET => { base := 0x701004, count := 512, stride := 0x20 }
  | .RC_S_CAP => { base := 0x701008, count := 512, stride := 0x20 }
  | .RC_S_QP => { base := 0x70100C, count := 512, stride := 0x20 }
  | .RC_S_ALPHA => { base := 0x701010, count := 512, stride := 0x20, reset := 0x1000100 }
  | .RC_S_FLOORED => { base := 0x701014, count := 512, stride := 0x20 }
  | .RC_S_CAUSE => { base := 0x701018, count := 512, stride := 0x20 }
  | .RC_S_FLOOR_TIME => { base := 0x70101C, count := 512, stride := 0x20 }
  | .RING_CFG => { base := 0x800000, count := 1, stride := 0x0 }
  | .RING_STS => { base := 0x800004, count := 1, stride := 0x0 }
  | .RING_EPOCH => { base := 0x800008, count := 1, stride := 0x0 }
  | .RING_EPOCH_PREV => { base := 0x80000C, count := 1, stride := 0x0 }
  | .RING_EPOCH_TICK => { base := 0x800010, count := 1, stride := 0x0, wide := true }
  | .RING_TICK_LEAD => { base := 0x800018, count := 1, stride := 0x0 }
  | .RING_FL_DELAY => { base := 0x80001C, count := 1, stride := 0x0 }
  | .RING_DOM_DIR => { base := 0x800020, count := 1, stride := 0x0, wide := true }
  | .RING_EVT => { base := 0x800028, count := 1, stride := 0x0, w1c := 0x1FF }
  | .RING_EVT_EN => { base := 0x80002C, count := 1, stride := 0x0, rw := 0x1FF }
  | .RING_STALE_CNT => { base := 0x800030, count := 1, stride := 0x0, anyClears := true }
  | .RING_UNKNOWN_CNT => { base := 0x800034, count := 1, stride := 0x0, anyClears := true }
  | .RING_HALO_LATE_CNT => { base := 0x800038, count := 1, stride := 0x0, anyClears := true }
  | .RING_SEAM_LATE_CNT => { base := 0x80003C, count := 1, stride := 0x0, anyClears := true }
  | .RING_TOKEN_LATE_CNT => { base := 0x800040, count := 1, stride := 0x0, anyClears := true }
  | .RING_FWD_LATE_CNT => { base := 0x800044, count := 1, stride := 0x0, anyClears := true }
  | .RING_DESYNC_CNT => { base := 0x800048, count := 1, stride := 0x0, anyClears := true }
  | .RING_PLAN_MISS_CNT => { base := 0x80004C, count := 1, stride := 0x0, anyClears := true }
  | .RING_RS_STS => { base := 0x801000, count := 64, stride := 0x20 }
  | .RING_RS_SHARE => { base := 0x801004, count := 64, stride := 0x20 }
  | .RING_RS_TOKENS_IN => { base := 0x801008, count := 64, stride := 0x20 }
  | .RING_RS_TOKENS_OUT => { base := 0x80100C, count := 64, stride := 0x20 }
  | .RING_RS_CARRY => { base := 0x801010, count := 64, stride := 0x20 }
  | .RING_RS_POOL => { base := 0x801014, count := 64, stride := 0x20 }
  | .RING_RS_PLAN_TICK => { base := 0x801018, count := 64, stride := 0x20 }
  | .FL_CFG => { base := 0x804000, count := 2, stride := 0x100, rw := 0x7, reset := 0x6 }
  | .FL_STS => { base := 0x804004, count := 2, stride := 0x100 }
  | .FL_CRC_CNT => { base := 0x804008, count := 2, stride := 0x100, anyClears := true }
  | .FL_FEC_CORR_CNT => { base := 0x80400C, count := 2, stride := 0x100, anyClears := true }
  | .FL_FEC_UNC_CNT => { base := 0x804010, count := 2, stride := 0x100, anyClears := true }
  | .FL_RETRAIN_CNT => { base := 0x804014, count := 2, stride := 0x100, anyClears := true }
  | .FL_SKEW => { base := 0x804018, count := 2, stride := 0x100 }
  | .FL_EVT => { base := 0x80401C, count := 2, stride := 0x100, w1c := 0x3F }
  | .FL_EVT_EN => { base := 0x804020, count := 2, stride := 0x100, rw := 0x3F }
  | .LN_GRP_CFG => { base := 0x900000, count := 4, stride := 0x4, rw := 0x3 }
  | .LN_STS => { base := 0x900100, count := 16, stride := 0x40 }
  | .LN_EQ => { base := 0x900104, count := 16, stride := 0x40, rw := 0x7F7DF, reset := 0x40000 }
  | .LN_PRBS_CFG => { base := 0x900108, count := 16, stride := 0x40, rw := 0x1FF }
  | .LN_PRBS_ERR => { base := 0x90010C, count := 16, stride := 0x40, anyClears := true }
  | .LN_PRBS_INJ => { base := 0x900110, count := 16, stride := 0x40, rw := 0xFFFF0001 }
  | .LN_EVT => { base := 0x900114, count := 16, stride := 0x40, w1c := 0x7 }
  | .LN_EVT_EN => { base := 0x900118, count := 16, stride := 0x40, rw := 0x7 }
  | .ETH_CFG => { base := 0x980000, count := 4, stride := 0x400, rw := 0xFFFF000F, reset := 0x5EE0000 }
  | .ETH_STS => { base := 0x980004, count := 4, stride := 0x400 }
  | .ETH_MAC => { base := 0x980008, count := 4, stride := 0x400, wide := true, rw := 0xFFFFFFFFFFFF }
  | .ETH_TX_FRAMES => { base := 0x980010, count := 4, stride := 0x400, anyClears := true }
  | .ETH_RX_FRAMES => { base := 0x980014, count := 4, stride := 0x400, anyClears := true }
  | .ETH_FCS_CNT => { base := 0x980018, count := 4, stride := 0x400, anyClears := true }
  | .ETH_RX_DROP_CNT => { base := 0x98001C, count := 4, stride := 0x400, anyClears := true }
  | .ETH_FEC_CORR_CNT => { base := 0x980020, count := 4, stride := 0x400, anyClears := true }
  | .ETH_FEC_UNC_CNT => { base := 0x980024, count := 4, stride := 0x400, anyClears := true }
  | .ETH_EVT => { base := 0x980028, count := 4, stride := 0x400, w1c := 0x3F }
  | .ETH_EVT_EN => { base := 0x98002C, count := 4, stride := 0x400, rw := 0x3F }
  | .PTP_CFG => { base := 0x980100, count := 4, stride := 0x400, rw := 0x1FF0F, reset := 0x7F00 }
  | .PTP_MODE_DLY => { base := 0x980104, count := 4, stride := 0x400 }
  | .PTP_BRD_DLY => { base := 0x980108, count := 4, stride := 0x400, rw := 0xFFFFFFFF }
  | .PTP_RING_BASE => { base := 0x980110, count := 4, stride := 0x400, wide := true, rw := 0xFFFFFFFFFFFFF000 }
  | .PTP_RX_HEAD => { base := 0x980118, count := 4, stride := 0x400, rw := 0x3F }
  | .PTP_RX_TAIL => { base := 0x98011C, count := 4, stride := 0x400 }
  | .PTP_TX_TAIL => { base := 0x980120, count := 4, stride := 0x400, rw := 0xF }
  | .PTP_TX_HEAD => { base := 0x980124, count := 4, stride := 0x400 }
  | .PTP_RX_DROP_CNT => { base := 0x980128, count := 4, stride := 0x400, anyClears := true }
  | .GT_STS => { base := 0xA00000, count := 6, stride := 0x40 }
  | .GT_COUNT => { base := 0xA00004, count := 6, stride := 0x40 }
  | .GT_CYCLE => { base := 0xA00008, count := 6, stride := 0x40 }
  | .GT_BASE_SEC => { base := 0xA00010, count := 6, stride := 0x40, wide := true }
  | .GT_BASE_NS => { base := 0xA00018, count := 6, stride := 0x40 }
  | .GT_SWITCH_NS => { base := 0xA0001C, count := 6, stride := 0x40 }
  | .GT_SWITCH_SEC => { base := 0xA00020, count := 6, stride := 0x40, wide := true }
  | .GT_HOLD_CNT => { base := 0xA00028, count := 6, stride := 0x40, anyClears := true }
  | .GT_OVERSIZE_CNT => { base := 0xA0002C, count := 6, stride := 0x40, anyClears := true }
  | .GT_OVERRUN_CNT => { base := 0xA00030, count := 6, stride := 0x40, anyClears := true }
  | .GT_EVT => { base := 0xA00034, count := 6, stride := 0x40, w1c := 0xF }
  | .GT_EVT_EN => { base := 0xA00038, count := 6, stride := 0x40, rw := 0xF }
  | .GT_ADMIN => { base := 0xA01000, count := 1536, stride := 0x800, inner := 256, innerStride := 4 }
  | .GT_OPER => { base := 0xA01400, count := 1536, stride := 0x800, inner := 256, innerStride := 4 }
  | .SH_CIR => { base := 0xA20000, count := 2048, stride := 0x20 }
  | .SH_PIR => { base := 0xA20004, count := 2048, stride := 0x20 }
  | .SH_CBS => { base := 0xA20008, count := 2048, stride := 0x20 }
  | .SH_PBS => { base := 0xA2000C, count := 2048, stride := 0x20 }
  | .SH_CFG => { base := 0xA20010, count := 2048, stride := 0x20, reset := 0x14 }
  | .SH_C_CREDIT => { base := 0xA20014, count := 2048, stride := 0x20 }
  | .SH_P_CREDIT => { base := 0xA20018, count := 2048, stride := 0x20 }
  | .SH_DROP_CNT => { base := 0xA2001C, count := 2048, stride := 0x20, anyClears := true }
  | .SH_CTL_RATE => { base := 0xA30000, count := 6, stride := 0x10, rw := 0xFFFFFFFF }
  | .SH_CTL_BURST => { base := 0xA30004, count := 6, stride := 0x10, rw := 0xFFFF, reset := 0x10 }
  | .SH_CTL_CREDIT => { base := 0xA30008, count := 6, stride := 0x10 }
  | .SH_CTL_HOLD_CNT => { base := 0xA3000C, count := 6, stride := 0x10, anyClears := true }
  | .SH_EVT => { base := 0xA30100, count := 6, stride := 0x8, w1c := 0xF }
  | .SH_EVT_EN => { base := 0xA30104, count := 6, stride := 0x8, rw := 0xF }
  | .PL_CIR => { base := 0xA40000, count := 1024, stride := 0x40 }
  | .PL_PIR => { base := 0xA40004, count := 1024, stride := 0x40 }
  | .PL_CBS => { base := 0xA40008, count := 1024, stride := 0x40 }
  | .PL_PBS => { base := 0xA4000C, count := 1024, stride := 0x40 }
  | .PL_CFG => { base := 0xA40010, count := 1024, stride := 0x40 }
  | .PL_C_CREDIT => { base := 0xA40014, count := 1024, stride := 0x40 }
  | .PL_P_CREDIT => { base := 0xA40018, count := 1024, stride := 0x40 }
  | .PL_GREEN_CNT => { base := 0xA40020, count := 1024, stride := 0x40, anyClears := true }
  | .PL_YELLOW_CNT => { base := 0xA40024, count := 1024, stride := 0x40, anyClears := true }
  | .PL_RED_CNT => { base := 0xA40028, count := 1024, stride := 0x40, anyClears := true }
  | .PL_YDROP_CNT => { base := 0xA4002C, count := 1024, stride := 0x40, anyClears := true }
  | .MC_CFG => { base := 0xB00000, count := 1, stride := 0x0 }
  | .MC_STS => { base := 0xB00004, count := 1, stride := 0x0 }
  | .MC_CAP => { base := 0xB00008, count := 1, stride := 0x0, wide := true }
  | .MC_AGE => { base := 0xB00010, count := 1, stride := 0x0, rw := 0xFFFF, reset := 0x2008 }
  | .MC_RETIRE_CFG => { base := 0xB00014, count := 1, stride := 0x0, rw := 0x1FF, reset := 0x110 }
  | .MC_RETIRE_CNT => { base := 0xB00018, count := 1, stride := 0x0 }
  | .MC_SC0_OVER_CNT => { base := 0xB0001C, count := 1, stride := 0x0, anyClears := true }
  | .MC_UE_ADDR => { base := 0xB00020, count := 1, stride := 0x0, wide := true }
  | .MC_EVT => { base := 0xB00028, count := 1, stride := 0x0, w1c := 0x1 }
  | .MC_CH_STS => { base := 0xB01000, count := 16, stride := 0x40 }
  | .MC_CH_CE_CNT => { base := 0xB01004, count := 16, stride := 0x40, anyClears := true }
  | .MC_CH_UE_CNT => { base := 0xB01008, count := 16, stride := 0x40, anyClears := true }
  | .MC_CH_RETRY_CNT => { base := 0xB0100C, count := 16, stride := 0x40, anyClears := true }
  | .MC_CH_TRAIN_CNT => { base := 0xB01010, count := 16, stride := 0x40, anyClears := true }
  | .MC_CH_LAT_MAX => { base := 0xB01014, count := 16, stride := 0x40, anyClears := true }
  | .MC_CH_EVT => { base := 0xB01018, count := 16, stride := 0x40, w1c := 0x3F }
  | .MC_CH_EVT_EN => { base := 0xB0101C, count := 16, stride := 0x40, rw := 0x3F }
  | .MC_RETIRE_TBL => { base := 0xB04000, count := 1024, stride := 0x8, wide := true }
  | .ARB_CTL => { base := 0xB80000, count := 8, stride := 0x100, rw := 0xFFFF0001 }
  | .ARB_STS => { base := 0xB80004, count := 8, stride := 0x100, reset := 0x2 }
  | .ARB_MASK => { base := 0xB80008, count := 8, stride := 0x100, wide := true }
  | .ARB_MASK_FENCE => { base := 0xB80010, count := 8, stride := 0x100, wide := true }
  | .ARB_CUTOFF_CNT => { base := 0xB80018, count := 8, stride := 0x100, anyClears := true }
  | .ARB_EVT => { base := 0xB8001C, count := 8, stride := 0x100, w1c := 0x7 }
  | .ARB_EVT_EN => { base := 0xB80020, count := 8, stride := 0x100, rw := 0x7 }
  | .DMA_SH => { base := 0xC00000, count := 1024, stride := 0x100, inner := 16, innerStride := 4, rw := 0xFFFFFFFF }
  | .DMA_ACT => { base := 0xC00040, count := 1024, stride := 0x100, inner := 16, innerStride := 4 }
  | .DMA_CH_CTL => { base := 0xC00080, count := 64, stride := 0x100, rw := 0x7 }
  | .DMA_STS => { base := 0xC00084, count := 64, stride := 0x100, w1c := 0xF }
  | .DMA_CH_CFG => { base := 0xC00088, count := 64, stride := 0x100, rw := 0x1FF03, reset := 0x2 }
  | .DMA_CH_OWNER => { base := 0xC0008C, count := 64, stride := 0x100, rw := 0x3F }
  | .DMA_DONE_BYTES => { base := 0xC00090, count := 64, stride := 0x100, wide := true }
  | .DMA_ORPHAN_BYTES => { base := 0xC00098, count := 64, stride := 0x100, wide := true }
  | .DMA_ERR_ADDR => { base := 0xC000A0, count := 64, stride := 0x100, wide := true }
  | .DMA_CH_EVT_EN => { base := 0xC000A8, count := 64, stride := 0x100, rw := 0xF }
  | .DMA_GLB_STS => { base := 0xC04000, count := 1, stride := 0x0 }
  | .SPD_BANK_OWN => { base := 0xC80000, count := 64, stride := 0x10, rw := 0x1F }
  | .SPD_BANK_CFG => { base := 0xC80004, count := 64, stride := 0x10, rw := 0xF }
  | .SPD_BANK_STS => { base := 0xC80008, count := 64, stride := 0x10 }
  | .SPD_EVT => { base := 0xC80400, count := 1, stride := 0x0, w1c := 0x1F }
  | .SPD_CE_CNT => { base := 0xC80404, count := 1, stride := 0x0, anyClears := true }
  | .SPD_UE_CNT => { base := 0xC80408, count := 1, stride := 0x0, anyClears := true }
  | .SPD_ERR_ADDR => { base := 0xC8040C, count := 1, stride := 0x0 }
  | .SPD_BUSY_CNT => { base := 0xC80410, count := 1, stride := 0x0, anyClears := true }
  | .SPD_WCT_CFG => { base := 0xC80800, count := 1, stride := 0x0, rw := 0xFFFFFF03, reset := 0x320A00 }
  | .SPD_WCT_STS => { base := 0xC80804, count := 1, stride := 0x0 }
  | .SPD_WCT_FAIL_CNT => { base := 0xC80808, count := 1, stride := 0x0, anyClears := true }
  | .SPD_WCT_LAST => { base := 0xC8080C, count := 1, stride := 0x0 }
  | .CELLQ_STS => { base := 0xD00000, count := 1, stride := 0x0, reset := 0x4000 }
  | .CELLQ_CFG => { base := 0xD00004, count := 1, stride := 0x0, rw := 0x7FFF07FF, reset := 0x4000040 }
  | .CELLQ_CE_CNT => { base := 0xD00008, count := 1, stride := 0x0, anyClears := true }
  | .CELLQ_UE_CNT => { base := 0xD0000C, count := 1, stride := 0x0, anyClears := true }
  | .CELLQ_EVT => { base := 0xD00010, count := 1, stride := 0x0, w1c := 0x3F }
  | .CELLQ_EVT_EN => { base := 0xD00014, count := 1, stride := 0x0, rw := 0x3F }
  | .CELLQ_ERR_CELL => { base := 0xD00018, count := 1, stride := 0x0 }
  | .CELLQ_FLUSH => { base := 0xD0001C, count := 1, stride := 0x0, rw := 0xFFF }
  | .CELLQ_QUAR_CNT => { base := 0xD00020, count := 1, stride := 0x0 }
  | .CELLQ_Q_LIMIT => { base := 0xD01000, count := 2060, stride := 0x10, rw := 0x7FFF, reset := 0x100 }
  | .CELLQ_Q_DEPTH => { base := 0xD01004, count := 2060, stride := 0x10 }
  | .CELLQ_Q_DROP_CNT => { base := 0xD01008, count := 2060, stride := 0x10, anyClears := true }
  | .BP_BASE => { base := 0xD80000, count := 4, stride := 0x40, wide := true, rw := 0xFFFFFFFFFFFFFFFF }
  | .BP_MIRROR => { base := 0xD80008, count := 4, stride := 0x40, wide := true, rw := 0xFFFFFFFFFFFFF000 }
  | .BP_CFG => { base := 0xD80010, count := 4, stride := 0x40, rw := 0x7FFFF }
  | .BP_THRESH_HI => { base := 0xD80014, count := 4, stride := 0x40, rw := 0x1FFFF }
  | .BP_THRESH_LO => { base := 0xD80018, count := 4, stride := 0x40, rw := 0x1FFFF }
  | .BP_STS => { base := 0xD8001C, count := 4, stride := 0x40 }
  | .BP_ALLOC => { base := 0xD80020, count := 4, stride := 0x40, reset := 0x80000000 }
  | .BP_FREE => { base := 0xD80024, count := 4, stride := 0x40, rw := 0x1FFFF }
  | .BP_EMPTY_CNT => { base := 0xD80028, count := 4, stride := 0x40, anyClears := true }
  | .BP_DFREE_CNT => { base := 0xD8002C, count := 4, stride := 0x40, anyClears := true }
  | .BP_SPILL_CNT => { base := 0xD80030, count := 4, stride := 0x40, anyClears := true }
  | .BP_ERR_IDX => { base := 0xD80034, count := 4, stride := 0x40 }
  | .BP_EVT => { base := 0xD80038, count := 4, stride := 0x40, w1c := 0x1F }
  | .BP_EVT_EN => { base := 0xD8003C, count := 4, stride := 0x40, rw := 0x1F }
  | .PM_STATE => { base := 0xE00000, count := 1, stride := 0x0, reset := 0x1 }
  | .PM_SLEEP_REQ => { base := 0xE00004, count := 1, stride := 0x0, rw := 0x13 }
  | .PM_SLEEP_STS => { base := 0xE00008, count := 1, stride := 0x0, w1c := 0x80, reset := 0x70 }
  | .PM_EVT => { base := 0xE0000C, count := 1, stride := 0x0, w1c := 0x131F }
  | .PM_EVT_EN => { base := 0xE00010, count := 1, stride := 0x0, rw := 0x131F }
  | .PM_TEMP => { base := 0xE00014, count := 1, stride := 0x0 }
  | .PM_THERM => { base := 0xE00018, count := 1, stride := 0x0, rw := 0xFFFF, reset := 0x6E64 }
  | .PM_AVS => { base := 0xE0001C, count := 1, stride := 0x0, rw := 0x3FF, reset := 0x2EE }
  | .PM_AVS_STS => { base := 0xE00020, count := 1, stride := 0x0 }
  | .PM_DOM_STS => { base := 0xE00100, count := 24, stride := 0x4 }
  | .AON_VOTE => { base := 0xE04000, count := 24, stride := 0x4 }
  | .AON_WAKE_SRC => { base := 0xE04100, count := 32, stride := 0x4, rw := 0x800000FF }
  | .AON_WAKE_CAUSE => { base := 0xE04180, count := 1, stride := 0x0 }
  | .AON_SLEEP_CNT => { base := 0xE04184, count := 1, stride := 0x0 }
  | .AON_LEAD => { base := 0xE08000, count := 1, stride := 0x0, wide := true }
  | .AON_LEAD_REQ => { base := 0xE08008, count := 1, stride := 0x0, wide := true, rw := 0xFFFFFFFF00000001 }
  | .MON_CFG => { base := 0xE80000, count := 32, stride := 0x400 }
  | .MON_BASE => { base := 0xE80004, count := 32, stride := 0x400 }
  | .MON_LIMIT => { base := 0xE80008, count := 32, stride := 0x400, reset := 0xFFFFFFFF }
  | .MON_LO_LIMIT => { base := 0xE8000C, count := 32, stride := 0x400 }
  | .MON_MIN => { base := 0xE80010, count := 32, stride := 0x400, reset := 0xFFFFFFFF }
  | .MON_MAX => { base := 0xE80014, count := 32, stride := 0x400 }
  | .MON_COUNT => { base := 0xE80018, count := 32, stride := 0x400 }
  | .MON_STS => { base := 0xE8001C, count := 32, stride := 0x400, w1c := 0x3 }
  | .MON_SUM => { base := 0xE80020, count := 32, stride := 0x400, wide := true }
  | .MON_S_MIN => { base := 0xE80028, count := 32, stride := 0x400, reset := 0xFFFFFFFF }
  | .MON_S_MAX => { base := 0xE8002C, count := 32, stride := 0x400 }
  | .MON_S_COUNT => { base := 0xE80030, count := 32, stride := 0x400 }
  | .MON_S_SUM => { base := 0xE80038, count := 32, stride := 0x400, wide := true }
  | .MON_HIST => { base := 0xE80100, count := 2048, stride := 0x400, inner := 64, innerStride := 4 }
  | .MON_S_HIST => { base := 0xE80200, count := 2048, stride := 0x400, inner := 64, innerStride := 4 }
  | .MON_GLB_CTL => { base := 0xE88000, count := 1, stride := 0x0, rw := 0x1FFFF, reset := 0x100 }
  | .MON_GLB_EVT => { base := 0xE88004, count := 1, stride := 0x0, w1c := 0x3 }
  | .MON_GLB_EVT_EN => { base := 0xE88008, count := 1, stride := 0x0, rw := 0x3 }
  | .MON_EVT => { base := 0xE8800C, count := 1, stride := 0x0, w1c := 0xFFFFFFFF }
  | .MON_EVT_EN => { base := 0xE88010, count := 1, stride := 0x0, rw := 0xFFFFFFFF }
  | .MON_SNAP_TICK => { base := 0xE88018, count := 1, stride := 0x0, wide := true }
  | .MON_AGE => { base := 0xE89000, count := 34, stride := 0x4 }
  | .DRP_CFG => { base := 0xEC0000, count := 8, stride := 0x10, rw := 0xFFFFFFFF, reset := 0x5A502819 }
  | .DRP_STS => { base := 0xEC0004, count := 8, stride := 0x10 }
  | .DRP_SLOW_CNT => { base := 0xEC0008, count := 8, stride := 0x10, anyClears := true }
  | .DRP_SLOW_NS => { base := 0xEC000C, count := 8, stride := 0x10, anyClears := true }
  | .DRP_EVT => { base := 0xEC0100, count := 1, stride := 0x0, w1c := 0xFFFFFF }
  | .DRP_EVT_EN => { base := 0xEC0104, count := 1, stride := 0x0, rw := 0xFFFFFF }
  | .SPR_CFG => { base := 0xF00000, count := 1, stride := 0x0, rw := 0xFFFFFF03, reset := 0x75304001 }
  | .SPR_STS => { base := 0xF00004, count := 1, stride := 0x0, reset := 0x2 }
  | .SPR_FAILED => { base := 0xF00008, count := 1, stride := 0x0, wide := true }
  | .SPR_PENDING => { base := 0xF00010, count := 1, stride := 0x0 }
  | .SPR_EVT => { base := 0xF00014, count := 1, stride := 0x0, w1c := 0x3F }
  | .SPR_EVT_EN => { base := 0xF00018, count := 1, stride := 0x0, rw := 0x3F }
  | .SPR_LOG_USED => { base := 0xF0001C, count := 1, stride := 0x0 }
  | .SPR_WC_ROWS => { base := 0xF00100, count := 20, stride := 0x4 }
  | .CPX_BOOT_ADDR => { base := 0x1000000, count := 1, stride := 0x0, wide := true, rw := 0xFFFFFFFFFFFFF001 }
  | .CPX_BOOT_LEN => { base := 0x1000008, count := 1, stride := 0x0, rw := 0xFFFFFFFF }
  | .CPX_BOOT_CTL => { base := 0x100000C, count := 1, stride := 0x0, rw := 0x1 }
  | .CPX_BOOT_STS => { base := 0x1000010, count := 1, stride := 0x0 }
  | .CPX_VERSION => { base := 0x1001000, count := 2, stride := 0x100, wide := true }
  | .CPX_STS => { base := 0x1001008, count := 2, stride := 0x100 }
  | .CPX_CTL => { base := 0x100100C, count := 2, stride := 0x100, rw := 0xFF07, reset := 0x800 }
  | .CPX_BELIEF => { base := 0x1001010, count := 2, stride := 0x100, wide := true }
  | .CPX_HEARTBEAT => { base := 0x1001018, count := 2, stride := 0x100 }
  | .CPX_EVT => { base := 0x100101C, count := 2, stride := 0x100, w1c := 0x3F }
  | .CPX_EVT_EN => { base := 0x1001020, count := 2, stride := 0x100, rw := 0x3F }
  | .CPX_REFUSED_CNT => { base := 0x1001024, count := 2, stride := 0x100, anyClears := true }
  | .USQ_VERSION => { base := 0x1002000, count := 6, stride := 0x100, wide := true }
  | .USQ_STS => { base := 0x1002008, count := 6, stride := 0x100 }
  | .USQ_PC => { base := 0x100200C, count := 6, stride := 0x100 }
  | .USQ_STEP_LOG => { base := 0x1002010, count := 6, stride := 0x100, wide := true, anyClears := true }
  | .USQ_EVT => { base := 0x1002018, count := 6, stride := 0x100, w1c := 0xF }
  | .USQ_EVT_EN => { base := 0x100201C, count := 6, stride := 0x100, rw := 0xF }
  | .USQ_POISON_CNT => { base := 0x1002020, count := 6, stride := 0x100, anyClears := true }
  | .USQ_LAT_MAX => { base := 0x1002024, count := 6, stride := 0x100, anyClears := true }
  | .USQ_CS_ADDR => { base := 0x1002028, count := 6, stride := 0x100, rw := 0x1FFF }
  | .USQ_CS_DATA => { base := 0x1002030, count := 36, stride := 0x100, inner := 6, innerStride := 4 }
  | .SEC_STS => { base := 0x1800000, count := 1, stride := 0x0 }
  | .SEC_SVC_IND => { base := 0x1800004, count := 1, stride := 0x0 }
  | .SEC_SELFTEST => { base := 0x1800008, count := 1, stride := 0x0 }
  | .SEC_MIN_SVN => { base := 0x180000C, count := 1, stride := 0x0 }
  | .SEC_EVT => { base := 0x1800010, count := 1, stride := 0x0, w1c := 0x7FF }
  | .SEC_EVT_EN => { base := 0x1800014, count := 1, stride := 0x0, rw := 0x7FF }
  | .SEC_SRTP_AUTH_CNT => { base := 0x1800018, count := 1, stride := 0x0, anyClears := true }
  | .SEC_SRTP_REPLAY_CNT => { base := 0x180001C, count := 1, stride := 0x0, anyClears := true }
  | .SEC_KEYS_USED => { base := 0x1800020, count := 1, stride := 0x0 }
  | .SEC_SESSIONS => { base := 0x1800024, count := 1, stride := 0x0 }
  | .SEC_MB => { base := 0x1800100, count := 32, stride := 0x4 }
  | .FB_ERR => { base := 0x6C000C, count := 33, stride := 0x0, w1c := 0x3F }
  | .FB_ERR_IDX => { base := 0x6C0010, count := 33, stride := 0x0 }

/-- The registers in the order of the map, in three parts. -/
def regListA : List Reg :=
  [.GLB_ID, .GLB_REV, .GLB_PART, .GLB_FUSE_CFG, .GLB_SERIAL, .GLB_SCRATCH, .GLB_RST_CTL, .GLB_RST_STS,
   .GLB_PERST_CFG, .GLB_STREAM_RST, .GLB_SURV, .GLB_SURV_DISCARD, .GLB_RST_CNT, .TB_CTRL, .TB_STATUS,
   .TB_TIME_SEC, .TB_TIME_NS, .TB_TIME_FRAC, .TB_ADJ_RATE, .TB_ADJ_STEP, .TB_SERVO_OFS, .TB_LOCK_CFG,
   .TB_PPS_CAP_SEC, .TB_PPS_CAP_NS, .TB_PPS_OUT_CFG, .TB_SLEEP_SPAN, .TB_SLEEP_ERR, .TB_EVT, .TK_CTRL, .TK_NUM,
   .TK_DEN, .TK_Q, .TK_R, .TK_ACC, .TK_INDEX, .TK_NEXT_SEC, .TK_NEXT_NS, .TK_MISSED, .TK_OUT_CFG, .TK_OUT_OFS,
   .TK_LATE_CNT, .CMDQ_BASE, .CMDQ_CFG, .CMDQ_OWNER, .CMDQ_TAIL, .CMDQ_HEAD, .CMDQ_STS, .CPLQ_BASE, .CPLQ_CFG,
   .CPLQ_OWNER, .CPLQ_HEAD, .CPLQ_TAIL, .CPLQ_STS, .CMDQ_HELD, .IC_CTL, .IC_STS, .IC_MERGE_CNT, .IC_IGNORED_CNT,
   .IC_PEND, .IC_ACTIVE, .IC_LIVE, .IC_SRC_CFG, .IC_SPURIOUS_CNT, .IC_CLAIM, .IC_COMPLETE, .IC_TGT_STS, .IC_MOD,
   .FC_STATUS, .FC_MASK, .FC_CLEAR, .FC_FIRST, .FC_LAST, .FC_INJECT, .FC_CNT, .ENC_CL_STS, .ENC_CL_SPARE,
   .ENC_EP_STS, .ENC_EP_POS, .ENC_EP_STREAM, .ENC_EP_TICK, .ENC_EP_CYC_LAST, .ENC_EP_CYC_MAX, .ENC_EP_TRIM_CNT,
   .ENC_EP_WIN_CNT, .ENC_EP_POISON_CNT, .ENC_EP_EVT, .ENC_EP_EVT_EN, .DEC_STS, .DEC_SPARE, .DEC_DP_STS,
   .DEC_DP_POS, .DEC_DP_STREAM, .DEC_DP_TICK, .DEC_DP_CYC_LAST, .DEC_DP_CYC_MAX, .DEC_DP_CONC_CNT,
   .DEC_DP_BINLIM_CNT, .DEC_DP_GUARD_CNT, .DEC_DP_EVT, .DEC_DP_EVT_EN, .DEC_DP_GUARD_ADDR, .DEC_S_STS, .DEC_S_ERR,
   .DEC_S_REC_HEAD, .DEC_S_REC_TAIL, .DEC_S_OUT_REL, .DEC_S_CONC_CNT, .DEC_S_SUBST_CNT, .DEC_S_PS_CNT, .SCT_STS,
   .SCT_POS, .SCT_LATE_CNT, .SCT_CUT_CNT, .SCT_EVT, .SCT_EVT_EN, .SLT_STS, .SLT_DELAY_CNT, .SLT_DELAY_MAX,
   .SLT_SWAP_TICK, .SLT_MAP_DEC, .SLT_MAP_ENC, .SLT_BANK, .SLT_ACT, .SLT_NEXT, .FB_DESC_BASE, .FB_DESC_DIM,
   .FB_DESC_FMT, .FB_DESC_OWN, .FB_DESC_MARKS, .FB_DESC_ORDER, .FB_DESC_TICK, .FB_ASSIGN, .FB_ASSIGN_FUNC,
   .FB_READY, .FB_ARENA_BASE, .FB_ARENA_SIZE, .FB_S_RING_BASE, .FB_S_RING_SIZE, .FB_S_RING_WR, .FB_S_RING_RD]
/-- See `regListA`. -/
def regListB : List Reg :=
  [.FB_S_RING_CFG, .FB_S_OVR_CNT, .RC_STS, .RC_SUM, .RC_FLOOR_PIC_CNT, .RC_FLOOR_CU_CNT, .RC_REPEAT_CNT,
   .RC_SLOW_FLOOR_CNT, .RC_S_FILL, .RC_S_TARGET, .RC_S_CAP, .RC_S_QP, .RC_S_ALPHA, .RC_S_FLOORED, .RC_S_CAUSE,
   .RC_S_FLOOR_TIME, .RING_CFG, .RING_STS, .RING_EPOCH, .RING_EPOCH_PREV, .RING_EPOCH_TICK, .RING_TICK_LEAD,
   .RING_FL_DELAY, .RING_DOM_DIR, .RING_EVT, .RING_EVT_EN, .RING_STALE_CNT, .RING_UNKNOWN_CNT,
   .RING_HALO_LATE_CNT, .RING_SEAM_LATE_CNT, .RING_TOKEN_LATE_CNT, .RING_FWD_LATE_CNT, .RING_DESYNC_CNT,
   .RING_PLAN_MISS_CNT, .RING_RS_STS, .RING_RS_SHARE, .RING_RS_TOKENS_IN, .RING_RS_TOKENS_OUT, .RING_RS_CARRY,
   .RING_RS_POOL, .RING_RS_PLAN_TICK, .FL_CFG, .FL_STS, .FL_CRC_CNT, .FL_FEC_CORR_CNT, .FL_FEC_UNC_CNT,
   .FL_RETRAIN_CNT, .FL_SKEW, .FL_EVT, .FL_EVT_EN, .LN_GRP_CFG, .LN_STS, .LN_EQ, .LN_PRBS_CFG, .LN_PRBS_ERR,
   .LN_PRBS_INJ, .LN_EVT, .LN_EVT_EN, .ETH_CFG, .ETH_STS, .ETH_MAC, .ETH_TX_FRAMES, .ETH_RX_FRAMES, .ETH_FCS_CNT,
   .ETH_RX_DROP_CNT, .ETH_FEC_CORR_CNT, .ETH_FEC_UNC_CNT, .ETH_EVT, .ETH_EVT_EN, .PTP_CFG, .PTP_MODE_DLY,
   .PTP_BRD_DLY, .PTP_RING_BASE, .PTP_RX_HEAD, .PTP_RX_TAIL, .PTP_TX_TAIL, .PTP_TX_HEAD, .PTP_RX_DROP_CNT,
   .GT_STS, .GT_COUNT, .GT_CYCLE, .GT_BASE_SEC, .GT_BASE_NS, .GT_SWITCH_NS, .GT_SWITCH_SEC, .GT_HOLD_CNT,
   .GT_OVERSIZE_CNT, .GT_OVERRUN_CNT, .GT_EVT, .GT_EVT_EN, .GT_ADMIN, .GT_OPER, .SH_CIR, .SH_PIR, .SH_CBS,
   .SH_PBS, .SH_CFG, .SH_C_CREDIT, .SH_P_CREDIT, .SH_DROP_CNT, .SH_CTL_RATE, .SH_CTL_BURST, .SH_CTL_CREDIT,
   .SH_CTL_HOLD_CNT, .SH_EVT, .SH_EVT_EN, .PL_CIR, .PL_PIR, .PL_CBS, .PL_PBS, .PL_CFG, .PL_C_CREDIT, .PL_P_CREDIT,
   .PL_GREEN_CNT, .PL_YELLOW_CNT, .PL_RED_CNT, .PL_YDROP_CNT, .MC_CFG, .MC_STS, .MC_CAP, .MC_AGE, .MC_RETIRE_CFG,
   .MC_RETIRE_CNT, .MC_SC0_OVER_CNT, .MC_UE_ADDR, .MC_EVT, .MC_CH_STS, .MC_CH_CE_CNT, .MC_CH_UE_CNT,
   .MC_CH_RETRY_CNT, .MC_CH_TRAIN_CNT, .MC_CH_LAT_MAX, .MC_CH_EVT, .MC_CH_EVT_EN, .MC_RETIRE_TBL, .ARB_CTL,
   .ARB_STS, .ARB_MASK, .ARB_MASK_FENCE, .ARB_CUTOFF_CNT]
/-- See `regListA`. -/
def regListC : List Reg :=
  [.ARB_EVT, .ARB_EVT_EN, .DMA_SH, .DMA_ACT, .DMA_CH_CTL, .DMA_STS, .DMA_CH_CFG, .DMA_CH_OWNER, .DMA_DONE_BYTES,
   .DMA_ORPHAN_BYTES, .DMA_ERR_ADDR, .DMA_CH_EVT_EN, .DMA_GLB_STS, .SPD_BANK_OWN, .SPD_BANK_CFG, .SPD_BANK_STS,
   .SPD_EVT, .SPD_CE_CNT, .SPD_UE_CNT, .SPD_ERR_ADDR, .SPD_BUSY_CNT, .SPD_WCT_CFG, .SPD_WCT_STS,
   .SPD_WCT_FAIL_CNT, .SPD_WCT_LAST, .CELLQ_STS, .CELLQ_CFG, .CELLQ_CE_CNT, .CELLQ_UE_CNT, .CELLQ_EVT,
   .CELLQ_EVT_EN, .CELLQ_ERR_CELL, .CELLQ_FLUSH, .CELLQ_QUAR_CNT, .CELLQ_Q_LIMIT, .CELLQ_Q_DEPTH,
   .CELLQ_Q_DROP_CNT, .BP_BASE, .BP_MIRROR, .BP_CFG, .BP_THRESH_HI, .BP_THRESH_LO, .BP_STS, .BP_ALLOC, .BP_FREE,
   .BP_EMPTY_CNT, .BP_DFREE_CNT, .BP_SPILL_CNT, .BP_ERR_IDX, .BP_EVT, .BP_EVT_EN, .PM_STATE, .PM_SLEEP_REQ,
   .PM_SLEEP_STS, .PM_EVT, .PM_EVT_EN, .PM_TEMP, .PM_THERM, .PM_AVS, .PM_AVS_STS, .PM_DOM_STS, .AON_VOTE,
   .AON_WAKE_SRC, .AON_WAKE_CAUSE, .AON_SLEEP_CNT, .AON_LEAD, .AON_LEAD_REQ, .MON_CFG, .MON_BASE, .MON_LIMIT,
   .MON_LO_LIMIT, .MON_MIN, .MON_MAX, .MON_COUNT, .MON_STS, .MON_SUM, .MON_S_MIN, .MON_S_MAX, .MON_S_COUNT,
   .MON_S_SUM, .MON_HIST, .MON_S_HIST, .MON_GLB_CTL, .MON_GLB_EVT, .MON_GLB_EVT_EN, .MON_EVT, .MON_EVT_EN,
   .MON_SNAP_TICK, .MON_AGE, .DRP_CFG, .DRP_STS, .DRP_SLOW_CNT, .DRP_SLOW_NS, .DRP_EVT, .DRP_EVT_EN, .SPR_CFG,
   .SPR_STS, .SPR_FAILED, .SPR_PENDING, .SPR_EVT, .SPR_EVT_EN, .SPR_LOG_USED, .SPR_WC_ROWS, .CPX_BOOT_ADDR,
   .CPX_BOOT_LEN, .CPX_BOOT_CTL, .CPX_BOOT_STS, .CPX_VERSION, .CPX_STS, .CPX_CTL, .CPX_BELIEF, .CPX_HEARTBEAT,
   .CPX_EVT, .CPX_EVT_EN, .CPX_REFUSED_CNT, .USQ_VERSION, .USQ_STS, .USQ_PC, .USQ_STEP_LOG, .USQ_EVT, .USQ_EVT_EN,
   .USQ_POISON_CNT, .USQ_LAT_MAX, .USQ_CS_ADDR, .USQ_CS_DATA, .SEC_STS, .SEC_SVC_IND, .SEC_SELFTEST, .SEC_MIN_SVN,
   .SEC_EVT, .SEC_EVT_EN, .SEC_SRTP_AUTH_CNT, .SEC_SRTP_REPLAY_CNT, .SEC_KEYS_USED, .SEC_SESSIONS, .SEC_MB,
   .FB_ERR, .FB_ERR_IDX]

/-- Every register. -/
def regList : List Reg := regListA ++ (regListB ++ regListC)

/-- The BAR0 offset of instance `i` of a register. -/
def regOffset (r : Reg) (i : Nat) : Nat :=
  let t := regInfo r
  t.base + (i / t.inner) * t.stride + (i % t.inner) * t.innerStride

/-- The instance of a register whose bytes hold a BAR0 offset, with the byte's place in it. -/
def regMatch (r : Reg) (off : Nat) : Option (Nat × Nat) :=
  let t := regInfo r
  let size := if t.wide then 8 else 4
  if off < t.base then none
  else
    let rel := off - t.base
    let outer := if t.stride = 0 then 0 else rel / t.stride
    let rem := if t.stride = 0 then rel else rel % t.stride
    let inn := if t.innerStride = 0 then 0 else rem / t.innerStride
    let byte := if t.innerStride = 0 then rem else rem % t.innerStride
    let i := outer * t.inner + inn
    if byte < size && inn < t.inner && i < t.count then some (i, byte) else none

/-- The first register of a list that holds the offset. -/
def regFindIn : List Reg → Nat → Option (Reg × Nat × Nat)
  | [], _ => none
  | r :: rest, off =>
    match regMatch r off with
    | some (i, b) => some (r, i, b)
    | none => regFindIn rest off

/-- The register, its instance and the byte within it at a BAR0 offset; none at a reserved offset. -/
def regFind (off : Nat) : Option (Reg × Nat × Nat) := regFindIn regList off

end Sys2Proof.Machine
end

