-- ==== Sys2Proof/Machine/Fields.lean ====
section
/-!
DEFINITION. The fields of the BAR0 registers, each named by its register and the manual's field name, as the field tables of
the chapters give them (R9 to R11, R58, R59, R86, R124, R158, R185, R214, R216, R253, R284, R305, R336, R337, R339,
R363, R411, R413, R425, R431, R454, R475, R502, R519).
-/
namespace Sys2Proof.Machine

/-- A field: `width` bits of a register from bit `lo`. -/
structure Field where
  reg : Reg
  lo : Nat
  width : Nat
  deriving DecidableEq, Repr

/-- `GLB_ID.LINE`. -/
@[simp] def GLB_ID_LINE : Field := ⟨.GLB_ID, 16, 16⟩
/-- `GLB_ID.DIE`. -/
@[simp] def GLB_ID_DIE : Field := ⟨.GLB_ID, 0, 16⟩
/-- `GLB_REV.METAL`. -/
@[simp] def GLB_REV_METAL : Field := ⟨.GLB_REV, 0, 4⟩
/-- `GLB_REV.BASE`. -/
@[simp] def GLB_REV_BASE : Field := ⟨.GLB_REV, 4, 4⟩
/-- `GLB_PART.PART_NUM`. -/
@[simp] def GLB_PART_PART_NUM : Field := ⟨.GLB_PART, 0, 16⟩
/-- `GLB_PART.C_SUFFIX`. -/
@[simp] def GLB_PART_C_SUFFIX : Field := ⟨.GLB_PART, 16, 1⟩
/-- `GLB_FUSE_CFG.CL_EN`. -/
@[simp] def GLB_FUSE_CFG_CL_EN : Field := ⟨.GLB_FUSE_CFG, 0, 4⟩
/-- `GLB_FUSE_CFG.DP_EN`. -/
@[simp] def GLB_FUSE_CFG_DP_EN : Field := ⟨.GLB_FUSE_CFG, 4, 8⟩
/-- `GLB_FUSE_CFG.DPS_EN`. -/
@[simp] def GLB_FUSE_CFG_DPS_EN : Field := ⟨.GLB_FUSE_CFG, 12, 2⟩
/-- `GLB_FUSE_CFG.LANE_EN`. -/
@[simp] def GLB_FUSE_CFG_LANE_EN : Field := ⟨.GLB_FUSE_CFG, 16, 16⟩
/-- `GLB_FUSE_CFG.MEM_64`. -/
@[simp] def GLB_FUSE_CFG_MEM_64 : Field := ⟨.GLB_FUSE_CFG, 32, 1⟩
/-- `GLB_FUSE_CFG.PKG`. -/
@[simp] def GLB_FUSE_CFG_PKG : Field := ⟨.GLB_FUSE_CFG, 33, 2⟩
/-- `GLB_FUSE_CFG.CRYPTO`. -/
@[simp] def GLB_FUSE_CFG_CRYPTO : Field := ⟨.GLB_FUSE_CFG, 35, 1⟩
/-- `GLB_FUSE_CFG.RING`. -/
@[simp] def GLB_FUSE_CFG_RING : Field := ⟨.GLB_FUSE_CFG, 36, 1⟩
/-- `GLB_FUSE_CFG.DOMAIN`. -/
@[simp] def GLB_FUSE_CFG_DOMAIN : Field := ⟨.GLB_FUSE_CFG, 37, 1⟩
/-- `GLB_FUSE_CFG.TEST_MODE`. -/
@[simp] def GLB_FUSE_CFG_TEST_MODE : Field := ⟨.GLB_FUSE_CFG, 39, 1⟩
/-- `GLB_FUSE_CFG.FUSE_ERR`. -/
@[simp] def GLB_FUSE_CFG_FUSE_ERR : Field := ⟨.GLB_FUSE_CFG, 40, 1⟩
/-- `GLB_RST_CTL.WARM`. -/
@[simp] def GLB_RST_CTL_WARM : Field := ⟨.GLB_RST_CTL, 0, 1⟩
/-- `GLB_RST_CTL.COLD`. -/
@[simp] def GLB_RST_CTL_COLD : Field := ⟨.GLB_RST_CTL, 1, 1⟩
/-- `GLB_RST_CTL.HALF`. -/
@[simp] def GLB_RST_CTL_HALF : Field := ⟨.GLB_RST_CTL, 2, 1⟩
/-- `GLB_RST_CTL.HALF_SEL`. -/
@[simp] def GLB_RST_CTL_HALF_SEL : Field := ⟨.GLB_RST_CTL, 3, 1⟩
/-- `GLB_RST_CTL.KEY`. -/
@[simp] def GLB_RST_CTL_KEY : Field := ⟨.GLB_RST_CTL, 16, 16⟩
/-- `GLB_RST_STS.CAUSE`. -/
@[simp] def GLB_RST_STS_CAUSE : Field := ⟨.GLB_RST_STS, 0, 4⟩
/-- `GLB_RST_STS.READY`. -/
@[simp] def GLB_RST_STS_READY : Field := ⟨.GLB_RST_STS, 4, 1⟩
/-- `GLB_RST_STS.HALF_E`. -/
@[simp] def GLB_RST_STS_HALF_E : Field := ⟨.GLB_RST_STS, 5, 1⟩
/-- `GLB_RST_STS.HALF_W`. -/
@[simp] def GLB_RST_STS_HALF_W : Field := ⟨.GLB_RST_STS, 6, 1⟩
/-- `GLB_RST_STS.THERM_SHUT`. -/
@[simp] def GLB_RST_STS_THERM_SHUT : Field := ⟨.GLB_RST_STS, 7, 1⟩
/-- `GLB_RST_STS.REFUSED`. -/
@[simp] def GLB_RST_STS_REFUSED : Field := ⟨.GLB_RST_STS, 8, 1⟩
/-- `GLB_RST_STS.SURV_CRC`. -/
@[simp] def GLB_RST_STS_SURV_CRC : Field := ⟨.GLB_RST_STS, 9, 1⟩
/-- `GLB_PERST_CFG.MODE`. -/
@[simp] def GLB_PERST_CFG_MODE : Field := ⟨.GLB_PERST_CFG, 0, 1⟩
/-- `GLB_STREAM_RST.HANDLE`. -/
@[simp] def GLB_STREAM_RST_HANDLE : Field := ⟨.GLB_STREAM_RST, 0, 9⟩
/-- `GLB_STREAM_RST.GO`. -/
@[simp] def GLB_STREAM_RST_GO : Field := ⟨.GLB_STREAM_RST, 31, 1⟩
/-- `GLB_SURV.SURVIVORS`. -/
@[simp] def GLB_SURV_SURVIVORS : Field := ⟨.GLB_SURV, 0, 10⟩
/-- `GLB_SURV.LOST`. -/
@[simp] def GLB_SURV_LOST : Field := ⟨.GLB_SURV, 16, 10⟩
/-- `GLB_SURV_DISCARD.ALL`. -/
@[simp] def GLB_SURV_DISCARD_ALL : Field := ⟨.GLB_SURV_DISCARD, 0, 1⟩
/-- `GLB_RST_CNT.WARM`. -/
@[simp] def GLB_RST_CNT_WARM : Field := ⟨.GLB_RST_CNT, 0, 8⟩
/-- `GLB_RST_CNT.LINK`. -/
@[simp] def GLB_RST_CNT_LINK : Field := ⟨.GLB_RST_CNT, 8, 8⟩
/-- `GLB_RST_CNT.HALF`. -/
@[simp] def GLB_RST_CNT_HALF : Field := ⟨.GLB_RST_CNT, 16, 8⟩
/-- `TB_CTRL.SRC`. -/
@[simp] def TB_CTRL_SRC : Field := ⟨.TB_CTRL, 0, 2⟩
/-- `TB_CTRL.SERVO_HOST`. -/
@[simp] def TB_CTRL_SERVO_HOST : Field := ⟨.TB_CTRL, 2, 1⟩
/-- `TB_CTRL.PTP_PORT`. -/
@[simp] def TB_CTRL_PTP_PORT : Field := ⟨.TB_CTRL, 3, 2⟩
/-- `TB_STATUS.LOCKED`. -/
@[simp] def TB_STATUS_LOCKED : Field := ⟨.TB_STATUS, 0, 1⟩
/-- `TB_STATUS.HOLDOVER`. -/
@[simp] def TB_STATUS_HOLDOVER : Field := ⟨.TB_STATUS, 1, 1⟩
/-- `TB_STATUS.CLK_ALT`. -/
@[simp] def TB_STATUS_CLK_ALT : Field := ⟨.TB_STATUS, 2, 1⟩
/-- `TB_STATUS.SLEEP_VALID`. -/
@[simp] def TB_STATUS_SLEEP_VALID : Field := ⟨.TB_STATUS, 3, 1⟩
/-- `TB_STATUS.TIME_VALID`. -/
@[simp] def TB_STATUS_TIME_VALID : Field := ⟨.TB_STATUS, 4, 1⟩
/-- `TB_STATUS.BEACON_OK`. -/
@[simp] def TB_STATUS_BEACON_OK : Field := ⟨.TB_STATUS, 5, 1⟩
/-- `TB_STATUS.SLEEP_SAT`. -/
@[simp] def TB_STATUS_SLEEP_SAT : Field := ⟨.TB_STATUS, 6, 1⟩
/-- `TB_TIME_SEC.SEC`. -/
@[simp] def TB_TIME_SEC_SEC : Field := ⟨.TB_TIME_SEC, 0, 48⟩
/-- `TB_LOCK_CFG.THRESH_NS`. -/
@[simp] def TB_LOCK_CFG_THRESH_NS : Field := ⟨.TB_LOCK_CFG, 0, 16⟩
/-- `TB_LOCK_CFG.COUNT`. -/
@[simp] def TB_LOCK_CFG_COUNT : Field := ⟨.TB_LOCK_CFG, 16, 8⟩
/-- `TB_PPS_OUT_CFG.EN`. -/
@[simp] def TB_PPS_OUT_CFG_EN : Field := ⟨.TB_PPS_OUT_CFG, 0, 1⟩
/-- `TB_PPS_OUT_CFG.WIDTH_US`. -/
@[simp] def TB_PPS_OUT_CFG_WIDTH_US : Field := ⟨.TB_PPS_OUT_CFG, 8, 24⟩
/-- `TB_EVT.SRC92`. -/
@[simp] def TB_EVT_SRC92 : Field := ⟨.TB_EVT, 0, 1⟩
/-- `TB_EVT.SRC93`. -/
@[simp] def TB_EVT_SRC93 : Field := ⟨.TB_EVT, 1, 1⟩
/-- `TB_EVT.SRC94`. -/
@[simp] def TB_EVT_SRC94 : Field := ⟨.TB_EVT, 2, 1⟩
/-- `TB_EVT.SRC95`. -/
@[simp] def TB_EVT_SRC95 : Field := ⟨.TB_EVT, 3, 1⟩
/-- `TB_EVT.SRC96`. -/
@[simp] def TB_EVT_SRC96 : Field := ⟨.TB_EVT, 4, 1⟩
/-- `TB_EVT.SRC97`. -/
@[simp] def TB_EVT_SRC97 : Field := ⟨.TB_EVT, 5, 1⟩
/-- `TB_EVT.SRC98`. -/
@[simp] def TB_EVT_SRC98 : Field := ⟨.TB_EVT, 6, 1⟩
/-- `TB_EVT.SRC99`. -/
@[simp] def TB_EVT_SRC99 : Field := ⟨.TB_EVT, 7, 1⟩
/-- `TB_EVT.SRC100`. -/
@[simp] def TB_EVT_SRC100 : Field := ⟨.TB_EVT, 8, 1⟩
/-- `TB_EVT.SRC101`. -/
@[simp] def TB_EVT_SRC101 : Field := ⟨.TB_EVT, 9, 1⟩
/-- `TB_EVT.SRC102`. -/
@[simp] def TB_EVT_SRC102 : Field := ⟨.TB_EVT, 10, 1⟩
/-- `TB_EVT.SRC103`. -/
@[simp] def TB_EVT_SRC103 : Field := ⟨.TB_EVT, 11, 1⟩
/-- `TK_CTRL.EN`. -/
@[simp] def TK_CTRL_EN : Field := ⟨.TK_CTRL, 0, 1⟩
/-- `TK_CTRL.PENDING`. -/
@[simp] def TK_CTRL_PENDING : Field := ⟨.TK_CTRL, 1, 1⟩
/-- `TK_NUM.NUM`. -/
@[simp] def TK_NUM_NUM : Field := ⟨.TK_NUM, 0, 20⟩
/-- `TK_DEN.DEN`. -/
@[simp] def TK_DEN_DEN : Field := ⟨.TK_DEN, 0, 20⟩
/-- `TK_R.R`. -/
@[simp] def TK_R_R : Field := ⟨.TK_R, 0, 20⟩
/-- `TK_ACC.ACC`. -/
@[simp] def TK_ACC_ACC : Field := ⟨.TK_ACC, 0, 20⟩
/-- `TK_OUT_CFG.EN`. -/
@[simp] def TK_OUT_CFG_EN : Field := ⟨.TK_OUT_CFG, 0, 1⟩
/-- `TK_OUT_CFG.POL`. -/
@[simp] def TK_OUT_CFG_POL : Field := ⟨.TK_OUT_CFG, 1, 1⟩
/-- `TK_OUT_CFG.DIV`. -/
@[simp] def TK_OUT_CFG_DIV : Field := ⟨.TK_OUT_CFG, 4, 8⟩
/-- `TK_OUT_CFG.WIDTH_NS`. -/
@[simp] def TK_OUT_CFG_WIDTH_NS : Field := ⟨.TK_OUT_CFG, 12, 20⟩
/-- `CMDQ_BASE.LOC`. -/
@[simp] def CMDQ_BASE_LOC : Field := ⟨.CMDQ_BASE, 0, 1⟩
/-- `CMDQ_BASE.ADDR`. -/
@[simp] def CMDQ_BASE_ADDR : Field := ⟨.CMDQ_BASE, 12, 52⟩
/-- `CMDQ_CFG.LOG2_DEPTH`. -/
@[simp] def CMDQ_CFG_LOG2_DEPTH : Field := ⟨.CMDQ_CFG, 0, 4⟩
/-- `CMDQ_CFG.CPLQ`. -/
@[simp] def CMDQ_CFG_CPLQ : Field := ⟨.CMDQ_CFG, 4, 6⟩
/-- `CMDQ_CFG.WEIGHT`. -/
@[simp] def CMDQ_CFG_WEIGHT : Field := ⟨.CMDQ_CFG, 12, 4⟩
/-- `CMDQ_CFG.EN`. -/
@[simp] def CMDQ_CFG_EN : Field := ⟨.CMDQ_CFG, 31, 1⟩
/-- `CMDQ_OWNER.FUNC`. -/
@[simp] def CMDQ_OWNER_FUNC : Field := ⟨.CMDQ_OWNER, 0, 6⟩
/-- `CMDQ_TAIL.TAIL`. -/
@[simp] def CMDQ_TAIL_TAIL : Field := ⟨.CMDQ_TAIL, 0, 12⟩
/-- `CMDQ_HEAD.HEAD`. -/
@[simp] def CMDQ_HEAD_HEAD : Field := ⟨.CMDQ_HEAD, 0, 12⟩
/-- `CMDQ_STS.ACTIVE`. -/
@[simp] def CMDQ_STS_ACTIVE : Field := ⟨.CMDQ_STS, 0, 1⟩
/-- `CMDQ_STS.DB_ERR`. -/
@[simp] def CMDQ_STS_DB_ERR : Field := ⟨.CMDQ_STS, 1, 1⟩
/-- `CMDQ_STS.FETCH_ERR`. -/
@[simp] def CMDQ_STS_FETCH_ERR : Field := ⟨.CMDQ_STS, 2, 1⟩
/-- `CMDQ_STS.CFG_ERR`. -/
@[simp] def CMDQ_STS_CFG_ERR : Field := ⟨.CMDQ_STS, 3, 1⟩
/-- `CMDQ_STS.STALLED`. -/
@[simp] def CMDQ_STS_STALLED : Field := ⟨.CMDQ_STS, 4, 1⟩
/-- `CMDQ_STS.PENDING`. -/
@[simp] def CMDQ_STS_PENDING : Field := ⟨.CMDQ_STS, 16, 13⟩
/-- `CPLQ_BASE.LOC`. -/
@[simp] def CPLQ_BASE_LOC : Field := ⟨.CPLQ_BASE, 0, 1⟩
/-- `CPLQ_BASE.ADDR`. -/
@[simp] def CPLQ_BASE_ADDR : Field := ⟨.CPLQ_BASE, 12, 52⟩
/-- `CPLQ_CFG.LOG2_DEPTH`. -/
@[simp] def CPLQ_CFG_LOG2_DEPTH : Field := ⟨.CPLQ_CFG, 0, 4⟩
/-- `CPLQ_CFG.EN`. -/
@[simp] def CPLQ_CFG_EN : Field := ⟨.CPLQ_CFG, 31, 1⟩
/-- `CPLQ_OWNER.FUNC`. -/
@[simp] def CPLQ_OWNER_FUNC : Field := ⟨.CPLQ_OWNER, 0, 6⟩
/-- `CPLQ_HEAD.HEAD`. -/
@[simp] def CPLQ_HEAD_HEAD : Field := ⟨.CPLQ_HEAD, 0, 12⟩
/-- `CPLQ_TAIL.TAIL`. -/
@[simp] def CPLQ_TAIL_TAIL : Field := ⟨.CPLQ_TAIL, 0, 12⟩
/-- `CPLQ_TAIL.PHASE`. -/
@[simp] def CPLQ_TAIL_PHASE : Field := ⟨.CPLQ_TAIL, 12, 1⟩
/-- `CPLQ_STS.FULL`. -/
@[simp] def CPLQ_STS_FULL : Field := ⟨.CPLQ_STS, 0, 1⟩
/-- `CPLQ_STS.WRITE_ERR`. -/
@[simp] def CPLQ_STS_WRITE_ERR : Field := ⟨.CPLQ_STS, 1, 1⟩
/-- `CPLQ_STS.HELD`. -/
@[simp] def CPLQ_STS_HELD : Field := ⟨.CPLQ_STS, 2, 7⟩
/-- `CPLQ_STS.CFG_ERR`. -/
@[simp] def CPLQ_STS_CFG_ERR : Field := ⟨.CPLQ_STS, 9, 1⟩
/-- `CPLQ_STS.DB_ERR`. -/
@[simp] def CPLQ_STS_DB_ERR : Field := ⟨.CPLQ_STS, 10, 1⟩
/-- `CMDQ_HELD.COUNT`. -/
@[simp] def CMDQ_HELD_COUNT : Field := ⟨.CMDQ_HELD, 0, 9⟩
/-- `IC_CTL.STRICT`. -/
@[simp] def IC_CTL_STRICT : Field := ⟨.IC_CTL, 0, 1⟩
/-- `IC_STS.STACK_ERR`. -/
@[simp] def IC_STS_STACK_ERR : Field := ⟨.IC_STS, 0, 1⟩
/-- `IC_STS.CFG_ERR`. -/
@[simp] def IC_STS_CFG_ERR : Field := ⟨.IC_STS, 1, 1⟩
/-- `IC_SRC_CFG.PRIO`. -/
@[simp] def IC_SRC_CFG_PRIO : Field := ⟨.IC_SRC_CFG, 0, 4⟩
/-- `IC_SRC_CFG.KIND`. -/
@[simp] def IC_SRC_CFG_KIND : Field := ⟨.IC_SRC_CFG, 4, 2⟩
/-- `IC_SRC_CFG.VECTOR`. -/
@[simp] def IC_SRC_CFG_VECTOR : Field := ⟨.IC_SRC_CFG, 8, 8⟩
/-- `IC_SRC_CFG.FUNC`. -/
@[simp] def IC_SRC_CFG_FUNC : Field := ⟨.IC_SRC_CFG, 16, 6⟩
/-- `IC_SPURIOUS_CNT.COUNT`. -/
@[simp] def IC_SPURIOUS_CNT_COUNT : Field := ⟨.IC_SPURIOUS_CNT, 0, 16⟩
/-- `IC_CLAIM.SOURCE`. -/
@[simp] def IC_CLAIM_SOURCE : Field := ⟨.IC_CLAIM, 0, 8⟩
/-- `IC_CLAIM.SPURIOUS`. -/
@[simp] def IC_CLAIM_SPURIOUS : Field := ⟨.IC_CLAIM, 8, 1⟩
/-- `IC_CLAIM.NONE`. -/
@[simp] def IC_CLAIM_NONE : Field := ⟨.IC_CLAIM, 31, 1⟩
/-- `IC_COMPLETE.SOURCE`. -/
@[simp] def IC_COMPLETE_SOURCE : Field := ⟨.IC_COMPLETE, 0, 8⟩
/-- `IC_TGT_STS.DEPTH`. -/
@[simp] def IC_TGT_STS_DEPTH : Field := ⟨.IC_TGT_STS, 0, 4⟩
/-- `IC_TGT_STS.TOP_PRIO`. -/
@[simp] def IC_TGT_STS_TOP_PRIO : Field := ⟨.IC_TGT_STS, 4, 4⟩
/-- `IC_TGT_STS.SIGNALLED`. -/
@[simp] def IC_TGT_STS_SIGNALLED : Field := ⟨.IC_TGT_STS, 8, 1⟩
/-- `IC_TGT_STS.IDLE`. -/
@[simp] def IC_TGT_STS_IDLE : Field := ⟨.IC_TGT_STS, 9, 1⟩
/-- `IC_TGT_STS.TOP_SOURCE`. -/
@[simp] def IC_TGT_STS_TOP_SOURCE : Field := ⟨.IC_TGT_STS, 16, 8⟩
/-- `IC_MOD.MOD_US`. -/
@[simp] def IC_MOD_MOD_US : Field := ⟨.IC_MOD, 0, 16⟩
/-- `IC_MOD.MOD_COUNT`. -/
@[simp] def IC_MOD_MOD_COUNT : Field := ⟨.IC_MOD, 16, 8⟩
/-- `FC_FIRST.SOURCE`. -/
@[simp] def FC_FIRST_SOURCE : Field := ⟨.FC_FIRST, 0, 6⟩
/-- `FC_FIRST.INJ`. -/
@[simp] def FC_FIRST_INJ : Field := ⟨.FC_FIRST, 6, 1⟩
/-- `FC_FIRST.VALID`. -/
@[simp] def FC_FIRST_VALID : Field := ⟨.FC_FIRST, 7, 1⟩
/-- `FC_FIRST.DETAIL`. -/
@[simp] def FC_FIRST_DETAIL : Field := ⟨.FC_FIRST, 8, 24⟩
/-- `FC_FIRST.TICK`. -/
@[simp] def FC_FIRST_TICK : Field := ⟨.FC_FIRST, 32, 32⟩
/-- `FC_LAST.SOURCE`. -/
@[simp] def FC_LAST_SOURCE : Field := ⟨.FC_LAST, 0, 6⟩
/-- `FC_LAST.INJ`. -/
@[simp] def FC_LAST_INJ : Field := ⟨.FC_LAST, 6, 1⟩
/-- `FC_LAST.VALID`. -/
@[simp] def FC_LAST_VALID : Field := ⟨.FC_LAST, 7, 1⟩
/-- `FC_LAST.DETAIL`. -/
@[simp] def FC_LAST_DETAIL : Field := ⟨.FC_LAST, 8, 24⟩
/-- `FC_LAST.TICK`. -/
@[simp] def FC_LAST_TICK : Field := ⟨.FC_LAST, 32, 32⟩
/-- `FC_INJECT.SOURCE`. -/
@[simp] def FC_INJECT_SOURCE : Field := ⟨.FC_INJECT, 0, 6⟩
/-- `FC_INJECT.GO`. -/
@[simp] def FC_INJECT_GO : Field := ⟨.FC_INJECT, 8, 1⟩
/-- `FC_CNT.COUNT`. -/
@[simp] def FC_CNT_COUNT : Field := ⟨.FC_CNT, 0, 16⟩
/-- `ENC_CL_STS.BUSY`. -/
@[simp] def ENC_CL_STS_BUSY : Field := ⟨.ENC_CL_STS, 0, 4⟩
/-- `ENC_CL_STS.USQ_RUN`. -/
@[simp] def ENC_CL_STS_USQ_RUN : Field := ⟨.ENC_CL_STS, 4, 1⟩
/-- `ENC_CL_STS.SEAM_BUSY`. -/
@[simp] def ENC_CL_STS_SEAM_BUSY : Field := ⟨.ENC_CL_STS, 5, 1⟩
/-- `ENC_CL_SPARE.IN_USE`. -/
@[simp] def ENC_CL_SPARE_IN_USE : Field := ⟨.ENC_CL_SPARE, 0, 1⟩
/-- `ENC_CL_SPARE.FOR`. -/
@[simp] def ENC_CL_SPARE_FOR : Field := ⟨.ENC_CL_SPARE, 1, 2⟩
/-- `ENC_CL_SPARE.AVAIL`. -/
@[simp] def ENC_CL_SPARE_AVAIL : Field := ⟨.ENC_CL_SPARE, 3, 1⟩
/-- `ENC_EP_STS.BUSY`. -/
@[simp] def ENC_EP_STS_BUSY : Field := ⟨.ENC_EP_STS, 0, 1⟩
/-- `ENC_EP_STS.STOPPED`. -/
@[simp] def ENC_EP_STS_STOPPED : Field := ⟨.ENC_EP_STS, 1, 1⟩
/-- `ENC_EP_STS.ON_SPARE`. -/
@[simp] def ENC_EP_STS_ON_SPARE : Field := ⟨.ENC_EP_STS, 2, 1⟩
/-- `ENC_EP_STS.SLOWED`. -/
@[simp] def ENC_EP_STS_SLOWED : Field := ⟨.ENC_EP_STS, 3, 1⟩
/-- `ENC_EP_POS.BAND`. -/
@[simp] def ENC_EP_POS_BAND : Field := ⟨.ENC_EP_POS, 0, 8⟩
/-- `ENC_EP_POS.ROW`. -/
@[simp] def ENC_EP_POS_ROW : Field := ⟨.ENC_EP_POS, 8, 8⟩
/-- `ENC_EP_POS.COL`. -/
@[simp] def ENC_EP_POS_COL : Field := ⟨.ENC_EP_POS, 16, 8⟩
/-- `ENC_EP_STREAM.HANDLE`. -/
@[simp] def ENC_EP_STREAM_HANDLE : Field := ⟨.ENC_EP_STREAM, 0, 9⟩
/-- `ENC_EP_STREAM.VALID`. -/
@[simp] def ENC_EP_STREAM_VALID : Field := ⟨.ENC_EP_STREAM, 31, 1⟩
/-- `ENC_EP_EVT.STOP`. -/
@[simp] def ENC_EP_EVT_STOP : Field := ⟨.ENC_EP_EVT, 0, 1⟩
/-- `ENC_EP_EVT.POISON`. -/
@[simp] def ENC_EP_EVT_POISON : Field := ⟨.ENC_EP_EVT, 1, 1⟩
/-- `ENC_EP_EVT.WIN_LATE`. -/
@[simp] def ENC_EP_EVT_WIN_LATE : Field := ⟨.ENC_EP_EVT, 2, 1⟩
/-- `ENC_EP_EVT.TRIM`. -/
@[simp] def ENC_EP_EVT_TRIM : Field := ⟨.ENC_EP_EVT, 3, 1⟩
/-- `ENC_EP_EVT.FAR_DROP`. -/
@[simp] def ENC_EP_EVT_FAR_DROP : Field := ⟨.ENC_EP_EVT, 4, 1⟩
/-- `ENC_EP_EVT_EN.STOP`. -/
@[simp] def ENC_EP_EVT_EN_STOP : Field := ⟨.ENC_EP_EVT_EN, 0, 1⟩
/-- `ENC_EP_EVT_EN.POISON`. -/
@[simp] def ENC_EP_EVT_EN_POISON : Field := ⟨.ENC_EP_EVT_EN, 1, 1⟩
/-- `ENC_EP_EVT_EN.WIN_LATE`. -/
@[simp] def ENC_EP_EVT_EN_WIN_LATE : Field := ⟨.ENC_EP_EVT_EN, 2, 1⟩
/-- `ENC_EP_EVT_EN.TRIM`. -/
@[simp] def ENC_EP_EVT_EN_TRIM : Field := ⟨.ENC_EP_EVT_EN, 3, 1⟩
/-- `ENC_EP_EVT_EN.FAR_DROP`. -/
@[simp] def ENC_EP_EVT_EN_FAR_DROP : Field := ⟨.ENC_EP_EVT_EN, 4, 1⟩
/-- `DEC_STS.BUSY`. -/
@[simp] def DEC_STS_BUSY : Field := ⟨.DEC_STS, 0, 8⟩
/-- `DEC_STS.USQ4_RUN`. -/
@[simp] def DEC_STS_USQ4_RUN : Field := ⟨.DEC_STS, 8, 1⟩
/-- `DEC_STS.USQ5_RUN`. -/
@[simp] def DEC_STS_USQ5_RUN : Field := ⟨.DEC_STS, 9, 1⟩
/-- `DEC_SPARE.IN_USE0`. -/
@[simp] def DEC_SPARE_IN_USE0 : Field := ⟨.DEC_SPARE, 0, 1⟩
/-- `DEC_SPARE.IN_USE1`. -/
@[simp] def DEC_SPARE_IN_USE1 : Field := ⟨.DEC_SPARE, 4, 1⟩
/-- `DEC_SPARE.FOR0`. -/
@[simp] def DEC_SPARE_FOR0 : Field := ⟨.DEC_SPARE, 1, 2⟩
/-- `DEC_SPARE.FOR1`. -/
@[simp] def DEC_SPARE_FOR1 : Field := ⟨.DEC_SPARE, 5, 2⟩
/-- `DEC_SPARE.AVAIL0`. -/
@[simp] def DEC_SPARE_AVAIL0 : Field := ⟨.DEC_SPARE, 3, 1⟩
/-- `DEC_SPARE.AVAIL1`. -/
@[simp] def DEC_SPARE_AVAIL1 : Field := ⟨.DEC_SPARE, 7, 1⟩
/-- `DEC_DP_STS.BUSY`. -/
@[simp] def DEC_DP_STS_BUSY : Field := ⟨.DEC_DP_STS, 0, 1⟩
/-- `DEC_DP_STS.STOPPED`. -/
@[simp] def DEC_DP_STS_STOPPED : Field := ⟨.DEC_DP_STS, 1, 1⟩
/-- `DEC_DP_STS.ON_SPARE`. -/
@[simp] def DEC_DP_STS_ON_SPARE : Field := ⟨.DEC_DP_STS, 2, 1⟩
/-- `DEC_DP_STS.SLOWED`. -/
@[simp] def DEC_DP_STS_SLOWED : Field := ⟨.DEC_DP_STS, 3, 1⟩
/-- `DEC_DP_POS.BLOCK`. -/
@[simp] def DEC_DP_POS_BLOCK : Field := ⟨.DEC_DP_POS, 0, 18⟩
/-- `DEC_DP_STREAM.HANDLE`. -/
@[simp] def DEC_DP_STREAM_HANDLE : Field := ⟨.DEC_DP_STREAM, 0, 9⟩
/-- `DEC_DP_STREAM.VALID`. -/
@[simp] def DEC_DP_STREAM_VALID : Field := ⟨.DEC_DP_STREAM, 31, 1⟩
/-- `DEC_DP_EVT.STOP`. -/
@[simp] def DEC_DP_EVT_STOP : Field := ⟨.DEC_DP_EVT, 0, 1⟩
/-- `DEC_DP_EVT.CONCEAL`. -/
@[simp] def DEC_DP_EVT_CONCEAL : Field := ⟨.DEC_DP_EVT, 1, 1⟩
/-- `DEC_DP_EVT.BINLIM`. -/
@[simp] def DEC_DP_EVT_BINLIM : Field := ⟨.DEC_DP_EVT, 2, 1⟩
/-- `DEC_DP_EVT.GUARD`. -/
@[simp] def DEC_DP_EVT_GUARD : Field := ⟨.DEC_DP_EVT, 3, 1⟩
/-- `DEC_DP_EVT.TIME`. -/
@[simp] def DEC_DP_EVT_TIME : Field := ⟨.DEC_DP_EVT, 4, 1⟩
/-- `DEC_DP_EVT.OVERREAD`. -/
@[simp] def DEC_DP_EVT_OVERREAD : Field := ⟨.DEC_DP_EVT, 5, 1⟩
/-- `DEC_DP_EVT_EN.STOP`. -/
@[simp] def DEC_DP_EVT_EN_STOP : Field := ⟨.DEC_DP_EVT_EN, 0, 1⟩
/-- `DEC_DP_EVT_EN.CONCEAL`. -/
@[simp] def DEC_DP_EVT_EN_CONCEAL : Field := ⟨.DEC_DP_EVT_EN, 1, 1⟩
/-- `DEC_DP_EVT_EN.BINLIM`. -/
@[simp] def DEC_DP_EVT_EN_BINLIM : Field := ⟨.DEC_DP_EVT_EN, 2, 1⟩
/-- `DEC_DP_EVT_EN.GUARD`. -/
@[simp] def DEC_DP_EVT_EN_GUARD : Field := ⟨.DEC_DP_EVT_EN, 3, 1⟩
/-- `DEC_DP_EVT_EN.TIME`. -/
@[simp] def DEC_DP_EVT_EN_TIME : Field := ⟨.DEC_DP_EVT_EN, 4, 1⟩
/-- `DEC_DP_EVT_EN.OVERREAD`. -/
@[simp] def DEC_DP_EVT_EN_OVERREAD : Field := ⟨.DEC_DP_EVT_EN, 5, 1⟩
/-- `DEC_S_STS.FREE`. -/
@[simp] def DEC_S_STS_FREE : Field := ⟨.DEC_S_STS, 0, 6⟩
/-- `DEC_S_STS.REF`. -/
@[simp] def DEC_S_STS_REF : Field := ⟨.DEC_S_STS, 8, 6⟩
/-- `DEC_S_STS.HELD`. -/
@[simp] def DEC_S_STS_HELD : Field := ⟨.DEC_S_STS, 16, 6⟩
/-- `DEC_S_STS.OUT`. -/
@[simp] def DEC_S_STS_OUT : Field := ⟨.DEC_S_STS, 24, 6⟩
/-- `DEC_S_ERR.REL_ERR`. -/
@[simp] def DEC_S_ERR_REL_ERR : Field := ⟨.DEC_S_ERR, 0, 1⟩
/-- `DEC_S_ERR.PS_DROP`. -/
@[simp] def DEC_S_ERR_PS_DROP : Field := ⟨.DEC_S_ERR, 1, 1⟩
/-- `DEC_S_ERR.NOBUF`. -/
@[simp] def DEC_S_ERR_NOBUF : Field := ⟨.DEC_S_ERR, 2, 1⟩
/-- `DEC_S_ERR.EVICT`. -/
@[simp] def DEC_S_ERR_EVICT : Field := ⟨.DEC_S_ERR, 3, 1⟩
/-- `DEC_S_ERR.REC_FULL`. -/
@[simp] def DEC_S_ERR_REC_FULL : Field := ⟨.DEC_S_ERR, 4, 1⟩
/-- `DEC_S_REC_HEAD.HEAD`. -/
@[simp] def DEC_S_REC_HEAD_HEAD : Field := ⟨.DEC_S_REC_HEAD, 0, 12⟩
/-- `DEC_S_REC_TAIL.TAIL`. -/
@[simp] def DEC_S_REC_TAIL_TAIL : Field := ⟨.DEC_S_REC_TAIL, 0, 12⟩
/-- `DEC_S_REC_TAIL.PHASE`. -/
@[simp] def DEC_S_REC_TAIL_PHASE : Field := ⟨.DEC_S_REC_TAIL, 12, 1⟩
/-- `DEC_S_OUT_REL.INDEX`. -/
@[simp] def DEC_S_OUT_REL_INDEX : Field := ⟨.DEC_S_OUT_REL, 0, 13⟩
/-- `SCT_STS.BUSY`. -/
@[simp] def SCT_STS_BUSY : Field := ⟨.SCT_STS, 0, 1⟩
/-- `SCT_STS.STOPPED`. -/
@[simp] def SCT_STS_STOPPED : Field := ⟨.SCT_STS, 1, 1⟩
/-- `SCT_STS.HANDLE`. -/
@[simp] def SCT_STS_HANDLE : Field := ⟨.SCT_STS, 16, 9⟩
/-- `SCT_STS.VALID`. -/
@[simp] def SCT_STS_VALID : Field := ⟨.SCT_STS, 31, 1⟩
/-- `SCT_POS.BAND`. -/
@[simp] def SCT_POS_BAND : Field := ⟨.SCT_POS, 0, 8⟩
/-- `SCT_EVT.LATE`. -/
@[simp] def SCT_EVT_LATE : Field := ⟨.SCT_EVT, 0, 1⟩
/-- `SCT_EVT.CUT`. -/
@[simp] def SCT_EVT_CUT : Field := ⟨.SCT_EVT, 1, 1⟩
/-- `SCT_EVT.STOP`. -/
@[simp] def SCT_EVT_STOP : Field := ⟨.SCT_EVT, 2, 1⟩
/-- `SCT_EVT_EN.LATE`. -/
@[simp] def SCT_EVT_EN_LATE : Field := ⟨.SCT_EVT_EN, 0, 1⟩
/-- `SCT_EVT_EN.CUT`. -/
@[simp] def SCT_EVT_EN_CUT : Field := ⟨.SCT_EVT_EN, 1, 1⟩
/-- `SCT_EVT_EN.STOP`. -/
@[simp] def SCT_EVT_EN_STOP : Field := ⟨.SCT_EVT_EN, 2, 1⟩
/-- `SLT_STS.PENDING`. -/
@[simp] def SLT_STS_PENDING : Field := ⟨.SLT_STS, 0, 24⟩
/-- `SLT_MAP_DEC.ON_SPARE`. -/
@[simp] def SLT_MAP_DEC_ON_SPARE : Field := ⟨.SLT_MAP_DEC, 0, 8⟩
/-- `SLT_MAP_ENC.PHYS0`. -/
@[simp] def SLT_MAP_ENC_PHYS0 : Field := ⟨.SLT_MAP_ENC, 0, 3⟩
/-- `SLT_MAP_ENC.PHYS1`. -/
@[simp] def SLT_MAP_ENC_PHYS1 : Field := ⟨.SLT_MAP_ENC, 3, 3⟩
/-- `SLT_MAP_ENC.PHYS2`. -/
@[simp] def SLT_MAP_ENC_PHYS2 : Field := ⟨.SLT_MAP_ENC, 6, 3⟩
/-- `SLT_MAP_ENC.PHYS3`. -/
@[simp] def SLT_MAP_ENC_PHYS3 : Field := ⟨.SLT_MAP_ENC, 9, 3⟩
/-- `SLT_BANK.ACT_COUNT`. -/
@[simp] def SLT_BANK_ACT_COUNT : Field := ⟨.SLT_BANK, 0, 7⟩
/-- `SLT_BANK.NEXT_COUNT`. -/
@[simp] def SLT_BANK_NEXT_COUNT : Field := ⟨.SLT_BANK, 8, 7⟩
/-- `SLT_BANK.PENDING`. -/
@[simp] def SLT_BANK_PENDING : Field := ⟨.SLT_BANK, 16, 1⟩
/-- `SLT_BANK.HOLD`. -/
@[simp] def SLT_BANK_HOLD : Field := ⟨.SLT_BANK, 17, 1⟩
/-- `FB_DESC_BASE.BASE`. -/
@[simp] def FB_DESC_BASE_BASE : Field := ⟨.FB_DESC_BASE, 12, 52⟩
/-- `FB_DESC_DIM.WIDTH`. -/
@[simp] def FB_DESC_DIM_WIDTH : Field := ⟨.FB_DESC_DIM, 0, 16⟩
/-- `FB_DESC_DIM.HEIGHT`. -/
@[simp] def FB_DESC_DIM_HEIGHT : Field := ⟨.FB_DESC_DIM, 16, 16⟩
/-- `FB_DESC_FMT.FORMAT`. -/
@[simp] def FB_DESC_FMT_FORMAT : Field := ⟨.FB_DESC_FMT, 0, 8⟩
/-- `FB_DESC_FMT.PITCH`. -/
@[simp] def FB_DESC_FMT_PITCH : Field := ⟨.FB_DESC_FMT, 8, 24⟩
/-- `FB_DESC_OWN.FUNC`. -/
@[simp] def FB_DESC_OWN_FUNC : Field := ⟨.FB_DESC_OWN, 0, 6⟩
/-- `FB_DESC_OWN.POOL`. -/
@[simp] def FB_DESC_OWN_POOL : Field := ⟨.FB_DESC_OWN, 6, 1⟩
/-- `FB_DESC_OWN.STREAM`. -/
@[simp] def FB_DESC_OWN_STREAM : Field := ⟨.FB_DESC_OWN, 16, 9⟩
/-- `FB_DESC_OWN.STREAM_VALID`. -/
@[simp] def FB_DESC_OWN_STREAM_VALID : Field := ⟨.FB_DESC_OWN, 31, 1⟩
/-- `FB_DESC_MARKS.READY`. -/
@[simp] def FB_DESC_MARKS_READY : Field := ⟨.FB_DESC_MARKS, 0, 1⟩
/-- `FB_DESC_MARKS.SRC`. -/
@[simp] def FB_DESC_MARKS_SRC : Field := ⟨.FB_DESC_MARKS, 1, 1⟩
/-- `FB_DESC_MARKS.CUR`. -/
@[simp] def FB_DESC_MARKS_CUR : Field := ⟨.FB_DESC_MARKS, 2, 1⟩
/-- `FB_DESC_MARKS.REF`. -/
@[simp] def FB_DESC_MARKS_REF : Field := ⟨.FB_DESC_MARKS, 3, 1⟩
/-- `FB_DESC_MARKS.LT`. -/
@[simp] def FB_DESC_MARKS_LT : Field := ⟨.FB_DESC_MARKS, 4, 1⟩
/-- `FB_DESC_MARKS.UNUSABLE`. -/
@[simp] def FB_DESC_MARKS_UNUSABLE : Field := ⟨.FB_DESC_MARKS, 5, 1⟩
/-- `FB_DESC_MARKS.HELD`. -/
@[simp] def FB_DESC_MARKS_HELD : Field := ⟨.FB_DESC_MARKS, 6, 1⟩
/-- `FB_DESC_MARKS.OUT_CNT`. -/
@[simp] def FB_DESC_MARKS_OUT_CNT : Field := ⟨.FB_DESC_MARKS, 8, 4⟩
/-- `FB_DESC_ORDER.ORDER`. -/
@[simp] def FB_DESC_ORDER_ORDER : Field := ⟨.FB_DESC_ORDER, 0, 32⟩
/-- `FB_DESC_TICK.TICK`. -/
@[simp] def FB_DESC_TICK_TICK : Field := ⟨.FB_DESC_TICK, 0, 32⟩
/-- `FB_ASSIGN.FIRST`. -/
@[simp] def FB_ASSIGN_FIRST : Field := ⟨.FB_ASSIGN, 0, 13⟩
/-- `FB_ASSIGN.COUNT`. -/
@[simp] def FB_ASSIGN_COUNT : Field := ⟨.FB_ASSIGN, 13, 14⟩
/-- `FB_ASSIGN_FUNC.FUNC`. -/
@[simp] def FB_ASSIGN_FUNC_FUNC : Field := ⟨.FB_ASSIGN_FUNC, 0, 6⟩
/-- `FB_READY.INDEX`. -/
@[simp] def FB_READY_INDEX : Field := ⟨.FB_READY, 0, 13⟩
/-- `FB_READY.CLEAR`. -/
@[simp] def FB_READY_CLEAR : Field := ⟨.FB_READY, 31, 1⟩
/-- `FB_ARENA_BASE.BASE`. -/
@[simp] def FB_ARENA_BASE_BASE : Field := ⟨.FB_ARENA_BASE, 12, 52⟩
/-- `FB_ARENA_SIZE.SIZE`. -/
@[simp] def FB_ARENA_SIZE_SIZE : Field := ⟨.FB_ARENA_SIZE, 12, 52⟩
/-- `FB_S_RING_CFG.HOST_READ`. -/
@[simp] def FB_S_RING_CFG_HOST_READ : Field := ⟨.FB_S_RING_CFG, 0, 1⟩
/-- `FB_S_RING_CFG.OVR`. -/
@[simp] def FB_S_RING_CFG_OVR : Field := ⟨.FB_S_RING_CFG, 1, 1⟩
/-- `FB_S_RING_CFG.PHASE`. -/
@[simp] def FB_S_RING_CFG_PHASE : Field := ⟨.FB_S_RING_CFG, 31, 1⟩
/-- `RC_STS.IN_FLIGHT`. -/
@[simp] def RC_STS_IN_FLIGHT : Field := ⟨.RC_STS, 0, 10⟩
/-- `RC_SUM.FLOORED`. -/
@[simp] def RC_SUM_FLOORED : Field := ⟨.RC_SUM, 0, 10⟩
/-- `RC_SUM.EDGE`. -/
@[simp] def RC_SUM_EDGE : Field := ⟨.RC_SUM, 10, 10⟩
/-- `RC_SUM.REPEAT`. -/
@[simp] def RC_SUM_REPEAT : Field := ⟨.RC_SUM, 20, 10⟩
/-- `RC_S_QP.QP_LAST`. -/
@[simp] def RC_S_QP_QP_LAST : Field := ⟨.RC_S_QP, 0, 8⟩
/-- `RC_S_QP.QP_MIN`. -/
@[simp] def RC_S_QP_QP_MIN : Field := ⟨.RC_S_QP, 8, 8⟩
/-- `RC_S_QP.QP_MAX`. -/
@[simp] def RC_S_QP_QP_MAX : Field := ⟨.RC_S_QP, 16, 8⟩
/-- `RC_S_QP.QP_PIC`. -/
@[simp] def RC_S_QP_QP_PIC : Field := ⟨.RC_S_QP, 24, 8⟩
/-- `RC_S_ALPHA.INTER`. -/
@[simp] def RC_S_ALPHA_INTER : Field := ⟨.RC_S_ALPHA, 0, 16⟩
/-- `RC_S_ALPHA.KEY`. -/
@[simp] def RC_S_ALPHA_KEY : Field := ⟨.RC_S_ALPHA, 16, 16⟩
/-- `RC_S_FLOORED.COUNT`. -/
@[simp] def RC_S_FLOORED_COUNT : Field := ⟨.RC_S_FLOORED, 0, 16⟩
/-- `RC_S_FLOORED.FIRST`. -/
@[simp] def RC_S_FLOORED_FIRST : Field := ⟨.RC_S_FLOORED, 16, 16⟩
/-- `RC_S_CAUSE.BITS`. -/
@[simp] def RC_S_CAUSE_BITS : Field := ⟨.RC_S_CAUSE, 0, 1⟩
/-- `RC_S_CAUSE.CYCLES`. -/
@[simp] def RC_S_CAUSE_CYCLES : Field := ⟨.RC_S_CAUSE, 1, 1⟩
/-- `RC_S_CAUSE.POISON`. -/
@[simp] def RC_S_CAUSE_POISON : Field := ⟨.RC_S_CAUSE, 2, 1⟩
/-- `RC_S_CAUSE.REPEAT`. -/
@[simp] def RC_S_CAUSE_REPEAT : Field := ⟨.RC_S_CAUSE, 3, 1⟩
/-- `RC_S_CAUSE.SLOWED`. -/
@[simp] def RC_S_CAUSE_SLOWED : Field := ⟨.RC_S_CAUSE, 4, 1⟩
/-- `RC_S_CAUSE.EDGE`. -/
@[simp] def RC_S_CAUSE_EDGE : Field := ⟨.RC_S_CAUSE, 5, 1⟩
/-- `RC_S_CAUSE.WAIT_CUT`. -/
@[simp] def RC_S_CAUSE_WAIT_CUT : Field := ⟨.RC_S_CAUSE, 6, 1⟩
/-- `RING_CFG.RING_ID`. -/
@[simp] def RING_CFG_RING_ID : Field := ⟨.RING_CFG, 0, 5⟩
/-- `RING_CFG.POSITION`. -/
@[simp] def RING_CFG_POSITION : Field := ⟨.RING_CFG, 5, 5⟩
/-- `RING_CFG.SIZE`. -/
@[simp] def RING_CFG_SIZE : Field := ⟨.RING_CFG, 10, 6⟩
/-- `RING_CFG.JOINED`. -/
@[simp] def RING_CFG_JOINED : Field := ⟨.RING_CFG, 16, 1⟩
/-- `RING_CFG.DOMAIN`. -/
@[simp] def RING_CFG_DOMAIN : Field := ⟨.RING_CFG, 17, 1⟩
/-- `RING_STS.STATE`. -/
@[simp] def RING_STS_STATE : Field := ⟨.RING_STS, 0, 2⟩
/-- `RING_STS.FL0_NB`. -/
@[simp] def RING_STS_FL0_NB : Field := ⟨.RING_STS, 2, 1⟩
/-- `RING_STS.FL1_NB`. -/
@[simp] def RING_STS_FL1_NB : Field := ⟨.RING_STS, 3, 1⟩
/-- `RING_STS.TICK_LEAD`. -/
@[simp] def RING_STS_TICK_LEAD : Field := ⟨.RING_STS, 4, 1⟩
/-- `RING_STS.PARTITIONED`. -/
@[simp] def RING_STS_PARTITIONED : Field := ⟨.RING_STS, 5, 1⟩
/-- `RING_STS.SWITCH_PENDING`. -/
@[simp] def RING_STS_SWITCH_PENDING : Field := ⟨.RING_STS, 6, 1⟩
/-- `RING_TICK_LEAD.POS`. -/
@[simp] def RING_TICK_LEAD_POS : Field := ⟨.RING_TICK_LEAD, 0, 5⟩
/-- `RING_FL_DELAY.FL0`. -/
@[simp] def RING_FL_DELAY_FL0 : Field := ⟨.RING_FL_DELAY, 0, 16⟩
/-- `RING_FL_DELAY.FL1`. -/
@[simp] def RING_FL_DELAY_FL1 : Field := ⟨.RING_FL_DELAY, 16, 16⟩
/-- `RING_EVT.ROLE`. -/
@[simp] def RING_EVT_ROLE : Field := ⟨.RING_EVT, 0, 1⟩
/-- `RING_EVT.STALE`. -/
@[simp] def RING_EVT_STALE : Field := ⟨.RING_EVT, 1, 1⟩
/-- `RING_EVT.HALO_LATE`. -/
@[simp] def RING_EVT_HALO_LATE : Field := ⟨.RING_EVT, 2, 1⟩
/-- `RING_EVT.SEAM_LATE`. -/
@[simp] def RING_EVT_SEAM_LATE : Field := ⟨.RING_EVT, 3, 1⟩
/-- `RING_EVT.PLAN_MISS`. -/
@[simp] def RING_EVT_PLAN_MISS : Field := ⟨.RING_EVT, 4, 1⟩
/-- `RING_EVT.NB_LOSS`. -/
@[simp] def RING_EVT_NB_LOSS : Field := ⟨.RING_EVT, 5, 1⟩
/-- `RING_EVT.MIG`. -/
@[simp] def RING_EVT_MIG : Field := ⟨.RING_EVT, 6, 1⟩
/-- `RING_EVT.DESYNC`. -/
@[simp] def RING_EVT_DESYNC : Field := ⟨.RING_EVT, 7, 1⟩
/-- `RING_EVT.FWD_LATE`. -/
@[simp] def RING_EVT_FWD_LATE : Field := ⟨.RING_EVT, 8, 1⟩
/-- `RING_EVT_EN.ROLE`. -/
@[simp] def RING_EVT_EN_ROLE : Field := ⟨.RING_EVT_EN, 0, 1⟩
/-- `RING_EVT_EN.STALE`. -/
@[simp] def RING_EVT_EN_STALE : Field := ⟨.RING_EVT_EN, 1, 1⟩
/-- `RING_EVT_EN.HALO_LATE`. -/
@[simp] def RING_EVT_EN_HALO_LATE : Field := ⟨.RING_EVT_EN, 2, 1⟩
/-- `RING_EVT_EN.SEAM_LATE`. -/
@[simp] def RING_EVT_EN_SEAM_LATE : Field := ⟨.RING_EVT_EN, 3, 1⟩
/-- `RING_EVT_EN.PLAN_MISS`. -/
@[simp] def RING_EVT_EN_PLAN_MISS : Field := ⟨.RING_EVT_EN, 4, 1⟩
/-- `RING_EVT_EN.NB_LOSS`. -/
@[simp] def RING_EVT_EN_NB_LOSS : Field := ⟨.RING_EVT_EN, 5, 1⟩
/-- `RING_EVT_EN.MIG`. -/
@[simp] def RING_EVT_EN_MIG : Field := ⟨.RING_EVT_EN, 6, 1⟩
/-- `RING_EVT_EN.DESYNC`. -/
@[simp] def RING_EVT_EN_DESYNC : Field := ⟨.RING_EVT_EN, 7, 1⟩
/-- `RING_EVT_EN.FWD_LATE`. -/
@[simp] def RING_EVT_EN_FWD_LATE : Field := ⟨.RING_EVT_EN, 8, 1⟩
/-- `RING_RS_STS.HANDLE`. -/
@[simp] def RING_RS_STS_HANDLE : Field := ⟨.RING_RS_STS, 0, 9⟩
/-- `RING_RS_STS.PLEAD`. -/
@[simp] def RING_RS_STS_PLEAD : Field := ⟨.RING_RS_STS, 16, 5⟩
/-- `RING_RS_STS.IS_PLEAD`. -/
@[simp] def RING_RS_STS_IS_PLEAD : Field := ⟨.RING_RS_STS, 30, 1⟩
/-- `RING_RS_STS.VALID`. -/
@[simp] def RING_RS_STS_VALID : Field := ⟨.RING_RS_STS, 31, 1⟩
/-- `FL_CFG.LANES`. -/
@[simp] def FL_CFG_LANES : Field := ⟨.FL_CFG, 0, 2⟩
/-- `FL_CFG.MAX25`. -/
@[simp] def FL_CFG_MAX25 : Field := ⟨.FL_CFG, 2, 1⟩
/-- `FL_STS.STATE`. -/
@[simp] def FL_STS_STATE : Field := ⟨.FL_STS, 0, 3⟩
/-- `FL_STS.RATE25`. -/
@[simp] def FL_STS_RATE25 : Field := ⟨.FL_STS, 3, 1⟩
/-- `FL_STS.LANES_UP`. -/
@[simp] def FL_STS_LANES_UP : Field := ⟨.FL_STS, 4, 2⟩
/-- `FL_STS.DEGRADED`. -/
@[simp] def FL_STS_DEGRADED : Field := ⟨.FL_STS, 6, 1⟩
/-- `FL_STS.STEP_FAIL`. -/
@[simp] def FL_STS_STEP_FAIL : Field := ⟨.FL_STS, 7, 1⟩
/-- `FL_STS.DELAY_ERR`. -/
@[simp] def FL_STS_DELAY_ERR : Field := ⟨.FL_STS, 8, 1⟩
/-- `FL_STS.REVERSED`. -/
@[simp] def FL_STS_REVERSED : Field := ⟨.FL_STS, 9, 1⟩
/-- `FL_SKEW.SKEW`. -/
@[simp] def FL_SKEW_SKEW : Field := ⟨.FL_SKEW, 0, 16⟩
/-- `FL_EVT.UP`. -/
@[simp] def FL_EVT_UP : Field := ⟨.FL_EVT, 0, 1⟩
/-- `FL_EVT.DOWN`. -/
@[simp] def FL_EVT_DOWN : Field := ⟨.FL_EVT, 1, 1⟩
/-- `FL_EVT.DEGRADED`. -/
@[simp] def FL_EVT_DEGRADED : Field := ⟨.FL_EVT, 2, 1⟩
/-- `FL_EVT.STEP_FAIL`. -/
@[simp] def FL_EVT_STEP_FAIL : Field := ⟨.FL_EVT, 3, 1⟩
/-- `FL_EVT.CRC`. -/
@[simp] def FL_EVT_CRC : Field := ⟨.FL_EVT, 4, 1⟩
/-- `FL_EVT.FEC_UNC`. -/
@[simp] def FL_EVT_FEC_UNC : Field := ⟨.FL_EVT, 5, 1⟩
/-- `FL_EVT_EN.UP`. -/
@[simp] def FL_EVT_EN_UP : Field := ⟨.FL_EVT_EN, 0, 1⟩
/-- `FL_EVT_EN.DOWN`. -/
@[simp] def FL_EVT_EN_DOWN : Field := ⟨.FL_EVT_EN, 1, 1⟩
/-- `FL_EVT_EN.DEGRADED`. -/
@[simp] def FL_EVT_EN_DEGRADED : Field := ⟨.FL_EVT_EN, 2, 1⟩
/-- `FL_EVT_EN.STEP_FAIL`. -/
@[simp] def FL_EVT_EN_STEP_FAIL : Field := ⟨.FL_EVT_EN, 3, 1⟩
/-- `FL_EVT_EN.CRC`. -/
@[simp] def FL_EVT_EN_CRC : Field := ⟨.FL_EVT_EN, 4, 1⟩
/-- `FL_EVT_EN.FEC_UNC`. -/
@[simp] def FL_EVT_EN_FEC_UNC : Field := ⟨.FL_EVT_EN, 5, 1⟩
/-- `LN_GRP_CFG.USE`. -/
@[simp] def LN_GRP_CFG_USE : Field := ⟨.LN_GRP_CFG, 0, 2⟩
/-- `LN_STS.STATE`. -/
@[simp] def LN_STS_STATE : Field := ⟨.LN_STS, 0, 3⟩
/-- `LN_STS.RATE25`. -/
@[simp] def LN_STS_RATE25 : Field := ⟨.LN_STS, 3, 1⟩
/-- `LN_STS.CTLE_NOW`. -/
@[simp] def LN_STS_CTLE_NOW : Field := ⟨.LN_STS, 8, 4⟩
/-- `LN_EQ.CTLE`. -/
@[simp] def LN_EQ_CTLE : Field := ⟨.LN_EQ, 0, 4⟩
/-- `LN_EQ.CTLE_MAN`. -/
@[simp] def LN_EQ_CTLE_MAN : Field := ⟨.LN_EQ, 4, 1⟩
/-- `LN_EQ.RX_INV`. -/
@[simp] def LN_EQ_RX_INV : Field := ⟨.LN_EQ, 6, 1⟩
/-- `LN_EQ.TX_INV`. -/
@[simp] def LN_EQ_TX_INV : Field := ⟨.LN_EQ, 7, 1⟩
/-- `LN_EQ.TX_PRE`. -/
@[simp] def LN_EQ_TX_PRE : Field := ⟨.LN_EQ, 8, 3⟩
/-- `LN_EQ.TX_POST`. -/
@[simp] def LN_EQ_TX_POST : Field := ⟨.LN_EQ, 12, 4⟩
/-- `LN_EQ.TX_AMP`. -/
@[simp] def LN_EQ_TX_AMP : Field := ⟨.LN_EQ, 16, 3⟩
/-- `LN_PRBS_CFG.TX_PAT`. -/
@[simp] def LN_PRBS_CFG_TX_PAT : Field := ⟨.LN_PRBS_CFG, 0, 3⟩
/-- `LN_PRBS_CFG.TX_EN`. -/
@[simp] def LN_PRBS_CFG_TX_EN : Field := ⟨.LN_PRBS_CFG, 3, 1⟩
/-- `LN_PRBS_CFG.RX_PAT`. -/
@[simp] def LN_PRBS_CFG_RX_PAT : Field := ⟨.LN_PRBS_CFG, 4, 3⟩
/-- `LN_PRBS_CFG.RX_EN`. -/
@[simp] def LN_PRBS_CFG_RX_EN : Field := ⟨.LN_PRBS_CFG, 7, 1⟩
/-- `LN_PRBS_CFG.RATE25`. -/
@[simp] def LN_PRBS_CFG_RATE25 : Field := ⟨.LN_PRBS_CFG, 8, 1⟩
/-- `LN_PRBS_INJ.ONE`. -/
@[simp] def LN_PRBS_INJ_ONE : Field := ⟨.LN_PRBS_INJ, 0, 1⟩
/-- `LN_PRBS_INJ.PERIOD`. -/
@[simp] def LN_PRBS_INJ_PERIOD : Field := ⟨.LN_PRBS_INJ, 16, 16⟩
/-- `LN_EVT.LOCK_LOSS`. -/
@[simp] def LN_EVT_LOCK_LOSS : Field := ⟨.LN_EVT, 0, 1⟩
/-- `LN_EVT.PRBS_LOSS`. -/
@[simp] def LN_EVT_PRBS_LOSS : Field := ⟨.LN_EVT, 1, 1⟩
/-- `LN_EVT.ADAPT_FAIL`. -/
@[simp] def LN_EVT_ADAPT_FAIL : Field := ⟨.LN_EVT, 2, 1⟩
/-- `LN_EVT_EN.LOCK_LOSS`. -/
@[simp] def LN_EVT_EN_LOCK_LOSS : Field := ⟨.LN_EVT_EN, 0, 1⟩
/-- `LN_EVT_EN.PRBS_LOSS`. -/
@[simp] def LN_EVT_EN_PRBS_LOSS : Field := ⟨.LN_EVT_EN, 1, 1⟩
/-- `LN_EVT_EN.ADAPT_FAIL`. -/
@[simp] def LN_EVT_EN_ADAPT_FAIL : Field := ⟨.LN_EVT_EN, 2, 1⟩
/-- `ETH_CFG.MODE`. -/
@[simp] def ETH_CFG_MODE : Field := ⟨.ETH_CFG, 0, 3⟩
/-- `ETH_CFG.EN`. -/
@[simp] def ETH_CFG_EN : Field := ⟨.ETH_CFG, 3, 1⟩
/-- `ETH_CFG.MAX_FRAME`. -/
@[simp] def ETH_CFG_MAX_FRAME : Field := ⟨.ETH_CFG, 16, 16⟩
/-- `ETH_STS.LINK`. -/
@[simp] def ETH_STS_LINK : Field := ⟨.ETH_STS, 0, 1⟩
/-- `ETH_STS.BLOCK_LOCK`. -/
@[simp] def ETH_STS_BLOCK_LOCK : Field := ⟨.ETH_STS, 1, 1⟩
/-- `ETH_STS.ALIGN_LOCK`. -/
@[simp] def ETH_STS_ALIGN_LOCK : Field := ⟨.ETH_STS, 2, 1⟩
/-- `ETH_STS.FEC_LOCK`. -/
@[simp] def ETH_STS_FEC_LOCK : Field := ⟨.ETH_STS, 3, 1⟩
/-- `ETH_STS.LOCAL_FAULT`. -/
@[simp] def ETH_STS_LOCAL_FAULT : Field := ⟨.ETH_STS, 4, 1⟩
/-- `ETH_STS.REMOTE_FAULT`. -/
@[simp] def ETH_STS_REMOTE_FAULT : Field := ⟨.ETH_STS, 5, 1⟩
/-- `ETH_STS.CFG_ERR`. -/
@[simp] def ETH_STS_CFG_ERR : Field := ⟨.ETH_STS, 6, 1⟩
/-- `ETH_MAC.MAC`. -/
@[simp] def ETH_MAC_MAC : Field := ⟨.ETH_MAC, 0, 48⟩
/-- `ETH_EVT.LINK`. -/
@[simp] def ETH_EVT_LINK : Field := ⟨.ETH_EVT, 0, 1⟩
/-- `ETH_EVT.FCS`. -/
@[simp] def ETH_EVT_FCS : Field := ⟨.ETH_EVT, 1, 1⟩
/-- `ETH_EVT.PTP_RX`. -/
@[simp] def ETH_EVT_PTP_RX : Field := ⟨.ETH_EVT, 2, 1⟩
/-- `ETH_EVT.PTP_TX`. -/
@[simp] def ETH_EVT_PTP_TX : Field := ⟨.ETH_EVT, 3, 1⟩
/-- `ETH_EVT.RX_DROP`. -/
@[simp] def ETH_EVT_RX_DROP : Field := ⟨.ETH_EVT, 4, 1⟩
/-- `ETH_EVT.FEC_UNC`. -/
@[simp] def ETH_EVT_FEC_UNC : Field := ⟨.ETH_EVT, 5, 1⟩
/-- `ETH_EVT_EN.LINK`. -/
@[simp] def ETH_EVT_EN_LINK : Field := ⟨.ETH_EVT_EN, 0, 1⟩
/-- `ETH_EVT_EN.FCS`. -/
@[simp] def ETH_EVT_EN_FCS : Field := ⟨.ETH_EVT_EN, 1, 1⟩
/-- `ETH_EVT_EN.PTP_RX`. -/
@[simp] def ETH_EVT_EN_PTP_RX : Field := ⟨.ETH_EVT_EN, 2, 1⟩
/-- `ETH_EVT_EN.PTP_TX`. -/
@[simp] def ETH_EVT_EN_PTP_TX : Field := ⟨.ETH_EVT_EN, 3, 1⟩
/-- `ETH_EVT_EN.RX_DROP`. -/
@[simp] def ETH_EVT_EN_RX_DROP : Field := ⟨.ETH_EVT_EN, 4, 1⟩
/-- `ETH_EVT_EN.FEC_UNC`. -/
@[simp] def ETH_EVT_EN_FEC_UNC : Field := ⟨.ETH_EVT_EN, 5, 1⟩
/-- `PTP_CFG.EN`. -/
@[simp] def PTP_CFG_EN : Field := ⟨.PTP_CFG, 0, 1⟩
/-- `PTP_CFG.ONE_STEP`. -/
@[simp] def PTP_CFG_ONE_STEP : Field := ⟨.PTP_CFG, 1, 1⟩
/-- `PTP_CFG.TRANSPORT`. -/
@[simp] def PTP_CFG_TRANSPORT : Field := ⟨.PTP_CFG, 2, 2⟩
/-- `PTP_CFG.DOMAIN`. -/
@[simp] def PTP_CFG_DOMAIN : Field := ⟨.PTP_CFG, 8, 8⟩
/-- `PTP_CFG.DOMAIN_ANY`. -/
@[simp] def PTP_CFG_DOMAIN_ANY : Field := ⟨.PTP_CFG, 16, 1⟩
/-- `PTP_MODE_DLY.TX`. -/
@[simp] def PTP_MODE_DLY_TX : Field := ⟨.PTP_MODE_DLY, 0, 16⟩
/-- `PTP_MODE_DLY.RX`. -/
@[simp] def PTP_MODE_DLY_RX : Field := ⟨.PTP_MODE_DLY, 16, 16⟩
/-- `PTP_BRD_DLY.TX`. -/
@[simp] def PTP_BRD_DLY_TX : Field := ⟨.PTP_BRD_DLY, 0, 16⟩
/-- `PTP_BRD_DLY.RX`. -/
@[simp] def PTP_BRD_DLY_RX : Field := ⟨.PTP_BRD_DLY, 16, 16⟩
/-- `PTP_RING_BASE.BASE`. -/
@[simp] def PTP_RING_BASE_BASE : Field := ⟨.PTP_RING_BASE, 12, 52⟩
/-- `PTP_RX_HEAD.HEAD`. -/
@[simp] def PTP_RX_HEAD_HEAD : Field := ⟨.PTP_RX_HEAD, 0, 6⟩
/-- `PTP_RX_TAIL.TAIL`. -/
@[simp] def PTP_RX_TAIL_TAIL : Field := ⟨.PTP_RX_TAIL, 0, 6⟩
/-- `PTP_TX_TAIL.TAIL`. -/
@[simp] def PTP_TX_TAIL_TAIL : Field := ⟨.PTP_TX_TAIL, 0, 4⟩
/-- `PTP_TX_HEAD.HEAD`. -/
@[simp] def PTP_TX_HEAD_HEAD : Field := ⟨.PTP_TX_HEAD, 0, 4⟩
/-- `GT_STS.OPER_VALID`. -/
@[simp] def GT_STS_OPER_VALID : Field := ⟨.GT_STS, 0, 1⟩
/-- `GT_STS.TICK_LOCK`. -/
@[simp] def GT_STS_TICK_LOCK : Field := ⟨.GT_STS, 1, 1⟩
/-- `GT_STS.PENDING`. -/
@[simp] def GT_STS_PENDING : Field := ⟨.GT_STS, 2, 1⟩
/-- `GT_STS.CUR_ENTRY`. -/
@[simp] def GT_STS_CUR_ENTRY : Field := ⟨.GT_STS, 8, 8⟩
/-- `GT_STS.GATES`. -/
@[simp] def GT_STS_GATES : Field := ⟨.GT_STS, 16, 8⟩
/-- `GT_COUNT.OPER`. -/
@[simp] def GT_COUNT_OPER : Field := ⟨.GT_COUNT, 0, 9⟩
/-- `GT_COUNT.ADMIN`. -/
@[simp] def GT_COUNT_ADMIN : Field := ⟨.GT_COUNT, 16, 9⟩
/-- `GT_EVT.SWITCH`. -/
@[simp] def GT_EVT_SWITCH : Field := ⟨.GT_EVT, 0, 1⟩
/-- `GT_EVT.BASE_PASSED`. -/
@[simp] def GT_EVT_BASE_PASSED : Field := ⟨.GT_EVT, 1, 1⟩
/-- `GT_EVT.OVERSIZE`. -/
@[simp] def GT_EVT_OVERSIZE : Field := ⟨.GT_EVT, 2, 1⟩
/-- `GT_EVT.OVERRUN`. -/
@[simp] def GT_EVT_OVERRUN : Field := ⟨.GT_EVT, 3, 1⟩
/-- `GT_EVT_EN.SWITCH`. -/
@[simp] def GT_EVT_EN_SWITCH : Field := ⟨.GT_EVT_EN, 0, 1⟩
/-- `GT_EVT_EN.BASE_PASSED`. -/
@[simp] def GT_EVT_EN_BASE_PASSED : Field := ⟨.GT_EVT_EN, 1, 1⟩
/-- `GT_EVT_EN.OVERSIZE`. -/
@[simp] def GT_EVT_EN_OVERSIZE : Field := ⟨.GT_EVT_EN, 2, 1⟩
/-- `GT_EVT_EN.OVERRUN`. -/
@[simp] def GT_EVT_EN_OVERRUN : Field := ⟨.GT_EVT_EN, 3, 1⟩
/-- `SH_CFG.OVERHEAD`. -/
@[simp] def SH_CFG_OVERHEAD : Field := ⟨.SH_CFG, 0, 6⟩
/-- `SH_CFG.TC`. -/
@[simp] def SH_CFG_TC : Field := ⟨.SH_CFG, 8, 3⟩
/-- `SH_CFG.PORT`. -/
@[simp] def SH_CFG_PORT : Field := ⟨.SH_CFG, 12, 2⟩
/-- `SH_CFG.BOUND`. -/
@[simp] def SH_CFG_BOUND : Field := ⟨.SH_CFG, 15, 1⟩
/-- `SH_CTL_BURST.BURST`. -/
@[simp] def SH_CTL_BURST_BURST : Field := ⟨.SH_CTL_BURST, 0, 16⟩
/-- `SH_EVT.OVER`. -/
@[simp] def SH_EVT_OVER : Field := ⟨.SH_EVT, 0, 1⟩
/-- `SH_EVT.CTL_HOLD`. -/
@[simp] def SH_EVT_CTL_HOLD : Field := ⟨.SH_EVT, 1, 1⟩
/-- `SH_EVT.PL_RED`. -/
@[simp] def SH_EVT_PL_RED : Field := ⟨.SH_EVT, 2, 1⟩
/-- `SH_EVT.PL_YDROP`. -/
@[simp] def SH_EVT_PL_YDROP : Field := ⟨.SH_EVT, 3, 1⟩
/-- `SH_EVT_EN.OVER`. -/
@[simp] def SH_EVT_EN_OVER : Field := ⟨.SH_EVT_EN, 0, 1⟩
/-- `SH_EVT_EN.CTL_HOLD`. -/
@[simp] def SH_EVT_EN_CTL_HOLD : Field := ⟨.SH_EVT_EN, 1, 1⟩
/-- `SH_EVT_EN.PL_RED`. -/
@[simp] def SH_EVT_EN_PL_RED : Field := ⟨.SH_EVT_EN, 2, 1⟩
/-- `SH_EVT_EN.PL_YDROP`. -/
@[simp] def SH_EVT_EN_PL_YDROP : Field := ⟨.SH_EVT_EN, 3, 1⟩
/-- `PL_CFG.COLOUR`. -/
@[simp] def PL_CFG_COLOUR : Field := ⟨.PL_CFG, 0, 2⟩
/-- `PL_CFG.DROP_YELLOW`. -/
@[simp] def PL_CFG_DROP_YELLOW : Field := ⟨.PL_CFG, 2, 1⟩
/-- `PL_CFG.EN`. -/
@[simp] def PL_CFG_EN : Field := ⟨.PL_CFG, 3, 1⟩
/-- `PL_CFG.PORT`. -/
@[simp] def PL_CFG_PORT : Field := ⟨.PL_CFG, 4, 2⟩
/-- `PL_CFG.BOUND`. -/
@[simp] def PL_CFG_BOUND : Field := ⟨.PL_CFG, 31, 1⟩
/-- `MC_CFG.CHANNELS`. -/
@[simp] def MC_CFG_CHANNELS : Field := ⟨.MC_CFG, 0, 5⟩
/-- `MC_CFG.CLAMSHELL`. -/
@[simp] def MC_CFG_CLAMSHELL : Field := ⟨.MC_CFG, 5, 1⟩
/-- `MC_CFG.DENSITY`. -/
@[simp] def MC_CFG_DENSITY : Field := ⟨.MC_CFG, 6, 2⟩
/-- `MC_CFG.TRAINED`. -/
@[simp] def MC_CFG_TRAINED : Field := ⟨.MC_CFG, 8, 1⟩
/-- `MC_STS.CFG_ERR`. -/
@[simp] def MC_STS_CFG_ERR : Field := ⟨.MC_STS, 0, 1⟩
/-- `MC_STS.TRAINING`. -/
@[simp] def MC_STS_TRAINING : Field := ⟨.MC_STS, 1, 1⟩
/-- `MC_STS.RETIRE_FULL`. -/
@[simp] def MC_STS_RETIRE_FULL : Field := ⟨.MC_STS, 2, 1⟩
/-- `MC_AGE.SC2_US`. -/
@[simp] def MC_AGE_SC2_US : Field := ⟨.MC_AGE, 0, 8⟩
/-- `MC_AGE.SC3_US`. -/
@[simp] def MC_AGE_SC3_US : Field := ⟨.MC_AGE, 8, 8⟩
/-- `MC_RETIRE_CFG.CE_THRESH`. -/
@[simp] def MC_RETIRE_CFG_CE_THRESH : Field := ⟨.MC_RETIRE_CFG, 0, 8⟩
/-- `MC_RETIRE_CFG.AUTO`. -/
@[simp] def MC_RETIRE_CFG_AUTO : Field := ⟨.MC_RETIRE_CFG, 8, 1⟩
/-- `MC_RETIRE_CNT.COUNT`. -/
@[simp] def MC_RETIRE_CNT_COUNT : Field := ⟨.MC_RETIRE_CNT, 0, 11⟩
/-- `MC_EVT.RETIRE_FULL`. -/
@[simp] def MC_EVT_RETIRE_FULL : Field := ⟨.MC_EVT, 0, 1⟩
/-- `MC_CH_STS.STATE`. -/
@[simp] def MC_CH_STS_STATE : Field := ⟨.MC_CH_STS, 0, 2⟩
/-- `MC_CH_STS.TEMP`. -/
@[simp] def MC_CH_STS_TEMP : Field := ⟨.MC_CH_STS, 8, 8⟩
/-- `MC_CH_STS.REFX2`. -/
@[simp] def MC_CH_STS_REFX2 : Field := ⟨.MC_CH_STS, 16, 1⟩
/-- `MC_CH_EVT.CE`. -/
@[simp] def MC_CH_EVT_CE : Field := ⟨.MC_CH_EVT, 0, 1⟩
/-- `MC_CH_EVT.UE`. -/
@[simp] def MC_CH_EVT_UE : Field := ⟨.MC_CH_EVT, 1, 1⟩
/-- `MC_CH_EVT.RETRY`. -/
@[simp] def MC_CH_EVT_RETRY : Field := ⟨.MC_CH_EVT, 2, 1⟩
/-- `MC_CH_EVT.RETRAIN`. -/
@[simp] def MC_CH_EVT_RETRAIN : Field := ⟨.MC_CH_EVT, 3, 1⟩
/-- `MC_CH_EVT.RETIRE`. -/
@[simp] def MC_CH_EVT_RETIRE : Field := ⟨.MC_CH_EVT, 4, 1⟩
/-- `MC_CH_EVT.FAIL`. -/
@[simp] def MC_CH_EVT_FAIL : Field := ⟨.MC_CH_EVT, 5, 1⟩
/-- `MC_CH_EVT_EN.CE`. -/
@[simp] def MC_CH_EVT_EN_CE : Field := ⟨.MC_CH_EVT_EN, 0, 1⟩
/-- `MC_CH_EVT_EN.UE`. -/
@[simp] def MC_CH_EVT_EN_UE : Field := ⟨.MC_CH_EVT_EN, 1, 1⟩
/-- `MC_CH_EVT_EN.RETRY`. -/
@[simp] def MC_CH_EVT_EN_RETRY : Field := ⟨.MC_CH_EVT_EN, 2, 1⟩
/-- `MC_CH_EVT_EN.RETRAIN`. -/
@[simp] def MC_CH_EVT_EN_RETRAIN : Field := ⟨.MC_CH_EVT_EN, 3, 1⟩
/-- `MC_CH_EVT_EN.RETIRE`. -/
@[simp] def MC_CH_EVT_EN_RETIRE : Field := ⟨.MC_CH_EVT_EN, 4, 1⟩
/-- `MC_CH_EVT_EN.FAIL`. -/
@[simp] def MC_CH_EVT_EN_FAIL : Field := ⟨.MC_CH_EVT_EN, 5, 1⟩
/-- `MC_RETIRE_TBL.PAGE`. -/
@[simp] def MC_RETIRE_TBL_PAGE : Field := ⟨.MC_RETIRE_TBL, 0, 23⟩
/-- `MC_RETIRE_TBL.VALID`. -/
@[simp] def MC_RETIRE_TBL_VALID : Field := ⟨.MC_RETIRE_TBL, 31, 1⟩
/-- `MC_RETIRE_TBL.POISON`. -/
@[simp] def MC_RETIRE_TBL_POISON : Field := ⟨.MC_RETIRE_TBL, 32, 16⟩
/-- `MC_RETIRE_TBL.COPYING`. -/
@[simp] def MC_RETIRE_TBL_COPYING : Field := ⟨.MC_RETIRE_TBL, 63, 1⟩
/-- `ARB_CTL.FREEZE`. -/
@[simp] def ARB_CTL_FREEZE : Field := ⟨.ARB_CTL, 0, 1⟩
/-- `ARB_CTL.HOLD_MAX`. -/
@[simp] def ARB_CTL_HOLD_MAX : Field := ⟨.ARB_CTL, 16, 16⟩
/-- `ARB_STS.FROZEN`. -/
@[simp] def ARB_STS_FROZEN : Field := ⟨.ARB_STS, 0, 1⟩
/-- `ARB_STS.DRAINED`. -/
@[simp] def ARB_STS_DRAINED : Field := ⟨.ARB_STS, 1, 1⟩
/-- `ARB_STS.FW_FREEZE`. -/
@[simp] def ARB_STS_FW_FREEZE : Field := ⟨.ARB_STS, 2, 1⟩
/-- `ARB_STS.LAST_GRANT`. -/
@[simp] def ARB_STS_LAST_GRANT : Field := ⟨.ARB_STS, 8, 6⟩
/-- `ARB_STS.LAST_GROUP`. -/
@[simp] def ARB_STS_LAST_GROUP : Field := ⟨.ARB_STS, 16, 2⟩
/-- `ARB_MASK.MASK`. -/
@[simp] def ARB_MASK_MASK : Field := ⟨.ARB_MASK, 0, 40⟩
/-- `ARB_MASK_FENCE.MASK`. -/
@[simp] def ARB_MASK_FENCE_MASK : Field := ⟨.ARB_MASK_FENCE, 0, 40⟩
/-- `ARB_EVT.CUTOFF`. -/
@[simp] def ARB_EVT_CUTOFF : Field := ⟨.ARB_EVT, 0, 1⟩
/-- `ARB_EVT.DRAINED`. -/
@[simp] def ARB_EVT_DRAINED : Field := ⟨.ARB_EVT, 1, 1⟩
/-- `ARB_EVT.MASK_CHANGE`. -/
@[simp] def ARB_EVT_MASK_CHANGE : Field := ⟨.ARB_EVT, 2, 1⟩
/-- `ARB_EVT_EN.CUTOFF`. -/
@[simp] def ARB_EVT_EN_CUTOFF : Field := ⟨.ARB_EVT_EN, 0, 1⟩
/-- `ARB_EVT_EN.DRAINED`. -/
@[simp] def ARB_EVT_EN_DRAINED : Field := ⟨.ARB_EVT_EN, 1, 1⟩
/-- `ARB_EVT_EN.MASK_CHANGE`. -/
@[simp] def ARB_EVT_EN_MASK_CHANGE : Field := ⟨.ARB_EVT_EN, 2, 1⟩
/-- `DMA_CH_CTL.EN`. -/
@[simp] def DMA_CH_CTL_EN : Field := ⟨.DMA_CH_CTL, 0, 1⟩
/-- `DMA_CH_CTL.ARM`. -/
@[simp] def DMA_CH_CTL_ARM : Field := ⟨.DMA_CH_CTL, 1, 1⟩
/-- `DMA_CH_CTL.DISARM`. -/
@[simp] def DMA_CH_CTL_DISARM : Field := ⟨.DMA_CH_CTL, 2, 1⟩
/-- `DMA_STS.DONE`. -/
@[simp] def DMA_STS_DONE : Field := ⟨.DMA_STS, 0, 1⟩
/-- `DMA_STS.ERR`. -/
@[simp] def DMA_STS_ERR : Field := ⟨.DMA_STS, 1, 1⟩
/-- `DMA_STS.SHADOW_LATE`. -/
@[simp] def DMA_STS_SHADOW_LATE : Field := ⟨.DMA_STS, 2, 1⟩
/-- `DMA_STS.ORPHAN`. -/
@[simp] def DMA_STS_ORPHAN : Field := ⟨.DMA_STS, 3, 1⟩
/-- `DMA_STS.BUSY`. -/
@[simp] def DMA_STS_BUSY : Field := ⟨.DMA_STS, 4, 1⟩
/-- `DMA_STS.LINKED`. -/
@[simp] def DMA_STS_LINKED : Field := ⟨.DMA_STS, 5, 1⟩
/-- `DMA_STS.ERR_CODE`. -/
@[simp] def DMA_STS_ERR_CODE : Field := ⟨.DMA_STS, 8, 8⟩
/-- `DMA_CH_CFG.SC`. -/
@[simp] def DMA_CH_CFG_SC : Field := ⟨.DMA_CH_CFG, 0, 2⟩
/-- `DMA_CH_CFG.SHARE`. -/
@[simp] def DMA_CH_CFG_SHARE : Field := ⟨.DMA_CH_CFG, 8, 9⟩
/-- `DMA_CH_OWNER.FUNC`. -/
@[simp] def DMA_CH_OWNER_FUNC : Field := ⟨.DMA_CH_OWNER, 0, 6⟩
/-- `DMA_CH_EVT_EN.EN`. -/
@[simp] def DMA_CH_EVT_EN_EN : Field := ⟨.DMA_CH_EVT_EN, 0, 4⟩
/-- `DMA_GLB_STS.BUSY`. -/
@[simp] def DMA_GLB_STS_BUSY : Field := ⟨.DMA_GLB_STS, 0, 7⟩
/-- `SPD_BANK_OWN.OWNER`. -/
@[simp] def SPD_BANK_OWN_OWNER : Field := ⟨.SPD_BANK_OWN, 0, 4⟩
/-- `SPD_BANK_OWN.CLEAR`. -/
@[simp] def SPD_BANK_OWN_CLEAR : Field := ⟨.SPD_BANK_OWN, 4, 1⟩
/-- `SPD_BANK_OWN.PENDING`. -/
@[simp] def SPD_BANK_OWN_PENDING : Field := ⟨.SPD_BANK_OWN, 8, 1⟩
/-- `SPD_BANK_OWN.CLEARING`. -/
@[simp] def SPD_BANK_OWN_CLEARING : Field := ⟨.SPD_BANK_OWN, 9, 1⟩
/-- `SPD_BANK_OWN.TARGET`. -/
@[simp] def SPD_BANK_OWN_TARGET : Field := ⟨.SPD_BANK_OWN, 12, 4⟩
/-- `SPD_BANK_CFG.STATE`. -/
@[simp] def SPD_BANK_CFG_STATE : Field := ⟨.SPD_BANK_CFG, 0, 2⟩
/-- `SPD_BANK_CFG.KEEP`. -/
@[simp] def SPD_BANK_CFG_KEEP : Field := ⟨.SPD_BANK_CFG, 2, 1⟩
/-- `SPD_BANK_CFG.ROTATE`. -/
@[simp] def SPD_BANK_CFG_ROTATE : Field := ⟨.SPD_BANK_CFG, 3, 1⟩
/-- `SPD_BANK_STS.STATE_NOW`. -/
@[simp] def SPD_BANK_STS_STATE_NOW : Field := ⟨.SPD_BANK_STS, 0, 2⟩
/-- `SPD_BANK_STS.TRANSIT`. -/
@[simp] def SPD_BANK_STS_TRANSIT : Field := ⟨.SPD_BANK_STS, 2, 1⟩
/-- `SPD_BANK_STS.PHYS`. -/
@[simp] def SPD_BANK_STS_PHYS : Field := ⟨.SPD_BANK_STS, 8, 7⟩
/-- `SPD_EVT.NOT_OWNER`. -/
@[simp] def SPD_EVT_NOT_OWNER : Field := ⟨.SPD_EVT, 0, 1⟩
/-- `SPD_EVT.BAD_OWNER`. -/
@[simp] def SPD_EVT_BAD_OWNER : Field := ⟨.SPD_EVT, 1, 1⟩
/-- `SPD_EVT.WCOLL`. -/
@[simp] def SPD_EVT_WCOLL : Field := ⟨.SPD_EVT, 2, 1⟩
/-- `SPD_EVT.ASLEEP`. -/
@[simp] def SPD_EVT_ASLEEP : Field := ⟨.SPD_EVT, 3, 1⟩
/-- `SPD_EVT.UE`. -/
@[simp] def SPD_EVT_UE : Field := ⟨.SPD_EVT, 4, 1⟩
/-- `SPD_ERR_ADDR.BANK`. -/
@[simp] def SPD_ERR_ADDR_BANK : Field := ⟨.SPD_ERR_ADDR, 0, 6⟩
/-- `SPD_ERR_ADDR.OFFSET`. -/
@[simp] def SPD_ERR_ADDR_OFFSET : Field := ⟨.SPD_ERR_ADDR, 8, 18⟩
/-- `SPD_WCT_CFG.EN`. -/
@[simp] def SPD_WCT_CFG_EN : Field := ⟨.SPD_WCT_CFG, 0, 1⟩
/-- `SPD_WCT_CFG.EVICT`. -/
@[simp] def SPD_WCT_CFG_EVICT : Field := ⟨.SPD_WCT_CFG, 1, 1⟩
/-- `SPD_WCT_CFG.PERIOD_MS`. -/
@[simp] def SPD_WCT_CFG_PERIOD_MS : Field := ⟨.SPD_WCT_CFG, 8, 8⟩
/-- `SPD_WCT_CFG.GAP_US`. -/
@[simp] def SPD_WCT_CFG_GAP_US : Field := ⟨.SPD_WCT_CFG, 16, 16⟩
/-- `SPD_WCT_STS.PIPE`. -/
@[simp] def SPD_WCT_STS_PIPE : Field := ⟨.SPD_WCT_STS, 0, 5⟩
/-- `SPD_WCT_STS.REGION`. -/
@[simp] def SPD_WCT_STS_REGION : Field := ⟨.SPD_WCT_STS, 5, 7⟩
/-- `SPD_WCT_STS.BUSY`. -/
@[simp] def SPD_WCT_STS_BUSY : Field := ⟨.SPD_WCT_STS, 12, 1⟩
/-- `SPD_WCT_STS.ABORT_CNT`. -/
@[simp] def SPD_WCT_STS_ABORT_CNT : Field := ⟨.SPD_WCT_STS, 16, 16⟩
/-- `SPD_WCT_LAST.PIPE`. -/
@[simp] def SPD_WCT_LAST_PIPE : Field := ⟨.SPD_WCT_LAST, 0, 5⟩
/-- `SPD_WCT_LAST.REGION`. -/
@[simp] def SPD_WCT_LAST_REGION : Field := ⟨.SPD_WCT_LAST, 5, 7⟩
/-- `SPD_WCT_LAST.ROW`. -/
@[simp] def SPD_WCT_LAST_ROW : Field := ⟨.SPD_WCT_LAST, 12, 8⟩
/-- `CELLQ_STS.FREE`. -/
@[simp] def CELLQ_STS_FREE : Field := ⟨.CELLQ_STS, 0, 15⟩
/-- `CELLQ_CFG.TC7_RSV`. -/
@[simp] def CELLQ_CFG_TC7_RSV : Field := ⟨.CELLQ_CFG, 0, 11⟩
/-- `CELLQ_CFG.LOW_THRESH`. -/
@[simp] def CELLQ_CFG_LOW_THRESH : Field := ⟨.CELLQ_CFG, 16, 15⟩
/-- `CELLQ_EVT.CE`. -/
@[simp] def CELLQ_EVT_CE : Field := ⟨.CELLQ_EVT, 0, 1⟩
/-- `CELLQ_EVT.UE`. -/
@[simp] def CELLQ_EVT_UE : Field := ⟨.CELLQ_EVT, 1, 1⟩
/-- `CELLQ_EVT.DROP`. -/
@[simp] def CELLQ_EVT_DROP : Field := ⟨.CELLQ_EVT, 2, 1⟩
/-- `CELLQ_EVT.LOW`. -/
@[simp] def CELLQ_EVT_LOW : Field := ⟨.CELLQ_EVT, 3, 1⟩
/-- `CELLQ_EVT.FLUSHED`. -/
@[simp] def CELLQ_EVT_FLUSHED : Field := ⟨.CELLQ_EVT, 4, 1⟩
/-- `CELLQ_EVT.SWEEP`. -/
@[simp] def CELLQ_EVT_SWEEP : Field := ⟨.CELLQ_EVT, 5, 1⟩
/-- `CELLQ_EVT_EN.CE`. -/
@[simp] def CELLQ_EVT_EN_CE : Field := ⟨.CELLQ_EVT_EN, 0, 1⟩
/-- `CELLQ_EVT_EN.UE`. -/
@[simp] def CELLQ_EVT_EN_UE : Field := ⟨.CELLQ_EVT_EN, 1, 1⟩
/-- `CELLQ_EVT_EN.DROP`. -/
@[simp] def CELLQ_EVT_EN_DROP : Field := ⟨.CELLQ_EVT_EN, 2, 1⟩
/-- `CELLQ_EVT_EN.LOW`. -/
@[simp] def CELLQ_EVT_EN_LOW : Field := ⟨.CELLQ_EVT_EN, 3, 1⟩
/-- `CELLQ_EVT_EN.FLUSHED`. -/
@[simp] def CELLQ_EVT_EN_FLUSHED : Field := ⟨.CELLQ_EVT_EN, 4, 1⟩
/-- `CELLQ_EVT_EN.SWEEP`. -/
@[simp] def CELLQ_EVT_EN_SWEEP : Field := ⟨.CELLQ_EVT_EN, 5, 1⟩
/-- `CELLQ_ERR_CELL.CELL`. -/
@[simp] def CELLQ_ERR_CELL_CELL : Field := ⟨.CELLQ_ERR_CELL, 0, 14⟩
/-- `CELLQ_FLUSH.QUEUE`. -/
@[simp] def CELLQ_FLUSH_QUEUE : Field := ⟨.CELLQ_FLUSH, 0, 12⟩
/-- `CELLQ_Q_LIMIT.LIMIT`. -/
@[simp] def CELLQ_Q_LIMIT_LIMIT : Field := ⟨.CELLQ_Q_LIMIT, 0, 15⟩
/-- `CELLQ_Q_DEPTH.CELLS`. -/
@[simp] def CELLQ_Q_DEPTH_CELLS : Field := ⟨.CELLQ_Q_DEPTH, 0, 15⟩
/-- `CELLQ_Q_DEPTH.FRAMES`. -/
@[simp] def CELLQ_Q_DEPTH_FRAMES : Field := ⟨.CELLQ_Q_DEPTH, 16, 16⟩
/-- `BP_MIRROR.ADDR`. -/
@[simp] def BP_MIRROR_ADDR : Field := ⟨.BP_MIRROR, 12, 52⟩
/-- `BP_CFG.COUNT`. -/
@[simp] def BP_CFG_COUNT : Field := ⟨.BP_CFG, 0, 17⟩
/-- `BP_CFG.SPILL`. -/
@[simp] def BP_CFG_SPILL : Field := ⟨.BP_CFG, 17, 1⟩
/-- `BP_CFG.EN`. -/
@[simp] def BP_CFG_EN : Field := ⟨.BP_CFG, 18, 1⟩
/-- `BP_THRESH_HI.HI`. -/
@[simp] def BP_THRESH_HI_HI : Field := ⟨.BP_THRESH_HI, 0, 17⟩
/-- `BP_THRESH_LO.LO`. -/
@[simp] def BP_THRESH_LO_LO : Field := ⟨.BP_THRESH_LO, 0, 17⟩
/-- `BP_STS.IN_USE`. -/
@[simp] def BP_STS_IN_USE : Field := ⟨.BP_STS, 0, 17⟩
/-- `BP_STS.OVER`. -/
@[simp] def BP_STS_OVER : Field := ⟨.BP_STS, 17, 1⟩
/-- `BP_STS.EMPTY`. -/
@[simp] def BP_STS_EMPTY : Field := ⟨.BP_STS, 18, 1⟩
/-- `BP_FREE.INDEX`. -/
@[simp] def BP_FREE_INDEX : Field := ⟨.BP_FREE, 0, 17⟩
/-- `BP_ERR_IDX.INDEX`. -/
@[simp] def BP_ERR_IDX_INDEX : Field := ⟨.BP_ERR_IDX, 0, 17⟩
/-- `BP_EVT.EMPTY`. -/
@[simp] def BP_EVT_EMPTY : Field := ⟨.BP_EVT, 0, 1⟩
/-- `BP_EVT.OVER`. -/
@[simp] def BP_EVT_OVER : Field := ⟨.BP_EVT, 1, 1⟩
/-- `BP_EVT.DOUBLE_FREE`. -/
@[simp] def BP_EVT_DOUBLE_FREE : Field := ⟨.BP_EVT, 2, 1⟩
/-- `BP_EVT.BAD_FREE`. -/
@[simp] def BP_EVT_BAD_FREE : Field := ⟨.BP_EVT, 3, 1⟩
/-- `BP_EVT.CFG_ERR`. -/
@[simp] def BP_EVT_CFG_ERR : Field := ⟨.BP_EVT, 4, 1⟩
/-- `BP_EVT_EN.EMPTY`. -/
@[simp] def BP_EVT_EN_EMPTY : Field := ⟨.BP_EVT_EN, 0, 1⟩
/-- `BP_EVT_EN.OVER`. -/
@[simp] def BP_EVT_EN_OVER : Field := ⟨.BP_EVT_EN, 1, 1⟩
/-- `BP_EVT_EN.DOUBLE_FREE`. -/
@[simp] def BP_EVT_EN_DOUBLE_FREE : Field := ⟨.BP_EVT_EN, 2, 1⟩
/-- `BP_EVT_EN.BAD_FREE`. -/
@[simp] def BP_EVT_EN_BAD_FREE : Field := ⟨.BP_EVT_EN, 3, 1⟩
/-- `BP_EVT_EN.CFG_ERR`. -/
@[simp] def BP_EVT_EN_CFG_ERR : Field := ⟨.BP_EVT_EN, 4, 1⟩
/-- `PM_STATE.STATE`. -/
@[simp] def PM_STATE_STATE : Field := ⟨.PM_STATE, 0, 2⟩
/-- `PM_STATE.ENTERING`. -/
@[simp] def PM_STATE_ENTERING : Field := ⟨.PM_STATE, 2, 1⟩
/-- `PM_STATE.WAKING`. -/
@[simp] def PM_STATE_WAKING : Field := ⟨.PM_STATE, 3, 1⟩
/-- `PM_SLEEP_REQ.TARGET`. -/
@[simp] def PM_SLEEP_REQ_TARGET : Field := ⟨.PM_SLEEP_REQ, 0, 2⟩
/-- `PM_SLEEP_REQ.WAKE_N_EN`. -/
@[simp] def PM_SLEEP_REQ_WAKE_N_EN : Field := ⟨.PM_SLEEP_REQ, 4, 1⟩
/-- `PM_SLEEP_STS.PHASE`. -/
@[simp] def PM_SLEEP_STS_PHASE : Field := ⟨.PM_SLEEP_STS, 0, 3⟩
/-- `PM_SLEEP_STS.ABORT_AP`. -/
@[simp] def PM_SLEEP_STS_ABORT_AP : Field := ⟨.PM_SLEEP_STS, 4, 3⟩
/-- `PM_SLEEP_STS.ABORTED`. -/
@[simp] def PM_SLEEP_STS_ABORTED : Field := ⟨.PM_SLEEP_STS, 7, 1⟩
/-- `PM_SLEEP_STS.ERR`. -/
@[simp] def PM_SLEEP_STS_ERR : Field := ⟨.PM_SLEEP_STS, 8, 8⟩
/-- `PM_EVT.DOM_ON`. -/
@[simp] def PM_EVT_DOM_ON : Field := ⟨.PM_EVT, 0, 1⟩
/-- `PM_EVT.DOM_OFF`. -/
@[simp] def PM_EVT_DOM_OFF : Field := ⟨.PM_EVT, 1, 1⟩
/-- `PM_EVT.SLEEP_DONE`. -/
@[simp] def PM_EVT_SLEEP_DONE : Field := ⟨.PM_EVT, 2, 1⟩
/-- `PM_EVT.SLEEP_ABORT`. -/
@[simp] def PM_EVT_SLEEP_ABORT : Field := ⟨.PM_EVT, 3, 1⟩
/-- `PM_EVT.WAKE`. -/
@[simp] def PM_EVT_WAKE : Field := ⟨.PM_EVT, 4, 1⟩
/-- `PM_EVT.THERM_WARN`. -/
@[simp] def PM_EVT_THERM_WARN : Field := ⟨.PM_EVT, 8, 1⟩
/-- `PM_EVT.THERM_TRIP`. -/
@[simp] def PM_EVT_THERM_TRIP : Field := ⟨.PM_EVT, 9, 1⟩
/-- `PM_EVT.AVS_ERR`. -/
@[simp] def PM_EVT_AVS_ERR : Field := ⟨.PM_EVT, 12, 1⟩
/-- `PM_EVT_EN.DOM_ON`. -/
@[simp] def PM_EVT_EN_DOM_ON : Field := ⟨.PM_EVT_EN, 0, 1⟩
/-- `PM_EVT_EN.DOM_OFF`. -/
@[simp] def PM_EVT_EN_DOM_OFF : Field := ⟨.PM_EVT_EN, 1, 1⟩
/-- `PM_EVT_EN.SLEEP_DONE`. -/
@[simp] def PM_EVT_EN_SLEEP_DONE : Field := ⟨.PM_EVT_EN, 2, 1⟩
/-- `PM_EVT_EN.SLEEP_ABORT`. -/
@[simp] def PM_EVT_EN_SLEEP_ABORT : Field := ⟨.PM_EVT_EN, 3, 1⟩
/-- `PM_EVT_EN.WAKE`. -/
@[simp] def PM_EVT_EN_WAKE : Field := ⟨.PM_EVT_EN, 4, 1⟩
/-- `PM_EVT_EN.THERM_WARN`. -/
@[simp] def PM_EVT_EN_THERM_WARN : Field := ⟨.PM_EVT_EN, 8, 1⟩
/-- `PM_EVT_EN.THERM_TRIP`. -/
@[simp] def PM_EVT_EN_THERM_TRIP : Field := ⟨.PM_EVT_EN, 9, 1⟩
/-- `PM_EVT_EN.AVS_ERR`. -/
@[simp] def PM_EVT_EN_AVS_ERR : Field := ⟨.PM_EVT_EN, 12, 1⟩
/-- `PM_TEMP.TJ_C`. -/
@[simp] def PM_TEMP_TJ_C : Field := ⟨.PM_TEMP, 0, 8⟩
/-- `PM_TEMP.SENSOR`. -/
@[simp] def PM_TEMP_SENSOR : Field := ⟨.PM_TEMP, 8, 8⟩
/-- `PM_THERM.WARN_C`. -/
@[simp] def PM_THERM_WARN_C : Field := ⟨.PM_THERM, 0, 8⟩
/-- `PM_THERM.TRIP_C`. -/
@[simp] def PM_THERM_TRIP_C : Field := ⟨.PM_THERM, 8, 8⟩
/-- `PM_AVS.TARGET_MV`. -/
@[simp] def PM_AVS_TARGET_MV : Field := ⟨.PM_AVS, 0, 10⟩
/-- `PM_AVS_STS.MEASURED_MV`. -/
@[simp] def PM_AVS_STS_MEASURED_MV : Field := ⟨.PM_AVS_STS, 0, 10⟩
/-- `PM_AVS_STS.BUS_ERR`. -/
@[simp] def PM_AVS_STS_BUS_ERR : Field := ⟨.PM_AVS_STS, 16, 1⟩
/-- `PM_DOM_STS.STATE`. -/
@[simp] def PM_DOM_STS_STATE : Field := ⟨.PM_DOM_STS, 0, 2⟩
/-- `PM_DOM_STS.ABSENT`. -/
@[simp] def PM_DOM_STS_ABSENT : Field := ⟨.PM_DOM_STS, 2, 1⟩
/-- `AON_VOTE.VOTES`. -/
@[simp] def AON_VOTE_VOTES : Field := ⟨.AON_VOTE, 0, 16⟩
/-- `AON_WAKE_SRC.SOURCE`. -/
@[simp] def AON_WAKE_SRC_SOURCE : Field := ⟨.AON_WAKE_SRC, 0, 8⟩
/-- `AON_WAKE_SRC.EN`. -/
@[simp] def AON_WAKE_SRC_EN : Field := ⟨.AON_WAKE_SRC, 31, 1⟩
/-- `AON_WAKE_CAUSE.SOURCE`. -/
@[simp] def AON_WAKE_CAUSE_SOURCE : Field := ⟨.AON_WAKE_CAUSE, 0, 8⟩
/-- `AON_WAKE_CAUSE.KIND`. -/
@[simp] def AON_WAKE_CAUSE_KIND : Field := ⟨.AON_WAKE_CAUSE, 8, 3⟩
/-- `AON_WAKE_CAUSE.VALID`. -/
@[simp] def AON_WAKE_CAUSE_VALID : Field := ⟨.AON_WAKE_CAUSE, 31, 1⟩
/-- `AON_SLEEP_CNT.ENTRIES`. -/
@[simp] def AON_SLEEP_CNT_ENTRIES : Field := ⟨.AON_SLEEP_CNT, 0, 16⟩
/-- `AON_SLEEP_CNT.ABORTS`. -/
@[simp] def AON_SLEEP_CNT_ABORTS : Field := ⟨.AON_SLEEP_CNT, 16, 16⟩
/-- `AON_LEAD.OWNER`. -/
@[simp] def AON_LEAD_OWNER : Field := ⟨.AON_LEAD, 0, 1⟩
/-- `AON_LEAD.VALID`. -/
@[simp] def AON_LEAD_VALID : Field := ⟨.AON_LEAD, 1, 1⟩
/-- `AON_LEAD.EPOCH`. -/
@[simp] def AON_LEAD_EPOCH : Field := ⟨.AON_LEAD, 32, 32⟩
/-- `AON_LEAD_REQ.OWNER`. -/
@[simp] def AON_LEAD_REQ_OWNER : Field := ⟨.AON_LEAD_REQ, 0, 1⟩
/-- `AON_LEAD_REQ.DONE`. -/
@[simp] def AON_LEAD_REQ_DONE : Field := ⟨.AON_LEAD_REQ, 1, 1⟩
/-- `AON_LEAD_REQ.ACCEPTED`. -/
@[simp] def AON_LEAD_REQ_ACCEPTED : Field := ⟨.AON_LEAD_REQ, 2, 1⟩
/-- `AON_LEAD_REQ.EXPECT`. -/
@[simp] def AON_LEAD_REQ_EXPECT : Field := ⟨.AON_LEAD_REQ, 32, 32⟩
/-- `MON_STS.HI`. -/
@[simp] def MON_STS_HI : Field := ⟨.MON_STS, 0, 1⟩
/-- `MON_STS.LO`. -/
@[simp] def MON_STS_LO : Field := ⟨.MON_STS, 1, 1⟩
/-- `MON_GLB_CTL.SNAP_DIV`. -/
@[simp] def MON_GLB_CTL_SNAP_DIV : Field := ⟨.MON_GLB_CTL, 0, 8⟩
/-- `MON_GLB_CTL.PERIOD_US`. -/
@[simp] def MON_GLB_CTL_PERIOD_US : Field := ⟨.MON_GLB_CTL, 8, 8⟩
/-- `MON_GLB_CTL.SNAP`. -/
@[simp] def MON_GLB_CTL_SNAP : Field := ⟨.MON_GLB_CTL, 16, 1⟩
/-- `MON_GLB_EVT.SNAP`. -/
@[simp] def MON_GLB_EVT_SNAP : Field := ⟨.MON_GLB_EVT, 0, 1⟩
/-- `MON_GLB_EVT.AGE`. -/
@[simp] def MON_GLB_EVT_AGE : Field := ⟨.MON_GLB_EVT, 1, 1⟩
/-- `MON_GLB_EVT_EN.SNAP`. -/
@[simp] def MON_GLB_EVT_EN_SNAP : Field := ⟨.MON_GLB_EVT_EN, 0, 1⟩
/-- `MON_GLB_EVT_EN.AGE`. -/
@[simp] def MON_GLB_EVT_EN_AGE : Field := ⟨.MON_GLB_EVT_EN, 1, 1⟩
/-- `MON_AGE.SHIFT_PPM`. -/
@[simp] def MON_AGE_SHIFT_PPM : Field := ⟨.MON_AGE, 0, 16⟩
/-- `MON_AGE.WORN`. -/
@[simp] def MON_AGE_WORN : Field := ⟨.MON_AGE, 30, 1⟩
/-- `MON_AGE.VALID`. -/
@[simp] def MON_AGE_VALID : Field := ⟨.MON_AGE, 31, 1⟩
/-- `DRP_CFG.WARN_MV`. -/
@[simp] def DRP_CFG_WARN_MV : Field := ⟨.DRP_CFG, 0, 8⟩
/-- `DRP_CFG.SLOW_MV`. -/
@[simp] def DRP_CFG_SLOW_MV : Field := ⟨.DRP_CFG, 8, 8⟩
/-- `DRP_CFG.CRIT_MV`. -/
@[simp] def DRP_CFG_CRIT_MV : Field := ⟨.DRP_CFG, 16, 8⟩
/-- `DRP_CFG.HYST_MV`. -/
@[simp] def DRP_CFG_HYST_MV : Field := ⟨.DRP_CFG, 24, 4⟩
/-- `DRP_CFG.HOLD_US`. -/
@[simp] def DRP_CFG_HOLD_US : Field := ⟨.DRP_CFG, 28, 4⟩
/-- `DRP_STS.WARN`. -/
@[simp] def DRP_STS_WARN : Field := ⟨.DRP_STS, 0, 1⟩
/-- `DRP_STS.SLOWED`. -/
@[simp] def DRP_STS_SLOWED : Field := ⟨.DRP_STS, 1, 1⟩
/-- `DRP_STS.CRIT`. -/
@[simp] def DRP_STS_CRIT : Field := ⟨.DRP_STS, 2, 1⟩
/-- `DRP_STS.THERM_SLOW`. -/
@[simp] def DRP_STS_THERM_SLOW : Field := ⟨.DRP_STS, 3, 1⟩
/-- `DRP_STS.CFG_ERR`. -/
@[simp] def DRP_STS_CFG_ERR : Field := ⟨.DRP_STS, 4, 1⟩
/-- `DRP_STS.DROOP_MV`. -/
@[simp] def DRP_STS_DROOP_MV : Field := ⟨.DRP_STS, 8, 8⟩
/-- `DRP_EVT.SLOW`. -/
@[simp] def DRP_EVT_SLOW : Field := ⟨.DRP_EVT, 0, 8⟩
/-- `DRP_EVT.CRIT`. -/
@[simp] def DRP_EVT_CRIT : Field := ⟨.DRP_EVT, 8, 8⟩
/-- `DRP_EVT.WARN`. -/
@[simp] def DRP_EVT_WARN : Field := ⟨.DRP_EVT, 16, 8⟩
/-- `DRP_EVT_EN.SLOW`. -/
@[simp] def DRP_EVT_EN_SLOW : Field := ⟨.DRP_EVT_EN, 0, 8⟩
/-- `DRP_EVT_EN.CRIT`. -/
@[simp] def DRP_EVT_EN_CRIT : Field := ⟨.DRP_EVT_EN, 8, 8⟩
/-- `DRP_EVT_EN.WARN`. -/
@[simp] def DRP_EVT_EN_WARN : Field := ⟨.DRP_EVT_EN, 16, 8⟩
/-- `SPR_CFG.AUTO_STOP`. -/
@[simp] def SPR_CFG_AUTO_STOP : Field := ⟨.SPR_CFG, 0, 1⟩
/-- `SPR_CFG.AUTO_AGE`. -/
@[simp] def SPR_CFG_AUTO_AGE : Field := ⟨.SPR_CFG, 1, 1⟩
/-- `SPR_CFG.BANK_CE`. -/
@[simp] def SPR_CFG_BANK_CE : Field := ⟨.SPR_CFG, 8, 8⟩
/-- `SPR_CFG.AGE_LIMIT`. -/
@[simp] def SPR_CFG_AGE_LIMIT : Field := ⟨.SPR_CFG, 16, 16⟩
/-- `SPR_STS.PLL_SEL`. -/
@[simp] def SPR_STS_PLL_SEL : Field := ⟨.SPR_STS, 0, 1⟩
/-- `SPR_STS.PLL_SPARE_OK`. -/
@[simp] def SPR_STS_PLL_SPARE_OK : Field := ⟨.SPR_STS, 1, 1⟩
/-- `SPR_STS.BANK_SPARE_USED`. -/
@[simp] def SPR_STS_BANK_SPARE_USED : Field := ⟨.SPR_STS, 2, 1⟩
/-- `SPR_STS.LOG_FULL`. -/
@[simp] def SPR_STS_LOG_FULL : Field := ⟨.SPR_STS, 3, 1⟩
/-- `SPR_STS.LOG_BUSY`. -/
@[simp] def SPR_STS_LOG_BUSY : Field := ⟨.SPR_STS, 4, 1⟩
/-- `SPR_FAILED.ENC`. -/
@[simp] def SPR_FAILED_ENC : Field := ⟨.SPR_FAILED, 0, 20⟩
/-- `SPR_FAILED.DEC`. -/
@[simp] def SPR_FAILED_DEC : Field := ⟨.SPR_FAILED, 20, 10⟩
/-- `SPR_FAILED.PLL_A`. -/
@[simp] def SPR_FAILED_PLL_A : Field := ⟨.SPR_FAILED, 32, 1⟩
/-- `SPR_FAILED.PLL_B`. -/
@[simp] def SPR_FAILED_PLL_B : Field := ⟨.SPR_FAILED, 33, 1⟩
/-- `SPR_PENDING.PIPES`. -/
@[simp] def SPR_PENDING_PIPES : Field := ⟨.SPR_PENDING, 0, 24⟩
/-- `SPR_PENDING.BANK`. -/
@[simp] def SPR_PENDING_BANK : Field := ⟨.SPR_PENDING, 24, 1⟩
/-- `SPR_PENDING.PLL`. -/
@[simp] def SPR_PENDING_PLL : Field := ⟨.SPR_PENDING, 25, 1⟩
/-- `SPR_EVT.SWAP`. -/
@[simp] def SPR_EVT_SWAP : Field := ⟨.SPR_EVT, 0, 1⟩
/-- `SPR_EVT.SPARE_NONE`. -/
@[simp] def SPR_EVT_SPARE_NONE : Field := ⟨.SPR_EVT, 1, 1⟩
/-- `SPR_EVT.LOG_FULL`. -/
@[simp] def SPR_EVT_LOG_FULL : Field := ⟨.SPR_EVT, 2, 1⟩
/-- `SPR_EVT.PLL_SWITCH`. -/
@[simp] def SPR_EVT_PLL_SWITCH : Field := ⟨.SPR_EVT, 3, 1⟩
/-- `SPR_EVT.WC_ROW`. -/
@[simp] def SPR_EVT_WC_ROW : Field := ⟨.SPR_EVT, 4, 1⟩
/-- `SPR_EVT.WORN`. -/
@[simp] def SPR_EVT_WORN : Field := ⟨.SPR_EVT, 5, 1⟩
/-- `SPR_EVT_EN.SWAP`. -/
@[simp] def SPR_EVT_EN_SWAP : Field := ⟨.SPR_EVT_EN, 0, 1⟩
/-- `SPR_EVT_EN.SPARE_NONE`. -/
@[simp] def SPR_EVT_EN_SPARE_NONE : Field := ⟨.SPR_EVT_EN, 1, 1⟩
/-- `SPR_EVT_EN.LOG_FULL`. -/
@[simp] def SPR_EVT_EN_LOG_FULL : Field := ⟨.SPR_EVT_EN, 2, 1⟩
/-- `SPR_EVT_EN.PLL_SWITCH`. -/
@[simp] def SPR_EVT_EN_PLL_SWITCH : Field := ⟨.SPR_EVT_EN, 3, 1⟩
/-- `SPR_EVT_EN.WC_ROW`. -/
@[simp] def SPR_EVT_EN_WC_ROW : Field := ⟨.SPR_EVT_EN, 4, 1⟩
/-- `SPR_EVT_EN.WORN`. -/
@[simp] def SPR_EVT_EN_WORN : Field := ⟨.SPR_EVT_EN, 5, 1⟩
/-- `SPR_LOG_USED.USED`. -/
@[simp] def SPR_LOG_USED_USED : Field := ⟨.SPR_LOG_USED, 0, 12⟩
/-- `SPR_LOG_USED.BAD`. -/
@[simp] def SPR_LOG_USED_BAD : Field := ⟨.SPR_LOG_USED, 16, 12⟩
/-- `SPR_WC_ROWS.ROWS`. -/
@[simp] def SPR_WC_ROWS_ROWS : Field := ⟨.SPR_WC_ROWS, 0, 6⟩
/-- `CPX_BOOT_ADDR.LOC`. -/
@[simp] def CPX_BOOT_ADDR_LOC : Field := ⟨.CPX_BOOT_ADDR, 0, 1⟩
/-- `CPX_BOOT_ADDR.ADDR`. -/
@[simp] def CPX_BOOT_ADDR_ADDR : Field := ⟨.CPX_BOOT_ADDR, 12, 52⟩
/-- `CPX_BOOT_CTL.GO`. -/
@[simp] def CPX_BOOT_CTL_GO : Field := ⟨.CPX_BOOT_CTL, 0, 1⟩
/-- `CPX_BOOT_STS.STATE`. -/
@[simp] def CPX_BOOT_STS_STATE : Field := ⟨.CPX_BOOT_STS, 0, 3⟩
/-- `CPX_BOOT_STS.ERR`. -/
@[simp] def CPX_BOOT_STS_ERR : Field := ⟨.CPX_BOOT_STS, 8, 8⟩
/-- `CPX_VERSION.BASE`. -/
@[simp] def CPX_VERSION_BASE : Field := ⟨.CPX_VERSION, 0, 16⟩
/-- `CPX_VERSION.BUILD`. -/
@[simp] def CPX_VERSION_BUILD : Field := ⟨.CPX_VERSION, 16, 8⟩
/-- `CPX_VERSION.DIGEST`. -/
@[simp] def CPX_VERSION_DIGEST : Field := ⟨.CPX_VERSION, 32, 32⟩
/-- `CPX_STS.RUNNING`. -/
@[simp] def CPX_STS_RUNNING : Field := ⟨.CPX_STS, 0, 1⟩
/-- `CPX_STS.HALTED`. -/
@[simp] def CPX_STS_HALTED : Field := ⟨.CPX_STS, 1, 1⟩
/-- `CPX_STS.FENCED`. -/
@[simp] def CPX_STS_FENCED : Field := ⟨.CPX_STS, 2, 1⟩
/-- `CPX_STS.LEAD`. -/
@[simp] def CPX_STS_LEAD : Field := ⟨.CPX_STS, 3, 1⟩
/-- `CPX_STS.ADOPTED`. -/
@[simp] def CPX_STS_ADOPTED : Field := ⟨.CPX_STS, 4, 1⟩
/-- `CPX_STS.WDOG`. -/
@[simp] def CPX_STS_WDOG : Field := ⟨.CPX_STS, 5, 1⟩
/-- `CPX_CTL.HALT`. -/
@[simp] def CPX_CTL_HALT : Field := ⟨.CPX_CTL, 0, 1⟩
/-- `CPX_CTL.ADOPT`. -/
@[simp] def CPX_CTL_ADOPT : Field := ⟨.CPX_CTL, 1, 1⟩
/-- `CPX_CTL.RELEASE`. -/
@[simp] def CPX_CTL_RELEASE : Field := ⟨.CPX_CTL, 2, 1⟩
/-- `CPX_CTL.WDOG_TICKS`. -/
@[simp] def CPX_CTL_WDOG_TICKS : Field := ⟨.CPX_CTL, 8, 8⟩
/-- `CPX_BELIEF.OWNER`. -/
@[simp] def CPX_BELIEF_OWNER : Field := ⟨.CPX_BELIEF, 0, 1⟩
/-- `CPX_BELIEF.VALID`. -/
@[simp] def CPX_BELIEF_VALID : Field := ⟨.CPX_BELIEF, 1, 1⟩
/-- `CPX_BELIEF.EPOCH`. -/
@[simp] def CPX_BELIEF_EPOCH : Field := ⟨.CPX_BELIEF, 32, 32⟩
/-- `CPX_EVT.LEAD_CONFLICT`. -/
@[simp] def CPX_EVT_LEAD_CONFLICT : Field := ⟨.CPX_EVT, 0, 1⟩
/-- `CPX_EVT.LEAD_CHANGE`. -/
@[simp] def CPX_EVT_LEAD_CHANGE : Field := ⟨.CPX_EVT, 1, 1⟩
/-- `CPX_EVT.WDOG`. -/
@[simp] def CPX_EVT_WDOG : Field := ⟨.CPX_EVT, 2, 1⟩
/-- `CPX_EVT.BOOT_FAIL`. -/
@[simp] def CPX_EVT_BOOT_FAIL : Field := ⟨.CPX_EVT, 3, 1⟩
/-- `CPX_EVT.PATCH`. -/
@[simp] def CPX_EVT_PATCH : Field := ⟨.CPX_EVT, 4, 1⟩
/-- `CPX_EVT.UNFENCE`. -/
@[simp] def CPX_EVT_UNFENCE : Field := ⟨.CPX_EVT, 5, 1⟩
/-- `CPX_EVT_EN.LEAD_CONFLICT`. -/
@[simp] def CPX_EVT_EN_LEAD_CONFLICT : Field := ⟨.CPX_EVT_EN, 0, 1⟩
/-- `CPX_EVT_EN.LEAD_CHANGE`. -/
@[simp] def CPX_EVT_EN_LEAD_CHANGE : Field := ⟨.CPX_EVT_EN, 1, 1⟩
/-- `CPX_EVT_EN.WDOG`. -/
@[simp] def CPX_EVT_EN_WDOG : Field := ⟨.CPX_EVT_EN, 2, 1⟩
/-- `CPX_EVT_EN.BOOT_FAIL`. -/
@[simp] def CPX_EVT_EN_BOOT_FAIL : Field := ⟨.CPX_EVT_EN, 3, 1⟩
/-- `CPX_EVT_EN.PATCH`. -/
@[simp] def CPX_EVT_EN_PATCH : Field := ⟨.CPX_EVT_EN, 4, 1⟩
/-- `CPX_EVT_EN.UNFENCE`. -/
@[simp] def CPX_EVT_EN_UNFENCE : Field := ⟨.CPX_EVT_EN, 5, 1⟩
/-- `USQ_VERSION.BASE`. -/
@[simp] def USQ_VERSION_BASE : Field := ⟨.USQ_VERSION, 0, 16⟩
/-- `USQ_VERSION.PATCH`. -/
@[simp] def USQ_VERSION_PATCH : Field := ⟨.USQ_VERSION, 16, 8⟩
/-- `USQ_VERSION.DIGEST`. -/
@[simp] def USQ_VERSION_DIGEST : Field := ⟨.USQ_VERSION, 32, 32⟩
/-- `USQ_STS.RUN`. -/
@[simp] def USQ_STS_RUN : Field := ⟨.USQ_STS, 0, 1⟩
/-- `USQ_STS.IN_ROUTINE`. -/
@[simp] def USQ_STS_IN_ROUTINE : Field := ⟨.USQ_STS, 1, 1⟩
/-- `USQ_STS.STOPPED`. -/
@[simp] def USQ_STS_STOPPED : Field := ⟨.USQ_STS, 2, 1⟩
/-- `USQ_STS.PATCH_PENDING`. -/
@[simp] def USQ_STS_PATCH_PENDING : Field := ⟨.USQ_STS, 3, 1⟩
/-- `USQ_STS.PATCH_HALF`. -/
@[simp] def USQ_STS_PATCH_HALF : Field := ⟨.USQ_STS, 4, 1⟩
/-- `USQ_STS.ROUTINE`. -/
@[simp] def USQ_STS_ROUTINE : Field := ⟨.USQ_STS, 8, 8⟩
/-- `USQ_PC.PC`. -/
@[simp] def USQ_PC_PC : Field := ⟨.USQ_PC, 0, 13⟩
/-- `USQ_STEP_LOG.ROUTINE`. -/
@[simp] def USQ_STEP_LOG_ROUTINE : Field := ⟨.USQ_STEP_LOG, 0, 8⟩
/-- `USQ_STEP_LOG.STEP`. -/
@[simp] def USQ_STEP_LOG_STEP : Field := ⟨.USQ_STEP_LOG, 8, 12⟩
/-- `USQ_STEP_LOG.SOURCE`. -/
@[simp] def USQ_STEP_LOG_SOURCE : Field := ⟨.USQ_STEP_LOG, 20, 6⟩
/-- `USQ_STEP_LOG.VALID`. -/
@[simp] def USQ_STEP_LOG_VALID : Field := ⟨.USQ_STEP_LOG, 26, 1⟩
/-- `USQ_STEP_LOG.OVERFLOW`. -/
@[simp] def USQ_STEP_LOG_OVERFLOW : Field := ⟨.USQ_STEP_LOG, 27, 1⟩
/-- `USQ_STEP_LOG.TICK`. -/
@[simp] def USQ_STEP_LOG_TICK : Field := ⟨.USQ_STEP_LOG, 32, 32⟩
/-- `USQ_EVT.FAULT_TAKEN`. -/
@[simp] def USQ_EVT_FAULT_TAKEN : Field := ⟨.USQ_EVT, 0, 1⟩
/-- `USQ_EVT.POISON`. -/
@[simp] def USQ_EVT_POISON : Field := ⟨.USQ_EVT, 1, 1⟩
/-- `USQ_EVT.OVERRUN`. -/
@[simp] def USQ_EVT_OVERRUN : Field := ⟨.USQ_EVT, 2, 1⟩
/-- `USQ_EVT.STOP`. -/
@[simp] def USQ_EVT_STOP : Field := ⟨.USQ_EVT, 3, 1⟩
/-- `USQ_EVT_EN.FAULT_TAKEN`. -/
@[simp] def USQ_EVT_EN_FAULT_TAKEN : Field := ⟨.USQ_EVT_EN, 0, 1⟩
/-- `USQ_EVT_EN.POISON`. -/
@[simp] def USQ_EVT_EN_POISON : Field := ⟨.USQ_EVT_EN, 1, 1⟩
/-- `USQ_EVT_EN.OVERRUN`. -/
@[simp] def USQ_EVT_EN_OVERRUN : Field := ⟨.USQ_EVT_EN, 2, 1⟩
/-- `USQ_EVT_EN.STOP`. -/
@[simp] def USQ_EVT_EN_STOP : Field := ⟨.USQ_EVT_EN, 3, 1⟩
/-- `USQ_CS_ADDR.ADDR`. -/
@[simp] def USQ_CS_ADDR_ADDR : Field := ⟨.USQ_CS_ADDR, 0, 13⟩
/-- `SEC_STS.STATE`. -/
@[simp] def SEC_STS_STATE : Field := ⟨.SEC_STS, 0, 3⟩
/-- `SEC_STS.APPROVED`. -/
@[simp] def SEC_STS_APPROVED : Field := ⟨.SEC_STS, 3, 1⟩
/-- `SEC_STS.TRANSPORT`. -/
@[simp] def SEC_STS_TRANSPORT : Field := ⟨.SEC_STS, 4, 1⟩
/-- `SEC_STS.IDE_IO`. -/
@[simp] def SEC_STS_IDE_IO : Field := ⟨.SEC_STS, 5, 1⟩
/-- `SEC_STS.IDE_CM`. -/
@[simp] def SEC_STS_IDE_CM : Field := ⟨.SEC_STS, 6, 1⟩
/-- `SEC_STS.DECOMMISSIONED`. -/
@[simp] def SEC_STS_DECOMMISSIONED : Field := ⟨.SEC_STS, 7, 1⟩
/-- `SEC_STS.ERR_TEST`. -/
@[simp] def SEC_STS_ERR_TEST : Field := ⟨.SEC_STS, 12, 4⟩
/-- `SEC_SVC_IND.OPCODE`. -/
@[simp] def SEC_SVC_IND_OPCODE : Field := ⟨.SEC_SVC_IND, 0, 16⟩
/-- `SEC_SVC_IND.APPROVED`. -/
@[simp] def SEC_SVC_IND_APPROVED : Field := ⟨.SEC_SVC_IND, 16, 1⟩
/-- `SEC_SVC_IND.STATUS`. -/
@[simp] def SEC_SVC_IND_STATUS : Field := ⟨.SEC_SVC_IND, 24, 8⟩
/-- `SEC_MIN_SVN.SVN`. -/
@[simp] def SEC_MIN_SVN_SVN : Field := ⟨.SEC_MIN_SVN, 0, 7⟩
/-- `SEC_EVT.STATE`. -/
@[simp] def SEC_EVT_STATE : Field := ⟨.SEC_EVT, 0, 1⟩
/-- `SEC_EVT.SELFTEST_FAIL`. -/
@[simp] def SEC_EVT_SELFTEST_FAIL : Field := ⟨.SEC_EVT, 1, 1⟩
/-- `SEC_EVT.KEY_LOADED`. -/
@[simp] def SEC_EVT_KEY_LOADED : Field := ⟨.SEC_EVT, 2, 1⟩
/-- `SEC_EVT.ZEROIZED`. -/
@[simp] def SEC_EVT_ZEROIZED : Field := ⟨.SEC_EVT, 3, 1⟩
/-- `SEC_EVT.KEY_SWITCH`. -/
@[simp] def SEC_EVT_KEY_SWITCH : Field := ⟨.SEC_EVT, 4, 1⟩
/-- `SEC_EVT.KEY_EXPIRED`. -/
@[simp] def SEC_EVT_KEY_EXPIRED : Field := ⟨.SEC_EVT, 5, 1⟩
/-- `SEC_EVT.SRTP_AUTH`. -/
@[simp] def SEC_EVT_SRTP_AUTH : Field := ⟨.SEC_EVT, 6, 1⟩
/-- `SEC_EVT.SRTP_REPLAY`. -/
@[simp] def SEC_EVT_SRTP_REPLAY : Field := ⟨.SEC_EVT, 7, 1⟩
/-- `SEC_EVT.SPDM_SESSION`. -/
@[simp] def SEC_EVT_SPDM_SESSION : Field := ⟨.SEC_EVT, 8, 1⟩
/-- `SEC_EVT.IDE_SWITCH`. -/
@[simp] def SEC_EVT_IDE_SWITCH : Field := ⟨.SEC_EVT, 9, 1⟩
/-- `SEC_EVT.IDE_FAIL`. -/
@[simp] def SEC_EVT_IDE_FAIL : Field := ⟨.SEC_EVT, 10, 1⟩
/-- `SEC_EVT_EN.STATE`. -/
@[simp] def SEC_EVT_EN_STATE : Field := ⟨.SEC_EVT_EN, 0, 1⟩
/-- `SEC_EVT_EN.SELFTEST_FAIL`. -/
@[simp] def SEC_EVT_EN_SELFTEST_FAIL : Field := ⟨.SEC_EVT_EN, 1, 1⟩
/-- `SEC_EVT_EN.KEY_LOADED`. -/
@[simp] def SEC_EVT_EN_KEY_LOADED : Field := ⟨.SEC_EVT_EN, 2, 1⟩
/-- `SEC_EVT_EN.ZEROIZED`. -/
@[simp] def SEC_EVT_EN_ZEROIZED : Field := ⟨.SEC_EVT_EN, 3, 1⟩
/-- `SEC_EVT_EN.KEY_SWITCH`. -/
@[simp] def SEC_EVT_EN_KEY_SWITCH : Field := ⟨.SEC_EVT_EN, 4, 1⟩
/-- `SEC_EVT_EN.KEY_EXPIRED`. -/
@[simp] def SEC_EVT_EN_KEY_EXPIRED : Field := ⟨.SEC_EVT_EN, 5, 1⟩
/-- `SEC_EVT_EN.SRTP_AUTH`. -/
@[simp] def SEC_EVT_EN_SRTP_AUTH : Field := ⟨.SEC_EVT_EN, 6, 1⟩
/-- `SEC_EVT_EN.SRTP_REPLAY`. -/
@[simp] def SEC_EVT_EN_SRTP_REPLAY : Field := ⟨.SEC_EVT_EN, 7, 1⟩
/-- `SEC_EVT_EN.SPDM_SESSION`. -/
@[simp] def SEC_EVT_EN_SPDM_SESSION : Field := ⟨.SEC_EVT_EN, 8, 1⟩
/-- `SEC_EVT_EN.IDE_SWITCH`. -/
@[simp] def SEC_EVT_EN_IDE_SWITCH : Field := ⟨.SEC_EVT_EN, 9, 1⟩
/-- `SEC_EVT_EN.IDE_FAIL`. -/
@[simp] def SEC_EVT_EN_IDE_FAIL : Field := ⟨.SEC_EVT_EN, 10, 1⟩
/-- `SEC_KEYS_USED.COUNT`. -/
@[simp] def SEC_KEYS_USED_COUNT : Field := ⟨.SEC_KEYS_USED, 0, 12⟩
/-- `SEC_SESSIONS.COUNT`. -/
@[simp] def SEC_SESSIONS_COUNT : Field := ⟨.SEC_SESSIONS, 0, 4⟩
/-- `FB_ERR.WR_BUSY`. -/
@[simp] def FB_ERR_WR_BUSY : Field := ⟨.FB_ERR, 0, 1⟩
/-- `FB_ERR.RANGE`. -/
@[simp] def FB_ERR_RANGE : Field := ⟨.FB_ERR, 1, 1⟩
/-- `FB_ERR.READY_BUSY`. -/
@[simp] def FB_ERR_READY_BUSY : Field := ⟨.FB_ERR, 2, 1⟩
/-- `FB_ERR.ASSIGN_SKIP`. -/
@[simp] def FB_ERR_ASSIGN_SKIP : Field := ⟨.FB_ERR, 3, 1⟩
/-- `FB_ERR.NOT_OWNER`. -/
@[simp] def FB_ERR_NOT_OWNER : Field := ⟨.FB_ERR, 4, 1⟩
/-- `FB_ERR.ASSIGN_ERR`. -/
@[simp] def FB_ERR_ASSIGN_ERR : Field := ⟨.FB_ERR, 5, 1⟩
/-- `FB_ERR_IDX.INDEX`. -/
@[simp] def FB_ERR_IDX_INDEX : Field := ⟨.FB_ERR_IDX, 0, 13⟩

end Sys2Proof.Machine
end

