-- ==== Sys2Proof/Machine/State.lean ====
section
/-!
DEFINITION. The state of the block as plain data: its BAR0 registers, its memories, its time base, queues, streams, pictures,
ring, network, memory controller, power, security and reset state, the pins, the queue of waiting commands, and the state
right after reset. INVENTORY.md lists every piece with the rule that names it.
-/
namespace Sys2Proof.Machine

/-- Why the machine stops with a fault. No meaning of this model ends in one: every command of the table either has the
effect the spec gives it or leaves the state as it is where its condition does not hold. -/
inductive Fault where
  /-- Raised by no meaning; kept so that a repair can name a stop the spec backs. Safe: a stop proves nothing false. -/
  | unreachable
  deriving DecidableEq, Repr

/-- Why a command has no meaning. -/
inductive Refusal where
  /-- Raised by `exec`'s own arm for a row of the table that has no meaning yet, by its mnemonic. Safe. -/
  | notModelled (mnemonic : String)
  deriving DecidableEq, Repr

/-- What the part is: its number, its fuses, its straps and the board straps that start-up samples (R3, R11, R12, R528,
R530, R403). -/
structure Chip where
  part : Part := .uz9616C
  fuseErr : Bool := false
  strapTest : Bool := false
  strapLead : Bool := false
  strapPkg : Nat := 0
  serial : Nat := 0
  /-- GDDR7 devices found at training: 0 none, 1 16 Gbit, 2 24 Gbit (R310, R336). -/
  density : Nat := 1
  /-- GDDR7 devices are mounted in clamshell pairs (R310). -/
  clamshell : Bool := false
  deriving DecidableEq, Repr

/-- The time base beyond its registers (R22 to R25, R36, R42, R46, R50, R52). Times are in ns; device time counts from the
PTP epoch. -/
structure TimeBase where
  /-- Device time in whole ns. -/
  ns : Nat := 0
  /-- The fraction of a ns the accumulator carries, kept exactly: in units of 2^-48 · 10^-9 ns (R23). -/
  frac : Nat := 0
  /-- Device time run with rate correction and without steps: what the deadline timers and every other duration count (R36). -/
  run : Nat := 0
  /-- T(TK_INDEX): the grid time of the last point fired or counted missed (R74). -/
  tickAt : Nat := 0
  /-- The shadow copy of a `TB_TIME_SEC` read: whole ns and the 16 fraction bits (R25). -/
  shadowNs : Nat := 0
  shadowFrac : Nat := 0
  /-- Consecutive servo writes within the threshold, and above it (R42). -/
  within : Nat := 0
  beyond : Nat := 0
  /-- `run` at the last `TB_SERVO_OFS` write, and whether the 4 s timer runs (R42). -/
  servoAt : Nat := 0
  servoTimer : Bool := false
  /-- The instants at which TICK_OUT and PPS_OUT last went active, while they are (R33, R47). -/
  tickOutAt : Option Nat := none
  ppsOutAt : Option Nat := none
  /-- `run` at the last PPS capture (R46). -/
  ppsAt : Option Nat := none
  /-- Ticks fired since the last beacon (R50). -/
  beaconGap : Nat := 0
  /-- The beacon the member disciplines itself from at the running tick: tick, hops, link (R48). -/
  beacon : Option (Nat × Nat × Nat) := none
  /-- Deep sleep: T0 and the two counts (R52), and whether Snowdrop counts the RC oscillator. -/
  sleepT0 : Nat := 0
  refCount : Nat := 0
  rcCount : Nat := 0
  onRc : Bool := false
  refLost : Bool := false
  deriving DecidableEq, Repr

/-- The pins the spec gives the block (R33, R47, R429, R444, R505, R533): their present levels. -/
structure Pins where
  tickOut : Bool := false
  ppsOut : Bool := false
  /-- FAULT_N: true is released (high). -/
  faultN : Bool := true
  /-- WAKE_N: true is released (R444). -/
  wakeN : Bool := true
  /-- PERST_N: true is released, false holds the device in reset (R505). -/
  perstN : Bool := false
  /-- Boundary scan: the level each output is held at, when the scan holds them (R533). -/
  scan : Option Nat := none
  deriving DecidableEq, Repr

/-- How far a fetched command has come (R91). -/
inductive CmdStage where
  | fetched | started | held | replyWaiting
  deriving DecidableEq, Repr

/-- A command the device has fetched and not yet answered (R78 to R80, R91). -/
structure Outstanding where
  cmd : Cmd
  stage : CmdStage := .fetched
  /-- Its AT_TICK index had passed when it was fetched, or was counted missed (R80). -/
  late : Bool := false
  /-- The tick an ENC_PICTURE or DEC_AU is bound to. -/
  bound : Nat := 0
  /-- The half whose CPX fetched it (R386). -/
  half : Nat := 0
  /-- Status, DETAIL and WORD of a command that has run and waits for earlier ones to its object to complete (R78). -/
  result : Option (Nat × Nat × Nat) := none
  deriving DecidableEq, Repr

/-- A reply before its place in the ring, and with it its phase and HEAD word, are known (R72). -/
structure Reply where
  queue : Nat
  cplq : Nat
  tag : Nat
  opcode : Nat
  status : Nat
  detail : Nat
  cplTick : Nat
  cplOfs : Nat
  word : Nat
  deriving DecidableEq, Repr

/-- The command processors' queue state beyond its registers (R66, R67, R80). -/
structure CmdUnit where
  /-- Commands fetched and not answered, in fetch order. -/
  outstanding : List Outstanding := []
  /-- The holding lists of all completion queues, oldest first (R67). -/
  heldReplies : List Reply := []
  /-- The queue the round-robin looks at next, and the commands taken from it this turn (R66). -/
  turn : Nat := 0
  taken : Nat := 0
  deriving DecidableEq, Repr

/-- A target of the interrupt controller: the stack of claimed sources, top first, with their priorities (R419, R422). -/
structure IntTarget where
  stack : List (Nat × Nat) := []
  signalled : Bool := false
  /-- `run` at the last message (R422); none before the first. -/
  lastMsg : Option Nat := none
  /-- A CPX target waits for an event (R422). -/
  waiting : Bool := true
  deriving DecidableEq, Repr

/-- What the block has put out, newest first: the model's own record of its outputs. -/
inductive Sent where
  /-- An MSI-X message of a function's vector (R374, R422). -/
  | msix (func vector : Nat)
  /-- An event to a command processor (R422). -/
  | cpxEvent (half : Nat)
  /-- A ring message on Fulet link `link`: its type and payload words (R221). -/
  | ring (link type : Nat) (words : List Nat)
  /-- A frame started on port or link `k`, from class queue `queue`, with its length (R288). -/
  | frame (k queue bytes : Nat)
  /-- A PTP transmit entry sent on port `k` and the frame as it leaves (R269, R270). -/
  | ptp (k entry : Nat) (bytes : List Byte)
  /-- A transaction on the regulator bus: target in mV (R452). -/
  | avs (mv : Nat)
  /-- A request to a peer device over unordered I/O (R380). -/
  | uio (address bytes : Nat)
  /-- A CXL link event the host can see: link-level message by number. -/
  | link (code : Nat)
  /-- A bit inverted on a lane under test (R265). -/
  | bitError (lane : Nat)
  /-- A back-invalidate snoop of a line (R377). -/
  | snoop (line : Nat)
  /-- An answer to a host snoop: invalid, without data (R378). -/
  | invalid (line : Nat)
  /-- An unsupported request or a completion with poison, to the host or a peer (R376, R380, R382). -/
  | completion (poison unsupported : Bool)
  /-- A DOE response object (R384): whether it is an error response. -/
  | doe (error : Bool)
  deriving DecidableEq, Repr

/-- The states of a stream context, with their codes (R188). -/
inductive StreamSt where
  | free | opened | configured | running | closing | migrating | lost
  deriving DecidableEq, Repr

/-- What the rate control keeps for an encode stream (R138, R141 to R147, R159). -/
structure RateState where
  /-- P10 to P17 in force, and the words that wait for the next key picture (R145). -/
  words : List Nat := []
  next : Option (List Nat) := none
  /-- V: its integer part, and its remainder in units of 1 / TK_DEN bit (R138). -/
  fill : Nat := 0
  fillRem : Nat := 0
  /-- E: coded bits since STREAM_OPEN, and the planned bits times TK_DEN (R141). -/
  coded : Nat := 0
  planned : Nat := 0
  /-- α of inter pictures and of key pictures, 8.8 (R143). -/
  alphaInter : Nat := 0x100
  alphaKey : Nat := 0x100
  /-- QP of the row band released last; QP of the next picture in mode 3 (R141, R143). -/
  qpLast : Nat := 0
  qpPic : Nat := 0
  /-- Mean QP of the previous picture; what band 0 is held near (R143). -/
  qpMean : Nat := 0
  /-- Pictures since the last key picture (R116). -/
  sinceKey : Nat := 0
  /-- Scout complexity of the last pictures, newest first, at most 64 (R141). -/
  complexity : List Nat := []
  /-- Band weights of the previous picture's map, in band order (R142). -/
  weights : List Nat := []
  /-- A staged ENC_RC_UPDATE: P0 to P3 and the first tick it applies to (R146). -/
  staged : Option (List Nat × Nat) := none
  /-- QP maps: one in force, one pending from a tick; none in a pending slot removes the map (R147). -/
  map : Option (List Byte) := none
  mapNext : Option (Option (List Byte) × Nat) := none
  /-- A tick of the stream passed as a gap since its last coded picture (R138). -/
  gap : Bool := false
  /-- The next key picture restarts V at V(0) (R145). -/
  restart : Bool := true
  /-- Released bits of a picture that a reset or a stop ended, taken from V at the next tick (R159). -/
  owed : Option Nat := none
  deriving DecidableEq, Repr

/-- A stream's reservation (R190, R209): where it lies, its regions, the bitstream ring in it, and its pool descriptors. -/
structure Resv where
  base : Nat := 0
  regions : List Nat := []
  ringBase : Nat := 0
  ringBytes : Nat := 0
  pool : List Nat := []
  deriving DecidableEq, Repr

/-- A stream context (R188 to R192, R212). -/
structure Stream where
  st : StreamSt := .free
  dec : Bool := false
  codec : Nat := 0
  func : Nat := 0
  /-- P0 and on of the last STREAM_CONFIG accepted (own slots only). -/
  words : List Nat := []
  /-- A STREAM_CONFIG accepted while pictures were accepted or launched, in force from the next launch (R118, R163). -/
  wordsNext : Option (List Nat) := none
  /-- L and D in force; staged values with the first tick that uses them (R37). -/
  l : Nat := 0
  d : Nat := 0
  ldNext : List (Nat × Nat × Nat) := []
  /-- W_P of the configuration in force, ns (R132, R171). -/
  floorTime : Nat := 0
  /-- Pictures completed since STREAM_OPEN (R212). -/
  completed : Nat := 0
  /-- The tick of the picture completed last (R212). -/
  lastTick : Nat := 0
  /-- A picture has been launched since STREAM_OPEN (R188). -/
  launched : Bool := false
  /-- One more than the last tick whose launch has been handled. -/
  handled : Nat := 0
  /-- Waits for LOCKED before it launches again (R43, R55). -/
  lockWait : Bool := false
  /-- The reservation in force, and one that waits for the picture in flight (R190). -/
  res : Resv := {}
  resNext : Option Resv := none
  /-- The records the ring holds, oldest first: offset and bytes; and those released and not wholly sent by the packetiser, with
  their payload bytes (R210, R211). -/
  recs : List (Nat × Nat) := []
  unsent : List (Nat × Nat) := []
  /-- Payload lengths of the packets of the oldest unsent record that are still to be made; none made while it is empty (R274). -/
  pkts : List Nat := []
  /-- `run` at the last release of a band 0 (R458, source 4). -/
  bandAt : Nat := 0
  /-- Ticks named by ENC_KEY_REQUEST; a key picture is due for another cause (R116). -/
  keyReq : List Nat := []
  keyDue : Bool := true
  /-- Rate control of an encode stream (R138 to R147). -/
  rate : RateState := {}
  /-- Decode: parameter sets stored (identifiers). Both: the descriptors of the references, oldest first. -/
  sets : List Nat := []
  refs : List Nat := []
  /-- Decode: buffers marked HELD in output order, with the record each waits for (R178). -/
  held : List (Nat × List Nat) := []
  /-- How many of them are due for output and wait for a record or for a buffer (R178). -/
  due : Nat := 0
  /-- The buffer and the blocks of a first field whose pair is open, and the order identifiers of the first fields of pairs that share a
  buffer with a second (R176, R181). -/
  openField : Option (Nat × Nat) := none
  pairOrder : List (Nat × Nat) := []
  /-- A DEC_FLUSH that waits for the pictures of the stream up to a tick (R180). -/
  flush : Option (Cmd × Nat) := none
  /-- A decode survivor: `DEC_S_REC_HEAD` and `DEC_S_REC_TAIL` as its record keeps them (R187, R512). -/
  recPos : Nat × Nat := (0, 0)
  /-- The close in progress: its command and whether it drains (R192). -/
  closing : Option Cmd := none
  deriving DecidableEq, Repr

/-- One pipe's share of a picture: a tile column of an encode picture, the parts given to a decoder pipe. -/
structure PipeWork where
  pipe : Nat
  /-- Units of the column (blocks of the pipe), and units of a row of the column. -/
  units : Nat
  cols : Nat := 1
  /-- Units that have entered stage 1, that have passed stage 3 as normal units, and that are handed off. -/
  started : Nat := 0
  past : Nat := 0
  handed : Nat := 0
  /-- When the next unit is due in stage 1, in fifths of a ns of `run`. -/
  due : Nat := 0
  /-- Waits for scout data of band 0 (R102). -/
  waiting : Bool := false
  /-- The first unit that is floor-coded; every later one is too (R127). -/
  floorFrom : Option Nat := none
  /-- The pipe has stopped (R121, R183). -/
  stopped : Bool := false
  /-- Its data was poisoned (R121, R134). -/
  poisoned : Bool := false
  /-- Cycles of its clock since the launch, a decoder pipe's (R179). -/
  cycles : Nat := 0
  deriving DecidableEq, Repr

/-- What is planned and known of one row band of a picture in flight (R102, R104, R142, R143, R153). -/
structure BandPlan where
  weight : Nat := 0
  /-- Scout units that have delivered, as a mask; the sums they delivered. -/
  heard : Nat := 0
  acc : Nat := 0
  blocks : Nat := 0
  /-- Blocks whose scout result says scene change, and blocks without a reference (R102, R104). -/
  cutBlocks : Nat := 0
  noRef : Nat := 0
  /-- The band counts as a scene cut (R104). -/
  cut : Bool := false
  /-- Scout units without whose data a pipe codes the band, as a mask (R102). -/
  late : Nat := 0
  /-- Its first unit has passed the bit check, with the QP chosen and the bits allotted then (R143). -/
  started : Bool := false
  qp : Nat := 0
  alloc : Nat := 0
  /-- Bits produced, those of normal units among them, and the coded bytes handed off (R143, R153). -/
  bits : Nat := 0
  normalBits : Nat := 0
  bytes : List Byte := []
  deriving DecidableEq, Repr

/-- An encode picture from its acceptance to its completion (R119, R35, R130, R135, R153). -/
structure EncPic where
  stream : Nat
  tick : Nat
  /-- The command that submitted it; none for a repeat that no command names (R151). -/
  cmd : Option Cmd := none
  /-- P0 and on of the command. -/
  words : List Nat := []
  /-- It has launched (R35). -/
  launched : Bool := false
  /-- Waits for a busy pipe after a forward step, since this instant of `run` (R200). -/
  delayed : Option Nat := none
  /-- It is a key picture; it is coded as a repeat (R116, R149). -/
  key : Bool := false
  isRepeat : Bool := false
  /-- The pool buffer it is reconstructed into, and the source it reads. -/
  buf : Nat := 0
  source : Option Nat := none
  /-- `run` at launch, and when the deadline timer runs out (R36). -/
  launchRun : Nat := 0
  dueRun : Nat := 0
  /-- CAP and the target of the picture (R138, R139, R141). -/
  cap : Nat := 0
  target : Nat := 0
  /-- Bits: headers written, bits produced, and U of units past stage 3 and not produced, by pipe (R135). -/
  header : Nat := 0
  produced : Nat := 0
  owed : List (Nat × Nat) := []
  /-- Bits of headers not yet written, and units not past stage 3 (R135, R137). -/
  headersLeft : Nat := 0
  unitsLeft : Nat := 0
  /-- The first unit that was floored (R130). -/
  firstFloor : Option Nat := none
  /-- `RC_S_CAUSE` and the FLAGS of the statistics (R120, R158). -/
  cause : Nat := 0
  flags : Nat := 0
  /-- Units trimmed, and pixels edge-extended (R120, R235). -/
  trimmed : Nat := 0
  edge : Nat := 0
  /-- Its row bands; those released; the seams between tile columns filtered; the work of each pipe (R153, R98). -/
  bands : List BandPlan := []
  released : Nat := 0
  seams : Nat := 0
  pipes : List PipeWork := []
  /-- The reference formed from it must not be used (R121, R134). -/
  unusable : Bool := false
  /-- The lowest pipe that stopped while it ran (R121). -/
  failed : Option Nat := none
  /-- A ring member's last unit has passed the bit check (R241). -/
  passed : Bool := false
  deriving DecidableEq, Repr

/-- A decode picture from its acceptance to its completion (R165 to R183). -/
structure DecPic where
  stream : Nat
  tick : Nat
  cmd : Option Cmd := none
  words : List Nat := []
  launched : Bool := false
  delayed : Option Nat := none
  buf : Option Nat := none
  launchRun : Nat := 0
  dueRun : Nat := 0
  bytes : Nat := 0
  /-- Staged buffers: pool and index (R166). -/
  staged : List (Nat × Nat) := []
  /-- Blocks of the picture and blocks across it (R161, R173). -/
  blocks : Nat := 0
  mapW : Nat := 0
  /-- Its headers are parsed; it is lost whole and concealed (R168, R169, R175). -/
  parsed : Bool := false
  lost : Bool := false
  /-- Concealment map bytes by block, with default 0 for a block decoded normally (R173). -/
  map : List (Nat × Nat) := []
  /-- Blocks reconstructed, concealed and taken by substitution; blocks edge-extended (R173 to R176, R235). -/
  done : Nat := 0
  conc : Nat := 0
  subst : Nat := 0
  edge : Nat := 0
  /-- FLAGS of its reply; a reference was missing; it is not for output (R174, R178, R182). -/
  flags : Nat := 0
  noRef : Bool := false
  noOutput : Bool := false
  /-- It has yet to take a buffer: its header says whether it goes into the buffer of an open first field; it is the second field of
  that pair (R181). -/
  unplaced : Bool := false
  second : Bool := false
  /-- It is inter-coded; the order identifiers of the usable references at its launch (R175, R176). -/
  inter : Bool := false
  known : List Nat := []
  /-- Each pipe's blocks in the order it reconstructs them; the picture's own chroma format (R161, R162). -/
  order : Store (List Nat) := []
  /-- First blocks of parts, each with the block that is reconstructed before it starts (R162). -/
  gates : List (Nat × Nat) := []
  chroma : Nat := 0
  /-- What each decoder pipe does, and the lowest one that stopped while it ran (R161, R183). -/
  pipes : List PipeWork := []
  failed : Option Nat := none
  deriving DecidableEq, Repr

/-- The bitstream ring of a closed stream, until it is released (R192). -/
structure RingLeft where
  stream : Nat
  base : Nat
  bytes : Nat
  /-- TK_INDEX at the reply of the close. -/
  tick : Nat
  /-- The flow that still sends from it. -/
  flow : Option Nat
  /-- Released bands not wholly sent, and the packets of the oldest still to be made. -/
  unsent : List (Nat × Nat)
  pkts : List Nat := []
  deriving DecidableEq, Repr

/-- The codec units' state outside the registers. -/
structure Codec where
  enc : List EncPic := []
  dec : List DecPic := []
  /-- The stream whose context is resident in each logical pipe, plus one (R193). -/
  resident : List (Nat × Nat) := []
  /-- Pictures of the running tick that completed floored, edge-extended and as repeats (R155). -/
  sumFloor : Nat := 0
  sumEdge : Nat := 0
  sumRepeat : Nat := 0
  /-- Bitstream rings of closed streams (R192). -/
  rings : List RingLeft := []
  /-- SLOT_SWAP commands whose pipes are pending (R197, R198). -/
  swaps : List Cmd := []
  /-- Staged words 0 to 3 of descriptors: key descriptor × 4 + word (R203). -/
  descStage : Store Word := []
  deriving DecidableEq, Repr
/-- The HDM decoder (R376). -/
structure HdmDecoder where
  committed : Bool := false
  base : Nat := 0
  size : Nat := 0
  ways : Nat := 1
  gran : Nat := 256
  /-- Error Not Committed. -/
  err : Bool := false
  deriving DecidableEq, Repr

/-- The error status bits of AER and of the CXL RAS capability (R382, R383). -/
structure LinkErrors where
  correctable : Bool := false
  advisory : Bool := false
  nonFatal : Bool := false
  fatal : Bool := false
  unsupported : Bool := false
  rasCorr : Bool := false
  rasPoison : Bool := false
  rasUncorr : Bool := false
  deriving DecidableEq, Repr

/-- The CXL attachment (R367 to R385): the link, its power state, and what lies outside BAR0. -/
structure Cxl where
  linkUp : Bool := false
  /-- Negotiated speed code and width (R91, R367); R368 trains 64 GT/s x16 where the host allows. -/
  speed : Nat := 6
  width : Nat := 16
  /-- The width in use under L0p, and L1 (R369). -/
  inUse : Nat := 16
  l1 : Bool := false
  /-- D3hot of PF0 (R371). -/
  d3hot : Bool := false
  /-- SR-IOV: NumVFs as written, and VF Enable (R373). -/
  numVfs : Nat := 0
  vfEnable : Bool := false
  /-- The HDM decoder, and the error status bits (R376, R382). -/
  hdm : HdmDecoder := {}
  errors : LinkErrors := {}
  /-- The snoop filter, oldest first: lines by device memory address / 64, and whether the host holds them exclusive (R377). -/
  snoop : List (Nat × Bool) := []
  /-- Lines whose back-invalidate snoop is out. -/
  asked : List Nat := []
  /-- MSI-X: vectors not masked, and pending bits, by function × 256 + vector (R374). -/
  unmasked : Store Bool := []
  pba : Store Bool := []
  /-- Link IDE: the key set in use by protocol × 2 + direction, and the insecure state (R383). -/
  ideSet : Store Nat := []
  insecure : Bool := false
  /-- DOE: a response waits to be read; DOE Error (R384). -/
  doePending : Bool := false
  doeErr : Bool := false
  deriving DecidableEq, Repr

/-- A request at the memory front end (R315 to R319): its ARB0 requester, class, address, length, data when it writes and whether they are
poisoned, `run` when it was presented and granted, the lines whose back-invalidate it waits for, and the line that the host then holds, and
whether exclusive (R377). -/
structure MemReq where
  src : Nat
  sc : Nat
  addr : Nat
  bytes : Nat
  data : Option (List Byte) := none
  poison : Bool := false
  since : Nat := 0
  granted : Nat := 0
  lines : List Nat := []
  track : Option (Nat × Bool) := none
  deriving DecidableEq, Repr

/-- The memory controller outside its registers (R311 to R319). -/
structure MemCtl where
  /-- Requests not granted, oldest first; bursts granted and not complete; controller groups with a burst at the front end. -/
  waiting : List MemReq := []
  bursts : List MemReq := []
  groups : List Nat := []
  /-- Failed tries of the burst that a channel repeats (R312); `run` and temperature when a channel last retrained (R311). -/
  tries : Store Nat := []
  trained : Store (Nat × Nat) := []
  /-- SC0 requests of the last µs: channel, `run`, bytes (R318). -/
  demand : List (Nat × Nat × Nat) := []
  /-- Corrected-error counts of the pages that erred, most recent first (R314). -/
  pages : List (Nat × Nat) := []
  /-- Pages scheduled for retirement, oldest first, each with the channel whose error scheduled it; that channel by table entry while the
  entry is being copied (R314). -/
  scheduled : List (Nat × Nat) := []
  retiring : Store Nat := []
  /-- Granules, by address / 256, that were uncorrectable or whose write was dropped, of pages with no table entry (R314). -/
  marks : Store Bool := []
  /-- Granules that read as poisoned because the host wrote them so (R382). -/
  poison : Store Bool := []
  deriving DecidableEq, Repr

/-- The scratchpad banks and the window-cache test outside their registers (R345, R349, R350, R351). -/
structure Banks where
  /-- `run` when a bank's hand-over began, and whether it clears the bank; `run` when its power transition began, and where it leads. -/
  handover : Store (Nat × Bool) := []
  moving : Store (Nat × Nat) := []
  /-- Window-cache tests: by cluster, the physical pipe, the region and `run` at the start; by pipe, the next region and `run` at its
  last test. -/
  testing : Store (Nat × Nat × Nat) := []
  nextRegion : Store (Nat × Nat) := []
  deriving DecidableEq, Repr
/-- Power state outside the registers (R437, R442, R445, R449, R457). -/
structure Power where
  /-- Tick index of a domain's last transition (R456). -/
  domTick : Store Nat := []
  /-- `run` at which a domain's restore ends. -/
  onAt : Store Nat := []
  /-- Halves in reset, as a mask (R325, R507). -/
  halfReset : Nat := 0
  /-- Every region is slowed for want of a PLL (R469). -/
  pllSlow : Bool := false
  /-- A sleep entry in progress: its TARGET and `run` at the request (R442). -/
  entry : Option (Nat × Nat) := none
  /-- By droop sensor: `run` at which its episode began, at which droop rose to CRIT_MV, and at which the hold began (R449). -/
  slowAt : Store Nat := []
  critAt : Store Nat := []
  holdAt : Store Nat := []
  deriving DecidableEq, Repr

/-- The command processors' and sequencers' state outside the registers (R390 to R410). -/
structure Control where
  /-- The contents of the last load are retained (R392). -/
  retained : Bool := false
  /-- A patch that waits for its switch: its command and image (R399). -/
  patch : Option (Cmd × PatchImage) := none
  /-- Faults that a sequencer takes at its next boundary (R396). -/
  faults : Store (List UsqData) := []
  /-- `AON_LEAD` before a change that no comparison has followed yet (R405). -/
  oldLead : Option DWord := none
  /-- An adopted half whose hand-back takes place at the next tick (R410). -/
  handBack : Option Nat := none
  deriving DecidableEq, Repr

/-- Where the device stands between a reset and READY (R451, R505, R508, R525). -/
structure ResetState where
  /-- The reset whose start-up has not run yet, by its CAUSE (R519); none once READY has set. -/
  due : Option Nat := some 0
  /-- Held in reset after the shutdown at 125 °C, and by a rail (R451, R525). -/
  shut : Bool := false
  rail : Bool := false
  deriving DecidableEq, Repr

/-- An access unit that ingest is reassembling (R276): its RTP timestamp, its chain of BP1 buffers, its bytes, and whether packets are
discarded until the next start of a NAL unit or OBU. -/
structure RxUnit where
  ts : Nat
  bufs : List (Nat × Nat) := []
  bytes : Nat := 0
  /-- Where a NAL unit or OBU begins that the last packet did not end. -/
  tail : Option Nat := none
  skip : Bool := false
  /-- The pool gave no buffer: the rest is a gap. -/
  cut : Bool := false
  deriving DecidableEq, Repr

/-- An ST 2110-20 picture that ingest is receiving (R279): its RTP timestamp, the descriptor, and the pgroups received of each
picture row, as a mask. -/
structure RxPicture where
  ts : Nat
  fb : Nat
  rows : Store Nat := []
  bad : List Nat := []
  deriving DecidableEq, Repr

/-- A flow (R271 to R280). -/
structure Flow where
  live : Bool := false
  func : Nat := 0
  words : List Nat := []
  /-- Complete access units staged by ingest, oldest first: their buffers and bytes (R167, R276). -/
  aus : List (List (Nat × Nat) × Nat) := []
  cur : Option RxUnit := none
  /-- The next RTP sequence number expected, and packets held within the reorder window (R276). -/
  want : Option Nat := none
  early : List RxPkt := []
  /-- INGEST_MAP in force and the one for the next picture; the place in the rotation (R277, R279). -/
  map : List Nat := []
  mapNext : Option (List Nat) := none
  /-- The ST 2110-20 picture being received (R279). -/
  pic : Option RxPicture := none
  /-- The place in the rotation of descriptors (R279). -/
  rot : Nat := 0
  /-- The RTP timestamp of a picture that found no buffer (R279). -/
  lostTs : Option Nat := none
  /-- SRTP ingest: the highest index accepted and those accepted within 128 of it; exhausted (R494). -/
  top : Option Nat := none
  seen : List Nat := []
  spent : Bool := false
  /-- Packets of the flow put on the wire since it opened: SEQ0 and this give the next sequence number (R273). -/
  sentPkts : Nat := 0
  /-- The counters of R280. -/
  packets : Nat := 0
  bytes : Nat := 0
  dropped : Nat := 0
  /-- Egress bands dropped. -/
  drops : Nat := 0
  /-- Access units and pictures done, packets missing, and pictures lost (R280). -/
  done : Nat := 0
  missing : Nat := 0
  lost : Nat := 0
  deriving DecidableEq, Repr

/-- A substitution that is asked for and not yet in effect (R465, R466, R470): the SPARE_SWAP handle of the unit, RETURN, why
(0 a command, 1 a stop or failure, 2 wear), and the command to answer. -/
structure SpareReq where
  handle : Nat
  back : Bool := false
  why : Nat := 0
  cmd : Option Cmd := none
  deriving DecidableEq, Repr

/-- The monitors' and the spares' state outside the registers (R458, R463, R465 to R473). -/
structure Spare where
  /-- MONITOR_CONFIG words that wait for the next tick, by monitor. -/
  monNext : Store (List Nat) := []
  /-- `run` at the last periodic sample. -/
  monLast : Nat := 0
  /-- Substitutions asked for and not yet in effect (R466). -/
  reqs : List SpareReq := []
  /-- The repair log in OTP, and the entries being programmed. -/
  log : List Nat := []
  writing : List Nat := []
  /-- The scratchpad bank that is being copied to the spare bank, and the command to answer. -/
  copy : Option (Nat × Option Cmd) := none
  /-- Corrected errors of a scratchpad bank since start-up. -/
  bankCe : Store Nat := []
  deriving DecidableEq, Repr

/-- A frame in the cell pool, or waiting for cells (R287, R354): its queue, its length, what it is (0 a packet of a flow, 1 a ring
message, 2 a PTP entry), whether it is relayed, its stream or port, tick, and its header and payload words or marker bit. -/
structure Frame where
  queue : Nat
  bytes : Nat
  kind : Nat := 0
  relayed : Bool := false
  owner : Nat := 0
  tick : Nat := 0
  last : Bool := false
  words : List Nat := []
  /-- The length check has held it once (R294). -/
  held : Bool := false
  /-- `run` when it became the head of its queue (R458, source 5), and when band 0 was released, for the first packet of it. -/
  headAt : Nat := 0
  bandAt : Option Nat := none
  deriving DecidableEq, Repr

/-- Frames on their way out (R287, R288, R354 to R356). -/
structure Net where
  /-- Frames that wait for cells, oldest first. -/
  waiting : List Frame := []
  /-- Frames of each queue, oldest first. -/
  queued : Store (List Frame) := []
  /-- The egress queue served last on a port, for the round robin: key port × 8 + traffic class. -/
  served : Store Nat := []
  /-- The frame a port or link (0 to 5) is sending, and `run` at its end. -/
  sending : Store (Frame × Nat) := []
  /-- Queues whose flush waits for their frame in transmission; the queue being swept, its cells and `run` at the start (R356). -/
  flushing : List Nat := []
  sweep : Option (Nat × Nat × Nat) := none
  deriving DecidableEq, Repr

/-- A copy of a gate list (R289, R290): the fields GATE_LIST_LOAD gives it. -/
structure GateCopy where
  lock : Bool := false
  cycle : Nat := 0
  base : Nat := 0
  entries : List Nat := []
  deriving DecidableEq, Repr

/-- A gate list (R289 to R293): its copies, the pending switch (an instant for a free-running list, the earliest tick time for a
tick-locked one), BASE_PASSED of it, where the running tick-locked cycle started, and a load that waits for a switch (R292). -/
structure GateList where
  oper : Option GateCopy := none
  admin : GateCopy := {}
  pending : Option Nat := none
  passed : Bool := false
  start : Nat := 0
  after : Option (GateCopy × Cmd) := none
  deriving DecidableEq, Repr

/-- Credits of a two-bucket shaper or policer in units of 2^-32 byte, and `run` when they were last added to (R299, R302). -/
structure Buckets where
  c : Int := 0
  p : Int := 0
  last : Nat := 0
  deriving DecidableEq, Repr

/-- A control shaper (R300): credit in 2^-32 packet, when last added to, and whether the head waits for it. -/
structure CtlShaper where
  c : Nat := 0
  last : Nat := 0
  waited : Bool := false
  deriving DecidableEq, Repr

/-- Gates, shapers and policers outside their registers; a bucket that is not listed is full. -/
structure Traffic where
  lists : Store GateList := []
  shapers : Store Buckets := []
  policers : Store Buckets := []
  controls : Store CtlShaper := []
  deriving DecidableEq, Repr

/-- What a member's FINAL reports (R240). -/
structure FinalRec where
  flags : Nat := 0
  bits : Nat := 0
  carry : Nat := 0
  cplx : Nat := 0
  cut : Nat := 0
  deriving DecidableEq, Repr

/-- One side of a ring stream's halo of a tick (R233, R235): bytes held, arrived in time, and missing for the picture. -/
structure HaloSide where
  tick : Nat := 0
  bytes : Nat := 0
  arrived : Bool := false
  missing : Bool := false
  deriving DecidableEq, Repr

/-- A band on its way to the picture lead (R232): bytes held and its flags. -/
structure FwdBand where
  total : Nat := 0
  bytes : Nat := 0
  flags : Nat := 0
  payload : List Byte := []
  dropped : Bool := false
  deriving DecidableEq, Repr

/-- The state of a ring stream on this device, by RSID (R232 to R242). -/
structure RsState where
  /-- The tick of the last PLAN held, its picture type, the next picture's type, CAP, target and shares. -/
  planTick : Option Nat := none
  keyNow : Bool := false
  nextKey : Bool := true
  target : Nat := 0
  shares : List Nat := []
  /-- The configuration differs from the DIGEST of a PLAN. -/
  badCfg : Bool := false
  /-- The first picture of the ring stream has been launched (R242). -/
  started : Bool := false
  /-- Tokens carried into the next picture, and those of the running one. -/
  carry : Nat := 0
  granted : Nat := 0
  /-- Bits donated in the running picture; an ASK is open; the last SEQ used (R240, R241). -/
  donated : Nat := 0
  askOpen : Bool := false
  seq : Nat := 0
  /-- Picture lead: bank pool, the tick whose FINALs are gathered and the FINALs by position, the tick PLAN was sent for, a key
  picture due, bits of the lead's own headers and filler. -/
  pool : Nat := 0
  finalTick : Nat := 0
  finals : Store FinalRec := []
  planSent : Option Nat := none
  keyDue : Bool := false
  leadBits : Nat := 0
  /-- Picture lead: the tick of the bands gathered, the bands, and the next one to release. -/
  fwdTick : Nat := 0
  fwd : Store FwdBand := []
  fwdNext : Nat := 0
  /-- Halo sides: 0 above, 1 below. -/
  above : HaloSide := {}
  below : HaloSide := {}
  /-- Seam exchange of the running picture: SEAM_UP bytes and SEAM_DOWN bytes held. -/
  seamTick : Nat := 0
  seamUp : Nat := 0
  seamDown : Nat := 0
  /-- The picture went unfiltered at a seam (R236). -/
  seamLate : Bool := false
  /-- Its own strips have been sent up and returned down; the sides whose 16 rows are dirty in the reference, as a mask (R236). -/
  sentUp : Bool := false
  sentDown : Bool := false
  dirty : Nat := 0
  deriving DecidableEq, Repr

/-- A role change that is scheduled (R226). -/
structure RoleSwitch where
  kind : Nat
  rsid : Nat
  pos : Nat
  origin : Nat
  epoch : Nat
  tick : Nat
  deriving DecidableEq, Repr

/-- A RING_JOIN in progress (R219): its command and when it began. -/
structure Joining where
  cmd : Cmd
  since : Nat
  deriving DecidableEq, Repr

/-- A migration record of Snowdrop (R250, R251, R255), with what the copy still lacks. -/
structure MigRec where
  id : Nat := 0
  /-- 1 source, 2 destination. -/
  role : Nat := 0
  /-- The step of the record (R251). -/
  step : Nat := 0
  /-- Domain address or ring position of the other device (R246). -/
  peer : Nat := 0
  /-- The freeze tick f, and the tick at which STEP last changed (R247, R251, R255). -/
  freeze : Nat := 0
  lastTick : Nat := 0
  /-- The destination's handle, 0xFFFF while it is not known (R223). -/
  peerHandle : Nat := 0xFFFF
  /-- The command to answer (R246). -/
  cmd : Option Cmd := none
  /-- Destination: the source has answered or sent its configuration; source: freeze asked for and not done. -/
  heard : Bool := false
  asked : Bool := false
  /-- Destination: the configuration words and the class 0x04 record received, whether they are in force, and whether a region failed its
  check (R247). -/
  conf : List Nat := []
  context : List Byte := []
  placed : Bool := false
  bad : Bool := false
  /-- A reset came in between, and whether device memory was lost in it (R513). -/
  after : Option Bool := none
  deriving DecidableEq, Repr

/-- Ring state outside the registers (R219 to R251). -/
structure RingState where
  /-- The role table: tick lead, and picture lead by RSID (R225); no entry while none is set. -/
  tlead : Option Nat := none
  plead : Store Nat := []
  /-- The table is held (HAS_TABLE, R223). -/
  hasTable : Bool := false
  /-- A role change that is scheduled (R226). -/
  switch : Option RoleSwitch := none
  /-- This device's own ROLE_SET: the command and the update it sent. -/
  ownSwitch : Option (Cmd × RoleSwitch) := none
  /-- A RING_JOIN in progress (R219). -/
  joining : Option Joining := none
  /-- Round trips timed on a link since it came up, and the serial number of the neighbour confirmed (R219, R263). -/
  rtt : Store (List Nat) := []
  nbSerial : Store Nat := []
  /-- A RING_LEAVE that waits for the tick (R220). -/
  leaving : Option Cmd := none
  /-- Ring streams by RSID (R229). -/
  rs : Store RsState := []
  /-- Migration records by number, and the last MIG_ID given (R246, R255). -/
  mig : Store MigRec := []
  migSeq : Nat := 0
  deriving DecidableEq, Repr

/-- A key (R491, R492): its identifier, and its bytes: master key and salt, a transport key, or an IDE key and vector. -/
structure Key where
  id : Nat
  bytes : List Byte
  deriving DecidableEq, Repr

/-- A slot of the key store (R490, R491): the function it is assigned to, loads since cold reset, the current and the next key. -/
structure KeySlot where
  func : Nat := 0
  loads : Nat := 0
  cur : Option Key := none
  next : Option Key := none
  deriving DecidableEq, Repr

/-- The security module outside its registers (R483 to R500). -/
structure Security where
  slots : Store KeySlot := []
  /-- OTP: DECOMMISSIONED is burned (R495); the identity certificate does not verify against the root (R500). -/
  burned : Bool := false
  certBad : Bool := false
  /-- The identity seed failed its check at start-up: no identity, without the OTP bit (R497). -/
  seedBad : Bool := false
  /-- The pre-operational tests are still to run since domain SEC came ON (R484). -/
  testsDue : Bool := true
  deriving DecidableEq, Repr


/-- The whole state. -/
structure State where
  /-- Commands that wait, first in first out. -/
  pending : List Instr := []
  /-- Every BAR0 register that differs from its reset value, by `regKey`. -/
  regs : Store DWord := []
  /-- Low words of 64-bit registers written and held until the high word is written (R19), by `regKey`. -/
  lowHeld : Store Word := []
  /-- Device memory (GDDR7), host memory as the device has written it, and the scratchpads, byte addressed. -/
  mem : Store Byte := []
  /-- Host memory as the device has written it (R63). -/
  hostMem : Store Byte := []
  /-- The scratchpad banks (R343). -/
  spad : Store Byte := []
  /-- The part, its fuses and straps (R3, R11). -/
  chip : Chip := {}
  /-- The time base (R22 to R56). -/
  tb : TimeBase := {}
  /-- Levels of pins (R533). -/
  pins : Pins := {}
  /-- Command queues (R63 to R80). -/
  cmd : CmdUnit := {}
  /-- Interrupt targets by number: PF0 vectors 0 to 255, VF vectors from 512, the two CPXs at 768 and 769 (R419, R424). -/
  targets : Store IntTarget := []
  /-- The level fault conditions asserted now, bit s for FSs (R426, R428). -/
  levels : DWord := 0
  /-- Generations of objects, by class × 65536 + handle (R88); an object changed since the last reset has one above 0. -/
  gens : Store Nat := []
  /-- Stream contexts by handle (R188). -/
  streams : Store Stream := []
  /-- Pictures in flight (R119, R165). -/
  codec : Codec := {}
  /-- VFs enabled: NumVFs while VF Enable is 1, and 0 while it is 0; retained over a link reset (R91, R373, R516). -/
  vfs : Nat := 0
  vfsRetained : Nat := 0
  /-- The CXL attachment (R367 to R385). -/
  cxl : Cxl := {}
  /-- Buffers taken from the pools, by pool × 131072 + index (R357, R358). -/
  bpTaken : Store Bool := []
  /-- Rotating pointers of the arbiters (R321). -/
  arbPtr : Store Nat := []
  /-- Survivor records: the stream contexts kept across a warm reset (R512). -/
  survivors : Store Stream := []
  /-- Power domains, sleep and supply (R435 to R457). -/
  power : Power := {}
  /-- Flows by handle (R271). -/
  flows : Store Flow := []
  /-- The ring and migrations (R218 to R256). -/
  ring : RingState := {}
  /-- Monitors, wear and spares (R458 to R478). -/
  spare : Spare := {}
  /-- The cell pool and frames on their way (R287, R353). -/
  net : Net := {}
  /-- Gates, shapers and policers (R289 to R308). -/
  traffic : Traffic := {}
  /-- The security module (R481 to R504). -/
  security : Security := {}
  /-- Lane checkers that are locked (R265). -/
  prbs : Store Bool := []
  /-- The memory controller (R309 to R342). -/
  memctl : MemCtl := {}
  /-- Scratchpad banks and window-cache tests (R343 to R352). -/
  banks : Banks := {}
  /-- Command processors and sequencers (R386 to R415). -/
  ctl : Control := {}
  /-- Where the device stands between reset and READY (R505 to R513). -/
  resets : ResetState := {}
  /-- The value the last reading command returned. -/
  lastRead : DWord := 0
  /-- Outputs, newest first (the model's own record). -/
  sent : List Sent := []
  /-- How many free values have been taken (the model's own counter). -/
  freeCtr : Nat := 0
  deriving DecidableEq, Repr

/-- The key a register instance is stored under. -/
def regKey (r : Reg) (i : Nat) : Nat := i * 512 + r.ctorIdx

/-- The reset value of a register instance: that of the map, but for the registers whose tables give one per instance
(R425, R326, R363, R435, R338) and for `GT_STS`, whose field table gives GATES 0xFF (R305). -/
def regReset (r : Reg) (i : Nat) : DWord :=
  match r with
  | .IC_SRC_CFG =>
    if i < 64 then BitVec.ofNat 64 (8 + i * 256) else if i < 250 then 0x38 else 0
  | .ARB_CTL => if i = 0 ∨ i = 3 then 0 else 0x00400000
  | .SPD_BANK_STS => BitVec.ofNat 64 (i * 256)
  | .DMA_CH_OWNER => if 56 ≤ i then 0x3F else 0
  | .GT_STS => 0x00FF0000
  | _ => BitVec.ofNat 64 (regInfo r).reset

/-- `GLB_FUSE_CFG` as it reads (R11, R12, R14): the part's fuses, with TEST_MODE from the strap; with FUSE_ERR the unit fields
read 0. -/
def fuseReading (c : Chip) : Nat :=
  let f := if c.fuseErr then (Config.fuseWord c.part &&& 0x0000000700000000) + 2 ^ 40 else Config.fuseWord c.part
  if c.strapTest then f + 2 ^ 39 else f

/-- The register values that fuses fix (R8, R10, R11, R15): listed whatever the kind of reset. -/
def fuseRegs (c : Chip) : Store DWord :=
  ([(regKey .GLB_PART 0, BitVec.ofNat 64 (Config.partWord c.part)), (regKey .GLB_FUSE_CFG 0, BitVec.ofNat 64 (fuseReading c)),
    (regKey .GLB_SERIAL 0, BitVec.ofNat 64 c.serial)] : Store DWord).filter fun e => e.2 != 0

/-- The block right after a cold reset: every register at its reset value, device time 0, no grid, memory unwritten, nothing
waiting (R62, R93, R217, R434, R518). -/
def State.reset : State := { regs := fuseRegs {} }

end Sys2Proof.Machine
end

