-- ==== Sys2Proof/Machine/Ops.lean ====
section
/-!
DEFINITION. The named operations over registers, memories and time that every meaning is written with.
-/
namespace Sys2Proof.Machine

/-- What a command's meaning answers. -/
abbrev Out := Host.Outcome State Fault Refusal

/-! ### Registers -/

/-- The value a register instance holds: listed, or its reset value. -/
def State.reg (s : State) (r : Reg) (i : Nat := 0) : DWord :=
  (storeFind s.regs (regKey r i)).getD (regReset r i)

/-- Set a register instance. -/
def State.setReg (s : State) (r : Reg) (v : DWord) (i : Nat := 0) : State :=
  { s with regs := if v = regReset r i then storeDrop s.regs (regKey r i) else storeInsert s.regs (regKey r i) v }

/-- A register's value as a number. -/
def State.regN (s : State) (r : Reg) (i : Nat := 0) : Nat := (s.reg r i).toNat

/-- Set a register instance to a number, at the register's width. -/
def State.putN (s : State) (r : Reg) (v : Nat) (i : Nat := 0) : State :=
  s.setReg r (BitVec.ofNat 64 (if (regInfo r).wide then v else v % 2 ^ 32)) i

/-- A field of a register instance. -/
def State.fld (s : State) (f : Field) (i : Nat := 0) : Nat := bitField (s.reg f.reg i) f.lo f.width

/-- A one-bit field read as a flag. -/
def State.flag (s : State) (f : Field) (i : Nat := 0) : Bool := s.fld f i != 0

/-- Set a field of a register instance. -/
def State.setFld (s : State) (f : Field) (x : Nat) (i : Nat := 0) : State :=
  s.setReg f.reg (setBitField (s.reg f.reg i) f.lo f.width x) i

/-- Set a one-bit field. -/
def State.setFlag (s : State) (f : Field) (b : Bool) (i : Nat := 0) : State := s.setFld f b.toNat i

/-- Count up a 32-bit counter register, which saturates. -/
def State.bump (s : State) (r : Reg) (n : Nat := 1) (i : Nat := 0) : State :=
  s.putN r (satAdd 0xFFFFFFFF (s.regN r i) n) i

/-- Count up a counter field, which saturates at its width. -/
def State.bumpFld (s : State) (f : Field) (n : Nat := 1) (i : Nat := 0) : State :=
  s.setFld f (satAdd (2 ^ f.width - 1) (s.fld f i) n) i

/-- Keep a register at the largest value seen. -/
def State.maxReg (s : State) (r : Reg) (v : Nat) (i : Nat := 0) : State :=
  if s.regN r i < v then s.putN r (min v 0xFFFFFFFF) i else s

/-- Put a register instance back to its reset value. -/
def State.resetReg (s : State) (r : Reg) (i : Nat := 0) : State :=
  { s with regs := storeDrop s.regs (regKey r i), lowHeld := storeDrop s.lowHeld (regKey r i) }

/-- Put the registers of a list, instances `lo` up to `hi`, back to their reset values. -/
def State.resetRange (s : State) (rs : List Reg) (lo hi : Nat) : State :=
  let hit := fun k => decide (lo ≤ k / 512) && decide (k / 512 < hi) && rs.any fun r => r.ctorIdx == k % 512
  { s with regs := storeErase hit s.regs, lowHeld := storeErase hit s.lowHeld }

/-! ### Memories -/

/-- A memory a queue or a record lies in (R63, R86): host memory over CXL.cache, or device memory. -/
inductive Space where
  | host | device
  deriving DecidableEq, Repr

/-- What a byte of memory that nothing has written reads as (DESIGN CHOICE, log entry 5). -/
def blankByte : Byte := 0

/-- One byte of a sparse memory. -/
def memRead (m : Store Byte) (a : Nat) : Byte := (storeFind m a).getD blankByte

/-- Write one byte of a sparse memory. -/
def memWrite (m : Store Byte) (a : Nat) (b : Byte) : Store Byte :=
  if b = blankByte then storeDrop m a else storeInsert m a b

/-- Write bytes from an address on. -/
def memWriteList (m : Store Byte) (a : Nat) : List Byte → Store Byte
  | [] => m
  | b :: bs => memWriteList (memWrite m a b) (a + 1) bs

/-- Read `n` bytes from an address on. -/
def memReadList (m : Store Byte) (a : Nat) : Nat → List Byte
  | 0 => []
  | n + 1 => memRead m a :: memReadList m (a + 1) n

/-- The canonical form of a memory: addresses rising, no entry at the blank value. -/
def memWf (m : Store Byte) : Bool := storeWf (fun _ => blankByte) m

/-- A byte of host or device memory. -/
def State.byte (s : State) (sp : Space) (a : Nat) : Byte :=
  match sp with
  | .host => memRead s.hostMem a
  | .device => memRead s.mem a

/-- Write bytes to host or device memory. -/
def State.store (s : State) (sp : Space) (a : Nat) (bs : List Byte) : State :=
  match sp with
  | .host => { s with hostMem := memWriteList s.hostMem a bs }
  | .device => { s with mem := memWriteList s.mem a bs }

/-- Read bytes of host or device memory. -/
def State.load (s : State) (sp : Space) (a n : Nat) : List Byte :=
  match sp with
  | .host => memReadList s.hostMem a n
  | .device => memReadList s.mem a n

/-- The memory a LOC bit names: 0 host memory, 1 device memory. -/
def spaceOf (loc : Nat) : Space := if loc % 2 = 1 then .device else .host

/-! ### Objects -/

/-- The key of an object's generation. -/
def genKey (cls h : Nat) : Nat := cls * 65536 + h

/-- The generation of an object (R88). -/
def State.gen (s : State) (cls h : Nat) : Nat := (storeFind s.gens (genKey cls h)).getD 0

/-- An object changed: its generation increments and wraps at 2^32 (R88). -/
def State.touch (s : State) (cls h : Nat) : State :=
  let g := (s.gen cls h + 1) % 2 ^ 32
  { s with gens := if g = 0 then storeDrop s.gens (genKey cls h) else storeInsert s.gens (genKey cls h) g }

/-- The context of a stream handle. -/
def State.stream (s : State) (h : Nat) : Stream := (storeFind s.streams h).getD {}

/-- Set the context of a stream handle. -/
def State.setStream (s : State) (h : Nat) (x : Stream) : State :=
  { s with streams := if x = ({} : Stream) then storeDrop s.streams h else storeInsert s.streams h x }

/-- Change the context of a stream handle. -/
def State.onStream (s : State) (h : Nat) (f : Stream → Stream) : State := s.setStream h (f (s.stream h))

/-! ### Outputs and free values -/

/-- Record an output. -/
def State.emit (s : State) (x : Sent) : State := { s with sent := x :: s.sent }

/-- Take a free value: one the spec leaves open. -/
def State.free (s : State) : DWord := Config.freeWord s.freeCtr

/-- Count free values taken. -/
def State.tookFree (s : State) (n : Nat := 1) : State := { s with freeCtr := s.freeCtr + n }

/-- `n` free bytes, starting at the next free value. -/
def State.freeBytes (s : State) (n : Nat) : List Byte :=
  (List.range n).map fun k => (Config.freeWord (s.freeCtr + k)).setWidth 8

/-! ### Time -/

/-- Device time passes by `n` ns, and with it every duration the block counts. -/
def State.pass (s : State) (n : Nat) : State :=
  { s with tb := { s.tb with ns := s.tb.ns + n, run := s.tb.run + n } }

/-- Device time reaches instant `t`, when that is still ahead. -/
def State.reach (s : State) (t : Nat) : State := if s.tb.ns < t then s.pass (t - s.tb.ns) else s

/-- The index of the last tick of the grid that fired or was counted missed (R29). -/
def State.tickIndex (s : State) : Nat := s.regN .TK_INDEX

/-- T(n): the grid time of a tick index (R27). -/
def State.tickTime (s : State) (n : Nat) : Nat :=
  let den := s.fld TK_DEN_DEN
  if den = 0 then 0 else n * 1000000000 * s.fld TK_NUM_NUM / den

/-- The instant `TK_NEXT` names. -/
def State.nextTick (s : State) : Nat := s.regN .TK_NEXT_SEC * 1000000000 + s.regN .TK_NEXT_NS

/-! ### The part -/

/-- A unit bit of the fuses: fuse-off units are absent (R3, R7, R11, R12). -/
def State.fuse (s : State) (f : Field) : Nat := bitField (BitVec.ofNat 64 (fuseReading s.chip)) f.lo f.width

/-- Cluster `c` is present. -/
def State.clusterPresent (s : State) (c : Nat) : Bool := (s.fuse GLB_FUSE_CFG_CL_EN).testBit c

/-- Decoder pipe `n` is present. -/
def State.decPresent (s : State) (n : Nat) : Bool := (s.fuse GLB_FUSE_CFG_DP_EN).testBit n

/-- Logical pipe `p` of the 24 (EP0 to EP15, then DP0 to DP7) is present. -/
def State.pipePresent (s : State) (p : Nat) : Bool :=
  if p < 16 then s.clusterPresent (p / 4) else decide (p < 24) && s.decPresent (p - 16)

/-- Lane `l` is bonded. -/
def State.lanePresent (s : State) (l : Nat) : Bool := (s.fuse GLB_FUSE_CFG_LANE_EN).testBit l

/-- Package B (R3, R11). -/
def State.packageB (s : State) : Bool := s.fuse GLB_FUSE_CFG_PKG == 1

/-- GDDR7 channel `n` is present: MC0 to MC7 with MEM_64, else all sixteen (R11). -/
def State.channelPresent (s : State) (n : Nat) : Bool :=
  if s.fuse GLB_FUSE_CFG_MEM_64 = 1 then decide (n < 8) else decide (n < 16)

/-- Micro-sequencer `u` is present: USQ0 to USQ3 with their clusters, USQ4 and USQ5 always (R6, R100, R160, R412). -/
def State.usqPresent (s : State) (u : Nat) : Bool := if u < 4 then s.clusterPresent u else decide (u < 6)

/-- The half a logical pipe belongs to (R18). -/
def pipeHalf (p : Nat) : Nat := if p < 16 then p / 8 else (p - 16) / 4

/-- The lead half (R402). -/
def State.leadHalf (s : State) : Nat := s.fld AON_LEAD_OWNER

/-- A half is adopted: `CPX_STS.ADOPTED` stands in the other one (R409). -/
def State.adopted (s : State) (h : Nat) : Bool := s.flag CPX_STS_ADOPTED (1 - h)

/-- The lead CPX runs and is not fenced: it fetches and serves commands (R390, R406). -/
def State.leadRuns (s : State) : Bool :=
  s.flag CPX_STS_RUNNING s.leadHalf && !s.flag CPX_STS_FENCED s.leadHalf && !s.flag CPX_STS_HALTED s.leadHalf

/-- The CXL link as the identity record shows it (R91): current speed and negotiated width; 0 while the link is down. -/
def State.linkWord (s : State) : Nat := if s.cxl.linkUp then s.cxl.speed % 16 + s.cxl.width % 64 * 16 else 0

/-- VF `f` is enabled; PF0 always is. -/
def State.funcEnabled (s : State) (f : Nat) : Bool := f = 0 || (decide (f ≤ 32) && decide (f ≤ s.vfs))

end Sys2Proof.Machine
end

