-- ==== Sys2Proof/Machine/Flags.lean ====
section
/-!
DEFINITION. Events, interrupt sources, the fault collector and the outputs that follow from register state (R416 to R432,
R540): every status and flag computation the units share.
-/
namespace Sys2Proof.Machine

/-! ### Interrupt sources -/

/-- The enable register of an event register (R125, R186, R254, R285, R306, R340, R364, R414, R455, R476, R503); none for an
event register that raises no source. -/
def evtEnable : Reg → Option Reg
  | .ENC_EP_EVT => some .ENC_EP_EVT_EN
  | .DEC_DP_EVT => some .DEC_DP_EVT_EN
  | .SCT_EVT => some .SCT_EVT_EN
  | .LN_EVT => some .LN_EVT_EN
  | .ETH_EVT => some .ETH_EVT_EN
  | .FL_EVT => some .FL_EVT_EN
  | .RING_EVT => some .RING_EVT_EN
  | .GT_EVT => some .GT_EVT_EN
  | .SH_EVT => some .SH_EVT_EN
  | .MC_CH_EVT => some .MC_CH_EVT_EN
  | .ARB_EVT => some .ARB_EVT_EN
  | .DMA_STS => some .DMA_CH_EVT_EN
  | .BP_EVT => some .BP_EVT_EN
  | .CELLQ_EVT => some .CELLQ_EVT_EN
  | .MON_EVT => some .MON_EVT_EN
  | .MON_GLB_EVT => some .MON_GLB_EVT_EN
  | .SPR_EVT => some .SPR_EVT_EN
  | .PM_EVT => some .PM_EVT_EN
  | .DRP_EVT => some .DRP_EVT_EN
  | .SEC_EVT => some .SEC_EVT_EN
  | .CPX_EVT => some .CPX_EVT_EN
  | .USQ_EVT => some .USQ_EVT_EN
  | _ => none

/-- The interrupt source that bit `b` of instance `i` of an event register raises (R416 and the rules named at
`evtEnable`). -/
def evtSource (r : Reg) (i b : Nat) : Option Nat :=
  match r with
  | .ENC_EP_EVT => some (64 + i)
  | .DEC_DP_EVT => some (80 + i)
  | .SCT_EVT => some (88 + i)
  | .LN_EVT => some (104 + i)
  | .ETH_EVT => some (120 + i)
  | .FL_EVT => some (124 + i)
  | .RING_EVT => some 124
  | .GT_EVT => some (126 + i)
  | .SH_EVT => some (132 + i)
  | .MC_CH_EVT => some (138 + i)
  | .ARB_EVT => some (154 + i)
  | .DMA_STS => if b < 4 then some (162 + i) else none
  | .BP_EVT => some (226 + i)
  | .CELLQ_EVT => if b < 2 then some 230 else if b = 2 then some 231 else if b = 3 then some 232 else some 233
  | .MON_EVT => if b < 16 then some 234 else some 235
  | .MON_GLB_EVT => some 236
  | .SPR_EVT => some 237
  | .PM_EVT => if b < 5 then some 238 else if b < 10 then some 240 else some 241
  | .DRP_EVT => some 239
  | .SEC_EVT => if b < 2 then some 242 else if b < 6 then some 243 else if b < 8 then some 244 else some 245
  | .CPX_EVT => some (248 + i)
  | .USQ_EVT => if i = 0 ∨ i = 1 ∨ i = 4 then some 248 else some 249
  | _ => none

/-- The pending bit of a source. -/
def State.pendBit (s : State) (n : Nat) : Bool := (s.regN .IC_PEND (n / 32)).testBit (n % 32)

/-- The active bit of a source. -/
def State.activeBit (s : State) (n : Nat) : Bool := (s.regN .IC_ACTIVE (n / 32)).testBit (n % 32)

/-- Set or clear the bit of a source in a word array. -/
def State.srcBit (s : State) (r : Reg) (n : Nat) (b : Bool) : State :=
  s.setReg r (setBitField (s.reg r (n / 32)) (n % 32) 1 b.toNat) (n / 32)

/-- A source is raised (R417): it becomes pending, and a raise of a pending source is merged and counted. Sources 250 to 255
are never raised (R416). -/
def State.raise (s : State) (n : Nat) : State :=
  if 250 ≤ n then s
  else if s.pendBit n then s.bump .IC_MERGE_CNT
  else s.srcBit .IC_PEND n true

/-- A time base or tick event: its bit of `TB_EVT` is set and its source raised (R56, R417). -/
def State.tbEvent (s : State) (n : Nat) : State :=
  (s.setReg .TB_EVT (setBitField (s.reg .TB_EVT) (n - 92) 1 1)).raise n

/-- A bit of an event register sets: its source is raised when the bit was 0 and its enable is 1 (R417; DEDUCED, log entry 12:
a bit that is set already does not set again). -/
def State.event (s : State) (f : Field) (i : Nat := 0) : State :=
  if s.flag f i then s
  else
    let s' := s.setFld f 1 i
    match evtEnable f.reg, evtSource f.reg i f.lo with
    | some en, some n => if bitField (s.reg en i) f.lo 1 = 1 then s'.raise n else s'
    | _, _ => s'

/-- An event when a condition holds. -/
def State.eventIf (s : State) (b : Bool) (f : Field) (i : Nat := 0) : State := if b then s.event f i else s

/-- The event registers whose bits raise a source, with the bits that do (R416). -/
def sourceRegs (n : Nat) : List (Reg × Nat × Nat) :=
  if n < 64 then []
  else if n < 80 then [(.ENC_EP_EVT, n - 64, 0xFFFFFFFF)]
  else if n < 88 then [(.DEC_DP_EVT, n - 80, 0xFFFFFFFF)]
  else if n < 92 then [(.SCT_EVT, n - 88, 0xFFFFFFFF)]
  else if n < 104 then []
  else if n < 120 then [(.LN_EVT, n - 104, 0xFFFFFFFF)]
  else if n < 124 then [(.ETH_EVT, n - 120, 0xFFFFFFFF)]
  else if n = 124 then [(.FL_EVT, 0, 0xFFFFFFFF), (.RING_EVT, 0, 0xFFFFFFFF)]
  else if n = 125 then [(.FL_EVT, 1, 0xFFFFFFFF)]
  else if n < 132 then [(.GT_EVT, n - 126, 0xFFFFFFFF)]
  else if n < 138 then [(.SH_EVT, n - 132, 0xFFFFFFFF)]
  else if n < 154 then [(.MC_CH_EVT, n - 138, 0xFFFFFFFF)]
  else if n < 162 then [(.ARB_EVT, n - 154, 0xFFFFFFFF)]
  else if n < 226 then [(.DMA_STS, n - 162, 0xF)]
  else if n < 230 then [(.BP_EVT, n - 226, 0xFFFFFFFF)]
  else if n = 230 then [(.CELLQ_EVT, 0, 0x3)]
  else if n = 231 then [(.CELLQ_EVT, 0, 0x4)]
  else if n = 232 then [(.CELLQ_EVT, 0, 0x8)]
  else if n = 233 then [(.CELLQ_EVT, 0, 0x30)]
  else if n = 234 then [(.MON_EVT, 0, 0xFFFF)]
  else if n = 235 then [(.MON_EVT, 0, 0xFFFF0000)]
  else if n = 236 then [(.MON_GLB_EVT, 0, 0xFFFFFFFF)]
  else if n = 237 then [(.SPR_EVT, 0, 0xFFFFFFFF)]
  else if n = 238 then [(.PM_EVT, 0, 0x1F)]
  else if n = 239 then [(.DRP_EVT, 0, 0xFFFFFFFF)]
  else if n = 240 then [(.PM_EVT, 0, 0x300)]
  else if n = 241 then [(.PM_EVT, 0, 0x1000)]
  else if n = 242 then [(.SEC_EVT, 0, 0x3)]
  else if n = 243 then [(.SEC_EVT, 0, 0x3C)]
  else if n = 244 then [(.SEC_EVT, 0, 0xC0)]
  else if n = 245 then [(.SEC_EVT, 0, 0x700)]
  else if n = 248 then [(.CPX_EVT, 0, 0xFFFFFFFF), (.USQ_EVT, 0, 0xFFFFFFFF), (.USQ_EVT, 1, 0xFFFFFFFF), (.USQ_EVT, 4, 0xFFFFFFFF)]
  else if n = 249 then [(.CPX_EVT, 1, 0xFFFFFFFF), (.USQ_EVT, 2, 0xFFFFFFFF), (.USQ_EVT, 3, 0xFFFFFFFF), (.USQ_EVT, 5, 0xFFFFFFFF)]
  else []

/-- The replies of CPLQn that wait in its holding list. -/
def State.heldFor (s : State) (n : Nat) : List Reply := s.cmd.heldReplies.filter fun r => r.cplq == n

/-- The condition of a source now, as `IC_LIVE` shows it (R540). -/
def State.live (s : State) (n : Nat) : Bool :=
  if n < 64 then s.fld CPLQ_HEAD_HEAD n != s.fld CPLQ_TAIL_TAIL n || !(s.heldFor n).isEmpty
  else if 92 ≤ n ∧ n < 104 then (s.regN .TB_EVT).testBit (n - 92)
  else if n = 246 then s.reg .FC_STATUS &&& ~~~(s.reg .FC_MASK) != 0
  else if n = 247 then s.reg .FC_STATUS &&& s.reg .FC_MASK != 0
  else (sourceRegs n).any fun (r, i, m) =>
    match evtEnable r with
    | some en => (s.regN r i &&& s.regN en i &&& m) != 0
    | none => false

/-! ### The fault collector -/

/-- The word a fault record holds (R427, R431): source, INJ, VALID, DETAIL, and the low word of `TK_INDEX`. -/
def faultRecord (fs detail : Nat) (inj : Bool) (tick : Nat) : DWord :=
  BitVec.ofNat 64 (fs % 64 + inj.toNat * 64 + 128 + (detail % 2 ^ 24) * 256 + (tick % 2 ^ 32) * 2 ^ 32)

/-- An occurrence of a fault source is recorded (R427, R432): status bit, count, last and first record, and source 246 or
247 by the mask bit. FS37 to FS63 never set (R426). -/
def State.record (s : State) (fs detail : Nat) (inj : Bool := false) : State :=
  if 37 ≤ fs then s
  else
    let rec1 := faultRecord fs detail inj s.tickIndex
    let s1 := s.setReg .FC_STATUS (setBitField (s.reg .FC_STATUS) fs 1 1)
    let s2 := s1.putN .FC_CNT (satAdd 0xFFFF (s1.regN .FC_CNT fs) 1) fs
    let s3 := s2.setReg .FC_LAST rec1
    let s4 := if s3.flag FC_FIRST_VALID then s3 else s3.setReg .FC_FIRST rec1
    s4.raise (if (s.regN .FC_MASK).testBit fs then 247 else 246)

/-- A level fault's condition rises: it is recorded; while it stays it records no more (R426, R432). -/
def State.level (s : State) (fs detail : Nat) : State :=
  if s.levels.getLsbD fs then s
  else ({ s with levels := setBitField s.levels fs 1 1 }).record fs detail

/-- A level fault's condition falls; the status bit is sticky. -/
def State.unlevel (s : State) (fs : Nat) : State := { s with levels := setBitField s.levels fs 1 0 }

/-- Clear status bits (R428): a level source whose condition persists records again, and `FC_FIRST` clears when no bit stays
set. -/
def State.clearFaults (s : State) (mask : DWord) : State :=
  let before := s.reg .FC_STATUS
  let after := before &&& ~~~mask
  let s1 := s.setReg .FC_STATUS after
  let s2 := if after = 0 then s1.setReg .FC_FIRST 0 else s1
  (List.range 37).foldl (fun t fs => if before.getLsbD fs && mask.getLsbD fs && s.levels.getLsbD fs then t.record fs 0 else t) s2

/-- A completion error on a device request (R382): AER non-fatal advisory, FS23. -/
def State.requestError (s : State) (detail : Nat) : State :=
  State.record { s with cxl := { s.cxl with errors := { s.cxl.errors with advisory := true } } } 23 detail

/-! ### Outputs that follow the state -/

/-- FAULT_N: low (false) while a bit of `FC_STATUS` AND NOT `FC_MASK` is set (R429). -/
def State.faultNLevel (s : State) : Bool := s.reg .FC_STATUS &&& ~~~(s.reg .FC_MASK) == 0

/-- `SEC_STS.APPROVED` (R482): CRYPTO fused, TEST_MODE 0, module OPERATIONAL. -/
def State.approvedNow (s : State) : Bool :=
  s.fuse GLB_FUSE_CFG_CRYPTO == 1 && !s.chip.strapTest && s.fld SEC_STS_STATE == 2

/-- The outputs and status bits that follow from other state at every instant (R429, R482). -/
def settle (s : State) : State :=
  let s1 := s.setFlag SEC_STS_APPROVED s.approvedNow
  { s1 with pins := { s1.pins with faultN := s1.faultNLevel } }

/-- Every command ends here: the next state, with the outputs that follow from it. -/
def finish (s : State) : Out := .next (settle s)

/-! ### Targets of the interrupt controller -/

/-- The state of a target. -/
def State.target (s : State) (t : Nat) : IntTarget := (storeFind s.targets t).getD {}

/-- Set the state of a target and its status register (R422, R425). -/
def State.setTarget (s : State) (t : Nat) (x : IntTarget) : State :=
  let s1 := { s with targets := if x = ({} : IntTarget) then storeDrop s.targets t else storeInsert s.targets t x }
  let top := x.stack.head?.getD (0, 0)
  let idle := if 768 ≤ t then x.waiting else x.stack.isEmpty
  s1.setReg .IC_TGT_STS (BitVec.ofNat 64
    (x.stack.length % 16 + top.2 % 16 * 16 + x.signalled.toNat * 256 + idle.toNat * 512 + top.1 % 256 * 65536)) t

/-- The number of a host vector's target: PF0 vectors 0 to 255, VF f vector v at 512 + 8 (f − 1) + v (R424). -/
def vectorTarget (f v : Nat) : Nat := if f = 0 then v else 512 + 8 * (f - 1) + v

/-- The target a source is routed to (R418, R425): its function's vector, a CPX, or the lead CPX; a source routed to the CPX of
an adopted half goes to the lead CPX. -/
def State.route (s : State) (n : Nat) : Nat :=
  let func := if n < 64 then s.fld CPLQ_OWNER_FUNC n else s.fld IC_SRC_CFG_FUNC n
  let cpx := fun h => if s.adopted h then 768 + s.leadHalf else 768 + h
  match (if n < 64 then 0 else s.fld IC_SRC_CFG_KIND n) with
  | 0 => vectorTarget func (s.fld IC_SRC_CFG_VECTOR n)
  | 1 => cpx 0
  | 2 => cpx 1
  | _ => 768 + s.leadHalf

/-- The sources deliverable to a target (R419): pending, unmasked, of higher priority than the top of the stack; a source of an
unowned queue has no target. -/
def State.deliverable (s : State) (t : Nat) : List Nat :=
  let top := ((s.target t).stack.head?.getD (0, 0)).2
  (List.range 250).filter fun n =>
    s.pendBit n && decide (top < s.fld IC_SRC_CFG_PRIO n) && (decide (64 ≤ n) || decide (s.fld CPLQ_OWNER_FUNC n ≤ 32)) &&
      s.route n == t

/-- Of the deliverable sources, the one of highest priority, and among equals the lowest number (R419). -/
def State.bestSource (s : State) (t : Nat) : Option Nat :=
  (s.deliverable t).foldl (fun b n =>
    match b with
    | none => some n
    | some m => if s.fld IC_SRC_CFG_PRIO m < s.fld IC_SRC_CFG_PRIO n then some n else some m) none

end Sys2Proof.Machine
end

