-- ==== Sys2Proof/Machine/Operands.lean ====
section
/-!
DEFINITION. Every form in which a command brings its operands: the slot layout of a host command (R69, R82), the opcode table
(R76) with slot ranges, handle classes and issuers, the header checks common to all opcodes in their order (R73, R539), and
who may access what (R19, R388).
-/
namespace Sys2Proof.Machine

/-! ### Slots -/

/-- Word `k` of a list of words; 0 beyond its end. -/
def word (l : List Nat) (k : Nat) : Nat := (l[k]?).getD 0

/-- Two consecutive words as one 64-bit value, low word first (R69). -/
def dword (l : List Nat) (k : Nat) : Nat := word l k % 2 ^ 32 + word l (k + 1) % 2 ^ 32 * 2 ^ 32

end Sys2Proof.Machine
namespace Sys2Proof

/-- Parameter word `k` of a command. -/
def Cmd.p (c : Cmd) (k : Nat) : Nat := Machine.word c.params k

/-- Parameter words `k` and `k + 1` as a 64-bit value. -/
def Cmd.p64 (c : Cmd) (k : Nat) : Nat := Machine.dword c.params k

/-- The slots of a command without its readback slot (R82). -/
def Cmd.own (c : Cmd) : Nat := if c.readback then c.slots - 1 else c.slots

/-- The function an agent acts as: a VF for itself; PF0, and the lead CPX with the authority of PF0 (R388). -/
def Agent.fn : Agent → Nat
  | .func f => f
  | .cpx _ => 0

end Sys2Proof
namespace Sys2Proof.Machine

/-- A command from the words of its slots, as the fetch reads them (R69, R70, R82): reserved header bits are ignored, and the
readback slot is the last. -/
def parseCmd (q : Nat) (ws : List Nat) (data : Option (List Byte)) : Cmd :=
  let w0 := word ws 0
  let slots := natField w0 16 4 + 1
  let rb := natField w0 27 1 == 1
  let own := if rb && decide (2 ≤ slots) then slots - 1 else slots
  let last := (slots - 1) * 16
  { queue := q, opcode := natField w0 0 16, tag := word ws 1, handle := natField (word ws 2) 0 16,
    func := natField (word ws 2) 16 16, fence := natField w0 24 1 == 1, quiet := natField w0 25 1 == 1,
    atTick := natField w0 26 1 == 1, readback := rb, tick := dword ws 4, slots := slots,
    params := (ws.drop 6).take (own * 16 - 6), rbAddr := if rb then dword ws last else 0,
    rbLen := if rb then word ws (last + 2) else 0, data := data }

/-! ### The opcode table -/

/-- What the opcode table says of an opcode (R76): its slot range, whether it is PF0's alone, whether READBACK is defined for it
(R82), and the object class its handle names (R90), if any. -/
structure OpRow where
  lo : Nat := 1
  hi : Nat := 1
  pf0 : Bool := false
  readback : Bool := false
  cls : Option Nat := none
  deriving DecidableEq, Repr

/-- The opcode table (R76); none for an undefined opcode (R75). -/
def opRow : Nat → Option OpRow
  | 0x0100 => some {}
  | 0x0101 => some {}
  | 0x0102 => some {}
  | 0x0103 => some { readback := true }
  | 0x0104 => some { pf0 := true }
  | 0x0200 => some { pf0 := true }
  | 0x0201 => some { pf0 := true }
  | 0x0202 => some { cls := some 4, readback := true }
  | 0x0300 => some { cls := some 4, readback := true }
  | 0x0301 => some { lo := 2, hi := 16, cls := some 4, readback := true }
  | 0x0302 => some { cls := some 4 }
  | 0x0303 => some { cls := some 4, pf0 := true }
  | 0x0304 => some { pf0 := true }
  | 0x0400 => some { lo := 2, hi := 4, cls := some 4 }
  | 0x0401 => some { cls := some 4 }
  | 0x0402 => some { hi := 2, cls := some 4 }
  | 0x0403 => some { cls := some 4 }
  | 0x0500 => some { lo := 2, hi := 4, cls := some 4 }
  | 0x0501 => some { cls := some 4 }
  | 0x0502 => some { cls := some 4 }
  | 0x0600 => some { pf0 := true, cls := some 5, readback := true }
  | 0x0601 => some { pf0 := true }
  | 0x0700 => some { pf0 := true, cls := some 9, readback := true }
  | 0x0701 => some { pf0 := true, cls := some 10, readback := true }
  | 0x0702 => some { pf0 := true, cls := some 11, readback := true }
  | 0x0703 => some { lo := 2, hi := 4, cls := some 8, readback := true }
  | 0x0704 => some { cls := some 8 }
  | 0x0705 => some { hi := 2, cls := some 8, readback := true }
  | 0x0800 => some { hi := 2, pf0 := true }
  | 0x0801 => some { pf0 := true }
  | 0x0802 => some { pf0 := true }
  | 0x0900 => some { pf0 := true, cls := some 14 }
  | 0x0A00 => some { hi := 4, pf0 := true, cls := some 15 }
  | 0x0A01 => some { pf0 := true }
  | 0x0A02 => some { pf0 := true }
  | 0x0A03 => some {}
  | 0x0B00 => some { pf0 := true }
  | 0x0B01 => some { pf0 := true }
  | 0x0B02 => some { hi := 2, pf0 := true, cls := some 16, readback := true }
  | 0x0B03 => some { pf0 := true }
  | _ => none

/-- A key slot handle of the key store (R490). -/
def keyHandle (h : Nat) : Bool :=
  decide (h < 0xC00) || h == 0xD00 || h == 0xE00 ||
    (decide (0xC00 ≤ h) && decide (h < 0xC20) && h % 4 != 3 && (decide (h < 0xC10) || h % 4 == 0))

/-- The number of handles of an object class (R90). -/
def classHandles : Nat → Nat
  | 1 => 1 | 2 => 1 | 3 => 64 | 4 => 512 | 5 => 24 | 6 => 8192 | 7 => 512 | 8 => 4096 | 9 => 6 | 10 => 2048 | 11 => 1024
  | 12 => 1 | 13 => 512 | 14 => 24 | 15 => 0xE01 | 16 => 32 | 17 => 1 | 18 => 64 | 19 => 4 | 20 => 1
  | _ => 0

/-- A handle lies in its opcode's object class (R73 detail 0x00_F005; R76 for flow handles 3,072 and above; R189, for 0xFFFF in
STREAM_OPEN). -/
def handleOk (op cls h : Nat) : Bool :=
  if op = 0x300 ∧ h = 0xFFFF then true
  else if cls = 8 then decide (h < 3072)
  else if cls = 15 then keyHandle h
  else decide (h < classHandles cls)

/-! ### Answers -/

/-- What the core of a command answers: the state it leaves, the status, DETAIL and reply word of its reply, and whether a later
event writes the reply. -/
structure Res where
  s : State
  status : Nat := 0
  detail : Nat := 0
  word : Nat := 0
  deferred : Bool := false

/-- Status OK with a reply word. -/
def Res.ok (s : State) (w : Nat := 0) : Res := { s := s, word := w }

/-- A status of 0x10 or above. -/
def Res.err (s : State) (status detail : Nat) : Res := { s := s, status := status, detail := detail }

/-- The command is carried out in part; its reply is written by a later event. -/
def Res.later (s : State) : Res := { s := s, deferred := true }

/-- BAD_PARAM, by reason code. -/
def Res.bad (s : State) (detail : Nat) : Res := Res.err s 0x11 detail

/-- BAD_PARAM in the form that names parameter word `k` (R73). -/
def Res.badWord (s : State) (k : Nat) : Res := Res.err s 0x11 (0x800000 + k)

/-- NO_RESOURCE. -/
def Res.full (s : State) (detail : Nat) : Res := Res.err s 0x12 detail

/-! ### Header checks -/

/-- The first failure of steps 1 to 4 of the check order (R539): opcode, function of the queue, header reasons by the lowest
DETAIL, PF0 alone. -/
def headerError (c : Cmd) (s : State) : Option (Nat × Nat) :=
  match opRow c.opcode with
  | none => some (0x10, 0)
  | some r =>
    if c.func ≠ s.fld CMDQ_OWNER_FUNC c.queue then some (0x14, 1)
    else if c.own < r.lo ∨ r.hi < c.own then some (0x11, 0x00F001)
    else if c.atTick ∧ s.tickIndex + 1048576 < c.tick then some (0x11, 0x00F002)
    else if c.atTick ∧ !s.flag TK_CTRL_EN then some (0x11, 0x00F003)
    else if c.readback ∧ (!r.readback ∨ c.slots < 2) then some (0x11, 0x00F004)
    else if (match r.cls with | some k => !handleOk c.opcode k c.handle | none => false) then some (0x11, 0x00F005)
    else if r.pf0 ∧ c.func ≠ 0 then some (0x14, 4)
    else none

/-- The class of the object a command's handle names (R76, R90): a record's own class for STATE_READ and STATE_WRITE, and a class
beyond those of R90 for the units of SPARE_SWAP; none for an opcode without a handle. -/
def objectClass (c : Cmd) : Option Nat :=
  match c.opcode with
  | 0x0102 | 0x0103 => some (c.p 0 % 256)
  | 0x0B01 => some 256
  | _ => (opRow c.opcode).bind OpRow.cls

/-- Two commands act on the same object (R78): the same function, and the same handle under the same class; opcodes without a
handle act on one object. -/
def sameObject (a b : Cmd) : Bool :=
  a.func == b.func && objectClass a == objectClass b && (objectClass a == none || a.handle == b.handle)

/-! ### Agents -/

/-- The half a register belongs to, for the writes of a CPX that does not lead (R18, R388); none for a device-level register. -/
def regHalf (r : Reg) (i : Nat) : Option Nat :=
  match r with
  | .ENC_EP_CYC_MAX | .ENC_EP_TRIM_CNT | .ENC_EP_WIN_CNT | .ENC_EP_POISON_CNT | .ENC_EP_EVT | .ENC_EP_EVT_EN => some (i / 8)
  | .SCT_LATE_CNT | .SCT_CUT_CNT | .SCT_EVT | .SCT_EVT_EN => some (i / 2)
  | .DEC_DP_CYC_MAX | .DEC_DP_CONC_CNT | .DEC_DP_BINLIM_CNT | .DEC_DP_GUARD_CNT | .DEC_DP_EVT | .DEC_DP_EVT_EN => some (i / 4)
  | .LN_EQ | .LN_PRBS_CFG | .LN_PRBS_ERR | .LN_PRBS_INJ | .LN_EVT | .LN_EVT_EN => some (i / 8)
  | .LN_GRP_CFG => some (i / 2)
  | .ETH_CFG | .ETH_MAC | .ETH_TX_FRAMES | .ETH_RX_FRAMES | .ETH_FCS_CNT | .ETH_RX_DROP_CNT | .ETH_FEC_CORR_CNT
  | .ETH_FEC_UNC_CNT | .ETH_EVT | .ETH_EVT_EN | .PTP_CFG | .PTP_BRD_DLY | .PTP_RING_BASE | .PTP_RX_HEAD | .PTP_TX_TAIL
  | .PTP_RX_DROP_CNT => some (i / 2)
  | .FL_CFG | .FL_CRC_CNT | .FL_FEC_CORR_CNT | .FL_FEC_UNC_CNT | .FL_RETRAIN_CNT | .FL_EVT | .FL_EVT_EN => some i
  | .MC_CH_CE_CNT | .MC_CH_UE_CNT | .MC_CH_RETRY_CNT | .MC_CH_TRAIN_CNT | .MC_CH_LAT_MAX | .MC_CH_EVT | .MC_CH_EVT_EN => some (i / 8)
  | .CPX_CTL | .CPX_EVT | .CPX_EVT_EN | .CPX_REFUSED_CNT | .CPX_BELIEF | .CPX_HEARTBEAT => some i
  | .USQ_STEP_LOG | .USQ_EVT | .USQ_EVT_EN | .USQ_POISON_CNT | .USQ_LAT_MAX | .USQ_CS_ADDR =>
    some (if i = 0 ∨ i = 1 ∨ i = 4 then 0 else 1)
  | _ => none

/-- Whether a CPX's write of a register is accepted (R388): the lead CPX writes every register, a running CPX its own half's and
those whose own rules let it, a fenced CPX only its belief, its heartbeat and RELEASE. -/
def State.cpxMay (s : State) (h : Nat) (r : Reg) (i : Nat) : Bool :=
  if s.flag CPX_STS_FENCED h then (r == .CPX_BELIEF || r == .CPX_HEARTBEAT || r == .CPX_CTL) && i == h
  else if s.leadHalf = h then true
  else regHalf r i == some h || r == .AON_LEAD_REQ || r == .SPD_BANK_CFG || r == .SPD_BANK_OWN

/-- A register write by an agent, when it may make one: a refused write of a CPX is counted (R388). -/
def State.byAgent (s : State) (a : Agent) (r : Reg) (i : Nat) (f : Nat → State → State) : State :=
  match a with
  | .func n => f n s
  | .cpx h => if s.cpxMay h r i then f 0 s else s.bump .CPX_REFUSED_CNT 1 h

end Sys2Proof.Machine
end

