-- ==== Sys2Proof/Machine/Records.lean ====
section
/-!
DEFINITION. The records of STATE_READ, of READBACK and of DEVICE_INFO: one per object class, laid out byte by byte as the
chapters give them (R60, R88, R91, R212, R255, R280, R307, R341, R365, R433, R456, R477, R504).
-/
namespace Sys2Proof.Machine

/-- A register's 4 or 8 bytes. -/
def State.r4 (s : State) (r : Reg) (i : Nat := 0) : List Byte := leBytes 4 (s.regN r i)
/-- A 64-bit register's bytes. -/
def State.r8 (s : State) (r : Reg) (i : Nat := 0) : List Byte := leBytes 8 (s.regN r i)
/-- `n` zero bytes. -/
def zeros (n : Nat) : List Byte := List.replicate n 0

/-- A record: the 16-byte header (R88) before its contents. -/
def recordOf (cls h gen : Nat) (pres : Bool) (body : List Byte) : List Byte :=
  leBytes 4 (cls + h * 65536) ++ leBytes 4 gen ++ leBytes 4 (16 + body.length) ++ leBytes 4 pres.toNat ++ body

/-- Class 0x01: identity and firmware versions, 256 bytes (R91). -/
def State.recDevice (s : State) : List Byte :=
  let encU := (List.range 4).find? s.clusterPresent
  s.r4 .GLB_ID ++ s.r4 .GLB_REV ++ s.r4 .GLB_PART ++ zeros 4 ++ s.r8 .GLB_FUSE_CFG ++ s.r8 .GLB_SERIAL
    ++ s.r8 .CPX_VERSION s.leadHalf
    ++ (match encU with | some u => s.r8 .USQ_VERSION u | none => zeros 8) ++ s.r8 .USQ_VERSION 4
    ++ s.r4 .SEC_MIN_SVN ++ s.r4 .SEC_STS ++ s.r8 .MC_CAP ++ s.r4 .MC_CFG ++ s.r8 .AON_LEAD
    ++ leBytes 2 512 ++ leBytes 2 8192 ++ leBytes 1 64 ++ leBytes 1 s.vfs ++ leBytes 1 32 ++ leBytes 1 s.vfsRetained
    ++ s.r4 .PM_STATE ++ s.r4 .GLB_RST_STS ++ s.r4 .RING_CFG ++ leBytes 4 s.linkWord ++ zeros 132

/-- The top 16 bits of the fraction accumulator (R23). -/
def fracField (frac : Nat) : Nat := frac / (2 ^ 32 * 1000000000) % 65536

/-- Class 0x02: time base and tick, 128 bytes (R60). -/
def State.recTime (s : State) : List Byte :=
  s.r4 .TB_CTRL ++ s.r4 .TB_STATUS ++ leBytes 8 (s.tb.ns / 1000000000) ++ leBytes 4 (s.tb.ns % 1000000000)
    ++ leBytes 4 (fracField s.tb.frac) ++ s.r4 .TB_ADJ_RATE ++ s.r4 .TB_LOCK_CFG ++ s.r4 .TK_CTRL ++ s.r4 .TK_NUM ++ s.r4 .TK_DEN
    ++ s.r4 .TK_Q ++ s.r4 .TK_R ++ s.r4 .TK_ACC ++ s.r8 .TK_INDEX ++ s.r8 .TK_NEXT_SEC ++ s.r4 .TK_NEXT_NS ++ s.r4 .TK_MISSED
    ++ s.r4 .TK_LATE_CNT ++ s.r4 .TK_OUT_CFG ++ s.r4 .TK_OUT_OFS ++ s.r4 .TB_PPS_OUT_CFG ++ s.r8 .TB_SLEEP_SPAN
    ++ s.r8 .TB_SLEEP_ERR

/-- The stage code of an outstanding command (R91). -/
def stageCode : CmdStage → Nat
  | .fetched => 0 | .started => 1 | .held => 2 | .replyWaiting => 3

/-- Class 0x03: queue pair n and its outstanding commands (R91). -/
def State.recQueue (s : State) (n : Nat) : List Byte :=
  let m := s.fld CMDQ_CFG_CPLQ n
  let es := s.cmd.outstanding.filter fun o => o.cmd.queue == n
  s.r8 .CMDQ_BASE n ++ s.r4 .CMDQ_CFG n ++ s.r4 .CMDQ_OWNER n ++ leBytes 2 (s.fld CMDQ_HEAD_HEAD n)
    ++ leBytes 2 (s.fld CMDQ_TAIL_TAIL n) ++ s.r4 .CMDQ_STS n ++ s.r8 .CPLQ_BASE m ++ s.r4 .CPLQ_CFG m ++ s.r4 .CPLQ_OWNER m
    ++ leBytes 2 (s.fld CPLQ_HEAD_HEAD m) ++ leBytes 2 (s.regN .CPLQ_TAIL m % 8192) ++ s.r4 .CPLQ_STS m
    ++ es.flatMap fun o =>
      leBytes 4 o.cmd.tag ++ leBytes 2 o.cmd.opcode ++ leBytes 2 o.cmd.handle ++ leBytes 1 (stageCode o.stage) ++ zeros 7
        ++ leBytes 8 (if o.stage = .held then o.cmd.tick else o.bound)

/-- The code of a stream state (R188). -/
def streamCode : StreamSt → Nat
  | .free => 0 | .opened => 1 | .configured => 2 | .running => 3 | .closing => 4 | .migrating => 5 | .lost => 6

/-- A list of words padded with 0 to `n` words of 4 bytes. -/
def wordsBytes (n : Nat) (l : List Nat) : List Byte := (List.range n).flatMap fun k => leBytes 4 (word l k)

/-- The context a class 0x04 record shows: the stream's, or, on a FREE handle, the survivor record's (R512). -/
def State.shownStream (s : State) (h : Nat) : Stream :=
  if (s.stream h).st = .free then (storeFind s.survivors h).getD (s.stream h) else s.stream h

/-- Class 0x04: stream context (R212). -/
def State.recStream (s : State) (h : Nat) : List Byte :=
  let x := s.shownStream h
  let r := x.rate
  leBytes 2 (streamCode x.st) ++ leBytes 1 (x.dec.toNat + x.codec * 16) ++ leBytes 1 x.func
    ++ leBytes 4 ((decide (48 ≤ x.words.length)).toNat + (s.codec.resident.any fun e => e.2 == h).toNat * 2)
    ++ leBytes 8 x.completed ++ leBytes 8 x.lastTick ++ wordsBytes 250 x.words
    ++ leBytes 8 r.fill ++ leBytes 8 (unsigned 64 ((r.coded : Int) - (r.planned / max 1 (s.fld TK_DEN_DEN) : Nat)))
    ++ leBytes 4 (r.alphaInter + r.alphaKey * 65536) ++ leBytes 1 r.qpLast ++ leBytes 1 r.qpPic ++ zeros 2 ++ leBytes 4 r.sinceKey
    ++ zeros 4
    ++ leBytes 8 x.res.base ++ leBytes 8 x.res.regions.sum ++ leBytes 8 x.res.ringBase ++ leBytes 4 x.res.ringBytes ++ zeros 4
    ++ (match r.staged with | some (w, t) => wordsBytes 4 w ++ leBytes 8 t | none => zeros 24)
    ++ (match r.mapNext with | some (_, t) => leBytes 8 t | none => zeros 8) ++ leBytes 4 r.map.isSome.toNat
    ++ leBytes 4 r.mapNext.isSome.toNat ++ zeros 8
    ++ (if x.dec then (if (s.stream h).st = .free then leBytes 4 x.recPos.1 ++ leBytes 4 x.recPos.2
                       else s.r4 .DEC_S_REC_HEAD h ++ s.r4 .DEC_S_REC_TAIL h) ++ leBytes 4 x.sets.length ++ zeros 4 else zeros 16)

/-- Class 0x05: the banks of a pipe's slot table (R212). -/
def State.recSlots (s : State) (p : Nat) : List Byte :=
  s.r4 .SLT_BANK p ++ leBytes 4 (s.gen 5 p)
    ++ (List.range 64).flatMap (fun e => s.r4 .SLT_ACT (p * 64 + e)) ++ (List.range 64).flatMap fun e => s.r4 .SLT_NEXT (p * 64 + e)

/-- Class 0x06: a frame buffer descriptor (R212). -/
def State.recDesc (s : State) (d : Nat) : List Byte :=
  s.r8 .FB_DESC_BASE d ++ s.r4 .FB_DESC_DIM d ++ s.r4 .FB_DESC_FMT d ++ s.r4 .FB_DESC_OWN d ++ s.r4 .FB_DESC_MARKS d
    ++ s.r4 .FB_DESC_ORDER d ++ s.r4 .FB_DESC_TICK d

/-- Class 0x07: a reference pool (R212). -/
def State.recPool (s : State) (h : Nat) : List Byte :=
  let p := (s.stream h).res.pool
  leBytes 4 p.length
    ++ (List.range 32).flatMap fun k =>
      match p[k]? with
      | some d => leBytes 2 d ++ leBytes 2 (s.regN .FB_DESC_MARKS d) ++ s.r4 .FB_DESC_ORDER d
      | none => zeros 8

/-- The stream bound to a flow handle (R280): the one whose newest configuration names it. -/
def State.flowUser (s : State) (h : Nat) : Option Nat :=
  (s.streams.find? fun (_, x) =>
    let w := word (x.wordsNext.getD x.words) (if x.dec then 9 else 7)
    x.st != .free && w.testBit 15 && w % 4096 == h).map Prod.fst

/-- Class 0x08: a flow (R280). -/
def State.recFlow (s : State) (h : Nat) : List Byte :=
  let w := (storeFind s.flows h).getD {}
  let ingest := decide (2048 ≤ h)
  let user := s.flowUser h
  leBytes 4 (w.live.toNat + ingest.toNat * 2 + user.isSome.toNat * 4 + user.getD 0 * 65536) ++ wordsBytes 26 w.words
    ++ leBytes 8 w.packets ++ leBytes 8 w.bytes ++ leBytes 4 w.dropped ++ leBytes 4 (if ingest then w.done else w.drops)
    ++ leBytes 4 w.missing ++ leBytes 4 w.lost ++ wordsBytes 7 (w.mapNext.getD w.map) ++ zeros 8

/-- Class 0x09: a gate list (R307). -/
def State.recGate (s : State) (g : Nat) : List Byte :=
  let l := (storeFind s.traffic.lists g).getD {}
  let o := l.oper.getD {}
  let at_ := l.pending.getD 0
  leBytes 4 (l.oper.isSome.toNat + o.lock.toNat * 2 + l.pending.isSome.toNat * 4 + l.admin.lock.toNat * 8 + l.passed.toNat * 16)
    ++ leBytes 2 o.entries.length ++ leBytes 2 l.admin.entries.length
    ++ leBytes 4 o.cycle ++ leBytes 8 (o.base / 1000000000) ++ leBytes 4 (o.base % 1000000000)
    ++ leBytes 4 l.admin.cycle ++ leBytes 8 (l.admin.base / 1000000000) ++ leBytes 4 (l.admin.base % 1000000000)
    ++ leBytes 8 (at_ / 1000000000) ++ leBytes 4 (at_ % 1000000000) ++ zeros 4 ++ wordsBytes 256 o.entries ++ wordsBytes 256 l.admin.entries

/-- Class 0x0A: a shaper (R307). -/
def State.recShaper (s : State) (q : Nat) : List Byte :=
  s.r4 .SH_CIR q ++ s.r4 .SH_PIR q ++ s.r4 .SH_CBS q ++ s.r4 .SH_PBS q ++ leBytes 1 (s.fld SH_CFG_OVERHEAD q) ++ leBytes 1 (s.fld SH_CFG_TC q)
    ++ leBytes 1 (s.fld SH_CFG_PORT q) ++ leBytes 1 (s.fld SH_CFG_BOUND q) ++ s.r4 .SH_C_CREDIT q ++ s.r4 .SH_P_CREDIT q ++ s.r4 .SH_DROP_CNT q

/-- Class 0x0B: a policer (R307). -/
def State.recPolicer (s : State) (i : Nat) : List Byte :=
  s.r4 .PL_CIR i ++ s.r4 .PL_PIR i ++ s.r4 .PL_CBS i ++ s.r4 .PL_PBS i ++ leBytes 1 (s.regN .PL_CFG i % 16)
    ++ leBytes 1 (s.regN .PL_CFG i / 16 % 4) ++ zeros 2 ++ s.r4 .PL_C_CREDIT i ++ s.r4 .PL_P_CREDIT i ++ s.r4 .PL_GREEN_CNT i
    ++ s.r4 .PL_YELLOW_CNT i ++ s.r4 .PL_RED_CNT i ++ s.r4 .PL_YDROP_CNT i

/-- Class 0x0C: the role table and its epochs (R255). -/
def State.recRing (s : State) : List Byte :=
  let w := s.ring.switch
  let some0 := fun (f : RoleSwitch → Nat) => (w.map f).getD 0
  leBytes 1 (s.fld RING_CFG_RING_ID) ++ leBytes 1 (s.fld RING_CFG_POSITION) ++ leBytes 1 (s.fld RING_CFG_SIZE)
    ++ leBytes 1 (s.fld RING_CFG_JOINED + s.fld RING_CFG_DOMAIN * 2 + s.fld RING_STS_TICK_LEAD * 4)
    ++ s.r4 .RING_EPOCH ++ s.r4 .RING_EPOCH_PREV ++ s.r8 .RING_EPOCH_TICK
    ++ leBytes 1 (s.ring.tlead.getD 0xFF) ++ leBytes 1 ((w.map RoleSwitch.kind).getD 0xFF) ++ zeros 2
    ++ leBytes 8 (some0 RoleSwitch.tick) ++ leBytes 4 (some0 RoleSwitch.epoch) ++ leBytes 4 (some0 fun w => w.pos + w.rsid * 256)
    ++ ((List.range 64).flatMap fun r => leBytes 1 ((storeFind s.ring.plead r).getD 0xFF)) ++ s.r4 .RING_FL_DELAY ++ s.r8 .RING_DOM_DIR

/-- Class 0x0D: a migration record (R255). -/
def State.recMig (s : State) (h : Nat) : List Byte :=
  let m := (storeFind s.ring.mig h).getD {}
  leBytes 4 m.id ++ leBytes 1 m.role ++ leBytes 1 m.step ++ leBytes 2 m.peer ++ leBytes 8 m.freeze ++ leBytes 8 m.lastTick
    ++ leBytes 2 m.peerHandle ++ zeros 6

/-- Class 0x0E: the votes on a domain (R456). -/
def State.recVotes (s : State) (d : Nat) : List Byte :=
  leBytes 2 (s.regN .AON_VOTE d) ++ leBytes 1 (s.regN .PM_DOM_STS d % 8) ++ zeros 1 ++ leBytes 8 ((storeFind s.power.domTick d).getD 0)

/-- Class 0x0F: a key slot (R504). -/
def State.recKey (s : State) (h : Nat) : List Byte :=
  let k := (storeFind s.security.slots h).getD {}
  let id := fun (x : Option Key) => match x with | some x => leBytes 4 x.id ++ leBytes 3 (Config.keyCheck x.bytes % 2 ^ 24) | none => zeros 7
  let users := (s.flows.filter fun e => e.2.live && (word e.2.words 0).testBit 4 && natField (word e.2.words 6) 16 16 == h).length
  leBytes 2 h ++ leBytes 1 (if k.cur.isNone then 0 else if k.next.isSome then 2 else 1) ++ leBytes 1 k.func ++ id k.cur
    ++ leBytes 1 (s.fld SEC_STS_APPROVED) ++ id k.next ++ zeros 1 ++ leBytes 4 users

/-- Class 0x10: a monitor (R477). -/
def State.recMonitor (s : State) (m : Nat) : List Byte :=
  s.r4 .MON_CFG m ++ s.r4 .MON_BASE m ++ s.r4 .MON_LIMIT m ++ s.r4 .MON_LO_LIMIT m ++ s.r4 .MON_S_MIN m ++ s.r4 .MON_S_MAX m
    ++ s.r4 .MON_S_COUNT m ++ zeros 4 ++ s.r8 .MON_S_SUM m ++ s.r8 .MON_SNAP_TICK
    ++ (List.range 64).flatMap fun b => s.r4 .MON_S_HIST (m * 64 + b)

/-- Class 0x11: spares and repair state (R477). -/
def State.recSpares (s : State) : List Byte :=
  s.r4 .SPR_CFG ++ s.r4 .SPR_STS ++ s.r4 .SPR_PENDING ++ s.r8 .SPR_FAILED ++ s.r4 .SPR_LOG_USED
    ++ ((List.range 20).flatMap fun p => s.r4 .SPR_WC_ROWS p) ++ (List.range 34).flatMap fun u => s.r4 .MON_AGE u

/-- Class 0x12: a DMA channel (R341). -/
def State.recDma (s : State) (n : Nat) : List Byte :=
  ((List.range 16).flatMap fun w => s.r4 .DMA_SH (n * 16 + w)) ++ ((List.range 16).flatMap fun w => s.r4 .DMA_ACT (n * 16 + w))
    ++ s.r4 .DMA_CH_CTL n ++ s.r4 .DMA_STS n ++ s.r4 .DMA_CH_CFG n ++ s.r4 .DMA_CH_OWNER n ++ s.r8 .DMA_DONE_BYTES n ++ s.r8 .DMA_ORPHAN_BYTES n
    ++ s.r8 .DMA_ERR_ADDR n

/-- Class 0x13: a buffer pool (R365). -/
def State.recBuffers (s : State) (k : Nat) : List Byte :=
  s.r8 .BP_BASE k ++ s.r8 .BP_MIRROR k ++ s.r4 .BP_CFG k ++ s.r4 .BP_THRESH_HI k ++ s.r4 .BP_THRESH_LO k ++ s.r4 .BP_STS k
    ++ s.r4 .BP_EMPTY_CNT k ++ s.r4 .BP_DFREE_CNT k ++ s.r4 .BP_SPILL_CNT k ++ zeros 4

/-- The bits of a source word a function sees (R424): PF0 all of them, a VF those of sources routed to it. -/
def State.seenSources (s : State) (f w : Nat) : Nat :=
  maskOf ((List.range 32).filter fun b =>
    let n := w * 32 + b
    f = 0 || (decide (n < 64) && s.fld CPLQ_OWNER_FUNC n == f))

/-- The word of conditions of sources 32w to 32w + 31 (R540). -/
def State.liveWord (s : State) (w : Nat) : Nat := maskOf ((List.range 32).filter fun b => s.live (w * 32 + b))

/-- Class 0x14: interrupt and fault state, as function `f` sees it (R433). -/
def State.recIntr (s : State) (f : Nat) : List Byte :=
  let ws := fun (g : Nat → Nat) => (List.range 8).flatMap fun w => leBytes 4 (g w &&& s.seenSources f w)
  let pf := fun (l : List Byte) => if f = 0 then l else zeros l.length
  pf (s.r4 .IC_CTL) ++ pf (s.r4 .IC_STS) ++ ws (s.regN .IC_PEND) ++ ws (s.regN .IC_ACTIVE) ++ ws s.liveWord
    ++ ((List.range 256).flatMap fun n =>
      if (s.seenSources f (n / 32)).testBit (n % 32) then s.r4 .IC_SRC_CFG n else zeros 4)
    ++ pf (s.r8 .FC_STATUS ++ s.r8 .FC_MASK ++ s.r8 .FC_FIRST ++ s.r8 .FC_LAST)
    ++ pf ((List.range 64).flatMap fun n => leBytes 2 (s.regN .FC_CNT n))

/-- The contents of an object's record after the header; none for an undefined class or a handle outside it (R90). -/
def State.recordBody (s : State) (cls h f : Nat) : Option (List Byte) :=
  if classHandles cls ≤ h then none
  else match cls with
  | 0x01 => some s.recDevice
  | 0x02 => some s.recTime
  | 0x03 => some (s.recQueue h)
  | 0x04 => some (s.recStream h)
  | 0x05 => some (s.recSlots h)
  | 0x06 => some (s.recDesc h)
  | 0x07 => some (s.recPool h)
  | 0x08 => some (s.recFlow h)
  | 0x09 => some (s.recGate h)
  | 0x0A => some (s.recShaper h)
  | 0x0B => some (s.recPolicer h)
  | 0x0C => some s.recRing
  | 0x0D => some (s.recMig h)
  | 0x0E => some (s.recVotes h)
  | 0x0F => some (s.recKey h)
  | 0x10 => some (s.recMonitor h)
  | 0x11 => some s.recSpares
  | 0x12 => some (s.recDma h)
  | 0x13 => some (s.recBuffers h)
  | 0x14 => some (s.recIntr f)
  | _ => none

/-- Whether an object exists now (the EXISTS bit of R88). -/
def State.objectExists (s : State) (cls h : Nat) : Bool :=
  match cls with
  | 0x04 => (s.stream h).st != .free
  | 0x07 => !(s.stream h).res.pool.isEmpty
  | 0x08 => ((storeFind s.flows h).getD {}).live
  | 0x0D => (storeFind s.ring.mig h).isSome
  | 0x0F => ((storeFind s.security.slots h).getD {}).cur.isSome
  | _ => true

/-- Whether a function sees an object: PF0 every one, a VF those of the column "A VF sees" of R90; a FREE stream handle without a survivor
record has none to read (R188, R512). -/
def State.sees (s : State) (cls h f : Nat) : Bool :=
  (f = 0 && (cls != 0x04 || (s.shownStream h).st != .free)) ||
  match cls with
  | 0x01 => true
  | 0x02 => true
  | 0x03 => s.fld CMDQ_OWNER_FUNC h == f
  | 0x04 => (s.shownStream h).st != .free && (s.shownStream h).func == f
  | 0x06 => s.fld FB_DESC_OWN_FUNC h == f
  | 0x07 => (s.stream h).st != .free && (s.stream h).func == f
  | 0x08 => ((storeFind s.flows h).getD {}).live && ((storeFind s.flows h).getD {}).func == f
  | 0x0F => ((storeFind s.security.slots h).getD {}).func == f && (storeFind s.security.slots h).isSome
  | 0x12 => s.fld DMA_CH_OWNER_FUNC h == f
  | 0x14 => true
  | _ => false

/-- A whole record of an object, with its header (R88). -/
def State.objectRecord (s : State) (cls h f : Nat) : List Byte :=
  match s.recordBody cls h f with
  | some b => recordOf cls h (s.gen cls h) (s.objectExists cls h) b
  | none => []

end Sys2Proof.Machine
end

