-- ==== Sys2Proof/Machine/Commands.lean ====
section
/-!
DEFINITION. Host commands: replies and completion queues (R63 to R68, R72 to R74), the order in which commands start (R78 to
R80), the shared run of an opcode with its checks, hold, reply and readback (R73, R77, R81, R82, R539), the fetch, and the
opcodes that belong to no unit.
-/
namespace Sys2Proof.Machine

/-! ### Queues -/

/-- The depth of a ring whose LOG2_DEPTH field holds `x`: 0 to 3 behave as 4, 13 to 15 as 12 (R86). -/
def ringDepth (x : Nat) : Nat := 2 ^ clampNat 4 12 x

/-- The entries of a completion queue written and not returned (R67). -/
def State.unreturned (s : State) (n : Nat) : Nat :=
  let d := ringDepth (s.fld CPLQ_CFG_LOG2_DEPTH n)
  (s.fld CPLQ_TAIL_TAIL n + d - s.fld CPLQ_HEAD_HEAD n % d) % d

/-- Keep STALLED of the submission queues bound to a completion queue true (R67, R86): its holding list is full. -/
def State.syncStalled (s : State) (n : Nat) : State :=
  let k := (s.heldFor n).length
  if k = 0 then s
  else (List.range 64).foldl (fun t q =>
    if t.fld CMDQ_CFG_CPLQ q = n then t.setFlag CMDQ_STS_STALLED (t.flag CMDQ_CFG_EN q && decide (64 ≤ k)) q else t) s

/-- Keep the status of a completion queue true: FULL and HELD (R67, R86). -/
def State.syncCplq (s : State) (n : Nat) : State :=
  let d := ringDepth (s.fld CPLQ_CFG_LOG2_DEPTH n)
  ((s.setFlag CPLQ_STS_FULL (decide (d - 1 ≤ s.unreturned n)) n).setFld CPLQ_STS_HELD (min 64 (s.heldFor n).length) n).syncStalled n

/-- Keep PENDING of a submission queue, and the count of held commands, true (R86). -/
def State.syncCmdq (s : State) (q : Nat) : State :=
  let n := (s.cmd.outstanding.filter fun o => o.cmd.queue == q).length
  let h := (s.cmd.outstanding.filter fun o => o.stage == .held).length
  (s.setFld CMDQ_STS_PENDING (min 4096 n) q).setFld CMDQ_HELD_COUNT h

/-- The words of a reply at its place in the ring (R72). -/
def replyWords (r : Reply) (phase head : Nat) : List Nat :=
  [r.tag, r.opcode + r.status % 256 * 65536, r.detail % 2 ^ 24 + r.queue % 64 * 2 ^ 24 + phase % 2 * 2 ^ 31,
   r.cplTick % 2 ^ 32, r.cplTick / 2 ^ 32, r.cplOfs, r.word % 2 ^ 32, head % 65536]

/-- The bytes of a reply. -/
def replyBytes (r : Reply) (phase head : Nat) : List Byte := (replyWords r phase head).flatMap (leBytes 4)

/-- Where a reply of a completion queue is written next (R67). -/
def State.replyAddr (s : State) (n : Nat) : Nat := s.fld CPLQ_BASE_ADDR n * 4096 + s.fld CPLQ_TAIL_TAIL n * 32

/-- A completion queue can take a reply now: enabled, not full, and its memory reachable (R67, R368). -/
def State.cplqRoom (s : State) (n : Nat) : Bool :=
  let d := ringDepth (s.fld CPLQ_CFG_LOG2_DEPTH n)
  decide (s.unreturned n < d - 1) && (s.flag CPLQ_BASE_LOC n || s.cxl.linkUp)

/-- Write a reply at the tail of its queue: the entry, the tail and its phase, and the interrupt source of the queue (R67,
R68). -/
def State.writeReply (s : State) (r : Reply) : State :=
  let n := r.cplq
  let d := ringDepth (s.fld CPLQ_CFG_LOG2_DEPTH n)
  let t := s.fld CPLQ_TAIL_TAIL n
  let ph := s.fld CPLQ_TAIL_PHASE n
  let s1 := s.store (spaceOf (s.fld CPLQ_BASE_LOC n)) (s.replyAddr n) (replyBytes r ph (s.fld CMDQ_HEAD_HEAD r.queue))
  let s2 := s1.setFld CPLQ_TAIL_TAIL ((t + 1) % d) n
  let s3 := if t + 1 = d then s2.setFld CPLQ_TAIL_PHASE (1 - ph) n else s2
  (s3.raise n).syncCplq n

/-- Whether replies of a completion queue wait, so that a new one waits behind them. -/
def State.someHeld (s : State) (n : Nat) : Bool := !(s.heldFor n).isEmpty

/-- Two commands are one, whatever their sources return when they are read: the fetch reads the slots alone (R66). -/
def sameCmd (a b : Cmd) : Bool := { a with data := none } == { b with data := none }

/-- The first outstanding entry of a command, in any stage but that of a waiting reply. -/
def State.entryOf (s : State) (c : Cmd) : Option Outstanding :=
  s.cmd.outstanding.find? fun o => sameCmd o.cmd c && o.stage != .replyWaiting

/-- Replace the first outstanding entry of a command. -/
def mapEntry (c : Cmd) (f : Outstanding → Outstanding) : List Outstanding → List Outstanding
  | [] => []
  | o :: os => if sameCmd o.cmd c ∧ o.stage ≠ .replyWaiting then f o :: os else o :: mapEntry c f os

/-- Remove the first outstanding entry of a command. -/
def dropEntry (c : Cmd) : List Outstanding → List Outstanding
  | [] => []
  | o :: os => if sameCmd o.cmd c ∧ o.stage ≠ .replyWaiting then os else o :: dropEntry c os

/-- Change the outstanding list, keeping the counts. -/
def State.onEntries (s : State) (q : Nat) (f : List Outstanding → List Outstanding) : State :=
  ({ s with cmd := { s.cmd with outstanding := f s.cmd.outstanding } }).syncCmdq q

/-- A command is known to the device: listed in fetch order (R91), with whether its AT_TICK index has passed (R80). -/
def State.enlist (s : State) (c : Cmd) : State :=
  match s.entryOf c with
  | some _ => s
  | none => s.onEntries c.queue fun l => l ++ [{ cmd := c, late := c.atTick && decide (c.tick ≤ s.tickIndex), half := s.leadHalf }]

/-- CPL_OFS: device time from T(CPL_TICK) to now, as a signed word; 0 while no grid runs (R74). -/
def State.cplOfs (s : State) : Nat :=
  if s.flag TK_CTRL_EN then unsigned 32 ((s.tb.ns : Int) - (s.tb.tickAt : Int)) else 0

/-- CPL_TICK (R74). -/
def State.cplTick (s : State) : Nat := if s.flag TK_CTRL_EN then s.tickIndex else 0

/-- Post the reply of a command (R67, R81): it is written, or waits behind the replies held; OK is not written for a QUIET
command without READBACK; a disabled completion queue takes none (R87). -/
def State.postReply (s : State) (c : Cmd) (status detail w : Nat) : State :=
  let n := s.fld CMDQ_CFG_CPLQ c.queue
  let r : Reply := { queue := c.queue, cplq := n, tag := c.tag, opcode := c.opcode, status := status, detail := detail,
                     cplTick := s.cplTick, cplOfs := s.cplOfs, word := w }
  if (status = 0 ∧ c.quiet ∧ !c.readback) ∨ !s.flag CPLQ_CFG_EN n then s.onEntries c.queue (dropEntry c)
  else if s.cplqRoom n ∧ !s.someHeld n then (s.onEntries c.queue (dropEntry c)).writeReply r
  else
    let s0 := if s.flag CPLQ_BASE_LOC n ∨ s.cxl.linkUp then s else s.setFld CPLQ_STS_WRITE_ERR 1 n
    let s1 := s0.onEntries c.queue (mapEntry c fun o => { o with stage := .replyWaiting })
    ({ s1 with cmd := { s1.cmd with heldReplies := s1.cmd.heldReplies ++ [r] } }).syncCplq n

/-- LATE_SUBMIT raises source 97 and is counted (R38, R56). -/
def State.lateCount (s : State) (status : Nat) : State :=
  if status = 0x15 then (s.bump .TK_LATE_CNT).tbEvent 97 else s

/-- The READBACK record of the object a command names, when it fits whole (R82, R88): the state, and whether it was truncated. -/
def State.readback (s : State) (c : Cmd) (h : Nat) : State × Bool :=
  let cls := if c.opcode = 0x0103 then c.p 0 % 256 else ((opRow c.opcode).bind OpRow.cls).getD 0
  let r := s.objectRecord cls h c.func
  if r.length ≤ c.rbLen then (s.store .host c.rbAddr r, false) else (s, true)

/-- The entries of a command's queue that were fetched before it. -/
def State.earlier (s : State) (c : Cmd) : List Outstanding :=
  (s.cmd.outstanding.takeWhile fun o => !(sameCmd o.cmd c && o.stage != .replyWaiting)).filter fun o => o.cmd.queue == c.queue

/-- The completion of a command: readback, then the reply (R67, R81, R82). A status of 0x10 or above writes no record. -/
def State.completeCmd (s : State) (c : Cmd) (status detail w : Nat) : State :=
  let late := match s.entryOf c with | some o => o.late | none => c.atTick && decide (c.tick ≤ s.tickIndex)
  if status < 4 then
    let h := if c.opcode = 0x0300 then w else c.handle
    let (s1, tr) := if c.readback then s.readback c h else (s, false)
    s1.postReply c status (detail ||| late.toNat ||| tr.toNat * 2) w
  else s.postReply c status detail w

/-- A command waits to complete: an earlier one of its queue to the same object has not completed (R78). -/
def State.behind (s : State) (c : Cmd) : Bool :=
  (s.earlier c).any fun o => o.stage != .replyWaiting && sameObject o.cmd c

/-- The commands that waited only for this one to complete, in slot order (R78). -/
def State.followers (s : State) (c : Cmd) : List Outstanding :=
  (((s.cmd.outstanding.dropWhile fun o => !(sameCmd o.cmd c && o.stage != .replyWaiting)).drop 1).filter fun o =>
    o.cmd.queue == c.queue && o.stage != .replyWaiting && sameObject o.cmd c).takeWhile fun o => o.result.isSome

/-- Complete a command that has run with this result, if it has one. -/
def State.completeOne (s : State) (o : Outstanding) : State :=
  match o.result with
  | some (st, d, w) => s.completeCmd o.cmd st d w
  | none => s

/-- Answer a command with its result: it completes, and with it those that waited for it; or it waits for the commands before it to
the same object (R78). A command has one result. -/
def State.answer (s : State) (c : Cmd) (status detail w : Nat) : State :=
  if ((s.entryOf c).bind Outstanding.result).isSome then s
  else
    let s0 := s.lateCount status
    if s0.behind c then s0.onEntries c.queue (mapEntry c fun o => { o with stage := .started, result := some (status, detail, w) })
    else (s0.followers c).foldl State.completeOne (s0.completeCmd c status detail w)

/-! ### The order in which commands start -/

/-- The half that a domain lies in (R435). -/
def domainHalf (d : Nat) : Option Nat :=
  if d < 4 then some (d / 2)
  else if d < 6 then some (d - 4)
  else if d < 8 then some (d - 6)
  else if d < 10 then some (d - 8)
  else if d < 14 then some ((d - 10) / 2)
  else if d = 16 ∨ d = 17 then some (d - 16)
  else none

/-- A command needs a unit of a half that is in reset (R93): it waits until the half leaves it. -/
def State.halfAway (s : State) (c : Cmd) : Bool :=
  let half := match c.opcode with
    | 0x0900 => domainHalf c.handle
    | 0x0B01 => if c.handle < 24 then some (pipeHalf c.handle) else none
    | _ => none
  match half with
  | some h => s.power.halfReset.testBit h
  | none => false

/-- A command waits for earlier ones of its queue: for all of them with FENCE (R79), for a FENCE command that has not started,
for an earlier command to the same object that has not started (R78, R80), and for a STREAM_MIGRATE_OUT that has not frozen its stream
(R246); and for a half to leave reset. -/
def State.mustWait (s : State) (c : Cmd) : Bool :=
  s.halfAway c || (s.earlier c).any fun o =>
    o.stage != .replyWaiting &&
      (c.fence || (o.cmd.fence && o.stage != .started) || (sameObject o.cmd c && (o.stage != .started || o.cmd.opcode == 0x0303)))

/-- Commands held for AT_TICK device-wide (R80). -/
def State.heldCount (s : State) : Nat := (s.cmd.outstanding.filter fun o => o.stage == .held).length

/-- An error that a held command is answered with at once: it was validated when it was fetched (R80). -/
def atOnce (status : Nat) : Bool := status == 0x11 || status == 0x14

/-- Start a command: its core runs, and its reply is posted, unless a later event writes it. -/
def State.start (s : State) (c : Cmd) (core : Cmd → State → Res) : State :=
  let s1 := s.onEntries c.queue (mapEntry c fun o => { o with stage := .started })
  let r := core c s1
  if r.deferred then r.s else r.s.answer c r.status r.detail r.word

/-- The run of an opcode (R539, R78 to R80): header checks, the wait for earlier commands, the hold for AT_TICK, the start. -/
def runCommand (c : Cmd) (core : Cmd → State → Res) (s0 : State) : Out :=
  let s := s0.enlist c
  match headerError c s with
  | some (st, d) => finish (s.answer c st d 0)
  | none =>
    if s.mustWait c then finish s
    else if c.atTick ∧ s.tickIndex < c.tick then
      let r := core c s
      if 0x10 ≤ r.status ∧ atOnce r.status then finish (s.answer c r.status r.detail 0)
      else if 256 ≤ s.heldCount then finish (s.answer c 0x12 0x00F001 0)
      else
        -- LAUNCH_SET stages its values when it is fetched
        let s1 := if c.opcode = 0x0202 then r.s else s
        finish (s1.onEntries c.queue (mapEntry c fun o => { o with stage := .held }))
    else finish (s.start c core)

/-- Commands of a queue that waited for ones that are discarded complete (R78, R87). -/
def State.completeFree (s : State) (q : Nat) : State :=
  (s.cmd.outstanding.filter fun o => o.cmd.queue == q && o.result.isSome && o.stage != .replyWaiting).foldl
    (fun t o => if t.behind o.cmd then t else t.completeOne o) s

/-- Answer a command that a later event completes, when there is one and a reset has not answered it before. -/
def State.answerLater (s : State) (c : Option Cmd) (status detail w : Nat) : State :=
  match c with
  | some c => if (s.entryOf c).isSome then s.answer c status detail w else s
  | none => s

/-- Commands held for a tick that has fired or was counted missed are released (R80): to run, with DETAIL bit 0 when their own
tick was missed. -/
def State.releaseHeld (s : State) : State :=
  let n := s.tickIndex
  let f := fun o : Outstanding =>
    if o.stage = .held ∧ o.cmd.tick ≤ n then { o with stage := .fetched, late := o.late || decide (o.cmd.tick < n) } else o
  let s1 := { s with cmd := { s.cmd with outstanding := s.cmd.outstanding.map f } }
  s1.setFld CMDQ_HELD_COUNT s1.heldCount

/-! ### The fetch -/

/-- Slots pending in a submission queue (R65). -/
def State.slotsPending (s : State) (q : Nat) : Nat :=
  let d := ringDepth (s.fld CMDQ_CFG_LOG2_DEPTH q)
  (s.fld CMDQ_TAIL_TAIL q + d - s.fld CMDQ_HEAD_HEAD q % d) % d

/-- The holding list of a queue's completion queue is full: fetching stops (R67). -/
def State.stalled (s : State) (q : Nat) : Bool := decide (64 ≤ (s.heldFor (s.fld CMDQ_CFG_CPLQ q)).length)

/-- A queue can be fetched from: enabled, not in error, slots pending, its completion queue's holding list not full (R65 to
R67). -/
def State.fetchable (s : State) (q : Nat) : Bool :=
  s.flag CMDQ_CFG_EN q && s.flag CMDQ_STS_ACTIVE q && decide (0 < s.slotsPending q) && !s.stalled q

/-- The next queue in round-robin order from queue `q` on (R66). -/
def State.nextQueue (s : State) (q : Nat) : Option Nat :=
  (List.range 64).findSome? fun k => if s.fetchable ((q + k) % 64) then some ((q + k) % 64) else none

/-- The queue the fetch takes a command from: the one whose turn it is while its WEIGHT + 1 commands are not used up, else the
next (R66). -/
def State.pickQueue (s : State) : Option Nat :=
  let q := s.cmd.turn
  if s.fetchable q ∧ s.cmd.taken < s.fld CMDQ_CFG_WEIGHT q + 1 then some q else s.nextQueue ((q + 1) % 64)

/-- The words of `n` slots of a queue in device memory, from its head on, wrapping at its depth (R65, R69). -/
def State.slotWords (s : State) (q n : Nat) : List Nat :=
  let d := ringDepth (s.fld CMDQ_CFG_LOG2_DEPTH q)
  (List.range n).flatMap fun k =>
    let a := s.fld CMDQ_BASE_ADDR q * 4096 + ((s.fld CMDQ_HEAD_HEAD q + k) % d) * 64
    (List.range 16).map fun w => leNat (s.load .device (a + w * 4) 4)

/-- A queue goes into error (R65): fetching stops and the source of its completion queue is raised. -/
def State.queueError (s : State) (q : Nat) (f : Field) : State :=
  ((s.setFld f 1 q).setFld CMDQ_STS_ACTIVE 0 q).raise (s.fld CMDQ_CFG_CPLQ q)

/-- The device fetches: the lead CPX runs, and the device neither sleeps nor enters sleep (R390, R406, R440, R442). -/
def State.fetches (s : State) : Bool := s.leadRuns && decide (s.fld PM_STATE_STATE < 2) && !s.flag PM_STATE_ENTERING

/-- One command is fetched (R65, R66, R69 to R71, R73): from the queue whose turn it is, its slots read from device memory, or,
for a queue in host memory, given by the environment (none when the read fails). A command that fails the header checks is
answered at once; any other is listed for its opcode to run. -/
def fetchOne (slots : Option (List Nat)) (s : State) : State :=
  match (if s.fetches then s.pickQueue else none) with
  | none => s
  | some q =>
    let dev := s.flag CMDQ_BASE_LOC q
    if !dev ∧ !s.cxl.linkUp then s.queueError q CMDQ_STS_FETCH_ERR
    else if !dev ∧ slots.isNone then (s.requestError (s.fld CMDQ_OWNER_FUNC q)).queueError q CMDQ_STS_FETCH_ERR
    else
      let first := if dev then s.slotWords q 1 else slots.getD []
      let n := natField (word first 0) 16 4 + 1
      if s.slotsPending q < n then s
      else
        let ws := if dev then s.slotWords q n else slots.getD []
        let c := parseCmd q ws none
        let d := ringDepth (s.fld CMDQ_CFG_LOG2_DEPTH q)
        let s1 := s.setFld CMDQ_HEAD_HEAD ((s.fld CMDQ_HEAD_HEAD q + n) % d) q
        let s2 := { s1 with cmd := { s1.cmd with turn := q, taken := if q = s.cmd.turn then s.cmd.taken + 1 else 1 } }
        let s3 := s2.enlist c
        match headerError c s3 with
        | some (st, dt) => s3.answer c st dt 0
        | none => s3

/-- COMMAND_FETCH (R66). -/
def execCommandFetch (slots : Option (List Nat)) (s : State) : Out := finish (fetchOne slots s)

/-! ### Queue registers -/

/-- CMDQ_TAIL_WRITE (R65, R86): the owner's doorbell, taken while EN is 1; a tail outside the ring, or one that would make more
than depth − 1 slots pending, puts the queue in error. -/
def execCmdqTailWrite (a : Agent) (q : Nat) (v : Word) (s : State) : Out :=
  finish <| s.byAgent a .CMDQ_TAIL q fun f s =>
    if s.fld CMDQ_OWNER_FUNC q ≠ f ∨ !s.flag CMDQ_CFG_EN q ∨ !s.flag CMDQ_STS_ACTIVE q then s
    else
      let d := ringDepth (s.fld CMDQ_CFG_LOG2_DEPTH q)
      let t := v.toNat % 4096
      let old := s.fld CMDQ_TAIL_TAIL q
      if d ≤ t ∨ d - 1 < s.slotsPending q + (t + d - old) % d then s.queueError q CMDQ_STS_DB_ERR
      else s.setFld CMDQ_TAIL_TAIL t q

/-- CPLQ_HEAD_WRITE (R67): the owner returns entries; a value at or above the depth, or one that returns an entry not written, is
ignored and sets DB_ERR. Fetching stopped by a full holding list goes on once entries are returned. -/
def execCplqHeadWrite (a : Agent) (q : Nat) (v : Word) (s : State) : Out :=
  finish <| s.byAgent a .CPLQ_HEAD q fun f s =>
    if s.fld CPLQ_OWNER_FUNC q ≠ f ∨ !s.flag CPLQ_CFG_EN q then s
    else
      let d := ringDepth (s.fld CPLQ_CFG_LOG2_DEPTH q)
      let h := v.toNat % 4096
      let old := s.fld CPLQ_HEAD_HEAD q
      if d ≤ h ∨ s.unreturned q < (h + d - old % d) % d then s.setFld CPLQ_STS_DB_ERR 1 q
      else (s.setFld CPLQ_HEAD_HEAD h q).syncCplq q

/-- The oldest reply held for a completion queue is written, where there is room and the link is up (R67, R368). -/
def State.writeHeld (s : State) (q : Nat) : State :=
  match s.heldFor q with
  | [] => s
  | r :: _ =>
    if !s.cplqRoom q ∨ !s.flag CPLQ_CFG_EN q then s
    else
      let drop := fun l : List Outstanding =>
        l.eraseP fun o => o.stage == .replyWaiting && o.cmd.queue == r.queue && o.cmd.tag == r.tag && o.cmd.opcode == r.opcode
      let s1 := { s with cmd := { s.cmd with heldReplies := s.cmd.heldReplies.erase r } }
      (s1.onEntries r.queue drop).writeReply r

/-- HELD_REPLY_WRITE (R67, R382): a write that fails sets WRITE_ERR and the reply stays held. -/
def execHeldReplyWrite (q : Nat) (ok : Bool) (s : State) : Out :=
  finish <|
    if (s.heldFor q).isEmpty ∨ !s.cplqRoom q ∨ !s.flag CPLQ_CFG_EN q then s
    else if !ok then (s.requestError (s.fld CPLQ_OWNER_FUNC q)).setFld CPLQ_STS_WRITE_ERR 1 q
    else s.writeHeld q

/-- CMDQ_CFG_WRITE (R64, R86, R87): EN at any time, the other fields only while EN is 0; enabling fails with CFG_ERR when the
completion queue is disabled or another function's, or the owner names no function; disabling discards commands that have not
started and resets HEAD and TAIL. -/
def execCmdqCfgWrite (a : Agent) (q : Nat) (v : Word) (s : State) : Out :=
  finish <| s.byAgent a .CMDQ_CFG q fun f s =>
    let own := s.fld CMDQ_OWNER_FUNC q
    if own ≠ f then s
    else
      let en := v.toNat / 2 ^ 31 = 1
      let was := s.flag CMDQ_CFG_EN q
      let s1 := if was then s else s.putN .CMDQ_CFG (v.toNat &&& 0x0000F3FF) q
      if en then
        if was then s1
        else
          let m := s1.fld CMDQ_CFG_CPLQ q
          if !s1.flag CPLQ_CFG_EN m ∨ s1.fld CPLQ_OWNER_FUNC m ≠ own ∨ 32 < own then s1.setFld CMDQ_STS_CFG_ERR 1 q
          else ((s1.setFld CMDQ_CFG_EN 1 q).setFld CMDQ_STS_ACTIVE 1 q).syncStalled m
      else if was then
        let s2 := ((((s1.setFld CMDQ_CFG_EN 0 q).setFld CMDQ_STS_ACTIVE 0 q).setFld CMDQ_STS_STALLED 0 q).setFld CMDQ_HEAD_HEAD 0 q).setFld CMDQ_TAIL_TAIL 0 q
        (s2.onEntries q fun l => l.filter fun o => !(o.cmd.queue == q && (o.stage == .fetched || o.stage == .held))).completeFree q
      else s1

/-- CPLQ_CFG_WRITE (R64, R86): enabling fails with CFG_ERR for an owner that names no function; clearing EN is ignored while
bound queues are enabled, and else discards the held replies and resets HEAD, TAIL and the phase. -/
def execCplqCfgWrite (a : Agent) (q : Nat) (v : Word) (s : State) : Out :=
  finish <| s.byAgent a .CPLQ_CFG q fun f s =>
    let own := s.fld CPLQ_OWNER_FUNC q
    if own ≠ f then s
    else
      let en := v.toNat / 2 ^ 31 = 1
      let was := s.flag CPLQ_CFG_EN q
      let s1 := if was then s else s.putN .CPLQ_CFG (v.toNat &&& 0xF) q
      if en then
        if was then s1
        else if 32 < own then s1.setFld CPLQ_STS_CFG_ERR 1 q
        else s1.setFld CPLQ_CFG_EN 1 q
      else if was then
        if (List.range 64).any fun k => s1.flag CMDQ_CFG_EN k && s1.fld CMDQ_CFG_CPLQ k == q then s1
        else
          let gone := s1.heldFor q
          let s2 := { s1 with cmd := { s1.cmd with heldReplies := s1.cmd.heldReplies.filter fun r => r.cplq != q } }
          let s3 := gone.foldl (fun t r => t.onEntries r.queue fun l =>
            l.eraseP fun o => o.stage == .replyWaiting && o.cmd.queue == r.queue && o.cmd.tag == r.tag) s2
          (((s3.setFld CPLQ_CFG_EN 0 q).setFld CPLQ_HEAD_HEAD 0 q).resetReg .CPLQ_TAIL q).syncCplq q
      else s1

/-- CPLQ_OWNER_WRITE (R64, R418): PF0 alone, only while EN is 0; a new owner gets the source's VECTOR and PRIO at their reset
values (R425). -/
def execCplqOwnerWrite (a : Agent) (q : Nat) (v : Word) (s : State) : Out :=
  finish <| s.byAgent a .CPLQ_OWNER q fun f s =>
    if f ≠ 0 ∨ s.flag CPLQ_CFG_EN q then s
    else
      let o := v.toNat % 64
      let s1 := s.setFld CPLQ_OWNER_FUNC o q
      if o = s.fld CPLQ_OWNER_FUNC q then s1
      else s1.putN .IC_SRC_CFG (8 + (if o = 0 then q else q % 8) * 256 + (if o ≤ 32 then o else 0) * 65536) q

/-! ### Opcodes of no unit -/

/-- NOP: nothing, and OK (R76). -/
def opNop (_ : Cmd) (s : State) : Res := Res.ok s

/-- NOP. -/
def execNop (c : Cmd) (s : State) : Out := runCommand c opNop s

/-- DEVICE_INFO: the class 0x01 record at the destination; a length below 256 is BAD_PARAM naming P2 (R73, R91). -/
def opDeviceInfo (c : Cmd) (s : State) : Res :=
  if c.p 2 < 256 then Res.badWord s 2
  else
    let r := s.objectRecord 1 0 c.func
    Res.ok (s.store .host (c.p64 0) r) r.length

/-- DEVICE_INFO. -/
def execDeviceInfo (c : Cmd) (s : State) : Out := runCommand c opDeviceInfo s

/-- The records of a list of handles that fit a length, with whether some did not (R88). -/
def State.records (s : State) (cls f : Nat) : List Nat → Nat → List Byte × Bool
  | [], _ => ([], false)
  | h :: hs, room =>
    let r := s.objectRecord cls h f
    if r.length ≤ room then
      let (bs, tr) := s.records cls f hs (room - r.length)
      (r ++ bs, tr)
    else ([], true)

/-- The handles a STATE_READ names and the function sees (R88). -/
def State.readHandles (s : State) (c : Cmd) (cls : Nat) : List Nat :=
  let n := classHandles cls
  let all := if c.handle = 0xFFFF then List.range n
    else (List.range (max 1 (c.p 1 % 65536))).map (· + c.handle)
  all.filter fun h => decide (h < n) && s.sees cls h c.func && (s.recordBody cls h c.func).isSome

/-- STATE_READ (R88): whole records of the objects the function sees; an undefined class is detail 0x00_0001, a handle outside
the class, and a stream handle alone that is FREE (R188), detail 0x00_F005. -/
def opStateRead (c : Cmd) (s : State) : Res :=
  let cls := c.p 0 % 256
  if classHandles cls = 0 then Res.bad s 1
  else if c.handle ≠ 0xFFFF ∧ (classHandles cls ≤ c.handle ∨ (cls = 15 ∧ !keyHandle c.handle)) then Res.bad s 0x00F005
  else if cls = 4 ∧ c.handle ≠ 0xFFFF ∧ c.p 1 % 65536 ≤ 1 ∧ (s.shownStream c.handle).st = .free then Res.bad s 0x00F005
  else
    let (bs, tr) := s.records cls c.func (s.readHandles c cls) (c.p 4)
    { s := s.store .host (c.p64 2) bs, detail := tr.toNat * 2, word := bs.length }

/-- STATE_READ. -/
def execStateRead (c : Cmd) (s : State) : Out := runCommand c opStateRead s

/-- FAULT_CLEAR (R428): the named bits clear; the reply counts the bits set once the clear has acted. -/
def opFaultClear (c : Cmd) (s : State) : Res :=
  let s1 := s.clearFaults (BitVec.ofNat 64 (c.p64 0))
  Res.ok s1 (popCount 64 (s1.regN .FC_STATUS))

/-- FAULT_CLEAR. -/
def execFaultClear (c : Cmd) (s : State) : Out := runCommand c opFaultClear s

end Sys2Proof.Machine
end

