-- ==== Sys2Proof/Machine/Domains.lean ====
section
/-!
DEFINITION. Power domains: votes and their transitions (R435 to R437, R439), and the sideband masks that follow from them
(R325, R326).
-/
namespace Sys2Proof.Machine

/-- Domain `d` is present (R435, R7). -/
def State.domPresent (s : State) (d : Nat) : Bool :=
  if d < 4 then s.clusterPresent d
  else if d < 6 then (List.range 4).any fun n => s.decPresent ((d - 4) * 4 + n)
  else if d = 9 then !s.packageB
  else if 10 ≤ d ∧ d < 14 then s.lanePresent ((d - 10) * 4)
  else decide (d < 24)

/-- Restore time of a domain from off, in ns (R435). -/
def domRestore (d : Nat) : Nat :=
  if d < 6 then 20000
  else if d < 8 then 50000
  else if d < 10 then 2000000
  else if d < 14 then 50000
  else match d with
    | 14 => 10000 | 15 => 200000 | 16 => 5000 | 17 => 5000 | 18 => 5000 | 19 => 100000 | 20 => 10000 | 21 => 30000
    | 22 => 20000 | _ => 5000

/-- A domain held by the STATE client (R435). -/
def domOfState (d : Nat) : Bool := decide (6 ≤ d) && !(decide (10 ≤ d) && decide (d < 15))

/-- PM_DOM_STS.STATE codes (R454). -/
def domOff : Nat := 0
@[inherit_doc domOff] def domTransit : Nat := 1
@[inherit_doc domOff] def domIsOn : Nat := 2
@[inherit_doc domOff] def domRetention : Nat := 3

/-- A domain is ON. -/
def State.domOn (s : State) (d : Nat) : Bool := s.fld PM_DOM_STS_STATE d == domIsOn

/-- A domain is wanted: a vote bit is set (R437). -/
def State.wanted (s : State) (d : Nat) : Bool := s.regN .AON_VOTE d != 0

/-- A half is fenced, or its CPX is stopped and the half not adopted (R406, R409). -/
def State.halfFenced (s : State) (h : Nat) : Bool :=
  s.flag CPX_STS_FENCED h || (s.flag CPX_STS_HALTED h && !s.adopted h)

/-- The power domain of a requester of ARB0, and the half it lies in; none for a device-level one (R326). -/
def State.requesterPlace (s : State) (r : Nat) : Nat × Option Nat :=
  if r < 16 then (r % 4, some (r % 4 / 2))
  else if r < 20 then (4 + (r - 16) / 2, some ((r - 16) / 2))
  else if r < 22 then (6 + (r - 20), some (r - 20))
  else if r < 24 then (18, none)
  else if r < 28 then (if s.packageB then (10, some 0) else (10 + (r - 24), some ((r - 24) / 2)))
  else match r with
    | 28 => (11, some 0) | 29 => (13, some 1) | 30 => (14, none) | 31 => (22, none) | 32 => (21, none) | 33 => (21, none)
    | 34 => (19, none) | _ => (20, none)

/-- Keep `ARB_MASK` and `ARB_MASK_FENCE` of ARB0 true (R325, R340, R409): a change of the masks sets MASK_CHANGE. -/
def State.syncMasks (s : State) : State :=
  let fence := maskOf ((List.range 36).filter fun r =>
    match (s.requesterPlace r).2 with | some h => s.halfFenced h | none => false)
  let mask := maskOf ((List.range 36).filter fun r =>
    let (d, h) := s.requesterPlace r
    !s.domOn d || (decide (20 ≤ r) && decide (r < 22) && s.flag CPX_STS_HALTED (r - 20)) || (match h with | some h => s.power.halfReset.testBit h || s.halfFenced h | none => false))
  let s1 := (s.putN .ARB_MASK mask).putN .ARB_MASK_FENCE fence
  s1.eventIf (decide (s.regN .ARB_MASK ≠ mask)) ARB_EVT_MASK_CHANGE

/-- Set the state of a domain, with the tick of the transition (R456). -/
def State.setDom (s : State) (d st : Nat) : State :=
  let s1 := s.setFld PM_DOM_STS_STATE st d
  { s1 with power := { s1.power with domTick := storeInsert s1.power.domTick d s.tickIndex } }

/-- The DEPEND client: a vote on NET while a lane group is ON or restoring (R436). -/
def State.dependVote (s : State) : State :=
  let b := (List.range 4).any fun g => s.fld PM_DOM_STS_STATE (10 + g) == domIsOn || s.fld PM_DOM_STS_STATE (10 + g) == domTransit
  s.setReg .AON_VOTE (setBitField (s.reg .AON_VOTE 14) 5 1 b.toNat) 14

/-- The device state that the domains give (R439): Active while a pipe domain is ON or restoring, Idle once the last is OFF. -/
def State.activeState (s : State) : State :=
  if 2 ≤ s.fld PM_STATE_STATE then s
  else s.setFld PM_STATE_STATE (if (List.range 6).any fun d => s.fld PM_DOM_STS_STATE d != domOff then 0 else 1)

/-- One domain makes the transition it is due (R437): a wanted one that is OFF starts its restore, an unwanted one that is ON
enters off. -/
def State.domMove (s : State) (d : Nat) : State :=
  if !s.domPresent d then s
  else if s.wanted d ∧ s.fld PM_DOM_STS_STATE d = domOff then
    let s1 := s.setDom d domTransit
    { s1 with power := { s1.power with onAt := storeInsert s1.power.onAt d (s.tb.run + domRestore d) } }
  else if !s.wanted d ∧ s.domOn d then (s.setDom d domOff).event PM_EVT_DOM_OFF
  else s

/-- A VOTE_SET with WAIT that has not been answered. -/
def Outstanding.waitsVote (o : Outstanding) : Bool := o.stage == .started && o.cmd.opcode == 0x0900 && (o.cmd.p 0).testBit 1

/-- The clients that hold votes on a domain. -/
def State.voters (s : State) (d : Nat) : Nat := popCount 16 (s.regN .AON_VOTE d)

/-- VOTE_SET commands with WAIT whose domain is ON or OFF are answered (R438). -/
def State.settleVotes (s : State) : State :=
  (s.cmd.outstanding.filter fun o => o.waitsVote && s.fld PM_DOM_STS_STATE o.cmd.handle != domTransit).foldl
    (fun t o => t.answer o.cmd 0 0 (t.voters o.cmd.handle)) s

/-- NET follows the vote of DEPEND: at once while no grid runs, else at the next tick (R436, R437). -/
def State.netFollows (s : State) : State := if s.flag TK_CTRL_EN then s else s.domMove 14

/-- Every domain makes the transition it is due (R437, R439), unless the device sleeps or wakes (R440, R445). -/
def State.domainsMove (s : State) : State :=
  if 2 ≤ s.fld PM_STATE_STATE then s
  else (((List.range 24).foldl State.domMove s).dependVote.netFollows.activeState.syncMasks).settleVotes

/-- A client places or withdraws its vote on a domain (R436, R437): while no grid runs the transition starts at once. -/
def State.vote (s : State) (client d : Nat) (b : Bool) : State :=
  if !s.domPresent d then s
  else
    let s1 := s.setReg .AON_VOTE (setBitField (s.reg .AON_VOTE d) client 1 b.toNat) d
    if s1.regN .AON_VOTE d = s.regN .AON_VOTE d then s
    else if s.flag TK_CTRL_EN then s1 else s1.domainsMove

/-- The domain of a logical pipe: its cluster or decoder half. -/
def pipeDomain (p : Nat) : Nat := if p < 16 then p / 4 else 4 + (p - 16) / 4

/-- Device time reaches the end of a domain's restore: it is ON (R437). -/
def State.domDone (s : State) (d : Nat) : State :=
  match storeFind s.power.onAt d with
  | none => s
  | some t =>
    let s1 := if s.tb.run < t then s.pass (t - s.tb.run) else s
    let s2 := { s1 with power := { s1.power with onAt := storeDrop s1.power.onAt d } }
    let s3 := (((s2.setDom d domIsOn).event PM_EVT_DOM_ON).dependVote.activeState.syncMasks).settleVotes
    if s3.flag TK_CTRL_EN then s3 else s3.domainsMove

end Sys2Proof.Machine
end

