-- ==== Sys2Proof/Machine/Plan.lean ====
section
/-!
DEFINITION. What a configuration comes to: picture geometry, cycle costs, floor times, buffer sizes and the arithmetic of the
admission checks of both codecs (R94 to R99, R128, R132, R133, R137, R138, R161, R171, R190, R194, R204, R209, R224, R234,
R236). Times in these formulas are kept in fifths of a ns: one CLK_CORE cycle at 1.25 GHz is 4 of them, at 625 MHz 8.
-/
namespace Sys2Proof.Machine

/-! ### Codecs: 0 HEVC, 1 AV1, 2 VVC, 3 AVC (R76) -/

/-- Luma samples on a side of a coding unit (R94): 128 for VVC, else 64. -/
def cuSize (codec : Nat) : Nat := if codec = 2 then 128 else 64

/-- Cycles a normal unit spends in each stage (R97). -/
def unitCycles (codec chroma : Nat) : Nat :=
  if codec = 2 then (if chroma = 0 then 65536 else 81920) else (if chroma = 0 then 10240 else 12800)

/-- Cycles a floor unit spends in each stage (R128). -/
def floorCycles (codec chroma : Nat) : Nat :=
  if codec = 2 then (if chroma = 0 then 2048 else 2560) else (if chroma = 0 then 640 else 800)

/-- FB_skip and FB_dc: the bits of a floor unit of an inter and of a key picture (R128). -/
def floorBits (codec chroma : Nat) (key : Bool) : Nat :=
  if key then
    match codec with
    | 0 => if chroma = 0 then 160 else 224
    | 1 => if chroma = 0 then 192 else 256
    | _ => if chroma = 0 then 384 else 512
  else if codec = 2 then 32 else 24

/-- Save and restore cost of a context in cycles (R194). -/
def contextCycles (dec : Bool) (codec : Nat) : Nat :=
  if dec then (match codec with | 3 => 1536 | 0 => 2048 | 1 => 3072 | _ => 4096)
  else (match codec with | 0 => 2560 | 1 => 3072 | _ => 4096)

/-- The largest T_switch of a codec in cycles (R194): its restore and the largest save. -/
def switchCycles (dec : Bool) (codec : Nat) : Nat := contextCycles dec codec + 4096

/-- Cycles of a block reconstructed normally and of a concealed one (R161). -/
def blockCycles (codec chroma : Nat) (conceal : Bool) : Nat :=
  let b := match chroma with | 0 => 160 | 1 => 200 | _ => 240
  let v := if codec = 2 then 2 * b else b
  if conceal then v / 4 else v

/-- The highest QP of a codec (R156). -/
def qpTop (codec : Nat) : Nat := match codec with | 0 => 51 | 1 => 255 | _ => 63

/-! ### The words of an encode configuration (R118, R156) -/

/-- Field of `w` bits at bit `lo` of word `k`. -/
def cfg (ws : List Nat) (k lo w : Nat) : Nat := natField (word ws k) lo w

/-- A substitute for a field that is 0. -/
def orElse (d x : Nat) : Nat := if x = 0 then d else x

/-- The parameters of an encode stream's picture plan. -/
structure Geo where
  codec : Nat
  chroma : Nat
  width : Nat
  height : Nat
  pipes : Nat
  band : Nat
  /-- Coding-unit columns and rows. -/
  cols : Nat
  rows : Nat
  deriving DecidableEq, Repr

/-- The geometry that configuration words give (R94, R95). -/
def encGeo (codec : Nat) (ws : List Nat) : Geo :=
  let w := cfg ws 0 0 16
  let h := cfg ws 0 16 16
  { codec := codec, chroma := cfg ws 1 0 2, width := w, height := h, pipes := cfg ws 4 0 5, band := cfg ws 4 8 4,
    cols := ceilDiv w (cuSize codec), rows := ceilDiv h (cuSize codec) }

namespace Geo

/-- Width in units of tile column `i` (R94). -/
def colWidth (g : Geo) (i : Nat) : Nat := (i + 1) * g.cols / g.pipes - i * g.cols / g.pipes

/-- The widest tile column. -/
def widest (g : Geo) : Nat := (List.range g.pipes).foldl (fun m i => max m (g.colWidth i)) 0

/-- Row bands (R95). -/
def bands (g : Geo) : Nat := ceilDiv g.rows g.band

/-- Rows of band `k`. -/
def bandRows (g : Geo) (k : Nat) : Nat := min g.band (g.rows - k * g.band)

/-- n, the largest unit count of a pipe. -/
def n (g : Geo) : Nat := g.widest * g.rows

/-- n_0, the largest unit count of a pipe in band 0. -/
def n0 (g : Geo) : Nat := g.widest * g.bandRows 0

/-- N, the units of the picture. -/
def units (g : Geo) : Nat := g.cols * g.rows

/-- t in cycles. -/
def t (g : Geo) : Nat := unitCycles g.codec g.chroma

/-- t_f in cycles. -/
def tf (g : Geo) : Nat := floorCycles g.codec g.chroma

/-- TAIL in cycles (R130): the last seam strip. -/
def tail (g : Geo) : Nat := if 1 < g.pipes then 2 * g.t else 0

/-- HB, the header bits of a row band (R137). -/
def hb (g : Geo) : Nat := 8 * (64 + 4 * g.pipes * g.band)

/-- Blocks of 16 × 16 of band `k` over the picture's width (R103). -/
def bandBlocks (g : Geo) (k : Nat) : Nat :=
  let top := k * g.band * cuSize g.codec
  let rowsLuma := min (g.bandRows k * cuSize g.codec) (g.height - top)
  ceilDiv g.width 16 * ceilDiv rowsLuma 16

end Geo

/-- FLOOR_TIME in ns, rounded up (R132), with `extra` ns of seam transfer (R236). -/
def floorTime (g : Geo) (extra : Nat) : Nat :=
  ceilDiv (8 * switchCycles false g.codec + 8 * (g.n + 4) * g.tf
    + (if extra = 0 then 8 * g.tail else 16 * g.t + 5 * extra)) 5

/-- W_P in fifths of a ns (R99, R133), with `extra` ns of seam transfer. -/
def pipeWork (g : Geo) (extra : Nat) : Nat :=
  4 * switchCycles false g.codec + 2 * g.n0 * g.t + 4 * (g.n + 4) * g.t
    + (if extra = 0 then 4 * g.tail else 8 * g.t + 5 * extra) + 4 * g.t * (if 1 < g.pipes ∨ extra ≠ 0 then 7 else 5)

/-- DEC_FLOOR_TIME in ns, rounded up (R171), with `extra` ns of seam transfer. -/
def decFloorTime (codec : Nat) (ws : List Nat) (extra : Nat) : Nat :=
  let c := cfg ws 1 0 2
  let blocks := ceilDiv (cfg ws 0 0 16) 16 * ceilDiv (cfg ws 0 16 16) 16
  ceilDiv (8 * switchCycles true codec + blocks * 8 * blockCycles codec c true + 16 * blockCycles codec c false + 5 * extra) 5

/-! ### Rate block (R138, R156) -/

/-- MODE. -/
def rateMode (ws : List Nat) : Nat := cfg ws 10 0 3

/-- R_c in bit/s (R138). -/
def rateC (ws : List Nat) : Nat := 1000 * (if rateMode ws = 0 then word ws 11 else word ws 12)

/-- Bs in bits. -/
def bufBits (ws : List Nat) : Nat := 1000 * word ws 13

/-- V(0) (R138). -/
def startFill (ws : List Nat) : Nat := min (bufBits ws) (rateC ws * cfg ws 14 0 24 / 1000000)

/-- H_KEY or H_PIC (R137). -/
def headBits (key : Bool) : Nat := if key then 4608 else 512

/-- QP_MAX with its substitute (R156). -/
def qpMax (codec : Nat) (ws : List Nat) : Nat := orElse (qpTop codec) (cfg ws 15 8 8)

/-- QP_MIN. -/
def qpMin (ws : List Nat) : Nat := cfg ws 15 0 8

/-- QP_STEP with its substitutes. -/
def qpStep (ws : List Nat) : Nat := min 12 (orElse 4 (cfg ws 15 16 8))

/-- KEY_RATIO with its substitutes. -/
def keyRatio (ws : List Nat) : Nat := max 16 (orElse 64 (cfg ws 16 0 8))

/-- The rate block's ranges (R141, R156). -/
def rateOk (codec : Nat) (ws : List Nat) : Bool :=
  let m := rateMode ws
  let rate := word ws 11
  let top := word ws 12
  let lo := if codec = 1 then 1 else 0
  decide (m < 4) && (m != 0 && m != 1 || decide (1 ≤ rate) && decide (rate ≤ 4000000))
    && (m == 0 || decide ((if m = 1 then rate else 1) ≤ top) && decide (top ≤ 4000000))
    && decide (1 ≤ word ws 13) && decide (word ws 13 ≤ 4000000) && decide (1 ≤ cfg ws 14 0 24)
    && decide (lo ≤ qpMin ws) && decide (qpMin ws ≤ qpMax codec ws) && decide (qpMax codec ws ≤ qpTop codec)
    && (m != 2 || decide (qpMin ws ≤ cfg ws 15 24 8) && decide (cfg ws 15 24 8 ≤ qpMax codec ws))
    && decide (cfg ws 17 0 13 ≤ 4096)

/-! ### Buffers (R204) -/

/-- The layout of a format code: line or tiled, bytes of a luma tile or of two samples, chroma; none for a reserved code. -/
def formatOf : Nat → Option (Bool × Nat × Nat)
  | 0x01 => some (false, 256, 0) | 0x02 => some (false, 256, 1) | 0x03 => some (false, 256, 2)
  | 0x11 => some (false, 320, 0) | 0x12 => some (false, 320, 1) | 0x13 => some (false, 320, 2)
  | 0x22 => some (true, 4, 1) | 0x32 => some (true, 5, 1)
  | _ => none

/-- The least PITCH of a format at a width. -/
def minPitch (f w : Nat) : Nat :=
  match formatOf f with
  | some (line, b, _) => if line then ceilDiv w 2 * b else ceilDiv w 32 * b
  | none => 0

/-- The bytes of a buffer; pool buffers add collocated motion. -/
def bufferSize (f w h pitch : Nat) (pool : Bool) : Nat :=
  match formatOf f with
  | none => 0
  | some (true, _, _) => pitch * h
  | some (false, _, c) =>
    let a := roundUp (pitch * ceilDiv h 8) 0x1000
    let b := match c with
      | 0 => a + roundUp (pitch * ceilDiv h 16) 0x1000
      | 1 => a + roundUp (pitch * ceilDiv h 8) 0x1000
      | _ => a + 2 * roundUp (pitch * ceilDiv h 8) 0x1000
    roundUp (if pool then b + ceilDiv w 16 * ceilDiv h 16 * 16 else b) 0x1000

/-- The tiled code of a chroma format and depth (R205). -/
def tiledCode (chroma depth : Nat) : Nat := (if depth = 1 then 0x11 else 0x01) + chroma

/-- RING_BYTES (R209). -/
def ringBytes (ws : List Nat) : Nat := roundUp (2 * ceilDiv (bufBits ws) 8 + 65536) 65536

/-- Bytes of a quantiser map (R147). -/
def mapBytes (codec w h : Nat) : Nat :=
  if codec = 1 then ceilDiv w 64 * ceilDiv h 64 else ceilDiv w 16 * ceilDiv h 16

/-- Pool buffers of a stream (R190). -/
def poolBufs (dec : Bool) (ws : List Nat) : Nat :=
  if dec then cfg ws 5 0 6 else cfg ws 4 16 2 + cfg ws 4 18 2 + cfg ws 4 20 1 + 1

/-- Format, width and height of a stream's pool buffers (R199, R205). -/
def poolFormat (dec : Bool) (ws : List Nat) : Nat × Nat × Nat :=
  (if dec then cfg ws 5 8 8 else tiledCode (cfg ws 1 0 2) (cfg ws 1 2 2), cfg ws 0 0 16, cfg ws 0 16 16)

/-- Bytes of one pool buffer (R190, R199). -/
def poolBufBytes (dec : Bool) (ws : List Nat) : Nat :=
  let (f, w, h) := poolFormat dec ws
  bufferSize f w h (minPitch f w) true

/-- The regions of a reservation in the order of R190, each rounded up to 4 KiB. -/
def reservation (dec : Bool) (codec : Nat) (ws : List Nat) : List Nat :=
  let w := cfg ws 0 0 16
  let h := cfg ws 0 16 16
  let pool := poolBufs dec ws * poolBufBytes dec ws
  if dec then [0x80000, pool]
  else [0x10000, pool, roundUp (ceilDiv (ceilDiv w 2) 4 * 5 * ceilDiv h 2) 0x1000,
        roundUp (2 * ceilDiv w 16 * ceilDiv h 16 * 8) 0x1000, roundUp (2 * mapBytes codec w h) 0x1000, ringBytes ws]

/-! ### Ring block (R229) -/

/-- RING_EN of a configuration: words of a command with at least 4 own slots. -/
def isRing (ws : List Nat) : Bool := decide (58 ≤ ws.length) && cfg ws 42 7 1 == 1

/-- RSID. -/
def rsid (ws : List Nat) : Nat := cfg ws 42 0 6

/-- BAND_ROWS with its substitute. -/
def bandRowsOf (size : Nat) (ws : List Nat) : Nat :=
  orElse (ceilDiv (cfg ws 43 16 16) (64 * size) * 64) (cfg ws 44 0 13)

/-- HALO_ROWS, HALO_DL, SHARE_PCT, TOKEN_MIN and GUARD_US with their substitutes. -/
def haloRows (ws : List Nat) : Nat := orElse 136 (cfg ws 44 16 10)
@[inherit_doc haloRows] def haloDl (ws : List Nat) : Nat := orElse (word ws 2) (word ws 45)
@[inherit_doc haloRows] def sharePct (ws : List Nat) : Nat := orElse 90 (cfg ws 46 0 8)
@[inherit_doc haloRows] def tokenMin (ws : List Nat) : Nat := orElse 4096 (cfg ws 46 8 24)
@[inherit_doc haloRows] def guardUs (ws : List Nat) : Nat := orElse 200 (cfg ws 47 0 16)

/-- First coding-unit row of position `p`'s band, and the row after its last (R230). -/
def bandSpan (codec size : Nat) (ws : List Nat) (p : Nat) : Nat × Nat :=
  let cu := cuSize codec
  let all := ceilDiv (cfg ws 43 16 16) cu
  let at_ := fun q => min all (ceilDiv (q * bandRowsOf size ws) cu)
  (at_ p, if p + 1 < size then at_ (p + 1) else all)

/-- Luma rows of position `p`'s band, clipped to the ring picture. -/
def bandLuma (codec size : Nat) (ws : List Nat) (p : Nat) : Nat :=
  let (a, b) := bandSpan codec size ws p
  min (b * cuSize codec) (cfg ws 43 16 16) - min (a * cuSize codec) (cfg ws 43 16 16)

/-- N_p and N_B,p of position `p` (R237, R243). -/
def bandUnits (codec size : Nat) (ws : List Nat) (p : Nat) : Nat :=
  let (a, b) := bandSpan codec size ws p
  ceilDiv (cfg ws 43 0 16) (cuSize codec) * (b - a)

/-- Bytes of `rows` luma rows of the ring picture with their chroma (R234, R236). -/
def rowBytes (ws : List Nat) (rows : Nat) : Nat :=
  let k2 := if cfg ws 1 0 2 = 0 then 3 else 4
  ceilDiv (cfg ws 43 0 16 * rows * k2 * (if cfg ws 1 2 2 = 1 then 10 else 8)) 16

/-- Time in ns to carry `bytes` of messages of 2,048 bytes over a link of `rate` Gbit/s (R234, R236). -/
def linkTime (bytes rate delay : Nat) : Nat := ceilDiv (ceilDiv bytes 2048 * 2104 * 8) (max 1 rate) + delay + 1000

/-! ### QP estimate (R143) -/

/-- The least q, below `fuel`, with 2^(2(q − 4) + 1) ≥ x^12 / y^12, that is round(4 + 6 log2(x / y)): exact in integers. -/
def qpSearch (x y : Nat) : Nat → Nat → Nat
  | 0, q => q
  | fuel + 1, q =>
    -- q is the rounded value when x / y < 2^((q - 4 + 1/2) / 6), that is (x / y)^12 < 2^(2 (q - 4) + 1)
    if (if 4 ≤ q then x ^ 12 < y ^ 12 * 2 ^ (2 * (q - 4) + 1) else x ^ 12 * 2 ^ (2 * (4 - q) - 1) < y ^ 12) then q
    else qpSearch x y fuel (q + 1)

/-- QP_est for α (8.8), the band's weight and its allotment, in HEVC units, not below 0 and not above 63. -/
def qpEstimate (alpha weight allot : Nat) : Nat :=
  if allot = 0 then 63 else qpSearch (alpha * weight) (256 * allot) 63 0

/-- The least q, below `fuel`, with x / y ≤ 2^((q − 4) / 6): exact in integers. -/
def qpFitSearch (x y : Nat) : Nat → Nat → Nat
  | 0, q => q
  | fuel + 1, q =>
    if (if 4 ≤ q then x ^ 6 ≤ y ^ 6 * 2 ^ (q - 4) else x ^ 6 * 2 ^ (4 - q) ≤ y ^ 6) then q else qpFitSearch x y fuel (q + 1)

/-- The smallest quantiser at which α (8.8) × weight / Qstep fits in `room` bits (R143), in the codec's units. -/
def qpFit (codec alpha weight room : Nat) : Nat :=
  if room = 0 then 255
  else if codec = 1 then clampNat 1 255 (Config.av1Fit (alpha * weight) (256 * room))
  else qpFitSearch (alpha * weight) (256 * room) 255 0

/-- The qindex with the HEVC-equivalent quantiser step of a QP (R109, R143): the step table of AV1 is no part of the spec, so the
conversion is a free function. -/
def toCodecQp (codec qp : Nat) : Nat :=
  if codec = 1 then clampNat 1 255 (Config.av1Index qp) else qp

end Sys2Proof.Machine
end

