-- ==== Sys2Proof/Machine/Pools.lean ====
section
/-!
DEFINITION. The four buffer pools (R357 to R361) and their commands.
-/
namespace Sys2Proof.Machine

/-- The requesters of an arbiter (R326). -/
def arbRequesters : Nat → Nat
  | 0 => 40 | 1 => 8 | 2 => 6 | 3 => 8 | 4 => 6 | 5 => 6 | 6 => 4 | 7 => 4
  | _ => 1

/-- An arbiter grants a requester: LAST_GRANT, and the pointer moves past it (R321). -/
def State.arbGrant (s : State) (i r : Nat) : State :=
  let p := (r + 1) % arbRequesters i
  let s1 := s.setFld ARB_STS_LAST_GRANT r i
  { s1 with arbPtr := if p = 0 then storeDrop s1.arbPtr i else storeInsert s1.arbPtr i p }

/-- The size of a buffer of pool `k` (R357). -/
def poolSize : Nat → Nat
  | 0 => 0x1000 | 1 => 0x8000 | 2 => 0x40000
  | _ => 0x200000

/-- The count of a pool: 0 behaves as 1, above 65,536 as 65,536 (R363). -/
def State.poolCount (s : State) (k : Nat) : Nat := clampNat 1 65536 (s.fld BP_CFG_COUNT k)

/-- A buffer of a pool is taken. -/
def State.bpIsTaken (s : State) (k i : Nat) : Bool := ((storeFind s.bpTaken (k * 131072 + i)).getD false)

/-- The first key from `k` on that a rising list does not hold. -/
def firstGap (k : Nat) : List Nat → Nat
  | [] => k
  | a :: rest => if a < k then firstGap k rest else if a = k then firstGap (k + 1) rest else k

/-- The lowest free index of a pool (R358). -/
def State.bpLowest (s : State) (k : Nat) : Nat :=
  firstGap (k * 131072) (s.bpTaken.map Prod.fst) - k * 131072

/-- The byte of a pool's free map that holds buffer `i`: 1 = free (R358). -/
def State.bpMapByte (s : State) (k i : Nat) : Byte :=
  let b := i / 8 * 8
  BitVec.ofNat 8 (maskOf ((List.range 8).filter fun j => decide (b + j < s.poolCount k) && !s.bpIsTaken k (b + j)))

/-- The threshold state of a pool follows IN_USE and the thresholds (R359). -/
def State.bpOver (s : State) (k inUse : Nat) : State :=
  let hi := s.fld BP_THRESH_HI_HI k
  let was := s.flag BP_STS_OVER k
  let ovr := if hi = 0 then false else if hi ≤ inUse then true else if inUse ≤ s.fld BP_THRESH_LO_LO k then false else was
  let s1 := s.setFlag BP_STS_OVER ovr k
  if ovr = was then s1 else s1.event BP_EVT_OVER k

/-- Keep a pool's status and threshold state true after a change of IN_USE (R358, R359), and write the map byte through. -/
def State.bpSync (s : State) (k i inUse : Nat) : State :=
  let s1 := (s.setFld BP_STS_IN_USE inUse k).setFlag BP_STS_EMPTY (decide (s.poolCount k ≤ inUse)) k
  let s3 := s1.bpOver k inUse
  s3.store .device (s.fld BP_MIRROR_ADDR k * 4096 + i / 8) [s3.bpMapByte k i]

/-- An allocation answered EMPTY (R360). -/
def State.bpEmpty (s : State) (k : Nat) : State := (s.bump .BP_EMPTY_CNT 1 k).event BP_EVT_EMPTY k

/-- One allocation from one pool: the lowest free index, or none for EMPTY; an ingest requester gets none over the threshold
(R357, R359). -/
def State.bpTake (s : State) (k : Nat) (ingest : Bool) : Option Nat × State :=
  let u := s.fld BP_STS_IN_USE k
  if !s.flag BP_CFG_EN k ∨ s.poolCount k ≤ u ∨ (ingest ∧ s.flag BP_STS_OVER k) then (none, s.bpEmpty k)
  else
    let i := s.bpLowest k
    (some i, ({ s with bpTaken := storeInsert s.bpTaken (k * 131072 + i) true }).bpSync k i (u + 1))

/-- An allocation with spill (R360): the pools tried are `k` and, under their SPILL bits, the next larger ones. -/
def State.bpAlloc (s : State) (ingest : Bool) : List Nat → Option (Nat × Nat) × State
  | [] => (none, s)
  | k :: rest =>
    match s.bpTake k ingest with
    | (some i, t) => (some (k, i), t)
    | (none, t) =>
      if rest.isEmpty ∨ ingest ∨ !s.flag BP_CFG_SPILL k then (none, t)
      else (t.bump .BP_SPILL_CNT 1 k).bpAlloc ingest rest

/-- The pools an allocation may try, from pool `k` on. -/
def poolsFrom (k : Nat) : List Nat := (List.range 4).filter fun j => decide (k ≤ j)

/-- A buffer is freed (R358): a free index sets DOUBLE_FREE, one at or above COUNT BAD_FREE, and both record the index. -/
def State.bpFree (s : State) (k i : Nat) : State :=
  if s.poolCount k ≤ i then (s.event BP_EVT_BAD_FREE k).setFld BP_ERR_IDX_INDEX i k
  else if !s.bpIsTaken k i then
    ((s.event BP_EVT_DOUBLE_FREE k).bump .BP_DFREE_CNT 1 k).setFld BP_ERR_IDX_INDEX i k
  else ({ s with bpTaken := storeDrop s.bpTaken (k * 131072 + i) }).bpSync k i (s.fld BP_STS_IN_USE k - 1)

/-- Free a list of buffers. -/
def State.bpFreeAll (s : State) (l : List (Nat × Nat)) : State := l.foldl (fun t b => t.bpFree b.1 b.2) s

/-- The smallest pool whose buffers hold `n` bytes (R166, R358). -/
def poolFor (n : Nat) : Nat := if n ≤ 0x1000 then 0 else if n ≤ 0x8000 then 1 else if n ≤ 0x40000 then 2 else 3

/-- Take `n` buffers of BP3 as one chain, or none (R166). -/
def State.bpChain (s : State) : Nat → List (Nat × Nat) → Option (List (Nat × Nat)) × State
  | 0, got => (some got, s)
  | n + 1, got =>
    match s.bpTake 3 false with
    | (some i, t) => t.bpChain n (got ++ [(3, i)])
    | (none, t) => (none, t.bpFreeAll got)

/-- Stage an access unit of `n` bytes as the lead CPX (R166). -/
def State.stage (s : State) (n : Nat) : Option (List (Nat × Nat)) × State :=
  if n ≤ 0x200000 then
    match s.bpAlloc false (poolsFrom (poolFor n)) with
    | (some b, t) => (some [b], t)
    | (none, t) => (none, t)
  else s.bpChain (ceilDiv n 0x200000) []

/-- BP_ALLOCATE (R357, R359 to R361): ARB3 grants the request of requester `r` (0 to 5 ingest, 6 the DMA write engine, 7 the lead
CPX); the index granted, with its pool, is the value the requester reads, bit 31 for EMPTY. -/
def execBpAllocate (k r : Nat) (s : State) : Out :=
  let (got, t) := (s.arbGrant 3 (r % 8)).bpAlloc (decide (r < 6)) (poolsFrom k)
  finish { t with lastRead := match got with
    | some (p, i) => BitVec.ofNat 64 (i + p * 2 ^ 24)
    | none => 0x80000000 }

/-- BP_FREE_WRITE (R358). -/
def execBpFreeWrite (a : Agent) (k : Nat) (v : Word) (s : State) : Out :=
  finish <| s.byAgent a .BP_FREE k fun f s =>
    if f ≠ 0 then s
    else
      let i := v.toNat % 131072
      (s.setFld BP_FREE_INDEX i k).bpFree k i

/-- BP_ALLOC_READ (R360): a PF0 read allocates as the lead CPX and never spills: index, or EMPTY with the index 0. -/
def execBpAllocRead (k : Nat) (s : State) : Out :=
  match (s.arbGrant 3 7).bpTake k false with
  | (some i, t) => finish { t with lastRead := BitVec.ofNat 64 i }
  | (none, t) => finish { t with lastRead := 0x80000000 }

/-- BP_CFG_WRITE (R357): COUNT and SPILL only while EN is 0; EN cleared only while nothing is in use; setting EN fails with
CFG_ERR for a base that is not aligned, a region or mirror beyond `MC_CAP`, or an overlap with another enabled pool. -/
def execBpCfgWrite (a : Agent) (k : Nat) (v : Word) (s : State) : Out :=
  finish <| s.byAgent a .BP_CFG k fun f s =>
    if f ≠ 0 then s
    else
      let en := (v.toNat >>> 18) % 2 = 1
      if s.flag BP_CFG_EN k then
        if en ∨ s.fld BP_STS_IN_USE k ≠ 0 then s else s.setFld BP_CFG_EN 0 k
      else
        let s1 := s.putN .BP_CFG (v.toNat % 2 ^ 18) k
        if !en then s1
        else
          let base := s1.regN .BP_BASE k
          let fin := base + s1.poolCount k * poolSize k
          let mEnd := s1.fld BP_MIRROR_ADDR k * 4096 + ceilDiv (s1.poolCount k) 8
          let clash := (List.range 4).any fun j => j != k && s1.flag BP_CFG_EN j &&
            decide (s1.regN .BP_BASE j < fin) && decide (base < s1.regN .BP_BASE j + s1.poolCount j * poolSize j)
          if base % poolSize k ≠ 0 ∨ s1.regN .MC_CAP < fin ∨ s1.regN .MC_CAP < mEnd ∨ clash then s1.event BP_EVT_CFG_ERR k
          else s1.setFld BP_CFG_EN 1 k

end Sys2Proof.Machine
end

