-- ==== Sys2Proof/Machine/Streams.lean ====
section
/-!
DEFINITION. Stream contexts: the states of R188, reservations and pools, slot tables and their votes, frame buffer descriptors
and the shared operations on the bitstream ring (R188 to R211).
-/
namespace Sys2Proof.Machine

/-! ### States and owners -/

/-- The first failure of steps 6 and 7 of the check order for a stream-handle command (R188, R539): owner, then state; `kind` is
the kind of stream the opcode acts on, if it has one. -/
def State.streamError (s : State) (c : Cmd) (kind : Option Bool) : Option (Nat × Nat) :=
  let x := s.stream c.handle
  if x.st = .free then some (0x11, 0x00F005)
  else if c.func ≠ x.func then some (0x14, 2)
  else match x.st with
    | .migrating => some (0x16, 0)
    | .lost => if c.opcode = 0x0302 then none else some (0x32, 0)
    | .closing => some (0x11, 0x11)
    | .opened => if c.opcode = 0x0301 ∨ c.opcode = 0x0302 then none else some (0x11, 0x11)
    | _ => match kind with
      | some d => if x.dec = d then none else some (0x11, 0x11)
      | none => none

/-- The core of a stream-handle command: its owner and state checks before what it does. -/
def withStream (c : Cmd) (kind : Option Bool) (s : State) (f : Stream → Res) : Res :=
  match s.streamError c kind with
  | some (st, d) => Res.err s st d
  | none => f (s.stream c.handle)

/-- The first of a list of checks that fails, by its detail; the list is in rising order of detail (R539). -/
def firstBad : List (Bool × Nat) → Option Nat
  | [] => none
  | (ok, d) :: rest => if ok then firstBad rest else some d

/-- A command found its AT_TICK index passed when it was fetched (R80). -/
def State.lateOf (s : State) (c : Cmd) : Bool :=
  match s.entryOf c with | some o => o.late | none => c.atTick && decide (c.tick ≤ s.tickIndex)

/-- The configuration words that the newest accepted STREAM_CONFIG gave. -/
def Stream.newest (x : Stream) : List Nat := x.wordsNext.getD x.words

/-- The windows [L, D) of a stream: in force and staged (R37). -/
def Stream.windows (x : Stream) : List (Nat × Nat) :=
  (if x.d = 0 then [] else [(x.l, x.d)]) ++ x.ldNext.map fun (l, d, _) => (l, d)

/-- Two windows overlap. -/
def overlap (a b : Nat × Nat) : Bool := decide (a.1 < b.2) && decide (b.1 < a.2)

/-- Pictures of a stream accepted and not launched, and launched and not complete (R84, R35). -/
def State.accepted (s : State) (h : Nat) : Nat :=
  (s.codec.enc.filter fun p => p.stream == h && !p.launched).length + (s.codec.dec.filter fun p => p.stream == h && !p.launched).length
@[inherit_doc State.accepted] def State.inFlight (s : State) (h : Nat) : Bool :=
  (s.codec.enc.any fun p => p.stream == h && p.launched) || s.codec.dec.any fun p => p.stream == h && p.launched

/-! ### Slot tables -/

/-- The streams of the enabled entries of a bank (R195). -/
def State.bankStreams (s : State) (next : Bool) (p : Nat) : List Nat :=
  let n := if next then s.fld SLT_BANK_NEXT_COUNT p else s.fld SLT_BANK_ACT_COUNT p
  let r := if next then Reg.SLT_NEXT else Reg.SLT_ACT
  (List.range n).filterMap fun e =>
    let w := s.regN r (p * 64 + e)
    if w.testBit 15 then some (w % 512) else none

/-- Pipe `p` has a swap pending. -/
def State.swapPending (s : State) (p : Nat) : Bool := (s.regN .SLT_STS).testBit p

/-- The pipes of the 24 that name a stream in the configuration after the pending swaps, with the pipes of `mask` swapped too. -/
def State.pipesAfter (s : State) (mask h : Nat) : List Nat :=
  (List.range 24).filter fun p => (s.bankStreams (s.swapPending p || mask.testBit p) p).contains h

/-- The pipes whose active bank names a stream: those that code its pictures (R94, R162). -/
def State.pipesNow (s : State) (h : Nat) : List Nat :=
  (List.range 24).filter fun p => (s.bankStreams false p).contains h

/-- An enabled entry of either bank names the stream. -/
def State.named (s : State) (h : Nat) : Bool :=
  (List.range 24).any fun p => (s.bankStreams false p).contains h || (s.bankStreams true p).contains h

/-- A window overlaps that of another stream on a pipe that names this stream, in either bank (R199). -/
def State.clashes (s : State) (h : Nat) (w : Nat × Nat) : Bool :=
  [false, true].any fun nx => (List.range 24).any fun p =>
    let l := s.bankStreams nx p
    l.contains h && l.any fun g => g != h && (s.stream g).windows.any (overlap w)

/-- A pipe serves a picture now. -/
def State.pipeBusy (s : State) (p : Nat) : Bool :=
  (s.codec.enc.any fun q => q.launched && q.pipes.any fun w => w.pipe == p) ||
    s.codec.dec.any fun q => q.launched && q.pipes.any fun w => w.pipe == p

/-! ### Votes of streams (R191) -/

/-- The domain of a port's lanes (R257, R435). -/
def State.portDomain (s : State) (port : Nat) : Nat := if s.packageB then 10 else 10 + port % 4

/-- The half a port lies in (R18). -/
def State.portHalf (s : State) (port : Nat) : Nat := (s.portDomain port - 10) / 2

/-- The words' egress or ingest flow, when FLOW_EN is set. -/
def flowOf (dec : Bool) (ws : List Nat) : Option Nat :=
  let k := if dec then 9 else 7
  if cfg ws k 15 1 = 1 then some (cfg ws k 0 12) else none

/-- A flow handle's flow. -/
def State.flow (s : State) (h : Nat) : Flow := (storeFind s.flows h).getD {}

/-- Set a flow. -/
def State.setFlow (s : State) (h : Nat) (x : Flow) : State :=
  { s with flows := if x = ({} : Flow) then storeDrop s.flows h else storeInsert s.flows h x }

/-- Some stream needs the domain (R191): for its reservation, its flow's port, or a pipe that an entry in force or pending, or a
picture in flight, gives it. -/
def State.streamsNeed (s : State) (d : Nat) : Bool :=
  if d < 6 then
    (List.range 24).any fun p => pipeDomain p == d &&
      (!(s.bankStreams false p).isEmpty || (s.swapPending p && !(s.bankStreams true p).isEmpty) || s.pipeBusy p)
  else s.streams.any fun (_, x) => x.st != .free &&
    (((d = 8 || d = 9) && !x.res.regions.isEmpty) ||
      (match flowOf x.dec x.newest with
       | some f => decide (10 ≤ d) && decide (d < 14) && !x.newest.isEmpty && s.portDomain (word (s.flow f).words 0) == d
       | none => false))

/-- The STREAMS client votes for the domains some stream needs, and for no other. -/
def State.streamVotes (s : State) : State :=
  (List.range 14).foldl (fun t d => t.vote 1 d (s.streamsNeed d)) s

/-! ### Descriptors -/

/-- A descriptor is FREE (R206). -/
def State.descFree (s : State) (d : Nat) : Bool := s.regN .FB_DESC_MARKS d &&& 0xF4F == 0

/-- The first `n` free descriptors of a function that no pool holds, from descriptor `d` on. -/
def State.takeDescs (s : State) (f : Nat) : Nat → Nat → Nat → List Nat
  | 0, _, _ => []
  | _ + 1, _, 0 => []
  | fuel + 1, d, n + 1 =>
    if s.fld FB_DESC_OWN_FUNC d = f ∧ !s.flag FB_DESC_OWN_POOL d ∧ s.descFree d then d :: s.takeDescs f fuel (d + 1) n
    else s.takeDescs f fuel (d + 1) (n + 1)

/-- Set mark bits of a descriptor, and clear others (R207). -/
def State.mark (s : State) (d set clear : Nat) : State :=
  (s.putN .FB_DESC_MARKS ((s.regN .FB_DESC_MARKS d ||| set) &&& (0xFFF ^^^ clear)) d).touch 6 d

/-- The mark bits (R216). -/
def mkReady : Nat := 1
@[inherit_doc mkReady] def mkSrc : Nat := 2
@[inherit_doc mkReady] def mkCur : Nat := 4
@[inherit_doc mkReady] def mkRef : Nat := 8
@[inherit_doc mkReady] def mkLt : Nat := 16
@[inherit_doc mkReady] def mkUnusable : Nat := 32
@[inherit_doc mkReady] def mkHeld : Nat := 64
/-- REF clears, and LT and UNUSABLE with it (R206). -/
def mkRefAll : Nat := 56

/-- Give descriptors to a stream's pool: address, format and owner fields, no marks (R190, R202). -/
def State.fillPool (s : State) (h f : Nat) (fmt : Nat × Nat × Nat) (base bytes : Nat) (l : List Nat) : State :=
  (l.zipIdx).foldl (fun t (d, k) =>
    ((((((t.putN .FB_DESC_BASE (base + k * bytes) d).putN .FB_DESC_DIM (fmt.2.1 + fmt.2.2 * 65536) d).putN .FB_DESC_FMT
      (fmt.1 + minPitch fmt.1 fmt.2.1 * 256) d).putN .FB_DESC_OWN (f + 64 + h * 65536 + 2 ^ 31) d).putN .FB_DESC_MARKS 0 d).touch 6 d)) s

/-- Return pool descriptors to FREE (R190, R192). -/
def State.freePool (s : State) (l : List Nat) : State :=
  l.foldl (fun t d => ((t.putN .FB_DESC_OWN (t.fld FB_DESC_OWN_FUNC d) d).putN .FB_DESC_MARKS 0 d).touch 6 d) s

/-! ### Reservations -/

/-- Ranges of device memory that reservations and bitstream rings hold (R190, R192). -/
def State.reserved (s : State) : List (Nat × Nat) :=
  (s.streams.flatMap fun (_, x) =>
    [(x.res.base, x.res.regions.sum)] ++ (match x.resNext with | some r => [(r.base, r.regions.sum)] | none => []))
    ++ s.codec.rings.map fun r => (r.base, r.bytes)

/-- A range of `n` bytes at `a` lies in the arena of a function, below `MC_CAP`, and holds no reservation. -/
def State.fits (s : State) (f n a : Nat) : Bool :=
  let base := s.regN .FB_ARENA_BASE f
  decide (base ≤ a) && decide (a + n ≤ base + s.regN .FB_ARENA_SIZE f) && decide (a + n ≤ s.regN .MC_CAP) &&
    s.reserved.all fun (b, m) => m == 0 || decide (b + m ≤ a) || decide (a + n ≤ b)

/-- The lowest address at which `n` bytes fit (R190): the arena's base or the end of a reservation. -/
def State.firstFit (s : State) (f n : Nat) : Option Nat :=
  let cands := (s.regN .FB_ARENA_BASE f :: s.reserved.map fun (b, m) => b + m).filter (s.fits f n)
  cands.foldl (fun b a => match b with | none => some a | some x => some (min x a)) none

/-- Make a reservation for configuration words: none with the detail of NO_RESOURCE when the arena or the free descriptors do
not suffice (R190); `at?` is the base recorded by a survivor, used when it is wholly free (R514). -/
def State.reserve (s : State) (h : Nat) (x : Stream) (ws : List Nat) (at? : Option Nat) : Except Nat (Resv × State) :=
  let regions := reservation x.dec x.codec ws
  let n := regions.sum
  let base := match at? with
    | some a => if s.fits x.func n a then some a else s.firstFit x.func n
    | none => s.firstFit x.func n
  match base with
  | none => .error 1
  | some a =>
    let need := poolBufs x.dec ws
    let pool := s.takeDescs x.func 8192 0 need
    if pool.length < need then .error 2
    else
      let ring := if x.dec then 0 else ringBytes ws
      let r : Resv := { base := a, regions := regions, ringBase := a + n - ring, ringBytes := ring, pool := pool }
      let ctx := regions.headD 0
      .ok (r, (s.fillPool h x.func (poolFormat x.dec ws) (a + ctx) (poolBufBytes x.dec ws) pool).touch 7 h)

/-! ### Applying a configuration -/

/-- The rate words in force after a configuration (R145): the fields the bitstream signals wait for the next key picture. -/
def mergeRate (old new : List Nat) : List Nat × Option (List Nat) :=
  let held := fun l : List Nat => (word l 0 % 8, word l 1, word l 2, word l 3, word l 4)
  if old.isEmpty ∨ held old = held new then (new, none)
  else ([word new 0 / 8 * 8 + word old 0 % 8, word old 1, word old 2, word old 3, word old 4] ++ new.drop 5, some new)

/-- The rate words P10 to P17 of a configuration. -/
def rateWords (ws : List Nat) : List Nat := (ws.drop 10).take 8

/-- A configuration's words with the rate block in force in place of P10 to P17: what the formulas of R138 to R143 read. -/
def Stream.rateCfg (x : Stream) : List Nat := (List.range 10).map (word x.words) ++ x.rate.words

/-- Put the registers of a stream's bitstream ring and rate state in place (R157, R215). -/
def State.showStream (s : State) (h : Nat) : State :=
  let x := s.stream h
  let r := x.rate
  if x.dec ∨ x.words.isEmpty then s
  else
    let s1 := ((s.putN .FB_S_RING_BASE x.res.ringBase h).putN .FB_S_RING_SIZE x.res.ringBytes h).putN .RC_S_FILL r.fill h
    let s2 := s1.putN .RC_S_QP (r.qpLast + qpMin x.rateCfg * 256 + qpMax x.codec x.rateCfg * 65536
      + (if rateMode x.rateCfg = 3 then r.qpPic else 0) * 2 ^ 24) h
    (s2.putN .RC_S_ALPHA (r.alphaInter + r.alphaKey * 65536) h).putN .RC_S_FLOOR_TIME x.floorTime h

/-- Put configuration words, with their reservation, in force (R116, R118, R145, R147, R163). -/
def State.applyConfig (s : State) (h : Nat) (ws : List Nat) (res : Resv) : State :=
  let x := s.stream h
  let first := x.words.isEmpty
  let (rw, nx) := mergeRate x.rate.words (rateWords ws)
  let key := first || word x.words 0 != word ws 0 || word x.words 1 != word ws 1 || word x.words 4 != word ws 4
  let sized := first || word x.words 0 != word ws 0
  let rate0 : RateState := { x.rate with words := rw, next := nx.orElse fun _ => x.rate.next }
  let rate1 := if first then { rate0 with qpPic := (qpMin ws + qpMax x.codec ws) / 2, fill := startFill ws } else rate0
  let rate2 := if sized then { rate1 with map := none, mapNext := none } else rate1
  let newRing := res.ringBase ≠ x.res.ringBase ∨ res.ringBytes ≠ x.res.ringBytes ∨ first
  let x' := { x with words := ws, wordsNext := none, res := res, resNext := none, keyDue := x.keyDue || key, rate := rate2,
                     recs := if newRing then [] else x.recs, unsent := if newRing then [] else x.unsent,
                     pkts := if newRing then [] else x.pkts }
  let s1 := s.setStream h x'
  let s2 := if res.pool = x.res.pool then s1 else s1.freePool x.res.pool
  let s3 :=
    if x.dec then
      if !first ∧ (List.range 3).all (fun k => word x.words (6 + k) == word ws (6 + k)) then s2
      else (s2.resetReg .DEC_S_REC_HEAD h).resetReg .DEC_S_REC_TAIL h
    else if newRing then
      ((s2.putN .FB_S_RING_WR 0 h).putN .FB_S_RING_RD 0 h).setFld FB_S_RING_CFG_PHASE 1 h
    else s2
  (s3.showStream h).streamVotes

/-- A configuration that waited for the picture in flight is put in force once it has ended (R118, R190). -/
def State.settleConfig (s : State) (h : Nat) : State :=
  let x := s.stream h
  match x.wordsNext with
  | some ws => if s.inFlight h then s else s.applyConfig h ws (x.resNext.getD x.res)
  | none => s

/-! ### Ring links as the checks see them -/

/-- Data rate of a Fulet link in Gbit/s (R224). -/
def State.linkRate (s : State) (k : Nat) : Nat := (if s.flag FL_STS_RATE25 k then 25 else 10) * 2 ^ s.fld FL_STS_LANES_UP k

/-- Measured delay of a link in ns (R219, R253). -/
def State.linkDelay (s : State) (k : Nat) : Nat := if k = 0 then s.fld RING_FL_DELAY_FL0 else s.fld RING_FL_DELAY_FL1

/-- The slowest rate and the longest delay of the links to confirmed neighbours. -/
def State.worstLink (s : State) : Nat × Nat :=
  let ks := [0, 1].filter fun k => if k = 0 then s.flag RING_STS_FL0_NB else s.flag RING_STS_FL1_NB
  (ks.foldl (fun m k => min m (s.linkRate k)) 100, ks.foldl (fun m k => max m (s.linkDelay k)) 0)

/-- SEAM_XFER of a ring stream's member with a neighbour below; 0 for any other stream (R236). -/
def State.seamXfer (s : State) (ws : List Nat) : Nat :=
  if isRing ws ∧ s.fld RING_CFG_POSITION + 1 < s.fld RING_CFG_SIZE then
    let (r, d) := s.worstLink
    linkTime (rowBytes ws 16) r d
  else 0

/-- HW of R234 over the ring streams of this device, with `ws` for stream `h`. -/
def State.teaselWindow (s : State) (h : Nat) (ws : List Nat) : Nat :=
  let (r, d) := s.worstLink
  let others := (s.streams.filter fun (g, x) => g != h && x.st != .free && isRing x.newest).map fun (_, x) => x.newest
  ((ws :: others).map fun w => linkTime (rowBytes w (haloRows w)) r d).sum

/-- The fields of the ring block are in range, the device has joined, and the RSID is free (R229, R230). -/
def State.ringFieldsOk (s : State) (h : Nat) (ws : List Nat) : Bool :=
  let w := cfg ws 43 0 16
  let b := cfg ws 44 0 13
  let r := cfg ws 44 16 10
  let p := cfg ws 46 0 8
  s.flag RING_CFG_JOINED && w % 8 == 0 && cfg ws 43 16 16 % 8 == 0 && decide (0 < w) && decide (w ≤ 32768) && decide (0 < cfg ws 43 16 16)
    && decide (cfg ws 43 16 16 ≤ 17408) && (b == 0 || b % 8 == 0 && decide (64 ≤ b) && decide (b ≤ 4352))
    && (r == 0 || r % 8 == 0 && decide (8 ≤ r) && decide (r ≤ 520)) && (p == 0 || decide (50 ≤ p) && decide (p ≤ 100))
    && !(s.streams.any fun (g, x) => g != h && x.st != .free && isRing x.newest && rsid x.newest == rsid ws)

/-- The band rules of R230. -/
def State.bandOk (s : State) (x : Stream) (ws : List Nat) : Bool :=
  let n := s.fld RING_CFG_SIZE
  let h := bandLuma x.codec n ws (s.fld RING_CFG_POSITION)
  (x.dec || cfg ws 0 0 16 == cfg ws 43 0 16 && cfg ws 0 16 16 == h) && decide (cfg ws 0 0 16 ≤ 32768)
    && decide (cfg ws 0 16 16 ≤ 4352) && decide (cfg ws 0 0 16 * cfg ws 0 16 16 ≤ 35651584)
    && (List.range n).all fun p => decide (0 < bandUnits x.codec n ws p)

/-- The ring's own time checks (R243): HALO_DL, GUARD_US and D, with the H_hop of R224 for a FINAL of 40 bytes (log entry 32: DEDUCED). -/
def State.ringTimesOk (s : State) (h : Nat) (ws : List Nat) : Bool :=
  let (r, d) := s.worstLink
  let hop := 1000 + d + ceilDiv ((2084 + 20 + 40 + 20) * 8) (max 1 r)
  decide (s.teaselWindow h ws ≤ haloDl ws) && decide (haloDl ws < word ws 3)
    && decide (word ws 3 + guardUs ws * 1000 ≤ s.regN .TK_Q) && decide (s.fld RING_CFG_SIZE / 2 * hop + 1000 ≤ guardUs ws * 1000)

/-! ### The checks of STREAM_CONFIG -/

/-- R34: 0 ≤ L < D ≤ TK_Q, and D − L at least the floor time. -/
def State.windowOk (s : State) (l d floor : Nat) : Bool :=
  decide (l < d) && decide (d ≤ s.regN .TK_Q) && decide (floor ≤ d - l)

/-- A word of the configuration has a bit outside `mask` set. -/
def reservedSet (ws : List Nat) (k mask : Nat) : Bool := word ws k % 2 ^ 32 != word ws k % 2 ^ 32 &&& mask

/-- The reserved bits of an encode configuration, by word (R118, R156, R229). -/
def encReserved (ring : Bool) : List (Nat × Nat) :=
  [(1, 0x1FFFF), (4, 0x1F1F1F), (5, 0x1FFFF), (6, 0xFF1F), (7, 0x8FFF), (8, 0), (9, 0), (10, 0x17), (14, 0xFFFFFF),
   (16, 0xFFFF00FF), (17, 0x1FFF), (18, 0x3FFFFFF), (19, 3)]
  ++ (if ring then [(42, 0xBF), (44, 0x3FF1FFF), (47, 0xFFFF)] ++ (List.range 10).map fun k => (48 + k, 0) else [])

/-- The reserved bits of a decode configuration, by word (R163, R229). -/
def decReserved (ring : Bool) : List (Nat × Nat) :=
  [(1, 0xF), (4, 0xF100F), (5, 0xFF3F), (6, 0xFFFFF001), (8, 0xF), (9, 0x8FFF)] ++ ((List.range 16).map fun k => (10 + k, 0))
  ++ (if ring then [(42, 0xBF), (44, 0x3FF1FFF), (47, 0xFFFF)] ++ (List.range 10).map fun k => (48 + k, 0) else [])

/-- The checks on reserved bits, each with the detail that names its word (R73). -/
def reservedChecks (ws : List Nat) (l : List (Nat × Nat)) : List (Bool × Nat) :=
  l.map fun (k, m) => (!reservedSet ws k m, 0x800000 + k)

/-- The profile row of R111 that the words select holds. -/
def profileOk (codec : Nat) (ws : List Nat) : Bool :=
  let c := cfg ws 1 0 2
  let d := cfg ws 1 2 2
  if 1 < c ∨ 1 < d then false
  else match codec, cfg ws 1 4 4 with
    | 0, 0 => c == 0 || d == 1 || c == 1
    | _, 0 => true
    | 0, 1 => c == 0 && d == 0
    | 0, 2 => c == 0
    | 0, 3 => true
    | 1, 1 => c == 0
    | 1, 2 => c == 1
    | 2, 1 => c == 0
    | 2, 2 => c == 1
    | _, _ => false

/-- A stream may use the egress flow its words name (R96, R272). -/
def State.egressOk (s : State) (h : Nat) (x : Stream) (ws : List Nat) : Bool :=
  match flowOf false ws with
  | none => true
  | some f =>
    let w := s.flow f
    decide (f < 2048) && w.live && w.func == x.func && natField (word w.words 0) 12 3 == x.codec
      && !(s.streams.any fun (g, y) => g != h && y.st != .free && !y.dec && !y.newest.isEmpty && flowOf false y.newest == some f)

/-- The checks of an encode STREAM_CONFIG in rising order of detail (R34, R96, R105, R111, R112, R117, R118, R133, R140, R141,
R156, R199, R230, R243). -/
def State.encChecks (s : State) (h : Nat) (x : Stream) (ws : List Nat) : List (Bool × Nat) :=
  let g := encGeo x.codec ws
  let ring := isRing ws
  let seam := s.seamXfer ws
  let lv := Config.levelCheck [x.codec, cfg ws 1 4 4, cfg ws 1 8 8, cfg ws 1 16 1, if ring then cfg ws 43 0 16 else g.width,
    if ring then cfg ws 43 16 16 else g.height, s.fld TK_NUM_NUM, s.fld TK_DEN_DEN, rateC ws, bufBits ws, g.pipes, g.bands] % 3
  let l := word ws 2
  let d := word ws 3
  let den := s.fld TK_DEN_DEN
  let tick := rateC ws * s.fld TK_NUM_NUM
  let fits := fun bits => decide (bits * den ≤ tick) && decide (bits ≤ startFill ws)
  let n := s.fld RING_CFG_SIZE
  let all := ((List.range n).map (bandUnits x.codec n ws)).sum
  let head := headBits true + 8 * cfg ws 17 0 13
  let ringBits := (List.range n).all fun p =>
    let need := bandUnits x.codec n ws p * floorBits g.codec g.chroma true + ceilDiv (bandUnits x.codec n ws p / g.cols) g.band * g.hb
    let cap := min (tick / max 1 den) (startFill ws)
    decide (need ≤ cap * sharePct ws * bandUnits x.codec n ws p / max 1 (100 * all)) && decide (head ≤ cap * (100 - sharePct ws) / 100)
  [(ring || g.width % 8 == 0 && g.height % 8 == 0 && decide (64 ≤ g.width) && decide (g.width ≤ 8192) && decide (64 ≤ g.height)
      && decide (g.height ≤ 4352), 1),
   (profileOk x.codec ws, 2),
   (lv != 1, 3),
   (decide (1 ≤ g.pipes) && decide (g.pipes ≤ 16) && decide (4 ≤ g.cols / max 1 g.pipes)
      && !(s.named h && !x.newest.isEmpty && cfg x.newest 4 0 5 != g.pipes), 4),
   (decide (1 ≤ g.band) && decide (g.band ≤ (if x.codec = 2 then 4 else 8)) && decide (8 ≤ g.cols / max 1 g.pipes * min g.band g.rows), 5),
   (lv != 2, 6),
   (decide (1 ≤ cfg ws 4 16 2) && decide (cfg ws 4 16 2 ≤ 2) && decide (cfg ws 4 18 2 ≤ 2), 7),
   (s.windowOk l d (floorTime g seam), 8),
   (s.egressOk h x ws, 9),
   ((cfg ws 19 1 1 == 0 || decide (27 ≤ ws.length)), 0x0A),
   (decide (pipeWork g seam ≤ 5 * (d - l)), 0x0B),
   (rateOk x.codec ws, 0x0C),
   ((if ring then ringBits else fits (g.units * floorBits g.codec g.chroma true + g.bands * g.hb + head))
      && (rateMode ws != 0 || decide (tick ≤ bufBits ws * den)), 0x0D),
   (!s.clashes h (l, d), 0x10),
   (!ring || s.ringFieldsOk h ws, 0x12), (!ring || s.bandOk x ws, 0x13), (!ring || s.ringTimesOk h ws, 0x14)]
  ++ reservedChecks ws (encReserved ring)

/-- Buffers of a stream's pool that carry a mark. -/
def State.markedBufs (s : State) (x : Stream) : Nat := (x.res.pool.filter fun d => !s.descFree d).length

/-- The checks of a decode STREAM_CONFIG in rising order of detail (R34, R163, R199, R205, R230, R243). -/
def State.decChecks (s : State) (h : Nat) (x : Stream) (ws : List Nat) : List (Bool × Nat) :=
  let w := cfg ws 0 0 16
  let ht := cfg ws 0 16 16
  let c := cfg ws 1 0 2
  let dp := cfg ws 1 2 2
  let ring := isRing ws
  let pipes := cfg ws 4 0 4
  let bufs := cfg ws 5 0 6
  let l := word ws 2
  let d := word ws 3
  [(w % 8 == 0 && ht % 8 == 0 && decide (64 ≤ w) && decide (w ≤ (if ring then 32768 else 8192)) && decide (64 ≤ ht) && decide (ht ≤ 4352), 1),
   (decide (c ≤ 2) && decide (dp ≤ 1) && !(x.codec == 3 && c == 2), 2),
   (decide (1 ≤ pipes) && decide (pipes ≤ popCount 8 (s.fuse GLB_FUSE_CFG_DP_EN)) && decide (pipes ≤ 8)
      && !(s.named h && !x.newest.isEmpty && cfg x.newest 4 0 4 != pipes), 4),
   (s.windowOk l d (decFloorTime x.codec ws (s.seamXfer ws)), 8),
   ((match flowOf true ws with
     | none => true
     | some f => decide (2048 ≤ f) && decide (f < 3072) && (s.flow f).live && (s.flow f).func == x.func), 9),
   (decide (2 ≤ bufs) && decide (bufs ≤ 32) && cfg ws 5 8 8 == tiledCode c dp && decide (s.markedBufs x ≤ bufs), 0x0E),
   (decide (4 ≤ cfg ws 8 0 4) && decide (cfg ws 8 0 4 ≤ 12), 0x0F),
   (!s.clashes h (l, d), 0x10),
   (!ring || s.ringFieldsOk h ws, 0x12), (!ring || s.bandOk x ws, 0x13), (!ring || s.ringTimesOk h ws, 0x14)]
  ++ reservedChecks ws (decReserved ring)

/-- The floor time a configuration gives. -/
def State.floorOf (s : State) (x : Stream) (ws : List Nat) : Nat :=
  if x.dec then decFloorTime x.codec ws (s.seamXfer ws) else floorTime (encGeo x.codec ws) (s.seamXfer ws)

/-- Keep the ring-stream status of an RSID true (R253): its local handle, its picture lead, whether that is this device. -/
def State.showRing (s : State) (h : Nat) : State :=
  let x := s.stream h
  if isRing x.newest ∧ x.st ≠ .free then
    let r := rsid x.newest
    let pl := (storeFind s.ring.plead r).getD 0
    s.putN .RING_RS_STS (h + pl * 65536
      + (decide (storeFind s.ring.plead r = some (s.fld RING_CFG_POSITION))).toNat * 2 ^ 30 + 2 ^ 31) r
  else s

/-- A stream is configured by words that have been checked, or answered (R37, R118, R163, R188, R190): the reservation is made
anew only when its regions change, and words wait for a picture in flight. -/
def State.configure (s : State) (h : Nat) (ws : List Nat) (at? : Option Nat) : Res :=
  let x := s.stream h
  match firstBad (if x.dec then s.decChecks h x ws else s.encChecks h x ws) with
  | some d => Res.bad s d
  | none =>
    let cur := x.resNext.getD x.res
    let same := cur.regions = reservation x.dec x.codec ws ∧ poolFormat x.dec x.newest = poolFormat x.dec ws ∧
      poolBufs x.dec x.newest = poolBufs x.dec ws
    match (if same then .ok (cur, s) else s.reserve h x ws at?) with
    | .error d => Res.full s d
    | .ok (res, s1) =>
      let floor := s.floorOf x ws
      let l := word ws 2
      let d := word ws 3
      let first := decide (x.st = .opened)
      let s2 := s1.onStream h fun y =>
        { y with st := if first then .configured else y.st, floorTime := floor, l := if first then l else y.l,
                 d := if first then d else y.d, ldNext := if first then [] else [(l, d, s.tickIndex + 1)] }
      let s3 :=
        if s.inFlight h then
          (match x.resNext with | some r => if same then s2 else s2.freePool r.pool | none => s2).onStream h fun y =>
            { y with wordsNext := some ws, resNext := if same ∧ x.resNext.isNone then none else some res }
        else s2.applyConfig h ws res
      Res.ok (((s3.showRing h).touch 4 h).streamVotes) floor

/-! ### STREAM_OPEN, STREAM_CONFIG, LAUNCH_SET -/

/-- `GLB_SURV` counts the survivor records and the handles in LOST (R518, R519). -/
def State.showSurv (s : State) : State :=
  s.putN .GLB_SURV (s.survivors.length % 1024 + (s.streams.filter fun e => e.2.st == .lost).length % 1024 * 65536)

/-- The handle STREAM_OPEN takes (R189, R512): the one named, or the lowest FREE one without a survivor record. -/
def State.openHandle (s : State) (h : Nat) : Option Nat :=
  if h = 0xFFFF then (List.range 512).find? fun k => (s.stream k).st == .free && (storeFind s.survivors k).isNone
  else if (s.stream h).st = .free then some h else none

/-- STREAM_OPEN (R188, R189, R512). -/
def opStreamOpen (c : Cmd) (s : State) : Res :=
  let dec := natField (c.p 0) 0 1 == 1
  let codec := natField (c.p 0) 4 4
  if !dec ∧ s.fuse GLB_FUSE_CFG_CL_EN = 0 then Res.bad s 0x00F006
  else if 3 < codec ∨ (!dec ∧ codec = 3) then Res.badWord s 0
  else match s.openHandle c.handle with
    | none => Res.full s 1
    | some h =>
      if s.chip.fuseErr then Res.full s 2
      else
        let x : Stream := { st := .opened, dec := dec, codec := codec, func := c.func, lockWait := !s.flag TB_STATUS_LOCKED }
        let s1 := (State.showSurv { s with survivors := storeDrop s.survivors h }).setStream h x
        Res.ok (s1.touch 4 h) h

/-- STREAM_OPEN. -/
def execStreamOpen (c : Cmd) (s : State) : Out := runCommand c opStreamOpen s

/-- STREAM_CONFIG (R34, R96, R118, R163, R190). -/
def opStreamConfig (c : Cmd) (s : State) : Res :=
  withStream c none s fun _ => s.configure c.handle (c.params.map (· % 2 ^ 32)) none

/-- STREAM_CONFIG. -/
def execStreamConfig (c : Cmd) (s : State) : Out := runCommand c opStreamConfig s

/-- LAUNCH_SET (R34, R37, R80, R199): values staged when the command is fetched apply from the tick it names, else from the next
tick; a held one is only answered when it is released. -/
def opLaunchSet (c : Cmd) (s : State) : Res :=
  withStream c none s fun x =>
    let l := c.p 0
    let d := c.p 1
    let now := s.tickIndex
    if c.atTick ∧ c.tick ≤ now ∧ !s.lateOf c then Res.ok s
    else if s.clashes c.handle (l, d) then Res.bad s 0x10
    else if !s.windowOk l d x.floorTime then Res.badWord s (if l < d ∧ x.floorTime ≤ d - l then 1 else 0)
    else
      let n := if c.atTick ∧ now < c.tick then c.tick else now + 1
      Res.ok ((s.onStream c.handle fun y => { y with ldNext := y.ldNext.filter (fun e => e.2.2 != n) ++ [(l, d, n)] }).touch 4 c.handle)

/-- LAUNCH_SET. -/
def execLaunchSet (c : Cmd) (s : State) : Out := runCommand c opLaunchSet s

/-- L and D of every stream step to the values staged for the tick that fires (R37). -/
def State.stepWindows (s : State) : State :=
  s.streams.foldl (fun t (h, x) =>
    let due := x.ldNext.filter fun e => decide (e.2.2 ≤ s.tickIndex)
    match due.getLast? with
    | some (l, d, _) => t.onStream h fun y => { y with l := l, d := d, ldNext := y.ldNext.filter fun e => decide (s.tickIndex < e.2.2) }
    | none => t) s

/-! ### Closing -/

/-- Clear the slot entries that name a stream, in both banks of every pipe (R192). -/
def State.clearSlots (s : State) (h : Nat) : State :=
  let hit := fun w : Nat => w % 512 == h && w.testBit 15
  (List.range 24).foldl (fun t p =>
    let a := (List.range (t.fld SLT_BANK_ACT_COUNT p)).filter fun e => hit (t.regN .SLT_ACT (p * 64 + e))
    let b := (List.range (t.fld SLT_BANK_NEXT_COUNT p)).filter fun e => hit (t.regN .SLT_NEXT (p * 64 + e))
    if a.isEmpty ∧ b.isEmpty then t
    else
      let t1 := a.foldl (fun u e => u.putN .SLT_ACT 0 (p * 64 + e)) t
      let t2 := b.foldl (fun u e => u.putN .SLT_NEXT 0 (p * 64 + e)) t1
      (t2.touch 5 p).touch 0x105 p) s

/-- The registers of a stream handle read 0 again (R157, R184, R215, R253). -/
def State.clearStreamRegs (s : State) (h : Nat) : State :=
  [Reg.FB_S_RING_BASE, .FB_S_RING_SIZE, .FB_S_RING_WR, .FB_S_RING_RD, .FB_S_RING_CFG, .FB_S_OVR_CNT, .RC_S_FILL, .RC_S_TARGET,
   .RC_S_CAP, .RC_S_QP, .RC_S_ALPHA, .RC_S_FLOORED, .RC_S_CAUSE, .RC_S_FLOOR_TIME, .DEC_S_STS, .DEC_S_ERR, .DEC_S_REC_HEAD,
   .DEC_S_REC_TAIL, .DEC_S_OUT_REL, .DEC_S_CONC_CNT, .DEC_S_SUBST_CNT, .DEC_S_PS_CNT].foldl (fun t r => t.resetReg r h) s

/-- The state of a ring stream is given up with its last stream. -/
def State.dropRs (s : State) (r : Nat) : State := { s with ring := { s.ring with rs := storeDrop s.ring.rs r } }

/-- The four steps of a close, and the handle FREE (R192); the bitstream ring stays until it is released. -/
def State.endStream (s : State) (h : Nat) : State :=
  let x := s.stream h
  let s1 := (s.clearSlots h).freePool (x.res.pool ++ (match x.resNext with | some r => r.pool | none => []))
  let left : List RingLeft :=
    if x.dec ∨ x.res.ringBytes = 0 then []
    else [{ stream := h, base := x.res.ringBase, bytes := x.res.ringBytes, tick := s.tickIndex, flow := flowOf false x.words,
            unsent := x.unsent, pkts := x.pkts }]
  let s2 := { s1 with codec := { s1.codec with rings := s1.codec.rings ++ left,
                                               resident := s1.codec.resident.filter fun e => e.2 != h } }
  let s3 :=
    if !isRing x.newest then s2
    else
      let id := rsid x.newest
      ([Reg.RING_RS_STS, .RING_RS_SHARE, .RING_RS_TOKENS_IN, .RING_RS_TOKENS_OUT, .RING_RS_CARRY, .RING_RS_POOL, .RING_RS_PLAN_TICK].foldl
        (fun t r => t.resetReg r id) s2).dropRs id
  ((((s3.setStream h {}).clearStreamRegs h).touch 4 h).touch 7 h).streamVotes.showSurv

/-- A close that waits for the stream's pictures is finished once the last has ended (R192). -/
def State.settleClose (s : State) (h : Nat) : State :=
  let x := s.stream h
  match x.st, x.closing with
  | .closing, some c =>
    if s.accepted h = 0 ∧ !s.inFlight h then (s.endStream h).answer c 0 0 0 else s
  | _, _ => s

/-- Pictures of a stream that are accepted and not launched are discarded with a status (R149, R192): staged buffers return to
their pools. -/
def State.discardAccepted (s : State) (h status detail : Nat) : State :=
  let es := s.codec.enc.filter fun p => p.stream == h && !p.launched
  let ds := s.codec.dec.filter fun p => p.stream == h && !p.launched
  let s1 := { s with codec := { s.codec with enc := s.codec.enc.filter (fun p => !(p.stream == h && !p.launched)),
                                             dec := s.codec.dec.filter fun p => !(p.stream == h && !p.launched) } }
  let s2 := es.foldl (fun t p => t.answerLater p.cmd status detail 0) s1
  ds.foldl (fun t p => (t.bpFreeAll p.staged).answerLater p.cmd status detail 0) s2

/-- STREAM_CLOSE (R188, R192). -/
def opStreamClose (c : Cmd) (s : State) : Res :=
  withStream c none s fun _ =>
    let h := c.handle
    let s1 := if natField (c.p 0) 0 1 = 1 then s else s.discardAccepted h 0x31 0
    if s1.accepted h = 0 ∧ !s1.inFlight h then Res.ok (s1.endStream h)
    else Res.later ((s1.onStream h fun y => { y with st := .closing, closing := some c }).touch 4 h)

/-- STREAM_CLOSE. -/
def execStreamClose (c : Cmd) (s : State) : Out := runCommand c opStreamClose s

/-- BITSTREAM_RING_RELEASE (R192): the ring of a closed stream is released once every released band is sent, or at the second
tick after the reply, when bands not yet sent are dropped and counted. -/
def execBitstreamRingRelease (stream : Nat) (s : State) : Out :=
  finish <|
    match s.codec.rings.find? fun r => r.stream == stream with
    | none => s
    | some r =>
      if r.unsent.isEmpty ∨ r.tick + 2 ≤ s.tickIndex then
        let s1 := { s with codec := { s.codec with rings := s.codec.rings.erase r } }
        match r.flow with
        | some f => s1.setFlow f { s1.flow f with drops := satAdd 0xFFFFFFFF (s1.flow f).drops r.unsent.length }
        | none => s1
      else s

/-! ### SLOT_LOAD and SLOT_SWAP -/

/-- The checks of a next bank's entries (R196), for pipe `p`. -/
def State.slotChecks (s : State) (p n : Nat) (es : List Nat) : List (Bool × Nat) :=
  let on := es.filterMap fun w => if w.testBit 15 then some (w % 512) else none
  let good := fun h =>
    let x := s.stream h
    x.st != .free && decide (x.func ≤ 32) && x.dec == decide (16 ≤ p)
  let pairs := on.zipIdx.flatMap fun (a, i) => (on.drop (i + 1)).map fun b => (a, b)
  [(on.all good, 1), (pairs.all fun (a, b) => a != b, 2),
   (pairs.all fun (a, b) => (s.stream a).windows.all fun w => (s.stream b).windows.all fun v => !overlap w v, 3),
   (!s.swapPending p, 4), (decide (1 ≤ n) && decide (n ≤ 64), 5)]

/-- Write a pipe's next bank (R195, R196). -/
def State.loadBank (s : State) (p : Nat) (es : List Nat) : State :=
  let s1 := (List.range 64).foldl (fun t e =>
    let w := word es e &&& 0x81FF
    if t.regN .SLT_NEXT (p * 64 + e) = w then t else t.putN .SLT_NEXT w (p * 64 + e)) s
  ((s1.setFld SLT_BANK_NEXT_COUNT es.length p).touch 5 p).touch 0x105 p

/-- The words of 4 bytes that bytes spell. -/
def wordsOf (n : Nat) (bs : List Byte) : List Nat := (List.range n).map fun k => leNat ((bs.drop (k * 4)).take 4)

/-- SLOT_LOAD (R7, R73, R196, R406). -/
def opSlotLoad (c : Cmd) (s : State) : Res :=
  let p := c.handle
  if !s.pipePresent p then Res.bad s 0x00F006
  else if s.halfFenced (pipeHalf p) then Res.err s 0x14 3
  else match c.data with
    | none => if 1 ≤ c.p 2 ∧ c.p 2 ≤ 64 then Res.err s 0x30 0 else Res.bad s (if s.swapPending p then 4 else 5)
    | some bs =>
      let n := c.p 2
      let es := wordsOf (min n 64) bs
      match firstBad (s.slotChecks p n es) with
      | some d => Res.bad s d
      | none => Res.ok (s.loadBank p es)

/-- SLOT_LOAD. -/
def execSlotLoad (c : Cmd) (s : State) : Out := runCommand c opSlotLoad s

/-- The configuration that results from swapping the pipes of `mask` beside those pending is consistent (R197). -/
def State.swapOk (s : State) (mask : Nat) : Bool :=
  let banks := (List.range 24).map fun p => (p, s.bankStreams (s.swapPending p || mask.testBit p) p)
  let count := fun h => (banks.filter fun (_, l) => l.contains h).length
  let need := fun h => cfg (s.stream h).newest 4 0 (if (s.stream h).dec then 4 else 5)
  (banks.all fun (_, l) => l.all fun h => count h == need h) &&
    s.streams.all fun (h, x) => x.st == .free || s.accepted h == 0 || count h == need h

/-- SLOT_SWAP (R191, R197): the pipes become pending, their streams' votes stand, and the reply waits for the swap. -/
def opSlotSwap (c : Cmd) (s : State) : Res :=
  let mask := c.p 0 % 2 ^ 24
  if (List.range 24).any fun p => mask.testBit p && s.pipePresent p && s.halfFenced (pipeHalf p) then Res.err s 0x14 3
  else if !s.swapOk mask then Res.bad s 1
  else if (List.range 24).any fun p => mask.testBit p && !s.pipePresent p then Res.bad s 2
  else
    let s1 := s.setFld SLT_STS_PENDING (s.regN .SLT_STS ||| mask)
    let s2 := (bitsOf 24 mask).foldl (fun t p => t.setFld SLT_BANK_PENDING 1 p) s1
    Res.later ({ s2 with codec := { s2.codec with swaps := s2.codec.swaps ++ [c] } }).streamVotes

/-- SLOT_SWAP. -/
def execSlotSwap (c : Cmd) (s : State) : Out := runCommand c opSlotSwap s

/-- One pipe exchanges its banks (R198); a pipe that carries a picture is held on its old entry (R200). -/
def State.swapPipe (s : State) (p : Nat) : State :=
  let a := s.fld SLT_BANK_ACT_COUNT p
  let n := s.fld SLT_BANK_NEXT_COUNT p
  let s1 := (List.range (max a n)).foldl (fun t e =>
    let k := p * 64 + e
    (t.putN .SLT_ACT (s.regN .SLT_NEXT k) k).putN .SLT_NEXT (s.regN .SLT_ACT k) k) s
  let s2 := ((s1.setFld SLT_BANK_ACT_COUNT n p).setFld SLT_BANK_NEXT_COUNT a p).setFld SLT_BANK_PENDING 0 p
  ((s2.setFlag SLT_BANK_HOLD (s.pipeBusy p) p).touch 5 p).touch 0x105 p

/-- The swap at position 3 of a tick (R198): the whole pending set, once every domain its new entries need is ON. -/
def State.slotSwap (s : State) : State :=
  let ps := bitsOf 24 (s.regN .SLT_STS)
  if ps.isEmpty ∨ ps.any fun p => !(s.bankStreams true p).isEmpty && !s.domOn (pipeDomain p) then s
  else
    let s1 := ps.foldl State.swapPipe s
    let s2 := ((s1.setFld SLT_STS_PENDING 0).putN .SLT_SWAP_TICK s.tickIndex).tbEvent 99
    let cs := s2.codec.swaps
    let s3 := { s2 with codec := { s2.codec with swaps := [] } }
    (cs.foldl (fun (t : State) c => t.answer c 0 0 0) s3).streamVotes

/-! ### Frame buffer registers -/

/-- The owner of an access as the per-function registers see it: FB_ERR and FB_ERR_IDX are kept by function (R215). -/
def State.fbErr (s : State) (f : Nat) (x : Field) (d : Option Nat) : State :=
  let s1 := s.setFld x 1 f
  match d with
  | some d => s1.setFld FB_ERR_IDX_INDEX d f
  | none => s1

/-- FB_ASSIGN_WRITE (R202): PF0 assigns a range; marked and pooled descriptors are skipped. -/
def execFbAssignWrite (a : Agent) (v : Word) (s : State) : Out :=
  finish <| s.byAgent a .FB_ASSIGN 0 fun f s =>
    if f ≠ 0 then s
    else
      let s0 := s.putN .FB_ASSIGN (v.toNat % 2 ^ 27)
      let own := s.fld FB_ASSIGN_FUNC_FUNC
      if 32 < own then s0.fbErr 0 FB_ERR_ASSIGN_ERR none
      else
        let first := v.toNat % 8192
        let n := min (orElse 1 (natField v.toNat 13 14)) (8192 - first)
        (List.range n).foldl (fun t k =>
          let d := first + k
          if t.regN .FB_DESC_MARKS d ≠ 0 ∨ t.flag FB_DESC_OWN_POOL d then t.fbErr 0 FB_ERR_ASSIGN_SKIP none
          else
            let t1 := [Reg.FB_DESC_BASE, .FB_DESC_DIM, .FB_DESC_FMT, .FB_DESC_MARKS, .FB_DESC_ORDER, .FB_DESC_TICK].foldl
              (fun u r => u.resetReg r d) t
            (t1.putN .FB_DESC_OWN own d).touch 6 d) s0

/-- The staged words of a descriptor and word 3 commit as one (R203); the error bits of a refusal are those of the accessing
function. -/
def State.commitDesc (s : State) (f d w3 : Nat) : State × Bool :=
  let st := fun k (old : Nat) => match storeFind s.codec.descStage (d * 4 + k) with | some w => w.toNat | none => old
  let lo := st 0 (s.regN .FB_DESC_BASE d % 2 ^ 32)
  let hi := st 1 (s.regN .FB_DESC_BASE d / 2 ^ 32)
  let dim := st 2 (s.regN .FB_DESC_DIM d)
  let base := (lo + hi * 2 ^ 32) / 0x1000 * 0x1000
  let w := dim % 65536
  let h := dim / 65536
  let fmt := w3 % 256
  let pitch := w3 / 256
  let s1 := { s with codec := { s.codec with descStage := storeErase (fun k => k / 4 == d) s.codec.descStage } }
  let busy := s.regN .FB_DESC_MARKS d &&& 0xF4E != 0
  let range := (formatOf fmt).isNone || w % 8 != 0 || h % 8 != 0 || decide (w < 64) || decide (8192 < w) || decide (h < 64)
    || decide (4352 < h) || decide (pitch < minPitch fmt w) || pitch % 64 != 0
    || decide (s.regN .MC_CAP < base + bufferSize fmt w h pitch false)
  if busy ∨ range then
    let s2 := if busy then s1.fbErr f FB_ERR_WR_BUSY (some d) else s1
    (if range then s2.fbErr f FB_ERR_RANGE (some d) else s2, false)
  else ((((s1.putN .FB_DESC_BASE base d).putN .FB_DESC_DIM dim d).putN .FB_DESC_FMT w3 d).mark d 0 mkReady, true)

/-- FB_DESC_COMMIT (R202, R203): the write of word 3. -/
def execFbDescCommit (a : Agent) (d : Nat) (v : Word) (s : State) : Out :=
  finish <| s.byAgent a .FB_DESC_FMT d fun f s =>
    if s.fld FB_DESC_OWN_FUNC d ≠ f ∨ s.flag FB_DESC_OWN_POOL d then s.fbErr f FB_ERR_NOT_OWNER (some d)
    else (s.commitDesc f d v.toNat).1

/-- FB_READY_WRITE (R207). -/
def execFbReadyWrite (a : Agent) (v : Word) (s : State) : Out :=
  finish <| s.byAgent a .FB_READY 0 fun f s =>
    let d := v.toNat % 8192
    let clear := v.toNat / 2 ^ 31 = 1
    let s1 := s.putN .FB_READY (v.toNat &&& 0x80001FFF)
    let m := s.regN .FB_DESC_MARKS d
    if s.fld FB_DESC_OWN_FUNC d ≠ f then s1.fbErr f FB_ERR_NOT_OWNER (some d)
    else if clear then (if m &&& 1 = 1 then s1.mark d 0 mkReady else s1.fbErr f FB_ERR_READY_BUSY (some d))
    else if s.descFree d ∧ !s.flag FB_DESC_OWN_POOL d then s1.mark d mkReady 0
    else s1.fbErr f FB_ERR_READY_BUSY (some d)

/-- FB_RING_RD_WRITE (R211, R215): accepted for a multiple of 64 below RING_BYTES within the unread data. -/
def execFbRingRdWrite (a : Agent) (stream : Nat) (v : Word) (s : State) : Out :=
  finish <| s.byAgent a .FB_S_RING_RD stream fun f s =>
    let x := s.stream stream
    let n := x.res.ringBytes
    let rd := s.regN .FB_S_RING_RD stream
    let unread := (s.regN .FB_S_RING_WR stream + n - rd) % max 1 n
    let new := v.toNat
    if x.st = .free ∨ x.dec ∨ (f ≠ 0 ∧ f ≠ x.func) then s
    else if new % 64 = 0 ∧ new < n ∧ (new + n - rd) % n ≤ unread then s.putN .FB_S_RING_RD new stream
    else s

/-- FB_ARENA_WRITE (R215): PF0, while the arena's function has no stream outside FREE. -/
def execFbArenaWrite (a : Agent) (f : Nat) (sizeReg : Bool) (v : DWord) (s : State) : Out :=
  let r := if sizeReg then Reg.FB_ARENA_SIZE else .FB_ARENA_BASE
  finish <| s.byAgent a r f fun w s =>
    if w ≠ 0 ∨ 32 < f then s
    else if s.streams.any fun (_, x) => x.st != .free && x.func == f then s.fbErr 0 FB_ERR_NOT_OWNER none
    else s.setReg r (v &&& ~~~0xFFF) f

/-! ### The bitstream ring -/

/-- A record of `size` bytes is put into a stream's ring (R210, R211): offset and phase advance, and data still needed that it
reaches counts as overwritten. Answers the record's offset and phase. -/
def State.ringPut (s : State) (h payload : Nat) : Nat × Nat × State :=
  let x := s.stream h
  let n := max 64 x.res.ringBytes
  let wr := s.regN .FB_S_RING_WR h
  let size := roundUp (32 + payload) 64
  let hit := fun o => decide ((o + n - wr) % n ≤ size)
  let recs := x.recs.filter fun (o, _) => !hit o
  let next := (wr + size) % n
  let ph := s.fld FB_S_RING_CFG_PHASE h
  let leads := !isRing x.words || storeFind s.ring.plead (rsid x.words) == some (s.fld RING_CFG_POSITION)
  let flowOn := (flowOf false x.words).isSome && leads
  let lostSend := if flowOn then (x.unsent.filter fun (o, _) => hit o).length else 0
  let rd := s.regN .FB_S_RING_RD h
  let lostRead := s.flag FB_S_RING_CFG_HOST_READ h && rd != wr && hit rd
  let x' := { x with recs := recs ++ [(wr, size)],
                     unsent := (x.unsent.filter fun (o, _) => !hit o) ++ (if flowOn then [(wr, payload)] else []),
                     pkts := if lostSend = 0 then x.pkts else [] }
  let s1 := (s.setStream h x').putN .FB_S_RING_WR next h
  let s2 := if wr + size < n then s1 else s1.setFld FB_S_RING_CFG_PHASE (1 - ph) h
  let s3 := if lostRead then s2.putN .FB_S_RING_RD ((recs.headD (wr, 0)).1) h else s2
  let s4 := if lostRead ∨ 0 < lostSend then (s3.bump .FB_S_OVR_CNT 1 h).setFld FB_S_RING_CFG_OVR 1 h else s3
  let s5 := match flowOf false x.words with
    | some f => if lostSend = 0 then s4 else s4.setFlow f { s4.flow f with drops := satAdd 0xFFFFFFFF (s4.flow f).drops lostSend }
    | none => s4
  (wr, ph, s5)

/-- Write bytes into a stream's ring from an offset, wrapping at its end (R210). -/
def State.ringWrite (s : State) (h off : Nat) (bs : List Byte) : State :=
  let x := s.stream h
  let n := max 64 x.res.ringBytes
  let head := bs.take (n - off)
  (s.store .device (x.res.ringBase + off) head).store .device x.res.ringBase (bs.drop (n - off))

end Sys2Proof.Machine
end

