-- ==== Sys2Proof/Machine/Time.lean ====
section
/-!
DEFINITION. Device time and the tick grid: the edges of TCLK, steps, lock state, the grid of TICK_CONFIG, TICK_OUT, PPS and the
backup clock (R22 to R47).
-/
namespace Sys2Proof.Machine

/-! ### TCLK -/

/-- One ns in the units the fraction is kept in (R23). -/
def nsUnit : Nat := 2 ^ 48 * 1000000000

/-- One edge of TCLK: 2 ns and the correction of `TB_ADJ_RATE`, in units of 1/1,024 ppb (R23, R44). -/
def tclkEdge (s : State) : State :=
  let total := ((2 * nsUnit + s.tb.frac : Nat) + signed 32 (s.regN .TB_ADJ_RATE) * (2 ^ 39 : Nat)).toNat
  let t := s.pass (total / nsUnit)
  { t with tb := { t.tb with frac := total % nsUnit } }

/-- The durations the block counts reach `t` (R36, R42). -/
def State.reachRun (s : State) (t : Nat) : State := if s.tb.run < t then s.pass (t - s.tb.run) else s

/-! ### Lock state -/

/-- `TB_STATUS.LOCKED` takes a value (R42): a change raises source 92; a servo that locks has set time (R58), and streams that
wait for it may launch again (R43). -/
def State.setLocked (s : State) (b : Bool) : State :=
  if s.flag TB_STATUS_LOCKED = b then s
  else
    let s1 := (s.setFlag TB_STATUS_LOCKED b).tbEvent 92
    let s2 := { s1 with tb := { s1.tb with within := 0, beyond := 0 } }
    if b then
      s2.streams.foldl (fun t (h, _) => t.onStream h fun x => { x with lockWait := false }) (s2.setFld TB_STATUS_TIME_VALID 1)
    else s2

/-- The agent the servo runs in (R41). -/
def State.servoOwner (s : State) (a : Agent) : Bool :=
  match a with
  | .func f => f == 0 && s.flag TB_CTRL_SERVO_HOST
  | .cpx h => !s.flag TB_CTRL_SERVO_HOST && h == s.leadHalf

/-- A servo update with a measured offset (R42): with SRC = FREE it is only stored. -/
def State.servoUpdate (s : State) (ofs : Nat) : State :=
  let s1 := s.putN .TB_SERVO_OFS ofs
  if s.fld TB_CTRL_SRC = 0 then s1
  else
    let mag := (signed 32 ofs).natAbs
    let thr := max 1 (s.fld TB_LOCK_CFG_THRESH_NS)
    let cnt := max 1 (s.fld TB_LOCK_CFG_COUNT)
    let small := decide (mag ≤ thr)
    let w := if small then s.tb.within + 1 else 0
    let b := if small then 0 else s.tb.beyond + 1
    let s2 := { s1.setFld TB_STATUS_HOLDOVER 0 with
                tb := { s1.tb with within := min w 256, beyond := min b 256, servoAt := s.tb.run, servoTimer := true } }
    if cnt ≤ w then s2.setLocked true
    else if 4 * thr < mag ∨ cnt ≤ b then s2.setLocked false
    else s2

/-- SERVO_OFFSET_WRITE (R41, R42). -/
def execServoOffsetWrite (a : Agent) (v : Word) (s : State) : Out :=
  finish <| s.byAgent a .TB_SERVO_OFS 0 fun _ s => if s.servoOwner a then s.servoUpdate v.toNat else s

/-- SERVO_TIMEOUT (R42): 4 s after the last servo write. -/
def execServoTimeout (s : State) : Out :=
  finish <|
    if s.tb.servoTimer ∧ s.fld TB_CTRL_SRC ≠ 0 then
      let s1 := (s.reachRun (s.tb.servoAt + 4000000000)).setLocked false
      { s1.setFld TB_STATUS_HOLDOVER 1 with tb := { s1.tb with servoTimer := false } }
    else s

/-- TB_CTRL_WRITE (R40, R42): a change of SRC clears LOCKED; with SRC = FREE, HOLDOVER reads 0 and the 4 s timer does not run. -/
def execTbCtrlWrite (a : Agent) (v : Word) (s : State) : Out :=
  finish <| s.byAgent a .TB_CTRL 0 fun f s =>
    if f ≠ 0 then s
    else
      let s1 := s.putN .TB_CTRL (v.toNat % 32)
      let src := v.toNat % 4
      if src = s.fld TB_CTRL_SRC then s1
      else
        let s2 := s1.setLocked false
        let s3 := { s2 with tb := { s2.tb with within := 0, beyond := 0, servoAt := s.tb.run, servoTimer := src != 0 } }
        if src = 0 then s3.setFld TB_STATUS_HOLDOVER 0 else s3

/-! ### The grid -/

/-- 10⁹ × TK_NUM: the period in units of 1 / TK_DEN ns (R27). -/
def State.gridK (s : State) : Nat := 1000000000 * s.fld TK_NUM_NUM

/-- The last grid index n with T(n) at or before an instant (R27). -/
def State.lastIndex (s : State) (t : Nat) : Nat := ((t + 1) * s.fld TK_DEN_DEN - 1) / max 1 s.gridK

/-- The generator stands after grid point `m`: index, next time and accumulator (R29). -/
def State.setGrid (s : State) (m : Nat) : State :=
  let t := s.tickTime (m + 1)
  let s1 := (((s.putN .TK_INDEX m).putN .TK_NEXT_SEC (t / 1000000000)).putN .TK_NEXT_NS (t % 1000000000)).putN .TK_ACC
    ((m + 1) * s.gridK % max 1 (s.fld TK_DEN_DEN))
  { s1 with tb := { s1.tb with tickAt := s.tickTime m } }

/-- Pictures bound to ticks that were counted missed are answered LATE_SUBMIT, detail 0x00_0002 (R39), and are not run. -/
def State.missPictures (s : State) (lo m : Nat) : State :=
  let hit := fun (launched : Bool) (tick : Nat) => !launched && decide (lo < tick) && decide (tick ≤ m)
  let es := s.codec.enc.filter fun p => hit p.launched p.tick
  let ds := s.codec.dec.filter fun p => hit p.launched p.tick
  let s1 := { s with codec := { s.codec with enc := s.codec.enc.filter (fun p => !hit p.launched p.tick),
                                             dec := s.codec.dec.filter fun p => !hit p.launched p.tick } }
  let s2 := es.foldl (fun t p => t.answerLater p.cmd 0x15 2 0) s1
  let s3 := ds.foldl (fun t p => (t.bpFreeAll p.staged).answerLater p.cmd 0x15 2 0) s2
  (es.map EncPic.stream ++ ds.map DecPic.stream).foldl State.settleClose s3

/-- Every grid point up to device time is counted missed (R45, R55): the index advances to the last of them and source 96 is
raised. -/
def State.missTicks (s : State) : State :=
  if !s.flag TK_CTRL_EN then s
  else
    let lo := s.tickIndex
    let m := s.lastIndex s.tb.ns
    if m ≤ lo then s else (((s.setGrid m).bump .TK_MISSED (m - lo)).tbEvent 96).missPictures lo m

/-- Device time takes a new value in one step (R42, R45): the fraction stays; more than 1 µs forward counts the ticks jumped
over; a step above 1 µs clears LOCKED; source 93 is raised. -/
def State.stepTime (s : State) (new : Nat) : State :=
  let s1 := { s with tb := { s.tb with ns := new } }
  let s2 := if s.tb.ns + 1000 < new then s1.missTicks else s1
  let s3 := if s.tb.ns + 1000 < new ∨ new + 1000 < s.tb.ns then s2.setLocked false else s2
  s3.tbEvent 93

/-- TICK_CONFIG (R28, R29, R31). -/
def opTickConfig (c : Cmd) (s : State) : Res :=
  let num := c.p 0
  let den := c.p 1
  let en := s.flag TK_CTRL_EN
  let same := en && decide (num * s.fld TK_DEN_DEN = s.fld TK_NUM_NUM * den) && decide (0 < den)
  if same then
    if num = 0 ∨ 1048575 < num ∨ 1048575 < den then Res.bad s 2 else Res.ok s ((s.tickIndex + 1) % 2 ^ 32)
  else if en ∧ s.streams.any fun (_, x) => x.st != .free then Res.bad s 1
  else if num = 0 ∨ den = 0 ∨ 1048575 < num ∨ 1048575 < den then Res.bad s 2
  else if 240 * num < den ∨ den < num then Res.bad s 3
  else
    let k := 1000000000 * num
    let n := ceilDiv ((s.tb.ns + 1000000) * den) k
    let s1 := (((s.putN .TK_NUM num).putN .TK_DEN den).putN .TK_Q (k / den)).putN .TK_R (k % den)
    Res.ok (((s1.setGrid (n - 1)).setFld TK_CTRL_EN 1).setFld TK_CTRL_PENDING 1) (n % 2 ^ 32)

/-- TICK_CONFIG. -/
def execTickConfig (c : Cmd) (s : State) : Out := runCommand c opTickConfig s

/-! ### Reading time -/

/-- TB_TIME_SEC_READ (R25). -/
def execTbTimeSecRead (s : State) : Out :=
  let s1 := ((s.putN .TB_TIME_SEC (s.tb.ns / 1000000000 % 2 ^ 48)).putN .TB_TIME_NS (s.tb.ns % 1000000000)).putN .TB_TIME_FRAC
    (fracField s.tb.frac)
  finish { s1 with lastRead := s1.reg .TB_TIME_SEC
                   tb := { s1.tb with shadowNs := s.tb.ns, shadowFrac := fracField s.tb.frac } }

/-! ### The time PLL -/

/-- TIME_PLL_LOCK_LOSS (R24): the time base goes on from TCLK's backup. -/
def execTimePllLockLoss (s : State) : Out :=
  finish <| if s.flag TB_STATUS_CLK_ALT then s else (s.setFld TB_STATUS_CLK_ALT 1).tbEvent 103

/-- TIME_PLL_RETURN (R24): at a tick, or, while no tick fires, where device nanoseconds next pass a whole millisecond. -/
def execTimePllReturn (s : State) : Out :=
  finish <|
    if !s.flag TB_STATUS_CLK_ALT then s
    else
      let s1 := if s.flag TK_CTRL_EN then s else s.reach (roundUp s.tb.ns 1000000)
      (s1.setFld TB_STATUS_CLK_ALT 0).tbEvent 103

/-! ### TICK_OUT and PPS -/

/-- The offset of TICK_OUT, clamped to half a period (R57). -/
def State.tickOutOfs (s : State) : Int :=
  let h := s.regN .TK_Q / 2
  clampInt (-(h : Int)) h (signed 32 (s.regN .TK_OUT_OFS))

/-- The width of TICK_OUT (R59). -/
def State.tickOutWidth (s : State) : Nat := min (s.regN .TK_Q / 2) (max 100 (s.fld TK_OUT_CFG_WIDTH_NS))

/-- The least marked index at or above `n` whose instant is not past (R33): at most two periods of marks ahead of `n`. -/
def State.nextMark (s : State) (n : Nat) : Nat × Nat :=
  let d := s.fld TK_OUT_CFG_DIV + 1
  let at_ := fun m => ((s.tickTime m : Int) + s.tickOutOfs).toNat
  let m0 := roundUp n d
  if s.tb.ns ≤ at_ m0 then (m0, at_ m0) else (m0 + d, at_ (m0 + d))

/-- TICK_OUT_ACTIVE (R33): the next marked tick's instant is reached, and TICK_OUT goes to its active level. -/
def execTickOutActive (s : State) : Out :=
  finish <|
    if !s.flag TK_CTRL_EN ∨ !s.flag TK_OUT_CFG_EN ∨ s.tb.tickOutAt.isSome then s
    else
      let (_, t) := s.nextMark (s.tickIndex + (s.fld TK_CTRL_PENDING))
      let s1 := s.reach t
      { s1 with pins := { s1.pins with tickOut := !s.flag TK_OUT_CFG_POL }, tb := { s1.tb with tickOutAt := some s1.tb.run } }

/-- TICK_OUT_INACTIVE (R33). -/
def execTickOutInactive (s : State) : Out :=
  finish <|
    match s.tb.tickOutAt with
    | none => s
    | some t =>
      let s1 := s.reachRun (t + s.tickOutWidth)
      { s1 with pins := { s1.pins with tickOut := s.flag TK_OUT_CFG_POL }, tb := { s1.tb with tickOutAt := none } }

/-- PPS_OUT_PULSE (R47): the next whole second of device time is reached. -/
def execPpsOutPulse (s : State) : Out :=
  finish <|
    if !s.flag TB_PPS_OUT_CFG_EN ∨ s.tb.ppsOutAt.isSome then s
    else
      let s1 := s.reach (roundUp s.tb.ns 1000000000)
      { s1 with pins := { s1.pins with ppsOut := true }, tb := { s1.tb with ppsOutAt := some s1.tb.run } }

/-- PPS_OUT_END (R47, R58). -/
def execPpsOutEnd (s : State) : Out :=
  finish <|
    match s.tb.ppsOutAt with
    | none => s
    | some t =>
      let s1 := s.reachRun (t + clampNat 1 500000 (s.fld TB_PPS_OUT_CFG_WIDTH_US) * 1000)
      { s1 with pins := { s1.pins with ppsOut := false }, tb := { s1.tb with ppsOutAt := none } }

/-- Device time is captured at a PPS edge (R46). -/
def State.capture (s : State) : State :=
  let s1 := (s.putN .TB_PPS_CAP_SEC (s.tb.ns / 1000000000)).putN .TB_PPS_CAP_NS (s.tb.ns % 1000000000)
  State.tbEvent { s1 with tb := { s1.tb with ppsAt := some s.tb.run } } 94

/-- PPS_CAPTURE (R46): an edge less than 100 ms after the last capture is ignored. -/
def execPpsCapture (s : State) : Out :=
  finish <|
    match s.tb.ppsAt with
    | some t => if s.tb.run < t + 100000000 then s else s.capture
    | none => s.capture

end Sys2Proof.Machine
end

