-- ==== Sys2Proof/Machine/Monitors.lean ====
section
/-!
DEFINITION. The thirty-two monitors: samples, histograms, snapshots and their configuration (R458 to R463, R474 to R477).
-/
namespace Sys2Proof.Machine

/-! ### Samples -/

/-- The histogram bin of a sample (R460). -/
def histBin (mode shift base v : Nat) : Nat :=
  if v < base then 0
  else
    let q := (v - base) / 2 ^ shift
    min 63 (1 + (if mode = 0 then q else Nat.log2 (q + 1)))

/-- A sample is folded into the live accumulators of one monitor and checked against its limits (R459, R460, R462). -/
def State.fold (s : State) (m v : Nat) : State :=
  let c := s.regN .MON_CFG m
  let b := m * 64 + histBin (natField c 20 2) (natField c 24 5) (s.regN .MON_BASE m) v
  let s1 := (s.putN .MON_MIN (min (s.regN .MON_MIN m) v) m).putN .MON_MAX (max (s.regN .MON_MAX m) v) m
  let s2 := (s1.bump .MON_COUNT 1 m).putN .MON_SUM (satAdd (2 ^ 64 - 1) (s.regN .MON_SUM m) v) m
  let s3 := s2.bump .MON_HIST 1 b
  let hi := decide (s.regN .MON_LIMIT m < v)
  let lo := decide (v < s.regN .MON_LO_LIMIT m)
  let s4 := if hi then s3.setFld MON_STS_HI 1 m else s3
  let s5 := if lo then s4.setFld MON_STS_LO 1 m else s4
  s5.eventIf (hi || lo) ⟨.MON_EVT, m, 1⟩

/-- A monitor is enabled on a quantity of an instance (R458, R463). -/
def State.watches (s : State) (m src inst : Nat) : Bool :=
  let c := s.regN .MON_CFG m
  natField c 23 1 == 1 && natField c 0 8 == src && natField c 8 12 == inst

/-- A quantity takes a value: every monitor that watches it takes a sample of 32 bits (R458, R459). -/
def State.sample (s : State) (src inst v : Nat) : State :=
  (List.range 32).foldl (fun t m => if t.watches m src inst then t.fold m (min v 0xFFFFFFFF) else t) s

/-- The value a periodic quantity has now (R458): a queue that is not open has none; droop and junction temperatures are measured. -/
def State.levelOf (s : State) (src inst : Nat) (droop temp : List Nat) : Option Nat :=
  match src with
  | 9 => some (s.fld CELLQ_STS_FREE)
  | 10 => if inst < 2048 ∧ !(s.flow inst).live then none else some (s.fld CELLQ_Q_DEPTH_CELLS inst)
  | 11 => some (s.fld BP_STS_IN_USE inst)
  | 12 => if s.flag CMDQ_CFG_EN inst then some (s.fld CMDQ_STS_PENDING inst) else none
  | 13 => droop[inst]?
  | 15 => temp[inst]?
  | 16 => some (s.fld PM_AVS_STS_MEASURED_MV)
  | _ => none

/-- MONITOR_PERIOD (R458): PERIOD_US after the last, the monitors of level quantities take a sample. -/
def execMonitorPeriod (droop temp : List Nat) (s : State) : Out :=
  let s1 := s.reachRun (s.spare.monLast + max 1 (s.fld MON_GLB_CTL_PERIOD_US) * 1000)
  let s2 := { s1 with spare := { s1.spare with monLast := s1.tb.run } }
  finish <| (List.range 32).foldl (fun (t : State) m =>
    let c := t.regN .MON_CFG m
    if natField c 23 1 = 0 then t
    else match t.levelOf (natField c 0 8) (natField c 8 12) droop temp with
      | some v => t.fold m (min v 0xFFFFFFFF)
      | none => t) s2

/-! ### Snapshots -/

/-- The live accumulators of a monitor are cleared (R459). -/
def State.clearLive (s : State) (m : Nat) : State :=
  let s1 := ((s.putN .MON_MIN 0xFFFFFFFF m).putN .MON_MAX 0 m).putN .MON_COUNT 0 m
  (s1.putN .MON_SUM 0 m).resetRange [.MON_HIST] (m * 64) (m * 64 + 64)

/-- One monitor's live set is copied into its snapshot set, and cleared with CLEAR_AT_SNAP (R461). -/
def State.snapOne (s : State) (m : Nat) : State :=
  if s.regN .MON_COUNT m = 0 ∧ s.regN .MON_S_COUNT m = 0 then s
  else
    let s1 := ((s.putN .MON_S_MIN (s.regN .MON_MIN m) m).putN .MON_S_MAX (s.regN .MON_MAX m) m).putN .MON_S_COUNT (s.regN .MON_COUNT m) m
    let s2 := (List.range 64).foldl (fun t b => t.putN .MON_S_HIST (s.regN .MON_HIST (m * 64 + b)) (m * 64 + b))
      (s1.putN .MON_S_SUM (s.regN .MON_SUM m) m)
    if natField (s.regN .MON_CFG m) 22 1 = 1 then s2.clearLive m else s2

/-- A snapshot of every monitor (R461). -/
def State.snapshot (s : State) : State :=
  (((List.range 32).foldl State.snapOne s).putN .MON_SNAP_TICK s.tickIndex).event MON_GLB_EVT_SNAP

/-- Position 2 of a tick (R461, R463): the snapshot, when the tick is selected, and then the configurations that wait. -/
def State.monTick (s : State) (apply : State → State) : State :=
  apply (if s.tickIndex % (s.fld MON_GLB_CTL_SNAP_DIV + 1) = 0 then s.snapshot else s)

/-- MONITOR_SNAP_WRITE (R461): PF0, while no grid runs. -/
def execMonitorSnapWrite (a : Agent) (s : State) : Out :=
  finish <| s.byAgent a .MON_GLB_CTL 0 fun f s => if f = 0 ∧ !s.flag TK_CTRL_EN then s.snapshot else s

/-! ### Configuration -/

/-- INST lies in the range of SRC and names a present unit (R458, R463). -/
def State.instOk (s : State) (src i : Nat) : Bool :=
  if src = 0 then true
  else if src < 5 then decide (i < 512)
  else if src = 5 ∨ src = 10 then decide (i < 2060)
  else if src = 6 ∨ src = 7 then s.channelPresent i
  else if src = 8 ∨ src = 12 then decide (i < 64)
  else if src = 11 then decide (i < 4)
  else if src = 13 ∨ src = 14 then decide (i < 8) && (decide (6 ≤ i) || s.domPresent i)
  else if src = 15 then decide (i < 16)
  else i == 0

/-- The checks of a monitor configuration (R458, R463). -/
def State.monCheck (s : State) (p0 : Nat) : Option Nat :=
  if 18 ≤ natField p0 0 8 then some 1
  else if !s.instOk (natField p0 0 8) (natField p0 8 12) then some 2
  else if 2 ≤ natField p0 20 2 then some 3
  else if natField p0 29 3 ≠ 0 then some 0x800000
  else none

/-- A configuration takes effect: words P0, BASE, LIMIT, LO_LIMIT (R463). -/
def State.monApply (s : State) (m : Nat) (ws : List Nat) : State :=
  let s1 := ((s.putN .MON_CFG (word ws 0) m).putN .MON_BASE (word ws 1) m).putN .MON_LIMIT (word ws 2) m
  (((s1.putN .MON_LO_LIMIT (word ws 3) m).clearLive m).putN .MON_STS 0 m).touch 16 m

/-- The configurations that wait for a tick take effect (R463). -/
def State.monApplyAll (s : State) : State :=
  let s1 := s.spare.monNext.foldl (fun t (m, ws) => t.monApply m ws) s
  { s1 with spare := { s1.spare with monNext := [] } }

/-- A configuration is accepted: it waits for the next tick, or takes effect at once while no grid runs (R463). -/
def State.monStage (s : State) (m : Nat) (ws : List Nat) : State :=
  if s.flag TK_CTRL_EN then { s with spare := { s.spare with monNext := storeInsert s.spare.monNext m ws } }
  else s.monApply m ws

/-- MONITOR_CONFIG (R463). -/
def opMonitorConfig (c : Cmd) (s : State) : Res :=
  match s.monCheck (c.p 0) with
  | some d => Res.bad s d
  | none => Res.ok (s.monStage c.handle [c.p 0, c.p 1, c.p 2, if c.own = 2 then c.p 10 else 0])

/-- MONITOR_CONFIG. -/
def execMonitorConfig (c : Cmd) (s : State) : Out := runCommand c opMonitorConfig s

end Sys2Proof.Machine
end

