-- ==== Sys2Proof/Machine/Spares.lean ====
section
/-!
DEFINITION. Wear, spares of every kind and the repair log (R464 to R473, R201), and which regions run slowed (R448, R469).
-/
namespace Sys2Proof.Machine

/-- A clock region runs at 625 MHz: by its droop sensor, by temperature, or for want of a PLL (R448, R451, R469). -/
def State.slowedRegion (s : State) (r : Nat) : Bool :=
  s.flag DRP_STS_SLOWED r || s.flag DRP_STS_THERM_SLOW r || s.power.pllSlow

/-- The region of a logical pipe (R448). -/
def pipeRegion (p : Nat) : Nat := if p < 16 then p / 4 else 4 + (p - 16) / 4

/-- What is left of a pipe's wait takes twice the time when its region is slowed, and half when it is no longer: cycle counts stay (R97,
R450). -/
def PipeWork.reclock (w : PipeWork) (now : Nat) (slowed : Bool) : PipeWork :=
  if w.due ≤ now then w else { w with due := now + (if slowed then 2 * (w.due - now) else (w.due - now) / 2) }

/-- The work of a pipe's picture is timed by the clock of its region (R97, R450). -/
def State.reclock (s : State) (pipe : Nat) (slowed : Bool) : State :=
  let f := fun (w : PipeWork) => if w.pipe = pipe then w.reclock (5 * s.tb.run) slowed else w
  { s with codec := { s.codec with enc := s.codec.enc.map fun q => { q with pipes := q.pipes.map f }
                                   dec := s.codec.dec.map fun q => { q with pipes := q.pipes.map f } } }

/-- A pipe's status shows the slowing of its region, and its work follows the clock (R97, R448, R450). -/
def State.showSlowed (s : State) (r : Nat) : State :=
  let b := s.slowedRegion r
  (List.range 24).foldl (fun t p =>
    if pipeRegion p ≠ r then t
    else
      let was := if p < 16 then t.flag ENC_EP_STS_SLOWED p else t.flag DEC_DP_STS_SLOWED (p - 16)
      let t1 := if was = b then t else t.reclock p b
      if p < 16 then t1.setFlag ENC_EP_STS_SLOWED b p else t1.setFlag DEC_DP_STS_SLOWED b (p - 16)) s

/-! ### The repair log -/

/-- The log holds 2,048 entries (R471). -/
def logSize : Nat := 2048

/-- An entry's word: KIND, WHERE and its CRC (R472). -/
def logEntry (kind place : Nat) : Nat :=
  let body := (kind % 256 + place * 256) % 2 ^ 56
  body + Config.crc8 body % 256 * 2 ^ 56

/-- A repair is written into the log: its programming begins; a full log only says so (R471). -/
def State.logRepair (s : State) (kind place : Nat) : State :=
  if logSize ≤ s.spare.log.length + s.spare.writing.length then
    (s.setFld SPR_STS_LOG_FULL 1).event SPR_EVT_LOG_FULL
  else
    let s1 := { s with spare := { s.spare with writing := s.spare.writing ++ [logEntry kind place] } }
    s1.setFld SPR_STS_LOG_BUSY 1

/-- REPAIR_LOG_PROGRAMMED (R471): the oldest entry being programmed is in the log. -/
def execRepairLogProgrammed (s : State) : Out :=
  finish <|
    match s.spare.writing with
    | [] => s
    | e :: rest =>
      let s1 := { s with spare := { s.spare with log := s.spare.log ++ [e], writing := rest } }
      (s1.setFld SPR_LOG_USED_USED s1.spare.log.length).setFlag SPR_STS_LOG_BUSY (!rest.isEmpty)

/-- REPAIR_LOG_READ (R473): header and whole entries, as many as fit. -/
def opRepairLogRead (c : Cmd) (s : State) : Res :=
  if c.p 2 < 16 then Res.bad s 1
  else
    let n := min s.spare.log.length ((c.p 2 - 16) / 8)
    let bs := leBytes 4 s.spare.log.length ++ leBytes 4 logSize ++ leBytes 4 (s.fld SPR_LOG_USED_BAD) ++ zeros 4
      ++ (s.spare.log.take n).flatMap (leBytes 8)
    { s := s.store .host (c.p64 0) bs, detail := (decide (n < s.spare.log.length)).toNat * 2, word := bs.length }

/-- REPAIR_LOG_READ. -/
def execRepairLogRead (c : Cmd) (s : State) : Out := runCommand c opRepairLogRead s

/-! ### Pipes -/

/-- The aging sensor of a logical pipe's home and of its spare (R464, R465). -/
def homeUnit (p : Nat) : Nat := if p < 16 then p else p + 4
@[inherit_doc homeUnit] def spareUnit (p : Nat) : Nat := if p < 16 then 16 + p / 4 else 28 + (p - 16) / 4

/-- The bit of `SPR_FAILED` of a unit. -/
def State.failedUnit (s : State) (u : Nat) : Bool := (s.regN .SPR_FAILED).testBit u

/-- A unit is marked failed (R466); a command processor is never marked (R475). -/
def State.markFailed (s : State) (u : Nat) : State :=
  if u = 30 ∨ u = 31 then s
  else
    let s1 := s.setReg .SPR_FAILED (setBitField (s.reg .SPR_FAILED) u 1 1)
    if 16 ≤ u ∧ u < 20 then s1.setFld ENC_CL_SPARE_AVAIL 0 (u - 16)
    else if u = 28 then s1.setFld DEC_SPARE_AVAIL0 0
    else if u = 29 then s1.setFld DEC_SPARE_AVAIL1 0
    else if u = 33 then s1.setFld SPR_STS_PLL_SPARE_OK 0
    else s1

/-- The field of `SLT_MAP_ENC` of a logical encoder pipe (R214). -/
def mapField (p : Nat) : Field := ⟨.SLT_MAP_ENC, p % 4 * 3, 3⟩

/-- A logical pipe runs on its spare (R214). -/
def State.onSpare (s : State) (p : Nat) : Bool :=
  if p < 16 then s.fld (mapField p) (p / 4) == 4 else (s.regN .SLT_MAP_DEC).testBit (p - 16)

/-- The spare of a logical pipe's cluster or half carries some pipe. -/
def State.spareInUse (s : State) (p : Nat) : Bool :=
  if p < 16 then s.flag ENC_CL_SPARE_IN_USE (p / 4) else if p < 20 then s.flag DEC_SPARE_IN_USE0 else s.flag DEC_SPARE_IN_USE1

/-- The spare can take the pipe (R466). -/
def State.spareFree (s : State) (p : Nat) : Bool :=
  s.pipePresent p && !s.spareInUse p && !s.failedUnit (spareUnit p)

/-- No spare is left: FS19 and the event (R466). -/
def State.noSpare (s : State) (unit : Nat) : State := (s.record 19 unit).event SPR_EVT_SPARE_NONE

/-- A substitution is pending for the unit. -/
def State.swapAsked (s : State) (h : Nat) : Bool := s.spare.reqs.any fun r => r.handle == h

/-- A request for a substitution is listed, with its pending bit (R475). -/
def State.ask (s : State) (r : SpareReq) : State :=
  let s1 := { s with spare := { s.spare with reqs := s.spare.reqs ++ [r] } }
  if r.handle < 24 then s1.setReg .SPR_PENDING (setBitField (s1.reg .SPR_PENDING) r.handle 1 1)
  else if r.handle < 88 then s1.setFld SPR_PENDING_BANK 1
  else s1.setFld SPR_PENDING_PLL 1

/-- A pipe failed or wore out (R465, R466): its spare is claimed; a pipe that already runs on its spare stays stopped, and its
spare is marked failed. -/
def State.claimSpare (s : State) (p why : Nat) : State :=
  if s.swapAsked p then s
  else if s.onSpare p then
    if why = 1 then ((s.markFailed (spareUnit p)).logRepair 9 (spareUnit p)).noSpare p else s.noSpare p
  else if s.spareFree p then s.ask { handle := p, why := why }
  else s.noSpare p

/-- Set or clear that a logical pipe runs on its spare (R466). -/
def State.mapPipe (s : State) (p : Nat) (b : Bool) : State :=
  if p < 16 then
    let c := p / 4
    ((((s.setFld (mapField p) (if b then 4 else p % 4) c).setFlag ENC_CL_SPARE_IN_USE b c).setFld ENC_CL_SPARE_FOR (p % 4) c).setFlag
      ENC_EP_STS_ON_SPARE b p).setFld ENC_EP_STS_STOPPED 0 p
  else
    let n := p - 16
    let s1 := s.setReg .SLT_MAP_DEC (setBitField (s.reg .SLT_MAP_DEC) n 1 b.toNat)
    let s2 := if n < 4 then (s1.setFlag DEC_SPARE_IN_USE0 b).setFld DEC_SPARE_FOR0 (n % 4)
              else (s1.setFlag DEC_SPARE_IN_USE1 b).setFld DEC_SPARE_FOR1 (n % 4)
    (s2.setFlag DEC_DP_STS_ON_SPARE b n).setFld DEC_DP_STS_STOPPED 0 n

/-- A request is done with: its pending bit clears when no other of its kind waits. -/
def State.unask (s : State) (r : SpareReq) : State :=
  let s1 := { s with spare := { s.spare with reqs := s.spare.reqs.erase r } }
  if r.handle < 24 then s1.setReg .SPR_PENDING (setBitField (s1.reg .SPR_PENDING) r.handle 1 0)
  else if r.handle < 88 then s1.setFlag SPR_PENDING_BANK ((s1.spare.reqs.any fun q => decide (24 ≤ q.handle) && decide (q.handle < 88)))
  else s1.setFld SPR_PENDING_PLL 0

/-- A pipe's substitution takes effect, or finds no spare (R193, R201, R466, R470): no context is resident in the pipe that takes the
work over, so the next picture pays its restore and no save. -/
def State.swapPipeUnit (s : State) (r : SpareReq) : State :=
  let p := r.handle
  let s0 := s.unask r
  let tick := s.tickIndex % 2 ^ 32
  if r.back then (((s0.mapPipe p false).logRepair 8 p).event SPR_EVT_SWAP).answerLater r.cmd 0 0 tick
  else if !s.spareFree p then (s0.noSpare p).answerLater r.cmd 0x12 4 0
  else
    let s1 := s0.mapPipe p true
    let s2 := if r.why = 0 then s1 else s1.markFailed (homeUnit p)
    let s3 := { s2 with codec := { s2.codec with resident := storeDrop s2.codec.resident p } }
    ((s3.logRepair (if p < 16 then 4 else 5) p).event SPR_EVT_SWAP).answerLater r.cmd 0 0 tick

/-! ### The scratchpad bank and the PLL -/

/-- A failing scratchpad bank (R465, R467): the spare bank is claimed. -/
def State.bankFails (s : State) (b : Nat) : State :=
  if s.swapAsked (24 + b) ∨ s.fld SPD_BANK_STS_PHYS b = 64 then s
  else if s.flag SPR_STS_BANK_SPARE_USED ∨ s.spare.copy.isSome then s.noSpare b
  else s.ask { handle := 24 + b, why := 1 }

/-- A bank's copy to the spare bank starts (R467). -/
def State.startCopy (s : State) (r : SpareReq) : State :=
  if s.flag SPR_STS_BANK_SPARE_USED ∨ s.spare.copy.isSome then ((s.unask r).noSpare (r.handle - 24)).answerLater r.cmd 0x12 4 0
  else
    let s1 := s.unask r
    ({ s1 with spare := { s1.spare with copy := some (r.handle - 24, r.cmd) } }.setFld SPR_STS_BANK_SPARE_USED 1).setFld SPR_PENDING_BANK 1

/-- SPD_BANK_COPY_DONE (R467): 4,096 cycles after its start; accesses go to physical bank 64. -/
def execSpdBankCopyDone (s : State) : Out :=
  finish <|
    match s.spare.copy with
    | none => s
    | some (b, c) =>
      let s1 := { s with spare := { s.spare with copy := none } }
      let s2 := (s1.setFld SPD_BANK_STS_PHYS 64 b).setFlag SPR_PENDING_BANK
        (s1.spare.reqs.any fun q => decide (24 ≤ q.handle) && decide (q.handle < 88))
      ((s2.logRepair 3 b).event SPR_EVT_SWAP).answerLater c 0 0 (s.tickIndex % 2 ^ 32)

/-- The core PLL in use changes (R469). -/
def State.usePll (s : State) (b : Bool) : State :=
  ((s.setFlag SPR_STS_PLL_SEL b).event SPR_EVT_PLL_SWITCH).event SPR_EVT_SWAP

/-- PLL B can be used (R469). -/
def State.pllBOk (s : State) : Bool := s.flag SPR_STS_PLL_SPARE_OK && !s.flag SPR_FAILED_PLL_B

/-- The PLL's substitution or return takes effect at a tick (R469, R470). -/
def State.swapPll (s : State) (r : SpareReq) : State :=
  let s0 := s.unask r
  let tick := s.tickIndex % 2 ^ 32
  if r.back then ((s0.usePll false).logRepair 8 88).answerLater r.cmd 0 0 tick
  else if !s.pllBOk then (s0.noSpare 32).answerLater r.cmd 0x12 4 0
  else
    let s1 := if r.why = 0 then s0 else s0.markFailed 32
    ((s1.usePll true).logRepair 6 1).answerLater r.cmd 0 0 tick

/-- PLL_LOCK_LOSS (R469): PLL A loses lock; the regions go on from PLL B, or stay slowed. -/
def execPllLockLoss (s : State) : Out :=
  finish <|
    if s.flag SPR_STS_PLL_SEL then s
    else
      let s1 := s.markFailed 32
      if s.pllBOk then (s1.usePll true).logRepair 6 1
      else
        let s2 := { s1 with power := { s1.power with pllSlow := true } }
        (List.range 8).foldl State.showSlowed (s2.noSpare 32)

/-- Position 4 of a tick (R466, R467, R469): every substitution whose unit is free takes effect, in rising handle order. -/
def State.spareTick (s : State) : State :=
  (List.range 89).foldl (fun (t : State) h =>
    match t.spare.reqs.find? fun r => r.handle == h with
    | none => t
    | some r =>
      if h < 24 then (if t.pipeBusy h then t else t.swapPipeUnit r)
      else if h < 88 then t.startCopy r
      else t.swapPll r) s

/-! ### SPARE_SWAP and wear -/

/-- The unit a SPARE_SWAP handle names is present (R470, R7). -/
def State.swapUnit (s : State) (h : Nat) : Bool := if h < 24 then s.pipePresent h else decide (h < 89)

/-- The unit runs on its spare. -/
def State.unitOnSpare (s : State) (h : Nat) : Bool :=
  if h < 24 then s.onSpare h else if h < 88 then s.fld SPD_BANK_STS_PHYS (h - 24) == 64 else s.flag SPR_STS_PLL_SEL

/-- The half whose unit a SPARE_SWAP handle names. -/
def swapHalf (h : Nat) : Option Nat := if h < 24 then some (pipeHalf h) else if h < 88 then some ((h - 24) / 32) else none

/-- SPARE_SWAP (R470): the reply waits until the change takes effect. -/
def opSpareSwap (c : Cmd) (s : State) : Res :=
  let h := c.handle
  let back := natField (c.p 0) 0 1 == 1
  let homeBad := if h < 24 then s.failedUnit (homeUnit h) else if h = 88 then s.flag SPR_FAILED_PLL_A else true
  if !s.swapUnit h then Res.bad s 1
  else if (match swapHalf h with | some k => s.halfFenced k | none => false) then Res.err s 0x14 3
  else if back ∧ (!s.unitOnSpare h ∨ homeBad) then Res.bad s 2
  else if s.swapAsked h ∨ (24 ≤ h ∧ h < 88 ∧ s.spare.copy.map Prod.fst = some (h - 24)) then Res.bad s 3
  else
    let free := if h < 24 then s.spareFree h
                else if h < 88 then !s.flag SPR_STS_BANK_SPARE_USED
                else s.pllBOk && !s.flag SPR_STS_PLL_SEL
    if !back ∧ !free then Res.full s 4
    else Res.later (s.ask { handle := h, back := back, cmd := some c })

/-- SPARE_SWAP. -/
def execSpareSwap (c : Cmd) (s : State) : Out := runCommand c opSpareSwap s

/-- The logical pipe that an aging sensor's unit carries, if it is a pipe's (R464). -/
def State.pipeOfUnit (s : State) (u : Nat) : Option Nat :=
  (List.range 24).find? fun p => (if s.onSpare p then spareUnit p else homeUnit p) == u

/-- AGING_MEASURE (R464, R465): one unit's shift in ppm. -/
def execAgingMeasure (u : Nat) (ppm : Int) (s : State) : Out :=
  finish <|
    if 34 ≤ u then s
    else
      let worn := decide (ppm ≤ -((max 1 (s.fld SPR_CFG_AGE_LIMIT) : Nat) : Int))
      let s1 := ((s.setFld MON_AGE_SHIFT_PPM (unsigned 16 ppm) u).setFld MON_AGE_VALID 1 u).setFlag MON_AGE_WORN worn u
      if !worn then s1
      else
        let s2 := (s1.event MON_GLB_EVT_AGE).event SPR_EVT_WORN
        if !s2.flag SPR_CFG_AUTO_AGE then s2
        else if u = 32 then
          if s2.flag SPR_STS_PLL_SEL ∨ s2.swapAsked 88 then s2
          else if s2.pllBOk then s2.ask { handle := 88, why := 2 } else s2.noSpare 32
        else match s2.pipeOfUnit u with
          | some p => s2.claimSpare p 2
          | none => s2

end Sys2Proof.Machine
end

