-- ==== Sys2Proof/Machine/RingOps.lean ====
section
/-!
DEFINITION. The shared operations of a ring: positions and ways, epochs, messages sent, relayed and dropped, roles, and the state
of a ring stream (R218, R221 to R227, R232 to R244).
-/
namespace Sys2Proof.Machine

/-! ### Positions and links -/

/-- SIZE and POSITION of the ring, and whether the device has joined. -/
def State.ringSize (s : State) : Nat := s.fld RING_CFG_SIZE
@[inherit_doc State.ringSize] def State.ringPos (s : State) : Nat := s.fld RING_CFG_POSITION
@[inherit_doc State.ringSize] def State.joined (s : State) : Bool := s.flag RING_CFG_JOINED

/-- A Fulet link carries traffic (R261). -/
def State.linkUp (s : State) (k : Nat) : Bool := s.fld FL_STS_STATE k == 5

/-- The position at the other end of link `k` (R218). -/
def State.neighbour (s : State) (k : Nat) : Nat :=
  let n := max 1 s.ringSize
  if k = 0 then (s.ringPos + n - 1) % n else (s.ringPos + 1) % n

/-- The link a message to a position takes: the shorter way, FL0 when both are equal, the other way while a link is down (R218). -/
def State.wayTo (s : State) (dst : Nat) : Nat :=
  let n := max 1 s.ringSize
  let k := if (s.ringPos + n - dst % n) % n ≤ (dst % n + n - s.ringPos) % n then 0 else 1
  if s.linkUp k ∨ !s.linkUp (1 - k) then k else 1 - k

/-- The band neighbour on a side (0 above, 1 below) exists: the ends of the ring hold no common border (R218). -/
def State.hasSide (s : State) (side : Nat) : Bool :=
  if side = 0 then decide (0 < s.ringPos) else decide (s.ringPos + 1 < s.ringSize)

/-- The epoch in force at a tick (R227). -/
def State.epochAt (s : State) (tick : Nat) : Nat :=
  if s.regN .RING_EPOCH_TICK ≤ tick then s.regN .RING_EPOCH else s.regN .RING_EPOCH_PREV

/-! ### Messages -/

/-- Traffic class of a message type (R222). -/
def msgClass (type : Nat) : Nat :=
  if 0x20 ≤ type ∧ type ≤ 0x22 then 6 else if type = 0x30 then 5 else if type = 0x40 then 2 else 7

/-- The queue of link `k` for a traffic class (R287, R353). -/
def ringQueue (k tc : Nat) : Nat :=
  match tc with
  | 7 => 2052 + k | 6 => 2054 + 3 * k | 5 => 2055 + 3 * k | _ => 2056 + 3 * k

/-- A frame of the device waits for its cells (R354). -/
def State.submit (s : State) (f : Frame) : State := { s with net := { s.net with waiting := s.net.waiting ++ [f] } }

/-- A message of `len` payload bytes is given to link `k`: its header (R221), then the payload's fields. -/
def State.sendOn (s : State) (k type : Nat) (bcast : Bool) (dst tick len : Nat) (payload : List Nat) : State :=
  s.submit { queue := ringQueue k (msgClass type), bytes := 20 + len, kind := 1, owner := k, tick := tick,
             words := [type, bcast.toNat, s.ringPos, dst, s.epochAt tick, tick] ++ payload }

/-- A message to one position. -/
def State.sendTo (s : State) (dst type tick len : Nat) (payload : List Nat) : State :=
  s.sendOn (s.wayTo dst) type false dst tick len payload

/-- A message to every member, on both links. -/
def State.sendAll (s : State) (type tick len : Nat) (payload : List Nat) : State :=
  (s.sendOn 0 type true 0 tick len payload).sendOn 1 type true 0 tick len payload

/-- A received message that is not for this member alone is relayed on the other link (R221, R224). -/
def State.relay (s : State) (m : RingHdr) (type len : Nat) (payload : List Nat) : State :=
  let k := 1 - m.link
  let onward := if m.bcast then s.neighbour k != m.src else m.dst != s.ringPos
  if s.joined ∧ onward then
    s.submit { queue := ringQueue k (msgClass type), bytes := 20 + len, kind := 1, relayed := true, owner := k, tick := m.tick,
               words := [type, m.bcast.toNat, m.src, m.dst, m.epoch, m.tick] ++ payload }
  else s

/-- A message is meant for this member. -/
def State.mine (s : State) (m : RingHdr) : Bool := s.joined && (m.bcast || m.dst == s.ringPos)

/-- A message is dropped for its epoch or its role (R227): counted, and answered with a NAK but for a NAK, a BEACON or a HALO. -/
def State.dropStale (s : State) (m : RingHdr) (type reason seq rsid : Nat) : State :=
  let s1 := (s.bump .RING_STALE_CNT).event RING_EVT_STALE
  if type = 1 ∨ type = 3 ∨ type = 0x20 then s1
  else s1.sendTo m.src 3 m.tick 16 [type, reason, seq, rsid, s.epochAt m.tick, m.tick]

/-- A message is handled when it is meant for this member and its epoch is in force (R227). -/
def State.accept (s : State) (m : RingHdr) (type seq rsid : Nat) (role : Bool) (f : State → State) : State :=
  if !s.mine m then s
  else if m.epoch ≠ s.epochAt m.tick then s.dropStale m type 1 seq rsid
  else if !role then s.dropStale m type 2 seq rsid
  else f s

/-! ### Roles -/

/-- Picture lead of an RSID (R225). -/
def State.leadOf (s : State) (r : Nat) : Option Nat := storeFind s.ring.plead r

/-- This device is picture lead of an RSID, and is tick lead. -/
def State.isLead (s : State) (r : Nat) : Bool := s.joined && s.leadOf r == some s.ringPos
@[inherit_doc State.isLead] def State.isTickLead (s : State) : Bool := s.joined && s.ring.tlead == some s.ringPos

/-! ### Ring streams -/

/-- State of a ring stream by RSID. -/
def State.rs (s : State) (r : Nat) : RsState := (storeFind s.ring.rs r).getD {}

/-- Set it. -/
def State.setRs (s : State) (r : Nat) (x : RsState) : State :=
  { s with ring := { s.ring with rs := if x = ({} : RsState) then storeDrop s.ring.rs r else storeInsert s.ring.rs r x } }

/-- Change it. -/
def State.onRs (s : State) (r : Nat) (f : RsState → RsState) : State := s.setRs r (f (s.rs r))

/-- The open ring stream of an RSID on this device. -/
def State.ringStream (s : State) (r : Nat) : Option Nat :=
  (s.streams.find? fun (_, x) => x.st != .free && x.st != .opened && isRing x.newest && rsid x.newest == r).map Prod.fst

/-- The DIGEST of a configuration: the fields every member must share (R229, R239). -/
def digestOf (codec : Nat) (ws : List Nat) : Nat :=
  Config.digest ([codec, cfg ws 0 0 16, word ws 1, cfg ws 4 0 12, cfg ws 4 16 5] ++ ((List.range 8).map fun k => word ws (10 + k))
    ++ (List.range 6).map fun k => word ws (42 + k)) % 2 ^ 32

/-- A side of the halo (0 above, 1 below). -/
def RsState.side (x : RsState) (i : Nat) : HaloSide := if i = 0 then x.above else x.below

/-- Set a side of the halo. -/
def RsState.setSide (x : RsState) (i : Nat) (h : HaloSide) : RsState := if i = 0 then { x with above := h } else { x with below := h }

/-- Bytes of the halo image of a ring stream, and of a seam image (R234, R236). -/
def haloBytes (ws : List Nat) : Nat := rowBytes ws (haloRows ws)
@[inherit_doc haloBytes] def seamBytes (ws : List Nat) : Nat := rowBytes ws 16

/-- The bytes of side information that follow the image of SEAM_UP (R223). -/
def seamInfo (ws : List Nat) : Nat := 2 * ceilDiv (cfg ws 43 0 16) 8 * 16 + ceilDiv (cfg ws 43 0 16) 64 * 64

/-- An image is sent in messages of at most 2,048 bytes after their sub-header (R223, R233). -/
def State.sendImage (s : State) (dst type r side tick total : Nat) : State :=
  let n := ceilDiv total 2048
  (List.range n).foldl (fun t k =>
    let len := min 2048 (total - k * 2048)
    t.sendTo dst type tick (16 + len) [r, side + (decide (k + 1 = n)).toNat * 2, k, k * 2048, total, len]) s

/-- Position 5 of a tick (R233): every member sends each band neighbour the halo of the picture of the tick before. -/
def State.sendHalos (s : State) : State :=
  if !s.joined then s
  else s.streams.foldl (fun (t : State) (_, x) =>
    if x.st = .running ∧ isRing x.words then
      let r := rsid x.words
      let t1 := if s.hasSide 0 then t.sendImage (s.ringPos - 1) 0x20 r 0 s.tickIndex (haloBytes x.words) else t
      if s.hasSide 1 then t1.sendImage (s.ringPos + 1) 0x20 r 1 s.tickIndex (haloBytes x.words) else t1
    else t) s

/-- The seam exchange of the picture of a tick: begun anew when the state held is another tick's (R236). -/
def RsState.seamFor (x : RsState) (n : Nat) : RsState :=
  if x.seamTick = n then x
  else { x with seamTick := n, seamUp := 0, seamDown := 0, seamLate := false, sentUp := false, sentDown := false }

/-- What the seam exchange sends once the rows it needs are there (R236): the first 16 rows of the band go up when they are
reconstructed; the strip below the band is filtered once the whole band is reconstructed and SEAM_UP has come, and its lower rows return. -/
def State.seamStep (s : State) (h tick : Nat) (first done : Bool) : State :=
  let x := s.stream h
  if !isRing x.words then s
  else
    let id := rsid x.words
    let r := s.rs id
    let s1 :=
      if first ∧ s.hasSide 0 ∧ !r.sentUp then
        (s.sendImage (s.ringPos - 1) 0x21 id 0 tick (seamBytes x.words + seamInfo x.words)).onRs id fun r => { r with sentUp := true }
      else s
    if done ∧ s.hasSide 1 ∧ !r.sentDown ∧ !r.seamLate ∧ seamBytes x.words + seamInfo x.words ≤ r.seamUp then
      (s1.sendImage (s.ringPos + 1) 0x22 id 1 tick (seamBytes x.words)).onRs id fun r => { r with sentDown := true }
    else s1

/-- A halo side that a picture of tick `n` needs is neither held nor known missing (R235). -/
def State.haloPending (s : State) (ws : List Nat) (n needs : Nat) : Bool :=
  isRing ws && [0, 1].any fun i => needs.testBit i && s.hasSide i &&
    (let h := (s.rs (rsid ws)).side i; !(h.tick == n && (h.arrived || h.missing)))

/-- A halo side that a picture of tick `n` needs is missing (R235). -/
def State.haloMissing (s : State) (ws : List Nat) (n needs : Nat) : Bool :=
  isRing ws && [0, 1].any fun i => needs.testBit i && s.hasSide i &&
    (let h := (s.rs (rsid ws)).side i; h.tick == n && h.missing)

/-- A halo side is missing for the picture of tick `n` (R235): counted once, unless it has arrived. -/
def State.missHalo (s : State) (r n side : Nat) : State :=
  let h := (s.rs r).side side
  if !s.hasSide side ∨ (h.tick = n ∧ (h.arrived ∨ h.missing)) then s
  else
    let s1 := s.onRs r fun x => x.setSide side { tick := n, bytes := if h.tick = n then h.bytes else 0, missing := true }
    (s1.bump .RING_HALO_LATE_CNT).event RING_EVT_HALO_LATE

/-- The registers of a ring stream follow its state (R252). -/
def State.showRs (s : State) (r : Nat) : State :=
  let x := s.rs r
  (((s.putN .RING_RS_TOKENS_IN x.granted r).putN .RING_RS_TOKENS_OUT x.donated r).putN .RING_RS_CARRY x.carry r).putN
    .RING_RS_PLAN_TICK ((x.planTick.getD 0) % 2 ^ 32) r

/-! ### Tokens -/

/-- The bank answers an ASK, or takes a DONATE (R240), for a member at a position; its own member's tokens need no message. -/
def State.bankGrant (s : State) (r pos seq bits : Nat) : State × Nat :=
  let g := min bits (s.rs r).pool
  let s1 := s.onRs r fun x => { x with pool := x.pool - g }
  (if pos = s.ringPos then s1 else s1.sendTo pos 0x13 s.tickIndex 16 [r, seq, g], g)

/-- Bits donated reach the bank. -/
def State.bankTake (s : State) (r bits : Nat) : State := s.onRs r fun x => { x with pool := x.pool + bits }

end Sys2Proof.Machine
end

