-- ==== Sys2Proof/Machine/Encode.lean ====
section
/-!
DEFINITION. Encoding: ENC_PICTURE and the commands beside it, the rate model, the launch of a picture, its units through the time
check and the bit check, its row bands, and its completion (R94 to R159, R237 to R242).
-/
namespace Sys2Proof.Machine

/-! ### Pictures -/

/-- The launched encode picture that a pipe codes. -/
def State.encOn (s : State) (pipe : Nat) : Option EncPic :=
  s.codec.enc.find? fun q => q.launched && q.pipes.any fun w => w.pipe == pipe

/-- The launched encode picture of a stream. -/
def State.encOf (s : State) (h : Nat) : Option EncPic := s.codec.enc.find? fun q => q.launched && q.stream == h

/-- Change the launched encode picture of a stream. -/
def State.onEnc (s : State) (h : Nat) (f : EncPic → EncPic) : State :=
  { s with codec := { s.codec with enc := s.codec.enc.map fun q => if q.launched && q.stream == h then f q else q } }

/-- Change the share of one pipe. -/
def EncPic.onPipe (q : EncPic) (pipe : Nat) (f : PipeWork → PipeWork) : EncPic :=
  { q with pipes := q.pipes.map fun w => if w.pipe = pipe then f w else w }

/-- Change one band's plan. -/
def EncPic.onBand (q : EncPic) (k : Nat) (f : BandPlan → BandPlan) : EncPic :=
  { q with bands := q.bands.zipIdx.map fun (b, i) => if i = k then f b else b }

/-- Floored units of the picture (R127): every pipe's units from its first floor unit on. -/
def EncPic.floored (q : EncPic) : Nat :=
  (q.pipes.map fun w => match w.floorFrom with | some u => w.units - u | none => 0).sum

/-- Number of a pipe's column, from the left (R94). -/
def EncPic.column (q : EncPic) (pipe : Nat) : Nat := (q.pipes.filter fun w => decide (w.pipe < pipe)).length

/-- Coding-unit row, column in the picture, and row band of unit `u` of a pipe. -/
def EncPic.place (q : EncPic) (g : Geo) (w : PipeWork) (u : Nat) : Nat × Nat × Nat :=
  let row := u / max 1 w.cols
  (row, q.column w.pipe * g.cols / max 1 g.pipes + u % max 1 w.cols, row / max 1 g.band)

/-- The bit bound of a floor unit of the picture (R128). -/
def EncPic.fb (q : EncPic) (g : Geo) : Nat := floorBits g.codec g.chroma q.key

/-- COMMITTED (R135). -/
def EncPic.committed (q : EncPic) : Nat := q.header + q.produced + (q.owed.map Prod.snd).sum

/-- RESERVE with `n` units not past stage 3 (R135). -/
def EncPic.reserve (q : EncPic) (g : Geo) (n : Nat) : Nat := q.fb g * n + g.hb * q.headersLeft

/-- Allotments of the bands not yet started (R240). -/
def EncPic.unstarted (q : EncPic) : Nat := ((q.bands.filter fun b => !b.started).map BandPlan.alloc).sum

/-- The scout units that serve a picture: those of the clusters of its pipes (R102), as a mask. -/
def EncPic.scouts (q : EncPic) : Nat := maskOf (q.pipes.map fun w => w.pipe / 4)

/-- A band has been delivered by every scout unit that serves the picture. -/
def EncPic.scouted (q : EncPic) (b : BandPlan) : Bool := b.heard &&& q.scouts == q.scouts

/-- A floor run starts at unit `u` of a pipe's column, unless one started before (R127, R130); the first floored unit of the picture in
raster order is kept (R158). -/
def EncPic.floorAt (q : EncPic) (g : Geo) (pipe u : Nat) : EncPic :=
  match q.pipes.find? fun w => w.pipe == pipe with
  | none => q
  | some w =>
    if decide (w.units ≤ u) || (match w.floorFrom with | some v => decide (v ≤ u) | none => false) then q
    else
      let (row, col, _) := q.place g w u
      let raster := row * g.cols + col
      let first := match q.firstFloor with | some f => min f raster | none => raster
      { q.onPipe pipe (fun w => { w with floorFrom := some u, waiting := false }) with firstFloor := some first }

/-- Fifths of a ns a core cycle takes for a pipe: 1.25 GHz, or 625 MHz while its region is slowed (R97, R448). -/
def State.cycle (s : State) (pipe : Nat) : Nat := if s.slowedRegion (pipeRegion pipe) then 8 else 4

/-- T_switch in cycles for a stream on a pipe (R193, R194). -/
def State.switchCost (s : State) (pipe h : Nat) : Nat :=
  let cost := fun g => let x := s.stream g; contextCycles x.dec x.codec
  match storeFind s.codec.resident pipe with
  | some g => if g = h then 0 else cost g + cost h
  | none => cost h

/-- The status of a pipe while it codes a picture of a stream, and once it is free again (R124, R184). -/
def State.pipeOn (s : State) (pipe h tick : Nat) : State :=
  let s1 := { s with codec := { s.codec with resident := storeInsert s.codec.resident pipe h } }
  if pipe < 16 then
    ((((s1.setFld ENC_EP_STS_BUSY 1 pipe).putN .ENC_EP_STREAM (h + 2 ^ 31) pipe).putN .ENC_EP_TICK (tick % 2 ^ 32) pipe).setReg .ENC_CL_STS
      (setBitField (s1.reg .ENC_CL_STS (pipe / 4)) (pipe % 4) 1 1) (pipe / 4)).putN .ENC_EP_POS 0 pipe
  else
    let n := pipe - 16
    (((s1.setFld DEC_DP_STS_BUSY 1 n).putN .DEC_DP_STREAM (h + 2 ^ 31) n).putN .DEC_DP_TICK (tick % 2 ^ 32) n).setReg .DEC_STS
      (setBitField (s1.reg .DEC_STS) n 1 1)
@[inherit_doc State.pipeOn] def State.pipeOff (s : State) (pipe : Nat) : State :=
  let s0 := s.setFld SLT_BANK_HOLD 0 pipe
  if pipe < 16 then
    (s0.setFld ENC_EP_STS_BUSY 0 pipe).setReg .ENC_CL_STS (setBitField (s.reg .ENC_CL_STS (pipe / 4)) (pipe % 4) 1 0) (pipe / 4)
  else (s0.setFld DEC_DP_STS_BUSY 0 (pipe - 16)).setReg .DEC_STS (setBitField (s.reg .DEC_STS) (pipe - 16) 1 0)

/-! ### Submitting -/

/-- L of a stream at a tick, with the values staged for it (R37). -/
def Stream.lAt (x : Stream) (n : Nat) : Nat :=
  match (x.ldNext.filter fun e => decide (e.2.2 ≤ n)).getLast? with | some (l, _, _) => l | none => x.l

/-- Ticks bound by accepted pictures of a stream. -/
def State.boundTicks (s : State) (h : Nat) : List Nat :=
  ((s.codec.enc.filter fun p => p.stream == h).map EncPic.tick) ++ (s.codec.dec.filter fun p => p.stream == h).map DecPic.tick

/-- Device time still allows a picture of tick `n`: 20 µs before its launch (R38), and the launch of that tick is not handled. -/
def State.canMeet (s : State) (x : Stream) (n : Nat) : Bool :=
  decide (x.handled ≤ n) && decide (s.tb.ns + 20000 ≤ s.tickTime n + x.lAt n) && (decide (s.tickIndex < n) || !s.flag TK_CTRL_PENDING)

/-- The tick a picture of index 0 binds to: the earliest that can be met, after those bound before (R38, R84). -/
def State.firstTick (s : State) (h : Nat) : Nat :=
  let x := s.stream h
  let lo := (s.boundTicks h).foldl (fun m t => max m (t + 1)) s.tickIndex
  match (List.range 3).find? fun k => s.canMeet x (lo + k) with
  | some k => lo + k
  | none => lo + 2

/-- A picture's command binds to its tick, or the answer that it cannot (R38, R84, R199); `f` lists it. -/
def State.bindPicture (s : State) (c : Cmd) (pipes : Nat) (f : Nat → State) : Res :=
  let h := c.handle
  let x := s.stream h
  let want := c.p64 0
  if 4 ≤ s.accepted h then Res.full s 1
  else if (s.pipesAfter 0 h).length ≠ pipes then Res.full s 3
  else if want ≠ 0 ∧ !s.canMeet x want then Res.err s 0x15 1
  else
    let n := if want = 0 then s.firstTick h else want
    Res.later ((f n).onEntries c.queue (mapEntry c fun o => { o with bound := n }))

/-- The explicit index of a command is above those bound before (R84). -/
def State.indexOk (s : State) (c : Cmd) : Bool :=
  c.p64 0 == 0 || (s.boundTicks c.handle).all fun t => decide (t < c.p64 0)

/-- A source descriptor suits a stream (R205). -/
def State.sourceOk (s : State) (x : Stream) (d : Nat) : Bool :=
  let ws := x.newest
  match formatOf (s.fld FB_DESC_FMT_FORMAT d) with
  | none => false
  | some (line, b, chroma) =>
    s.fld FB_DESC_OWN_FUNC d == x.func && !s.flag FB_DESC_OWN_POOL d && s.regN .FB_DESC_DIM d == word ws 0 && chroma == cfg ws 1 0 2
      && (if line then b == 5 else b == 320) == (cfg ws 1 2 2 == 1)

/-- The range rules of R119 for ENC_PICTURE. -/
def encPictureOk (x : Stream) (c : Cmd) : Bool :=
  let f := c.p 3
  let metaLen := c.p 12
  let fgLen := c.p 15
  let rois := cfg c.params 8 0 5
  let room := min 16 (if c.own ≤ 2 then 0 else ((c.own - 2) * 16) / 2)
  (!f.testBit 1 || c.p64 4 != 0) && (!f.testBit 2 || c.p64 6 != 0)
    && (!f.testBit 6 || c.p64 10 != 0 && decide (1 ≤ metaLen) && decide (metaLen ≤ 4096))
    && (!f.testBit 5 || x.codec == 1 && c.p64 13 != 0 && decide (1 ≤ fgLen) && decide (fgLen ≤ 2048))
    && decide (rois ≤ room)
    && (List.range (min rois 16)).all fun i => let v := signed 5 (c.p (27 + 2 * i)); decide (-12 ≤ v) && decide (v ≤ 12)

/-- ENC_PICTURE (R38, R84, R119, R137, R199, R205). -/
def opEncPicture (c : Cmd) (s : State) : Res :=
  withStream c (some false) s fun x =>
    match firstBad [(s.indexOk c, 1), (encPictureOk x c, 2), (!(c.p 3).testBit 6 || decide (c.p 12 ≤ cfg x.newest 17 0 13), 3),
                    (s.sourceOk x (c.p 2 % 8192), 4)] with
    | some d => Res.bad s d
    | none =>
      s.bindPicture c (cfg x.newest 4 0 5) fun n =>
        ({ s with codec := { s.codec with enc := s.codec.enc ++ [({ stream := c.handle, tick := n, cmd := some c, words := c.params } : EncPic)] } }).touch 4 c.handle

/-- ENC_PICTURE. -/
def execEncPicture (c : Cmd) (s : State) : Out := runCommand c opEncPicture s

/-- ENC_KEY_REQUEST (R116). -/
def opEncKeyRequest (c : Cmd) (s : State) : Res :=
  withStream c (some false) s fun _ =>
    Res.ok ((s.onStream c.handle fun x => { x with keyReq := x.keyReq ++ [c.p64 0] }).touch 4 c.handle)

/-- ENC_KEY_REQUEST. -/
def execEncKeyRequest (c : Cmd) (s : State) : Out := runCommand c opEncKeyRequest s

/-- The rate words P10 to P17 with an ENC_RC_UPDATE of words P0 to P3 (R146). -/
def updateRate (ws u : List Nat) : List Nat :=
  let f := word u 0
  let w15 := word ws 5
  let qp := if f.testBit 1 then word u 2 % 2 ^ 24 else w15 % 2 ^ 24
  let const := if f.testBit 2 then natField (word u 3) 0 8 else natField w15 24 8
  let ratio := if f.testBit 3 then natField (word u 3) 8 8 else natField (word ws 6) 0 8
  let target := if f.testBit 4 then natField (word u 3) 16 16 else natField (word ws 6) 16 16
  [word ws 0, if f.testBit 0 then word u 1 else word ws 1, word ws 2, word ws 3, word ws 4, qp + const * 2 ^ 24,
   ratio + target * 65536, word ws 7]

/-- ENC_RC_UPDATE (R146). -/
def opEncRcUpdate (c : Cmd) (s : State) : Res :=
  withStream c (some false) s fun x =>
    let f := c.p 0
    let new := (List.range 10).map (fun _ => 0) ++ updateRate x.rate.words c.params
    let lo := if x.codec = 1 then 1 else 0
    let qpOk := !(f.testBit 1) ||
      (decide (lo ≤ qpMin new) && decide (qpMin new ≤ qpMax x.codec new) && decide (qpMax x.codec new ≤ qpTop x.codec))
    let constOk := !(f.testBit 2) || (decide (qpMin new ≤ cfg new 15 24 8) && decide (cfg new 15 24 8 ≤ qpMax x.codec new))
    let rateFits := !(f.testBit 0) || (decide (1 ≤ c.p 1) && decide (c.p 1 ≤ word x.rate.words 2))
    match firstBad [(!(f.testBit 0) || rateMode x.rateCfg == 1, 1), (qpOk && constOk, 2), (rateFits && f % 32 != 0, 3),
                    (f / 32 == 0, 0x800000)] with
    | some d => Res.bad s d
    | none =>
      let tick := if c.own = 2 then c.p64 10 else 0
      Res.ok ((s.onStream c.handle fun y => { y with rate := { y.rate with staged := some (c.params.take 4, tick) } }).touch 4 c.handle)

/-- ENC_RC_UPDATE. -/
def execEncRcUpdate (c : Cmd) (s : State) : Out := runCommand c opEncRcUpdate s

/-- A map value outside −12 to +12 behaves as the nearer bound (R147). -/
def clampMap (b : Byte) : Byte := BitVec.ofNat 8 (unsigned 8 (clampInt (-12) 12 (signed 8 b.toNat)))

/-- ENC_QP_MAP (R147): a copy of the map, or its removal, pending from a tick; a pending one whose tick has come is in force. -/
def opEncQpMap (c : Cmd) (s : State) : Res :=
  withStream c (some false) s fun x =>
    let n := mapBytes x.codec (cfg x.newest 0 0 16) (cfg x.newest 0 16 16)
    if c.p 2 ≠ 0 ∧ c.p 2 ≠ n then Res.bad s 1
    else
      let put := fun (m : Option (List Byte)) =>
        Res.ok ((s.onStream c.handle fun y =>
          let cur := match y.rate.mapNext with | some (m, t) => if t ≤ s.tickIndex then m else y.rate.map | none => y.rate.map
          { y with rate := { y.rate with map := cur, mapNext := some (m, c.p64 3) } }).touch 4 c.handle)
      if c.p 2 = 0 then put none
      else match c.data with
        | none => Res.err s 0x30 0
        | some bs => put (some ((bs.take n).map clampMap))

/-- ENC_QP_MAP. -/
def execEncQpMap (c : Cmd) (s : State) : Out := runCommand c opEncQpMap s

/-! ### The buffer model -/

/-- V after a picture of `b` bits, or after a gap (R138): one tick's bits arrive, with the remainder carried. -/
def State.advanceFill (s : State) (x : Stream) (b : Nat) (gap : Bool) : RateState :=
  let den := max 1 (s.fld TK_DEN_DEN)
  let tot := rateC x.rateCfg * s.fld TK_NUM_NUM + x.rate.fillRem
  let v := x.rate.fill - b + tot / den
  let bs := bufBits x.rateCfg
  let capped := (rateMode x.rateCfg != 0 || gap) && decide (bs < v)
  { x.rate with fill := if capped then bs else v, fillRem := if capped then 0 else tot % den, coded := x.rate.coded + b,
                planned := x.rate.planned + 1000 * word x.rate.words 1 * s.fld TK_NUM_NUM }

/-- A tick on which the stream codes no picture (R138, R151, R249, R440). -/
def State.gapTick (s : State) (h : Nat) : State :=
  let x := s.stream h
  if x.dec ∨ !x.launched then s
  else (s.setStream h { x with rate := { s.advanceFill x 0 true with gap := true } }).showStream h

/-- Bits of a picture ended by a stop or a reset are taken from V at the next tick (R159). -/
def State.settleOwed (s : State) (h : Nat) : State :=
  let x := s.stream h
  match x.rate.owed with
  | none => s
  | some b => (s.setStream h { x with rate := { s.advanceFill x b false with owed := none } }).showStream h

/-! ### Planning a picture -/

/-- KEY_INTERVAL pictures have been coded since the last key picture, the stream is in CBR mode and passed a gap, or another cause of
R116 holds for tick `n`; `asked` is KEY of ENC_PICTURE. -/
def Stream.isKey (x : Stream) (n : Nat) (asked : Bool) : Bool :=
  let k := cfg x.words 5 0 16
  asked || x.keyDue || (x.keyReq.any fun t => decide (t ≤ n)) || (k != 0 && decide (k ≤ x.rate.sinceKey))
    || (rateMode x.rateCfg == 0 && x.rate.gap)

/-- The rate state a picture of tick `n` starts from (R138, R145 to R147): a staged update, a pending map, and for a key picture the
values that waited for it, which restart V at V(0). -/
def Stream.startRate (x : Stream) (n : Nat) (key : Bool) : RateState :=
  let r := x.rate
  let r1 := match r.staged with
    | some (u, t) => if t ≤ n then { r with words := updateRate r.words u, next := r.next.map fun w => updateRate w u, staged := none } else r
    | none => r
  let r2 := match r1.mapNext with
    | some (m, t) => if t ≤ n then { r1 with map := m, mapNext := none } else r1
    | none => r1
  if !key then r2
  else
    let swap := r2.next.isSome
    let r3 := { r2 with words := r2.next.getD r2.words, next := none }
    let ws := (List.range 10).map (word x.words) ++ r3.words
    if swap ∨ r3.restart ∨ (r3.gap ∧ rateMode ws = 0) then
      { r3 with fill := startFill ws, fillRem := 0, restart := false, gap := false }
    else { r3 with gap := false }

/-- The weight a band is planned with (R142). -/
def EncPic.planWeight (q : EncPic) (g : Geo) (prev : List Nat) (k : Nat) (b : BandPlan) : Nat :=
  if q.scouted b then b.weight
  else
    let done := q.bands.filter q.scouted
    let cut := done.any BandPlan.cut
    if !cut ∧ prev.length = g.bands then word prev k
    else
      let blocks := (done.map BandPlan.blocks).sum
      if blocks = 0 then g.bandBlocks k else (done.map BandPlan.acc).sum * g.bandBlocks k / blocks

/-- C(n) as far as it is known: the weights the bands are planned with (R142). -/
def EncPic.complexity (q : EncPic) (g : Geo) (prev : List Nat) : Nat :=
  ((List.range g.bands).map fun k => match q.bands[k]? with | some b => if b.started then b.weight else q.planWeight g prev k b | none => 0).sum

/-- T(n) of a stand-alone picture before its clamp (R141), rounded down; none in modes 2 and 3. -/
def State.encTarget (s : State) (ws : List Nat) (r : RateState) (key : Bool) (cplx : Nat) : Option Nat :=
  let den := max 1 (s.fld TK_DEN_DEN)
  let num := s.fld TK_NUM_NUM
  -- the target is `top / bottom`, times KEY_RATIO / 16 for a key picture
  let whole := fun (top : Int) (bottom : Nat) =>
    (if key then top * (keyRatio ws : Nat) / ((16 * bottom : Nat) : Int) else top / (bottom : Int)).toNat
  match rateMode ws with
  | 0 => some (whole (((8 * rateC ws * num : Nat) : Int) + ((r.fill : Int) - (startFill ws : Nat)) * (den : Int)) (8 * den))
  | 1 =>
    let sum := r.complexity.sum
    let c := cplx * r.complexity.length
    -- C(n) over its mean, within 1/4 and 4
    let (up, low) := if sum = 0 then (1, 1) else if 4 * c < sum then (1, 4) else if 4 * sum < c then (4, 1) else (c, sum)
    some (whole (((64000 * word ws 11 * num * up : Nat) : Int) - ((r.coded * den : Int) - r.planned) * (low : Int)) (64 * den * low))
  | _ => none

/-- T(n) of a stand-alone picture (R141): clamped to the range from its floor bits to CAP. -/
def State.pictureTarget (s : State) (x : Stream) (q : EncPic) : Nat :=
  let g := encGeo x.codec x.words
  let floorAll := g.units * q.fb g + g.bands * g.hb + headBits q.key
  match s.encTarget ((List.range 10).map (word x.words) ++ x.rate.words) x.rate q.key (q.complexity g x.rate.weights) with
  | some t => clampNat (min floorAll q.cap) q.cap t
  | none => 0

/-- The target follows the scout: C(n) is the picture's once it has been scouted (R141, R142). -/
def State.retarget (s : State) (h : Nat) : State :=
  let x := s.stream h
  if isRing x.words then s
  else match s.encOf h with
    | some q => (s.onEnc h fun q => { q with target := s.pictureTarget x q }).putN .RC_S_TARGET (s.pictureTarget x q) h
    | none => s

/-- The tile columns of a picture on its pipes (R94). -/
def columnsOf (g : Geo) (pipes : List Nat) : List PipeWork :=
  pipes.zipIdx.map fun (p, i) => { pipe := p, units := g.colWidth i * g.rows, cols := g.colWidth i }

/-! ### The launch -/

/-- Whether a pipe cannot carry work at a launch: its half is fenced, or it stays stopped (R406, R466). -/
def State.pipeDead (s : State) (p : Nat) : Bool :=
  s.halfFenced (pipeHalf p) || (if p < 16 then s.flag ENC_EP_STS_STOPPED p else s.flag DEC_DP_STS_STOPPED (p - 16))

/-- A ring member's share, carry, picture type, target, and whether it codes a repeat, at the launch of tick `n` (R237 to R242). -/
def State.ringStart (s : State) (h n : Nat) : Nat × Nat × Bool × Nat × Bool :=
  let x := s.stream h
  let ws := x.words
  let r := s.rs (rsid ws)
  let p := s.ringPos
  let np := bandUnits x.codec s.ringSize ws p
  let all := max 1 ((List.range s.ringSize).map (bandUnits x.codec s.ringSize ws)).sum
  let capMin := min (rateC x.rateCfg * s.fld TK_NUM_NUM / max 1 (s.fld TK_DEN_DEN)) (startFill x.rateCfg)
  let fallback := capMin * sharePct ws * np / (100 * all)
  if r.planTick = some n ∧ !r.badCfg then (word r.shares p, r.carry, r.keyNow || !r.started, r.target * np / all, false)
  else if !r.badCfg ∧ (!r.started ∨ r.planTick = some (n - 1)) then (fallback, 0, r.nextKey || !r.started, fallback, false)
  else (fallback, 0, r.keyNow, fallback, true)

/-- A ring stream's tokens at a launch (R240, R241), and the dirty rows that a key picture replaces (R236). -/
def RsState.launchRs (r : RsState) (key : Bool) : RsState :=
  { r with started := true, carry := 0, granted := 0, donated := 0, askOpen := false, dirty := if key then 0 else r.dirty }

/-- An encode picture launches (R94, R98, R102, R135 to R142, R150, R193, R206, R237 to R242): on the pipes given, as the picture `q`
that was accepted for the tick, or as a repeat that no command names. -/
def State.launchEnc (s : State) (h n : Nat) (q : Option EncPic) (pipes : List Nat) : State :=
  let x := s.stream h
  let g := encGeo x.codec x.words
  let ring := isRing x.words
  let id := rsid x.words
  let (share, carry, rkey, rtarget, desync) := s.ringStart h n
  let words := match q with | some q => q.words | none => []
  let d := word words 2 % 8192
  let present := q.isSome && s.sourceOk x d && (s.regN .FB_DESC_MARKS d).testBit 0
  let rep := !present || (ring && desync)
  let usable := x.refs.any fun b => s.regN .FB_DESC_MARKS b &&& 40 == mkRef
  let key := (if ring then rkey else x.isKey n ((word words 3).testBit 0)) || !usable
  let rate := x.startRate n key
  let cap := if ring then share + carry else rate.fill
  let metaBits := if (word words 3).testBit 6 then 8 * word words 12 else 0
  let header := if ring then 0 else s.free.toNat % (headBits key / 8 + 1) * 8 + metaBits
  let blank : List BandPlan := (List.range g.bands).map fun _ => {}
  let base : EncPic := { (q.getD { stream := h, tick := n }) with
    launched := true, delayed := none, key := key, isRepeat := rep, source := if present then some d else none
    launchRun := s.tb.run, dueRun := s.tb.run + (x.d - x.l), cap := cap, header := header, headersLeft := g.bands, unitsLeft := g.units
    bands := blank, pipes := columnsOf g pipes }
  let target := if ring then rtarget else s.pictureTarget { x with rate := rate } base
  let buf := (x.res.pool.find? s.descFree).getD 0
  let dead := pipes.filter s.pipeDead
  let q1 := { base with
    target := target, buf := buf, failed := dead.head?
    flags := key.toNat + rep.toNat * 4, cause := if rep then 8 else 0
    pipes := base.pipes.map fun w =>
      { w with due := 5 * s.tb.run + s.cycle w.pipe * s.switchCost w.pipe h, waiting := !rep, stopped := dead.contains w.pipe,
               floorFrom := if rep then some 0 else none }
    firstFloor := if rep then some 0 else none }
  let others := s.codec.enc.filter fun p => !(p.stream == h && p.tick == n)
  let x1 := { x with st := if x.st = .configured then .running else x.st, launched := true, rate := rate, keyDue := ring && x.keyDue
                     keyReq := x.keyReq.filter fun t => ring || decide (n < t) }
  let s1 := ({ s with codec := { s.codec with enc := others ++ [q1] } }.tookFree).setStream h x1
  let s2 := pipes.foldl (fun t p => t.pipeOn p h n) s1
  let s3 := if present then s2.mark d mkSrc mkReady else s2
  let s4 := s3.mark buf mkCur 0
  let s5 := (((s4.putN .RC_S_TARGET target h).putN .RC_S_CAP cap h).setFld RC_STS_IN_FLIGHT (s4.codec.enc.filter fun p => p.launched).length).showStream h
  let s6 := if rep then s5.bump .RC_REPEAT_CNT
            else (bitsOf 4 q1.scouts).foldl (fun t u =>
              if t.flag SCT_STS_STOPPED u then t
              else (t.putN .SCT_STS (1 + h * 65536 + 2 ^ 31) u).setFld SCT_POS_BAND 0 u) s5
  let s7 := dead.foldl (fun t p => t.record 6 p) s6
  let s8 := if !ring then s7
    else
      let r := s.rs id
      let miss := r.planTick ≠ some n
      let t := (s7.onRs id fun r => (r.seamFor n).launchRs key).putN .RING_RS_SHARE share id
      (if miss then (t.bump .RING_PLAN_MISS_CNT).event RING_EVT_PLAN_MISS else t).showRs id
  s8.touch 4 h

/-! ### Scouting -/

/-- A picture's bands are cut bands by half or more (R104). -/
def EncPic.isCut (q : EncPic) : Bool := decide (q.bands.length ≤ 2 * (q.bands.filter BandPlan.cut).length)

/-- SCOUT_BAND_DELIVERED (R102 to R104, R108, R142): the map of a band for the columns of one scout unit; its pipes wait no more for band 0,
and the map is copied out when ENC_PICTURE asked for it. A band that a pipe codes without scout data is no cut band, and one that has
started keeps the weight it was planned with. -/
def execScoutBandDelivered (unit stream band : Nat) (m : ScoutMap) (s : State) : Out :=
  finish <|
    match s.encOf stream with
    | none => s
    | some q =>
      let again : Bool := match q.bands[band]? with | some b => b.heard.testBit unit | none => true
      if q.isRepeat ∨ s.flag SCT_STS_STOPPED unit ∨ !q.scouts.testBit unit ∨ again then s
      else
        let x := s.stream stream
        let pct := clampNat 1 100 (orElse 75 (cfg x.words 6 8 8))
        let q1 := q.onBand band fun b =>
          let b1 := { b with heard := b.heard ||| 2 ^ unit, acc := b.acc + (if q.key then m.weightKey else m.weightInter),
                             blocks := b.blocks + m.blocks, cutBlocks := b.cutBlocks + m.cutBlocks, noRef := b.noRef + m.noRef }
          if q.scouted b1 then
            { b1 with weight := if b1.started then b1.weight else b1.acc
                      cut := b1.late == 0 && decide (b1.blocks * pct ≤ 100 * b1.cutBlocks) && b1.noRef != b1.blocks }
          else b1
        let q2 := if band = 0 then
            { q1 with pipes := q1.pipes.map fun w =>
                if w.pipe / 4 = unit ∧ w.waiting then { w with waiting := false, due := max w.due (5 * s.tb.run) } else w }
          else q1
        let cut := q2.isCut && !q.isCut
        let q3 := if cut then { q2 with flags := q2.flags ||| 2 } else q2
        let s1 := ((s.onEnc stream fun _ => q3).retarget stream).setFld SCT_POS_BAND band unit
        let s2 := if cut then (bitsOf 4 q.scouts).foldl (fun t u => (t.bump .SCT_CUT_CNT 1 u).event SCT_EVT_CUT u) s1 else s1
        let s3 := if band + 1 = q.bands.length then s2.setFld SCT_STS_BUSY 0 unit else s2
        if (word q.words 3).testBit 2 then
          let g := encGeo x.codec x.words
          let off := ((List.range band).map g.bandBlocks).sum * 8
          s3.store .host (dword q.words 6 + off) m.bytes
        else s3

/-- A band is coded without the data of a scout unit (R102): it counts once for the unit, and is no cut band. -/
def State.scoutLate (s : State) (h unit band : Nat) : State :=
  let known : Bool := match s.encOf h with
    | some q => (match q.bands[band]? with | some b => b.late.testBit unit | none => false)
    | none => false
  let s1 := s.onEnc h fun q =>
    { q.onBand band (fun b => { b with late := b.late ||| 2 ^ unit, cut := false }) with flags := q.flags ||| 128 }
  if known then s1 else (s1.bump .SCT_LATE_CNT 1 unit).event SCT_EVT_LATE unit

/-- SCOUT_WAIT_EXPIRY (R98, R102): at launch + max(T_switch, n_0 × t / 2) the pipe starts band 0 without scout data. -/
def execScoutWaitExpiry (pipe : Nat) (s : State) : Out :=
  finish <|
    match s.encOn pipe with
    | none => s
    | some q =>
      match q.pipes.find? fun w => w.pipe == pipe && w.waiting with
      | none => s
      | some w =>
        let x := s.stream q.stream
        let g := encGeo x.codec x.words
        let at_ := max w.due (5 * q.launchRun + s.cycle pipe * w.cols * g.bandRows 0 * g.t / 2)
        let s1 := s.reachRun (ceilDiv at_ 5)
        let s2 := s1.onEnc q.stream fun q => q.onPipe pipe fun w => { w with waiting := false, due := max at_ (5 * s1.tb.run) }
        s2.scoutLate q.stream (pipe / 4) 0

/-- SCOUT_STOP (R102, R426): a scout unit stops. -/
def execScoutStop (unit : Nat) (s : State) : Out :=
  finish <|
    if 4 ≤ unit ∨ !s.clusterPresent unit then s
    else (((s.setFld SCT_STS_STOPPED 1 unit).setFld SCT_STS_BUSY 0 unit).event SCT_EVT_STOP unit).record 7 unit

/-! ### The time check -/

/-- What a unit with `m` units behind it still needs at the slowed clock, in fifths of a ns (R130, R236). -/
def State.timeNeed (s : State) (x : Stream) (g : Geo) (m : Nat) : Nat :=
  let seam := s.seamXfer x.words
  8 * (5 * g.t + m * g.tf) + (if seam = 0 then 8 * g.tail else 16 * g.t + 5 * seam)

/-- QP_band of a band at its start (R142, R143). -/
def bandQp (x : Stream) (q : EncPic) (g : Geo) (k : Nat) : Nat × Nat :=
  let ws := x.rateCfg
  let prev := x.rate.weights
  let wOf := fun j => match q.bands[j]? with | some b => q.planWeight g prev j b | none => 0
  let left := ((List.range g.bands).filter fun j => match q.bands[j]? with | some b => !b.started || j == k | none => false)
  let total := max 1 (left.map wOf).sum
  let spent := ((q.bands.filter BandPlan.started).map BandPlan.alloc).sum
  let alloc := (q.target - spent) * wOf k / total
  let alpha := if q.key then x.rate.alphaKey else x.rate.alphaInter
  let lo := qpMin ws
  let hi := qpMax x.codec ws
  match rateMode ws with
  | 0 | 1 =>
    let est := clampNat lo hi (toCodecQp x.codec (qpEstimate alpha (wOf k) alloc))
    let near := if k = 0 then x.rate.qpMean else match q.bands[k - 1]? with | some b => b.qp | none => x.rate.qpMean
    let free := k = 0 ∧ (q.key ∨ x.completed = 0)
    (if free then est else clampNat (near - qpStep ws) (near + qpStep ws) est, alloc)
  | m =>
    let base := if m = 2 then cfg ws 15 24 8 else x.rate.qpPic
    let room := q.cap - q.committed - q.reserve g q.unitsLeft
    (min hi (max base (qpFit x.codec alpha total room)), alloc)

/-- A row band starts on its first pipe (R142, R143, R240): the weight it is planned with, allotment and quantiser, and a ring member's ASK;
a repeat has floor units alone (R150). -/
def State.startBand (s : State) (h k : Nat) : State :=
  match s.encOf h with
  | none => s
  | some q =>
    let x := s.stream h
    let g := encGeo x.codec x.words
    let (qp, alloc) := bandQp x q g k
    let s1 := if q.isRepeat then s.onEnc h fun q => q.onBand k fun b => { b with started := true }
      else (s.onEnc h fun q => q.onBand k fun b =>
        { b with started := true, qp := qp, alloc := alloc, weight := q.planWeight g x.rate.weights k b }).setFld RC_S_QP_QP_LAST qp h
    if !isRing x.words ∨ q.isRepeat then s1
    else
      let id := rsid x.words
      let r := s.rs id
      let need := alloc + q.unstarted
      let have_ := q.cap - q.committed - q.reserve g q.unitsLeft
      if need < have_ + tokenMin x.words ∨ r.askOpen then s1
      else
        let want := need - have_
        let seq := (r.seq + 1) % 256
        let s2 := s1.onRs id fun r => { r with seq := seq, askOpen := true }
        if s.isLead id then
          let (t, got) := s2.bankGrant id s.ringPos seq want
          ((t.onEnc h fun q => { q with cap := q.cap + got }).onRs id fun r => { r with askOpen := false, granted := r.granted + got }).showRs id
        else match s.leadOf id with
          | some lead => s2.sendTo lead 0x12 q.tick 16 [id, seq, want]
          | none => s2

/-- CU_START (R97, R107, R130, R235): the next unit of a pipe's column is due in stage 1, with `late` window strips left out, whether a
far patch was dropped, and the halo sides its vectors may reach. While it waits for scout data or for such a side, nothing starts. -/
def execCuStart (pipe late : Nat) (far : Bool) (needs : Nat) (s : State) : Out :=
  finish <|
    match s.encOn pipe with
    | none => s
    | some q =>
      let x := s.stream q.stream
      let g := encGeo x.codec x.words
      match q.pipes.find? fun w => w.pipe == pipe with
      | none => s
      | some w =>
        if w.stopped ∨ w.waiting ∨ w.units ≤ w.started then s
        else
          let u := w.started
          let isFloor : Bool := match w.floorFrom with | some f => decide (f ≤ u) | none => false
          if !isFloor ∧ s.haloPending x.words q.tick needs then s
          else
            let s1 := s.reachRun (ceilDiv w.due 5)
            let (row, col, band) := q.place g w u
            let firstOfBand := decide (u % (w.cols * g.band) = 0)
            let fails := !isFloor && decide (5 * q.dueRun < 5 * s1.tb.run + s.timeNeed x g (w.units - u - 1))
            let s2 := s1.onEnc q.stream fun q =>
              let q1 := if fails then { q.floorAt g pipe u with cause := q.cause ||| 2 } else q
              let q2 := if s1.slowedRegion (pipeRegion pipe) then { q1 with cause := q1.cause ||| 16 } else q1
              let lost := isRing x.words && s.haloMissing x.words q.tick needs && !isFloor && !fails
              let q3 := if lost then { q2 with edge := q2.edge + 1, cause := q2.cause ||| 32, flags := q2.flags ||| 16 } else q2
              let q4 := if late ≠ 0 ∧ !isFloor ∧ !fails then { q3 with flags := q3.flags ||| 256 } else q3
              q4.onPipe pipe fun w =>
                { w with started := u + 1, due := max w.due (5 * s1.tb.run) + s1.cycle pipe * (if isFloor || fails then g.tf else g.t) }
            let s3 := s2.putN .ENC_EP_POS (band % 256 + row % 256 * 256 + col % 256 * 65536) pipe
            let s4 := if late ≠ 0 ∧ !isFloor then (s3.bump .ENC_EP_WIN_CNT late pipe).event ENC_EP_EVT_WIN_LATE pipe else s3
            let s5 := s4.eventIf (far && !isFloor) ENC_EP_EVT_FAR_DROP pipe
            if !firstOfBand then s5
            else
              let s6 := match q.bands[band]? with
                | some b => if b.started then s5 else s5.startBand q.stream band
                | none => s5
              match q.bands[band]? with
              | some b => if band ≠ 0 ∧ !q.isRepeat ∧ !isFloor ∧ !b.heard.testBit (pipe / 4) then s6.scoutLate q.stream (pipe / 4) band else s6
              | none => s6

/-- WAIT_CUT (R131): during a wait for scout data or a halo side, the time check of the waiting unit fails, at the first instant at
which it does; the unit and the rest of its column are floor-coded. -/
def execWaitCut (pipe : Nat) (s : State) : Out :=
  finish <|
    match s.encOn pipe with
    | none => s
    | some q =>
      let x := s.stream q.stream
      let g := encGeo x.codec x.words
      match q.pipes.find? fun w => w.pipe == pipe with
      | none => s
      | some w =>
        let halo := s.haloPending x.words q.tick 3
        if w.stopped ∨ w.units ≤ w.started ∨ w.floorFrom.isSome ∨ (!w.waiting ∧ !halo) then s
        else
          let need := s.timeNeed x g (w.units - w.started - 1)
          let s1 := s.reachRun ((5 * q.dueRun - need) / 5 + 1)
          s1.onEnc q.stream fun q =>
            let q1 := { q.floorAt g pipe w.started with cause := q.cause ||| 66 ||| (if halo then 32 else 0) }
            let q2 := if halo then { q1 with flags := q1.flags ||| 16, edge := q1.edge + (w.units - w.started) } else q1
            q2.onPipe pipe fun w => { w with due := max w.due (5 * s1.tb.run) }

/-! ### The bit check and the hand-off -/

/-- CU_BIT_CHECK (R101, R135, R136): the next normal unit of a pipe has bound `u`; when it does not fit, it and every unit of the picture
not past stage 3 are floor-coded. -/
def execCuBitCheck (pipe u : Nat) (trimmed : Bool) (s : State) : Out :=
  finish <|
    match s.encOn pipe with
    | none => s
    | some q =>
      let x := s.stream q.stream
      let g := encGeo x.codec x.words
      match q.pipes.find? fun w => w.pipe == pipe with
      | none => s
      | some w =>
        let isFloor : Bool := match w.floorFrom with | some f => decide (f ≤ w.past) | none => false
        if w.stopped = true ∨ w.started ≤ w.past ∨ isFloor = true then s
        else
          let s0 := if trimmed then (s.bump .ENC_EP_TRIM_CNT 1 pipe).event ENC_EP_EVT_TRIM pipe else s
          let s1 := s0.onEnc q.stream fun q => if trimmed then { q with trimmed := q.trimmed + 1, flags := q.flags ||| 512 } else q
          if q.committed + u + q.reserve g (q.unitsLeft - 1) ≤ q.cap then
            s1.onEnc q.stream fun q =>
              { q.onPipe pipe (fun w => { w with past := w.past + 1 }) with owed := q.owed ++ [(pipe, u)], unitsLeft := q.unitsLeft - 1,
                                                                            passed := decide (q.unitsLeft ≤ 1) }
          else
            s1.onEnc q.stream fun q =>
              { q.pipes.foldl (fun q w => q.floorAt g w.pipe w.past) q with cause := q.cause ||| 1, passed := true }

/-- Remove the oldest entry of a pipe from the list of bounds. -/
def dropOwed (pipe : Nat) : List (Nat × Nat) → List (Nat × Nat)
  | [] => []
  | e :: es => if e.1 = pipe then es else e :: dropOwed pipe es

/-- A ring member's seam strips after a hand-off (R236): its first coding-unit row is reconstructed, or all of its band. -/
def State.seamUnits (h : Nat) (s : State) : State :=
  match s.encOf h with
  | none => s
  | some q =>
    s.seamStep h q.tick (q.pipes.all fun w => !w.stopped && decide (w.cols ≤ w.handed))
      (q.pipes.all fun w => !w.stopped && decide (w.units ≤ w.handed))

/-- CU_HANDOFF (R98, R128, R135): the next unit of a pipe leaves stage 5 with `bits` bits, and stage 6 hands its bytes on; a floor unit
takes no more than its bound. -/
def execCuHandoff (pipe : Nat) (bytes : List (BitVec 8)) (bits : Nat) (s : State) : Out :=
  finish <|
    match s.encOn pipe with
    | none => s
    | some q =>
      let x := s.stream q.stream
      let g := encGeo x.codec x.words
      match q.pipes.find? fun w => w.pipe == pipe with
      | none => s
      | some w =>
        let u := w.handed
        let isFloor : Bool := match w.floorFrom with | some f => decide (f ≤ u) | none => false
        if w.stopped ∨ w.started ≤ u ∨ (!isFloor ∧ w.past ≤ u) then s
        else
          let (_, _, band) := q.place g w u
          let n := if isFloor then min bits (q.fb g) else min bits (((q.owed.find? fun e => e.1 == pipe).map Prod.snd).getD bits)
          State.seamUnits q.stream <| s.onEnc q.stream fun q =>
            let q1 := q.onPipe pipe fun w => { w with handed := u + 1 }
            { q1.onBand band (fun b =>
                { b with bits := b.bits + n, normalBits := if isFloor then b.normalBits else b.normalBits + n, bytes := b.bytes ++ bytes }) with
              produced := q.produced + n
              owed := if isFloor then q.owed else dropOwed pipe q.owed
              unitsLeft := if isFloor then q.unitsLeft - 1 else q.unitsLeft }

/-- Every tile column of a band is handed off. -/
def EncPic.bandDone (q : EncPic) (g : Geo) (k : Nat) : Bool :=
  q.pipes.all fun w => !w.stopped && decide (min w.units ((k + 1) * g.band * w.cols) ≤ w.handed)

/-- Coding-unit rows that both pipes of every internal boundary have handed off, summed over the boundaries (R99). -/
def EncPic.seamsReady (q : EncPic) : Nat :=
  let rows := q.pipes.map fun w => w.handed / max 1 w.cols
  ((rows.zip (rows.drop 1)).map fun (a, b) => min a b).sum

/-- SEAM_STRIP_DONE (R99): the seam filter finishes the next strip. -/
def execSeamStripDone (stream : Nat) (s : State) : Out :=
  finish <|
    match s.encOf stream with
    | none => s
    | some q =>
      if q.seams < q.seamsReady then
        let s1 := s.onEnc stream fun q => { q with seams := q.seams + 1 }
        (q.pipes.drop 1).foldl (fun t w => t.setFlag ENC_CL_STS_SEAM_BUSY (decide (q.seams + 1 < q.seamsReady)) (w.pipe / 4)) s1
      else s

/-! ### Row bands -/

/-- The marker of a band record (R210). -/
def bandMarker (tick band flags len phase : Nat) : List Byte :=
  leBytes 8 tick ++ leBytes 2 band ++ leBytes 2 (flags % 2 ^ 15 + phase * 2 ^ 15) ++ leBytes 4 len ++ zeros 16

/-- A band record is put into a stream's bitstream ring (R210, R211, R153), payload before marker. -/
def State.putRecord (s : State) (h tick band flags : Nat) (payload : List Byte) : State :=
  let (off, ph, s1) := s.ringPut h payload.length
  let n := max 64 (s.stream h).res.ringBytes
  let pad := zeros (roundUp (32 + payload.length) 64 - 32 - payload.length)
  let s2 := (s1.ringWrite h ((off + 32) % n) (payload ++ pad)).ringWrite h off (bandMarker tick band flags payload.length ph)
  if band = 0 then s2.onStream h fun x => { x with bandAt := s.tb.run } else s2

/-- Filler bits that CBR asks for after the last band (R139). -/
def State.fillerBits (s : State) (x : Stream) (coded : Nat) : Nat :=
  if rateMode x.rateCfg ≠ 0 then 0
  else
    let tick := rateC x.rateCfg * s.fld TK_NUM_NUM / max 1 (s.fld TK_DEN_DEN)
    roundUp (x.rate.fill + tick - bufBits x.rateCfg - coded) 8

/-- Units of a pipe's share in row band `k`, and the normal ones among them. -/
def PipeWork.bandUnits (w : PipeWork) (g : Geo) (k : Nat) : Nat × Nat :=
  let a := min w.units (k * g.band * w.cols)
  let b := min w.units ((k + 1) * g.band * w.cols)
  (b - a, match w.floorFrom with | some f => min b f - a | none => b - a)

/-- Units of a picture in row band `k`, and the normal ones among them (R143, R210). -/
def EncPic.bandUnits (q : EncPic) (g : Geo) (k : Nat) : Nat × Nat :=
  ((q.pipes.map fun w => (w.bandUnits g k).1).sum, (q.pipes.map fun w => (w.bandUnits g k).2).sum)

/-- FLAGS of a band record: FIRST, LAST, KEY, FLOORED when the band has floor units, REPEAT, FILLER (R210). -/
def EncPic.markFlags (q : EncPic) (g : Geo) (k : Nat) (first last filler : Bool) : Nat :=
  let (all, normal) := q.bandUnits g k
  first.toNat + last.toNat * 2 + q.key.toNat * 4 + (decide (normal < all)).toNat * 8 + q.isRepeat.toNat * 16 + filler.toNat * 32

/-- Row bands of the ring picture above a position (R232). -/
def bandsAbove (codec size : Nat) (ws : List Nat) (p : Nat) : Nat :=
  let g := encGeo codec ws
  ((List.range p).map fun k => let (a, b) := bandSpan codec size ws k; ceilDiv (b - a) g.band).sum

/-- The picture lead releases the ring picture's bands in global order as they become complete (R232); a dropped band is passed by. -/
def State.releaseGlobal (s : State) (h tick : Nat) : Nat → State
  | 0 => s
  | fuel + 1 =>
    let x := s.stream h
    let id := rsid x.words
    let r := s.rs id
    let all := bandsAbove x.codec s.ringSize x.words s.ringSize
    match storeFind r.fwd r.fwdNext with
    | none => s
    | some b =>
      if !b.dropped ∧ b.bytes < b.total then s
      else
        let j := r.fwdNext
        let s1 := s.onRs id fun r => { r with fwdNext := j + 1 }
        let last := decide (j + 1 = all)
        let fl := b.flags / 4 * 4 + (decide (j = 0)).toNat + last.toNat * 2
        let key := b.flags.testBit 2
        let nh := if j = 0 then s1.free.toNat % (headBits key / 8 + 1) else 0
        let head := s1.tookFree.freeBytes nh
        let bits := headBits key + ((r.fwd.filter fun e => !e.2.dropped).map fun e => 8 * e.2.payload.length).sum
        let nf := if last then s.fillerBits x bits / 8 else 0
        let t := s1.tookFree (1 + nh)
        let payload := head ++ b.payload ++ t.freeBytes nf
        let s2 := if b.dropped then s1
          else ((t.tookFree nf).putRecord h tick j (fl + (decide (nf ≠ 0)).toNat * 32) payload).onRs id fun r =>
            { r with leadBits := r.leadBits + 8 * (nh + nf) }
        s2.releaseGlobal h tick fuel

/-- A ring member's released band (R232, R240): spare bits are donated, and the band goes to the picture lead. -/
def State.ringBand (s : State) (h : Nat) (q : EncPic) (g : Geo) (k : Nat) (b : BandPlan) : State :=
  let x := s.stream h
  let id := rsid x.words
  let r := s.rs id
  let need := q.committed + q.reserve g q.unitsLeft + q.unstarted
  let spare := q.cap - need
  let s1 :=
    if spare < tokenMin x.words then s
    else
      let seq := (r.seq + 1) % 256
      let t := (s.onEnc h fun q => { q with cap := q.cap - spare }).onRs id fun r => { r with donated := r.donated + spare, seq := seq }
      (if s.isLead id then t.bankTake id spare
       else match s.leadOf id with | some lead => t.sendTo lead 0x11 q.tick 16 [id, seq, spare] | none => t).showRs id
  let j := bandsAbove x.codec s.ringSize x.words s.ringPos + k
  let fl := q.markFlags g k false false false
  if s.isLead id then
    let t := s1.onRs id fun r =>
      let r0 := if r.fwdTick = q.tick then r else { r with fwdTick := q.tick, fwd := [], fwdNext := 0 }
      { r0 with fwd := storeInsert r0.fwd j { total := b.bytes.length, bytes := b.bytes.length, flags := fl, payload := b.bytes } }
    t.releaseGlobal h q.tick 4096
  else
    let t := s1.putRecord h q.tick j fl b.bytes
    match s.leadOf id with
    | none => t
    | some lead =>
      let n := ceilDiv b.bytes.length 2048
      (List.range n).foldl (fun t i =>
        let len := min 2048 (b.bytes.length - i * 2048)
        t.sendTo lead 0x30 q.tick (16 + len) [id, fl + (decide (i = 0)).toNat + (decide (i + 1 = n)).toNat * 2, j, i * 2048, b.bytes.length, len]) t

/-- BAND_RELEASE (R137, R139, R143, R153, R210, R232, R240): the next band of a picture, once all its columns are handed off. Its header is
written then, with its byte alignment within HB. -/
def execBandRelease (stream : Nat) (s : State) : Out :=
  finish <|
    match s.encOf stream with
    | none => s
    | some q =>
      let x := s.stream stream
      let g := encGeo x.codec x.words
      let k := q.released
      match q.bands[k]? with
      | none => s
      | some b =>
        if !q.bandDone g k then s
        else
          let last := decide (k + 1 = g.bands)
          let nh := s.free.toNat % (g.hb / 8)
          let s0 := s.tookFree
          let more := roundUp b.bits 8 - b.bits + 8 * nh
          let filler := if last ∧ !isRing x.words then s.fillerBits x (q.header + q.produced + more) else 0
          let nhead := (if k = 0 then q.header / 8 else 0) + nh
          let head := s0.freeBytes nhead
          let s1 := s0.tookFree nhead
          let fill := s1.freeBytes (filler / 8)
          let (units, normal) := q.bandUnits g k
          let s2 := (s1.tookFree (filler / 8)).onStream stream fun x =>
            if normal = 0 then x
            else
              let upd := fun a => Config.alphaUpdate [a, b.normalBits, b.qp, b.weight, normal, units] % 65536
              { x with rate := { x.rate with alphaKey := if q.key then upd x.rate.alphaKey else x.rate.alphaKey,
                                             alphaInter := if q.key then x.rate.alphaInter else upd x.rate.alphaInter, qpLast := b.qp } }
          let payload := head ++ b.bytes ++ fill
          let b1 := { b with bits := b.bits + more + (if k = 0 then q.header else 0) + filler, bytes := payload }
          let q1 := { q.onBand k (fun _ => { b1 with bytes := [] }) with
            released := k + 1, produced := q.produced + more + filler, headersLeft := q.headersLeft - 1 }
          let s3 := s2.onEnc stream fun _ => q1
          let s4 :=
            if isRing x.words then s3.ringBand stream q1 g k b1
            else s3.putRecord stream q.tick k (q.markFlags g k (decide (k = 0)) last (decide (filler ≠ 0))) payload
          s4.showStream stream

/-! ### Completion -/

/-- The 64-byte statistics record (R120). -/
def encStatsRecord (q : EncPic) (st : EncStats) (coded ofs flags : Nat) : List Byte :=
  leBytes 8 q.tick ++ leBytes 4 coded ++ leBytes 2 flags ++ leBytes 2 q.released ++ leBytes 4 st.avgQp ++ leBytes 4 q.floored
    ++ leBytes 4 st.psnr ++ leBytes 4 (st.struct % 65536) ++ leBytes 4 st.cycles ++ leBytes 4 ofs ++ leBytes 4 q.trimmed
    ++ leBytes 4 q.edge ++ leBytes 4 st.order ++ leBytes 4 st.actMean ++ zeros 8

/-- The references a stream keeps once a picture is one (R105, R207): a key picture clears the others; else the newest of the list,
and with LT_KEY the last key picture. -/
def State.encRefs (s : State) (x : Stream) (q : EncPic) : List Nat :=
  let room := cfg x.words 4 16 2 + cfg x.words 4 18 2
  let lt := fun d => s.regN .FB_DESC_MARKS d &&& mkLt != 0
  if q.key then [q.buf]
  else
    let keep := x.refs.filter lt
    let rest := (x.refs.filter fun d => !lt d) ++ [q.buf]
    keep ++ rest.drop (rest.length - room)

/-- The seam exchange of a ring member is done with (R236): the strips above and below have come, or the deadline has passed. -/
def State.seamsClosed (s : State) (x : Stream) : Bool :=
  !isRing x.words ||
    (let r := s.rs (rsid x.words)
     r.seamLate || ((!s.hasSide 0 || decide (seamBytes x.words ≤ r.seamDown)) && (!s.hasSide 1 || decide (seamBytes x.words + seamInfo x.words ≤ r.seamUp))))

/-- What is left of a picture that is done: nothing of it waits. -/
def State.encReady (s : State) (x : Stream) (g : Geo) (q : EncPic) : Bool :=
  (q.pipes.all fun w => w.stopped || decide (w.units ≤ w.handed))
    && (q.failed.isSome || (decide (g.bands ≤ q.released) && decide (g.rows * (g.pipes - 1) ≤ q.seams) && s.seamsClosed x))

/-- QP_pic after a picture in mode 3 (R141): a step toward STRUCT_TARGET of at most 3. -/
def nextQpPic (x : Stream) (struct : Nat) : Nat :=
  let d : Int := (struct : Int) - (cfg x.rateCfg 16 16 16 : Nat)
  let mag := (d.natAbs * 400 + 65535) / 131070
  let step : Int := if d < 0 then -((min 3 mag : Nat) : Int) else (min 3 mag : Nat)
  clampNat (qpMin x.rateCfg) (qpMax x.codec x.rateCfg) (((x.rate.qpPic : Int) + step).toNat)

/-- A ring member's FINAL (R241): its own record, and the message to every member. -/
def State.sendFinal (s : State) (h : Nat) (q : EncPic) : State :=
  let x := s.stream h
  let id := rsid x.words
  let r := s.rs id
  let fl := (decide (q.flags.testBit 1)).toNat + r.seamLate.toNat * 2 + q.isRepeat.toNat * 4 + (decide (q.floored ≠ 0)).toNat * 8
    + (decide (q.edge ≠ 0)).toNat * 16 + (r.badCfg || decide (r.planTick ≠ some q.tick ∧ q.isRepeat)).toNat * 32
  let cplx := (q.bands.map BandPlan.weight).sum
  let cut := (q.bands.filter BandPlan.cut).length + q.bands.length * 65536
  let f : FinalRec := { flags := fl, bits := q.produced, carry := r.carry, cplx := cplx, cut := cut }
  let s1 := s.onRs id fun r =>
    let r0 := if r.finalTick = q.tick then r else { r with finalTick := q.tick, finals := [] }
    { r0 with finals := storeInsert r0.finals s.ringPos f }
  s1.sendAll 0x14 q.tick 20 [id, 0, fl, f.bits, f.carry, f.cplx, f.cut]

/-- An encode picture leaves its pipes: registers, marks of its source and buffer (R124, R207). -/
def State.encLeave (s : State) (q : EncPic) : State :=
  let s1 := q.pipes.foldl (fun t w => t.pipeOff w.pipe) s
  let s2 := { s1 with codec := { s1.codec with enc := s1.codec.enc.filter fun p => !(p.launched && p.stream == q.stream) } }
  let s3 := (bitsOf 4 q.scouts).foldl (fun t u => if t.fld SCT_STS_HANDLE u = q.stream then t.setFld SCT_STS_BUSY 0 u else t) s2
  let s4 := match q.source with | some d => s3.mark d 0 mkSrc | none => s3
  s4.setFld RC_STS_IN_FLIGHT (s4.codec.enc.filter fun p => p.launched).length

/-- The registers and counters a completed picture leaves (R125, R155, R157). -/
def State.encCounters (s : State) (q : EncPic) (st : EncStats) : State :=
  let h := q.stream
  let fl := q.floored
  let s1 := (s.putN .RC_S_FLOORED (min fl 65535 + (match q.firstFloor with | some f => min f 65534 | none => 0xFFFF) * 65536) h).putN .RC_S_CAUSE q.cause h
  let s2 := if fl = 0 then s1 else (s1.bump .RC_FLOOR_PIC_CNT).bump .RC_FLOOR_CU_CNT fl
  let s3 := if fl ≠ 0 ∧ q.cause.testBit 4 then s2.bump .RC_SLOW_FLOOR_CNT else s2
  let s4 := q.pipes.foldl (fun t w =>
    let t1 := (t.putN .ENC_EP_CYC_LAST st.cycles w.pipe).maxReg .ENC_EP_CYC_MAX st.cycles w.pipe
    if w.poisoned then t1.bump .ENC_EP_POISON_CNT 1 w.pipe else t1) s3
  { s4 with codec := { s4.codec with sumFloor := s4.codec.sumFloor + (decide (fl ≠ 0)).toNat,
                                     sumEdge := s4.codec.sumEdge + (decide (q.edge ≠ 0)).toNat,
                                     sumRepeat := s4.codec.sumRepeat + q.isRepeat.toNat } }

/-- An encode picture completes (R104, R116, R120, R121, R138, R141, R148, R149, R207). -/
def State.encComplete (s : State) (q : EncPic) (st : EncStats) : State :=
  let h := q.stream
  let x := s.stream h
  let coded := if q.failed.isSome then ((q.bands.take q.released).map BandPlan.bits).sum else q.header + q.produced
  let fl := q.floored
  let ring := isRing x.words
  let late := ring && (s.rs (rsid x.words)).seamLate
  let flags := q.flags ||| (decide (fl ≠ 0)).toNat * 8 ||| (decide (q.edge ≠ 0) || late).toNat * 16 ||| (q.failed.isSome).toNat * 64
    ||| st.winLate.toNat * 256
  let refs := s.encRefs x q
  let gone := x.refs.filter fun d => !refs.contains d
  let r0 := if ring then x.rate else if q.failed.isSome then { x.rate with owed := some coded }
            else s.advanceFill x coded false
  let r1 := { r0 with
    sinceKey := if q.key then 0 else r0.sinceKey + 1, qpMean := st.avgQp / 256
    qpPic := if rateMode x.rateCfg = 3 ∧ !q.isRepeat then nextQpPic x st.struct else r0.qpPic
    weights := if q.isRepeat then [] else q.bands.map fun b => if q.scouted b then b.acc else b.weight
    complexity := if ring ∨ q.isRepeat ∨ !(q.bands.all q.scouted) then r0.complexity
                  else (((q.bands.map BandPlan.weight).sum) :: r0.complexity).take 64 }
  let x1 := { x with
    completed := x.completed + 1, lastTick := q.tick, rate := r1, refs := refs
    keyDue := x.keyDue || (!ring && q.flags.testBit 1 && cfg x.words 5 16 1 == 1) || q.flags.testBit 5 || q.failed.isSome || q.unusable }
  let s1 := (s.encLeave q).setStream h x1
  let s2 := gone.foldl (fun t d => t.mark d 0 mkRefAll) s1
  let lt := if q.key ∧ cfg x.words 4 20 1 = 1 then mkLt else 0
  let bad := if q.unusable ∨ q.failed.isSome then mkUnusable else 0
  let s3 := ((s2.mark q.buf (mkRef + lt + bad) mkCur).putN .FB_DESC_ORDER st.order q.buf).putN .FB_DESC_TICK (q.tick % 2 ^ 32) q.buf
  let s4 := (s3.encCounters q st).showStream h
  let s5 := (((s4.sample 1 h s.cplOfs).sample 2 h st.cycles).sample 3 h fl)
  let s6 := if (word q.words 3).testBit 1 ∧ q.cmd.isSome then
      s5.store .host (dword q.words 4) (encStatsRecord q st (ceilDiv coded 8) s.cplOfs flags) else s5
  let s7 := if ring then s6.sendFinal h q else s6
  let (status, detail) := match q.failed with
    | some p => (0x30, p)
    | none => if fl ≠ 0 ∨ q.isRepeat then (1, 0) else if q.edge ≠ 0 ∨ late then (3, 0) else (0, 0)
  (((s7.answerLater q.cmd status detail (ceilDiv coded 8)).settleConfig h).touch 4 h).settleClose h

/-- ENC_PICTURE_COMPLETE (R99, R149): every unit is handed off, every band released and every seam strip finished. -/
def execEncPictureComplete (stream : Nat) (st : EncStats) (s : State) : Out :=
  finish <|
    match s.encOf stream with
    | none => s
    | some q =>
      let x := s.stream stream
      if s.encReady x (encGeo x.codec x.words) q then (s.encComplete q st).streamVotes else s

/-- The unit that a fault affects: one in stages 1 to 4 of the pipe, or the next to enter (R121). -/
def affectedUnit (w : PipeWork) (unit : Nat) : Nat := max (max w.handed (w.past - 1)) (min unit w.started)

/-- The next unit of a pipe to reach the bit check. -/
def State.nextUnit (s : State) (pipe : Nat) : Nat :=
  match (s.encOn pipe).bind fun q => q.pipes.find? fun w => w.pipe == pipe with
  | some w => w.past
  | none => 0

/-- A unit in stage 4 that a fault affects is floor-coded after all: it has not passed, and its bound is owed no longer (R121, R135). -/
def EncPic.backTo (q : EncPic) (pipe unit : Nat) : EncPic :=
  match q.pipes.find? fun w => w.pipe == pipe with
  | some w =>
    if affectedUnit w unit < w.past then
      { q.onPipe pipe (fun w => { w with past := w.past - 1 }) with owed := (dropOwed pipe q.owed.reverse).reverse, unitsLeft := q.unitsLeft + 1 }
    else q
  | none => q

/-- A pipe stops (R121, R465): its fault is recorded, its status says so, and its spare is claimed. -/
def State.encStop (s : State) (pipe : Nat) : State :=
  let s1 := ((s.record 6 pipe).event ENC_EP_EVT_STOP pipe).setFld ENC_EP_STS_STOPPED 1 pipe
  if s1.flag SPR_CFG_AUTO_STOP then s1.claimSpare pipe 1 else s1

/-- The effect of a fault in a pipe, by the table of its rule; a pipe that carries no picture can only stop. -/
def State.encFault (s : State) (pipe : Nat) (f : EncFault) : State :=
  match s.encOn pipe with
  | none =>
    match f with
    | .stop => if pipe < 16 ∧ s.pipePresent pipe ∧ !s.flag ENC_EP_STS_STOPPED pipe then s.encStop pipe else s
    | _ => s
  | some q =>
    let x := s.stream q.stream
    let g := encGeo x.codec x.words
    match q.pipes.find? fun w => w.pipe == pipe with
    | none => s
    | some w =>
      if w.stopped then s
      else match f with
        | .strip far =>
          if far then s.event ENC_EP_EVT_FAR_DROP pipe
          else ((s.bump .ENC_EP_WIN_CNT 1 pipe).event ENC_EP_EVT_WIN_LATE pipe).onEnc q.stream fun q => { q with flags := q.flags ||| 256 }
        | .poison unit =>
          ((s.record 5 pipe).event ENC_EP_EVT_POISON pipe).onEnc q.stream fun q =>
            { ((q.backTo pipe unit).floorAt g pipe (affectedUnit w unit)).onPipe pipe (fun w => { w with poisoned := true }) with
              flags := q.flags ||| 32, cause := q.cause ||| 4 }
        | .floorPrediction =>
          ((s.record 5 pipe).event ENC_EP_EVT_POISON pipe).onEnc q.stream fun q =>
            { q.onPipe pipe (fun w => { w with poisoned := true }) with unusable := true, flags := q.flags ||| 32, cause := q.cause ||| 4 }
        | .stop =>
          (s.onEnc q.stream fun q =>
            { q.onPipe pipe (fun w => { w with stopped := true }) with
              failed := some (match q.failed with | some p => min p pipe | none => pipe) }).encStop pipe

/-- ENC_PIPE_FAULT (R107, R108, R121, R134, R465): a fault in an encoder pipe while it codes a picture. -/
def execEncPipeFault (pipe : Nat) (f : EncFault) (s : State) : Out := finish (s.encFault pipe f)

end Sys2Proof.Machine
end

