-- ==== Sys2Proof/Machine/Decoding.lean ====
section
/-!
DEFINITION. Decoding: DEC_AU and the commands beside it, the launch of a decode picture, its blocks, concealment, completion, output
order and the return of pictures (R160 to R187).
-/
namespace Sys2Proof.Machine

/-! ### Pictures -/

/-- The launched decode picture that a pipe decodes, and that of a stream. -/
def State.decOn (s : State) (pipe : Nat) : Option DecPic :=
  s.codec.dec.find? fun q => q.launched && q.pipes.any fun w => w.pipe == pipe
@[inherit_doc State.decOn] def State.decOf (s : State) (h : Nat) : Option DecPic :=
  s.codec.dec.find? fun q => q.launched && q.stream == h

/-- Change the launched decode picture of a stream. -/
def State.onDec (s : State) (h : Nat) (f : DecPic → DecPic) : State :=
  { s with codec := { s.codec with dec := s.codec.dec.map fun q => if q.launched && q.stream == h then f q else q } }

/-- Change the share of one pipe. -/
def DecPic.onPipe (q : DecPic) (pipe : Nat) (f : PipeWork → PipeWork) : DecPic :=
  { q with pipes := q.pipes.map fun w => if w.pipe = pipe then f w else w }

/-- Blocks of a MAX_WIDTH × MAX_HEIGHT picture, and its map width (R170, R173). -/
def maxBlocks (ws : List Nat) : Nat := ceilDiv (cfg ws 0 0 16) 16 * ceilDiv (cfg ws 0 16 16) 16
@[inherit_doc maxBlocks] def maxMapW (ws : List Nat) : Nat := ceilDiv (cfg ws 0 0 16) 16

/-- Keep `DEC_S_STS` true: buffers of the pool that are free and that carry each mark (R185). -/
def State.showPool (s : State) (h : Nat) : State :=
  let x := s.stream h
  if !x.dec ∨ x.words.isEmpty then s
  else
    let n := fun p => (x.res.pool.filter p).length
    let bit := fun m d => s.regN .FB_DESC_MARKS d &&& m != 0
    s.putN .DEC_S_STS (n s.descFree + n (bit mkRef) * 256 + n (bit mkHeld) * 65536 + n (bit 0xF00) * 2 ^ 24) h

/-! ### Submitting -/

/-- Length of fragment `i` of a DEC_AU (R165). -/
def fragLen (c : Cmd) (i : Nat) : Nat :=
  (if i = 0 then c.p 3 else if i < 6 then c.p (28 + 3 * (i - 1)) else c.p (44 + 3 * (i - 6))) % 2 ^ 24

/-- Fragments of a DEC_AU. -/
def fragCount (c : Cmd) : Nat := max 1 (cfg c.params 2 8 4)

/-- Fragments that a number of slots carries (R165). -/
def fragRoom (slots : Nat) : Nat := if slots ≤ 2 then 1 else if slots = 3 then 6 else 11

/-- The checks of DEC_AU in rising order of detail (R84, R165). -/
def decAuChecks (c : Cmd) (x : Stream) (s : State) : List (Bool × Nat) :=
  let f := c.p 2
  let ingest := f.testBit 0
  let n := fragCount c
  let lens := (List.range n).map (fragLen c)
  [(s.indexOk c && (ingest || decide (n ≤ fragRoom c.own) && lens.all (fun l => l != 0) && decide (lens.sum ≤ 16777215)), 1),
   ((!f.testBit 1 || c.p64 6 != 0) && (!f.testBit 2 || c.p64 8 != 0 && decide (maxBlocks x.newest ≤ c.p 10)), 2),
   (!ingest || (flowOf true x.newest).isSome, 3), (ingest || c.data.isSome, 4)]

/-- DEC_AU (R38, R84, R165 to R167, R199): validation includes the staging of the access unit. -/
def opDecAu (c : Cmd) (s : State) : Res :=
  withStream c (some true) s fun x =>
    match firstBad (decAuChecks c x s) with
    | some d => Res.bad s d
    | none =>
      let ingest := (c.p 2).testBit 0
      let n := if ingest then 0 else ((List.range (fragCount c)).map (fragLen c)).sum
      if 4 ≤ s.accepted c.handle then Res.full s 1
      else match (if ingest then (some [], s) else s.stage n) with
        | (none, t) => Res.full t 2
        | (some l, t) =>
          let r := t.bindPicture c (cfg x.newest 4 0 4) fun k =>
            ({ t with codec := { t.codec with dec := t.codec.dec ++
                [({ stream := c.handle, tick := k, cmd := some c, words := c.params, bytes := n, staged := l } : DecPic)] } }).touch 4 c.handle
          if r.deferred then r else { r with s := r.s.bpFreeAll l }

/-- DEC_AU. -/
def execDecAu (c : Cmd) (s : State) : Out := runCommand c opDecAu s

/-- A usable reference: REF and not UNUSABLE (R206). -/
def State.usable (s : State) (d : Nat) : Bool := s.regN .FB_DESC_MARKS d &&& 40 == mkRef

/-- The order identifiers under which a buffer is a reference: that of the picture, and of the first field of a pair (R176, R181). -/
def State.refOrders (s : State) (x : Stream) (d : Nat) : List Nat :=
  s.regN .FB_DESC_ORDER d :: (x.pairOrder.filter fun e => e.1 == d).map Prod.snd

/-- The order identifiers of the usable references of a stream. -/
def State.knownOrders (s : State) (x : Stream) : List Nat := (x.refs.filter s.usable).flatMap (s.refOrders x)

/-- DEC_REF_DROP (R176): the most recently decoded reference with the order identifier loses its usable mark. -/
def opDecRefDrop (c : Cmd) (s : State) : Res :=
  withStream c (some true) s fun x =>
    match x.refs.reverse.find? fun d => s.usable d && (s.refOrders x d).contains (c.p 0) with
    | some d => Res.ok ((s.mark d mkUnusable 0).touch 4 c.handle)
    | none => Res.bad s 1

/-- DEC_REF_DROP. -/
def execDecRefDrop (c : Cmd) (s : State) : Out := runCommand c opDecRefDrop s

/-! ### Output (R178, R179) -/

/-- Where the record ring of a decode stream lies, and its size. -/
def recSpace (ws : List Nat) : Space := spaceOf (word ws 6)
@[inherit_doc recSpace] def recAddr (ws : List Nat) : Nat := dword ws 6 / 4096 * 4096
@[inherit_doc recSpace] def recCount (ws : List Nat) : Nat := 2 ^ cfg ws 8 0 4

/-- Records written and not returned. -/
def State.recsOut (s : State) (h : Nat) (ws : List Nat) : Nat :=
  let n := recCount ws
  (s.fld DEC_S_REC_TAIL_TAIL h + n - s.fld DEC_S_REC_HEAD_HEAD h % n) % n

/-- The 32 bytes of an output record: words TICK (two), FB and FLAGS, ORDER, size, crop and CONC, with the phase. -/
def outRecord (ws : List Nat) (phase : Nat) : List Byte :=
  leBytes 4 (word ws 0) ++ leBytes 4 (word ws 1) ++ leBytes 4 (word ws 2 % 2 ^ 31 + phase % 2 * 2 ^ 31) ++ leBytes 4 (word ws 3)
    ++ leBytes 4 (word ws 4) ++ leBytes 4 (word ws 5) ++ leBytes 4 (word ws 6) ++ zeros 4

/-- Field pairs are output as one picture (R163, R181). -/
def weaves (x : Stream) : Bool := x.codec == 3 && (word x.words 4).testBit 19

/-- The oldest picture that is due leaves HELD with its record, and so on; a full ring or a buffer named 15 times stops it with REC_FULL
(R178), and a woven pair waits for its second field (R181). Answers the records written. -/
def State.output (s : State) (h : Nat) : Nat → State × Nat
  | 0 => (s, 0)
  | fuel + 1 =>
    let x := s.stream h
    match x.held with
    | [] => (s, 0)
    | (d, ws) :: rest =>
      if x.due = 0 ∨ (weaves x && x.openField.any fun e => e.1 == d) then (s, 0)
      else
        let n := recCount x.words
        if n - 1 ≤ s.recsOut h x.words ∨ 15 ≤ s.fld FB_DESC_MARKS_OUT_CNT d then (s.setFld DEC_S_ERR_REC_FULL 1 h, 0)
        else
          let tail := s.fld DEC_S_REC_TAIL_TAIL h
          let ph := s.fld DEC_S_REC_TAIL_PHASE h
          let s1 := s.store (recSpace x.words) (recAddr x.words + tail * 32) (outRecord ws ph)
          let s2 := s1.setFld DEC_S_REC_TAIL_TAIL ((tail + 1) % n) h
          let s3 := if tail + 1 = n then s2.setFld DEC_S_REC_TAIL_PHASE (1 - ph) h else s2
          let still := rest.any fun e => e.1 == d
          let marks := s3.regN .FB_DESC_MARKS d
          let kept := marks &&& (0xFF ^^^ (if still then 0 else mkHeld))
          let s4 := (s3.putN .FB_DESC_MARKS (kept + 256 * (marks / 256 % 16 + 1)) d).touch 6 d
          let (t, k) := (s4.onStream h fun y => { y with held := rest, due := y.due - 1 }).output h fuel
          (t, k + 1)

/-- Every picture of a stream that is due is output as far as records and buffers allow. -/
def State.outputDue (s : State) (h : Nat) : State × Nat :=
  let (t, n) := s.output h 64
  (t.showPool h, n)

/-- The record of a woven pair whose second field never came (R181): the synthesised field's `n` blocks count as concealed. -/
def synthWords (ws : List Nat) (n : Nat) : List Nat :=
  let fl := (word ws 2 / 65536 &&& 0xFFE7) ||| 0x61
  [word ws 0, word ws 1, word ws 2 % 65536 + fl * 65536, word ws 3, word ws 4 % 65536 + word ws 4 / 65536 * 2 % 65536 * 65536,
   word ws 5 % 65536 + word ws 5 / 65536 * 2 % 65536 * 65536, word ws 6 + n]

/-- The pair of a first field closes without its second one (R181): with WEAVE its missing field is synthesised. -/
def State.closePair (s : State) (h : Nat) : State :=
  let x := s.stream h
  match x.openField with
  | none => s
  | some (d, n) =>
    let s1 := s.onStream h fun y =>
      { y with openField := none, held := if weaves x then y.held.map fun e => if e.1 = d then (d, synthWords e.2 n) else e else y.held }
    if weaves x ∧ x.held.any (fun e => e.1 == d) then s1.bump .DEC_S_CONC_CNT n h else s1

/-- A DEC_FLUSH acts once the pictures before it have completed (R180). -/
def State.settleFlush (s : State) (h : Nat) : State :=
  let x := s.stream h
  match x.flush with
  | none => s
  | some (c, n) =>
    if s.codec.dec.any fun q => q.stream == h && decide (q.tick ≤ n) then s
    else
      let s1 := (s.closePair h).onStream h fun y =>
        { y with flush := none, due := y.held.length, refs := []
                 held := y.held.map fun (d, ws) => (d, ws.set 2 (word ws 2 ||| 2 ^ 25)) }
      let s2 := x.refs.foldl (fun t d => t.mark d 0 mkRefAll) s1
      let (s3, k) := s2.outputDue h
      (s3.touch 4 h).answer c 0 0 k

/-- DEC_FLUSH (R180). -/
def opDecFlush (c : Cmd) (s : State) : Res :=
  withStream c (some true) s fun _ =>
    let n := (s.boundTicks c.handle).foldl max 0
    Res.later ((s.onStream c.handle fun y => { y with flush := some (c, n) }).settleFlush c.handle)

/-- DEC_FLUSH. -/
def execDecFlush (c : Cmd) (s : State) : Out := runCommand c opDecFlush s

/-- DEC_S_REC_HEAD_WRITE (R178, R184, R185): the owner returns records; pictures that waited for one are output. -/
def execDecSRecHeadWrite (a : Agent) (stream : Nat) (v : Word) (s : State) : Out :=
  finish <| s.byAgent a .DEC_S_REC_HEAD stream fun f s =>
    let x := s.stream stream
    if x.st = .free ∨ !x.dec ∨ x.words.isEmpty ∨ f ≠ x.func ∨ recCount x.words ≤ v.toNat % 4096 then s
    else ((s.setFld DEC_S_REC_HEAD_HEAD (v.toNat % 4096) stream).outputDue stream).1

/-- DEC_S_OUT_REL_WRITE (R178, R207): one OUT count of a buffer of the stream is given back. -/
def execDecSOutRelWrite (a : Agent) (stream : Nat) (v : Word) (s : State) : Out :=
  finish <| s.byAgent a .DEC_S_OUT_REL stream fun f s =>
    let x := s.stream stream
    if x.st = .free ∨ !x.dec ∨ f ≠ x.func then s
    else
      let d := v.toNat % 8192
      let s1 := s.putN .DEC_S_OUT_REL d stream
      if s.flag FB_DESC_OWN_POOL d ∧ s.fld FB_DESC_OWN_STREAM d = stream ∧ 0 < s.fld FB_DESC_MARKS_OUT_CNT d then
        ((s1.setFld FB_DESC_MARKS_OUT_CNT (s.fld FB_DESC_MARKS_OUT_CNT d - 1) d |>.touch 6 d).outputDue stream).1
      else s1.setFld DEC_S_ERR_REL_ERR 1 stream

/-! ### The launch -/

/-- The buffer a decode picture takes (R177): a free one, else the oldest reference that is neither HELD nor OUT, else none. -/
def State.decBuffer (s : State) (h : Nat) : Option Nat × State :=
  let x := s.stream h
  match x.res.pool.find? s.descFree with
  | some d => (some d, s)
  | none =>
    match x.refs.find? fun d => s.regN .FB_DESC_MARKS d &&& 0xF44 == 0 with
    | some d =>
      (some d, ((s.mark d 0 mkRefAll).onStream h fun y => { y with refs := y.refs.erase d }).setFld DEC_S_ERR_EVICT 1 h)
    | none => (none, s.setFld DEC_S_ERR_NOBUF 1 h)

/-- The launched picture of a stream takes its buffer (R177, R181): the second field of an open pair that of the first. Its references are
those of this instant (R176). -/
def State.placeDec (s : State) (h : Nat) (second : Bool) : State :=
  let x := s.stream h
  let pair := second && x.openField.any fun e => x.res.pool.contains e.1
  let (buf, s1) := if pair then (x.openField.map Prod.fst, s) else s.decBuffer h
  let s2 := s1.onDec h fun q => { q with
    unplaced := false, second := pair, buf := buf, known := s1.knownOrders (s1.stream h)
    flags := q.flags ||| buf.isNone.toNat * 16, noOutput := q.noOutput || buf.isNone }
  match buf with | some d => (s2.mark d mkCur 0).showPool h | none => s2.showPool h

/-- A picture that has yet to take its buffer takes one that is no second field's. -/
def State.placeLate (s : State) (h : Nat) : State := if (s.decOf h).any DecPic.unplaced then s.placeDec h false else s

/-! ### Blocks -/

/-- Blocks `lo` up to `lo + n` of a pipe's share, by raster index. -/
def DecPic.blocksOf (q : DecPic) (pipe lo n : Nat) : List Nat := (((storeFind q.order pipe).getD []).drop lo).take n

/-- The method of a concealed block (R175): temporal in an inter picture with a usable reference unless its fetch fails, else spatial where
a block lies above it or to its left, else grey. -/
def DecPic.method (q : DecPic) (unfetched : List Nat) (b : Nat) : Nat :=
  if q.inter && !q.known.isEmpty && !unfetched.contains b then 1
  else if b % max 1 q.mapW != 0 || decide (max 1 q.mapW ≤ b) then 2 else 3

/-- The next `n` blocks of a pipe are concealed for a reason, each by its method (R173, R175). -/
def DecPic.conceal (q : DecPic) (pipe reason n : Nat) (meth : Nat → Nat) : DecPic :=
  match q.pipes.find? fun w => w.pipe == pipe with
  | none => q
  | some w =>
    let bs := q.blocksOf pipe w.started n
    let map := bs.foldl (fun m b => storeInsert m b (meth b + reason % 16 * 16)) q.map
    { q.onPipe pipe (fun w => { w with started := w.started + bs.length }) with
      map := map, conc := q.conc + bs.length, done := q.done + bs.length }

/-- The registers that concealed blocks leave (R184, R185). -/
def State.concealed (s : State) (h pipe n : Nat) : State :=
  if n = 0 then s
  else (((s.bump .DEC_DP_CONC_CNT n (pipe - 16)).bump .DEC_S_CONC_CNT n h).event DEC_DP_EVT_CONCEAL (pipe - 16))

/-- A pipe works for `n` cycles of its clock, after it has waited until now (R161, R179). -/
def State.works (s : State) (w : PipeWork) (n : Nat) : PipeWork :=
  { w with due := max w.due (5 * s.tb.run) + s.cycle w.pipe * n, cycles := w.cycles + ceilDiv (5 * s.tb.run - w.due) (s.cycle w.pipe) + n }

/-- The next `n` blocks of a pipe are concealed, each in its time (R161). -/
def State.concealRun (s : State) (q : DecPic) (pipe reason n : Nat) (meth : Nat → Nat) : State :=
  let x := s.stream q.stream
  match q.pipes.find? fun w => w.pipe == pipe with
  | none => s
  | some w =>
    let k := min n (w.units - w.started)
    let s1 := s.onDec q.stream fun q => (q.conceal pipe reason k meth).onPipe pipe fun w => s.works w (k * blockCycles x.codec q.chroma true)
    let s2 := match (q.blocksOf pipe w.started k).getLast? with
      | some b => s1.putN .DEC_DP_POS (b % 2 ^ 18) (pipe - 16)
      | none => s1
    s2.concealed q.stream pipe k

/-- A block with `m` blocks behind it on its pipe, started now, could miss the deadline (R170, R236), in fifths of a ns at the slowed
clock. -/
def State.blockLate (s : State) (x : Stream) (q : DecPic) (m : Nat) : Bool :=
  let tb := blockCycles x.codec q.chroma false
  let tc := blockCycles x.codec q.chroma true
  decide (5 * q.dueRun < 5 * s.tb.run + 8 * (3 * tb + m * tc) + 5 * s.seamXfer x.words)

/-- A pipe's time check fails (R170): its next block and every later one are concealed, reason 5. -/
def State.timeOut (s : State) (q : DecPic) (pipe : Nat) (unfetched : List Nat) : State :=
  let s1 := s.onDec q.stream fun q => { q with flags := q.flags ||| 32 }
  (s1.concealRun q pipe 5 (2 ^ 20) (q.method unfetched)).event DEC_DP_EVT_TIME (pipe - 16)

/-- The parts of a picture are assigned in turn to its first P′ pipes (R162). -/
def assignParts (pipes : List PipeWork) (parts : List (List Nat)) : Store (List Nat) :=
  let p := min pipes.length parts.length
  pipes.zipIdx.filterMap fun (w, i) =>
    if i < p then some (w.pipe, (parts.zipIdx.filter fun e => e.2 % p == i).flatMap Prod.fst) else none

/-- What each part that waits for the part before it waits for (R162): its first block, and the block reconstructed before it. -/
def partGates : List DecPart → List (Nat × Nat)
  | a :: b :: rest =>
    (match b.blocks.head?, (a.blocks.take b.after).getLast? with | some k, some r => [(k, r)] | _, _ => []) ++ partGates (b :: rest)
  | _ => []

/-- The picture's header is known, and with it its blocks and each pipe's share. -/
def DecPic.withHeader (q : DecPic) (p : DecHeader) : DecPic :=
  let order := assignParts q.pipes (p.parts.map DecPart.blocks)
  { q with parsed := true, blocks := p.blocks, mapW := p.mapW, chroma := p.chroma, inter := p.inter, order := order, gates := partGates p.parts
           pipes := q.pipes.map fun w => { w with units := ((storeFind order w.pipe).getD []).length, cols := max 1 p.mapW } }

/-- A picture of a given size that no header describes: one part of all its blocks. -/
def wholeHeader (q : DecPic) (n w : Nat) : DecHeader := { blocks := n, mapW := w, chroma := q.chroma, parts := [{ blocks := List.range n }] }

/-- The header of a picture of the largest size, while none is parsed (R170, R172). -/
def DecPic.withLargest (q : DecPic) (ws : List Nat) : DecPic :=
  if q.parsed then q else q.withHeader (wholeHeader q (maxBlocks ws) (maxMapW ws))

/-- A picture is lost as a whole (R171): with REPEAT_ON_LOSS every block is concealed from the nearest reference, reason 9. -/
def State.loseWhole (s : State) (q : DecPic) : State :=
  let x := s.stream q.stream
  let s1 := s.onDec q.stream fun q => { q with lost := true, parsed := true, flags := q.flags ||| 8 }
  if (word x.words 4).testBit 18 ∧ !q.noOutput then
    let s2 := s1.placeLate q.stream
    match s2.decOf q.stream with
    | none => s2
    | some p =>
      if p.noOutput then s2
      else
        let ref := x.refs.reverse.find? s.usable
        let dim := match ref with | some d => s.regN .FB_DESC_DIM d | none => word x.words 0
        let w := ceilDiv (dim % 65536) 16
        let n := w * ceilDiv (dim / 65536) 16
        let p1 := p.withHeader (wholeHeader p n w)
        (s2.onDec q.stream fun _ => p1).concealRun p1 ((p.pipes.map PipeWork.pipe).headD 16) 9 n fun _ => if p.known.isEmpty then 3 else 1
  else s1

/-- A decode picture launches (R35, R162, R167, R171, R177): it takes the oldest access unit of its ingest flow where it asks for one,
and a buffer; without either it holds no block to reconstruct. While a first field is open the header decides on the buffer (R181). -/
def State.launchDec (s : State) (h n : Nat) (q : DecPic) (pipes : List Nat) : State :=
  let x := s.stream h
  let ingest := (word q.words 2).testBit 0
  let flow := (flowOf true x.words).getD 0
  let au := if ingest then (s.flow flow).aus.head? else some (q.staged, q.bytes)
  let s0 := if ingest then s.setFlow flow { s.flow flow with aus := (s.flow flow).aus.drop 1 } else s
  let dead := pipes.filter s.pipeDead
  let q1 : DecPic := { q with
    launched := true, delayed := none, unplaced := true, launchRun := s.tb.run, dueRun := s.tb.run + (x.d - x.l)
    staged := (au.map Prod.fst).getD [], bytes := (au.map Prod.snd).getD 0, lost := au.isNone, chroma := cfg x.words 1 0 2
    flags := if au.isNone then 8 else 0, noOutput := !dead.isEmpty, failed := dead.head?
    pipes := pipes.map fun p =>
      { pipe := p, units := 0, due := 5 * s.tb.run + s.cycle p * s.switchCost p h, stopped := dead.contains p, cycles := s.switchCost p h } }
  let others := s0.codec.dec.filter fun p => !(p.stream == h && p.tick == n)
  let x1 := { s0.stream h with st := if x.st = .configured then .running else x.st, launched := true }
  let s2 := ({ s0 with codec := { s0.codec with dec := others ++ [q1] } }).setStream h x1
  let s3 := pipes.foldl (fun t p => t.pipeOn p h n) s2
  let s4 := if x.openField.isSome && au.isSome then s3 else s3.placeDec h false
  let s5 := dead.foldl (fun t p => t.record 9 p) s4
  let s6 := if isRing x.words then s5.onRs (rsid x.words) fun r => (r.seamFor n).launchRs false else s5
  let s7 := match au.isNone, s6.decOf h with | true, some q => s6.loseWhole q | _, _ => s6
  (s7.showPool h).touch 4 h

/-- The check of a parameter set (R164, R168, R182). -/
def paramSetValid (p : ParamSet) (x : Stream) : Bool :=
  let size := if isRing x.words then word x.words 43 else word x.words 0
  p.inRange && decide (p.zeros ≤ 31) && decide (p.bytes ≤ 4096) && p.profile && decide (p.chroma ≤ cfg x.words 1 0 2)
    && !(x.codec == 3 && p.chroma == 2) && decide (p.depth ≤ cfg x.words 1 2 2) && decide (p.width ≤ size % 65536)
    && decide (p.height ≤ size / 65536) && decide (p.buffers ≤ cfg x.words 5 0 6 - 1)

/-- A parameter set is received (R168). -/
def State.paramSet (s : State) (h : Nat) (p : ParamSet) : State :=
  if paramSetValid p (s.stream h) then s.onStream h fun y => { y with sets := if y.sets.contains p.id then y.sets else y.sets ++ [p.id] }
  else (s.setFld DEC_S_ERR_PS_DROP 1 h).bump .DEC_S_PS_CNT 1 h

/-- A block is reconstructed: some pipe has started it, and its time is over unless that pipe has started another since. -/
def State.hasBlock (s : State) (q : DecPic) (b : Nat) : Bool :=
  q.pipes.any fun w => (q.blocksOf w.pipe 0 (if w.due ≤ 5 * s.tb.run then w.started else w.started - 1)).contains b

/-- A block is the first of a part that waits for the row above (R162). -/
def State.rowPending (s : State) (q : DecPic) (b : Nat) : Bool := q.gates.any fun e => e.1 == b && !s.hasBlock q e.2

/-- The next block of a pipe is reconstructed normally (R161, R170, R173, R176, R182, R235): against a substitute where it names a
reference that is missing. -/
def State.goodBlock (s : State) (q : DecPic) (w : PipeWork) (refs : List Nat) (needs : Nat) : State :=
  let x := s.stream q.stream
  let b := (q.blocksOf w.pipe w.started 1).headD 0
  let subst := refs.any fun r => !q.known.contains r
  let edge := isRing x.words && s.haloMissing x.words q.tick needs
  let byte := subst.toNat * 4 + edge.toNat * 8
  let s1 := s.onDec q.stream fun q =>
    { q.onPipe w.pipe (fun w => { s.works w (blockCycles x.codec q.chroma false) with started := w.started + 1 }) with
      map := if byte = 0 then q.map else storeInsert q.map b byte
      done := q.done + 1, subst := q.subst + subst.toNat, edge := q.edge + edge.toNat }
  let s2 := s1.putN .DEC_DP_POS (b % 2 ^ 18) (w.pipe - 16)
  if subst then s2.bump .DEC_S_SUBST_CNT 1 q.stream else s2

/-- The time check fails before the header is parsed (R170): the picture takes its buffer, and every block of the largest size is
concealed. -/
def State.timeOutWhole (s : State) (q : DecPic) (unfetched : List Nat) : State :=
  let s1 := s.placeLate q.stream
  match s1.decOf q.stream with
  | none => s1
  | some p =>
    if p.noOutput then s1
    else
      let p1 := p.withLargest (s.stream q.stream).words
      (s1.onDec q.stream fun _ => p1).timeOut p1 ((p.pipes.map PipeWork.pipe).headD 16) unfetched

/-- The header is parsed: a picture that has yet to take its buffer takes it, the second field of a pair that of the first (R169, R181). -/
def State.headerParsed (s : State) (h : Nat) (p : DecHeader) : State :=
  let s1 := if (s.decOf h).any DecPic.unplaced then s.placeDec h p.second else s
  s1.onDec h fun q => q.withHeader p

/-- A ring member's seam strips after a block of decoding (R236): the blocks of its first row are reconstructed, or all of them. -/
def State.seamBlocks (h : Nat) (s : State) : State :=
  match s.decOf h with
  | none => s
  | some q =>
    let top := q.parsed && (List.range q.mapW).all fun b => q.pipes.any fun w => (q.blocksOf w.pipe 0 w.started).contains b
    s.seamStep h q.tick (isRing (s.stream h).words && top)
      (q.parsed && q.pipes.all fun w => !w.stopped && decide (w.units ≤ w.started))

/-- DEC_BLOCK_START (R161, R168 to R176): what the front end hands the back end of a pipe next; `unfetched` names the blocks whose
temporal fetch fails where they are concealed. The time check comes before every wait and every block. -/
def execDecBlockStart (pipe : Nat) (r : BlockResult) (unfetched : List Nat) (s : State) : Out :=
  finish <|
    match s.decOn pipe with
    | none => s
    | some q =>
      let x := s.stream q.stream
      match q.pipes.find? fun w => w.pipe == pipe with
      | none => s
      | some w =>
        if w.stopped ∨ q.noOutput ∨ q.lost then s
        else State.seamBlocks q.stream <| match r with
        | .paramSet p => s.paramSet q.stream p
        | .header p => if q.parsed then s else s.headerParsed q.stream p
        | .noHeader => if q.parsed then s else s.loseWhole q
        | .good refs needs =>
          let s1 := s.reachRun (ceilDiv w.due 5)
          if !q.parsed then
            if s1.blockLate x q (maxBlocks x.words) then s1.timeOutWhole q unfetched else s
          else if w.units ≤ w.started then s
          else if s1.blockLate x q (w.units - w.started - 1) then s1.timeOut q pipe unfetched
          else if s.haloPending x.words q.tick needs ∨ s1.rowPending q ((q.blocksOf pipe w.started 1).headD 0) then s
          else s1.goodBlock q w refs needs
        | .damaged reason run =>
          if q.parsed then (s.reachRun (ceilDiv w.due 5)).concealRun q pipe reason run (q.method unfetched) else s
        | .binLimit run =>
          if !q.parsed then s
          else
            let s1 := (s.reachRun (ceilDiv w.due 5)).concealRun q pipe 4 run (q.method unfetched)
            (s1.bump .DEC_DP_BINLIM_CNT 1 (pipe - 16)).event DEC_DP_EVT_BINLIM (pipe - 16)
        | .overread run =>
          if !q.parsed then s
          else ((s.reachRun (ceilDiv w.due 5)).concealRun q pipe 2 run (q.method unfetched)).event DEC_DP_EVT_OVERREAD (pipe - 16)

/-! ### Completion -/

/-- Every block of the picture is reconstructed or concealed, or none is to be (R171, R177, R183, R236). -/
def State.decReady (s : State) (x : Stream) (q : DecPic) (skipped : Bool) : Bool :=
  skipped || q.noOutput || q.lost ||
    (q.parsed && (q.pipes.all fun w => w.stopped || decide (w.units ≤ w.started)) && s.seamsClosed x)

/-- The concealment map (R173), block by block. -/
def DecPic.mapBytes (q : DecPic) : List Byte := (List.range q.blocks).map fun b => BitVec.ofNat 8 ((storeFind q.map b).getD 0)

/-- The first concealed block and its reason, or 0x3_FFFF (R179). -/
def DecPic.firstConc (q : DecPic) : Nat :=
  match q.map.find? fun e => e.2 % 4 != 0 with
  | some (b, v) => b % 2 ^ 18 + v / 16 * 2 ^ 18
  | none => 0x3FFFF

/-- FLAGS of the statistics (R179). -/
def DecPic.statFlags (q : DecPic) (rasl : Bool) : Nat :=
  q.flags ||| (decide (q.conc ≠ 0)).toNat ||| (decide (q.subst ≠ 0)).toNat * 2 ||| (decide (q.edge ≠ 0)).toNat * 4 ||| rasl.toNat * 128

/-- The 64-byte statistics record (R179). -/
def decStatsRecord (q : DecPic) (d : DecDone) (cycles ofs : Nat) : List Byte :=
  leBytes 8 q.tick ++ leBytes 4 q.bytes ++ leBytes 2 (q.statFlags d.rasl) ++ leBytes 2 q.mapW ++ leBytes 4 q.blocks ++ leBytes 4 q.conc
    ++ leBytes 4 q.subst ++ leBytes 4 q.firstConc ++ leBytes 4 cycles ++ leBytes 4 ofs ++ leBytes 4 d.order ++ leBytes 4 q.edge ++ zeros 16

/-- Cycles from the launch to the completion on the slowest pipe, with the filtering after the last block (R162, R179). -/
def DecPic.cycles (q : DecPic) (x : Stream) (tail : Nat) : Nat :=
  (q.pipes.map PipeWork.cycles).foldl max 0 + min tail (2 * blockCycles x.codec q.chroma false)

/-- The words of a picture's output record (R179). -/
def outWords (q : DecPic) (d : DecDone) (buf : Nat) : List Nat :=
  let fl := (decide (q.conc ≠ 0)).toNat + (decide (q.subst ≠ 0)).toNat * 2 + (decide (q.edge ≠ 0)).toNat * 4 + d.field.toNat * 8
    + d.bottom.toNat * 16 + q.lost.toNat * 128 + d.key.toNat * 256
  [q.tick % 2 ^ 32, q.tick / 2 ^ 32, buf + fl * 65536, d.order, d.width % 65536 + d.height % 65536 * 65536,
   d.cropX % 65536 + d.cropY % 65536 * 65536, q.conc]

/-- An order identifier as the signed number it is (R176). -/
def orderInt (n : Nat) : Int := (BitVec.ofNat 32 n).toInt

/-- The record of a woven pair from those of its fields (R181): the second field's tick and geometry with the lines of both, the lower order
identifier, and what is concealed in either. -/
def wovenWords (a b : List Nat) : List Nat :=
  let fl := ((word a 2 / 65536 ||| word b 2 / 65536) &&& 0xFFE7) ||| 0x20
  [word b 0, word b 1, word b 2 % 65536 + fl * 65536, if orderInt (word a 3) ≤ orderInt (word b 3) then word a 3 else word b 3,
   word b 4 % 65536 + word b 4 / 65536 * 2 % 65536 * 65536, word b 5 % 65536 + word b 5 / 65536 * 2 % 65536 * 65536, word a 6 + word b 6]

/-- A decode picture leaves its pipes, and its staged buffers return to their pools (R166). -/
def State.decLeave (s : State) (q : DecPic) : State :=
  let s1 := q.pipes.foldl (fun t w => t.pipeOff w.pipe) s
  ({ s1 with codec := { s1.codec with dec := s1.codec.dec.filter fun p => !(p.launched && p.stream == q.stream) } }).bpFreeAll q.staged

/-- The HELD pictures once a picture is kept (R178, R181): it goes to its place in output order, a second field of a woven pair into the
record of the first, and references that are shown again follow. -/
def decHeld (x : Stream) (q : DecPic) (d : DecDone) (buf : Nat) : List (Nat × List Nat) :=
  let at_ := if (word x.words 4).testBit 17 then x.held.length else d.place
  let again := (d.again.filter fun r => x.refs.contains r).map fun r => (r, outWords q d r)
  let ws := outWords q d buf
  if q.second ∧ weaves x then
    if x.held.any fun e => e.1 == buf then x.held.map (fun e => if e.1 = buf then (buf, wovenWords e.2 ws) else e) ++ again
    else x.held.take at_ ++ (if d.shown then [(buf, wovenWords ws ws)] else []) ++ again ++ x.held.drop at_
  else x.held.take at_ ++ (if d.shown then [(buf, ws)] else []) ++ again ++ x.held.drop at_

/-- The picture is put out: into its buffer's marks, the references and the HELD pictures (R177, R178, R181, R205, R207). A key picture
removes every other reference. -/
def State.decKeep (s0 : State) (q : DecPic) (d : DecDone) (buf : Nat) : State :=
  let h := q.stream
  let s := if q.second then s0 else s0.closePair h
  let x := s.stream h
  let ref := d.isRef && !q.noRef && q.failed.isNone
  let gone := x.refs.filter fun r => r != buf && (d.key || d.removed.contains r)
  let s1 := gone.foldl (fun t r => t.mark r 0 mkRefAll) s
  let s2 := s1.mark buf ((if ref then mkRef + (if d.longTerm then mkLt else 0) else 0) + (if d.shown then mkHeld else 0)) mkCur
  let s3 := if d.picW = 0 then s2
    else (s2.putN .FB_DESC_DIM (d.picW % 65536 + d.picH * (if d.field then 2 else 1) % 65536 * 65536) buf).setFld FB_DESC_FMT_FORMAT d.format buf
  let first := s.regN .FB_DESC_ORDER buf
  let s4 := (s3.putN .FB_DESC_ORDER d.order buf).putN .FB_DESC_TICK (q.tick % 2 ^ 32) buf
  let s5 := d.again.foldl (fun t r => if x.refs.contains r then t.mark r mkHeld 0 else t) s4
  let held := decHeld x q d buf
  let pairs := x.pairOrder.filter fun e => e.1 != buf
  let due := if (word x.words 4).testBit 17 then held.length else min held.length (max x.due d.due)
  s5.onStream h fun y =>
    { y with refs := (y.refs.filter fun r => !gone.contains r && r != buf) ++ (if ref || (q.second && y.refs.contains buf) then [buf] else [])
             pairOrder := if q.second then pairs ++ [(buf, first)] else pairs
             openField := if d.field && !q.second then some (buf, q.blocks) else none
             held := held, due := due }

/-- A ring member's FINAL for a decoded band: no bits were spent (R241). -/
def State.decFinal (s : State) (q : DecPic) : State :=
  let id := rsid (s.stream q.stream).words
  let fl := (s.rs id).seamLate.toNat * 2 + (decide (q.edge ≠ 0)).toNat * 16
  s.sendAll 0x14 q.tick 20 [id, 0, fl, 0, 0, 0, 0]

/-- A decode picture completes (R171, R173, R174, R177 to R183). -/
def State.decComplete (s : State) (q : DecPic) (d : DecDone) : State :=
  let h := q.stream
  let x := s.stream h
  let cyc := q.cycles x d.tail
  let none_ := d.skipped || d.rasl || q.noOutput || (q.lost && !(word x.words 4).testBit 18)
  let s1 := s.decLeave q
  let s2 := match q.buf with
    | none => s1
    | some b => if none_ then s1.mark b 0 mkCur else s1.decKeep q d b
  let s3 := s2.onStream h fun y => { y with completed := y.completed + 1, lastTick := q.tick }
  let s4 := q.pipes.foldl (fun t w =>
    (t.putN .DEC_DP_CYC_LAST cyc (w.pipe - 16)).maxReg .DEC_DP_CYC_MAX cyc (w.pipe - 16)) s3
  let (s5, n) := s4.outputDue h
  let s6 := ((s5.sample 1 h s.cplOfs).sample 2 h cyc).sample 3 h q.conc
  let f := word q.words 2
  let s7 := if f.testBit 1 ∧ q.cmd.isSome then s6.store .host (dword q.words 6) (decStatsRecord q d cyc s.cplOfs) else s6
  let s8 := if f.testBit 2 ∧ q.cmd.isSome ∧ !none_ then s7.store .host (dword q.words 8) q.mapBytes else s7
  let ring := isRing x.words
  let s9 := if ring then s8.decFinal q else s8
  let late := ring && (s.rs (rsid x.words)).seamLate
  let (status, detail) := match q.failed with
    | some p => (0x30, p)
    | none =>
      if d.skipped ∨ d.rasl then (0, 0)
      else if q.conc ≠ 0 ∨ q.subst ≠ 0 ∨ q.lost ∨ q.noOutput then (2, 0)
      else if q.edge ≠ 0 ∨ late then (3, 0) else (0, 0)
  ((((s9.answerLater q.cmd status detail n).settleFlush h).settleConfig h).touch 4 h).settleClose h

/-- DEC_PICTURE_COMPLETE (R170 to R183). -/
def execDecPictureComplete (stream : Nat) (d : DecDone) (s : State) : Out :=
  finish <|
    match s.decOf stream with
    | none => s
    | some q =>
      let x := s.stream stream
      if s.decReady x q (d.skipped || d.rasl) then
        let last := (q.pipes.map PipeWork.due).foldl max 0
        let lead := (q.pipes.map PipeWork.pipe).headD 16
        let tail := s.cycle lead * min d.tail (2 * blockCycles x.codec q.chroma false)
        ((s.reachRun (if q.noOutput || d.skipped || d.rasl then 0 else min q.dueRun (ceilDiv (last + tail) 5))).decComplete q d).streamVotes
      else s

/-! ### Faults (R172, R183) -/

/-- Every block a pipe has left is concealed for want of the pipe or of its data, reason 8. -/
def State.failRest (s : State) (q : DecPic) (pipe : Nat) : State :=
  let s1 := s.onDec q.stream fun q =>
    { q with noRef := true, failed := some (match q.failed with | some p => min p pipe | none => pipe) }
  s1.concealRun q pipe 8 (2 ^ 20) (q.method [])

/-- A pipe stops (R183, R465): its fault is recorded, its status says so, and its spare is claimed. -/
def State.decStop (s : State) (pipe : Nat) : State :=
  let s1 := ((s.record 9 pipe).event DEC_DP_EVT_STOP (pipe - 16)).setFld DEC_DP_STS_STOPPED 1 (pipe - 16)
  if s1.flag SPR_CFG_AUTO_STOP then s1.claimSpare pipe 1 else s1

/-- The effect of a fault in a pipe, by the table of its rule; a pipe that carries no picture can only stop. -/
def State.decFault (s : State) (pipe : Nat) (f : DecFault) : State :=
  match s.decOn pipe with
  | none =>
    match f with
    | .frontStop | .backStop => if 16 ≤ pipe ∧ s.pipePresent pipe ∧ !s.flag DEC_DP_STS_STOPPED (pipe - 16) then s.decStop pipe else s
    | _ => s
  | some q =>
    match q.pipes.find? fun w => w.pipe == pipe with
    | none => s
    | some w =>
      let n := pipe - 16
      let stop := fun (t : State) => (t.onDec q.stream fun q => q.onPipe pipe fun w => { w with stopped := true }).decStop pipe
      if w.stopped then s
      else match f with
        | .stagedError run => s.concealRun q pipe 2 run (q.method [])
        | .refFetch => s.concealRun q pipe 8 1 (q.method (List.range q.blocks))
        | .guard a =>
          let s1 := (((s.bump .DEC_DP_GUARD_CNT 1 n).event DEC_DP_EVT_GUARD n).putN .DEC_DP_GUARD_ADDR a n).record 8 pipe
          let s2 := (s1.onDec q.stream fun q => { q with flags := q.flags ||| 64 }).failRest q pipe
          if s2.flag SPR_CFG_AUTO_STOP then s2.claimSpare pipe 1 else s2
        | .frontStop => stop (s.failRest q pipe)
        | .backStop =>
          stop (s.onDec q.stream fun q =>
            { q with noRef := true, noOutput := true, failed := some (match q.failed with | some p => min p pipe | none => pipe) })

/-- DEC_PIPE_FAULT (R172, R183, R465). -/
def execDecPipeFault (pipe : Nat) (f : DecFault) (s : State) : Out := finish (s.decFault pipe f)

/-! ### The deadline timer -/

/-- DEADLINE_BACKSTOP (R36, R130, R172): the deadline timer of a launched picture runs out while it still works. A decode picture's
blocks not yet reconstructed are written grey; an encode picture's units are floor units. The picture then completes. -/
def execDeadlineBackstop (stream : Nat) (s : State) : Out :=
  finish <|
    match s.decOf stream with
    | some q =>
      let s1 := (s.reachRun q.dueRun).record 10 stream
      if q.noOutput ∨ q.lost then s1
      else
        let s2 := s1.placeLate stream
        match s2.decOf stream with
        | none => s2
        | some p =>
          if p.noOutput then s2
          else
            let q0 := p.withLargest (s.stream stream).words
            q0.pipes.foldl (fun t w =>
              let k := w.units - w.started
              if w.stopped then t
              else (t.onDec stream fun q => q.conceal w.pipe 5 k fun _ => 3).concealed stream w.pipe k) (s2.onDec stream fun _ => q0)
    | none =>
      match s.encOf stream with
      | none => s
      | some q =>
        let x := s.stream stream
        let g := encGeo x.codec x.words
        ((s.reachRun q.dueRun).record 10 stream).onEnc stream fun _ =>
          { q.pipes.foldl (fun q w => q.floorAt g w.pipe w.handed) q with
            cause := q.cause ||| 2
            pipes := (q.pipes.foldl (fun q w => q.floorAt g w.pipe w.handed) q).pipes.map fun w =>
              if w.stopped then w else { w with started := w.units, handed := w.units } }

end Sys2Proof.Machine
end

