-- ==== Sys2Proof/Machine/Gates.lean ====
section
/-!
DEFINITION. Gate lists, two-bucket shapers, control shapers and policers (R289 to R303).
-/
namespace Sys2Proof.Machine

/-! ### Ports and links by number: 0 to 3 are P0 to P3, 4 and 5 are FL0 and FL1 (R289) -/

/-- A port or link is present (R7, R257). -/
def State.portPresent (s : State) (k : Nat) : Bool :=
  if k < 4 then s.lanePresent (if s.packageB then k else 4 * k)
  else decide (k < 6) && !s.packageB && s.lanePresent (4 + 8 * (k - 4))

/-- Its rate in Gbit/s as it runs (R224, R266). -/
def State.portRate (s : State) (k : Nat) : Nat :=
  if k < 4 then (match s.fld ETH_CFG_MODE k with | 1 => 10 | 2 => 25 | 3 => 25 | 4 => 100 | _ => 0) else s.linkRate (k - 4)

/-! ### Gate lists -/

/-- GATES and INTERVAL of an entry (R289). -/
def entryGates (e : Nat) : Nat := e % 256
@[inherit_doc entryGates] def entryNs (e : Nat) : Nat := e / 256 % 2 ^ 24

/-- The cycle of a free-running copy: CYCLE_NS, or the sum of the intervals (R290). -/
def GateCopy.period (c : GateCopy) : Nat := if c.cycle = 0 then (c.entries.map entryNs).sum else c.cycle

/-- The entry in force at an offset of the cycle, its number, and the offset at which it ends; the last one stays (R291). -/
def entryAt : List Nat → Nat → Nat → Nat → Nat × Nat × Option Nat
  | [], _, i, _ => (0xFF, i, none)
  | [e], _, i, _ => (entryGates e, i, none)
  | e :: es, o, i, from_ => if o < from_ + entryNs e then (entryGates e, i, some (from_ + entryNs e)) else entryAt es o (i + 1) (from_ + entryNs e)

/-- A gate list. -/
def State.list (s : State) (g : Nat) : GateList := (storeFind s.traffic.lists g).getD {}

/-- Set a gate list. -/
def State.setList (s : State) (g : Nat) (l : GateList) : State :=
  { s with traffic := { s.traffic with
      lists := if l = ({} : GateList) then storeDrop s.traffic.lists g else storeInsert s.traffic.lists g l } }

/-- The offset of an instant in the cycle of a copy, whose tick-locked cycle started at `start` (R291). -/
def GateCopy.offset (c : GateCopy) (start t : Nat) : Nat :=
  if c.lock then t - start else if c.period = 0 then 0 else (((t : Int) - (c.base : Int)) % (c.period : Int)).toNat

/-- The length of the running cycle of a copy: to the next tick for a tick-locked one, without end while no grid runs (R291, R294). -/
def State.cycleOf (s : State) (c : GateCopy) (start : Nat) : Nat :=
  if c.lock then (if s.flag TK_CTRL_EN then s.nextTick - start else 2 ^ 62) else c.period

/-- Gate states of list `g` at device time (R289, R291). -/
def State.gatesNow (s : State) (g : Nat) : Nat × Nat :=
  match (s.list g).oper with
  | none => (0xFF, 0)
  | some c => let (b, i, _) := entryAt c.entries (c.offset (s.list g).start s.tb.ns) 0 0; (b, i)

/-- The next instant at which the entry in force of a copy ends: by its interval, or by the end of the cycle (R291). -/
def State.entryEnd (s : State) (c : GateCopy) (start : Nat) : Nat :=
  let o := c.offset start s.tb.ns
  let cyc := s.cycleOf c start
  let (_, _, e) := entryAt c.entries o 0 0
  s.tb.ns + (min (e.getD cyc) cyc - o)

/-- The first instant from `t`, at offset `o` of a cycle of length `cyc`, at which gate `tc` is closed; `next` is the length of later
cycles (R294). -/
def closeFrom (es : List Nat) (tc next : Nat) : Nat → Nat → Nat → Nat → Option Nat
  | 0, _, _, _ => none
  | fuel + 1, t, o, cyc =>
    let (b, _, e) := entryAt es o 0 0
    if !b.testBit tc then some t
    else
      let fin := min (e.getD cyc) cyc
      if cyc ≤ fin then closeFrom es tc next fuel (t + (fin - o)) 0 next else closeFrom es tc next fuel (t + (fin - o)) fin cyc

/-- The closing time of a class under a copy from instant `t` on (R294). -/
def State.closing (s : State) (c : GateCopy) (start t tc : Nat) : Option Nat :=
  if c.entries.all fun e => (entryGates e).testBit tc then none
  else
    let next := if c.lock then s.regN .TK_Q else c.period
    closeFrom c.entries tc (max 1 next) (2 * c.entries.length + 3) t (c.offset start t) (max 1 (s.cycleOf c start))

/-- The instant of a pending switch: a tick-locked copy's is the first tick that fires late enough (R292). -/
def State.switchAt (s : State) (l : GateList) : Option Nat :=
  match l.pending with
  | none => none
  | some w =>
    if !l.admin.lock then some w
    else if !s.flag TK_CTRL_EN then none
    else if w ≤ s.nextTick then some s.nextTick
    else some (s.nextTick + ceilDiv (w - s.nextTick) (max 1 (s.regN .TK_Q)) * s.regN .TK_Q)

/-- A frame of `bytes` bytes of class `tc` may start on port or link `g`: it ends by the closing time (R294). -/
def State.finishes (s : State) (g tc bytes : Nat) : Bool :=
  let l := s.list g
  let rate := s.portRate g
  let ok := fun (t : Option Nat) => match t with | none => true | some t => decide ((bytes + 20) * 8 ≤ (t - s.tb.ns) * rate)
  let c1 := match l.oper with | some c => s.closing c l.start s.tb.ns tc | none => none
  match s.switchAt l with
  | none => ok c1
  | some w =>
    match c1 with
    | some t => if t < w then ok c1 else
        ok (if l.admin.entries.isEmpty then none else s.closing l.admin w w tc)
    | none => ok (if l.admin.entries.isEmpty then none else s.closing l.admin w w tc)

/-- Lengths of the entries of a cycle of length `cyc`, the last one lasting to its end (R291, R295). -/
def spans (es : List Nat) (cyc : Nat) : Nat → List (Nat × Nat)
  | from_ => match es with
    | [] => []
    | [e] => [(entryGates e, cyc - from_)]
    | e :: rest => (entryGates e, min (from_ + entryNs e) cyc - min from_ cyc) :: spans rest cyc (from_ + entryNs e)

/-- The longest open run of a class in a copy (R295); none when it never closes. -/
def State.longestRun (s : State) (c : GateCopy) (tc : Nat) : Option Nat :=
  let l := spans c.entries (if c.lock then s.regN .TK_Q else c.period) 0
  if l.all fun e => e.1.testBit tc then none
  else some ((l ++ l).foldl (fun (run, best) e => if e.1.testBit tc then (run + e.2, max best (run + e.2)) else (0, best)) (0, 0)).2

/-- A frame can fit no window of its class, in the oper copy or in a pending admin copy (R295). -/
def State.oversize (s : State) (g tc bytes : Nat) : Bool :=
  let l := s.list g
  let tooMany := fun (c : Option GateCopy) => match c with
    | none => false
    | some c => match s.longestRun c tc with | none => false | some r => decide (r * s.portRate g < (bytes + 20) * 8)
  tooMany l.oper && (l.pending.isNone || tooMany (if l.admin.entries.isEmpty then none else some l.admin))

/-- Entries of a copy in its registers. -/
def State.showEntries (s : State) (r : Reg) (g : Nat) (es : List Nat) : State :=
  (List.range 256).foldl (fun t e => if t.regN r (g * 256 + e) = word es e then t else t.putN r (word es e) (g * 256 + e)) s

/-- Keep the registers of a list true (R304, R305). -/
def State.showList (s : State) (g : Nat) : State :=
  let l := s.list g
  let (b, i) := s.gatesNow g
  let c := l.oper.getD {}
  let w := (s.switchAt l).getD 0
  let s1 := s.putN .GT_STS (l.oper.isSome.toNat + c.lock.toNat * 2 + l.pending.isSome.toNat * 4 + i * 256 + b * 65536) g
  let s2 := (s1.putN .GT_COUNT (c.entries.length + l.admin.entries.length * 65536) g).putN .GT_CYCLE (if c.lock then 0 else c.period) g
  (((s2.putN .GT_BASE_SEC (c.base / 1000000000) g).putN .GT_BASE_NS (c.base % 1000000000) g).putN .GT_SWITCH_SEC (w / 1000000000) g).putN
    .GT_SWITCH_NS (w % 1000000000) g

/-- Every list's registers follow time (R293). -/
def State.showGates (s : State) : State := (List.range 6).foldl State.showList s

/-- A copy becomes the admin copy and its switch is scheduled from device time (R292). -/
def State.gateSchedule (s : State) (g : Nat) (c : GateCopy) : State :=
  let e := s.tb.ns + 2000
  let passed := !c.lock && decide (c.base < e)
  let w := if c.lock then e else if e ≤ c.base then c.base else if c.period = 0 then e else c.base + ceilDiv (e - c.base) c.period * c.period
  let s1 := (s.setList g { s.list g with admin := c, pending := some w, passed := passed }).showEntries .GT_ADMIN g c.entries
  ((s1.eventIf passed GT_EVT_BASE_PASSED g).showList g).touch 9 g

/-- The switch (R292): the admin copy becomes the oper copy, and a load that waited for the switch is staged and answered. -/
def State.gateSwitch (s : State) (g : Nat) : State :=
  let l := s.list g
  let oper := if l.admin.entries.isEmpty then none else some l.admin
  let s1 := (s.setList g { l with oper := oper, pending := none, start := s.tb.ns, after := none }).showEntries .GT_OPER g l.admin.entries
  let s2 := ((s1.event GT_EVT_SWITCH g).showList g).touch 9 g
  match l.after with
  | some (c, cmd) => (s2.gateSchedule g c).answer cmd 0 0 0
  | none => s2

/-- Position 5 of a tick (R291, R292): tick-locked switches that are due, and the start of every tick-locked cycle. -/
def State.gateTick (s : State) : State :=
  (List.range 6).foldl (fun t g =>
    let l := t.list g
    let due := match l.pending with | some w => l.admin.lock && decide (w ≤ t.tb.ns) | none => false
    if due then t.gateSwitch g
    else match l.oper with
      | some c => if c.lock then (t.setList g { l with start := t.tb.ns }).showList g else t
      | none => t) s

/-- HW_SUM over the device's open ring streams (R297); none while it holds none. -/
def State.windowSum (s : State) : Option Nat :=
  let rs := s.streams.filter fun (_, x) => x.st != .free && isRing x.newest
  let (r, d) := s.worstLink
  if rs.isEmpty then none else some ((rs.map fun (_, x) => linkTime (rowBytes x.newest (haloRows x.newest)) r d).sum)

/-- A list of a Fulet link keeps the Teasel window (R297). -/
def State.windowKept (s : State) (c : GateCopy) : Bool :=
  match s.windowSum with
  | none => true
  | some hw =>
    let at_ := (c.entries.zipIdx.map fun (e, i) => (((c.entries.take i).map entryNs).sum, e))
    c.lock && !c.entries.isEmpty && (c.entries.all fun e => entryGates e &&& 0xC0 == 0xC0)
      && at_.all fun (o, e) => decide (hw ≤ o) || entryGates e == 0xC0

/-- The checks of a gate list in rising order of detail (R290, R297). -/
def State.gateChecks (s : State) (g : Nat) (c : GateCopy) (count baseNs : Nat) (read : Bool) : List (Bool × Nat) :=
  [(decide (count ≤ 256) && c.entries.all (fun e => decide (64 ≤ entryNs e)), 1),
   (c.lock || (c.cycle == 0 || decide (1000 ≤ c.cycle) && decide (c.cycle ≤ 4000000000)) && decide (baseNs < 1000000000), 2),
   (!c.lock || s.flag TK_CTRL_EN, 3), (read || count == 0, 4), (decide (g < 4) || s.windowKept c, 5)]

/-- A copy is staged, unless a pending switch falls within 2 µs, which then comes first (R292). -/
def State.gateStage (s : State) (g : Nat) (c : GateCopy) (cmd : Cmd) : Res :=
  let l := s.list g
  let soon := match s.switchAt l with | some w => decide (w ≤ s.tb.ns + 2000) | none => false
  if soon then Res.later (s.setList g { l with after := some (c, cmd) }) else Res.ok (s.gateSchedule g c)

/-- GATE_LIST_LOAD (R7, R290, R292). -/
def opGateListLoad (c : Cmd) (s : State) : Res :=
  if !s.portPresent c.handle then Res.bad s 0x00F006
  else
    let count := c.p 2 % 512
    let copy : GateCopy := { lock := natField (c.p 2) 16 1 == 1, cycle := c.p 3,
                             base := c.p64 4 % 2 ^ 48 * 1000000000 + c.p 6 % 2 ^ 30, entries := wordsOf (min count 256) (c.data.getD []) }
    let copy1 := if count = 0 then { copy with entries := [] } else copy
    match firstBad (s.gateChecks c.handle copy1 count (c.p 6 % 2 ^ 30) c.data.isSome ++ [(natField (c.p 2) 17 15 == 0, 0x800002)]) with
    | some d => Res.bad s d
    | none => s.gateStage c.handle copy1 c

/-- GATE_LIST_LOAD. -/
def execGateListLoad (c : Cmd) (s : State) : Out := runCommand c opGateListLoad s

/-- GATE_LIST_SWITCH (R292): a free-running list's switch instant is reached; a tick-locked one switches at position 5 of its tick. -/
def execGateListSwitch (g : Nat) (s : State) : Out :=
  finish <|
    let l := s.list g
    match l.pending with
    | none => s
    | some w => if l.admin.lock then s else (s.reach w).gateSwitch g

/-- GATE_ENTRY_CHANGE (R291): the interval of the entry in force ends. -/
def execGateEntryChange (g : Nat) (s : State) : Out :=
  finish <|
    let l := s.list g
    match l.oper with
    | none => s
    | some c =>
      let t := s.entryEnd c l.start
      if c.lock ∧ s.flag TK_CTRL_EN ∧ s.nextTick ≤ t then s else (s.reach t).showList g

/-! ### Shapers -/

/-- What a bucket gains in 16 ns at a rate in kbit/s, in units of 2^-32 byte (R299). -/
def bucketGain (rate : Nat) : Nat := rate * 2 ^ 33 / 1000000

/-- Quanta of 16 ns that have passed since an instant of `run`. -/
def State.quanta (s : State) (last : Nat) : Nat := s.tb.run / 16 - last / 16

/-- A bucket of `size` bytes after some quanta (R299). -/
def refill (rate size : Nat) (q : Nat) (c : Int) : Int := min ((size * 2 ^ 32 : Nat) : Int) (c + (bucketGain rate * q : Nat))

/-- Two buckets of the registers given, now. -/
def State.bucketsNow (s : State) (st : Store Buckets) (i cir cbs pir pbs : Nat) : Buckets :=
  match storeFind st i with
  | none => { c := (cbs * 2 ^ 32 : Nat), p := (pbs * 2 ^ 32 : Nat), last := s.tb.run }
  | some b => { c := refill cir cbs (s.quanta b.last) b.c, p := refill pir pbs (s.quanta b.last) b.p, last := s.tb.run }

/-- The shaper of queue `q`, now. -/
def State.shaper (s : State) (q : Nat) : Buckets :=
  s.bucketsNow s.traffic.shapers q (s.regN .SH_CIR q) (s.regN .SH_CBS q) (s.regN .SH_PIR q) (s.regN .SH_PBS q)

/-- Set a shaper and its credit registers. -/
def State.setShaper (s : State) (q : Nat) (b : Buckets) : State :=
  let s1 := { s with traffic := { s.traffic with shapers := storeInsert s.traffic.shapers q b } }
  (s1.putN .SH_C_CREDIT (unsigned 32 (b.c / (2 ^ 32 : Nat))) q).putN .SH_P_CREDIT (unsigned 32 (b.p / (2 ^ 32 : Nat))) q

/-- A shaper admits a charge of `n` bytes (R299). -/
def State.shaperAdmits (s : State) (q n : Nat) : Bool :=
  let b := s.shaper q
  let ok := fun (size : Nat) (c : Int) => decide (((min n size) * 2 ^ 32 : Nat) ≤ c)
  s.regN .SH_CIR q == 0 || (ok (s.regN .SH_CBS q) b.c && (s.regN .SH_PIR q == 0 || ok (s.regN .SH_PBS q) b.p))

/-- A frame of queue `q` on port `k` starts and is charged (R299). -/
def State.shaperCharge (s : State) (q k n : Nat) : State :=
  if s.regN .SH_CIR q = 0 then s
  else
    let b := s.shaper q
    let peak := s.regN .SH_PIR q != 0
    let big := decide (s.regN .SH_CBS q < n) || (peak && decide (s.regN .SH_PBS q < n))
    (s.setShaper q { b with c := b.c - (n * 2 ^ 32 : Nat), p := if peak then b.p - (n * 2 ^ 32 : Nat) else b.p }).eventIf big SH_EVT_OVER k

/-- A bucket after a new configuration (R298): one that becomes active starts full, any other is clamped. -/
def newBucket (wasOn : Bool) (size : Nat) (c : Int) : Int := if wasOn then min ((size * 2 ^ 32 : Nat) : Int) c else (size * 2 ^ 32 : Nat)

/-- SHAPER_SET (R298). -/
def opShaperSet (c : Cmd) (s : State) : Res :=
  let q := c.handle
  let cir := c.p 0
  let pir := c.p 1
  match firstBad [(decide (cir ≤ 100000000) && decide (pir ≤ 100000000) && (pir == 0 || decide (cir ≤ pir)), 1),
                  ((cir == 0 || decide (64 ≤ c.p 2)) && (pir == 0 || decide (64 ≤ c.p 3)), 2), (c.p 4 / 64 == 0, 0x800004)] with
  | some d => Res.bad s d
  | none =>
    let b := s.shaper q
    let onC := s.regN .SH_CIR q != 0
    let b1 : Buckets := { c := newBucket onC (c.p 2) b.c, p := newBucket (onC && s.regN .SH_PIR q != 0) (c.p 3) b.p, last := s.tb.run }
    let s1 := (((s.putN .SH_CIR cir q).putN .SH_PIR pir q).putN .SH_CBS (c.p 2) q).putN .SH_PBS (c.p 3) q
    Res.ok (((s1.setFld SH_CFG_OVERHEAD (orElse 20 (c.p 4 % 64)) q).setShaper q b1).touch 10 q)

/-- SHAPER_SET. -/
def execShaperSet (c : Cmd) (s : State) : Out := runCommand c opShaperSet s

/-! ### Control shapers -/

/-- BURST of a control shaper (R304). -/
def State.ctlBurst (s : State) (k : Nat) : Nat := max 1 (s.fld ⟨.SH_CTL_BURST, 0, 16⟩ k)

/-- Credit of a control shaper now (R300); one that is not listed is full. -/
def State.control (s : State) (k : Nat) : CtlShaper :=
  let full := s.ctlBurst k * 2 ^ 32
  match storeFind s.traffic.controls k with
  | none => { c := full, last := s.tb.run }
  | some b => { b with c := min full (b.c + s.quanta b.last * (s.regN .SH_CTL_RATE k * 2 ^ 36 / 1000000000)), last := s.tb.run }

/-- Set a control shaper and its credit register. -/
def State.setControl (s : State) (k : Nat) (b : CtlShaper) : State :=
  ({ s with traffic := { s.traffic with controls := storeInsert s.traffic.controls k b } }).putN .SH_CTL_CREDIT (b.c / 2 ^ 32) k

/-- A control shaper admits the head (R300). -/
def State.controlAdmits (s : State) (k : Nat) : Bool := s.regN .SH_CTL_RATE k == 0 || decide (2 ^ 32 ≤ (s.control k).c)

/-- The head of a control queue starts (R300): one packet is charged, and an admission that waited is counted. -/
def State.controlCharge (s : State) (k : Nat) : State :=
  if s.regN .SH_CTL_RATE k = 0 then s
  else
    let b := s.control k
    let s1 := s.setControl k { b with c := b.c - 2 ^ 32, waited := false }
    if b.waited then (s1.bump .SH_CTL_HOLD_CNT 1 k).event SH_EVT_CTL_HOLD k else s1

/-! ### Policers -/

/-- POLICER_SET (R301). -/
def opPolicerSet (c : Cmd) (s : State) : Res :=
  let i := c.handle
  let en := natField (c.p 4) 3 1
  match firstBad [(decide (c.p 0 ≤ 100000000) && decide (c.p 1 ≤ 100000000) && decide (c.p 0 ≤ c.p 1), 1),
                  (en == 0 || decide (64 ≤ c.p 2) && decide (64 ≤ c.p 3), 2), (c.p 4 / 16 == 0, 0x800004)] with
  | some d => Res.bad s d
  | none =>
    let was := s.flag PL_CFG_EN i
    let b := s.bucketsNow s.traffic.policers i (s.regN .PL_CIR i) (s.regN .PL_CBS i) (s.regN .PL_PIR i) (s.regN .PL_PBS i)
    let b1 : Buckets := { c := newBucket was (c.p 2) b.c, p := newBucket was (c.p 3) b.p, last := s.tb.run }
    let s1 := (((s.putN .PL_CIR (c.p 0) i).putN .PL_PIR (c.p 1) i).putN .PL_CBS (c.p 2) i).putN .PL_PBS (c.p 3) i
    let s2 := s1.setReg .PL_CFG (setBitField (s1.reg .PL_CFG i) 0 4 (c.p 4)) i
    let s3 := { s2 with traffic := { s2.traffic with policers := storeInsert s2.traffic.policers i b1 } }
    Res.ok (((s3.putN .PL_C_CREDIT (b1.c.toNat / 2 ^ 32) i).putN .PL_P_CREDIT (b1.p.toNat / 2 ^ 32) i).touch 11 i)

/-- POLICER_SET. -/
def execPolicerSet (c : Cmd) (s : State) : Out := runCommand c opPolicerSet s

/-- The mark a packet arrives with: 0 green, 1 yellow, 2 red (R302). -/
def preMark (mode dscp : Nat) (dei : Bool) : Nat :=
  if mode = 1 then (if [12, 20, 28, 36].contains dscp then 1 else if [14, 22, 30, 38].contains dscp then 2 else 0)
  else if mode = 2 then dei.toNat else 0

/-- The colour of a packet of `n` bytes under policer `i`, and the buckets after it (R302); a policer with EN = 0 colours green and
charges nothing. -/
def State.police (s : State) (i n dscp : Nat) (dei : Bool) : Nat × State :=
  if !s.flag PL_CFG_EN i then (0, s)
  else
    let b := s.bucketsNow s.traffic.policers i (s.regN .PL_CIR i) (s.regN .PL_CBS i) (s.regN .PL_PIR i) (s.regN .PL_PBS i)
    let m := preMark (s.fld PL_CFG_COLOUR i) dscp dei
    let l : Int := (n * 2 ^ 32 : Nat)
    let (col, b1) : Nat × Buckets :=
      if m = 2 ∨ b.p < l then (2, b)
      else if m = 1 ∨ b.c < l then (1, { b with p := b.p - l })
      else (0, { b with c := b.c - l, p := b.p - l })
    let s1 := { s with traffic := { s.traffic with policers := storeInsert s.traffic.policers i b1 } }
    (col, (s1.putN .PL_C_CREDIT (b1.c.toNat / 2 ^ 32) i).putN .PL_P_CREDIT (b1.p.toNat / 2 ^ 32) i)

/-- A packet of an ingest flow passes its policer (R301 to R303): whether it passes, and the counts. -/
def State.passPolicer (s : State) (h n dscp : Nat) (dei : Bool) (port : Nat) (compressed : Bool) : Bool × State :=
  let i := h - 2048
  let (col, s1) := s.police i n dscp dei
  match col with
  | 0 => (true, s1.bump .PL_GREEN_CNT 1 i)
  | 1 =>
    let s2 := s1.bump .PL_YELLOW_CNT 1 i
    if s.flag PL_CFG_DROP_YELLOW i ∨ (compressed ∧ s.flag BP_STS_OVER 1) then
      (false, (s2.bump .PL_YDROP_CNT 1 i).event SH_EVT_PL_YDROP port)
    else (true, s2)
  | _ => (false, (s1.bump .PL_RED_CNT 1 i).event SH_EVT_PL_RED port)

end Sys2Proof.Machine
end

