-- ==== Sys2Proof/Machine/Ptp.lean ====
section
/-!
DEFINITION. PTP entries and timestamps (R26, R268 to R270).
-/
namespace Sys2Proof.Machine

/-- The address of receive entry `e` of a port's ring, and of transmit entry `e` (R269). -/
def State.ptpRx (s : State) (k e : Nat) : Nat := s.regN .PTP_RING_BASE k + e * 256
@[inherit_doc State.ptpRx] def State.ptpTx (s : State) (k e : Nat) : Nat := s.regN .PTP_RING_BASE k + (64 + e) * 256

/-- Device time in units of 2^-16 ns, moved by an offset in 1/16 ns (R23, R268). -/
def State.stamp (s : State) (sixteenths : Int) : Nat :=
  (((s.tb.ns * 65536 + fracField s.tb.frac : Nat) : Int) + sixteenths * 4096).toNat

/-- The transmit timestamp of a frame that starts now on port `k`, and the receive timestamp of one that arrives now (R268). -/
def State.txStamp (s : State) (k : Nat) : Nat :=
  s.stamp ((s.regN .PTP_MODE_DLY k % 65536 : Nat) + signed 16 (s.regN .PTP_BRD_DLY k))
@[inherit_doc State.txStamp] def State.rxStamp (s : State) (k : Nat) : Nat :=
  s.stamp (-((s.regN .PTP_MODE_DLY k / 65536 : Nat) : Int) - signed 16 (s.regN .PTP_BRD_DLY k / 65536))

/-- Seconds, ns and fraction of a timestamp as bytes 8 to 21 of an entry (R269). -/
def stampBytes (t : Nat) : List Byte :=
  leBytes 8 (t / 65536 / 1000000000 % 2 ^ 48) ++ leBytes 4 (t / 65536 % 1000000000) ++ leBytes 2 (t % 65536)

/-- The bytes of a header: length, flags, timestamp (R269). -/
def ptpHeader (len flags t : Nat) : List Byte :=
  leBytes 2 len ++ [BitVec.ofNat 8 flags] ++ zeros 5 ++ stampBytes t ++ zeros 10

/-- Flags of a transmit entry: [0] TS_REQ, [1] ONE_STEP, [2] DONE, [3] ERR. -/
def State.ptpFlags (s : State) (k e : Nat) : Nat := leNat (s.load .device (s.ptpTx k e + 2) 1)

/-- The transmit ring's head moves past the entries that are done. -/
def State.ptpAdvance (s : State) (k : Nat) : Nat → State
  | 0 => s
  | fuel + 1 =>
    let h := s.fld PTP_TX_HEAD_HEAD k
    if h ≠ s.regN .PTP_TX_TAIL k % 16 ∧ (s.ptpFlags k h).testBit 2 then (s.setFld PTP_TX_HEAD_HEAD ((h + 1) % 16) k).ptpAdvance k fuel else s

/-- A transmit entry is completed (R269): DONE with its timestamp, or ERR; the ring's head moves past it. -/
def State.ptpDone (s : State) (k e : Nat) (t : Option Nat) : State :=
  let fl := s.ptpFlags k e &&& 3
  let s1 := match t with
    | some t => (s.store .device (s.ptpTx k e + 2) (leBytes 1 (fl + 4))).store .device (s.ptpTx k e + 8) (stampBytes t)
    | none => s.store .device (s.ptpTx k e + 2) (leBytes 1 (fl + 12))
  (s1.ptpAdvance k 16).event ETH_EVT_PTP_TX k

/-! ### One-step Sync (R270) -/

/-- `n` bytes of a number, most significant first. -/
def beBytes (n x : Nat) : List Byte := (leBytes n x).reverse
/-- The number that bytes, most significant first, spell. -/
def beNat (l : List Byte) : Nat := leNat l.reverse

/-- Bytes of a list replaced from an index on. -/
def patch (l : List Byte) (i : Nat) (bs : List Byte) : List Byte := l.take i ++ bs ++ l.drop (i + bs.length)

/-- Where the PTP message of a frame begins and where its UDP checksum lies, if it has one (by EtherType, with one optional VLAN
tag). -/
def ptpOffset (f : List Byte) : Nat × Option Nat × Bool :=
  let ty := fun i => beNat ((f.drop i).take 2)
  let l := if ty 12 = 0x8100 then 18 else 14
  if ty (l - 2) = 0x0800 then
    let ihl := ((f[l]?).getD 0).toNat % 16 * 4
    (l + ihl + 8, some (l + ihl + 6), false)
  else if ty (l - 2) = 0x86DD then (l + 48, some (l + 46), true)
  else (l, none, false)

/-- The sum of the 16-bit big-endian words of bytes. -/
def sum16 : List Byte → Nat
  | a :: b :: rest => a.toNat * 256 + b.toNat + sum16 rest
  | [a] => a.toNat * 256
  | [] => 0

/-- The UDP checksum over IPv6 of a frame whose UDP header begins at `u`: addresses, length, next header 17, and the datagram. -/
def udp6Checksum (f : List Byte) (u : Nat) : Nat :=
  let n := beNat ((f.drop (u + 4)).take 2)
  let x := sum16 ((f.drop (u - 32)).take 32) + n + 17 + sum16 ((f.drop u).take n)
  let fold1 := x % 65536 + x / 65536
  let fold2 := fold1 % 65536 + fold1 / 65536
  let c := 65535 - fold2 % 65536
  if c = 0 then 65535 else c

/-- A Sync as it is sent with one step: originTimestamp, correctionField, twoStepFlag and checksum (R270). -/
def oneStep (f : List Byte) (t : Nat) : List Byte :=
  let (o, ck, v6) := ptpOffset f
  let ns := t / 65536
  let f1 := patch f (o + 34) (beBytes 6 (ns / 1000000000) ++ beBytes 4 (ns % 1000000000))
  let corr := beNat ((f1.drop (o + 8)).take 8)
  let f2 := patch f1 (o + 8) (beBytes 8 ((corr + t % 65536) % 2 ^ 64))
  let flags := ((f2[o + 6]?).getD 0).toNat
  let f3 := patch f2 (o + 6) [BitVec.ofNat 8 (flags &&& 0xFD)]
  match ck with
  | none => f3
  | some c =>
    let f4 := patch f3 c [0, 0]
    if v6 then patch f4 c (beBytes 2 (udp6Checksum f4 (c - 6))) else f4

/-- A frame is a Sync: messageType 0 (R270). -/
def isSync (f : List Byte) : Bool := ((f[(ptpOffset f).1]?).getD 0).toNat % 16 == 0

/-- The bytes of transmit entry `e` as they leave port `k` at a timestamp (R269, R270). -/
def State.ptpFrame (s : State) (k e t : Nat) : List Byte :=
  let len := leNat (s.load .device (s.ptpTx k e) 2)
  let f := s.load .device (s.ptpTx k e + 32) (min len 224)
  if (s.ptpFlags k e).testBit 1 ∧ s.flag PTP_CFG_ONE_STEP k ∧ isSync f then oneStep f t else f

end Sys2Proof.Machine
end

