-- ==== Sys2Proof/Machine/Cells.lean ====
section
/-!
DEFINITION. The cell pool and its queues, the RTP packetiser, and the choice of the next frame on a port or link (R273, R274, R287,
R288, R293 to R296, R353 to R356).
-/
namespace Sys2Proof.Machine

/-! ### Cells and queues -/

/-- Cells of a frame (R353). -/
def Frame.cells (f : Frame) : Nat := ceilDiv f.bytes 256

/-- Frames of a queue, oldest first, and its frames in transmission. -/
def State.frames (s : State) (q : Nat) : List Frame := (storeFind s.net.queued q).getD []
@[inherit_doc State.frames] def State.flying (s : State) (q : Nat) : List Frame :=
  (s.net.sending.filter fun e => e.2.1.queue == q).map fun e => e.2.1

/-- `CELLQ_Q_DEPTH` follows the queue (R366). -/
def State.syncQueue (s : State) (q : Nat) : State :=
  let l := s.frames q ++ s.flying q
  s.putN .CELLQ_Q_DEPTH (min 32767 (l.map Frame.cells).sum + min 65535 l.length * 65536) q

/-- Set a queue's frames. -/
def State.setFrames (s : State) (q : Nat) (l : List Frame) : State :=
  ({ s with net := { s.net with queued := if l.isEmpty then storeDrop s.net.queued q else storeInsert s.net.queued q l } }).syncQueue q

/-- The frames that remain when others leave a queue: a new head waits from now on (R458, source 5). -/
def State.keepFrames (s : State) (q : Nat) (l : List Frame) : State :=
  let old := (s.frames q).head?
  s.setFrames q (match l with | f :: rest => (if old = some f then f else { f with headAt := s.tb.run }) :: rest | [] => [])

/-- Cells are taken: LOW sets when the free count falls to the threshold (R354). -/
def State.takeCells (s : State) (n : Nat) : State :=
  let f := s.fld CELLQ_STS_FREE
  let g := f - n
  let t := s.fld CELLQ_CFG_LOW_THRESH
  (s.setFld CELLQ_STS_FREE g).eventIf (decide (t < f) && decide (g ≤ t)) CELLQ_EVT_LOW

/-- Cells return to the free list. -/
def State.freeCells (s : State) (n : Nat) : State := s.setFld CELLQ_STS_FREE (min 16384 (s.fld CELLQ_STS_FREE + n))

/-- A queue has room for `n` cells (R354). -/
def State.cellRoom (s : State) (q n : Nat) : Bool :=
  let rsv := if 2048 ≤ q ∧ q < 2054 then 0 else min 1024 (s.fld CELLQ_CFG_TC7_RSV)
  decide (s.fld CELLQ_Q_DEPTH_CELLS q + n ≤ max 1 (s.fld CELLQ_Q_LIMIT_LIMIT q)) && decide (n + rsv ≤ s.fld CELLQ_STS_FREE)

/-- A frame takes its cells at once and joins its queue (R353). -/
def State.enqueue (s : State) (f : Frame) : State :=
  (s.takeCells f.cells).setFrames f.queue (s.frames f.queue ++ [{ f with headAt := s.tb.run }])

/-- A frame that is discarded unsent: a PTP entry completes with ERR (R267, R295, R354). -/
def State.frameLost (s : State) (f : Frame) : State := if f.kind = 2 then s.ptpDone f.owner (word f.words 0) none else s

/-- A flow counts packets as dropped (R280). -/
def State.flowDrops (s : State) (h n : Nat) : State :=
  if n = 0 then s else s.setFlow h { s.flow h with dropped := satAdd 0xFFFFFFFF (s.flow h).dropped n }

/-- A queue is flushed at its next packet boundary (R355); on a port that is down its packets count as dropped by the flow
(R267). -/
def State.flushQueue (s : State) (q : Nat) (down : Bool) : State :=
  let l := s.frames q
  let s1 := (l.foldl State.frameLost s).freeCells (l.map Frame.cells).sum
  let s2 := if down ∧ q < 2048 then s1.flowDrops q l.length else s1
  let s3 := s2.setFrames q []
  if (s3.flying q).isEmpty then s3.event CELLQ_EVT_FLUSHED
  else { s3 with net := { s3.net with flushing := q :: s3.net.flushing.filter (· != q) } }

/-- The port or link (4, 5) that serves a queue, and its traffic class (R287, R353). -/
def State.queuePort (s : State) (q : Nat) : Nat :=
  if q < 2048 then natField (word (s.flow q).words 0) 0 2 else if q < 2054 then q - 2048 else if q < 2057 then 4 else 5
@[inherit_doc State.queuePort] def State.queueClass (s : State) (q : Nat) : Nat :=
  if q < 2048 then natField (word (s.flow q).words 0) 8 3
  else if q < 2054 then 7
  else match (q - 2054) % 3 with | 0 => 6 | 1 => 5 | _ => 2

/-- The queues of a port or link that hold frames, rising. -/
def State.portQueues (s : State) (k : Nat) : List Nat := (s.net.queued.map Prod.fst).filter fun q => s.queuePort q == k

/-- The queues of a port or link are flushed because it went down (R267, R355). -/
def State.flushPort (s : State) (k : Nat) : State := (s.portQueues k).foldl (fun t q => t.flushQueue q true) s

/-! ### The packetiser -/

/-- RTP payload room of a flow (R274). -/
def payloadRoom (ws : List Nat) : Nat :=
  let p0 := word ws 0
  orElse 1500 (natField p0 16 16) - (if p0.testBit 2 then 40 else 20) - 20 - (if p0.testBit 4 then 16 else 0)

/-- The longest run of NAL units that fit one aggregation packet, and the packet's payload length so far. -/
def aggRun (room : Nat) : List Nat → Nat → Nat → Nat × Nat
  | [], n, len => (n, len)
  | u :: us, n, len => if len + 2 + u ≤ room then aggRun room us (n + 1) (len + 2 + u) else (n, len)

/-- Fragmentation units of the `n` bytes that follow a NAL unit header (R274). -/
def fragments (room : Nat) : Nat → Nat → List Nat
  | 0, _ => []
  | fuel + 1, n => if n + 3 ≤ room then [n + 3] else room :: fragments room fuel (n - (room - 3))

/-- Payload lengths of the packets of a row band in HEVC or VVC (R274). -/
def nalPackets (room : Nat) : Nat → List Nat → List Nat
  | 0, _ => []
  | _ + 1, [] => []
  | fuel + 1, u :: us =>
    let (n, len) := aggRun room (u :: us) 0 2
    if 2 ≤ n then len :: nalPackets room fuel ((u :: us).drop n)
    else if u ≤ room then u :: nalPackets room fuel us
    else fragments room u (u - 2) ++ nalPackets room fuel us

/-- The bytes of a length field of AV1's payload format. -/
def lebBytes (n : Nat) : Nat := if n < 128 then 1 else if n < 16384 then 2 else 3

/-- Payload lengths of the packets of a row band in AV1 (R274): elements fill each packet, `k` of them so far with `sum` bytes and
their length fields, `cur` the packet's length; the last of up to three elements has no length field. -/
def obuPackets (room : Nat) : Nat → List Nat → Nat → Nat → Nat → List Nat
  | 0, _, _, _, _ => []
  | _ + 1, [], k, _, cur => if k = 0 then [] else [cur]
  | fuel + 1, r :: rest, k, sum, cur =>
    let cost := fun e => 1 + sum + (if k < 3 then 0 else lebBytes e) + e
    if cost r ≤ room then obuPackets room fuel rest (k + 1) (sum + lebBytes r + r) (cost r)
    else
      let f := room - 1 - sum - (if k < 3 then 0 else 2)
      if f = 0 then cur :: obuPackets room fuel (r :: rest) 0 0 0
      else cost f :: obuPackets room fuel ((r - f) :: rest) 0 0 0

/-- Payload lengths of the packets of a row band (R274). -/
def bandPackets (format room : Nat) (units : List Nat) : List Nat :=
  if format = 1 then obuPackets room (2 * units.sum + 2 * units.length + 2) units 0 0 0 else nalPackets room (units.length + 1) units

/-- RTP timestamp of tick n (R273). -/
def State.rtpTime (s : State) (n : Nat) : Nat := n * 90000 * s.fld TK_NUM_NUM / max 1 (s.fld TK_DEN_DEN) % 2 ^ 32

/-- Bytes of the Ethernet frame of a packet with `n` payload bytes (R274), destination address to FCS. -/
def packetBytes (ws : List Nat) (n : Nat) : Nat :=
  let p0 := word ws 0
  max 64 (n + (if p0.testBit 2 then 40 else 20) + 20 + (if p0.testBit 4 then 16 else 0) + 18 + (if p0.testBit 3 then 4 else 0))

/-- A flow's key slot holds a current key (R494). -/
def State.keyReady (s : State) (slot : Nat) : Bool :=
  match storeFind s.security.slots slot with | some k => k.cur.isSome | none => false

/-- What the packetiser sends of a stream's ring: the ring of a closed stream first (R192). -/
def State.unsentOf (s : State) (h : Nat) : Option (Bool × Nat × Nat × List (Nat × Nat) × List Nat) :=
  match s.codec.rings.find? fun r => r.stream == h && !r.unsent.isEmpty with
  | some r => r.flow.map fun f => (true, f, r.base, r.unsent, r.pkts)
  | none =>
    let x := s.stream h
    (flowOf false x.words).map fun f => (false, f, x.res.ringBase, x.unsent, x.pkts)

/-- Set what remains. -/
def State.setUnsent (s : State) (h : Nat) (closed : Bool) (l : List (Nat × Nat)) (pk : List Nat) : State :=
  if closed then
    let rec go : List RingLeft → List RingLeft
      | [] => []
      | r :: rs => if r.stream = h ∧ !r.unsent.isEmpty then { r with unsent := l, pkts := pk } :: rs else r :: go rs
    { s with codec := { s.codec with rings := go s.codec.rings } }
  else s.onStream h fun x => { x with unsent := l, pkts := pk }

/-- The packetiser makes the next packet of a stream's oldest unsent record (R273, R274, R354, R494): it takes cells, waits for
room, or is dropped because its port is down or its key is missing. -/
def State.packetise (s : State) (h : Nat) (units : List Nat) : State :=
  match s.unsentOf h with
  | none => s
  | some (_, _, _, [], _) => s
  | some (closed, f, base, (off, len) :: rest, pk) =>
    let w := s.flow f
    let p0 := word w.words 0
    let mk := s.load .device (base + off) 12
    let tick := leNat (mk.take 8)
    let band := leNat ((mk.drop 8).take 2)
    let flags := leNat (mk.drop 10)
    let pk1 := if pk.isEmpty then bandPackets (natField p0 12 3) (payloadRoom w.words) (if units.isEmpty then [len] else units) else pk
    let s0 := s.arbGrant 1 6
    if !w.live then s.setUnsent h closed rest []
    else match pk1 with
    | [] => s0.setUnsent h closed rest []
    | n :: more =>
      let index := natField (word w.words 6) 0 16 + w.sentPkts
      let srtp := p0.testBit 4
      let spent := srtp && decide (2 ^ 48 ≤ index)
      let lost := spent || !s.flag ETH_STS_LINK (p0 % 4) || (srtp && !s.keyReady (natField (word w.words 6) 16 16))
      let next := if more.isEmpty then rest else (off, len) :: rest
      let fr : Frame :=
        { queue := f, bytes := packetBytes w.words n, owner := h, tick := tick, last := more.isEmpty && flags.testBit 1,
          words := [index % 65536, s.rtpTime tick, n, band], bandAt := if band = 0 ∧ pk.isEmpty then some (s.stream h).bandAt else none }
      if lost then
        let s1 := (s0.setUnsent h closed next more).flowDrops f 1
        let s2 := if spent then s1 else s1.setFlow f { s1.flow f with sentPkts := w.sentPkts + 1 }
        s2.eventIf spent SEC_EVT_KEY_EXPIRED
      else if s.cellRoom f fr.cells then
        ((s0.setUnsent h closed next more).setFlow f { w with sentPkts := w.sentPkts + 1 }).enqueue fr
      else s.setUnsent h closed ((off, len) :: rest) pk1

/-- The ARB1 requester of a frame (R326). -/
def Frame.requester (f : Frame) : Nat := if f.kind = 2 then f.owner % 4 else if f.relayed then 5 - f.owner % 2 else 7

/-- CELL_ENQUEUE (R353, R354): a frame that waits for a queue takes its cells, goes on waiting, or is dropped by its origin's rule. -/
def execCellEnqueue (src : CellSource) (s : State) : Out :=
  finish <|
    match src with
    | .packet h units => s.packetise h units
    | .queue q =>
      match s.net.waiting.find? fun f => f.queue == q with
      | none => s
      | some f =>
        let s1 := { s with net := { s.net with waiting := s.net.waiting.erase f } }
        if s.cellRoom q f.cells then (s1.arbGrant 1 f.requester).enqueue f
        else if f.relayed ∨ f.kind = 2 then ((s1.bump .CELLQ_Q_DROP_CNT 1 q).event CELLQ_EVT_DROP).frameLost f
        else s

/-! ### The next frame -/

/-- The frame in transmission on a port or link ends (R288, R353): its cells return, a flush that waited for it ends (R355), and a PTP
entry is completed with its timestamp (R269). -/
def State.frameEnds (s : State) (k : Nat) : State :=
  match storeFind s.net.sending k with
  | none => s
  | some (f, t) =>
    let s1 := s.reachRun t
    let s2 := (({ s1 with net := { s1.net with sending := storeDrop s1.net.sending k } }).freeCells f.cells).syncQueue f.queue
    let s3 := if f.kind = 2 then s2.ptpDone f.owner (word f.words 0) (some (word f.words 1)) else s2
    if s3.net.flushing.contains f.queue ∧ (s3.flying f.queue).isEmpty then
      State.event { s3 with net := { s3.net with flushing := s3.net.flushing.filter (· != f.queue) } } CELLQ_EVT_FLUSHED
    else s3

/-- Heads that can fit no window are dropped as they reach the head (R295). -/
def State.dropOversize (s : State) (k q : Nat) : Nat → State
  | 0 => s
  | fuel + 1 =>
    match s.frames q with
    | [] => s
    | f :: rest =>
      if s.oversize k (s.queueClass q) f.bytes then
        let s1 := (((s.keepFrames q rest).freeCells f.cells).bump .GT_OVERSIZE_CNT 1 k).event GT_EVT_OVERSIZE k
        let s2 := if q < 2048 then s1.bump .SH_DROP_CNT 1 q else s1
        (s2.frameLost f).dropOversize k q fuel
      else s

/-- The bytes a shaped frame is charged (R299). -/
def State.charge (s : State) (q bytes : Nat) : Nat := bytes + s.fld SH_CFG_OVERHEAD q

/-- The head of a queue passes gate, length check and shaper (R288). -/
def State.gateOpen (s : State) (k q : Nat) : Bool := (s.gatesNow k).1.testBit (s.queueClass q)
@[inherit_doc State.gateOpen] def State.fitsGate (s : State) (k q : Nat) (f : Frame) : Bool := s.finishes k (s.queueClass q) f.bytes
@[inherit_doc State.gateOpen] def State.credit (s : State) (q : Nat) (f : Frame) : Bool :=
  if q < 2048 then s.shaperAdmits q (s.charge q f.bytes) else if q < 2054 then s.controlAdmits (q - 2048) else true
@[inherit_doc State.gateOpen] def State.eligible (s : State) (k q : Nat) : Bool :=
  match s.frames q with
  | [] => false
  | f :: _ => s.gateOpen k q && s.fitsGate k q f && s.credit q f

/-- A head that its gate is open for and that could not finish is counted once (R294); a control head that waits for credit is
remembered (R300). -/
def State.noteHeld (s : State) (k q : Nat) : State :=
  match s.frames q with
  | [] => s
  | f :: rest =>
    if !s.gateOpen k q then s
    else if !s.fitsGate k q f then
      if f.held then s else (s.setFrames q ({ f with held := true } :: rest)).bump .GT_HOLD_CNT 1 k
    else if 2048 ≤ q ∧ q < 2054 ∧ !s.credit q f then
      s.setControl (q - 2048) { s.control (q - 2048) with waited := true }
    else s

/-- Of the eligible queues of the highest class, the next in turn (R288). -/
def State.pickFrame (s : State) (k : Nat) : Option Nat :=
  let el := (s.portQueues k).filter (s.eligible k)
  (List.range 8).reverse.findSome? fun c =>
    let l := el.filter fun q => s.queueClass q == c
    let last := (storeFind s.net.served (k * 8 + c)).getD 4096
    (l.find? fun q => decide (last < q)).orElse fun _ => l.head?

/-- A frame starts (R269, R280, R288, R299, R300). -/
def State.startFrame (s : State) (k q : Nat) (f : Frame) (rest : List Frame) : State :=
  let c := s.queueClass q
  let ts := s.txStamp k
  let f1 := if f.kind = 2 then { f with words := [word f.words 0, ts] } else f
  let fin := s.tb.run + ceilDiv ((f.bytes + 20) * 8) (max 1 (s.portRate k))
  let s1 := { s.keepFrames q rest with net := { (s.keepFrames q rest).net with
      sending := storeInsert s.net.sending k (f1, fin), served := storeInsert s.net.served (k * 8 + c) q } }
  let s2 := s1.syncQueue q
  let s3 := if q < 2048 then s2.shaperCharge q k (s.charge q f.bytes) else if q < 2054 then s2.controlCharge (q - 2048) else s2
  let s4 := s3.sample 5 q (s.tb.run - f.headAt)
  let s5 := match f.bandAt with | some t => s4.sample 4 f.owner (s.tb.run - t) | none => s4
  let s6 := if k < 4 then s5.bump .ETH_TX_FRAMES 1 k else s5
  let s7 :=
    if q < 2048 then
      let w := s6.flow q
      s6.setFlow q { w with packets := satAdd 0xFFFFFFFF w.packets 1, bytes := satAdd (2 ^ 64 - 1) w.bytes f.bytes }
    else s6
  let s8 := (s7.arbGrant 2 k).emit (.frame k q f.bytes)
  if f.kind = 1 then s8.emit (.ring (k - 4) (word f.words 0) (f.words.drop 1))
  else if f.kind = 2 then s8.emit (.ptp k (word f.words 0) (s.ptpFrame k (word f.words 0) ts))
  else s8

/-- A port or link can send: LINK, or an UP Fulet link (R263, R267). -/
def State.canSend (s : State) (k : Nat) : Bool :=
  if k < 4 then s.flag ETH_STS_LINK k else s.linkUp (k - 4)

/-- FRAME_SELECT (R288): the frame in transmission, if there is one, ends; on a port that is down the queues are flushed; the next
eligible frame starts. -/
def execFrameSelect (k : Nat) (s : State) : Out :=
  finish <|
    if 6 ≤ k then s
    else
      let s1 := s.frameEnds k
      if !s1.canSend k then s1.flushPort k
      else
        let s2 := (s1.portQueues k).foldl (fun t q => t.dropOversize k q (s1.frames q).length) s1
        let s3 := (s2.portQueues k).foldl (fun t q => t.noteHeld k q) s2
        match s3.pickFrame k with
        | none => s3
        | some q =>
          match s3.frames q with
          | [] => s3
          | f :: rest => s3.startFrame k q f rest

/-- Frames in transmission whose gate a step of time closed beneath them (R293). -/
def State.overruns (s before : State) : State :=
  (List.range 6).foldl (fun t k =>
    match storeFind s.net.sending k with
    | some (f, _) =>
      if before.gateOpen k f.queue ∧ !t.gateOpen k f.queue then (t.bump .GT_OVERRUN_CNT 1 k).event GT_EVT_OVERRUN k else t
    | none => t) s

/-- A frame is a HALO or SEAM message of a past tick (R235, R296). -/
def State.staleHalo (s : State) (f : Frame) : Bool :=
  f.kind == 1 && decide (0x20 ≤ word f.words 0) && decide (word f.words 0 ≤ 0x22) && decide (f.tick < s.tickIndex)

/-- HALO and SEAM messages of past ticks leave their queues and the wait for cells (R235, R296, R354). -/
def State.dropStaleHalos (s : State) : State :=
  let s1 := { s with net := { s.net with waiting := s.net.waiting.filter fun f => !s.staleHalo f } }
  s1.net.queued.foldl (fun t (q, l) =>
    let gone := l.filter s.staleHalo
    if gone.isEmpty then t
    else (t.keepFrames q (l.filter fun f => !s.staleHalo f)).freeCells (gone.map Frame.cells).sum) s1

/-- STALE_HALO_DROP (R296). -/
def execStaleHaloDrop (s : State) : Out := finish s.dropStaleHalos

/-! ### Flushes and errors -/

/-- CELLQ_FLUSH_WRITE (R355, R366). -/
def execCellqFlushWrite (a : Agent) (v : Word) (s : State) : Out :=
  finish <| s.byAgent a .CELLQ_FLUSH 0 fun f s =>
    if f ≠ 0 then s
    else
      let q := v.toNat % 4096
      let s1 := s.putN .CELLQ_FLUSH q
      if q < 2060 then s1.flushQueue q false else s1

/-- An uncorrectable error of the cell pool is recorded (R356). -/
def State.cellUe (s : State) (cell : Nat) : State :=
  (((s.bump .CELLQ_UE_CNT).setFld CELLQ_ERR_CELL_CELL cell).event CELLQ_EVT_UE).record 18 (cell % 16384)

/-- CELL_LINK_ERROR (R356): corrected; uncorrectable data of the frame in transmission, which counts as dropped; or an uncorrectable
link entry, whose queue is flushed and whose cells stay taken until the sweep frees them. -/
def execCellLinkError (queue cell : Nat) (e : CellError) (s : State) : Out :=
  finish <|
    match e with
    | .corrected => (s.bump .CELLQ_CE_CNT).event CELLQ_EVT_CE
    | .data =>
      let s1 := s.cellUe cell
      if queue < 2048 ∧ !(s.flying queue).isEmpty then (s1.bump .SH_DROP_CNT 1 queue).flowDrops queue 1 else s1
    | .link =>
      let n := ((s.frames queue).map Frame.cells).sum
      let s1 := ((s.cellUe cell).flushQueue queue false).setFld CELLQ_STS_FREE (s.fld CELLQ_STS_FREE)
      { s1 with net := { s1.net with sweep := some (queue, n, s1.tb.run) } }

/-- CELL_SWEEP_DONE (R356): one entry per cycle takes 13.1072 µs; cells with an uncorrectable owner tag stay out of service. -/
def execCellSweepDone (bad : Nat) (s : State) : Out :=
  finish <|
    match s.net.sweep with
    | none => s
    | some (_, n, t) =>
      let s1 := (s.reachRun (t + 13108)).freeCells (n - bad)
      let s2 := if bad = 0 then s1 else s1.bump .CELLQ_QUAR_CNT bad
      State.event { s2 with net := { s2.net with sweep := none } } CELLQ_EVT_SWEEP

end Sys2Proof.Machine
end

