-- ==== Sys2Proof/Machine/Keys.lean ====
section
/-!
DEFINITION. The key store (R490, R491, R494 to R497).
-/
namespace Sys2Proof.Machine

/-- A slot of the key store. -/
def State.slot (s : State) (h : Nat) : KeySlot := (storeFind s.security.slots h).getD {}

/-- SRTP slots that hold a current key (R501). -/
def State.keysUsed (s : State) : Nat := (s.security.slots.filter fun e => decide (e.1 < 0xC00) && e.2.cur.isSome).length

/-- Set a slot, with the registers that follow (R501, R502). -/
def State.setSlot (s : State) (h : Nat) (k : KeySlot) : State :=
  let s1 := { s with security := { s.security with
      slots := if k = ({} : KeySlot) then storeDrop s.security.slots h else storeInsert s.security.slots h k } }
  let s2 := (s1.putN .SEC_KEYS_USED s1.keysUsed).touch 15 h
  if h = 0xE00 then s2.setFlag SEC_STS_TRANSPORT k.cur.isSome else s2

/-- A key's identifier: the handle, and the loads into the slot since cold reset (R491). -/
def keyId (h loads : Nat) : Nat := h + loads % 65536 * 65536

/-- A key is loaded into a slot, as current or as next (R491, R492). -/
def State.loadKey (s : State) (h func : Nat) (asNext : Bool) (bytes : List Byte) : State :=
  let k := s.slot h
  let key : Key := { id := keyId h (k.loads + 1), bytes := bytes }
  let k1 := { k with func := func, loads := (k.loads + 1) % 65536 }
  s.setSlot h (if asNext ∧ k.cur.isSome then { k1 with next := some key } else { k1 with cur := some key })

/-- The keys of a slot are zeroised; the count of loads and the function stay (R495). -/
def State.eraseSlot (s : State) (h : Nat) : State :=
  match storeFind s.security.slots h with
  | none => s
  | some k => s.setSlot h { k with cur := none, next := none }

/-- Every key whose slot satisfies `p` is zeroised (R495, R496). -/
def State.eraseSlots (s : State) (p : Nat → KeySlot → Bool) : State :=
  s.security.slots.foldl (fun t (h, k) => if p h k && (k.cur.isSome || k.next.isSome) then t.eraseSlot h else t) s

/-- A slot's next key becomes current and the old one is zeroised (R494). -/
def State.promoteKey (s : State) (h : Nat) : State :=
  let k := s.slot h
  if k.next.isNone then s else (s.setSlot h { k with cur := k.next, next := none }).event SEC_EVT_KEY_SWITCH

/-- A slot names the key an SRTP flow of a function may use (R494). -/
def State.srtpSlotOk (s : State) (h func : Nat) : Bool :=
  decide (h < 0xC00) && (s.slot h).cur.isSome && (s.slot h).func == func

/-- Open flows that name a slot (R493, R504). -/
def State.flowsOnSlot (s : State) (h : Nat) : Nat :=
  (s.flows.filter fun e => e.2.live && (word e.2.words 0).testBit 4 && natField (word e.2.words 6) 16 16 == h).length

end Sys2Proof.Machine
end

