-- ==== Sys2Proof/Machine/Flows.lean ====
section
/-!
DEFINITION. Flows and what Ethernet ports receive (R266 to R280).
-/
namespace Sys2Proof.Machine

/-! ### Fields of a flow's words (R271) -/

/-- PORT, FORMAT and TC of a flow. -/
def flowPort (ws : List Nat) : Nat := word ws 0 % 4
@[inherit_doc flowPort] def flowFormat (ws : List Nat) : Nat := natField (word ws 0) 12 3
@[inherit_doc flowPort] def flowClass (ws : List Nat) : Nat := natField (word ws 0) 8 3

/-- A handle is that of an ingest flow (R76). -/
def isIngest (h : Nat) : Bool := decide (2048 ≤ h)

/-- What an ingest flow matches on: the IP version, the destination address, the UDP port, and the source address with SRC_MATCH
(R275). -/
def flowMatch (ws : List Nat) : List Nat :=
  let v6 := (word ws 0).testBit 2
  let src := (word ws 0).testBit 5
  let addr := fun (k4 k6 : Nat) => if v6 then (List.range 4).map fun i => word ws (k6 + i) else [word ws k4]
  [v6.toNat, src.toNat, natField (word ws 3) 16 16] ++ addr 8 10 ++ (if src then addr 9 14 else [])

/-- The IPv6 address that four words spell, low word first; an IPv4 address is one word. -/
def addrOf (v6 : Bool) (ws : List Nat) (k4 k6 : Nat) : Nat :=
  if v6 then dword ws k6 + dword ws (k6 + 2) * 2 ^ 64 else word ws k4

/-- A received packet matches an ingest flow (R275). -/
def matchesFlow (ws : List Nat) (p : RxPkt) : Bool :=
  let v6 := (word ws 0).testBit 2
  v6 == p.v6 && addrOf v6 ws 8 10 == p.dst && natField (word ws 3) 16 16 == p.dport
    && (!(word ws 0).testBit 5 || addrOf v6 ws 9 14 == p.src)

/-- The group of lanes of a port (R257). -/
def State.portGroup (s : State) (port : Nat) : Nat := if s.packageB then 0 else port % 4

/-- MAX_FRAME: values outside 1,518 to 9,216 behave as the nearer bound (R284). -/
def State.maxFrame (s : State) (port : Nat) : Nat := clampNat 1518 9216 (s.fld ETH_CFG_MAX_FRAME port)

/-! ### FLOW_OPEN, FLOW_CLOSE (R271, R272) -/

/-- The FLOWS client votes for the lane domains of the ports of open flows (R436). -/
def State.flowVotes (s : State) : State :=
  (List.range 4).foldl (fun t g => t.vote 2 (10 + g)
    (s.flows.any fun e => e.2.live && s.portDomain (flowPort e.2.words) == 10 + g)) s

/-- The bound stream of a flow: an open stream that names it with FLOW_EN (R272, R280). -/
def State.boundStream (s : State) (h : Nat) : Option Nat :=
  (s.streams.find? fun (_, x) => x.st != .free && !x.newest.isEmpty && flowOf x.dec x.newest == some h).map Prod.fst

/-- The checks of FLOW_OPEN in rising order of detail (R271). -/
def State.flowChecks (s : State) (h : Nat) (ws : List Nat) : List (Bool × Nat) :=
  let p0 := word ws 0
  let port := p0 % 4
  let mtu := orElse 1500 (natField p0 16 16)
  let fmt := flowFormat ws
  [(s.portPresent port && s.fld LN_GRP_CFG_USE (s.portGroup port) == 1, 1),
   (decide (576 ≤ mtu) && decide (mtu ≤ 9000) && decide (mtu + (if p0.testBit 3 then 22 else 18) ≤ s.maxFrame port)
      && decide (256 ≤ payloadRoom ws), 2),
   (decide (fmt ≤ (if isIngest h then 4 else 2)) && flowClass ws != 7, 3),
   (!isIngest h || !(s.flows.any fun e => isIngest e.1 && e.2.live && flowMatch e.2.words == flowMatch ws), 4),
   (!(s.flow h).live, 5),
   (!reservedSet ws 0 0xFFFF773F, 0x800000), (!reservedSet ws 4 0xFF3F7F, 0x800004),
   (!reservedSet ws 7 0x7F && decide (word ws 7 ≤ 64), 0x800007), (!reservedSet ws 18 0xFFFFF, 0x800012)]

/-- FLOW_OPEN (R271, R482, R494). -/
def opFlowOpen (c : Cmd) (s : State) : Res :=
  let h := c.handle
  let ws := (c.params.take 26).map (· % 2 ^ 32)
  let p0 := word ws 0
  let srtp := p0.testBit 4
  if s.portPresent (p0 % 4) && s.halfFenced (s.portHalf (p0 % 4)) then Res.err s 0x14 3
  else if srtp ∧ !s.flag SEC_STS_APPROVED then Res.err s 0x20 1
  else if srtp ∧ !s.srtpSlotOk (natField (word ws 6) 16 16) c.func then Res.err s 0x20 2
  else match firstBad (s.flowChecks h ws) with
    | some d => Res.bad s d
    | none =>
      let s1 := s.setFlow h { live := true, func := c.func, words := ws }
      let s2 :=
        if isIngest h then (s1.setFld ⟨.PL_CFG, 4, 2⟩ (p0 % 4) (h - 2048)).setFld ⟨.PL_CFG, 31, 1⟩ 1 (h - 2048)
        else ((s1.setFld SH_CFG_TC (flowClass ws) h).setFld SH_CFG_PORT (p0 % 4) h).setFld SH_CFG_BOUND 1 h
      Res.ok ((s2.touch 8 h).flowVotes) h

/-- FLOW_OPEN. -/
def execFlowOpen (c : Cmd) (s : State) : Out := runCommand c opFlowOpen s

/-- A flow ends: its queued packets and its staged data are discarded, and its bindings clear (R272, R286). -/
def State.dropFlow (s : State) (h : Nat) : State :=
  let w := s.flow h
  let s1 := if isIngest h then s else s.flushQueue h false
  let bufs := (w.aus.flatMap fun a => a.1) ++ (match w.cur with | some u => u.bufs | none => [])
  let s2 := (s1.bpFreeAll bufs).setFlow h {}
  let s3 :=
    if isIngest h then (s2.setFld ⟨.PL_CFG, 4, 2⟩ 0 (h - 2048)).setFld ⟨.PL_CFG, 31, 1⟩ 0 (h - 2048)
    else ((s2.setFld SH_CFG_TC 0 h).setFld SH_CFG_PORT 0 h).setFld SH_CFG_BOUND 0 h
  (s3.touch 8 h).flowVotes

/-- FLOW_CLOSE (R272). -/
def opFlowClose (c : Cmd) (s : State) : Res :=
  let h := c.handle
  if !(s.flow h).live then Res.bad s 0x00F005
  else if (s.flow h).func ≠ c.func then Res.err s 0x14 2
  else if s.halfFenced (s.portHalf (flowPort (s.flow h).words)) then Res.err s 0x14 3
  else if (s.boundStream h).isSome then Res.bad s 1
  else Res.ok (s.dropFlow h)

/-- FLOW_CLOSE. -/
def execFlowClose (c : Cmd) (s : State) : Out := runCommand c opFlowClose s

/-! ### INGEST_MAP (R277) -/

/-- COUNT and the descriptors of a map. -/
def mapFbs (m : List Nat) : List Nat :=
  ([natField (word m 1) 0 13, natField (word m 1) 16 13, natField (word m 2) 0 13, natField (word m 2) 16 13]).take (word m 0 % 8)

/-- The checks of INGEST_MAP in rising order of detail. -/
def State.mapChecks (s : State) (h func : Nat) (m : List Nat) : List (Bool × Nat) :=
  let fbs := mapFbs m
  let d0 := fbs.headD 0
  let first := word m 3 % 65536
  let last := word m 3 / 65536
  let none_ := word m 0 % 8 == 0
  [(isIngest h && (s.flow h).live && flowFormat (s.flow h).words == 3, 1),
   (none_ || fbs.all (fun d => (s.fld FB_DESC_FMT_FORMAT d == 0x22 || s.fld FB_DESC_FMT_FORMAT d == 0x32)
      && s.fld FB_DESC_OWN_FUNC d == func && !s.flag FB_DESC_OWN_POOL d && s.fld FB_DESC_FMT_FORMAT d == s.fld FB_DESC_FMT_FORMAT d0
      && s.fld FB_DESC_DIM_WIDTH d == s.fld FB_DESC_DIM_WIDTH d0), 2),
   (none_ || decide (first ≤ last) && decide (word m 4 % 65536 + last - first < s.fld FB_DESC_DIM_HEIGHT d0), 3),
   (decide (word m 0 % 8 ≤ 4) && !reservedSet m 0 0xF, 0x800000), (!reservedSet m 1 0x1FFF1FFF, 0x800001),
   (!reservedSet m 2 0x1FFF1FFF, 0x800002), (!reservedSet m 4 0xFFFF, 0x800004)]

/-- INGEST_MAP: in force from the next picture that starts. -/
def opIngestMap (c : Cmd) (s : State) : Res :=
  let h := c.handle
  let m := (c.params.take 7).map (· % 2 ^ 32)
  if (s.flow h).live ∧ (s.flow h).func ≠ c.func then Res.err s 0x14 2
  else if (s.flow h).live && s.halfFenced (s.portHalf (flowPort (s.flow h).words)) then Res.err s 0x14 3
  else match firstBad (s.mapChecks h c.func m) with
    | some d => Res.bad s d
    | none => Res.ok ((s.setFlow h { s.flow h with mapNext := some m }).touch 8 h)

/-- INGEST_MAP. -/
def execIngestMap (c : Cmd) (s : State) : Out := runCommand c opIngestMap s

/-! ### Reassembly of access units (R276) -/

/-- Change a flow. -/
def State.onFlow (s : State) (h : Nat) (f : Flow → Flow) : State := s.setFlow h (f (s.flow h))

/-- An access unit ends (R276): it is held, or, when nothing of it is left, counted as discarded; of five, the oldest goes. -/
def State.unitEnds (s : State) (h : Nat) : State :=
  let w := s.flow h
  match w.cur with
  | none => s
  | some u =>
    if u.bufs.isEmpty then s.setFlow h { w with cur := none, lost := satAdd 0xFFFFFFFF w.lost 1 }
    else
      let aus := w.aus ++ [(u.bufs, u.bytes)]
      let w1 := { w with cur := none, aus := aus, done := satAdd 0xFFFFFFFF w.done 1 }
      if aus.length ≤ 4 then s.setFlow h w1
      else (s.setFlow h { w1 with aus := aus.drop 1, lost := satAdd 0xFFFFFFFF w.lost 1 }).bpFreeAll ((aus.headD ([], 0)).1)

/-- Buffers are added to a chain of BP1 until it holds `n` bytes, at most 16 MiB (R276); none when the pool gives none. -/
def State.growChain (s : State) (n had : Nat) : Nat → List (Nat × Nat) → Option (List (Nat × Nat)) × State
  | 0, bufs => (some bufs, s)
  | fuel + 1, bufs =>
    if n ≤ bufs.length * 0x8000 then (some bufs, s)
    else if 512 ≤ bufs.length then (none, s.bpFreeAll (bufs.drop had))
    else match s.bpTake 1 true with
      | (some i, t) => t.growChain n had fuel (bufs ++ [(1, i)])
      | (none, t) => (none, t.bpFreeAll (bufs.drop had))

/-- Bytes are written into a chain of BP1 buffers from an offset on. -/
def State.writeChain (s : State) (bufs : List (Nat × Nat)) (off : Nat) (bs : List Byte) : Nat → State
  | 0 => s
  | fuel + 1 =>
    if bs.isEmpty then s
    else
      let room := 0x8000 - off % 0x8000
      let a := s.regN .BP_BASE 1 + ((bufs[off / 0x8000]?).getD (1, 0)).2 * 0x8000 + off % 0x8000
      (s.store .device a (bs.take room)).writeChain bufs (off + room) (bs.drop room) fuel

/-- A gap: the NAL unit or OBU in progress is removed whole, and packets are discarded until the next start (R276). -/
def RxUnit.gap (u : RxUnit) : RxUnit := { u with bytes := u.tail.getD u.bytes, tail := none, skip := true }

/-- The next packet in sequence order reaches the access unit (R276). -/
def State.deliver (s : State) (h : Nat) (gap : Bool) (p : RxPkt) : State :=
  let w := s.flow h
  let s1 :=
    match w.cur with
    | some u =>
      let u1 := if gap then u.gap else u
      let t := s.setFlow h { w with cur := some u1 }
      if u.ts = p.ts then t else (t.unitEnds h).onFlow h fun w => { w with cur := some { ts := p.ts, skip := true } }
    | none => s.setFlow h { w with cur := some { ts := p.ts, skip := true } }
  let u := ((s1.flow h).cur).getD { ts := p.ts }
  let s2 :=
    if u.cut ∨ (u.skip ∧ !p.start) then s1
    else
      match s1.growChain (u.bytes + p.data.length) u.bufs.length 513 u.bufs with
      | (none, t) => t.onFlow h fun w => { w with cur := some { u.gap with cut := true } }
      | (some bufs, t) =>
        let tail := if p.ends then none else if p.start then some u.bytes else u.tail
        (t.onFlow h fun w => { w with cur := some { u with bufs := bufs, bytes := u.bytes + p.data.length, skip := false, tail := tail } })
          |>.writeChain bufs u.bytes p.data 514
  if p.marker then s2.unitEnds h else s2

/-- Packets held out of order that are now next in sequence are delivered; when the window has passed a missing number, it is a gap
(R276). -/
def State.drain (s : State) (h window : Nat) (gap : Bool) : Nat → State
  | 0 => s
  | fuel + 1 =>
    let w := s.flow h
    let want := w.want.getD 0
    match w.early.find? fun p => p.seq == want with
    | some p =>
      let t := s.setFlow h { w with early := w.early.erase p, want := some ((want + 1) % 65536) }
      (t.deliver h gap p).drain h window false fuel
    | none =>
      if w.early.any fun p => decide (window ≤ (p.seq + 65536 - want) % 65536) then
        (s.setFlow h { w with want := some ((want + 1) % 65536) }).drain h window true fuel
      else if gap then
        match w.cur with
        | some u => s.setFlow h { w with cur := some u.gap }
        | none => s
      else s

/-- A packet of a compressed flow (R276). -/
def State.sequence (s : State) (h : Nat) (p : RxPkt) : State :=
  let w := s.flow h
  let window := orElse 16 (natField (word w.words 7) 0 7)
  let want := w.want.getD p.seq
  let ahead := (p.seq + 65536 - want) % 65536
  if 32768 ≤ ahead ∨ w.early.any fun e => e.seq == p.seq then s.flowDrops h 1
  else (s.setFlow h { w with want := some want, early := w.early ++ [p] }).drain h window false (w.early.length + 2 + ahead)

/-! ### ST 2110-20 (R278, R279) -/

/-- The number of bits of a mask. -/
def allOnes (n : Nat) : Nat := 2 ^ n - 1

/-- Rows FIRST_LINE to LAST_LINE of a map, and pgroups of a row. -/
def mapRows (m : List Nat) : Nat := word m 3 / 65536 + 1 - word m 3 % 65536
@[inherit_doc mapRows] def State.rowGroups (s : State) (d : Nat) : Nat := s.fld FB_DESC_DIM_WIDTH d / 2

/-- A row, counted from FIRST_LINE, was not wholly received. -/
def State.rowMissing (s : State) (m : List Nat) (q : RxPicture) (i : Nat) : Bool :=
  let row := word m 3 % 65536 + i
  q.bad.contains row || (storeFind q.rows row).getD 0 != allOnes (s.rowGroups q.fb)

/-- A picture is complete (R279): its missing-line map, its count, and READY. -/
def State.pictureEnds (s : State) (h : Nat) : State :=
  let w := s.flow h
  match w.pic with
  | none => s
  | some q =>
    let n := mapRows w.map
    let miss := (List.range n).filter (s.rowMissing w.map q)
    let a := dword w.map 5
    let bytes := (List.range (ceilDiv n 8)).map fun b => BitVec.ofNat 8 (maskOf ((List.range 8).filter fun j => miss.contains (b * 8 + j)))
    let s1 := if a = 0 then s else s.store .host a bytes
    (s1.setFlow h { w with pic := none, done := satAdd 0xFFFFFFFF w.done 1, missing := satAdd 0xFFFFFFFF w.missing miss.length }).mark q.fb mkReady 0

/-- A picture starts with a new timestamp (R277, R279): the next descriptor without a mark other than READY takes it, or it is dropped
and counted. -/
def State.pictureStarts (s : State) (h ts : Nat) : State :=
  let w0 := s.flow h
  let w := match w0.mapNext with | some m => { w0 with map := m, mapNext := none, rot := 0 } | none => w0
  let fbs := mapFbs w.map
  let order := (List.range fbs.length).map fun i => (w.rot + i) % max 1 fbs.length
  match order.find? fun i => s.regN .FB_DESC_MARKS (word fbs i) &&& 0xFFE == 0 with
  | none => s.setFlow h { w with lostTs := some ts, pic := none, lost := satAdd 0xFFFFFFFF w.lost 1 }
  | some i =>
    let d := word fbs i
    let over_ := s.regN .FB_DESC_MARKS d &&& 1 == 1
    (s.setFlow h { w with pic := some { ts := ts, fb := d }, rot := (i + 1) % max 1 fbs.length, lostTs := none,
                          lost := if over_ then satAdd 0xFFFFFFFF w.lost 1 else w.lost }).mark d 0 mkReady

/-- One sample row data header and its bytes (R278). -/
def State.placeRow (s : State) (h field : Nat) (r : Srd) : State :=
  let w := s.flow h
  match w.pic with
  | none => s
  | some q =>
    let row := if (word w.map 0).testBit 3 then 2 * r.row + field else r.row
    let first := word w.map 3 % 65536
    if row < first ∨ word w.map 3 / 65536 < row then s
    else
      let g := if s.fld FB_DESC_FMT_FORMAT q.fb = 0x32 then 5 else 4
      let n := r.data.length / g
      if r.offset % 2 ≠ 0 ∨ r.data.length % g ≠ 0 ∨ s.fld FB_DESC_DIM_WIDTH q.fb < r.offset + 2 * n then
        s.setFlow h { w with pic := some { q with bad := row :: q.bad } }
      else
        let a := s.regN .FB_DESC_BASE q.fb + (word w.map 4 % 65536 + row - first) * s.fld FB_DESC_FMT_PITCH q.fb + r.offset / 2 * g
        let got := (storeFind q.rows row).getD 0 ||| (allOnes n <<< (r.offset / 2))
        (s.setFlow h { w with pic := some { q with rows := storeInsert q.rows row got } }).store .device a r.data

/-- A packet of an ST 2110-20 flow (R279). -/
def State.linePacket (s : State) (h : Nat) (p : RxPkt) : State :=
  let w := s.flow h
  let s1 :=
    match w.pic with
    | some q => if q.ts = p.ts then s else (s.pictureEnds h).pictureStarts h p.ts
    | none => if w.lostTs = some p.ts then s else s.pictureStarts h p.ts
  let s2 := p.srds.foldl (fun t r => t.placeRow h p.field r) s1
  let inter := (word (s2.flow h).map 0).testBit 3
  if p.marker ∧ (!inter ∨ p.field = 1) then s2.pictureEnds h else s2

/-! ### Reception (R266, R269, R275) -/

/-- The packet index that RFC 3711 estimates from the highest one accepted (R494). -/
def srtpIndex (top : Option Nat) (seq : Nat) : Nat :=
  match top with
  | none => seq
  | some t =>
    let roc := t / 65536
    let l := t % 65536
    let v := if l < 32768 then (if l + 32768 < seq then roc - 1 else roc) else (if seq + 32768 < l then roc + 1 else roc)
    v * 65536 + seq

/-- SRTP's checks of a packet (R494): whether it is accepted, and the state with its counts and a promoted key. -/
def State.srtpAccept (s : State) (h : Nat) (p : RxPkt) : Bool × State :=
  let w := s.flow h
  let slot := natField (word w.words 6) 16 16
  let k := s.slot slot
  let i := srtpIndex w.top p.seq
  let old := match w.top with | some t => decide (i + 128 < t) || w.seen.contains i | none => false
  let good := (p.auth == 1 && k.cur.isSome) || (p.auth == 2 && k.next.isSome)
  if w.spent ∨ 2 ^ 48 ≤ i then (false, (s.setFlow h { w with spent := true }).eventIf (!w.spent) SEC_EVT_KEY_EXPIRED)
  else if old then (false, (s.bump .SEC_SRTP_REPLAY_CNT).event SEC_EVT_SRTP_REPLAY)
  else if !good then (false, (s.bump .SEC_SRTP_AUTH_CNT).event SEC_EVT_SRTP_AUTH)
  else
    let s1 := if p.auth = 2 then s.promoteKey slot else s
    let top := max i (w.top.getD 0)
    (true, s1.onFlow h fun w => { w with top := some top, seen := (i :: w.seen).filter fun j => decide (top ≤ j + 128) })

/-- A packet that matches ingest flow `h` (R275 to R279). -/
def State.ingest (s : State) (port h : Nat) (p : RxPkt) : State :=
  let s0 := s.onFlow h fun w => { w with packets := satAdd 0xFFFFFFFF w.packets 1, bytes := satAdd (2 ^ 64 - 1) w.bytes p.bytes }
  let ws := (s.flow h).words
  let compressed := flowFormat ws != 3
  match s0.passPolicer h p.bytes p.dscp p.dei port compressed with
  | (false, t) => t.flowDrops h 1
  | (true, t) =>
    let (ok, t1) := if (word ws 0).testBit 4 then t.srtpAccept h p else (true, t)
    if !ok then t1.flowDrops h 1 else if compressed then t1.sequence h p else t1.linePacket h p

/-- A frame that nothing takes (R266). -/
def State.rxDrop (s : State) (port : Nat) : State := (s.bump .ETH_RX_DROP_CNT 1 port).event ETH_EVT_RX_DROP port

/-- A received PTP frame that the filter selects goes into the receive ring with its timestamp (R268, R269). -/
def State.ptpReceive (s : State) (port : Nat) (frame : List Byte) : State :=
  let t := s.regN .PTP_RX_TAIL port % 64
  if 224 < frame.length ∨ (t + 1) % 64 = s.regN .PTP_RX_HEAD port % 64 then s.bump .PTP_RX_DROP_CNT 1 port
  else
    let a := s.ptpRx port t
    let s1 := s.store .device a (ptpHeader frame.length 0 (s.rxStamp port) ++ frame)
    (s1.putN .PTP_RX_TAIL ((t + 1) % 64) port).event ETH_EVT_PTP_RX port

/-- The PTP filter selects a frame (R269): TRANSPORT 0 to 2 name one mapping, 3 all. -/
def State.ptpSelects (s : State) (port transport domain : Nat) : Bool :=
  s.flag PTP_CFG_EN port && (s.fld PTP_CFG_TRANSPORT port == 3 || s.fld PTP_CFG_TRANSPORT port == transport)
    && (s.flag PTP_CFG_DOMAIN_ANY port || s.fld PTP_CFG_DOMAIN port == domain)

/-- ETH_FRAME_RECEIVE (R266, R269, R275): a frame of `bytes` bytes on a port that is up. -/
def execEthFrameReceive (port bytes : Nat) (f : RxFrame) (s : State) : Out :=
  finish <|
    if 4 ≤ port ∨ !s.flag ETH_STS_LINK port then s
    else match f with
    | .badFcs => (s.bump .ETH_FCS_CNT 1 port).event ETH_EVT_FCS port
    | _ =>
      let s1 := s.bump .ETH_RX_FRAMES 1 port
      -- a masked requester gets no memory grant (R325, R406)
      if s.maxFrame port < bytes ∨ (s.regN .ARB_MASK).testBit (24 + port) then s1.rxDrop port
      else match f with
      | .ptp tr dom frame => if s.ptpSelects port tr dom then s1.ptpReceive port frame else s1.rxDrop port
      | .rtp p =>
        match s.flows.find? fun e => isIngest e.1 && e.2.live && matchesFlow e.2.words p with
        | some (h, _) => s1.ingest port h { p with bytes := bytes }
        | none => s1.rxDrop port
      | _ => s1.rxDrop port

end Sys2Proof.Machine
end

