-- ==== Sys2Proof/Machine/Lanes.lean ====
section
/-!
DEFINITION. Lane groups, lanes under test, and the state of Ethernet ports (R257, R259, R264 to R270).
-/
namespace Sys2Proof.Machine

/-- Lanes of a group that are bonded. -/
def State.groupLanes (s : State) (g : Nat) : List Nat := ((List.range 4).map (· + 4 * g)).filter s.lanePresent

/-- The port whose registers report for a group (R257). -/
def State.groupPort (s : State) (g : Nat) : Nat := if s.packageB then 0 else g

/-- USE of a group as it acts: 2 behaves as OFF where there is no Fulet link (R257). -/
def State.groupUse (s : State) (g : Nat) : Nat :=
  let u := s.fld LN_GRP_CFG_USE g
  if u = 2 ∧ (g % 2 = 0 ∨ s.packageB) then 0 else u

/-- Lanes take a state: OFF, RESET or LOCKED (R284). -/
def State.setLanes (s : State) (ls : List Nat) (st rate : Nat) : State :=
  ls.foldl (fun t l => ((t.setFld LN_STS_STATE st l).setFld LN_STS_RATE25 rate l).setFld LN_STS_CTLE_NOW 0 l) s

/-- Lanes lock (R259): the code in use is the one set by hand, or the one the lane adapted to, which is measured (a free value). -/
def State.lockLanes (s : State) (ls : List Nat) (rate : Nat) : State :=
  ls.foldl (fun t l =>
    let code := if t.flag LN_EQ_CTLE_MAN l then t.fld LN_EQ_CTLE l else t.free.toNat % 16
    let t1 := if t.flag LN_EQ_CTLE_MAN l then t else t.tookFree
    ((t1.setFld LN_STS_STATE 3 l).setFld LN_STS_RATE25 rate l).setFld LN_STS_CTLE_NOW code l) s

/-- The lanes a port uses in its mode (R257). -/
def State.portLanes (s : State) (port : Nat) : List Nat :=
  let all := s.fld ETH_CFG_MODE port == 4
  if s.packageB then (if all then [0, 1, 2, 3] else [port])
  else if all then (List.range 4).map (· + 4 * port) else [4 * port]

/-- A port goes down (R267): its queues are flushed, and PTP entries that wait for cells complete with ERR. -/
def State.portDown (s : State) (port : Nat) : State :=
  if !s.flag ETH_STS_LINK port then s
  else
    let ptp := s.net.waiting.filter fun f => f.kind == 2 && f.owner == port
    let s1 := { s with net := { s.net with waiting := s.net.waiting.filter fun f => !(f.kind == 2 && f.owner == port) } }
    let s2 := (ptp.foldl State.frameLost (s1.setFld ETH_STS_LINK 0 port)).flushPort port
    s2.event ETH_EVT_LINK port

/-- The mode of a port that has one (R266): 5 to 7 behave as off. -/
def State.portMode (s : State) (port : Nat) : Nat := let m := s.fld ETH_CFG_MODE port; if 4 < m then 0 else m

/-- A port can come up: present, enabled, in a mode, its group in use as a port and its lanes powered (R257, R267). -/
def State.portReady (s : State) (port : Nat) : Bool :=
  s.portPresent port && s.flag ETH_CFG_EN port && s.portMode port != 0 && s.groupUse (s.portGroup port) == 1
    && s.domOn (s.portDomain port)

/-- ETH_LINK_CHANGE (R267): a port comes up, or goes down; `faults` holds a local fault, a remote fault and a loss of block lock in bits
0 to 2. -/
def execEthLinkChange (port : Nat) (up : Bool) (faults : Nat) (s : State) : Out :=
  finish <|
    if 4 ≤ port then s
    else if up then
      if s.flag ETH_STS_LINK port ∨ !s.portReady port then s
      else
        let m := s.portMode port
        let s1 := s.setReg .ETH_STS (setBitField (s.reg .ETH_STS port) 0 6 (3 + (if m = 4 then 4 else 0) + (if 3 ≤ m then 8 else 0))) port
        (s1.lockLanes (s.portLanes port) (if m = 1 then 0 else 1)).event ETH_EVT_LINK port
    else
      let s1 := (s.setFld ETH_STS_LOCAL_FAULT (faults % 2) port).setFld ETH_STS_REMOTE_FAULT (faults / 2 % 2) port
      let s2 := if faults.testBit 2 then s1.setReg .ETH_STS (setBitField (s1.reg .ETH_STS port) 1 3 0) port else s1
      if s.portPresent port then s2.portDown port else s

/-- The device's constant for a mode (R268): the mode's row of a table that is no part of the spec. -/
def State.modeDelay (s : State) (port : Nat) : Nat := if s.portMode port = 0 then 0 else Config.modeDelay (s.portMode port) % 2 ^ 32

/-- A write of `ETH_CFG` (R257, R266, R267): a single-lane port of package B is refused while P0 runs on all four lanes; a port that is
turned off or given another mode goes down. -/
def State.writeEthCfg (s : State) (port v : Nat) : State :=
  let en := v.testBit 3
  if s.packageB ∧ port ≠ 0 ∧ en ∧ s.fld ETH_CFG_MODE 0 = 4 then s.setFld ETH_STS_CFG_ERR 1 port
  else
    let change := v % 16 ≠ s.regN .ETH_CFG port % 16
    let s1 := if change then s.portDown port else s
    let s2 := (s1.putN .ETH_CFG (v &&& 0xFFFF000F) port).setFld ETH_STS_CFG_ERR 0 port
    let s3 := if change then s2.setReg .ETH_STS (setBitField (s2.reg .ETH_STS port) 0 6 0) port else s2
    s3.putN .PTP_MODE_DLY (s3.modeDelay port) port

/-- A stream, a flow or ring membership uses a group (R257). -/
def State.groupInUse (s : State) (g : Nat) : Bool :=
  (s.flows.any fun e => e.2.live && s.portGroup (flowPort e.2.words) == g)
    || (s.flag RING_CFG_JOINED && g % 2 == 1 && !s.packageB)

/-- LN_GRP_CFG_WRITE (R257): the lanes go down and come up in the new role, or the write is ignored while the group is used. -/
def execLnGrpCfgWrite (a : Agent) (g : Nat) (v : Word) (s : State) : Out :=
  finish <| s.byAgent a .LN_GRP_CFG g fun f s =>
    if f ≠ 0 ∨ (s.groupLanes g).isEmpty then s
    else if s.groupInUse g then s.setFld ETH_STS_CFG_ERR 1 (s.groupPort g)
    else
      let ports := if s.packageB then List.range 4 else [g]
      let s1 := s.setFld ETH_STS_CFG_ERR 0 (s.groupPort g)
      if v.toNat % 4 = s.fld LN_GRP_CFG_USE g then s1
      else
        let s2 := ports.foldl (fun t p => (t.portDown p).setReg .ETH_STS (setBitField ((t.portDown p).reg .ETH_STS p) 0 6 0) p) s1
        let s3 := s2.putN .LN_GRP_CFG (v.toNat % 4) g
        let s4 := s3.setLanes (s.groupLanes g) (if s3.groupUse g = 0 then 0 else 1) 0
        { s4 with prbs := storeErase (fun l => l / 4 == g) s4.prbs }

/-! ### Lanes under test (R264, R265) -/

/-- A lane's group is under test. -/
def State.underTest (s : State) (l : Nat) : Bool := s.lanePresent l && s.fld LN_GRP_CFG_USE (l / 4) == 3

/-- LN_PRBS_INJ_WRITE (R265): ONE inverts one bit; PERIOD stays. -/
def execLnPrbsInjWrite (a : Agent) (lane : Nat) (v : Word) (s : State) : Out :=
  finish <| s.byAgent a .LN_PRBS_INJ lane fun f s =>
    if f ≠ 0 ∨ 16 ≤ lane ∨ !s.underTest lane then s
    else
      let s1 := s.putN .LN_PRBS_INJ (v.toNat / 65536 * 65536) lane
      if v.toNat % 2 = 1 then s1.emit (.bitError lane) else s1

/-- PRBS_CHECKER_LOCK (R265): the checker locks, or loses lock after counting the errors found while it was locked. -/
def execPrbsCheckerLock (lane : Nat) (locked : Bool) (errors : Nat) (s : State) : Out :=
  finish <|
    let was := (storeFind s.prbs lane).isSome
    if !s.underTest lane ∨ !s.flag LN_PRBS_CFG_RX_EN lane ∨ was = locked then s
    else if locked then { s with prbs := storeInsert s.prbs lane true }
    else
      let s1 := { s with prbs := storeDrop s.prbs lane }
      (s1.bump .LN_PRBS_ERR errors lane).event LN_EVT_PRBS_LOSS lane

/-! ### PTP transmission (R269) -/

/-- One entry that the servo owner has queued. -/
def State.ptpQueue (s : State) (port e : Nat) : State :=
  let len := leNat (s.load .device (s.ptpTx port e) 2)
  if 224 < len ∨ !s.flag ETH_STS_LINK port then s.ptpDone port e none
  else s.submit { queue := 2048 + port, bytes := max 64 (len + 4), kind := 2, owner := port, words := [e] }

/-- PTP_TX_TAIL_WRITE (R41, R269). -/
def execPtpTxTailWrite (a : Agent) (port : Nat) (v : Word) (s : State) : Out :=
  finish <| s.byAgent a .PTP_TX_TAIL port fun _ s =>
    if 4 ≤ port ∨ !s.servoOwner a then s
    else
      let old := s.regN .PTP_TX_TAIL port % 16
      let new := v.toNat % 16
      let s1 := s.putN .PTP_TX_TAIL new port
      (List.range ((new + 16 - old) % 16)).foldl (fun t k => t.ptpQueue port ((old + k) % 16)) s1

end Sys2Proof.Machine
end

