-- ==== Sys2Proof/Machine/Security.lean ====
section
/-!
DEFINITION. The security module: its states and self-tests, KEY_LOAD, ZEROIZE, ATTEST and key store errors (R481 to R500).
-/
namespace Sys2Proof.Machine

/-! ### Module state -/

/-- The module takes a state; a change sets STATE (R483). -/
def State.secState (s : State) (n : Nat) : State :=
  if s.fld SEC_STS_STATE = n then s else (s.setFld SEC_STS_STATE n).event SEC_EVT_STATE

/-- Requests wait: the module is in RESET, in SELF_TEST or ZEROIZING (R483). -/
def State.secWaits (s : State) : Bool := [0, 1, 4].contains (s.fld SEC_STS_STATE)

/-- The module is in ERROR. -/
def State.secError (s : State) : Bool := s.fld SEC_STS_STATE == 3

/-- A request to the module (R483, R493): it waits with its queue entry while the module takes none. -/
def runSecure (c : Cmd) (core : Cmd → State → Res) (s : State) : Out :=
  if s.secWaits ∧ (headerError c (s.enlist c)).isNone then finish (s.enlist c) else runCommand c core s

/-- The core of a request, which a module in ERROR does not serve (R486). -/
def withModule (s : State) (r : Res) : Res := if s.secError then Res.err s 0x30 1 else r

/-- A service completes: `SEC_SVC_IND` (R482, R502). -/
def State.service (s : State) (opcode status : Nat) : State :=
  s.putN .SEC_SVC_IND (opcode % 65536 + s.approvedNow.toNat * 65536 + status % 256 * 2 ^ 24)

/-- The device has no identity (R495, R497). -/
def State.noIdentity (s : State) : Bool := s.security.burned || s.security.seedBad

/-- `SEC_STS.DECOMMISSIONED` follows (R502). -/
def State.showIdentity (s : State) : State := s.setFlag SEC_STS_DECOMMISSIONED s.noIdentity

/-! ### Zeroisation (R495, R496) -/

/-- Link IDE enters the insecure state (R383). -/
def State.ideInsecure (s : State) : State :=
  if s.flag SEC_STS_IDE_IO ∨ s.flag SEC_STS_IDE_CM then
    ({ s with cxl := { s.cxl with insecure := true, ideSet := [] } }.setFld SEC_STS_IDE_IO 0).setFld SEC_STS_IDE_CM 0
  else s

/-- Open SPDM sessions end with their keys (R495). -/
def State.endSessions (s : State) : State :=
  if s.regN .SEC_SESSIONS = 0 then s else (s.putN .SEC_SESSIONS 0).event SEC_EVT_SPDM_SESSION

/-- Packets of SRTP egress flows that have not started are dropped (R486, R495). -/
def State.dropSrtp (s : State) : State :=
  s.flows.foldl (fun t (h, w) =>
    if w.live && !isIngest h && (word w.words 0).testBit 4 && !(t.frames h).isEmpty then t.flushQueue h true else t) s

/-- Every volatile key: the SRTP, IDE and transport slots and the session keys. -/
def State.zeroiseVolatile (s : State) : State :=
  ((s.eraseSlots fun h _ => h != 0xD00).endSessions).ideInsecure

/-- A self-test fails (R486): ERROR, its record, and every key zeroised. -/
def State.enterError (s : State) (bit : Nat) : State :=
  let s1 := (((s.secState 3).setFld SEC_STS_ERR_TEST bit).event SEC_EVT_SELFTEST_FAIL).level 29 0
  (((s1.eraseSlots fun _ _ => true).endSessions).ideInsecure).dropSrtp

/-- ZEROIZE (R495). -/
def opZeroize (c : Cmd) (s : State) : Res :=
  withModule s <|
    let scope := c.p 0 % 2
    if scope = 1 ∧ c.p 1 % 2 ^ 32 ≠ 0x5A45524F then Res.bad s 1
    else if c.p 0 % 2 ^ 32 / 2 ≠ 0 then Res.badWord s 0
    else
      let s1 := ((s.secState 4).zeroiseVolatile).dropSrtp
      let s2 :=
        if scope = 1 then
          State.showIdentity { s1.eraseSlot 0xD00 with security := { (s1.eraseSlot 0xD00).security with burned := true } }
        else s1
      Res.ok ((((s2.record 30 0).event SEC_EVT_ZEROIZED).secState 2).service c.opcode 0)

/-- ZEROIZE. -/
def execZeroize (c : Cmd) (s : State) : Out := runSecure c opZeroize s

/-! ### Self-tests (R484 to R487) -/

/-- The tests a part has: bits 8 to 10 in C variants (R484). -/
def State.testsPresent (s : State) : Nat := if s.fuse GLB_FUSE_CFG_CRYPTO = 1 then 0x7FF else 0xFF

/-- The lowest bit that is set. -/
def lowestBit (n x : Nat) : Nat := (bitsOf n x).headD 0

/-- Tests of a mask have run, and `fails` of them failed (R486, R487): the result word. -/
def State.testsRan (s : State) (fails : Nat) : State :=
  if fails = 0 then (s.putN .SEC_SELFTEST 0).secState 2
  else (s.putN .SEC_SELFTEST (fails + 2 ^ 31)).enterError (lowestBit 11 fails)

/-- SELF_TEST (R487): which of the selected tests fail is found by running them. -/
def opSelfTest (fails : Nat) (c : Cmd) (s : State) : Res :=
  withModule s <|
    let sel := c.p 0 % 2048
    let have_ := s.testsPresent
    if sel &&& (0x7FF ^^^ have_) ≠ 0 then Res.err s 0x20 2
    else if c.p 0 % 2 ^ 32 / 2048 ≠ 0 then Res.badWord s 0
    else
      let f := fails &&& (if sel = 0 then have_ else sel)
      let s1 := (s.secState 1).testsRan f
      if f = 0 then Res.ok (s1.service c.opcode 0)
      else { s := s1.service c.opcode 0x30, status := 0x30, detail := 2, word := f + 2 ^ 31 }

/-- SELF_TEST. -/
def execSelfTest (c : Cmd) (fails : Nat) (s : State) : Out := runSecure c (opSelfTest fails) s

/-- SEC_CONDITIONAL_TEST_FAIL (R485, R486). -/
def execSecConditionalTestFail (s : State) : Out :=
  finish <| if s.fld SEC_STS_STATE = 2 then s.enterError 15 else s

/-- The pre-operational tests after domain SEC came ON (R484): the module becomes OPERATIONAL, with its identity key derived, or enters
ERROR. -/
def State.startModule (s : State) (fails : Nat) : State :=
  let s1 := { s.secState 1 with security := { (s.secState 1).security with testsDue := false } }
  let s2 := s1.testsRan (fails &&& s.testsPresent)
  if s2.fld SEC_STS_STATE = 2 ∧ !s2.noIdentity then
    ((s2.loadKey 0xD00 0 false (s2.freeBytes 48)).tookFree 48).showIdentity
  else s2.showIdentity

/-! ### KEY_LOAD (R490 to R493) -/

/-- The parts of a wrapped record's plaintext (R492): handle, FUNC, kind and key material. -/
def recordHandle (r : List Byte) : Nat := leNat (r.take 2)
@[inherit_doc recordHandle] def recordFunc (r : List Byte) : Nat := leNat ((r.drop 2).take 1)
@[inherit_doc recordHandle] def recordKind (r : List Byte) : Nat := leNat ((r.drop 3).take 1)

/-- The 56 bytes of a wrapped record in P2 to P15. -/
def wrappedRecord (c : Cmd) : List Byte := (List.range 14).flatMap fun k => leBytes 4 (c.p (2 + k))

/-- KEY_LOAD WRAPPED. -/
def keyWrapped (c : Cmd) (s : State) : Res :=
  let h := c.handle
  let func := c.p 1 % 64
  let next := (c.p 1).testBit 8
  match (s.slot 0xE00).cur with
  | none => Res.err s 0x21 1
  | some t =>
    let r := Config.keyUnwrap t.bytes (wrappedRecord c)
    if r.length ≠ 48 then Res.err s 0x21 1
    else if recordHandle r ≠ h ∨ recordFunc r ≠ func ∨ recordKind r ≠ 1 then Res.err s 0x21 2
    else match firstBad [(s.funcEnabled func, 2), (next || s.flowsOnSlot h == 0, 3), (decide (h < 0xC00), 4),
                         (!reservedSet c.params 0 3, 0x800000), (!reservedSet c.params 1 0x13F, 0x800001)] with
      | some d => Res.bad s d
      | none =>
        if next ∧ (s.slot h).next.isSome then Res.full s 1
        else
          let s1 := (s.loadKey h func next (r.drop 4)).event SEC_EVT_KEY_LOADED
          Res.ok (s1.service c.opcode 0) (keyId h (s1.slot h).loads)

/-- KEY_LOAD EXCHANGE: the device's public key and its signature are free values. -/
def keyExchange (c : Cmd) (s : State) : Res :=
  if s.noIdentity then Res.err s 0x21 1
  else if c.handle ≠ 0xE00 then Res.bad s 4
  else
    let s1 := ((s.store .host (c.p64 26) (s.freeBytes 192)).tookFree 192)
    let s2 := ((s1.loadKey 0xE00 0 false (s1.freeBytes 32)).tookFree 32).event SEC_EVT_KEY_LOADED
    Res.ok (s2.service c.opcode 0) (keyId 0xE00 (s2.slot 0xE00).loads)

/-- KEY_LOAD ERASE. -/
def keyErase (c : Cmd) (s : State) : Res :=
  match firstBad [(s.flowsOnSlot c.handle == 0, 3), (decide (c.handle < 0xC00), 4)] with
  | some d => Res.bad s d
  | none => Res.ok ((s.eraseSlot c.handle).service c.opcode 0) (keyId c.handle (s.slot c.handle).loads)

/-- KEY_LOAD (R482, R492, R493); each MODE takes its own number of slots. -/
def opKeyLoad (c : Cmd) (s : State) : Res :=
  withModule s <|
    let need := match c.p 0 % 4 with | 0 => 2 | 1 => 3 | _ => 1
    if c.own < need then Res.bad s 0x00F001
    else if !s.approvedNow then Res.err s 0x20 1
    else match c.p 0 % 4 with
      | 0 => keyWrapped c s
      | 1 => keyExchange c s
      | 2 => keyErase c s
      | _ => Res.bad s 1

/-- KEY_LOAD. -/
def execKeyLoad (c : Cmd) (s : State) : Out := runSecure c opKeyLoad s

/-- KEYSTORE_ECC_ERROR (R497): the slot is zeroised; an identity seed that fails at start-up leaves the device without an identity. -/
def execKeystoreEccError (slot : Nat) (s : State) : Out :=
  finish <|
    if slot = 0xD00 then
      let s1 := s.eraseSlot 0xD00
      (State.showIdentity { s1 with security := { s1.security with seedBad := true } }).record 31 slot
    else if !keyHandle slot then s
    else
      let s1 := ((s.eraseSlot slot).record 31 slot).event SEC_EVT_ZEROIZED
      if 0xC00 ≤ slot ∧ slot < 0xC20 then s1.ideInsecure else s1

/-! ### ATTEST (R498 to R500) -/

/-- A measurement block of 55 bytes (R499): index, specification, size and type; the digest is a free value. -/
def State.measurement (s : State) (index at_ : Nat) : List Byte :=
  leBytes 1 index ++ [1] ++ leBytes 2 51 ++ [0] ++ leBytes 2 48 ++ State.freeBytes { s with freeCtr := s.freeCtr + at_ } 48

/-- ATTEST (R500). -/
def opAttest (c : Cmd) (s : State) : Res :=
  withModule s <|
    let mask := c.p 3 / 2 % 128
    let ix := (List.range 7).filter fun i => mask = 0 || mask.testBit i
    let size := 148 + 55 * ix.length
    if s.noIdentity then Res.err s 0x20 3
    else if s.security.certBad then Res.err s 0x21 1
    else match firstBad [(c.data.isSome, 1), (decide (size ≤ c.p 2 % 2 ^ 32), 2), (!reservedSet c.params 3 0xFE, 0x800003)] with
      | some d => Res.bad s d
      | none =>
        let blocks := ix.zipIdx.flatMap fun (i, k) => s.measurement (i + 1) (48 * k)
        let used := 48 * ix.length
        let sig := State.freeBytes { s with freeCtr := s.freeCtr + used } 96
        let nonce := ((c.data.getD []) ++ zeros 32).take 32
        let rep := leBytes 2 1 ++ leBytes 1 ix.length ++ [0] ++ leBytes 8 s.tickIndex ++ s.r8 .GLB_SERIAL ++ nonce ++ blocks ++ sig
        Res.ok (((s.store .host (c.p64 0) rep).tookFree (used + 96)).service c.opcode 0) size

/-- ATTEST. -/
def execAttest (c : Cmd) (s : State) : Out := runSecure c opAttest s

end Sys2Proof.Machine
end

