-- ==== Sys2Proof/Machine/Launch.lean ====
section
/-!
DEFINITION. Launches: what happens at T(n) + L of a stream, and a launch that waits for a busy pipe (R35, R43, R98, R116, R150, R151,
R167, R171, R188, R200, R249, R351, R440, R494).
-/
namespace Sys2Proof.Machine

/-- The physical encoder pipe a logical pipe runs on, as `SPD_WCT_STS` numbers it: 0 to 15 the homes, 16 to 19 the spares (R214, R363). -/
def State.physPipe (s : State) (p : Nat) : Nat := if s.onSpare p then spareUnit p else homeUnit p

/-- A launch on a pipe under a window-cache test stops the test (R351): it is counted, and the region keeps its turn. -/
def State.stopTest (s : State) (p : Nat) : State :=
  match storeFind s.banks.testing (p / 4) with
  | some (u, _, _) =>
    if p < 16 ∧ u = s.physPipe p then
      let s1 := { s with banks := { s.banks with testing := storeDrop s.banks.testing (p / 4) } }
      (s1.bumpFld SPD_WCT_STS_ABORT_CNT).setFlag SPD_WCT_STS_BUSY (!s1.banks.testing.isEmpty)
    else s
  | none => s

/-- The pipes a stream's configuration asks for (R94, R162). -/
def Stream.pipesWanted (x : Stream) : Nat := cfg x.words 4 0 (if x.dec then 4 else 5)

/-- A gap is coded as a repeat (R151, R242). -/
def Stream.repeats (x : Stream) : Bool := cfg x.rateCfg 10 4 1 == 1 || rateMode x.rateCfg == 0 || isRing x.words

/-- The SRTP key of a stream's egress flow switches at the launch of a picture (R494). -/
def State.switchKey (s : State) (x : Stream) : State :=
  match flowOf false x.words with
  | some f =>
    let ws := (s.flow f).words
    if !x.dec ∧ (s.flow f).live ∧ (word ws 0).testBit 4 then s.promoteKey (natField (word ws 6) 16 16) else s
  | none => s

/-- The picture of a stream bound to tick `n` launches on its pipes (R35). -/
def State.launchOn (s : State) (h n : Nat) : State :=
  let x := s.stream h
  let pipes := s.pipesNow h
  let s1 := (pipes.foldl State.stopTest s).switchKey x
  if x.dec then
    match s1.codec.dec.find? fun p => p.stream == h && !p.launched && p.tick == n with
    | some q => s1.launchDec h n q pipes
    | none => s1
  else s1.launchEnc h n (s1.codec.enc.find? fun p => p.stream == h && !p.launched && p.tick == n && p.cmd.isSome) pipes

/-- The pictures of a stream bound to tick `n` are not run: LATE_SUBMIT, with a detail (R39, R43). -/
def State.lateTick (s : State) (h n detail : Nat) : State :=
  let es := s.codec.enc.filter fun p => p.stream == h && !p.launched && p.tick == n
  let ds := s.codec.dec.filter fun p => p.stream == h && !p.launched && p.tick == n
  let s1 := { s with codec := { s.codec with enc := s.codec.enc.filter (fun p => !(p.stream == h && !p.launched && p.tick == n)),
                                             dec := s.codec.dec.filter fun p => !(p.stream == h && !p.launched && p.tick == n) } }
  let s2 := es.foldl (fun t p => t.answerLater p.cmd 0x15 detail 0) s1
  (ds.foldl (fun t p => (t.bpFreeAll p.staged).answerLater p.cmd 0x15 detail 0) s2).settleClose h

/-- A launch waits while a pipe of the stream still carries a picture (R200): it is noted in the picture, or in a repeat that no command
names. -/
def State.delayLaunch (s : State) (h n : Nat) : State :=
  let mine := fun (st t : Nat) (l : Bool) => st == h && !l && t == n
  let es := s.codec.enc.map fun p => if mine p.stream p.tick p.launched then { p with delayed := some s.tb.run } else p
  let ds := s.codec.dec.map fun p => if mine p.stream p.tick p.launched then { p with delayed := some s.tb.run } else p
  let bound := (s.codec.enc.any fun p => mine p.stream p.tick p.launched) || (s.stream h).dec
  let more : List EncPic := if bound then [] else [{ stream := h, tick := n, delayed := some s.tb.run }]
  { s with codec := { s.codec with enc := es ++ more, dec := ds } }

/-- What a stream's launch instant of tick `n` brings (R43, R151, R171, R200, R249, R440): the launch of the picture bound to it, a repeat,
a gap, or a wait. -/
def State.launchTick (s0 : State) (h n : Nat) : State :=
  let s := s0.settleConfig h
  let x := s.stream h
  let bound := (s.codec.enc.any fun p => p.stream == h && !p.launched && p.tick == n) ||
    s.codec.dec.any fun p => p.stream == h && !p.launched && p.tick == n
  let pipes := s.pipesNow h
  let placed := !pipes.isEmpty && pipes.length == x.pipesWanted
  if cfg x.words 4 12 1 = 1 ∧ x.lockWait ∧ !s.flag TB_STATUS_LOCKED then (s.lateTick h n 3).gapTick h
  else if x.st = .migrating ∨ 2 ≤ s.fld PM_STATE_STATE ∨ !placed then (s.lateTick h n 2).gapTick h
  else if !bound ∧ (x.dec ∨ !x.launched) then s
  else if !bound ∧ !x.repeats then s.gapTick h
  else if s.inFlight h ∨ pipes.any s.pipeBusy then s.delayLaunch h n
  else s.launchOn h n

/-- A stream has a launch instant at the running tick that has not come (R34, R35). -/
def State.launchDue (s : State) (x : Stream) : Bool :=
  s.flag TK_CTRL_EN && !s.flag TK_CTRL_PENDING && decide (x.handled ≤ s.tickIndex) && decide (x.d ≠ 0) &&
    (x.st == .configured || x.st == .running || x.st == .closing || x.st == .migrating)

/-- Every launch of the running tick with L below 1 ms has fired (R56). -/
def State.launchesDone (s : State) : Bool :=
  s.streams.all (fun e => !(s.launchDue e.2 && decide (e.2.l < 1000000))) &&
    (s.codec.enc.all fun p => p.delayed.isNone || decide (1000000 ≤ (s.stream p.stream).l)) &&
    s.codec.dec.all fun p => p.delayed.isNone || decide (1000000 ≤ (s.stream p.stream).l)

/-- Source 98 after a launch with L below 1 ms, when it was the last (R56). -/
def State.noteLaunch (s : State) (l : Nat) : State := if l < 1000000 ∧ s.launchesDone then s.tbEvent 98 else s

/-- Device time reaches T(n) + L of a stream (R35). -/
def State.launch (s : State) (h : Nat) : State :=
  let x := s.stream h
  if !s.launchDue x then s
  else
    let n := s.tickIndex
    let s1 := (s.reach (s.tickTime n + x.l)).onStream h fun y => { y with handled := n + 1 }
    (s1.launchTick h n).noteLaunch x.l

/-- PICTURE_LAUNCH (R35). -/
def execPictureLaunch (stream : Nat) (s : State) : Out := finish (s.launch stream)

/-- DELAYED_LAUNCH (R200): the last of a waiting picture's pipes is free, and it launches on all of them, with its full time. -/
def execDelayedLaunch (stream : Nat) (s : State) : Out :=
  finish <|
    let wait := ((s.codec.enc.find? fun p => p.stream == stream && !p.launched && p.delayed.isSome).map fun p => (p.tick, p.delayed.getD 0)).orElse
      fun _ => (s.codec.dec.find? fun p => p.stream == stream && !p.launched && p.delayed.isSome).map fun p => (p.tick, p.delayed.getD 0)
    match wait with
    | none => s
    | some (n, since) =>
      if s.inFlight stream ∨ (s.pipesNow stream).any s.pipeBusy then s
      else
        let d := s.tb.run - since
        let l := (s.stream stream).l
        let s1 := ((s.bump .SLT_DELAY_CNT).maxReg .SLT_DELAY_MAX d).sample 17 0 d
        let s2 := { s1 with codec := { s1.codec with enc := s1.codec.enc.filter fun p => !(p.stream == stream && !p.launched && p.cmd.isNone) } }
        ((s2.settleConfig stream).launchOn stream n).noteLaunch l

/-- Position 8 of a tick (R32): the launches with L = 0. -/
def State.launchZero (s : State) : State :=
  s.streams.foldl (fun t e => if e.2.l = 0 ∧ t.launchDue (t.stream e.1) then t.launch e.1 else t) s

end Sys2Proof.Machine
end

