-- ==== Sys2Proof/Machine/Ring.lean ====
section
/-!
DEFINITION. Ring membership: joining and leaving, Fulet links, HELLO, roles and their switches, beacons, and messages that are discarded
or refused (R48 to R50, R218 to R228, R256, R261 to R263).
-/
namespace Sys2Proof.Machine

/-! ### Links -/

/-- The lane group of a Fulet link (R257). -/
def linkGroup (k : Nat) : Nat := 2 * (k % 2) + 1

/-- A Fulet link restarts at step 1 of its bring-up (R261): its lanes are reset. -/
def State.trainLink (s : State) (k : Nat) : State :=
  let s1 := (s.setReg .FL_STS 1 k).setLanes (s.groupLanes (linkGroup k)) 1 0
  { s1 with ring := { s1.ring with rtt := storeDrop s1.ring.rtt k } }

/-- A Fulet link is DOWN. -/
def State.stopLink (s : State) (k : Nat) (delayErr : Bool) : State :=
  let s1 := (s.setReg .FL_STS 0 k).setFlag FL_STS_DELAY_ERR delayErr k
  let g := linkGroup k
  s1.setLanes (s1.groupLanes g) (if s1.groupUse g = 0 then 0 else 1) 0

/-- The neighbour on a link is confirmed, or no longer (R219, R253). -/
def State.setNb (s : State) (k : Nat) (b : Bool) : State :=
  if k = 0 then s.setFlag RING_STS_FL0_NB b else s.setFlag RING_STS_FL1_NB b

/-- A neighbour is lost (R220, R263): PARTITIONED and its event. -/
def State.partition (s : State) (k : Nat) : State :=
  ((s.setNb k false).setFld RING_STS_PARTITIONED 1).event RING_EVT_NB_LOSS

/-- An UP link goes down and restarts (R263, R355): what is on it is lost, its queues are flushed. -/
def State.linkDown (s : State) (k : Nat) : State :=
  let s1 := if (storeFind s.net.sending (4 + k)).isSome then s.frameEnds (4 + k) else s
  let s2 := ((s1.trainLink k).flushPort (4 + k)).bump .FL_RETRAIN_CNT 1 k
  let s3 := s2.event FL_EVT_DOWN k
  if s3.joined then s3.partition k else s3

/-- FULET_LINK_DOWN (R263). -/
def execFuletLinkDown (link : Nat) (s : State) : Out := finish (if link < 2 ∧ s.linkUp link then s.linkDown link else s)

/-- Ring identifier, position and size: of the ring joined, or of the RING_JOIN in progress (R219). -/
def State.ringId (s : State) : Nat × Nat × Nat :=
  match s.ring.joining with
  | some j => (natField (j.cmd.p 0) 0 5, natField (j.cmd.p 0) 5 5, natField (j.cmd.p 0) 10 6)
  | none => (s.fld RING_CFG_RING_ID, s.ringPos, s.ringSize)

/-- A HELLO or its ECHO goes out on a link (R223): the residence time of an ECHO is measured, a free value. -/
def State.sendHello (s : State) (k seq : Nat) (echo : Bool) : State :=
  let (id, pos, size) := s.ringId
  let lead := s.ring.tlead.getD 0xFF
  let flags := echo.toNat + (decide (s.ring.tlead = some pos)).toNat * 2 + s.ring.hasTable.toNat * 4
  let res := if echo then s.free.toNat % 2 ^ 32 else 0
  let s1 := if echo then s.tookFree else s
  let pl := (List.range 64).map fun r => (s.leadOf r).getD 0xFF
  s1.submit { queue := ringQueue k 7, bytes := 128, kind := 1, owner := k, tick := s.tickIndex,
              words := [4, 0, pos, 0, s.epochAt s.tickIndex, s.tickIndex, id, pos, size, flags, s.fld TK_NUM_NUM, s.fld TK_DEN_DEN, seq, res,
                        s.regN .GLB_SERIAL, s.regN .RING_EPOCH, s.regN .RING_EPOCH_TICK, lead] ++ pl }

/-- FULET_LINK_UP (R258, R261, R262): a link finishes bring-up or retraining with the lanes and rate given, and sends HELLO. -/
def execFuletLinkUp (link lanes : Nat) (rate25 degraded stepFail reversed : Bool) (skew : Nat) (s : State) : Out :=
  finish <|
    let st := s.fld FL_STS_STATE link
    if 2 ≤ link ∨ st = 0 ∨ st = 5 ∨ s.groupUse (linkGroup link) ≠ 2 then s
    else
      let fast := rate25 && s.flag FL_CFG_MAX25 link && !stepFail
      let n := min (min lanes 2) (min 2 (s.fld FL_CFG_LANES link))
      let s1 := s.putN .FL_STS (5 + fast.toNat * 8 + n * 16 + degraded.toNat * 64 + stepFail.toNat * 128 + reversed.toNat * 512) link
      let s2 := (s1.setFld FL_SKEW_SKEW skew link).lockLanes ((s1.groupLanes (linkGroup link)).take (2 ^ n)) fast.toNat
      let s3 := ((s2.event FL_EVT_UP link).eventIf degraded FL_EVT_DEGRADED link).eventIf stepFail FL_EVT_STEP_FAIL link
      if s3.joined ∨ s3.ring.joining.isSome then s3.sendHello link 1 false else s3

/-! ### Roles -/

/-- The role registers follow the role table (R225, R253). -/
def State.showRoles (s : State) : State :=
  let s1 := (s.setFld RING_TICK_LEAD_POS (s.ring.tlead.getD 0)).setFlag RING_STS_TICK_LEAD s.isTickLead
  s1.streams.foldl (fun t (h, _) => t.showRing h) s1

/-- The role table comes from a neighbour's HELLO (R219, R223). -/
def State.copyTable (s : State) (h : HelloMsg) : State :=
  if !h.hasTable ∨ s.ring.hasTable then s
  else
    let pl := h.pleads.zipIdx.foldl (fun (m : Store Nat) (p, r) => if p < 32 then storeInsert m r p else m) []
    let tl := if h.tlead < 32 then some h.tlead else none
    let s1 := { s with ring := { s.ring with hasTable := true, tlead := tl, plead := pl } }
    (s1.putN .RING_EPOCH h.epoch).putN .RING_EPOCH_TICK h.epochTick

/-- The scheduled role change of the running tick takes effect (R226), and the ROLE_SET of this device is answered. -/
def State.roleTick (s : State) : State :=
  match s.ring.switch with
  | none => s
  | some w =>
    if s.tickIndex < w.tick then s
    else
      let own := s.ring.ownSwitch
      let tl := if w.kind = 0 then some w.pos else s.ring.tlead
      let pl := if w.kind = 0 then s.ring.plead else storeInsert s.ring.plead w.rsid w.pos
      let s1 := { s with ring := { s.ring with switch := none, ownSwitch := none, tlead := tl, plead := pl } }
      let s2 := ((s1.putN .RING_EPOCH_PREV (s.regN .RING_EPOCH)).putN .RING_EPOCH w.epoch).putN .RING_EPOCH_TICK w.tick
      let s3 := ((s2.setFld RING_STS_SWITCH_PENDING 0).event RING_EVT_ROLE).showRoles
      match own with
      | some (c, o) => if o = w then s3.answer c 0 0 w.epoch else s3.answer c 0x13 1 0
      | none => s3

/-- ROLE_SET (R226): a position outside the ring names P0 (DESIGN CHOICE: no detail of the table does). -/
def opRoleSet (c : Cmd) (s : State) : Res :=
  let kind := c.p 0 % 4
  let want := c.p64 1
  let tick := if want = 0 then s.tickIndex + 2 else want
  if s.packageB then Res.bad s 0x00F006
  else if 2 ≤ kind then Res.bad s 1
  else if s.ring.switch.isSome then Res.bad s 2
  else if tick < s.tickIndex + 2 then Res.bad s 3
  else if !s.joined ∨ s.ringSize ≤ natField (c.p 0) 8 5 then Res.badWord s 0
  else
    let w : RoleSwitch := { kind := kind, rsid := natField (c.p 0) 2 6, pos := natField (c.p 0) 8 5, origin := s.ringPos
                            epoch := s.regN .RING_EPOCH + 1, tick := tick }
    let s1 := ({ s with ring := { s.ring with switch := some w, ownSwitch := some (c, w) } }).setFld RING_STS_SWITCH_PENDING 1
    Res.later (s1.sendAll 2 s.tickIndex 16 [w.kind, w.rsid, w.pos, w.origin, w.epoch, w.tick])

/-- ROLE_SET. -/
def execRoleSet (c : Cmd) (s : State) : Out := runCommand c opRoleSet s

/-- ROLE_UPDATE (R226): of two updates with the same new epoch the lower origin wins. -/
def execRoleUpdate (m : RingHdr) (kind rsid pos origin newEpoch switchTick : Nat) (s : State) : Out :=
  finish <|
    let s0 := s.relay m 2 16 [kind, rsid, pos, origin, newEpoch, switchTick]
    s0.accept m 2 0 rsid true fun s =>
      let w : RoleSwitch := { kind := kind, rsid := rsid % 64, pos := pos % 32, origin := origin, epoch := newEpoch, tick := switchTick }
      let wins := match s.ring.switch with | none => true | some o => o.epoch == newEpoch && decide (origin < o.origin)
      if 2 ≤ kind ∨ newEpoch ≠ s.regN .RING_EPOCH + 1 ∨ !wins then s
      else ({ s with ring := { s.ring with switch := some w } }).setFld RING_STS_SWITCH_PENDING 1

/-- NAK (R227, R240): the NAK of an ASK ends it as a grant of 0; the consequence of any other drop is stated with its message. -/
def execNak (m : RingHdr) (type reason seq rsid epoch tick : Nat) (s : State) : Out :=
  finish <|
    let s0 := s.relay m 3 16 [type, reason, seq, rsid, epoch, tick]
    s0.accept m 3 0 rsid true fun s => if type = 0x12 then s.onRs (rsid % 64) fun r => { r with askOpen := false } else s

/-- MESSAGE_DISCARD (R221, R260): a bad CRC is counted at its link, a reserved TYPE in `RING_UNKNOWN_CNT`. -/
def execMessageDiscard (link : Nat) (badCrc : Bool) (s : State) : Out :=
  finish <|
    if 2 ≤ link then s
    else if badCrc then (s.bump .FL_CRC_CNT 1 link).event FL_EVT_CRC link else s.bump .RING_UNKNOWN_CNT

/-! ### Joining -/

/-- The RING client votes for LG1, LG3 and NET while the device has joined (R436). -/
def State.ringVotes (s : State) : State := ((s.vote 3 11 s.joined).vote 3 13 s.joined).vote 3 14 s.joined

/-- A RING_JOIN fails (R219): the device stays outside any ring. -/
def State.failJoin (s : State) (detail : Nat) : State :=
  match s.ring.joining with
  | none => s
  | some j =>
    let s1 := { s with ring := { s.ring with joining := none, rtt := [], nbSerial := [], hasTable := false, tlead := none, plead := [] } }
    let s2 := ((s1.stopLink 0 false).stopLink 1 false).resetReg .RING_STS
    let s3 := (((s2.resetReg .RING_FL_DELAY).resetReg .RING_EPOCH).resetReg .RING_EPOCH_TICK)
    s3.answer j.cmd 0x11 detail 0

/-- A RING_JOIN succeeds (R219): the identity registers, the role table where none exists, the votes, the reply. -/
def State.endJoin (s : State) : State :=
  match s.ring.joining with
  | none => s
  | some j =>
    let (id, pos, size) := s.ringId
    let dom := natField (j.cmd.p 12) 0 1
    let make := !s.ring.hasTable && natField (j.cmd.p 0) 16 1 == 1
    let s1 := { s with ring := { s.ring with joining := none, hasTable := s.ring.hasTable || make,
                                             tlead := if make then some pos else s.ring.tlead } }
    let s2 := if make then (s1.putN .RING_EPOCH 1).putN .RING_EPOCH_TICK s.tickIndex else s1
    let s3 := (s2.putN .RING_CFG (id + pos * 32 + size * 1024 + 2 ^ 16 + dom * 2 ^ 17)).putN .RING_DOM_DIR (if dom = 1 then j.cmd.p64 10 else 0)
    let whole := s3.flag RING_STS_FL0_NB && s3.flag RING_STS_FL1_NB
    let s4 := (s3.setFld RING_STS_STATE 2).setFlag RING_STS_PARTITIONED (!whole)
    (((if whole then s4 else s4.event RING_EVT_NB_LOSS).showRoles).ringVotes).answer j.cmd 0 0 pos

/-- RING_JOIN (R219, R261): both links start their bring-up, and the reply waits for the neighbours. -/
def opRingJoin (c : Cmd) (s : State) : Res :=
  let size := natField (c.p 0) 10 6
  let two := decide (2 ≤ c.own)
  let dom := two && natField (c.p 12) 0 1 == 1
  let dir := c.p64 10
  let detail :=
    if s.joined ∨ s.ring.joining.isSome ∨ size < 2 ∨ 32 < size ∨ size ≤ natField (c.p 0) 5 5 then some 1
    else if s.fuse GLB_FUSE_CFG_RING = 0 then some 6
    else if dom ∧ (s.fuse GLB_FUSE_CFG_DOMAIN = 0 ∨ dir = 0) then some 7
    else if c.p 0 / 2 ^ 17 % 2 ^ 15 ≠ 0 then some 0x800000
    else none
  match detail with
  | some d => Res.bad s d
  | none =>
    let c1 := if two then c else { c with params := c.params.take 10 }
    let s1 := { s with ring := { s.ring with joining := some { cmd := c1, since := s.tb.run }, nbSerial := [] } }
    Res.later (((s1.trainLink 0).trainLink 1).setReg .RING_STS 1)

/-- RING_JOIN. -/
def execRingJoin (c : Cmd) (s : State) : Out := runCommand c opRingJoin s

/-- RING_JOIN_TIMEOUT (R219): 1 s after the join began, with one neighbour confirmed or none. -/
def execRingJoinTimeout (s : State) : Out :=
  finish <|
    match s.ring.joining with
    | none => s
    | some j =>
      let s1 := s.reachRun (j.since + 1000000000)
      if s1.flag RING_STS_FL0_NB ∨ s1.flag RING_STS_FL1_NB then s1.endJoin else s1.failJoin 5

/-- Fields of a HELLO that its receiver checks (R219): the detail of the first that fails. Grids are compared as rational numbers. -/
def State.helloError (s : State) (k : Nat) (h : HelloMsg) : Option Nat :=
  let (id, pos, size) := s.ringId
  let n := max 1 size
  let want := if k = 0 then (pos + n - 1) % n else (pos + 1) % n
  if h.num * s.fld TK_DEN_DEN ≠ s.fld TK_NUM_NUM * h.den then some 2
  else if h.ringId ≠ id ∨ h.size ≠ size ∨ h.pos ≠ want then some 3
  else none

/-- A link's delay is known (R219, R263): half the smallest of four round trips. -/
def State.linkTimed (s : State) (k delay serial : Nat) : State :=
  let known := storeFind s.ring.nbSerial k
  if 500 < delay then (if s.ring.joining.isSome then s.failJoin 4 else s.stopLink k true)
  else if known.isSome ∧ known ≠ some serial then s.stopLink k true
  else
    let s1 := ({ s with ring := { s.ring with nbSerial := storeInsert s.ring.nbSerial k serial } }).setNb k true
    let s2 := if k = 0 then s1.setFld RING_FL_DELAY_FL0 delay else s1.setFld RING_FL_DELAY_FL1 delay
    if s2.flag RING_STS_FL0_NB ∧ s2.flag RING_STS_FL1_NB then
      (if s2.ring.joining.isSome then s2.endJoin else s2.setFld RING_STS_PARTITIONED 0)
    else s2

/-- HELLO (R219, R223, R263): answered by its ECHO; an ECHO closes a round trip, and four of them time the link. -/
def execHello (m : RingHdr) (h : HelloMsg) (s : State) : Out :=
  finish <|
    let k := m.link
    if 2 ≤ k ∨ !s.linkUp k ∨ !(s.joined || s.ring.joining.isSome) then s
    else match s.helloError k h with
    | some d => if s.ring.joining.isSome then s.failJoin d else s.stopLink k true
    | none =>
      let s1 := s.copyTable h
      if !h.echo then s1.sendHello k h.seq true
      else
        let old := (storeFind s1.ring.rtt k).getD []
        if 4 ≤ old.length ∨ h.seq ≠ old.length + 1 then s1
        else
          let l := old ++ [h.rtt]
          let s2 := { s1 with ring := { s1.ring with rtt := storeInsert s1.ring.rtt k l } }
          if l.length < 4 then s2.sendHello k (l.length + 1) false
          else s2.linkTimed k (l.foldl min h.rtt / 2) h.serial

/-! ### Leaving -/

/-- Ring membership ends (R220, R256): the identity, role and epoch registers, the role table and the votes; migration records stay. -/
def State.leaveRing (s : State) : State :=
  let s1 := { s with ring := { mig := s.ring.mig, migSeq := s.ring.migSeq } }
  let s2 := [Reg.RING_CFG, .RING_STS, .RING_EPOCH, .RING_EPOCH_PREV, .RING_EPOCH_TICK, .RING_TICK_LEAD, .RING_FL_DELAY, .RING_DOM_DIR].foldl
    (fun t r => t.resetReg r) s1
  s2.ringVotes

/-- A RING_LEAVE takes effect at a tick (R220). -/
def State.leaveTick (s : State) : State :=
  match s.ring.leaving with
  | none => s
  | some c =>
    let s1 := (s.sendTo (s.neighbour 0) 5 s.tickIndex 0 []).sendTo (s.neighbour 1) 5 s.tickIndex 0 []
    s1.leaveRing.answer c 0 0 0

/-- RING_LEAVE (R220): refused while a ring stream is open; else the ring traffic stops at the next tick, or at once while no grid runs. -/
def opRingLeave (c : Cmd) (s : State) : Res :=
  if s.packageB then Res.bad s 0x00F006
  else if s.streams.any fun (_, x) => x.st != .free && isRing x.newest then Res.bad s 1
  else if !s.joined then Res.ok s
  else
    let s1 := ({ s with ring := { s.ring with leaving := some c } }).setFld RING_STS_STATE 3
    if s.flag TK_CTRL_EN then Res.later s1 else Res.later s1.leaveTick

/-- RING_LEAVE. -/
def execRingLeave (c : Cmd) (s : State) : Out := runCommand c opRingLeave s

/-- LEAVE (R220): a neighbour leaves. -/
def execLeave (m : RingHdr) (s : State) : Out :=
  finish <|
    let s0 := s.relay m 5 0 []
    s0.accept m 5 0 0 true fun s => if m.link < 2 then s.partition m.link else s

/-! ### Beacons -/

/-- Position 6 of a tick (R48): the tick lead sends a beacon on both links; any other member counts a tick without one. -/
def State.sendBeacon (s : State) : State :=
  if !s.joined then s
  else if s.isTickLead then s.sendAll 1 s.tickIndex 24 [0, 0, s.fld TK_NUM_NUM, s.fld TK_DEN_DEN]
  else { s with tb := { s.tb with beaconGap := min 3 (s.tb.beaconGap + 1) } }

/-- BEACON (R48, R50, R227, R228): relayed with its residence time and one hop more; the member disciplines itself from the beacon of the
tick with the lower hop count, and from FL0 when they are equal. The first after a loss may step time. -/
def execBeacon (m : RingHdr) (b : BeaconMsg) (s : State) : Out :=
  finish <|
    let s0 := if s.isTickLead then s else s.relay m 1 24 [b.hops + 1, b.correction + b.residence, b.num, b.den]
    if s.isTickLead then s0
    else s0.accept { m with bcast := true } 1 0 0 true fun s =>
      if b.num ≠ s.fld TK_NUM_NUM ∨ b.den ≠ s.fld TK_DEN_DEN then s.event RING_EVT_STALE
      else
        let better := match s.tb.beacon with
          | some (t, hops, link) => t != m.tick || decide (b.hops < hops) || (b.hops == hops && decide (m.link < link))
          | none => true
        let lost := !s.flag TB_STATUS_BEACON_OK
        let s1 := { s with tb := { s.tb with beaconGap := 0, beacon := if better then some (m.tick, b.hops, m.link) else s.tb.beacon } }
        let s2 := s1.setFld TB_STATUS_BEACON_OK 1
        if !better ∨ s.fld TB_CTRL_SRC ≠ 3 then s2
        else
          let s3 := s2.servoUpdate (unsigned 32 (clampInt (-2147483648) 2147483647 b.offset))
          if lost ∧ 1000 < b.offset.natAbs then (s3.stepTime (((s3.tb.ns : Int) - b.offset).toNat)).showGates.overruns s else s3

/-- BEACON_LOSS (R50): three ticks without a beacon. -/
def execBeaconLoss (s : State) : Out :=
  finish <|
    if s.joined ∧ !s.isTickLead ∧ 3 ≤ s.tb.beaconGap ∧ s.flag TB_STATUS_BEACON_OK then
      ((s.setFld TB_STATUS_BEACON_OK 0).setFld TB_STATUS_HOLDOVER 1).tbEvent 101
    else s

end Sys2Proof.Machine
end

