-- ==== Sys2Proof/Machine/Campion.lean ====
section
/-!
DEFINITION. A ring picture: PLAN and the ring's bit budget, tokens, FINAL, halos, seams and forwarded bands (R231 to R244).
-/
namespace Sys2Proof.Machine

/-! ### PLAN -/

/-- A member takes a PLAN (R237 to R242): its shares and types; a carry that the bank has not counted, or that is void, is discarded. A
member that is not picture lead learns the ring's buffer fill from it, so that it can take the lead over. -/
def State.applyPlan (s : State) (tick : Nat) (p : PlanMsg) : State :=
  match s.ringStream p.rsid with
  | none => s
  | some h =>
    let x := s.stream h
    let r := s.rs p.rsid
    let lose := p.carryVoid || !p.finalSeen.testBit s.ringPos
    let gone := decide (r.carry ≠ 0) && lose
    let carried := if p.carryVoid ∨ r.finalTick + 1 ≠ tick then 0
      else ((r.finals.filter fun e => p.finalSeen.testBit e.1).map fun e => e.2.carry).sum
    let s1 := s.onRs p.rsid fun r =>
      { r with planTick := some tick, keyNow := p.key, nextKey := p.nextKey, target := p.target, shares := p.shares
               badCfg := p.digest != digestOf x.codec x.newest, carry := if lose then 0 else r.carry }
    let s2 := if gone then s1.bump .RING_TOKEN_LATE_CNT else s1
    let s3 := if s.isLead p.rsid then s2 else s2.onStream h fun x => { x with rate := { x.rate with fill := p.cap + carried } }
    s3.showRs p.rsid

/-- Every FINAL of a tick has arrived (R239). -/
def State.finalsIn (s : State) (r n : Nat) : Bool :=
  let x := s.rs r
  x.finalTick == n && (List.range s.ringSize).all fun p => (storeFind x.finals p).isSome

/-- The next picture's type as the picture lead announces it (R116, R239): `n` is the tick of the PLAN. -/
def State.nextIsKey (s : State) (h n : Nat) (key cut : Bool) : Bool :=
  let x := s.stream h
  let r := s.rs (rsid x.words)
  let k := cfg x.words 5 0 16
  let since := if key then 0 else x.rate.sinceKey + 1
  r.keyDue || (r.started && x.keyDue) || (k != 0 && decide (k ≤ since)) || (x.keyReq.any fun t => decide (t ≤ n + 1))
    || (cut && cfg x.words 5 16 1 == 1)
    || s.codec.enc.any fun p => p.stream == h && (word p.words 3).testBit 0 && (p.tick == n + 1 || (p.tick == n && !key && !p.launched))

/-- The picture lead sends PLAN(n) (R237 to R239). The order count is the codec's, a free value. -/
def State.sendPlan (s : State) (r n : Nat) : State :=
  match s.ringStream r with
  | none => s
  | some h =>
    let x := s.stream h
    let q := s.rs r
    if x.dec ∨ !s.isLead r ∨ x.words.isEmpty ∨ q.planSent = some n ∨ !(x.st == .configured || x.st == .running || x.st == .closing) then s
    else
      let fs := if q.finalTick + 1 = n then q.finals else []
      let bits := (fs.map fun e => e.2.bits).sum + q.leadBits
      let cplx := (fs.map fun e => e.2.cplx).sum
      let rep := fs.any fun e => e.2.flags.testBit 2
      let moved := if x.launched then s.advanceFill x bits fs.isEmpty else x.rate
      let rate := { moved with complexity := if fs.isEmpty ∨ rep then moved.complexity else (cplx :: moved.complexity).take 64 }
      let x1 := { x with rate := rate }
      let key := !q.started || q.nextKey
      let rk := x1.startRate n key
      let ws := (List.range 10).map (word x.words) ++ rk.words
      let capMin := min (rateC ws * s.fld TK_NUM_NUM / max 1 (s.fld TK_DEN_DEN)) (startFill ws)
      let k := (fs.map fun e => e.2.carry).sum
      let void := decide (rk.fill < capMin + k)
      let cap := if void then rk.fill else rk.fill - k
      let size := s.ringSize
      let units := fun p => bandUnits x.codec size x.words p
      let all := max 1 ((List.range size).map units).sum
      let shares := (List.range size).map fun p => cap * sharePct x.words * units p / (100 * all)
      let g := encGeo x.codec x.words
      let floorAll := all * floorBits g.codec g.chroma key + bandsAbove x.codec size x.words size * g.hb + headBits key
      let target := match s.encTarget ws rk key cplx with | some t => clampNat (min floorAll cap) cap t | none => 0
      let cuts : Nat := (fs.map fun e => e.2.cut % 65536).sum
      let bands : Nat := (fs.map fun e => e.2.cut / 65536).sum
      let late := fs.any fun e => e.2.flags.testBit 1
      let s0 := if late then s.onRs r fun q => { q with keyDue := true } else s
      let next := s0.nextIsKey h n key (decide (0 < bands) && decide (bands ≤ 2 * cuts))
      let order := s.free.toNat % 2 ^ 32
      let p : PlanMsg := { rsid := r, key := key, nextKey := next, carryVoid := void, digest := digestOf x.codec x.newest, cap := cap
                           target := target, finalSeen := maskOf (fs.map Prod.fst), order := order, shares := shares }
      let s1 := (s0.tookFree.setStream h { x1 with keyDue := false, keyReq := x.keyReq.filter fun t => decide (n + 1 < t) }).onRs r fun q =>
        { q with planSent := some n, pool := cap - shares.sum - headBits key, leadBits := 0, keyDue := false }
      let s2 := s1.sendAll 0x10 n 160 ([r, key.toNat + next.toNat * 2 + void.toNat * 4, p.digest, cap, target, p.finalSeen, order] ++ shares)
      (s2.applyPlan n p).showStream h

/-- Position 6 of a tick (R239): every picture lead whose FINALs of the tick before have all arrived, or whose stream has coded no picture,
sends PLAN. -/
def State.planTick (s : State) : State :=
  s.streams.foldl (fun (t : State) (_, x) =>
    if isRing x.words ∧ !x.dec then
      let r := rsid x.words
      if !x.launched ∨ t.finalsIn r (t.tickIndex - 1) then t.sendPlan r t.tickIndex else t
    else t) s

/-- PLAN (R239): relayed, and taken by every member. -/
def execPlan (m : RingHdr) (p : PlanMsg) (s : State) : Out :=
  finish <|
    let words := [p.rsid, p.key.toNat + p.nextKey.toNat * 2 + p.carryVoid.toNat * 4, p.digest, p.cap, p.target, p.finalSeen, p.order] ++ p.shares
    (s.relay m 0x10 160 words).accept m 0x10 0 p.rsid true fun s => s.applyPlan m.tick p

/-- PLAN_SEND_TIMEOUT (R239): T(n) + 1 µs with a FINAL missing. -/
def execPlanSendTimeout (rsid : Nat) (s : State) : Out :=
  finish <|
    let n := s.tickIndex
    if !s.flag TK_CTRL_EN ∨ !s.isLead rsid ∨ (s.rs rsid).planSent = some n then s
    else (s.reach (s.tickTime n + 1000)).sendPlan rsid n

/-! ### Tokens -/

/-- DONATE (R240): the bank takes bits. -/
def execDonate (m : RingHdr) (rsid seq bits : Nat) (s : State) : Out :=
  finish <| (s.relay m 0x11 16 [rsid, seq, bits]).accept m 0x11 seq rsid (s.isLead rsid) fun s => s.bankTake rsid bits

/-- ASK (R240): the bank answers at once. -/
def execAsk (m : RingHdr) (rsid seq bits : Nat) (s : State) : Out :=
  finish <| (s.relay m 0x12 16 [rsid, seq, bits]).accept m 0x12 seq rsid (s.isLead rsid) fun s => (s.bankGrant rsid m.src seq bits).1

/-- GRANT (R240, R241): added to the cap of the picture in flight; once its last unit has passed the bit check, it is carried into the next
picture, or discarded in CBR mode. -/
def execGrant (m : RingHdr) (rsid seq bits : Nat) (s : State) : Out :=
  finish <| (s.relay m 0x13 16 [rsid, seq, bits]).accept m 0x13 seq rsid true fun s =>
    match s.ringStream rsid with
    | none => s
    | some h =>
      let s1 := s.onRs rsid fun r => { r with askOpen := false }
      let live := match s.encOf h with | some q => !q.passed && q.tick == m.tick | none => false
      if live then
        ((s1.onEnc h fun q => { q with cap := q.cap + bits }).onRs rsid fun r => { r with granted := r.granted + bits }).showRs rsid
      else
        let s2 := if bits = 0 then s1 else s1.bump .RING_TOKEN_LATE_CNT
        if rateMode (s.stream h).rateCfg = 0 then s2
        else (s2.onRs rsid fun r => { r with carry := r.carry + bits }).showRs rsid

/-- FINAL (R227, R237, R241): every member holds the ring model, so a broadcast FINAL needs no role; the picture lead sends the PLAN that
waited for it. -/
def execFinal (m : RingHdr) (rsid flags bits carry cplx cut : Nat) (s : State) : Out :=
  finish <| (s.relay m 0x14 20 [rsid, 0, flags, bits, carry, cplx, cut]).accept m 0x14 0 rsid (m.bcast || s.isLead rsid) fun s =>
    if (s.rs rsid).finalTick > m.tick ∨ (s.ringStream rsid).isNone then s
    else
      let f : FinalRec := { flags := flags, bits := bits, carry := carry, cplx := cplx, cut := cut }
      let s1 := s.onRs rsid fun r =>
        let r0 := if r.finalTick = m.tick then r else { r with finalTick := m.tick, finals := [] }
        { r0 with finals := storeInsert r0.finals m.src f }
      let s2 := if s.isLead rsid then s1.putN .RING_RS_POOL (s1.rs rsid).pool rsid else s1
      if s2.isLead rsid ∧ m.tick + 1 = s2.tickIndex ∧ s2.finalsIn rsid m.tick then s2.sendPlan rsid s2.tickIndex else s2

/-! ### Halos -/

/-- HALO (R233, R235): bytes of a neighbour's border rows; the side arrives once all are held, unless it is missing already. -/
def execHalo (m : RingHdr) (h : DataHdr) (s : State) : Out :=
  finish <| (s.relay m 0x20 (16 + h.bytes) [h.rsid, h.flags, h.index, h.offset, h.total, h.bytes]).accept m 0x20 0 h.rsid true fun s =>
    match s.ringStream h.rsid with
    | none => s
    | some g =>
      let side := 1 - h.flags % 2
      let x := s.stream g
      let limit := s.tickTime m.tick + haloDl x.words
      s.onRs h.rsid fun r =>
        let old := r.side side
        if m.tick < old.tick then r
        else
          let cur := if old.tick = m.tick then old else { tick := m.tick }
          let n := cur.bytes + h.bytes
          r.setSide side { cur with bytes := n, arrived := decide (haloBytes x.words ≤ n) && !cur.missing && decide (s.tb.ns ≤ limit) || cur.arrived }

/-- HALO_DEADLINE (R235): T(n) + HALO_DL. -/
def execHaloDeadline (rsid side : Nat) (s : State) : Out :=
  finish <|
    match s.ringStream rsid with
    | none => s
    | some h =>
      if !s.joined ∨ !s.flag TK_CTRL_EN then s
      else (s.reach (s.tickTime s.tickIndex + haloDl (s.stream h).words)).missHalo rsid s.tickIndex (side % 2)

/-! ### Seams -/

/-- Bytes of a seam image come in for the picture of a tick (R236), and the strip is filtered and returned once it can be. -/
def State.seamIn (s : State) (m : RingHdr) (h : DataHdr) (up : Bool) : State :=
  match s.ringStream h.rsid with
  | none => s
  | some g =>
    if m.tick < (s.rs h.rsid).seamTick then s
    else
      let s1 := s.onRs h.rsid fun r =>
        let r0 := r.seamFor m.tick
        if up then { r0 with seamUp := r0.seamUp + h.bytes } else { r0 with seamDown := r0.seamDown + h.bytes }
      if (s1.encOf g).isSome then s1.seamUnits g else s1.seamBlocks g

/-- SEAM_UP (R236): the unfiltered rows of the member below. -/
def execSeamUp (m : RingHdr) (h : DataHdr) (s : State) : Out :=
  finish <| (s.relay m 0x21 (16 + h.bytes) [h.rsid, h.flags, h.index, h.offset, h.total, h.bytes]).accept m 0x21 0 h.rsid true fun s => s.seamIn m h true

/-- SEAM_DOWN (R236): the filtered rows from the member above. -/
def execSeamDown (m : RingHdr) (h : DataHdr) (s : State) : Out :=
  finish <| (s.relay m 0x22 (16 + h.bytes) [h.rsid, h.flags, h.index, h.offset, h.total, h.bytes]).accept m 0x22 0 h.rsid true fun s => s.seamIn m h false

/-- SEAM_DEADLINE (R236): the time of the picture has run out with a strip not exchanged: its rows stay unfiltered and dirty. -/
def execSeamDeadline (rsid : Nat) (s : State) : Out :=
  finish <|
    match s.ringStream rsid with
    | none => s
    | some h =>
      let due := ((s.encOf h).map EncPic.dueRun).orElse fun _ => (s.decOf h).map DecPic.dueRun
      match due with
      | none => s
      | some t =>
        let s1 := s.reachRun t
        let x := s1.stream h
        if s1.seamsClosed x then s1
        else
          let r := s1.rs rsid
          let below := s1.hasSide 1 && decide (r.seamUp < seamBytes x.words + seamInfo x.words)
          let above := s1.hasSide 0 && decide (r.seamDown < seamBytes x.words)
          let s2 := s1.onRs rsid fun r =>
            { r with seamLate := true, dirty := r.dirty ||| above.toNat ||| below.toNat * 2, keyDue := r.keyDue || s1.isLead rsid }
          (s2.bump .RING_SEAM_LATE_CNT).event RING_EVT_SEAM_LATE

/-! ### Forwarded bands -/

/-- The handle under which the picture lead writes a ring picture. -/
def State.releaseBands (s : State) (rsid : Nat) : State :=
  match s.ringStream rsid with
  | some h => s.releaseGlobal h (s.rs rsid).fwdTick 4096
  | none => s

/-- A fragment of a band is added to what is held of the ring picture (R232); a band of the wrong type is passed by (R242). -/
def RsState.takeFragment (r : RsState) (h : DataHdr) (data : List Byte) (bad : Bool) : RsState :=
  let old := (storeFind r.fwd h.index).getD {}
  let new : FwdBand :=
    { total := h.total, bytes := old.bytes + h.bytes, flags := h.flags, payload := old.payload ++ data, dropped := old.dropped || bad }
  { r with fwd := storeInsert r.fwd h.index new, keyDue := r.keyDue || bad }

/-- BAND (R232, R242): the picture lead gathers the bands and releases them in global order. -/
def execBand (m : RingHdr) (h : DataHdr) (data : List (BitVec 8)) (s : State) : Out :=
  finish <| (s.relay m 0x30 (16 + h.bytes) [h.rsid, h.flags, h.index, h.offset, h.total, h.bytes]).accept m 0x30 0 h.rsid (s.isLead h.rsid) fun s =>
    let r0 := s.rs h.rsid
    if m.tick < r0.fwdTick ∨ (m.tick = r0.fwdTick ∧ h.index < r0.fwdNext) then s
    else
      let s1 := if r0.fwdTick = m.tick then s else s.onRs h.rsid fun r => { r with fwdTick := m.tick, fwd := [], fwdNext := 0 }
      let was := ((storeFind (s1.rs h.rsid).fwd h.index).map FwdBand.dropped).getD false
      let bad := decide ((s1.rs h.rsid).planTick = some m.tick) && (h.flags.testBit 2 != (s1.rs h.rsid).keyNow)
      let s2 := s1.onRs h.rsid fun r => r.takeFragment h data bad
      let s3 := if bad ∧ !was then (s2.bump .RING_DESYNC_CNT).event RING_EVT_DESYNC else s2
      s3.releaseBands h.rsid

/-- FORWARDED_BAND_DROP (R232): at T(n + 1) every band not complete is dropped, and the ring picture goes without it. -/
def execForwardedBandDrop (rsid : Nat) (s : State) : Out :=
  finish <|
    match s.ringStream rsid with
    | none => s
    | some h =>
      let r := s.rs rsid
      let x := s.stream h
      let all := bandsAbove x.codec s.ringSize x.words s.ringSize
      let s1 := s.reach (s.tickTime (r.fwdTick + 1))
      let lack := (List.range all).filter fun j =>
        decide (r.fwdNext ≤ j) && (match storeFind r.fwd j with | some b => !b.dropped && decide (b.bytes < b.total) | none => true)
      if !s.isLead rsid ∨ r.fwdTick = 0 ∨ lack.isEmpty then s
      else
        let s2 := s1.onRs rsid fun r =>
          { r with fwd := lack.foldl (fun f j => storeInsert f j { (storeFind f j).getD {} with dropped := true }) r.fwd }
        let s3 := (s2.bump .RING_FWD_LATE_CNT lack.length).event RING_EVT_FWD_LATE
        let s4 := s3.onEnc h fun q => if q.tick = r.fwdTick then { q with flags := q.flags ||| 64 } else q
        s4.releaseBands rsid

end Sys2Proof.Machine
end

