-- ==== Sys2Proof/Machine/StateWrite.lean ====
section
/-!
DEFINITION. STATE_WRITE: a record is checked and applied as the command its contents describe (R89, R90, R212, R280, R307, R477, R512,
R514).
-/
namespace Sys2Proof.Machine

/-- Bytes `lo` up to `lo + n` of a record, as a number. -/
def recN (r : List Byte) (lo n : Nat) : Nat := leNat ((r.drop lo).take n)
/-- `n` words of a record from byte `lo` on. -/
def recWords (r : List Byte) (lo n : Nat) : List Nat := wordsOf n (r.drop lo)

/-- The words of the last STREAM_CONFIG that a class 0x04 record holds: a ring block, a third slot, or two slots (R118, R163, R212). -/
def configOfRecord (r : List Byte) : List Nat :=
  let ws := recWords r 40 250
  ws.take (if recN r 20 4 % 2 = 1 then 58 else if cfg ws 19 1 1 = 1 then 42 else 26)

/-- The detail a validation gives inside STATE_WRITE (R89). -/
def Res.nested (r : Res) : Res := if r.status < 0x10 then r else { r with detail := 0x400000 + r.detail }

/-- Two records agree on bytes `lo` up to `hi`. -/
def sameBytes (a b : List Byte) (lo hi : Nat) : Bool := ((a.drop lo).take (hi - lo)) == ((b.drop lo).take (hi - lo))

/-- The record changes only what R90 and the chapters permit (R212, R307). -/
def State.writeAllowed (s : State) (cls h : Nat) (r : List Byte) : Bool :=
  let old := s.objectRecord cls h 0
  match cls with
  | 0x04 => true
  | 0x05 => sameBytes old r 24 280 && recN old 16 4 % 128 == recN r 16 4 % 128
  | 0x06 => !s.flag FB_DESC_OWN_POOL h
  | 0x07 =>
    (List.range 32).all fun k =>
      let a := 20 + 8 * k
      let was := recN old (a + 2) 2
      let new := recN r (a + 2) 2
      sameBytes old r a (a + 2) && sameBytes old r (a + 4) (a + 8) && was ||| mkRefAll == new ||| mkRefAll && was &&& new == new
  | 0x08 => true
  | 0x09 => recN old 16 4 % 4 == recN r 16 4 % 4 && sameBytes old r 20 22 && sameBytes old r 24 40 && sameBytes old r 72 1096
  | 0x0A => true
  | 0x0B => true
  | 0x10 => true
  | _ => false

/-- The function may write the object (R89). -/
def State.writeOwner (s : State) (c : Cmd) (cls h : Nat) : Bool :=
  match cls with
  | 0x04 => (s.shownStream h).st == .free || (s.shownStream h).func == c.func || ((s.stream h).st == .free && c.func == 0)
  | 0x06 => s.fld FB_DESC_OWN_FUNC h == c.func
  | 0x07 => (s.stream h).st == .free || (s.stream h).func == c.func
  | 0x08 => !(s.flow h).live || (s.flow h).func == c.func
  | _ => c.func == 0

/-- What a class 0x04 record restores beside the configuration (R212): the counts and the rate state; the stream restarts at a key picture. -/
def Stream.restored (x : Stream) (r : List Byte) (den : Nat) : Stream :=
  let e := signed 64 (recN r 1048 8)
  let staged := recWords r 1104 4
  { x with
    completed := recN r 24 8, lastTick := recN r 32 8, keyDue := true
    rate := { x.rate with
      fill := recN r 1040 8, coded := e.toNat, planned := (-e).toNat * den, alphaInter := recN r 1056 2, alphaKey := recN r 1058 2
      qpLast := recN r 1060 1, qpPic := recN r 1061 1, sinceKey := recN r 1064 4, restart := true
      staged := if word staged 0 % 32 = 0 then none else some (staged, recN r 1120 8) } }

/-- STATE_WRITE of class 0x04 (R212, R514): validated as the STREAM_CONFIG, ENC_RC_UPDATE and LAUNCH_SET its words describe. A FREE handle is
opened only from its survivor record, for the writer. -/
def State.writeStream (s : State) (c : Cmd) (r : List Byte) : Res :=
  let h := c.handle
  let fresh := (s.stream h).st == .free
  let dec := recN r 18 1 % 2 == 1
  let codec := recN r 18 1 / 16
  if fresh ∧ (storeFind s.survivors h).isNone then Res.bad s 0x00F005
  else if (fresh ∧ (3 < codec ∨ (!dec ∧ codec = 3))) ∨ (!fresh ∧ ((s.stream h).dec ≠ dec ∨ (s.stream h).codec ≠ codec)) then Res.bad s 0xC00000
  else
    let s1 := if fresh then
        (State.showSurv { s with survivors := storeDrop s.survivors h }).setStream h
          { st := .opened, dec := dec, codec := codec, func := c.func, lockWait := !s.flag TB_STATUS_LOCKED }
      else s
    let res := s1.configure h (configOfRecord r) (if fresh then some (recN r 1072 8) else none)
    if 0x10 ≤ res.status then Res.nested { res with s := s }
    else
      let upd := recWords r 1104 4
      let s2 := res.s.onStream h fun x => { x.restored r (max 1 (s.fld TK_DEN_DEN)) with rate := { (x.restored r (max 1 (s.fld TK_DEN_DEN))).rate with staged := none } }
      if dec then Res.ok (((s2.putN .DEC_S_REC_HEAD (recN r 1152 4) h).putN .DEC_S_REC_TAIL (recN r 1156 4) h).showStream h)
      else if word upd 0 % 32 = 0 then Res.ok (s2.showStream h)
      else
        let u := opEncRcUpdate { c with params := upd ++ [0, 0, 0, 0, 0, 0] ++ [recN r 1120 4, recN r 1124 4], slots := 2, readback := false } s2
        if 0x10 ≤ u.status then Res.nested { u with s := s } else Res.ok (u.s.showStream h)

/-- The record is applied as the command it describes (R203, R212, R280, R307, R477). -/
def State.writeObject (s : State) (c : Cmd) (cls : Nat) (r : List Byte) : Res :=
  let h := c.handle
  match cls with
  | 0x04 => s.writeStream c r
  | 0x05 =>
    let n := recN r 16 4 / 256 % 128
    let es := recWords r 280 (min n 64)
    if !s.pipePresent h then Res.bad s 0x40F006
    else if s.halfFenced (pipeHalf h) then Res.err s 0x14 0x400003
    else match firstBad (s.slotChecks h n es) with
      | some d => Res.bad s (0x400000 + d)
      | none => Res.ok (s.loadBank h es)
  | 0x06 =>
    let put := fun (m : Store Word) (k : Nat) => storeInsert m (h * 4 + k) (BitVec.ofNat 32 (recN r (16 + 4 * k) 4))
    let s1 := { s with codec := { s.codec with descStage := (List.range 3).foldl put s.codec.descStage } }
    let (s2, ok) := s1.commitDesc c.func h (recN r 28 4)
    if ok then Res.ok s2 else Res.bad s2 0x400000
  | 0x07 =>
    let x := s.stream h
    let gone := x.res.pool.zipIdx.filterMap fun (d, k) =>
      let clear := mkRefAll &&& (s.regN .FB_DESC_MARKS d ^^^ (s.regN .FB_DESC_MARKS d &&& recN r (22 + 8 * k) 2))
      if clear = 0 then none else some (d, if clear &&& mkRef ≠ 0 then mkRefAll else clear)
    let s1 := gone.foldl (fun t (d, m) => t.mark d 0 m) s
    let lost := (gone.filter fun e => e.2 &&& mkRef != 0).map Prod.fst
    Res.ok ((s1.onStream h fun x => { x with refs := x.refs.filter fun d => !lost.contains d }).touch 7 h)
  | 0x08 =>
    let old := s.flow h
    let ws := recWords r 20 26
    let m := recWords r 156 7
    let o := opFlowOpen { c with params := ws } (if old.live then s.setFlow h {} else s)
    if 0x10 ≤ o.status then Res.nested { o with s := s }
    else
      let s1 := if old.live then o.s.setFlow h { old with words := (o.s.flow h).words } else o.s
      if !isIngest h ∨ flowFormat ws ≠ 3 then Res.ok s1
      else
        let i := opIngestMap { c with params := m } s1
        if 0x10 ≤ i.status then Res.nested { i with s := s } else Res.ok i.s
  | 0x09 =>
    let n := recN r 22 2
    let ns := recN r 52 4 % 2 ^ 30
    let copy : GateCopy := { lock := (recN r 16 4).testBit 3, cycle := recN r 40 4, base := recN r 44 8 % 2 ^ 48 * 1000000000 + ns
                             entries := recWords r 1096 (min n 256) }
    if !s.portPresent h then Res.bad s 0x40F006
    else match firstBad (s.gateChecks h copy n ns true) with
      | some d => Res.bad s (0x400000 + d)
      | none => s.gateStage h copy c
  | 0x0A => (opShaperSet { c with params := recWords r 16 4 ++ [recN r 32 1] } s).nested
  | 0x0B => (opPolicerSet { c with params := recWords r 16 4 ++ [recN r 32 1] } s).nested
  | _ => (opMonitorConfig { c with params := (recWords r 16 3) ++ List.replicate 7 0 ++ [recN r 28 4], slots := 2, readback := false } s).nested

/-- STATE_WRITE (R89): the first of its checks that fails answers, and nothing changes. -/
def opStateWrite (c : Cmd) (s : State) : Res :=
  let cls := c.p 0 % 256
  let h := c.handle
  match classHandles cls, c.data with
  | 0, _ => Res.bad s 1
  | _, none => Res.bad s 6
  | n, some r =>
    let size := (s.objectRecord cls h 0).length
    if c.p 4 < 16 ∨ c.p 4 ≠ recN r 8 4 ∨ recN r 0 1 ≠ cls ∨ recN r 2 2 ≠ h ∨ n ≤ h ∨ c.p 4 ≠ size then Res.bad s 5
    else if !s.writeAllowed cls h r then Res.bad s 4
    else if !s.writeOwner c cls h then Res.err s 0x14 2
    else if (cls = 4 ∨ cls = 7) ∧ (s.stream h).st = .migrating then Res.err s 0x16 0
    else if recN r 4 4 ≠ (if cls = 4 ∧ (s.stream h).st = .free ∧ (storeFind s.survivors h).isSome then 0 else s.gen cls h) then Res.bad s 3
    else if (cls = 4 ∨ cls = 7) ∧ (s.accepted h ≠ 0 ∨ s.inFlight h) then Res.bad s 2
    else s.writeObject c cls r

/-- STATE_WRITE: the reply carries the object's new generation (R76). -/
def execStateWrite (c : Cmd) (s : State) : Out :=
  runCommand c (fun c s => let r := opStateWrite c s; if r.status < 0x10 then { r with word := r.s.gen (c.p 0 % 256) c.handle } else r) s

end Sys2Proof.Machine
end

