-- ==== Sys2Proof/Machine/Migrate.lean ====
section
/-!
DEFINITION. Moving a stream between devices, and the unordered I/O writes that a peer sends (R223, R224, R246 to R251, R380, R381, R513).
-/
namespace Sys2Proof.Machine

/-! ### Peers and records -/

/-- This device's domain address: ring identifier and position (R224). -/
def State.domainAddress (s : State) : Nat := s.fld RING_CFG_RING_ID * 32 + s.ringPos

/-- The peer is a member of this device's ring. -/
def State.sameRing (s : State) (peer : Nat) : Bool :=
  s.joined && peer / 32 == s.fld RING_CFG_RING_ID && decide (peer % 32 < s.ringSize) && peer % 32 != s.ringPos

/-- The domain directory's entry of a peer (R224): the mailbox address, when the entry is VALID. -/
def State.dirEntry (s : State) (peer : Nat) : Option Nat :=
  let a := s.regN .RING_DOM_DIR + 16 * (peer % 1024)
  if s.fld RING_CFG_DOMAIN = 1 ∧ (leNat (s.load .device a 2)).testBit 15 then some (leNat (s.load .device (a + 8) 8)) else none

/-- A peer can be reached (R246, R248). -/
def State.reachable (s : State) (peer : Nat) : Bool := s.sameRing peer || (s.dirEntry peer).isSome

/-- A migration message goes to a peer: in its ring as a message, else as one write into this device's slot of its mailbox (R223, R224). -/
def State.migSend (s : State) (peer type : Nat) (payload : List Nat) : State :=
  if s.sameRing peer then s.sendTo (peer % 32) type s.tickIndex 16 payload
  else match s.dirEntry peer with
    | some a => s.emit (.uio (a + 64 * s.domainAddress) 64)
    | none => s

/-- A migration record of Snowdrop. -/
def State.mig (s : State) (h : Nat) : MigRec := (storeFind s.ring.mig h).getD {}

/-- Set a migration record (R250), with the tick of its last step. -/
def State.setMig (s : State) (h : Nat) (m : MigRec) : State :=
  let m1 := if m.step = (s.mig h).step then m else { m with lastTick := s.tickIndex }
  ({ s with ring := { s.ring with mig := storeInsert s.ring.mig h m1 } }).touch 13 h

/-- The handle whose record has a role, an identifier and a peer. -/
def State.findMig (s : State) (role id peer : Nat) : Option Nat :=
  (s.ring.mig.find? fun e => e.2.role == role && e.2.id == id && e.2.peer == peer).map Prod.fst

/-! ### Out -/

/-- Bytes of the copy of a stream (R247): its configuration, its record, the areas of its reservation beside pool and ring, the pool buffers
that carry REF, and the records of its ring not yet sent. -/
def State.copyBytes (s : State) (h : Nat) : Nat :=
  let x := s.stream h
  let areas := (x.res.regions.headD 0) + if x.dec then 0 else ((x.res.regions.drop 2).take 3).sum
  let refs := x.res.pool.filter fun d => s.regN .FB_DESC_MARKS d &&& mkRef != 0
  1000 + (s.objectRecord 4 h 0).length + areas + refs.length * poolBufBytes x.dec x.words
    + (x.unsent.map fun e => roundUp (32 + e.2) 64).sum

/-- STREAM_MIGRATE_OUT (R246): the checks; the stream freezes at the first tick once its pictures have completed. -/
def opStreamMigrateOut (c : Cmd) (s : State) : Res :=
  withStream c none s fun x =>
    let peer := c.p 0 % 1024
    let other := decide (peer / 32 ≠ s.fld RING_CFG_RING_ID) || !s.joined
    let limit := 2 * s.regN .TK_Q * (if s.sameRing peer then 10 else 32)
    match firstBad [(!isRing x.newest, 1), (s.reachable peer || (other && (s.fuse GLB_FUSE_CFG_DOMAIN == 0 || s.fld RING_CFG_DOMAIN == 0)), 2),
                    (!s.reachable peer || decide (s.copyBytes c.handle ≤ limit), 3),
                    (!other || s.fuse GLB_FUSE_CFG_DOMAIN == 1 && s.fld RING_CFG_DOMAIN == 1, 4)] with
    | some d => Res.bad s d
    | none => Res.later (s.setMig c.handle { role := 1, peer := peer, cmd := some c, asked := true })

/-- STREAM_MIGRATE_OUT. -/
def execStreamMigrateOut (c : Cmd) (s : State) : Out := runCommand c opStreamMigrateOut s

/-- A stream freezes (R246): MIGRATING, step FROZEN, and the reply with the migration identifier. -/
def State.freeze (s : State) (h : Nat) (m : MigRec) : State :=
  let id := s.domainAddress * 2 ^ 22 + h * 2 ^ 13 + s.ring.migSeq % 2 ^ 13
  let s1 := { s with ring := { s.ring with migSeq := (s.ring.migSeq + 1) % 2 ^ 13 } }
  let s2 := s1.setMig h { m with asked := false, step := 1, id := id, freeze := s.tickIndex, cmd := none }
  ((s2.onStream h fun x => { x with st := .migrating }).touch 4 h).answerLater m.cmd 0 0 id

/-- A tick of the migrations (R246, R249): streams freeze, and a destination that waits for the commit queries its source. -/
def State.migTick (s : State) : State :=
  s.ring.mig.foldl (fun (t : State) (h, m) =>
    if m.role = 1 ∧ m.asked ∧ t.accepted h = 0 ∧ !t.inFlight h then t.freeze h m
    else if m.role = 2 ∧ m.step = 3 then t.migSend m.peer 0x43 [m.id, m.step, 0]
    else t) s

/-- The source sends its copy (R247), region by region. -/
def State.sendCopy (s : State) (h : Nat) : State :=
  let m := s.mig h
  let x := s.stream h
  let part := fun (t : State) (region idx total : Nat) =>
    if total = 0 then t
    else if t.sameRing m.peer then
      (List.range (ceilDiv total 2048)).foldl (fun u k =>
        let len := min 2048 (total - k * 2048)
        u.sendTo (m.peer % 32) 0x40 u.tickIndex (16 + len)
          [region, (decide ((k + 1) * 2048 ≥ total)).toNat, idx, m.id, k * 2048, total, len]) t
    else t.migSend m.peer 0x40 [region, 1, idx, m.id, 0, total, 4]
  let s1 := (part (part s 0 0 1004) 1 0 ((s.objectRecord 4 h 0).length + 4))
  let r := fun k => word x.res.regions k
  let s2 := if x.dec then part s1 2 0 (r 0 + 4) else part (part (part s1 2 0 (r 0 + 4)) 3 0 (r 2 + r 3 + 4)) 4 0 (r 4 + 4)
  let s3 := x.res.pool.zipIdx.foldl (fun t (d, k) =>
    if t.regN .FB_DESC_MARKS d &&& mkRef = 0 then t else part t 5 k (poolBufBytes x.dec x.words + 20)) s2
  part s3 6 0 ((x.unsent.map fun e => roundUp (32 + e.2) 64).sum + 4)

/-- The source aborts and takes its stream back (R251). -/
def State.abortOut (s : State) (h : Nat) : State :=
  let m := s.mig h
  let s1 := (s.setMig h { m with step := 8, asked := false }).onStream h fun x => { x with st := if x.st = .migrating then .running else x.st }
  (s1.touch 4 h).event RING_EVT_MIG

/-- MIGRATION_TIMEOUT (R251): the end of tick f + 3 without a commit. -/
def execMigrationTimeout (handle : Nat) (s : State) : Out :=
  finish <|
    let m := s.mig handle
    if m.role = 1 ∧ m.step = 1 then (s.reach (s.tickTime (m.freeze + 4))).abortOut handle else s

/-! ### In -/

/-- STREAM_MIGRATE_IN (R248). -/
def opStreamMigrateIn (c : Cmd) (s : State) : Res :=
  let peer := c.p 0 % 1024
  if s.packageB then Res.bad s 0x00F006
  else if !s.reachable peer then Res.bad s 1
  else if peer ≠ c.p 1 / 2 ^ 22 then Res.bad s 2
  else match s.openHandle 0xFFFF with
    | none => Res.full s 1
    | some h =>
      let s1 := (s.setStream h { st := .migrating, func := c.func, lockWait := !s.flag TB_STATUS_LOCKED }).touch 4 h
      let s2 := s1.setMig h { role := 2, step := 2, id := c.p 1, peer := peer, cmd := some c, lastTick := s.tickIndex, freeze := s.tickIndex }
      Res.later (s2.migSend peer 0x43 [c.p 1, 2, 0])

/-- STREAM_MIGRATE_IN. -/
def execStreamMigrateIn (c : Cmd) (s : State) : Out := runCommand c opStreamMigrateIn s

/-- The destination gives the copy up (R248, R251): handle and reservation are released, ABORTED is written, and the command answered. -/
def State.abortIn (s : State) (h : Nat) (detail : Nat) : State :=
  let m := s.mig h
  let s0 := if m.after.isSome then ((s.setStream h {}).touch 4 h).showSurv else s.endStream h
  (((s0.setMig h { m with step := 8, cmd := none, conf := [], context := [] }).event RING_EVT_MIG)).answerLater m.cmd 0x12 detail 0

/-- The configuration and the record of the source are held: the destination makes its reservation (R247). -/
def State.placeCopy (s : State) (h : Nat) : State :=
  let m := s.mig h
  if m.placed ∨ m.conf.isEmpty ∨ m.context.isEmpty then s
  else
    let r := recordOf 4 0 0 true (m.context.drop 16)
    let dec := recN r 18 1 % 2 == 1
    let ws := m.conf.take (if cfg m.conf 19 1 1 = 1 then 42 else 26)
    let func := (s.stream h).func
    let s1 := s.setStream h { st := .opened, dec := dec, codec := recN r 18 1 / 16, func := func, lockWait := !s.flag TB_STATUS_LOCKED }
    let res := s1.configure h ws none
    if 0x10 ≤ res.status then (s.migSend m.peer 0x44 [m.id, 8, 0]).abortIn h 5
    else
      let s2 := res.s.onStream h fun x => { x.restored r (max 1 (s.fld TK_DEN_DEN)) with st := .migrating, launched := decide (recN r 32 8 ≠ 0) }
      (s2.setMig h { m with placed := true }).showStream h

/-- Offset in the reservation of a region of the copy (R190, R223): save area, scout area, QP maps. -/
def regionBase (res : Resv) (region : Nat) : Nat :=
  res.base + match region with
    | 2 => 0
    | 3 => (res.regions.take 2).sum
    | _ => (res.regions.take 4).sum

/-- Records in the copied bitstream ring, read from their markers (R210): offset and payload bytes. -/
def ringRecords (bs : List Byte) : Nat → Nat → List (Nat × Nat)
  | 0, _ => []
  | fuel + 1, off =>
    let len := leNat (((bs.drop off).drop 12).take 4)
    if bs.length < off + 32 then [] else (off, len) :: ringRecords bs fuel (off + roundUp (32 + len) 64)

/-- Data of a region is placed (R223, R247). -/
def State.placeRegion (s : State) (h : Nat) (d : MigData) : State :=
  let m := s.mig h
  let x := s.stream h
  match d.region with
  | 0 => (s.setMig h { m with conf := wordsOf 250 (d.data.take 1000) }).placeCopy h
  | 1 => (s.setMig h { m with context := m.context ++ d.data }).placeCopy h
  | 5 =>
    match x.res.pool[d.index]? with
    | none => s
    | some b =>
      let base := s.regN .FB_DESC_BASE b
      let image := if d.offset = 0 then d.data.drop 16 else d.data
      let s1 := s.store .device (base + (d.offset - 16)) image
      if d.offset ≠ 0 then s1
      else
        let marks := recN d.data 4 4 &&& mkRefAll
        let s2 := ((s1.mark b marks 0).putN .FB_DESC_ORDER (recN d.data 8 4) b).putN .FB_DESC_TICK (recN d.data 12 4) b
        if marks &&& mkRef = 0 then s2 else s2.onStream h fun x => { x with refs := x.refs ++ [b] }
  | 6 =>
    let s1 := s.store .device (x.res.ringBase + d.offset) d.data
    if !d.last then s1
    else
      let recs := ringRecords (s1.load .device x.res.ringBase (d.total - 4)) 4096 0
      let s2 := s1.putN .FB_S_RING_WR (d.total - 4) h
      s2.onStream h fun x => { x with recs := recs.map fun e => (e.1, roundUp (32 + e.2) 64), unsent := if (flowOf false x.words).isSome then recs else [] }
  | n => s.store .device (regionBase x.res n + d.offset) d.data

/-- MIG_DATA from a peer (R223, R247): once every region checks, the destination writes COMMIT_REQ and asks for the commit. -/
def State.migData (s : State) (peer : Nat) (d : MigData) : State :=
  if 6 < d.region then s.bump .RING_UNKNOWN_CNT
  else match s.findMig 2 d.id peer with
    | none => s
    | some h =>
      let m := s.mig h
      if m.step ≠ 2 then s
      else
        let s1 := s.setMig h { m with heard := true, bad := m.bad || (d.last && !d.crcOk) }
        let s2 := s1.placeRegion h d
        let m2 := s2.mig h
        if m2.step = 2 ∧ d.whole ∧ !m2.bad ∧ m2.placed then
          (s2.setMig h { m2 with step := 3 }).migSend peer 0x41 [d.id, 3, h]
        else s2

/-- The QP maps of a copied stream are read back from their area (R147, R212). -/
def State.restoreMaps (s : State) (h : Nat) : State :=
  let m := s.mig h
  let x := s.stream h
  let r := recordOf 4 0 0 true (m.context.drop 16)
  if x.dec then s
  else
    let n := mapBytes x.codec (cfg x.words 0 0 16) (cfg x.words 0 16 16)
    let a := regionBase x.res 4
    let cur := if recN r 1136 4 = 0 then none else some (s.load .device a n)
    let next := if recN r 1140 4 = 0 then none else some (some (s.load .device (a + n) n), recN r 1128 8)
    s.onStream h fun x => { x with rate := { x.rate with map := cur, mapNext := next } }

/-- The destination owns the stream (R249): CONFIGURED, the buffer model advanced over the frozen ticks, and the reply. -/
def State.takeOver (s : State) (h : Nat) : State :=
  let m := s.mig h
  let x := s.stream h
  let done := { m with step := 5, cmd := none, conf := [], context := [], after := none }
  match m.after with
  | some true => ((((s.setStream h { st := .lost, dec := x.dec, codec := x.codec }).setMig h done).event RING_EVT_MIG).touch 4 h).showSurv
  | some false =>
    let s1 := { s.setStream h {} with survivors := storeInsert s.survivors h { x with func := 0 } }
    (((s1.setMig h done).event RING_EVT_MIG).touch 4 h).showSurv
  | none =>
    let s1 := (List.range (s.tickIndex - x.lastTick)).foldl (fun t _ => t.gapTick h) (s.restoreMaps h)
    let s2 := (s1.onStream h fun x => { x with st := .configured, launched := false }).setMig h done
    (((s2.event RING_EVT_MIG).touch 4 h).streamVotes).answerLater m.cmd 0 0 h

/-- The source gives the stream away (R249): GIVEN, the acknowledgement, the release of R192, RELEASED. -/
def State.giveAway (s : State) (h id peer dst : Nat) : State :=
  let s1 := s.setMig h { s.mig h with step := 4, peerHandle := dst }
  let s2 := s1.migSend peer 0x42 [id, 4, dst]
  let s3 := s2.endStream h
  (s3.setMig h { s3.mig h with step := 6 }).event RING_EVT_MIG

/-- MIG_COMMIT_REQ from a peer (R249, R251). -/
def State.migCommitReq (s : State) (peer id dst : Nat) : State :=
  match s.findMig 1 id peer with
  | none => s.migSend peer 0x44 [id, 0, 0xFFFF]
  | some h =>
    let m := s.mig h
    if m.step = 1 ∧ s.tickIndex ≤ m.freeze + 3 then s.giveAway h id peer dst
    else if m.step = 4 ∨ m.step = 6 then s.migSend peer 0x42 [id, m.step, dst]
    else s.migSend peer 0x44 [id, 8, 0xFFFF]

/-- MIG_COMMIT_ACK from a peer (R249). -/
def State.migCommitAck (s : State) (peer id : Nat) : State :=
  match s.findMig 2 id peer with
  | some h => if (s.mig h).step = 3 then s.takeOver h else s
  | none => s

/-- MIG_ABORT from a peer, with the STEP of its record (R248, R251): a destination in COMMIT_REQ whose source has no record of the
migration any more owns the stream (R513). -/
def State.migAbort (s : State) (peer id step : Nat) : State :=
  match s.findMig 2 id peer with
  | some h =>
    if (s.mig h).step = 3 ∧ step = 0 then s.takeOver h
    else if (s.mig h).step = 2 ∨ (s.mig h).step = 3 then s.abortIn h 5 else s
  | none => s

/-- MIG_QUERY from a peer (R248, R249): answered with the step of the source's record, or with MIG_ABORT; an answer is acted on. -/
def State.migQuery (s : State) (peer id step : Nat) (answer : Bool) : State :=
  if answer then
    match s.findMig 2 id peer with
    | none => s
    | some h =>
      let m := s.mig h
      let s1 := s.setMig h { m with heard := true }
      if m.step = 3 ∧ (step = 4 ∨ step = 6) then s1.takeOver h
      else if m.step = 5 ∧ step = 6 then s1.setMig h { m with step := 7, heard := true }
      else s1
  else
    match s.findMig 1 id peer with
    | none => s.migSend peer 0x44 [id, 0, 0xFFFF]
    | some h =>
      let m := s.mig h
      if m.step = 1 ∨ m.step = 4 ∨ m.step = 6 then
        let s1 := s.migSend peer 0x43 [id, m.step, 1]
        if m.step = 1 ∧ !m.heard then (s1.setMig h { m with heard := true }).sendCopy h else s1
      else s.migSend peer 0x44 [id, 8, 0xFFFF]

/-- The domain address a ring message comes from. -/
def State.msgPeer (s : State) (m : RingHdr) : Nat := s.fld RING_CFG_RING_ID * 32 + m.src

/-- MIG_DATA. -/
def execMigData (m : RingHdr) (h : MigData) (s : State) : Out :=
  finish <| (s.relay m 0x40 (16 + h.data.length) [h.region, h.last.toNat, h.index, h.id, h.offset, h.total]).accept m 0x40 0 0 true fun s =>
    s.migData (s.msgPeer m) h

/-- MIG_COMMIT_REQ. -/
def execMigCommitReq (m : RingHdr) (id handle : Nat) (s : State) : Out :=
  finish <| (s.relay m 0x41 16 [id, 3, handle]).accept m 0x41 0 0 true fun s => s.migCommitReq (s.msgPeer m) id handle

/-- MIG_COMMIT_ACK. -/
def execMigCommitAck (m : RingHdr) (id : Nat) (s : State) : Out :=
  finish <| (s.relay m 0x42 16 [id, 4]).accept m 0x42 0 0 true fun s => s.migCommitAck (s.msgPeer m) id

/-- MIG_QUERY. -/
def execMigQuery (m : RingHdr) (id step : Nat) (answer : Bool) (s : State) : Out :=
  finish <| (s.relay m 0x43 16 [id, step, answer.toNat]).accept m 0x43 0 0 true fun s => s.migQuery (s.msgPeer m) id step answer

/-- MIG_ABORT. -/
def execMigAbort (m : RingHdr) (id step : Nat) (s : State) : Out :=
  finish <| (s.relay m 0x44 16 [id, step]).accept m 0x44 0 0 true fun s => s.migAbort (s.msgPeer m) id step

/-- MIGRATE_IN_TIMEOUT (R248, R513): the end of the fourth tick after the command without a configuration or an answer. -/
def execMigrateInTimeout (handle : Nat) (s : State) : Out :=
  finish <|
    let m := s.mig handle
    if m.role = 2 ∧ m.step = 2 ∧ !m.heard then (s.reach (s.tickTime (m.freeze + 5))).abortIn handle 5 else s

/-! ### Unordered I/O writes from a peer -/

/-- HDM_SIZE (R375). -/
def State.hdmSize (s : State) : Nat := if s.flag MC_CFG_TRAINED then s.regN .MC_CAP / 2 ^ 28 * 2 ^ 28 else 0

/-- The write's target is the domain mailbox, or the reservation of a stream that migrates here from the sender (R380). -/
def State.uioTarget (s : State) (peer a n : Nat) : Bool :=
  (decide (65536 ≤ s.hdmSize) && decide (s.hdmSize - 65536 ≤ a) && decide (a + n ≤ s.hdmSize)) ||
    s.ring.mig.any fun e =>
      let r := (s.stream e.1).res
      e.2.role == 2 && e.2.peer == peer && (s.stream e.1).st == .migrating && decide (r.base ≤ a) && decide (a + n ≤ r.base + r.regions.sum)

/-- UIO_WRITE_RECEIVE (R224, R380): a peer's write, and the migration message it is when it fills the sender's mailbox slot. -/
def execUioWriteReceive (peer address : Nat) (data : List (BitVec 8)) (mail : Option MigMail) (s : State) : Out :=
  finish <|
    if !s.uioTarget peer address data.length then (s.record 28 peer).emit (.completion false true)
    else
      let s1 := s.store .device address data
      let slot := s.hdmSize - 65536 + 64 * (peer % 1024)
      if address ≠ slot then s1
      else match mail with
        | none => s1
        | some (.data d) => s1.migData peer d
        | some (.commitReq id h) => s1.migCommitReq peer id h
        | some (.commitAck id) => s1.migCommitAck peer id
        | some (.query id step ans) => s1.migQuery peer id step ans
        | some (.abort id step) => s1.migAbort peer id step

end Sys2Proof.Machine
end

