-- ==== Sys2Proof/Machine/Steps.lean ====
section
/-!
DEFINITION. Steps of device time, TIME_SET, and the sleep span counter (R42, R44, R45, R52 to R55, R293).
-/
namespace Sys2Proof.Machine

/-- Device time steps to `new` ns: gates of free-running lists follow it, and a frame whose gate closes beneath it has overrun (R45,
R293). -/
def State.jump (s : State) (new : Nat) : State := ((s.stepTime new).showGates).overruns s

/-- TB_ADJ_STEP_WRITE (R41, R44): the servo owner adds a signed step once; a value out of range changes nothing. -/
def execTbAdjStepWrite (a : Agent) (v : Word) (s : State) : Out :=
  finish <| s.byAgent a .TB_ADJ_STEP 0 fun _ s =>
    let d := signed 32 v.toNat
    if !s.servoOwner a ∨ 999999999 < d.natAbs then s
    else (s.putN .TB_ADJ_STEP v.toNat).jump ((s.tb.ns : Int) + d).toNat

/-- TIME_SET (R42, R44, R45, R58, R73): the time is set, LOCKED clears, TIME_VALID sets. -/
def opTimeSet (c : Cmd) (s : State) : Res :=
  if 1000000000 ≤ c.p 2 then Res.badWord s 2
  else
    let s1 := s.jump (c.p64 0 % 2 ^ 48 * 1000000000 + c.p 2)
    Res.ok ((s1.setLocked false).setFld TB_STATUS_TIME_VALID 1)

/-- TIME_SET. -/
def execTimeSet (c : Cmd) (s : State) : Out := runCommand c opTimeSet s

/-! ### The sleep span -/

/-- A sleep count is full (R52, R54): it saturates after 2^40 cycles. -/
def sleepFull : Nat := 2 ^ 40

/-- Cycles of the clock that Snowdrop counts are added to its count (R52). -/
def State.sleepCount (s : State) (n : Nat) : State :=
  if s.tb.onRc then { s with tb := { s.tb with rcCount := satAdd sleepFull s.tb.rcCount n } }
  else { s with tb := { s.tb with refCount := satAdd sleepFull s.tb.refCount n } }

/-- The device is in Deep sleep. -/
def State.deep (s : State) : Bool := s.fld PM_STATE_STATE == 3

/-- REFCLK_AON_LOSS (R52, R529): in Deep, the count goes on with the RC oscillator; `cycles` of REFCLK_AON were counted before. -/
def execRefclkAonLoss (cycles : Nat) (s : State) : Out :=
  finish <|
    if !s.deep ∨ s.tb.onRc then s
    else
      let s1 := s.sleepCount cycles
      { s1 with tb := { s1.tb with onRc := true } }

/-- REFCLK_AON_RETURN (R52): `cycles` of the RC oscillator were counted before. -/
def execRefclkAonReturn (cycles : Nat) (s : State) : Out :=
  finish <|
    if !s.deep ∨ !s.tb.onRc then s
    else
      let s1 := s.sleepCount cycles
      { s1 with tb := { s1.tb with onRc := false } }

/-- Deep entry (R52, R54): T0 is latched and the counts start at zero. -/
def State.sleepStart (s : State) : State :=
  { s.setFld TB_STATUS_SLEEP_SAT 0 with
    tb := { s.tb with sleepT0 := s.tb.ns, refCount := 0, rcCount := 0, onRc := false } }

/-- Streams that launch only under LOCKED wait for it (R55); a launch asks it only of a stream whose
configuration sets LOCKED_LAUNCH. -/
def State.waitLocked (s : State) : State :=
  s.streams.foldl (fun t (h, x) =>
    if x.st ≠ .free then t.onStream h fun y => { y with lockWait := true } else t) s

/-- Wake from Deep sleep restores time (R53 to R55): device time restarts at T0 plus the span the counts give, with its error bound, or
with no bound where a count saturated. -/
def State.wakeTime (s : State) : State :=
  let ref := min (sleepFull - 1) s.tb.refCount * 40
  let rc := min (sleepFull - 1) s.tb.rcCount * 250
  let sat := decide (sleepFull ≤ s.tb.refCount) || decide (sleepFull ≤ s.tb.rcCount)
  let span := ref + rc
  let err := if sat then 2 ^ 64 - 1 else ceilDiv (ref * 50) 1000000 + ceilDiv (rc * 15) 1000 + 290
  let new := s.tb.sleepT0 + span
  let s1 := (s.putN .TB_SLEEP_SPAN span).putN .TB_SLEEP_ERR err
  let s2 := { s1 with tb := { s1.tb with ns := new, run := s1.tb.run + span, onRc := false } }
  let s3 := if sat then ((s2.setFld TB_STATUS_SLEEP_SAT 1).setFld TB_STATUS_SLEEP_VALID 0).setFld TB_STATUS_TIME_VALID 0
            else s2.setFld TB_STATUS_SLEEP_VALID 1
  let s4 := (((s3.setLocked false).tbEvent 102).missTicks).waitLocked
  (s4.showGates).overruns s

end Sys2Proof.Machine
end

