-- ==== Sys2Proof/Machine/Memory.lean ====
section
/-!
DEFINITION. The GDDR7 controller and the front-end arbiter: the address map, service classes, the grant, completion with CRC and ECC, poison,
refresh and retraining, and page retirement (R309 to R326, R335 to R337, R377).
-/
namespace Sys2Proof.Machine

/-! ### The address map -/

/-- The channel of a device memory address (R315). -/
def State.channelOf (s : State) (a : Nat) : Nat :=
  if s.packageB then natField a 8 3 ^^^ natField a 18 3 else natField a 8 4 ^^^ natField a 19 4

/-- The bank and row of a device memory address (R315). -/
def State.bankRow (s : State) (a : Nat) : Nat × Nat :=
  if s.packageB then (natField a 14 4 ^^^ natField a 22 4, a / 2 ^ 18) else (natField a 15 4 ^^^ natField a 23 4, a / 2 ^ 19)

/-- The controller group of an address (R326). -/
def State.groupOf (s : State) (a : Nat) : Nat := s.channelOf a / 4

/-- The channel has failed (R312). -/
def State.channelFailed (s : State) (n : Nat) : Bool := s.fld MC_CH_STS_STATE n == 3

/-! ### Poison -/

/-- The retired-page entry of a page (R314), if it has one. -/
def State.retireEntry (s : State) (page : Nat) : Option Nat :=
  (List.range (s.fld MC_RETIRE_CNT_COUNT)).find? fun i =>
    s.fld MC_RETIRE_TBL_PAGE i == page && (s.flag MC_RETIRE_TBL_VALID i || s.flag MC_RETIRE_TBL_COPYING i)

/-- Set or clear the mark of a granule: in its page's entry, or until the page has one (R314). -/
def State.markGranule (s : State) (g : Nat) (b : Bool) : State :=
  match s.retireEntry (g / 16) with
  | some i => s.setReg .MC_RETIRE_TBL (setBitField (s.reg .MC_RETIRE_TBL i) (32 + g % 16) 1 b.toNat) i
  | none =>
    let m := if b then storeInsert s.memctl.marks g true else storeDrop s.memctl.marks g
    { s with memctl := { s.memctl with marks := m } }

/-- A read of the granule returns poisoned data: it was written so, or it is marked in an entry in force (R314, R382). -/
def State.granulePoisoned (s : State) (g : Nat) : Bool :=
  (storeFind s.memctl.poison g).getD false ||
    match s.retireEntry (g / 16) with
    | some i => s.flag MC_RETIRE_TBL_VALID i && (s.fld MC_RETIRE_TBL_POISON i).testBit (g % 16)
    | none => false

/-- Some granule of a range is poisoned. -/
def State.rangePoisoned (s : State) (a n : Nat) : Bool :=
  decide (0 < n) && ((List.range ((a + n - 1) / 256 - a / 256 + 1)).any fun k => s.granulePoisoned (a / 256 + k))

/-- A write that covers the whole granule ends its poison (R314, R382). -/
def State.cleanGranule (s : State) (g : Nat) : State :=
  let s1 := { s with memctl := { s.memctl with poison := storeDrop s.memctl.poison g } }
  s1.markGranule g false

/-- Bytes are written to device memory: granules that they cover whole are clean again. -/
def State.memStore (s : State) (a : Nat) (bs : List Byte) : State :=
  let first := (a + 255) / 256
  let last := (a + bs.length) / 256
  (List.range (last - first)).foldl (fun t k => t.cleanGranule (first + k)) (s.store .device a bs)

/-! ### Requests and grants -/

/-- A line of the host's that an access must first have back (R377): a tracked one for a write, one held exclusive for a read. -/
def State.mustSnoop (s : State) (write : Bool) (line : Nat) : Bool :=
  s.cxl.snoop.any fun e => e.1 == line && (write || e.2)

/-- The lines of an access. -/
def linesOf (a n : Nat) : List Nat := (List.range ((a + n - 1) / 64 - a / 64 + 1)).map (· + a / 64)

/-- Send a back-invalidate snoop of a line, unless one is out (R377). -/
def State.backInvalidate (s : State) (line : Nat) : State :=
  if s.cxl.asked.contains line then s
  else State.emit { s with cxl := { s.cxl with asked := s.cxl.asked ++ [line] } } (.snoop line)

/-- SC0 bytes that a channel was asked for in the last µs (R318). -/
def State.sc0Demand (s : State) (ch : Nat) : Nat :=
  let n : Nat := ((s.memctl.demand.filter fun d => d.1 == ch && decide (s.tb.run < d.2.1 + 1000)).map fun d => d.2.2).sum
  n

/-- The class in which a request is served now (R317): SC3 and SC2 are promoted by their age. -/
def State.servedClass (s : State) (r : MemReq) : Nat :=
  let age := s.tb.run - r.since
  if r.sc = 3 ∧ max 1 (s.fld MC_AGE_SC3_US) * 1000 ≤ age then 2
  else if r.sc = 2 ∧ max 1 (s.fld MC_AGE_SC2_US) * 1000 ≤ age then 1
  else r.sc

/-- The requester is masked at ARB0 (R325). -/
def State.maskedAt (s : State) (src : Nat) : Bool := (s.regN .ARB_MASK).testBit src

/-- The requests of a group that are candidates (R321, R325, R377). -/
def State.candidates (s : State) (g : Nat) : List MemReq :=
  s.memctl.waiting.filter fun r => s.groupOf r.addr == g && r.lines.isEmpty && !s.maskedAt r.src

/-- An arbiter is frozen (R323). -/
def State.arbFrozen (s : State) (i : Nat) : Bool := s.flag ARB_CTL_FREEZE i || s.flag ARB_STS_FW_FREEZE i

/-- The pointer of ARB0 for a class and group (R321). -/
def arb0Key (c g : Nat) : Nat := 8 + c * 4 + g

/-- How far a requester lies from a pointer, counting upward and wrapping. -/
def arbDistance (n p r : Nat) : Nat := (r + n - p) % n

/-- The request that ARB0 grants next in a group (R317, R321): of the highest class with a candidate, that of the first requester at or after
the pointer, its oldest first. -/
def State.pick (s : State) (g : Nat) : Option (MemReq × Nat) :=
  let l := s.candidates g
  let c := l.foldl (fun m r => min m (s.servedClass r)) 4
  let p := (storeFind s.arbPtr (arb0Key c g)).getD 0
  let best := (l.filter fun r => s.servedClass r == c).foldl (fun b r =>
    match b with
    | none => some r
    | some q => if arbDistance 40 p r.src < arbDistance 40 p q.src then some r else b) (none : Option MemReq)
  best.map fun r => (r, c)

/-- ARB0 grants in a group, when no burst is in progress there and it is not frozen (R321 to R323). -/
def State.grantGroup (s : State) (g : Nat) : State :=
  if s.arbFrozen 0 ∨ s.memctl.groups.contains g then s
  else match s.pick g with
    | none => s
    | some (r, c) =>
      let p := (r.src + 1) % 40
      let k := arb0Key c g
      let s1 := ((s.setFld ARB_STS_LAST_GRANT r.src).setFld ARB_STS_LAST_GROUP g).setFld ARB_STS_DRAINED 0
      { s1 with
        arbPtr := if p = 0 then storeDrop s1.arbPtr k else storeInsert s1.arbPtr k p
        memctl := { s1.memctl with
          waiting := s1.memctl.waiting.erase r
          bursts := s1.memctl.bursts ++ [{ r with granted := s.tb.run, sc := c }]
          groups := s1.memctl.groups ++ [g] } }

/-- A request stands at the front end (R316 to R319, R377): earlier requests of its source to its channel inherit its class. -/
def State.present (s : State) (r : MemReq) : State :=
  let ch := s.channelOf r.addr
  let raised := s.memctl.waiting.map fun q =>
    if q.src = r.src ∧ s.channelOf q.addr = ch ∧ r.sc < q.sc then { q with sc := r.sc } else q
  let s1 := { s with memctl := { s.memctl with waiting := raised ++ [{ r with since := s.tb.run }] } }
  (r.lines.foldl State.backInvalidate s1).grantGroup (s.groupOf r.addr)

/-- A source can make the request: it is one of the table, and the request lies in one granule of present memory (R315, R326). -/
def State.canRequest (s : State) (r : MemAccess) : Bool :=
  decide (r.src < 36) && decide (r.sc < 4) && decide (0 < r.bytes) && decide (r.addr % 256 + r.bytes ≤ 256) &&
    decide (r.addr + r.bytes ≤ s.regN .MC_CAP) && (match r.data with | some d => d.length == r.bytes | none => true)

/-- MEMORY_REQUEST (R316 to R318, R321, R377): SC0 beyond 8,000 bytes in a µs on a channel is served as SC1 and counted. -/
def execMemoryRequest (r : MemAccess) (s : State) : Out :=
  finish <|
    if !s.canRequest r then s
    else
      let ch := s.channelOf r.addr
      let excess := decide (r.sc = 0) && decide (8000 < s.sc0Demand ch + r.bytes)
      let keep := s.memctl.demand.filter fun d => decide (s.tb.run < d.2.1 + 1000)
      let s1 := if r.sc = 0 then { s with memctl := { s.memctl with demand := keep ++ [(ch, s.tb.run, r.bytes)] } } else s
      let s2 := if excess then s1.bump .MC_SC0_OVER_CNT else s1
      let lines := (linesOf r.addr r.bytes).filter (s2.mustSnoop r.data.isSome)
      s2.present { src := r.src, sc := if excess then 1 else r.sc, addr := r.addr, bytes := r.bytes, data := r.data, lines := lines }

/-! ### The end of a burst at an arbiter -/

/-- No burst is in progress at an arbiter: DRAINED, and its event when that ends a freeze's wait (R323). -/
def State.drained (s : State) (i : Nat) : State :=
  if s.flag ARB_STS_DRAINED i then s
  else (s.setFld ARB_STS_DRAINED 1 i).eventIf (s.arbFrozen i) ARB_EVT_DRAINED i

/-- The first of the candidates, as a mask, at or after a pointer. -/
def arbFirst (n p cands : Nat) : Option Nat := ((List.range n).map fun k => (p + k) % n).find? fun r => cands.testBit r

/-- ARB1 to ARB7 grant among candidates (R321, R323, R324): the holder keeps its grant while it holds, up to HOLD_MAX cycles. -/
def State.smallGrant (s : State) (i cands : Nat) (hold : Bool) (cycles : Nat) : State :=
  let n := arbRequesters i
  let last := s.fld ARB_STS_LAST_GRANT i
  let top := s.fld ARB_CTL_HOLD_MAX i
  let holds := hold && decide (0 < top) && !s.flag ARB_STS_DRAINED i && cands.testBit last
  if s.arbFrozen i then s.drained i
  else if holds ∧ cycles < top then s
  else
    let s1 := if holds then (s.bump .ARB_CUTOFF_CNT 1 i).event ARB_EVT_CUTOFF i else s
    match arbFirst n ((storeFind s1.arbPtr i).getD 0) cands with
    | some r => (s1.arbGrant i r).setFld ARB_STS_DRAINED 0 i
    | none => s1.drained i

/-- ARB_BURST_END (R321 to R324): for ARB0 the burst of a controller group ends; for the others `cands` request, and the holder signals
HOLD after `cycles` of its grant. -/
def execArbBurstEnd (i group cands : Nat) (hold : Bool) (cycles : Nat) (s : State) : Out :=
  finish <|
    if 8 ≤ i then s
    else if 0 < i then s.smallGrant i cands hold cycles
    else
      let s1 := State.grantGroup { s with memctl := { s.memctl with groups := s.memctl.groups.erase group } } group
      if s1.memctl.groups.isEmpty then s1.drained 0 else s1

/-- A write of `ARB_CTL` (R323, R326, R337): ARB0 has no HOLD_MAX. -/
def State.arbControl (s : State) (i v : Nat) : State :=
  let s1 := s.setFlag ARB_CTL_FREEZE (v.testBit 0) i
  let s2 := if i = 0 then s1 else s1.setFld ARB_CTL_HOLD_MAX (v / 65536) i
  let s3 := s2.setFlag ARB_STS_FROZEN (s2.arbFrozen i) i
  if i = 0 then (List.range 4).foldl State.grantGroup s3 else s3

/-- ARB_FREEZE_WRITE (R323, R337). -/
def execArbFreezeWrite (a : Agent) (i : Nat) (v : Word) (s : State) : Out :=
  finish <| s.byAgent a .ARB_CTL i fun f s => if f ≠ 0 ∨ 8 ≤ i then s else s.arbControl i v.toNat

/-! ### Errors and retirement -/

/-- A page is scheduled for retirement, by an error on a channel, unless it is or has been (R314). -/
def State.schedule (s : State) (page ch : Nat) : State :=
  if (s.memctl.scheduled.any fun p => p.1 == page) ∨ (s.retireEntry page).isSome then s
  else { s with memctl := { s.memctl with scheduled := s.memctl.scheduled ++ [(page, ch)] } }

/-- A corrected error (R313, R314): the counts of the 256 pages that erred most recently are kept. -/
def State.correctedRead (s : State) (ch page : Nat) : State :=
  let n := ((s.memctl.pages.find? fun p => p.1 == page).map Prod.snd).getD 0 + 1
  let rest := s.memctl.pages.filter fun p => p.1 != page
  let s1 := { s with memctl := { s.memctl with pages := ((page, n) :: rest).take 256 } }
  let s2 := (s1.bump .MC_CH_CE_CNT 1 ch).event MC_CH_EVT_CE ch
  let top := s.fld MC_RETIRE_CFG_CE_THRESH
  if 0 < top ∧ top ≤ n then s2.schedule page ch else s2

/-- An uncorrectable burst (R313, R314): counted, its address and the fault recorded, its granule marked and its page scheduled. -/
def State.uncorrectable (s : State) (ch addr : Nat) : State :=
  let s1 := ((s.bump .MC_CH_UE_CNT 1 ch).putN .MC_UE_ADDR addr).event MC_CH_EVT_UE ch
  ((s1.record 3 ch).markGranule (addr / 256) true).schedule (addr / 4096) ch

/-- Retirement starts at position 4 of a tick (R314): a page is taken and its copy begins; a full table leaves the page in service. -/
def State.retireTick (s : State) : State :=
  if !s.flag MC_RETIRE_CFG_AUTO then s
  else
    let go := fun (t : State) (p : Nat × Nat) =>
      let n := t.fld MC_RETIRE_CNT_COUNT
      if 1024 ≤ n then ((t.setFld MC_STS_RETIRE_FULL 1).setFld MC_EVT_RETIRE_FULL 1).level 4 0
      else
        let bits := maskOf ((List.range 16).filter fun g => (storeFind t.memctl.marks (p.1 * 16 + g)).getD false)
        let t1 := (t.putN .MC_RETIRE_TBL (p.1 % 2 ^ 23 + bits * 2 ^ 32 + 2 ^ 63) n).setFld MC_RETIRE_CNT_COUNT (n + 1)
        let marks := storeErase (fun k => decide (k / 16 = p.1)) t1.memctl.marks
        { t1 with memctl := { t1.memctl with marks := marks, retiring := storeInsert t1.memctl.retiring n p.2 } }
    s.memctl.scheduled.foldl go { s with memctl := { s.memctl with scheduled := [] } }

/-- PAGE_RETIRE_COPY_DONE (R314, R472): the entry is in force and is written into the repair log. -/
def execPageRetireCopyDone (i : Nat) (s : State) : Out :=
  finish <|
    if 1024 ≤ i ∨ !s.flag MC_RETIRE_TBL_COPYING i then s
    else
      let ch := (storeFind s.memctl.retiring i).getD 0
      let s1 := (s.setFld MC_RETIRE_TBL_COPYING 0 i).setFld MC_RETIRE_TBL_VALID 1 i
      let s2 := { s1 with memctl := { s1.memctl with retiring := storeDrop s1.memctl.retiring i } }
      (s2.logRepair 1 (s.fld MC_RETIRE_TBL_PAGE i)).event MC_CH_EVT_RETIRE ch

/-! ### Completion -/

/-- What a poisoned read is to the host (R382): data with poison, a correctable memory poison error, FS21. -/
def State.poisonToHost (s : State) : State :=
  let s1 := s.emit (.completion true false)
  State.record { s1 with cxl := { s1.cxl with errors := { s1.cxl.errors with rasCorr := true, rasPoison := true } } } 21 0

/-- A burst leaves the controller. -/
def State.burstOver (s : State) (ch : Nat) (r : MemReq) : State :=
  { s with memctl := { s.memctl with bursts := s.memctl.bursts.erase r, tries := storeDrop s.memctl.tries ch } }

/-- A write burst lands, or is dropped: on a failed channel, or uncorrectable after its repeats (R312, R314). -/
def State.writeDone (s : State) (ch : Nat) (r : MemReq) (d : List Byte) (bad : Bool) : State :=
  if s.channelFailed ch then (s.markGranule (r.addr / 256) true).schedule (r.addr / 4096) ch
  else if bad then s.uncorrectable ch r.addr
  else
    let s1 := s.memStore r.addr d
    if r.poison then { s1 with memctl := { s1.memctl with poison := storeInsert s1.memctl.poison (r.addr / 256) true } } else s1

/-- A read burst returns its data, with its latency (R313, R318, R458). -/
def State.readDone (s : State) (ch : Nat) (r : MemReq) (ecc : EccResult) : State :=
  let dead := s.channelFailed ch
  let s1 := if dead then s
    else match ecc with
      | .clean => s
      | .corrected => s.correctedRead ch (r.addr / 4096)
      | .uncorrectable => s.uncorrectable ch r.addr
  let poisoned := dead || decide (ecc = .uncorrectable) || s.rangePoisoned r.addr r.bytes
  let lat := s.tb.run - r.granted
  let s2 := if r.sc = 0 then s1.sample 6 ch lat else if r.sc ≤ 2 then s1.sample 7 ch lat else s1
  let s3 := { s2 with lastRead := BitVec.ofNat 64 (leNat (s.load .device r.addr (min 8 r.bytes))) }
  if poisoned ∧ r.src = 32 then s3.poisonToHost else s3

/-- A burst of a source on a channel completes (R312 to R314, R319): the oldest. -/
def State.completeBurst (s : State) (ch src : Nat) (ecc : EccResult) : State :=
  match s.memctl.bursts.find? fun r => r.src == src && s.channelOf r.addr == ch with
  | none => s
  | some r =>
    let s1 := s.burstOver ch r
    let s2 := if r.sc = 0 then s1.maxReg .MC_CH_LAT_MAX (s.tb.run - r.granted) ch else s1
    match r.data with
    | some d => s2.writeDone ch r d (decide (ecc = .uncorrectable))
    | none => s2.readDone ch r ecc

/-- MEMORY_BURST_COMPLETE (R313, R319). -/
def execMemoryBurstComplete (ch src : Nat) (ecc : EccResult) (s : State) : Out := finish (s.completeBurst ch src ecc)

/-- MC_CRC_ERROR (R312): three repeats, an emergency retraining and one more try, and then the burst is uncorrectable; a channel that fails
its retraining is FAILED. -/
def execMcCrcError (ch src : Nat) (trainOk : Bool) (s : State) : Out :=
  finish <|
    if s.fld MC_CH_STS_STATE ch ≠ 2 ∨ !(s.memctl.bursts.any fun r => r.src == src && s.channelOf r.addr == ch) then s
    else
      let n := (storeFind s.memctl.tries ch).getD 0
      let again := fun (t : State) => { t with memctl := { t.memctl with tries := storeInsert t.memctl.tries ch (n + 1) } }
      if n < 3 then again ((s.bump .MC_CH_RETRY_CNT 1 ch).event MC_CH_EVT_RETRY ch)
      else if n = 3 then
        let s1 := (s.bump .MC_CH_TRAIN_CNT 1 ch).event MC_CH_EVT_RETRAIN ch
        if trainOk then
          let temp := s1.fld MC_CH_STS_TEMP ch
          again { s1 with memctl := { s1.memctl with trained := storeInsert s1.memctl.trained ch (s1.tb.run, temp) } }
        else
          let s2 := ((s1.setFld MC_CH_STS_STATE 3 ch).event MC_CH_EVT_FAIL ch).level 2 ch
          { s2 with memctl := { s2.memctl with tries := storeDrop s2.memctl.tries ch } }
      else s.completeBurst ch src .uncorrectable

/-! ### Refresh and retraining -/

/-- MC_REFRESH (R311): the rate that the devices' temperature reports require, doubled in the extended range. -/
def execMcRefresh (ch temp : Nat) (x2 : Bool) (s : State) : Out :=
  finish <| if s.fld MC_CH_STS_STATE ch ≠ 2 ∨ 16 ≤ ch then s else (s.setFld MC_CH_STS_TEMP temp ch).setFlag MC_CH_STS_REFX2 x2 ch

/-- MC_PERIODIC_RETRAIN (R311): 1 ms after the last, never within 1 µs of another channel's, or at once when the temperature has moved 8 °C. -/
def execMcPeriodicRetrain (ch temp : Nat) (s : State) : Out :=
  finish <|
    if s.fld MC_CH_STS_STATE ch ≠ 2 ∨ 16 ≤ ch then s
    else
      let (last, t0) := (storeFind s.memctl.trained ch).getD (0, temp)
      let moved := decide (8 ≤ max temp t0 - min temp t0)
      let others := (s.memctl.trained.filter fun e => e.1 != ch).foldl (fun m e => max m (e.2.1 + 1000)) 0
      let s1 := if moved then s else (s.reachRun (last + 1000000)).reachRun others
      let s2 := (s1.bump .MC_CH_TRAIN_CNT 1 ch).setFld MC_CH_STS_TEMP temp ch
      { s2 with memctl := { s2.memctl with trained := storeInsert s2.memctl.trained ch (s2.tb.run, temp) } }

end Sys2Proof.Machine
end

