-- ==== Sys2Proof/Machine/OnChip.lean ====
section
/-!
DEFINITION. The scratchpad banks and the background test of the window caches (R343 to R352, R362, R363, R465, R468).
-/
namespace Sys2Proof.Machine

/-- The time of `n` cycles of a 1.25 GHz clock in ns, rounded up. -/
def cyclesNs (n : Nat) : Nat := ceilDiv (n * 4) 5

/-- The unit of an owner code is present; codes 10 to 15 name none (R7, R344). -/
def State.ownerPresent (s : State) (u : Nat) : Bool :=
  if u = 0 then true
  else if u ≤ 4 then s.clusterPresent (u - 1)
  else if u ≤ 6 then s.domPresent (u - 1)
  else decide (u ≤ 9)

/-- A bank serves accesses: ON, in no transition (R349). -/
def State.bankAwake (s : State) (b : Nat) : Bool := s.fld SPD_BANK_STS_STATE_NOW b == 0 && !s.flag SPD_BANK_STS_TRANSIT b

/-- A unit owns a bank, and no hand-over takes it away (R344, R345). -/
def State.bankOwned (s : State) (u b : Nat) : Bool := s.fld SPD_BANK_OWN_OWNER b == u && !s.flag SPD_BANK_OWN_PENDING b

/-- An access is served: by the owner, or a CPX's read (R344). -/
def State.bankServes (s : State) (u b : Nat) (write : Bool) : Bool :=
  decide (1 ≤ u) && (s.bankOwned u b || (!write && (u == 7 || u == 8)))

/-- The offset in a bank of byte `i` of an access (R346): rotated within one word, or running on to the next. -/
def State.bankOffset (s : State) (u b o i : Nat) : Nat :=
  if s.flag SPD_BANK_CFG_ROTATE b ∧ u ≤ 6 then o / 64 * 64 + (o + i) % 64 else (o + i) % 262144

/-- The address of a bank's byte in DMA scratchpad space (R328, R343). -/
def spdAddr (b o : Nat) : Nat := b * 262144 + o

/-- Bytes of an access, read and written (R346). -/
def State.spdRead (s : State) (u b o n : Nat) : List Byte :=
  (List.range n).map fun i => memRead s.spad (spdAddr b (s.bankOffset u b o i))
@[inherit_doc State.spdRead] def State.spdWrite (s : State) (u b o : Nat) (d : List Byte) : State :=
  { s with spad := (List.range d.length).foldl (fun m i => memWrite m (spdAddr b (s.bankOffset u b o i)) ((d[i]?).getD 0)) s.spad }

/-- The words of a bank that an access touches. -/
def State.spdWords (s : State) (u b o n : Nat) : List Nat := (List.range n).map fun i => s.bankOffset u b o i / 64

/-- Two accesses of a bank touch the same word (R348). -/
def State.collide (s : State) (u b o n o2 n2 : Nat) : Bool :=
  (s.spdWords u b o n).any fun w => (s.spdWords u b o2 n2).contains w

/-- A scratchpad bank's error rises (R347, R465): a corrected one is counted, an uncorrectable one recorded; either may claim the spare. -/
def State.bankError (s : State) (b o : Nat) (ecc : EccResult) : State :=
  match ecc with
  | .clean => s
  | .corrected =>
    let n := (storeFind s.spare.bankCe b).getD 0 + 1
    let s1 := { s.bump .SPD_CE_CNT with spare := { s.spare with bankCe := storeInsert s.spare.bankCe b n } }
    let top := s.fld SPR_CFG_BANK_CE
    if 0 < top ∧ top ≤ n then s1.bankFails b else s1
  | .uncorrectable =>
    let s1 := ((s.bump .SPD_UE_CNT).putN .SPD_ERR_ADDR (b % 64 + o % 262144 * 256)).setFld SPD_EVT_UE 1
    (s1.record 16 b).bankFails b

/-- A refused access (R344, R349): a read returns zeros. -/
def State.refuseBank (s : State) (b : Nat) (write : Bool) : State :=
  let s1 := s.setFld SPD_EVT_NOT_OWNER 1
  let s2 := if s.bankAwake b then s1 else s1.setFld SPD_EVT_ASLEEP 1
  if write then s2 else { s2 with lastRead := 0 }

/-- The write of the second synchronous port in the same cycle (R348); its bytes lie below those of port SA. -/
def State.otherPort (s : State) (x : SpdAccess) (owner : Nat) : State :=
  match x.other with
  | some (o, d) => if s.bankServes owner x.bank true then s.spdWrite owner x.bank o d else s
  | none => s

/-- SPD_ACCESS (R344, R346 to R349): an access of at most 64 bytes is served, refused or collides; of two writes to one word port SA's bytes
stand, a synchronous read sees a write of its cycle, and a bridge read beside a write returns undefined data and BUSY. -/
def execSpdAccess (x : SpdAccess) (s : State) : Out :=
  finish <|
    let badLen : Bool := match x.data with | some d => d.length != x.bytes | none => false
    if 64 ≤ x.bank ∨ 64 < x.bytes ∨ x.bytes = 0 ∨ 262144 ≤ x.offset ∨ badLen then s
    else
      let b := x.bank
      let owner := s.fld SPD_BANK_OWN_OWNER b
      let sync := decide (x.who ≤ 6)
      let write := x.data.isSome
      if !s.bankAwake b ∨ !s.bankServes x.who b write then s.refuseBank b write
      else
        let hit := match x.other with
          | some (o, d) => decide (owner ≤ 6) && s.collide x.who b x.offset x.bytes o d.length
          | none => false
        let s1 := s.otherPort x owner
        match x.data with
        | some d => (if hit && sync then s1.setFld SPD_EVT_WCOLL 1 else s1).spdWrite x.who b x.offset d
        | none =>
          if hit && !sync then
            State.tookFree { s1.bump .SPD_BUSY_CNT with lastRead := s1.free }
          else
            let v := leNat ((s1.spdRead x.who b x.offset x.bytes).take 8)
            { s1.bankError b x.offset x.ecc with lastRead := BitVec.ofNat 64 v }

/-! ### Hand-over -/

/-- A write of `SPD_BANK_OWN` (R344, R345): a code that names no present unit sets BAD_OWNER; a second write before the take-over replaces
the first. -/
def State.bankOwn (s : State) (b v : Nat) : State :=
  let u := v % 16
  let clear := v.testBit 4
  if !s.ownerPresent u then s.setFld SPD_EVT_BAD_OWNER 1
  else if !s.flag SPD_BANK_OWN_PENDING b ∧ s.fld SPD_BANK_OWN_OWNER b = u then s
  else
    let t0 := match storeFind s.banks.handover b with | some (t, _) => t | none => s.tb.run
    let s1 := ((s.setFld SPD_BANK_OWN_TARGET u b).setFld SPD_BANK_OWN_PENDING 1 b).setFlag SPD_BANK_OWN_CLEARING clear b
    { s1 with banks := { s1.banks with handover := storeInsert s1.banks.handover b (t0, clear) } }

/-- SPD_BANK_OWN_WRITE (R345): from PF0 or the lead half's CPX. -/
def execSpdBankOwnWrite (a : Agent) (b : Nat) (v : Word) (s : State) : Out :=
  finish <| s.byAgent a .SPD_BANK_OWN b fun f s =>
    let may := match a with | .func _ => f == 0 | .cpx h => h == s.leadHalf
    if !may ∨ 64 ≤ b then s else s.bankOwn b v.toNat

/-- The contents of a bank become zero. -/
def State.zeroBank (s : State) (b : Nat) : State :=
  { s with spad := storeErase (fun k => decide (k / 262144 = b)) s.spad }

/-- SPD_HANDOVER_DONE (R345): 64 cycles of drain, 4,096 of clearing where CLEAR asked for it, and the new owner has the bank. -/
def execSpdHandoverDone (b : Nat) (s : State) : Out :=
  finish <|
    match storeFind s.banks.handover b with
    | none => s
    | some (t, clear) =>
      let s1 := s.reachRun (t + cyclesNs (if clear then 64 + 4096 else 64))
      let s2 := if clear then s1.zeroBank b else s1
      let s3 := ((s2.setFld SPD_BANK_OWN_OWNER (s2.fld SPD_BANK_OWN_TARGET b) b).setFld SPD_BANK_OWN_PENDING 0 b).setFld
        SPD_BANK_OWN_CLEARING 0 b
      { s3 with banks := { s3.banks with handover := storeDrop s3.banks.handover b } }

/-! ### Bank states -/

/-- Cycles of a transition of a bank (R349); none for one the table does not give. -/
def bankCycles (from_ to_ : Nat) : Option Nat :=
  match from_, to_ with
  | 0, 1 => some 64
  | 1, 0 => some 256
  | 0, 2 => some 64
  | 1, 2 => some 64
  | 2, 0 => some 6144
  | _, _ => none

/-- A bank starts towards a state, unless it is there or in a transition (R349). -/
def State.bankTowards (s : State) (b st : Nat) : State :=
  if s.flag SPD_BANK_STS_TRANSIT b ∨ (bankCycles (s.fld SPD_BANK_STS_STATE_NOW b) st).isNone then s
  else
    let s1 := s.setFld SPD_BANK_STS_TRANSIT 1 b
    { s1 with banks := { s1.banks with moving := storeInsert s1.banks.moving b (s.tb.run, st) } }

/-- A write of `SPD_BANK_CFG` (R349, R363): STATE 3 is ignored. -/
def State.bankConfig (s : State) (b v : Nat) : State :=
  if v % 4 = 3 then s else (s.putN .SPD_BANK_CFG (v % 16) b).bankTowards b (v % 4)

/-- SPD_BANK_STATE_WRITE (R349): from the bank's owner, or PF0. -/
def execSpdBankStateWrite (a : Agent) (b : Nat) (v : Word) (s : State) : Out :=
  finish <| s.byAgent a .SPD_BANK_CFG b fun f s =>
    let may := match a with | .func _ => f == 0 | .cpx h => h == s.leadHalf || s.fld SPD_BANK_OWN_OWNER b == 7 + h
    if !may ∨ 64 ≤ b then s else s.bankConfig b v.toNat

/-- A bank's transition ends (R349): OFF loses its contents, and a STATE written meanwhile takes effect. -/
def State.bankArrive (s : State) (b : Nat) : State :=
  match storeFind s.banks.moving b with
  | none => s
  | some (_, st) =>
    let s1 := (s.setFld SPD_BANK_STS_STATE_NOW st b).setFld SPD_BANK_STS_TRANSIT 0 b
    let s2 := { s1 with banks := { s1.banks with moving := storeDrop s1.banks.moving b } }
    let s3 := if st = 2 then s2.zeroBank b else s2
    if 2 ≤ s.fld PM_STATE_STATE then s3 else s3.bankTowards b (s3.fld SPD_BANK_CFG_STATE b)

/-- SPD_BANK_TRANSITION_DONE (R349). -/
def execSpdBankTransitionDone (b : Nat) (s : State) : Out :=
  finish <|
    match storeFind s.banks.moving b with
    | none => s
    | some (t, st) => (s.reachRun (t + cyclesNs ((bankCycles (s.fld SPD_BANK_STS_STATE_NOW b) st).getD 0))).bankArrive b

/-! ### Window caches -/

/-- The cluster of a physical encoder pipe, 16 to 19 being the spares. -/
def unitCluster (u : Nat) : Nat := if u < 16 then u / 4 else u - 16

/-- The logical pipe that a physical encoder pipe carries. -/
def State.unitPipe (s : State) (u : Nat) : Option Nat := (List.range 16).find? fun p => s.pipePresent p && s.physPipe p == u

/-- A window of an enabled active entry of the pipe starts within `gap` ns (R350). -/
def State.windowSoon (s : State) (p gap : Nat) : Bool :=
  s.flag TK_CTRL_EN && (s.bankStreams false p).any fun h =>
    [0, 1, 2].any fun k =>
      let t := s.tickTime (s.tickIndex + k) + (s.stream h).l
      decide (s.tb.ns ≤ t) && decide (t < s.tb.ns + gap)

/-- The conditions of R350 on a physical pipe. -/
def State.testable (s : State) (u : Nat) : Bool :=
  match s.unitPipe u with
  | none => true
  | some p =>
    let g := s.fld SPD_WCT_CFG_GAP_US
    !s.pipeBusy p && !s.windowSoon p ((if g = 0 then 20 else g) * 1000)

/-- The region to test next: regions 0 to 3 are passed over while they hold a resident context that is not evicted (R350). -/
def State.regionFor (s : State) (u r : Nat) : Nat :=
  match s.unitPipe u with
  | none => r
  | some p => if r < 4 ∧ (storeFind s.codec.resident p).isSome ∧ !s.flag SPD_WCT_CFG_EVICT then 4 else r

/-- The context of a pipe is saved before its regions 0 to 3 are tested (R350). -/
def State.evict (s : State) (u r : Nat) : State :=
  match s.unitPipe u with
  | some p => if r < 4 then { s with codec := { s.codec with resident := storeDrop s.codec.resident p } } else s
  | none => s

/-- WINDOW_CACHE_TEST_START (R350): PERIOD_MS after the pipe's last test the engine of its cluster starts on the next region, when the
pipe is idle and no window is near. -/
def execWindowCacheTestStart (unit : Nat) (s : State) : Out :=
  finish <|
    let c := unitCluster unit
    if 20 ≤ unit ∨ !s.flag SPD_WCT_CFG_EN ∨ !s.clusterPresent c ∨ !s.domOn c ∨ (storeFind s.banks.testing c).isSome then s
    else
      let prev := storeFind s.banks.nextRegion unit
      let period := max 1 (s.fld SPD_WCT_CFG_PERIOD_MS) * 1000000
      let t := match prev with | some (_, t) => s.reachRun (t + period) | none => s
      if !t.testable unit then s
      else
        let r := t.regionFor unit ((prev.map Prod.fst).getD 0)
        let t1 := t.evict unit r
        let t2 := ((t1.setFld SPD_WCT_STS_PIPE unit).setFld SPD_WCT_STS_REGION r).setFld SPD_WCT_STS_BUSY 1
        { t2 with banks := { t2.banks with
            testing := storeInsert t2.banks.testing c (unit, r, t2.tb.run)
            nextRegion := storeInsert t2.banks.nextRegion unit (r, t2.tb.run) } }

/-- A window cache has no spare row left (R468): its pipe has failed. -/
def State.cacheFailed (s : State) (u : Nat) : State :=
  match s.unitPipe u with
  | some p => s.claimSpare p 1
  | none => s.markFailed u

/-- A row of a window cache failed (R351, R468): recorded and replaced by a spare row; the 33rd fails the pipe. -/
def State.rowFails (s : State) (u r row : Nat) : State :=
  let s1 := ((s.bump .SPD_WCT_FAIL_CNT).putN .SPD_WCT_LAST (u + r * 32 + row % 256 * 4096)).record 17 u
  let n := s1.fld SPR_WC_ROWS_ROWS u
  if n < 32 then
    let s2 := (s1.setFld SPR_WC_ROWS_ROWS (n + 1) u).logRepair 2 (u + r * 32 + row % 256 * 4096)
    (s2.event SPR_EVT_WC_ROW).event SPR_EVT_SWAP
  else s1.cacheFailed u

/-- WINDOW_CACHE_TEST_DONE (R351, R468): `rows` of the region failed the march or the comparison. -/
def execWindowCacheTestDone (cluster : Nat) (rows : List Nat) (s : State) : Out :=
  finish <|
    match storeFind s.banks.testing cluster with
    | none => s
    | some (u, r, t) =>
      let s1 := rows.foldl (fun (x : State) row => x.rowFails u r row) (s.reachRun (t + cyclesNs 2560))
      let s2 := { s1 with banks := { s1.banks with
                    testing := storeDrop s1.banks.testing cluster
                    nextRegion := storeInsert s1.banks.nextRegion u ((r + 1) % 128, t) } }
      s2.setFlag SPD_WCT_STS_BUSY (!s2.banks.testing.isEmpty)

end Sys2Proof.Machine
end

