-- ==== Sys2Proof/Machine/Dma.lean ====
section
/-!
DEFINITION. The 64 DMA channels: descriptors, hand-over, the copy, completion with read-back and LINK, errors and withdrawal (R327 to R334,
R338, R339).
-/
namespace Sys2Proof.Machine

/-! ### Descriptors -/

/-- Word `w` of a channel's active set. -/
def State.dmaWord (s : State) (n w : Nat) : Nat := s.regN .DMA_ACT (n * 16 + w)

/-- Two words of the active set as 64 bits. -/
def State.dmaWide (s : State) (n w : Nat) : Nat := s.dmaWord n w % 2 ^ 32 + s.dmaWord n (w + 1) % 2 ^ 32 * 2 ^ 32

/-- The active descriptor's fields (R328): bytes per row, rows and planes, where 0 behaves as 1. -/
def State.dmaLen (s : State) (n : Nat) : Nat := natField (s.dmaWord n 4) 0 16
@[inherit_doc State.dmaLen] def State.dmaRows (s : State) (n : Nat) : Nat := max 1 (natField (s.dmaWord n 4) 16 16)
@[inherit_doc State.dmaLen] def State.dmaPlanes (s : State) (n : Nat) : Nat := max 1 (natField (s.dmaWord n 5) 0 16)

/-- A flag of word 5. -/
def State.dmaFlag (s : State) (n b : Nat) : Bool := (s.dmaWord n 5).testBit b

/-- The spaces of source and destination. -/
def State.dmaSrcSpace (s : State) (n : Nat) : Nat := natField (s.dmaWord n 5) 16 2
@[inherit_doc State.dmaSrcSpace] def State.dmaDstSpace (s : State) (n : Nat) : Nat := natField (s.dmaWord n 5) 18 2

/-- The address of row `j` of plane `k` of a side, in 64-bit two's complement (R329). -/
def rowAddr (base step1 step2 j k : Nat) : Nat :=
  unsigned 64 ((base : Int) + (k : Int) * signed 32 step2 + (j : Int) * signed 32 step1)

/-- Row `r` of the loop of R329: its source and destination. -/
def State.dmaRow (s : State) (n r : Nat) : Nat × Nat :=
  let j := r % s.dmaRows n
  let k := r / s.dmaRows n
  (rowAddr (s.dmaWide n 0) (s.dmaWord n 6) (s.dmaWord n 7) j k, rowAddr (s.dmaWide n 2) (s.dmaWord n 8) (s.dmaWord n 9) j k)

/-- The extent of a side: from the four corners, plus LEN0 (R329). -/
def State.dmaExtent (s : State) (n base step1 step2 : Nat) : Nat × Nat :=
  let j := s.dmaRows n - 1
  let k := s.dmaPlanes n - 1
  let l := [rowAddr base step1 step2 0 0, rowAddr base step1 step2 j 0, rowAddr base step1 step2 0 k, rowAddr base step1 step2 j k]
  (l.foldl min base, l.foldl max base + s.dmaLen n)

/-- The extents of source and destination. -/
def State.dmaSrc (s : State) (n : Nat) : Nat × Nat := s.dmaExtent n (s.dmaWide n 0) (s.dmaWord n 6) (s.dmaWord n 7)
@[inherit_doc State.dmaSrc] def State.dmaDst (s : State) (n : Nat) : Nat × Nat := s.dmaExtent n (s.dmaWide n 2) (s.dmaWord n 8) (s.dmaWord n 9)

/-- An extent lies beyond its space (R334). -/
def State.beyond (s : State) (space : Nat) (e : Nat × Nat) : Bool :=
  (space == 0 && decide (s.regN .MC_CAP < e.2)) || (space == 3 && decide (2 ^ 24 < e.2))

/-- Some bank of a scratchpad extent is not DMA's (R334, R344). -/
def State.foreignBank (s : State) (space : Nat) (e : Nat × Nat) : Bool :=
  space == 3 && (List.range 64).any fun b =>
    decide (b * 262144 < e.2) && decide (e.1 < (b + 1) * 262144) && !s.bankOwned 9 b

/-- A reserved field of the active set is not 0 (R328). -/
def State.dmaReserved (s : State) (n : Nat) : Bool :=
  natField (s.dmaWord n 5) 23 9 != 0 || natField (s.dmaWord n 12) 10 22 != 0 || s.dmaWord n 13 != 0 || s.dmaWord n 14 != 0 ||
    s.dmaWord n 15 != 0

/-- The first error found when a descriptor enters the active set (R329, R334), with its address; the device sends no unordered I/O
reads, so space 2 is no source (R379). -/
def State.dmaCheck (s : State) (n : Nat) : Option (Nat × Nat) :=
  let ss := s.dmaSrcSpace n
  let ds := s.dmaDstSpace n
  let src := s.dmaSrc n
  let dst := s.dmaDst n
  let peer := natField (s.dmaWord n 12) 0 10
  if s.dmaLen n = 0 ∨ s.dmaReserved n then some (1, s.dmaWide n 0)
  else if s.beyond ss src then some (2, src.1)
  else if s.beyond ds dst then some (2, dst.1)
  else if ss = ds ∧ overlap src dst then some (3, dst.1)
  else if s.foreignBank ss src then some (6, src.1)
  else if s.foreignBank ds dst then some (6, dst.1)
  else if ss = 2 then some (7, src.1)
  else if ds = 2 ∧ (s.fuse GLB_FUSE_CFG_DOMAIN = 0 ∨ (s.dirEntry peer).isNone) then some (7, dst.1)
  else none

/-! ### Channel status -/

/-- The count of busy channels follows their status (R338). -/
def State.showBusy (s : State) : State :=
  s.setFld DMA_GLB_STS_BUSY ((List.range 64).filter fun n => s.flag DMA_STS_BUSY n).length

/-- A channel stops with an error (R334). -/
def State.dmaFail (s : State) (n code addr : Nat) : State :=
  let s1 := ((s.setFld DMA_STS_ERR_CODE code n).putN .DMA_ERR_ADDR addr n).event DMA_STS_ERR n
  ((s1.setFld DMA_STS_BUSY 0 n).setFld DMA_STS_LINKED 0 n).showBusy

/-- A descriptor stands in the active set: it starts, or is refused and moves nothing (R329). -/
def State.dmaStart (s : State) (n : Nat) (linked : Bool) : State :=
  let s1 := ((s.setFld DMA_STS_BUSY 1 n).setFlag DMA_STS_LINKED linked n).showBusy
  match s1.dmaCheck n with
  | some (code, a) => s1.dmaFail n code a
  | none => s1

/-! ### The copy -/

/-- What a row reads from its source; a source in host memory reads as `data`, row after row. -/
def State.dmaRead (s : State) (n r a : Nat) (data : List Byte) : List Byte :=
  let len := s.dmaLen n
  match s.dmaSrcSpace n with
  | 0 => s.load .device a len
  | 3 => memReadList s.spad a len
  | _ =>
    let d := (data.drop (r * len)).take len
    d ++ List.replicate (len - d.length) 0

/-- What a row writes to its destination; a bank that is asleep drops it (R349). -/
def State.dmaWrite (s : State) (n a : Nat) (bs : List Byte) : State :=
  match s.dmaDstSpace n with
  | 0 => s.memStore a bs
  | 1 => s.store .host a bs
  | 2 => s.emit (.uio a bs.length)
  | _ =>
    if s.bankAwake (a / 262144) then { s with spad := memWriteList s.spad a bs }
    else (s.setFld SPD_EVT_NOT_OWNER 1).setFld SPD_EVT_ASLEEP 1

/-- One row of the loop of R329. -/
def State.dmaCopyRow (s : State) (n r : Nat) (data : List Byte) : State :=
  let (src, dst) := s.dmaRow n r
  s.dmaWrite n dst (s.dmaRead n r src data)

/-- The first `rows` rows of the descriptor, in its order (R329). -/
def State.dmaCopy (s : State) (n rows : Nat) (data : List Byte) : State :=
  (List.range rows).foldl (fun t r => t.dmaCopyRow n r data) s

/-- All its rows. -/
def State.dmaAll (s : State) (n : Nat) : Nat := s.dmaRows n * s.dmaPlanes n

/-- Bytes are added to `DMA_DONE_BYTES` (R332, R333). -/
def State.dmaDone (s : State) (n bytes : Nat) : State :=
  s.putN .DMA_DONE_BYTES (satAdd (2 ^ 64 - 1) (s.regN .DMA_DONE_BYTES n) bytes) n

/-- A transfer is withdrawn (R333, R334): completed rows stand and are counted, bytes of the bursts in progress are orphans, and the error
names the first row that was not completed. -/
def State.dmaWithdraw (s : State) (n code : Nat) (addr : Option Nat) (p : DmaProgress) : State :=
  if !s.flag DMA_STS_BUSY n then s
  else
    let rows := min p.rows (s.dmaAll n)
    let s1 := ((s.dmaCopy n rows p.data).dmaDone n (rows * s.dmaLen n)).putN .DMA_ORPHAN_BYTES p.orphan n
    (s1.event DMA_STS_ORPHAN n).dmaFail n code (addr.getD (s.dmaRow n rows).2)

/-! ### Who commands a channel -/

/-- A function reaches the channels it owns; channels 56 to 63 are the firmware's (R327, R338). -/
def State.ownsDma (s : State) (a : Agent) (n : Nat) : Bool :=
  match a with
  | .func f => decide (n < 56) && s.fld DMA_CH_OWNER_FUNC n == f
  | .cpx h => decide (n < 64) && s.cpxMay h .DMA_CH_CTL n

/-- DMA_ARM (R330). -/
def execDmaArm (a : Agent) (n : Nat) (s : State) : Out :=
  finish <| s.byAgent a .DMA_CH_CTL n fun _ s => if s.ownsDma a n then s.setFld DMA_CH_CTL_ARM 1 n else s

/-- DMA_DISARM (R330). -/
def execDmaDisarm (a : Agent) (n : Nat) (s : State) : Out :=
  finish <| s.byAgent a .DMA_CH_CTL n fun _ s => if s.ownsDma a n then s.setFld DMA_CH_CTL_ARM 0 n else s

/-- EN takes a value (R333): clearing it withdraws the running transfer. -/
def State.dmaEnable (s : State) (n : Nat) (en : Bool) (p : DmaProgress) : State :=
  let s1 := s.setFlag DMA_CH_CTL_EN en n
  if en then s1 else s1.dmaWithdraw n 8 none p

/-- DMA_EN_WRITE (R333). -/
def execDmaEnWrite (a : Agent) (n : Nat) (en : Bool) (p : DmaProgress) (s : State) : Out :=
  finish <| s.byAgent a .DMA_CH_CTL n fun _ s => if s.ownsDma a n then s.dmaEnable n en p else s

/-- DMA_HANDOVER (R330): the shadow set becomes the active set and ARM clears; writes that land in the same cycle are for the next
hand-over. -/
def execDmaHandover (n : Nat) (late : List (Nat × BitVec 32)) (lateArm : Bool) (s : State) : Out :=
  finish <|
    if 64 ≤ n ∨ !s.flag DMA_CH_CTL_EN n ∨ !s.flag DMA_CH_CTL_ARM n ∨ s.flag DMA_STS_BUSY n then s
    else
      let s1 := (List.range 16).foldl (fun t w => t.putN .DMA_ACT (s.regN .DMA_SH (n * 16 + w)) (n * 16 + w)) s
      let s2 := late.foldl (fun t e => if e.1 < 16 then t.putN .DMA_SH e.2.toNat (n * 16 + e.1) else t) s1
      let s3 := (s2.setFlag DMA_CH_CTL_ARM lateArm n).eventIf (lateArm || !late.isEmpty) DMA_STS_SHADOW_LATE n
      s3.dmaStart n false

/-! ### Completion and errors -/

/-- The first row that reads a poisoned granule of device memory (R334). -/
def State.poisonRow (s : State) (n : Nat) : Option Nat :=
  if s.dmaSrcSpace n ≠ 0 then none
  else (List.range (s.dmaAll n)).find? fun r => s.rangePoisoned (s.dmaRow n r).1 (s.dmaLen n)

/-- DONE sets; its source is raised only for a descriptor with IRQ (R332, R340). -/
def State.dmaDoneEvent (s : State) (n : Nat) (irq : Bool) : State :=
  if irq then s.event DMA_STS_DONE n else s.setFld DMA_STS_DONE 1 n

/-- The next descriptor of a chain is loaded from device memory (R332). -/
def State.dmaLink (s : State) (n : Nat) : State :=
  let a := s.dmaWide n 10
  let s1 := (List.range 16).foldl (fun t w => t.putN .DMA_ACT (leNat (s.load .device (a + 4 * w) 4)) (n * 16 + w)) s
  s1.dmaStart n true

/-- A channel moves to or from host or peer memory. -/
def State.dmaOverCxl (s : State) (n : Nat) : Bool :=
  s.flag DMA_STS_BUSY n && ([1, 2].contains (s.dmaSrcSpace n) || [1, 2].contains (s.dmaDstSpace n))

/-- DMA_DESCRIPTOR_COMPLETE (R329, R332, R334, R368): every byte has moved; a row whose source is poisoned ends it there, and an access to host
memory fails while the link is down. -/
def execDmaDescriptorComplete (n : Nat) (data : List Byte) (s : State) : Out :=
  finish <|
    if 64 ≤ n ∨ !s.flag DMA_STS_BUSY n then s
    else if s.dmaOverCxl n ∧ !s.cxl.linkUp then s.dmaWithdraw n 5 none {}
    else match s.poisonRow n with
      | some r => s.dmaWithdraw n 4 (some (s.dmaRow n r).1) { rows := r, data := data }
      | none =>
        let all := s.dmaAll n
        let s1 := ((s.dmaCopy n all data).dmaDone n (all * s.dmaLen n)).dmaDoneEvent n (s.dmaFlag n 21)
        if s.dmaFlag n 22 then s1.dmaLink n
        else ((s1.setFld DMA_STS_BUSY 0 n).setFld DMA_STS_LINKED 0 n).showBusy

/-- DMA_ERROR (R333, R334): a poisoned read (4), a CXL completion error (5) or a bank handed away (6) withdraws the transfer. -/
def execDmaError (n code addr : Nat) (p : DmaProgress) (s : State) : Out :=
  finish <|
    if 64 ≤ n ∨ code < 4 ∨ 6 < code ∨ !s.flag DMA_STS_BUSY n then s
    else (if code = 5 then s.requestError n else s).dmaWithdraw n code (some addr) p

end Sys2Proof.Machine
end

