-- ==== Sys2Proof/Machine/Cxl.lean ====
section
/-!
DEFINITION. The CXL attachment: the link and its power states, host accesses to device memory with the HDM decoder and the snoop filter,
MSI-X, DOE, link IDE and errors (R367 to R384).
-/
namespace Sys2Proof.Machine

/-! ### The link -/

/-- How far the transfers of channels have come, by a list of the environment's; a channel it does not list has completed no row. -/
def progressOf (l : List (Nat × DmaProgress)) (n : Nat) : DmaProgress := ((l.find? fun e => e.1 == n).map Prod.snd).getD {}

/-- Running transfers of the channels that satisfy `p` are withdrawn with a code (R333, R334). -/
def State.dmaStop (s : State) (p : Nat → Bool) (code : Nat) (l : List (Nat × DmaProgress)) : State :=
  (List.range 64).foldl (fun t n => if p n && t.flag DMA_STS_BUSY n then t.dmaWithdraw n code none (progressOf l n) else t) s

/-- The link is down (R368): transfers over it end with ERR_CODE 5. -/
def State.cxlDown (s : State) (l : List (Nat × DmaProgress)) : State :=
  if !s.cxl.linkUp then s
  else State.dmaStop { s with cxl := { s.cxl with linkUp := false, l1 := false } } s.dmaOverCxl 5 l

/-- CXL_LINK_DOWN (R368). -/
def execCxlLinkDown (dma : List (Nat × DmaProgress)) (s : State) : Out := finish (s.cxlDown dma)

/-- REFCLK_CXL_LOSS (R529): while PERST_N is high the link goes down. -/
def execRefclkCxlLoss (dma : List (Nat × DmaProgress)) (s : State) : Out :=
  finish (if s.pins.perstN then s.cxlDown dma else s)

/-- The replies held for queues in host memory are written, as far as there is room (R368). -/
def State.writeAllHeld (s : State) : State :=
  (List.range 64).foldl (fun t q =>
    if t.flag CPLQ_BASE_LOC q then t else (List.range (t.heldFor q).length).foldl (fun u _ => u.writeHeld q) t) s

/-- CXL_LINK_UP (R368): at the rate and width that both ends allow. -/
def execCxlLinkUp (speed width : Nat) (s : State) : Out :=
  finish <|
    if s.cxl.linkUp ∨ !([1, 2, 4, 8, 16].contains width) ∨ speed = 0 ∨ 6 < speed then s
    else State.writeAllHeld { s with
      cxl := { s.cxl with linkUp := true, speed := speed, width := width, inUse := width, l1 := false }
      pins := { s.pins with wakeN := true } }

/-- A CXL.cache or CXL.mem transaction is outstanding (R369). -/
def State.cxlBusy (s : State) : Bool :=
  ((List.range 64).any fun n => s.flag DMA_STS_BUSY n && (s.dmaSrcSpace n == 1 || s.dmaDstSpace n == 1)) ||
    (s.memctl.waiting.any fun r => r.src == 32) || (s.memctl.bursts.any fun r => r.src == 32)

/-- L1_ENTRY_REQUEST (R369). -/
def execL1EntryRequest (s : State) : Out :=
  finish <| if !s.cxl.linkUp ∨ s.cxlBusy then s else { s with cxl := { s.cxl with l1 := true } }

/-- L0P_REQUEST (R369): every request down to x4 is accepted. -/
def execL0pRequest (width : Nat) (s : State) : Out :=
  finish <|
    if !s.cxl.linkUp ∨ !([4, 8, 16].contains width) ∨ s.cxl.width < width then s
    else { s with cxl := { s.cxl with inUse := width } }

/-! ### Device memory seen by the host -/

/-- The device memory address of a host address, through the committed decoder (R375, R376). -/
def State.hdmAddress (s : State) (a : Nat) : Option Nat :=
  let d := s.cxl.hdm
  if !d.committed ∨ a < d.base then none
  else
    let o := a - d.base
    let dev := o / (d.gran * d.ways) * d.gran + o % d.gran
    if dev < d.size then some dev else none

/-- HDM_DECODER_COMMIT (R376): size and base are multiples of 256 MiB; the decoder locks on commit. -/
def execHdmDecoderCommit (base size ways gran : Nat) (s : State) : Out :=
  finish <|
    if s.cxl.hdm.committed then s
    else
      let ok := decide (0 < size) && decide (size ≤ s.hdmSize) && decide (size % 2 ^ 28 = 0) && decide (base % 2 ^ 28 = 0) &&
        [1, 2, 4, 8].contains ways && [256, 512, 1024, 2048, 4096, 8192, 16384].contains gran
      { s with cxl := { s.cxl with
          hdm := if ok then { committed := true, base := base, size := size, ways := ways, gran := gran } else { s.cxl.hdm with err := true } } }

/-- The snoop filter's entries (R377). -/
def snoopEntries : Nat := 131072

/-- The host holds a line, or no longer does (R377). -/
def State.trackLine (s : State) (line : Nat) (holds : Option Bool) : State :=
  let rest := s.cxl.snoop.filter fun e => e.1 != line
  { s with cxl := { s.cxl with snoop := match holds with | some x => rest ++ [(line, x)] | none => rest } }

/-- CXL_MEM_REQUEST (R375 to R377, R382): through the decoder to requester 32 at SC2; a line the host then holds is tracked, and a full filter
first has its oldest line back. -/
def execCxlMemRequest (x : CxlAccess) (s : State) : Out :=
  finish <|
    let badLen : Bool := match x.data with | some d => d.length != x.bytes | none => false
    if !s.cxl.linkUp ∨ x.bytes = 0 ∨ 64 < x.addr % 64 + x.bytes ∨ badLen then s
    else match s.hdmAddress x.addr with
      | none => s.emit (.completion false true)
      | some a =>
        let line := a / 64
        let s1 := if x.data.isSome && x.poison then s.record 22 0 else s
        let known := s1.cxl.snoop.any fun e => e.1 == line
        let full := decide (0 < x.caches) && !known && decide (snoopEntries ≤ s1.cxl.snoop.length)
        let oldest := if full then (s1.cxl.snoop.head?.map Prod.fst).toList else []
        let held := if x.caches = 0 then none else some (decide (2 ≤ x.caches))
        let r : MemReq := { src := 32, sc := 2, addr := a, bytes := x.bytes, data := x.data, poison := x.poison, lines := oldest,
                            track := if full then held.map fun e => (line, e) else none }
        (if full then s1 else s1.trackLine line held).present r

/-- HOST_SNOOP (R378): answered at once as invalid, without data. -/
def execHostSnoop (line : Nat) (s : State) : Out := finish (if s.cxl.linkUp then s.emit (.invalid line) else s)

/-- A waiting request has a line back, and with the last one its own line is tracked (R377). -/
def State.lineBack (s : State) (line : Nat) : State :=
  let freed := s.memctl.waiting.filter fun r => r.lines == [line]
  let w := s.memctl.waiting.map fun r => { r with lines := r.lines.erase line, track := if r.lines == [line] then none else r.track }
  freed.foldl (fun t r => match r.track with | some (l, x) => t.trackLine l (some x) | none => t)
    { s with memctl := { s.memctl with waiting := w } }

/-- BACK_INVALIDATE_RESPONSE (R377): the line is no longer tracked, and what waited for it proceeds. -/
def execBackInvalidateResponse (line : Nat) (s : State) : Out :=
  finish <|
    if !s.cxl.asked.contains line then s
    else
      let s1 := State.trackLine { s with cxl := { s.cxl with asked := s.cxl.asked.erase line } } line none
      (List.range 4).foldl State.grantGroup (s1.lineBack line)

/-! ### MSI-X -/

/-- The key of a vector. -/
def vectorKey (f v : Nat) : Nat := f * 256 + v

/-- A function has the vector (R374). -/
def vectorExists (f v : Nat) : Bool := (f == 0 && decide (v < 256)) || (decide (0 < f) && decide (f ≤ 32) && decide (v < 8))

/-- A message to a host vector: sent, or held in the PBA while the vector is masked (R374). -/
def State.sendVector (s : State) (f v : Nat) : State :=
  let k := vectorKey f v
  if (storeFind s.cxl.unmasked k).getD false then s.emit (.msix f v)
  else { s with cxl := { s.cxl with pba := storeInsert s.cxl.pba k true } }

/-- MSIX_UNMASK (R374). -/
def execMsixUnmask (f v : Nat) (s : State) : Out :=
  finish <|
    if !vectorExists f v then s
    else
      let k := vectorKey f v
      let s1 := { s with cxl := { s.cxl with unmasked := storeInsert s.cxl.unmasked k true } }
      if (storeFind s.cxl.pba k).getD false then
        State.emit { s1 with cxl := { s1.cxl with pba := storeDrop s1.cxl.pba k } } (.msix f v)
      else s1

/-! ### DOE and link IDE -/

/-- A DOE response stands to be read (R384). -/
def State.doeAnswer (s : State) (error : Bool) : State :=
  State.emit { s with cxl := { s.cxl with doePending := true } } (.doe error)

/-- The IDE slots a key may be programmed into (R490). -/
def ideSlot (h : Nat) : Bool := decide (0xC00 ≤ h) && keyHandle h && decide (h < 0xC20)

/-- DOE_REQUEST (R383, R384, R486, R498): discovery and SPDM, with secure sessions and the programming of IDE keys in them. -/
def execDoeRequest (x : DoeObject) (s : State) : Out :=
  finish <|
    if 4096 < x.bytes ∨ (s.cxl.doePending ∧ !x.taken) then { s with cxl := { s.cxl with doeErr := true } }
    else
      let n := s.regN .SEC_SESSIONS
      match x.what with
      | .plain => s.doeAnswer false
      | .identity => if s.secError ∨ s.secWaits ∨ s.noIdentity then s.doeAnswer true else (s.service 0 0).doeAnswer false
      | .openSession =>
        if s.secError ∨ s.secWaits ∨ s.noIdentity ∨ 4 ≤ n then s.doeAnswer true
        else (((s.putN .SEC_SESSIONS (n + 1)).event SEC_EVT_SPDM_SESSION).service 0 0).doeAnswer false
      | .closeSession =>
        if n = 0 then s.doeAnswer true else (((s.putN .SEC_SESSIONS (n - 1)).event SEC_EVT_SPDM_SESSION).service 0 0).doeAnswer false
      | .ideKey h key =>
        if s.secError ∨ s.secWaits ∨ n = 0 ∨ s.fuse GLB_FUSE_CFG_CRYPTO = 0 ∨ !ideSlot h then s.doeAnswer true
        else ((s.loadKey h 0 false key).service 0 0).doeAnswer false

/-- DOE_ABORT (R384): the object in progress is discarded. -/
def execDoeAbort (s : State) : Out := finish { s with cxl := { s.cxl with doePending := false, doeErr := false } }

/-- IDE_KEY_SET_SWITCH (R383): the keys of a set take effect for a protocol and direction. -/
def execIdeKeySetSwitch (protocol dir set : Nat) (s : State) : Out :=
  finish <|
    if 2 ≤ protocol ∨ 2 ≤ dir ∨ 2 ≤ set ∨ s.fuse GLB_FUSE_CFG_CRYPTO = 0 ∨
        (s.slot (0xC00 + 16 * protocol + 8 * dir + 4 * set)).cur.isNone then s
    else
      let s1 := { s with cxl := { s.cxl with ideSet := storeInsert s.cxl.ideSet (protocol * 2 + dir) set, insecure := false } }
      let s2 := if protocol = 0 then s1.setFld SEC_STS_IDE_IO 1 else s1.setFld SEC_STS_IDE_CM 1
      s2.event SEC_EVT_IDE_SWITCH

/-- IDE_INTEGRITY_FAIL (R383): the insecure state, an uncorrectable internal error and FS27. -/
def execIdeIntegrityFail (s : State) : Out :=
  finish <|
    if s.fuse GLB_FUSE_CFG_CRYPTO = 0 then s
    else
      let s1 := s.ideInsecure
      let s2 := { s1 with cxl := { s1.cxl with insecure := true, errors := { s1.cxl.errors with fatal := true } } }
      (s2.event SEC_EVT_IDE_FAIL).record 27 0

/-! ### Errors -/

/-- COMPLETION_TIMEOUT (R65, R86, R334, R382): after 50 ms a device request fails under its requester's rule. -/
def execCompletionTimeout (who : DevRequest) (s : State) : Out :=
  let s1 := { s with cxl := { s.cxl with errors := { s.cxl.errors with nonFatal := true } } }
  finish <|
    match who with
    | .fetch q => if 64 ≤ q then s else (s1.record 24 (s.fld CMDQ_OWNER_FUNC q)).queueError q CMDQ_STS_FETCH_ERR
    | .reply q => if 64 ≤ q then s else (s1.record 24 (s.fld CPLQ_OWNER_FUNC q)).setFld CPLQ_STS_WRITE_ERR 1 q
    | .dma n addr p => if 64 ≤ n then s else (s1.record 24 n).dmaWithdraw n 5 (some addr) p

/-- CXL_INTERNAL_ERROR (R382): AER fatal, CXL RAS uncorrectable, FS26; the link is retrained. -/
def execCxlInternalError (s : State) : Out :=
  finish <| State.record
    { s with cxl := { s.cxl with l1 := false, errors := { s.cxl.errors with fatal := true, rasUncorr := true } } } 26 0

end Sys2Proof.Machine
end

