-- ==== Sys2Proof/Machine/Lead.lean ====
section
/-!
DEFINITION. Who leads: `AON_LEAD`, beliefs and fencing, heartbeats, adoption and hand-back (R386 to R388, R401 to R410).
-/
namespace Sys2Proof.Machine

/-! ### The lead -/

/-- `AON_LEAD` takes an owner and an epoch; `CPX_STS.LEAD` follows (R401, R413). -/
def State.putLead (s : State) (owner epoch : Nat) : State :=
  let s1 := s.putN .AON_LEAD (owner % 2 + 2 + epoch % 2 ^ 32 * 2 ^ 32)
  (s1.setFlag CPX_STS_LEAD (owner % 2 == 0) 0).setFlag CPX_STS_LEAD (owner % 2 == 1) 1

/-- A CPX's belief becomes the lead in force (R390, R402). -/
def State.copyBelief (s : State) (h : Nat) : State := s.setReg .CPX_BELIEF (s.reg .AON_LEAD) h

/-- A request for the lead (R402): accepted when EXPECT is the current epoch and that can still rise. A request of a fenced CPX is ignored. -/
def State.leadRequest (s : State) (a : Agent) (owner expect : Nat) : State :=
  let ignored := match a with | .func f => f != 0 | .cpx h => s.flag CPX_STS_FENCED h || decide (2 ≤ h)
  if ignored then s
  else
    let e := s.fld AON_LEAD_EPOCH
    let ok := decide (expect = e) && decide (e < 0xFFFFFFFF)
    let s1 := s.putN .AON_LEAD_REQ (owner % 2 + 2 + ok.toNat * 4 + expect % 2 ^ 32 * 2 ^ 32)
    if !ok then s1
    else
      let s2 := State.putLead { s1 with ctl := { s1.ctl with oldLead := some (s.reg .AON_LEAD) } } owner (e + 1)
      let s3 := match a with | .cpx h => s2.copyBelief h | .func _ => s2
      (s3.event CPX_EVT_LEAD_CHANGE 0).event CPX_EVT_LEAD_CHANGE 1

/-- AON_LEAD_REQUEST (R388, R402): the discarded write of a fenced CPX is counted. -/
def execAonLeadRequest (a : Agent) (owner expect : Nat) (s : State) : Out :=
  finish <| s.byAgent a .AON_LEAD_REQ 0 fun _ s => s.leadRequest a owner expect

/-- Snowdrop after a loss of VDD_AON (R403, R434): the strap names the owner, the beliefs the epoch, and FS35 is recorded. -/
def State.aonStart (s : State) : State :=
  if s.flag AON_LEAD_VALID then s
  else
    let e := max (s.fld CPX_BELIEF_EPOCH 0) (s.fld CPX_BELIEF_EPOCH 1)
    (s.putLead s.chip.strapLead.toNat (satAdd 0xFFFFFFFF e 1)).record 35 0

/-- AON_POWER_UP (R403). -/
def execAonPowerUp (s : State) : Out := finish s.aonStart

/-! ### Fencing -/

/-- The pictures in flight on a logical pipe go on without it (R406): as at a stop fault of the pipe, without the spare. -/
def State.losePipe (s : State) (p : Nat) : State :=
  let worst := fun (f : Option Nat) => some (match f with | some q => min q p | none => p)
  if p < 16 then
    match s.encOn p with
    | none => s
    | some q => s.onEnc q.stream fun q => { q.onPipe p (fun w => { w with stopped := true }) with failed := worst q.failed }
  else
    match s.decOn p with
    | none => s
    | some q => (s.failRest q p).onDec q.stream fun q => q.onPipe p fun w => { w with stopped := true }

/-- The logical pipes of a half (R18). -/
def halfPipes (h : Nat) : List Nat := (List.range 24).filter fun p => pipeHalf p == h

/-- A half is cut off (R406): its requesters are masked and its pipes' pictures go on without them. -/
def State.cutHalf (s : State) (h : Nat) : State := (halfPipes h).foldl State.losePipe s.syncMasks

/-- A CPX's belief agrees with the lead in force, or, at the first comparison after a change, with the one before (R405). -/
def State.agrees (s : State) (h : Nat) : Bool :=
  let same := fun (v : DWord) => bitField v 0 1 == s.fld CPX_BELIEF_OWNER h && bitField v 32 32 == s.fld CPX_BELIEF_EPOCH h
  same (s.reg .AON_LEAD) || (match s.ctl.oldLead with | some v => same v | none => false)

/-- The comparison of one CPX (R405, R407). -/
def State.compareOne (s : State) (h : Nat) : State :=
  if 2 ≤ s.fld PM_STATE_STATE ∨ !s.flag CPX_STS_RUNNING h ∨ s.flag CPX_STS_HALTED h then s
  else
    let ok := s.agrees h
    let s1 := s.setFld CPX_CTL_RELEASE 0 h
    if s.flag CPX_STS_FENCED h then
      if ok ∧ s.flag CPX_CTL_RELEASE h then ((s1.setFld CPX_STS_FENCED 0 h).event CPX_EVT_UNFENCE h).syncMasks else s1
    else if ok then s1
    else (((s1.setFld CPX_STS_FENCED 1 h).event CPX_EVT_LEAD_CONFLICT h).record 13 h).cutHalf h

/-- The comparison of beliefs (R405). -/
def State.leadCompare (s : State) : State :=
  let s1 := (s.compareOne 0).compareOne 1
  { s1 with ctl := { s1.ctl with oldLead := none } }

/-- LEAD_COMPARE_NO_GRID (R405): while no grid runs, at the next whole millisecond of device time. -/
def execLeadCompareNoGrid (s : State) : Out :=
  finish (if s.flag TK_CTRL_EN then s else (s.reach ((s.tb.ns / 1000000 + 1) * 1000000)).leadCompare)

/-- CPX_RELEASE (R407). -/
def execCpxRelease (h : Nat) (s : State) : Out := finish (if h < 2 ∧ s.flag CPX_STS_FENCED h then s.setFld CPX_CTL_RELEASE 1 h else s)

/-! ### Heartbeats -/

/-- The check of the other CPX's heartbeat by the watching half (R408) fails. -/
def State.heartLost (s : State) (h : Nat) : Bool :=
  let w := s.fld CPX_CTL_WDOG_TICKS h
  let age := (s.tickIndex % 2 ^ 32 + 2 ^ 32 - s.regN .CPX_HEARTBEAT (1 - h)) % 2 ^ 32
  decide (s.fld PM_STATE_STATE < 2) && s.flag CPX_STS_RUNNING (1 - h) && decide (0 < w) && decide (w < age)

/-- CPX_WATCHDOG_EXPIRY (R408): once for each lapse. -/
def execCpxWatchdogExpiry (h : Nat) (s : State) : Out :=
  finish <|
    if 2 ≤ h ∨ !s.heartLost h ∨ s.flag CPX_STS_WDOG h then s
    else ((s.setFld CPX_STS_WDOG 1 h).event CPX_EVT_WDOG h).record 14 (1 - h)

/-- A lapse ends at the first tick at which the check holds again (R408). -/
def State.wdogTick (s : State) : State :=
  [0, 1].foldl (fun (t : State) h => if t.flag CPX_STS_WDOG h && !t.heartLost h then t.setFld CPX_STS_WDOG 0 h else t) s

/-! ### Adoption -/

/-- The half whose CPX executes a command (R386): that of its target for some opcodes, else the one that fetched it. -/
def State.executor (s : State) (o : Outstanding) : Nat :=
  let target := match o.cmd.opcode with
    | 0x0900 => domainHalf o.cmd.handle
    | 0x0B01 => swapHalf o.cmd.handle
    | _ => none
  match target with
  | some h => if s.adopted h then o.half else h
  | none => o.half

/-- A command still waits for its CPX: neither answered nor a picture that has been accepted (R387, R409). -/
def Outstanding.unfinished (o : Outstanding) : Bool :=
  o.stage != .replyWaiting && !(o.stage == .started && (o.cmd.opcode == 0x0400 || o.cmd.opcode == 0x0500))

/-- The commands a CPX executes end with ABORTED_BY_RESET (R93, R409). -/
def State.abortFor (s : State) (h : Nat) : State :=
  (s.cmd.outstanding.filter fun o => o.unfinished && s.executor o == h).foldl (fun t o => t.answer o.cmd 0x31 0 0) s

/-- A CPX stops (R409): its commands end, and as a target it no longer waits for events. -/
def State.haltCpx (s : State) (h : Nat) : State :=
  let s1 := ((s.setFld CPX_STS_HALTED 1 h).setFld CPX_STS_RUNNING 0 h).setFld CPX_STS_FENCED 0 h
  let s2 := s1.setTarget (768 + h) { s1.target (768 + h) with waiting := false }
  s2.abortFor h

/-- Who may halt or adopt a half: PF0 or the lead CPX, for the half that does not lead (R409). -/
def State.mayHalt (s : State) (a : Agent) (h : Nat) : Bool :=
  decide (h < 2) && h != s.leadHalf && (match a with | .func f => f == 0 | .cpx g => g == s.leadHalf)

/-- A half is adopted (R409). -/
def State.adopt (s : State) (h : Nat) : State :=
  let s1 := (s.haltCpx h).setFld CPX_CTL_ADOPT 1 h
  State.syncMasks { s1.setFld CPX_STS_ADOPTED 1 (1 - h) with ctl := { s1.ctl with handBack := none } }

/-- ADOPT clears (R410): not before the adopted CPX has run again; the hand-back follows at the next tick. -/
def State.unadopt (s : State) (h : Nat) : State :=
  if !s.flag CPX_CTL_ADOPT h ∨ s.flag CPX_STS_HALTED h then s
  else { s.setFld CPX_CTL_ADOPT 0 h with ctl := { s.ctl with handBack := some h } }

/-- CPX_ADOPT (R409, R410). -/
def execCpxAdopt (a : Agent) (h : Nat) (on : Bool) (s : State) : Out :=
  finish <| s.byAgent a .CPX_CTL h fun _ s => if !s.mayHalt a h then s else if on then s.adopt h else s.unadopt h

/-- CPX_HALT (R409): without adoption the half is treated as fenced. -/
def execCpxHalt (a : Agent) (h : Nat) (s : State) : Out :=
  finish <| s.byAgent a .CPX_CTL h fun _ s => if !s.mayHalt a h then s else ((s.haltCpx h).setFld CPX_CTL_HALT 1 h).cutHalf h

/-- The hand-back at a tick (R410). -/
def State.handBackTick (s : State) : State :=
  match s.ctl.handBack with
  | none => s
  | some h =>
    let s1 := { s.setFld CPX_STS_ADOPTED 0 (1 - h) with ctl := { s.ctl with handBack := none } }
    (s1.copyBelief h).syncMasks

/-- A CPX starts to run (R390, R402, R410, R415). -/
def State.startCpx (s : State) (h : Nat) : State :=
  let s1 := ((s.setFld CPX_STS_RUNNING 1 h).setFld CPX_STS_HALTED 0 h).setFld CPX_STS_FENCED 0 h
  let s2 := (s1.setFld CPX_CTL_HALT 0 h).copyBelief h
  (s2.setTarget (768 + h) { s2.target (768 + h) with waiting := true }).syncMasks

end Sys2Proof.Machine
end

