-- ==== Sys2Proof/Machine/Boot.lean ====
section
/-!
DEFINITION. Image load, micro-sequencers and microcode patches (R390 to R400, R488, R489).
-/
namespace Sys2Proof.Machine

/-! ### Image load -/

/-- A load of an image is refused (R390, R391): both command processors stay stopped. -/
def State.bootFail (s : State) (err : Nat) : State :=
  let s1 := (s.setFld CPX_BOOT_STS_STATE 5).setFld CPX_BOOT_STS_ERR err
  ((s1.event CPX_EVT_BOOT_FAIL 0).event CPX_EVT_BOOT_FAIL 1).record 15 0

/-- CPX_BOOT_GO (R390): PF0 starts a load; ignored while one runs and while the command processors do. -/
def execCpxBootGo (a : Agent) (s : State) : Out :=
  finish <| s.byAgent a .CPX_BOOT_CTL 0 fun f s =>
    let st := s.fld CPX_BOOT_STS_STATE
    if f ≠ 0 ∨ (st ≠ 0 ∧ st ≠ 5) then s
    else
      let len := s.regN .CPX_BOOT_LEN
      let s1 := (s.setFld CPX_BOOT_STS_STATE 1).setFld CPX_BOOT_STS_ERR 0
      if len = 0 ∨ 4194304 < len then s1.bootFail 1 else s1

/-- The first failure of an image, as `CPX_BOOT_STS.ERR` (R391, R486, R488). -/
def State.imageError (s : State) (x : OxvexImage) : Option Nat :=
  if !x.readOk then some 1
  else if !x.formed ∨ 64 < x.svn then some 3
  else if !x.signed ∨ s.secError then some 2
  else if !x.dieOk then some 4
  else if x.svn < s.fld SEC_MIN_SVN_SVN then some 5
  else none

/-- The version word of a sequencer or a command processor: base, patch or build, and digest (R400, R413). -/
def versionWord (base patch digest : Nat) : Nat := base % 2 ^ 16 + patch % 256 * 65536 + digest % 2 ^ 32 * 2 ^ 32

/-- The control stores and instruction memories hold an image, and the sequencers run (R390, R393, R400). -/
def State.loadImage (s : State) (x : OxvexImage) : State :=
  let v := versionWord x.fwBase x.fwBuild x.fwDigest
  let s1 := (s.putN .CPX_VERSION v 0).putN .CPX_VERSION v 1
  (List.range 6).foldl (fun t u =>
    if !t.usqPresent u then t
    else
      let w := if u < 4 then versionWord x.encBase 0 x.encDigest else versionWord x.decBase 0 x.decDigest
      let t1 := (t.putN .USQ_VERSION w u).putN .USQ_STS 1 u
      if u < 4 then t1.setFld ENC_CL_STS_USQ_RUN 1 u else t1) s1

/-- IMAGE_READ_COMPLETE (R390, R488, R489): the image is checked; it loads and both command processors start, or the load fails. A load
waits for the self-tests of the security module (R484). -/
def execImageReadComplete (x : OxvexImage) (s : State) : Out :=
  finish <|
    if s.fld CPX_BOOT_STS_STATE ≠ 1 ∨ s.secWaits then s
    else match s.imageError x with
      | some e => s.bootFail e
      | none =>
        let s1 := s.loadImage x
        let s2 := if x.commitSvn && decide (s.fld SEC_MIN_SVN_SVN < x.svn) then s1.setFld SEC_MIN_SVN_SVN x.svn else s1
        let s3 := { s2.setFld CPX_BOOT_STS_STATE 4 with ctl := { s2.ctl with retained := true, patch := none } }
        (s3.startCpx 0).startCpx 1

/-! ### Patches -/

/-- The sequencers that a patch targets: those present of the kinds it holds a section for (R398). -/
def State.patchTargets (s : State) (x : PatchImage) : List Nat :=
  (List.range 6).filter fun u => s.usqPresent u && (if u < 4 then x.encWords.isSome else x.decWords.isSome)

/-- The checks of a patch after its signatures, in detail order (R398). -/
def State.patchChecks (s : State) (x : PatchImage) : List (Bool × Nat) :=
  let us := s.patchTargets x
  let base := fun u => if u < 4 then x.encBase else x.decBase
  [(us.all fun u => s.fld USQ_VERSION_BASE u == base u, 1), (us.all fun u => decide (s.fld USQ_VERSION_PATCH u < x.level), 2),
   (x.cyclesOk, 4), (!us.isEmpty, 6)]

/-- MICROCODE_PATCH (R398, R399): a patch that passes is written into the half not in use and waits for its switch. -/
def opMicrocodePatch (x : PatchImage) (c : Cmd) (s : State) : Res :=
  withModule s <|
    let long : Option Nat → Bool := fun n => match n with | some k => decide (256 < k) | none => false
    if s.ctl.patch.isSome then Res.bad s 5
    else if long x.encWords ∨ long x.decWords ∨ 4194304 < c.p 2 % 2 ^ 32 then Res.bad s 3
    else if !x.formed ∨ 64 < x.svn ∨ !x.signed ∨ !x.dieOk ∨ x.svn < s.fld SEC_MIN_SVN_SVN then Res.err s 0x21 0
    else match firstBad (s.patchChecks x) with
      | some d => Res.bad s d
      | none =>
        let s1 := (s.patchTargets x).foldl (fun (t : State) u => t.setFld USQ_STS_PATCH_PENDING 1 u) s
        Res.later (State.service { s1 with ctl := { s1.ctl with patch := some (c, x) } } c.opcode 0)

/-- MICROCODE_PATCH. -/
def execMicrocodePatch (c : Cmd) (x : PatchImage) (s : State) : Out := runSecure c (opMicrocodePatch x) s

/-- The logical pipes a sequencer serves (R6, R100, R160). -/
def usqPipes (u : Nat) : List Nat := if u < 4 then (List.range 4).map (4 * u + ·) else (List.range 4).map (16 + 4 * (u - 4) + ·)

/-- A pipe carries a picture that was launched before this instant: a launch at L = 0 follows the switch of its tick (R32, R399). -/
def State.carries (s : State) (p : Nat) : Bool :=
  (match s.encOn p with | some q => decide (q.launchRun < s.tb.run) | none => false) ||
  (match s.decOn p with | some q => decide (q.launchRun < s.tb.run) | none => false)

/-- One sequencer switches to its patched routine vector (R399, R400). -/
def State.switchUsq (x : PatchImage) (s : State) (u : Nat) : State :=
  let d := if u < 4 then x.encDigest else x.decDigest
  let s1 := s.putN .USQ_VERSION (versionWord (s.fld USQ_VERSION_BASE u) x.level d) u
  (s1.setFld USQ_STS_PATCH_PENDING 0 u).setFld USQ_STS_PATCH_HALF (1 - s.fld USQ_STS_PATCH_HALF u) u

/-- MICROCODE_PATCH_SWITCH (R399): at a tick at which no targeted sequencer serves a pipe that carries a picture. -/
def execMicrocodePatchSwitch (s : State) : Out :=
  finish <|
    match s.ctl.patch with
    | none => s
    | some (c, x) =>
      let us := s.patchTargets x
      if !s.flag TK_CTRL_EN ∨ us.any (fun u => (usqPipes u).any s.carries) then s
      else
        let s1 := us.foldl (State.switchUsq x) s
        let s2 := { s1 with ctl := { s1.ctl with patch := none } }
        ((s2.event CPX_EVT_PATCH 0).event CPX_EVT_PATCH 1).answerLater (some c) 0 0 x.level

/-! ### Sequencers -/

/-- The step log takes a fault (R397): the first is kept, a later one sets only OVERFLOW. -/
def State.stepLog (s : State) (u routine step fs : Nat) : State :=
  if s.flag USQ_STEP_LOG_VALID u then s.setFld USQ_STEP_LOG_OVERFLOW 1 u
  else s.setReg .USQ_STEP_LOG (BitVec.ofNat 64
    (routine % 256 + step % 4096 * 256 + fs % 64 * 2 ^ 20 + 2 ^ 26 + s.tickIndex % 2 ^ 32 * 2 ^ 32)) u

/-- USQ_FAULT (R396): the routine runs on with its later data poisoned, and the fault waits for the boundary. -/
def execUsqFault (u routine step fs : Nat) (d : UsqData) (s : State) : Out :=
  finish <|
    if !s.usqPresent u ∨ !s.flag USQ_STS_RUN u then s
    else
      let s1 := (((s.stepLog u routine step fs).bump .USQ_POISON_CNT 1 u).event USQ_EVT_POISON u).record 12 u
      let l := (storeFind s.ctl.faults u).getD []
      { s1 with ctl := { s1.ctl with faults := storeInsert s1.ctl.faults u (l ++ [d]) } }

/-- A fault is taken under the rule of its data (R396): pipe data by the tables of R121 and R183, a saved context by stream. -/
def State.takeFault (s : State) (d : UsqData) : State :=
  match d with
  | .pipe p => if p < 16 then s.encFault p (.poison (s.nextUnit p)) else s.decFault p .refFetch
  | .context h =>
    let x := s.stream h
    if x.st = .free then s
    else if x.dec then x.refs.foldl (fun (t : State) d => t.setFld FB_DESC_MARKS_UNUSABLE 1 d) s
    else s.onStream h fun y => { y with keyDue := true }

/-- USQ_ROUTINE_BOUNDARY (R395): an event has waited `wait` cycles; faults are taken, then a stop, and the next routine runs. -/
def execUsqRoutineBoundary (u wait : Nat) (next : Option Nat) (stop : Bool) (s : State) : Out :=
  finish <|
    if !s.usqPresent u ∨ !s.flag USQ_STS_RUN u then s
    else
      let l := (storeFind s.ctl.faults u).getD []
      let s1 := l.foldl State.takeFault { s with ctl := { s.ctl with faults := storeDrop s.ctl.faults u } }
      let s2 := (s1.eventIf (!l.isEmpty) USQ_EVT_FAULT_TAKEN u).maxReg .USQ_LAT_MAX (min wait 4096) u
      let s3 := (s2.setFlag USQ_STS_IN_ROUTINE (next.isSome && !stop) u).setFld USQ_STS_ROUTINE (if stop then 0 else next.getD 0) u
      if stop then
        let s4 := ((s3.event USQ_EVT_STOP u).setFld USQ_STS_STOPPED 1 u).setFld USQ_STS_RUN 0 u
        if u < 4 then s4.setFld ENC_CL_STS_USQ_RUN 0 u else s4
      else s3

/-- USQ_ROUTINE_OVERRUN (R394): the routine is stopped, and the pipes it served stop. -/
def execUsqRoutineOverrun (u : Nat) (pipes : List Nat) (s : State) : Out :=
  finish <|
    if !s.usqPresent u ∨ !s.flag USQ_STS_RUN u then s
    else
      let s1 := ((s.setFld USQ_STS_IN_ROUTINE 0 u).event USQ_EVT_OVERRUN u).record 11 u
      (pipes.filter fun p => (usqPipes u).contains p).foldl (fun (t : State) p =>
        if p < 16 then t.encFault p .stop else t.decFault p .backStop) s1

end Sys2Proof.Machine
end

