-- ==== Sys2Proof/Machine/Interrupts.lean ====
section
/-!
DEFINITION. The commands of the interrupt controller and of the fault collector (R416 to R432).
-/
namespace Sys2Proof.Machine

/-! ### Handlers -/

/-- The function and vector of a host target (R424). -/
def targetVector (t : Nat) : Nat × Nat := if t < 256 then (0, t) else ((t - 512) / 8 + 1, (t - 512) % 8)

/-- A target exists: a PF0 vector, a VF vector, or a command processor (R419). -/
def targetExists (t : Nat) : Bool := decide (t < 256) || (decide (512 ≤ t) && decide (t < 770))

/-- An agent is the handler of a target (R419, R421, R424): a VF of its own vectors, PF0 of every host vector, a command processor of its
own. -/
def handles (a : Agent) (t : Nat) : Bool :=
  targetExists t && match a with
    | .func f => decide (t < 768) && (f == 0 || (targetVector t).1 == f)
    | .cpx h => decide (t = 768 + h) && decide (h < 2)

/-- The value of a claim that finds nothing (R425). -/
def claimNone : Nat := 0x80000000

/-- A claim by a target's handler (R419, R420): the value the read returns, and the state it leaves. -/
def State.claim (s : State) (t : Nat) : Nat × State :=
  match s.bestSource t with
  | none => (claimNone, if 768 ≤ t then s.setTarget t { s.target t with waiting := true } else s)
  | some n =>
    let dead := !s.live n
    let x := s.target t
    let s1 := (s.srcBit .IC_PEND n false).srcBit .IC_ACTIVE n true
    let s2 := s1.setTarget t { x with stack := (n, s.fld IC_SRC_CFG_PRIO n) :: x.stack, signalled := false, waiting := false }
    let s3 := if dead then s2.putN .IC_SPURIOUS_CNT (satAdd 0xFFFF (s2.regN .IC_SPURIOUS_CNT n) 1) n else s2
    (n + dead.toNat * 256, s3)

/-- IC_CLAIM (R419, R420): a read by anyone but the target's handler returns NONE. -/
def execIcClaim (a : Agent) (t : Nat) (s : State) : Out :=
  finish <|
    let (v, s1) := if handles a t then s.claim t else (claimNone, s)
    { s1 with lastRead := BitVec.ofNat 64 v }

/-- A source is completed at a target (R421): by the stack, and by STRICT. -/
def State.complete (s : State) (t n : Nat) : State :=
  let x := s.target t
  let rest := x.stack.filter fun e => e.1 != n
  let pop := fun (s : State) => (s.srcBit .IC_ACTIVE n false).setTarget t { x with stack := rest, waiting := rest.isEmpty }
  if (x.stack.head?.map Prod.fst) = some n then pop s
  else if s.flag ⟨.IC_CTL, 0, 1⟩ then (s.setFld IC_STS_STACK_ERR 1).record 36 n
  else if x.stack.any fun e => e.1 == n then pop s
  else s.bump .IC_IGNORED_CNT

/-- A fenced command processor writes next to nothing (R388). -/
def State.fencedAgent (s : State) (a : Agent) : Bool :=
  match a with
  | .func _ => false
  | .cpx h => s.flag CPX_STS_FENCED h

/-- IC_COMPLETE (R388, R421): by the target's own handler only. -/
def execIcComplete (a : Agent) (t : Nat) (v : Word) (s : State) : Out :=
  finish <|
    if !handles a t ∨ s.fencedAgent a then s.byAgent a .IC_COMPLETE t fun _ s => s
    else
      let n := v.toNat % 256
      (s.putN .IC_COMPLETE n t).complete t n

/-- IC_SRC_CFG_WRITE (R418): VECTOR and PRIO of a queue's source by the owner of the queue, every other source by PF0 and the lead command
processor. -/
def execIcSrcCfgWrite (a : Agent) (n : Nat) (v : Word) (s : State) : Out :=
  finish <|
    let w := v.toNat
    let vec := natField w 8 8
    if n < 64 then
      let own := s.fld CPLQ_OWNER_FUNC n
      match a with
      | .cpx _ => s.byAgent a .IC_SRC_CFG n fun _ s => s
      | .func f =>
        if f ≠ own ∨ 32 < own then s
        else if !vectorExists f vec then s.setFld IC_STS_CFG_ERR 1
        else (s.setFld IC_SRC_CFG_VECTOR vec n).setFld IC_SRC_CFG_PRIO w n
    else if 250 ≤ n then s
    else
      s.byAgent a .IC_SRC_CFG n fun f s =>
        if f ≠ 0 then s
        else if natField w 4 2 = 0 ∧ natField w 16 6 ≠ 0 then s.setFld IC_STS_CFG_ERR 1
        else s.putN .IC_SRC_CFG (w &&& 0x3FFF3F) n

/-! ### Messages -/

/-- A message is sent to a target (R422): an MSI-X message, or an event to a command processor. -/
def State.message (s : State) (t : Nat) : State :=
  let x := s.target t
  let s1 := s.setTarget t { x with signalled := true, lastMsg := some s.tb.run, waiting := false }
  if 768 ≤ t then s1.emit (.cpxEvent (t - 768)) else s1.sendVector (targetVector t).1 (targetVector t).2

/-- A target is idle (R422). -/
def State.targetIdle (s : State) (t : Nat) : Bool := if 768 ≤ t then (s.target t).waiting else (s.target t).stack.isEmpty

/-- When a message may go to a target that is not signalled and has a deliverable source (R422): at once, or at an instant of `run`. -/
def State.messageAt (s : State) (t : Nat) : Nat :=
  let cnt := s.fld IC_MOD_MOD_COUNT t
  if s.targetIdle t ∨ (0 < cnt ∧ cnt ≤ (s.deliverable t).length) then s.tb.run
  else match (s.target t).lastMsg with
    | none => s.tb.run
    | some m => m + 1000 * s.fld IC_MOD_MOD_US t

/-- IC_MESSAGE_SEND (R422). -/
def execIcMessageSend (t : Nat) (s : State) : Out :=
  finish <|
    if !targetExists t ∨ (s.target t).signalled ∨ (s.deliverable t).isEmpty then s
    else (s.reachRun (s.messageAt t)).message t

/-! ### The fault collector -/

/-- FC_CLEAR_WRITE (R428): ones clear bits of `FC_STATUS`. -/
def execFcClearWrite (a : Agent) (v : DWord) (s : State) : Out :=
  finish <| s.byAgent a .FC_CLEAR 0 fun f s => if f ≠ 0 then s else s.clearFaults v

/-- FC_MASK_WRITE (R429): FAULT_N follows at once. -/
def execFcMaskWrite (a : Agent) (v : DWord) (s : State) : Out :=
  finish <| s.byAgent a .FC_MASK 0 fun f s => if f ≠ 0 then s else s.setReg .FC_MASK v

/-- FC_INJECT (R430): an occurrence is recorded, in test mode alone. -/
def execFcInject (a : Agent) (v : Word) (s : State) : Out :=
  finish <| s.byAgent a .FC_INJECT 0 fun f s =>
    if f ≠ 0 ∨ !s.chip.strapTest then s
    else
      let src := v.toNat % 64
      let s1 := s.putN .FC_INJECT src
      if v.toNat.testBit 8 then s1.record src 0 true else s1

end Sys2Proof.Machine
end

