-- ==== Sys2Proof/Machine/Power.lean ====
section
/-!
DEFINITION. VOTE_SET, sleep and wake, droop, temperature and the VDD_CORE target (R423, R435 to R452).
-/
namespace Sys2Proof.Machine

/-! ### Votes -/

/-- A domain has a transition to make, or makes one (R437). -/
def State.domDue (s : State) (d : Nat) : Bool :=
  let st := s.fld PM_DOM_STS_STATE d
  st == domTransit || (st == domOff && s.wanted d) || (st == domIsOn && !s.wanted d)

/-- VOTE_SET (R438): with WAIT the reply comes when the domain is ON or OFF. -/
def opVoteSet (c : Cmd) (s : State) : Res :=
  let d := c.handle
  if !s.domPresent d then Res.bad s 0x00F006
  else if (match domainHalf d with | some h => s.halfFenced h | none => false) then Res.err s 0x14 3
  else if c.p 0 % 2 ^ 32 / 4 ≠ 0 then Res.badWord s 0
  else
    let s1 := s.vote 0 d ((c.p 0).testBit 0)
    if (c.p 0).testBit 1 && (s1.domDue d || (s1.entryOf c).isNone) then Res.later s1 else Res.ok s1 (s1.voters d)

/-- VOTE_SET. -/
def execVoteSet (c : Cmd) (s : State) : Out := runCommand c opVoteSet s

/-- DOMAIN_RESTORE_DONE (R437). -/
def execDomainRestoreDone (d : Nat) (s : State) : Out := finish (s.domDone d)

/-! ### Entering sleep -/

/-- The first cause for which a sleep request is refused (R441). -/
def State.sleepRefused (s : State) (target : Nat) : Option Nat :=
  let busy := decide (0 < s.fld CMDQ_HELD_COUNT) || ((List.range 64).any fun q => s.fld CMDQ_STS_PENDING q != 0) || !s.codec.enc.isEmpty ||
    !s.codec.dec.isEmpty || (List.range 64).any fun n => s.flag DMA_STS_BUSY n
  if s.fld PM_STATE_STATE ≠ 1 then some 1
  else if busy then some 2
  else if target = 2 ∧ (!s.cxl.d3hot ∨ !s.cxl.l1) then some 3
  else if s.flag PM_STATE_ENTERING ∨ s.flag PM_STATE_WAKING then some 4
  else none

/-- A source is named by an enabled wake entry (R423); an entry naming a reserved source is ignored. -/
def State.watched (s : State) (n : Nat) : Bool :=
  decide (n < 250) && (List.range 32).any fun i => s.flag AON_WAKE_SRC_EN i && s.fld AON_WAKE_SRC_SOURCE i == n

/-- A wake condition for a sleep target, 1 Nap and 2 Deep (R423, R444). -/
def State.wakes (s : State) (target : Nat) (w : WakeCause) : Bool :=
  match w with
  | .source n => s.watched n && s.live n
  | .hostAccess => target == 1
  | .l1Exit => target == 2
  | .d0 => s.cxl.d3hot

/-- `AON_WAKE_CAUSE` for a cause (R454). -/
def causeWord (w : WakeCause) : Nat :=
  2 ^ 31 + match w with
    | .source n => n % 256 + 256
    | .hostAccess => 2 * 256
    | .l1Exit => 3 * 256
    | .d0 => 4 * 256

/-- The host's own transitions that a wake condition brings: the link is in L0, PF0 in D0 (R444). -/
def State.hostWakes (s : State) (w : WakeCause) : State :=
  match w with
  | .d0 => { s with cxl := { s.cxl with d3hot := false } }
  | .l1Exit => { s with cxl := { s.cxl with l1 := false } }
  | _ => s

/-- Every cell queue is flushed (R442, step 2). -/
def State.flushAll (s : State) : State := (s.net.queued.map Prod.fst).foldl (fun (t : State) q => t.flushQueue q false) s

/-- A sleep entry is aborted at an abort point (R443): what its steps did is undone, but for the queues that step 2 flushed. -/
def State.abortEntry (s : State) (ap : Nat) (w : WakeCause) : State :=
  let s1 := if 2 ≤ ap then s.flushAll else s
  let s2 := ((s1.setFld PM_SLEEP_STS_ABORTED 1).setFld PM_SLEEP_STS_ABORT_AP ap).setFld PM_SLEEP_STS_PHASE 0
  let s3 := ((s2.bumpFld AON_SLEEP_CNT_ABORTS).putN .AON_WAKE_CAUSE (causeWord w)).setFld PM_STATE_ENTERING 0
  (State.event { s3 with power := { s3.power with entry := none } } PM_EVT_SLEEP_ABORT).hostWakes w

/-- SLEEP_REQUEST (R441 to R443): PF0 alone; `w` is a wake condition present in the request cycle, and `d3hot` whether PF0 is in D3hot. -/
def execSleepRequest (a : Agent) (v : Word) (w : Option WakeCause) (d3hot : Bool) (s : State) : Out :=
  finish <|
    let target := v.toNat % 4
    let s0 := { s with cxl := { s.cxl with d3hot := d3hot } }
    if a ≠ .func 0 ∨ target = 3 then s.byAgent a .PM_SLEEP_REQ 0 fun _ s => s
    else if target = 0 then s0.putN .PM_SLEEP_REQ (v.toNat &&& 0x10)
    else match s0.sleepRefused target with
      | some e => (s0.setFld PM_SLEEP_STS_ERR e).event PM_EVT_SLEEP_ABORT
      | none =>
        let s1 := ((s0.putN .PM_SLEEP_REQ (v.toNat &&& 0x13)).setFld PM_SLEEP_STS_ERR 0).setFld PM_SLEEP_STS_PHASE 1
        let s2 := { s1.setFld PM_STATE_ENTERING 1 with power := { s1.power with entry := some (target, s.tb.run) } }
        match w with
        | some c => if s2.wakes target c then s2.abortEntry 0 c else s2
        | none => s2

/-- Firmware freezes the arbiters, or lets them go (R323, R442). -/
def State.fwFreeze (s : State) (b : Bool) : State :=
  let s1 := (List.range 8).foldl (fun (t : State) i =>
    let t1 := t.setFlag ARB_STS_FW_FREEZE b i
    t1.setFlag ARB_STS_FROZEN (t1.arbFrozen i) i) s
  if b then s1 else (List.range 4).foldl State.grantGroup s1

/-- The lanes of every group, the ports and the links go off (R440, R446). -/
def State.lanesOff (s : State) : State :=
  let s1 := (List.range 4).foldl State.portDown s
  let s2 := [0, 1].foldl (fun (t : State) k => (if t.linkUp k then t.linkDown k else t).setReg .FL_STS 0 k) s1
  s2.setLanes ((List.range 16).filter s2.lanePresent) 0 0

/-- A bank goes to a state without a transition of its own, inside a sleep or a reset (R349). -/
def State.bankPut (s : State) (b st : Nat) : State :=
  let s1 := (s.setFld SPD_BANK_STS_STATE_NOW st b).setFld SPD_BANK_STS_TRANSIT 0 b
  let s2 := { s1 with banks := { s1.banks with moving := storeDrop s1.banks.moving b } }
  if st = 2 then s2.zeroBank b else s2

/-- The banks enter sleep (R349): a transition in progress ends first. -/
def State.banksSleep (s : State) (deep : Bool) : State :=
  (List.range 64).foldl (fun (t : State) b =>
    let now := match storeFind t.banks.moving b with | some (_, st) => st | none => t.fld SPD_BANK_STS_STATE_NOW b
    let t1 := if (storeFind t.banks.moving b).isSome then t.bankPut b now else t
    if !deep then (if now = 0 then t1.bankPut b 1 else t1)
    else if now = 0 ∧ t1.flag SPD_BANK_CFG_KEEP b then t1.bankPut b 1
    else t1.bankPut b 2) s

/-- Where a domain stands in Nap (R439). -/
def napState (d : Nat) : Nat :=
  if d = 15 ∨ d = 21 then domIsOn else if d = 22 ∨ (6 ≤ d ∧ d < 10) ∨ d = 16 ∨ d = 17 ∨ d = 19 then domRetention else domOff

/-- A present domain takes a state inside a sleep, a wake or a reset; a change to ON or OFF has its event (R437). -/
def State.domPut (s : State) (d st : Nat) : State :=
  if !s.domPresent d ∨ s.fld PM_DOM_STS_STATE d = st then s
  else
    let s1 := s.setDom d st
    let s2 := { s1 with power := { s1.power with onAt := storeDrop s1.power.onAt d } }
    if st = domIsOn then s2.event PM_EVT_DOM_ON else if st = domOff then s2.event PM_EVT_DOM_OFF else s2

/-- The security module goes down with its domain (R483, R496): the volatile keys are zeroised. -/
def State.secDown (s : State) : State :=
  let s1 := (s.zeroiseVolatile.dropSrtp).secState 0
  { s1 with security := { s1.security with testsDue := true } }

/-- The channels of present memory that have not failed take a state: 0 in self-refresh, 2 up (R338, R442). -/
def State.channelsPut (s : State) (st : Nat) : State :=
  (List.range 16).foldl (fun (t : State) n => if t.channelPresent n && !t.channelFailed n then t.setFld MC_CH_STS_STATE st n else t) s

/-- VOTE_SET commands with WAIT that the device cannot finish (R438). -/
def State.abortVotes (s : State) : State :=
  (s.cmd.outstanding.filter Outstanding.waitsVote).foldl (fun t o => t.answer o.cmd 0x31 0 0) s

/-- The steps of a sleep entry are done (R349, R439, R442, R496): the device is in Nap or Deep. -/
def State.enterSleep (s : State) (target : Nat) : State :=
  let deep := target == 2
  let s1 := ((s.abortVotes.fwFreeze true).flushAll.lanesOff).banksSleep deep
  let s2 := if deep then s1.secDown else s1
  let s3 := (List.range 24).foldl (fun (t : State) d => t.domPut d (if deep then domOff else napState d)) (s2.channelsPut 0)
  let s4 := ((s3.setFld PM_STATE_STATE (target + 1)).setFld PM_STATE_ENTERING 0).setFld PM_SLEEP_STS_PHASE 0
  let s5 := { s4.bumpFld AON_SLEEP_CNT_ENTRIES with power := { s4.power with entry := none } }
  let s6 := s5.syncMasks
  if deep then s6.sleepStart else s6

/-- What passes with no command waiting (R23, R442): a sleep entry in progress reaches its end once the arbiters have drained; else one
edge of TCLK, while domain TIME is on. -/
def State.idle (s : State) : State :=
  match s.power.entry with
  | some (target, _) => if s.memctl.bursts.isEmpty then s.enterSleep target else tclkEdge s
  | none => if s.domOn 15 then tclkEdge s else s

/-! ### Wake -/

/-- Device time passes inside one command, but not beyond the next grid point. -/
def State.lapse (s : State) (n : Nat) : State :=
  if s.flag TK_CTRL_EN then s.pass (min n (s.nextTick - s.tb.ns)) else s.pass n

/-- The retained contents do not match their digest (R392). -/
def State.digestFail (s : State) : State :=
  let s1 := (s.setFld CPX_BOOT_STS_STATE 5).setFld CPX_BOOT_STS_ERR 6
  let s2 := (s1.setFld CPX_STS_RUNNING 0 0).setFld CPX_STS_RUNNING 0 1
  State.record { s2 with ctl := { s2.ctl with retained := false } } 15 0

/-- Domains of a wake step come ON together (R445). -/
def State.domsOn (s : State) (l : List Nat) : State := l.foldl (fun (t : State) d => t.domPut d domIsOn) s

/-- The lane groups that have a vote come ON, and their lanes and links start to come up (R257, R261, R445). -/
def State.lanesOn (s : State) (gs : List Nat) : State :=
  gs.foldl (fun (t : State) g =>
    let t1 := t.setLanes (t.groupLanes g) (if t.groupUse g = 0 then 0 else 1) 0
    if t1.groupUse g = 2 ∧ t1.joined then t1.trainLink (g / 2) else t1) (s.domsOn (gs.map (· + 10)))

/-- Steps 5 and 6 of a wake: the domains that have a vote (R445). -/
def State.wakeVoted (s : State) (deep : Bool) : State :=
  let gs := (List.range 4).filter fun g => s.domPresent (10 + g) && s.wanted (10 + g)
  let ps := (List.range 6).filter fun d => s.domPresent d && s.wanted d
  let t := (if deep then 2000000 + 5000000 else 100000 + 10000) + (if gs.isEmpty then 0 else 50000) + (if ps.isEmpty then 0 else 20000)
  let s1 := ((s.lanesOn gs).domsOn ps).lapse t
  let s2 := (s1.setFld PM_STATE_STATE 1).setFld PM_STATE_WAKING 0
  ((s2.event PM_EVT_SLEEP_DONE).event PM_EVT_WAKE).dependVote.activeState

/-- Steps 1 and 2 of a wake (R53, R423, R445): the watched edge is latched, and time is restored. -/
def State.wakeTimed (s : State) (w : WakeCause) (cycles : Nat) : State :=
  let s1 := (s.putN .AON_WAKE_CAUSE (causeWord w)).domsOn [22]
  let s2 := match w with | .source n => if s1.pendBit n then s1 else s1.raise n | _ => s1
  let s3 := s2.domsOn [15, 21]
  (if s.deep then (s3.sleepCount cycles).wakeTime else s3.lapse 5000).hostWakes w

/-- Steps 3 and 4 of a wake (R342, R349, R445): memory, then the units of step 4; the link is in L0 after Deep (R444). -/
def State.wakeUnits (s : State) (deep : Bool) : State :=
  let s1 := (((s.domsOn [8, 9]).channelsPut 2).domsOn [6, 7, 14, 16, 17, 18, 19, 20, 23]).fwFreeze false
  let s2 := (List.range 64).foldl (fun (t : State) b => t.bankTowards b (t.fld SPD_BANK_CFG_STATE b)) s1
  let l1 := s2.cxl.l1 && !deep
  { s2 with cxl := { s2.cxl with l1 := l1 }, pins := { s2.pins with wakeN := !(s2.flag PM_SLEEP_REQ_WAKE_N_EN && l1) } }

/-- The end of step 4 after Deep (R392, R445, R484): the self-tests run, and a digest that does not match stops the wake. -/
def State.wakeDeep (s : State) (x : WakeInfo) : State :=
  let s1 := s.startModule x.tests
  let bad : Bool := s1.fld CPX_BOOT_STS_STATE == 4 && !x.digestOk
  if bad then ((s1.digestFail.setFld PM_STATE_STATE 1).setFld PM_STATE_WAKING 0).dependVote else s1.wakeVoted true

/-- A wake runs, its steps in order (R443 to R445), with what `x` says they find. -/
def State.wake (s : State) (w : WakeCause) (x : WakeInfo) : State :=
  let s1 := (s.wakeTimed w x.cycles).wakeUnits s.deep
  (if s.deep then s1.wakeDeep x else s1.wakeVoted false).syncMasks

/-- A wake condition acts (R443, R444): it aborts an entry at its next abort point, wakes a device that sleeps, and changes nothing else. -/
def State.wakeFor (s : State) (w : WakeCause) (x : WakeInfo) : State :=
  match s.power.entry with
  | some (target, _) =>
    if !s.wakes target w then s
    else if x.ap < 4 then s.abortEntry (max 1 x.ap) w
    else (s.enterSleep target).wake w x
  | none =>
    let st := s.fld PM_STATE_STATE
    if 2 ≤ st ∧ s.wakes (st - 1) w then s.wake w x else s.hostWakes w

/-- WAKE_EVENT (R444). -/
def execWakeEvent (w : WakeCause) (x : WakeInfo) (s : State) : Out := finish (s.wakeFor w x)

/-- L1_EXIT (R369, R447): the link is in L0; at the host's request in Deep it starts a wake. -/
def execL1Exit (host : Bool) (x : WakeInfo) (s : State) : Out :=
  finish <|
    if !s.cxl.linkUp ∨ !s.cxl.l1 then s
    else if host ∧ (s.deep ∨ s.power.entry.isSome) then (s.wakeFor .l1Exit x).hostWakes .l1Exit
    else State.hostWakes { s with pins := { s.pins with wakeN := true } } .l1Exit

/-! ### Droop -/

/-- DROOP_CROSSING (R449): a sensor measures `mv` below the target. -/
def execDroopCrossing (sensor mv : Nat) (s : State) : Out :=
  finish <|
    if 8 ≤ sensor then s
    else
      let warn := s.fld DRP_CFG_WARN_MV sensor
      let slow := s.fld DRP_CFG_SLOW_MV sensor
      let s1 := s.setFld DRP_STS_DROOP_MV (min 255 mv) sensor
      let s2 :=
        if warn ≤ mv then
          if s1.flag DRP_STS_WARN sensor then s1
          else ((s1.setFld DRP_STS_WARN 1 sensor).event ⟨.DRP_EVT, 16 + sensor, 1⟩).sample 13 sensor mv
        else s1.setFld DRP_STS_WARN 0 sensor
      let was := s2.flag DRP_STS_SLOWED sensor
      let s3 :=
        if slow ≤ mv ∧ !was then
          let t := ((s2.setFld DRP_STS_SLOWED 1 sensor).event ⟨.DRP_EVT, sensor, 1⟩).bump .DRP_SLOW_CNT 1 sensor
          State.showSlowed { t with power := { t.power with slowAt := storeInsert t.power.slowAt sensor s.tb.run } } sensor
        else s2
      let on := s3.flag DRP_STS_SLOWED sensor
      let crit := decide (s.fld DRP_CFG_CRIT_MV sensor ≤ mv)
      let critAt :=
        if on ∧ crit then (if (storeFind s3.power.critAt sensor).isSome ∨ s3.flag DRP_STS_CRIT sensor then s3.power.critAt
                           else storeInsert s3.power.critAt sensor s.tb.run)
        else storeDrop s3.power.critAt sensor
      let calm := on && decide (mv + s.fld DRP_CFG_HYST_MV sensor < slow)
      let holdAt :=
        if calm then (if (storeFind s3.power.holdAt sensor).isSome then s3.power.holdAt else storeInsert s3.power.holdAt sensor s.tb.run)
        else storeDrop s3.power.holdAt sensor
      let s4 := { s3 with power := { s3.power with critAt := critAt, holdAt := holdAt } }
      if crit then s4 else s4.setFld DRP_STS_CRIT 0 sensor

/-- DROOP_CRIT_EXPIRY (R449): 100 ns at or above CRIT_MV while slowed. -/
def execDroopCritExpiry (sensor : Nat) (s : State) : Out :=
  finish <|
    match storeFind s.power.critAt sensor with
    | none => s
    | some t =>
      let s1 := (s.reachRun (t + 100)).setFld DRP_STS_CRIT 1 sensor
      let s2 := { s1 with power := { s1.power with critAt := storeDrop s1.power.critAt sensor } }
      (s2.event ⟨.DRP_EVT, 8 + sensor, 1⟩).record 33 sensor

/-- DROOP_HOLD_EXPIRY (R449): the full clock is restored, and the episode's time is added. -/
def execDroopHoldExpiry (sensor : Nat) (s : State) : Out :=
  finish <|
    match storeFind s.power.holdAt sensor with
    | none => s
    | some t =>
      let s1 := (s.reachRun (t + 1000 * max 1 (s.fld DRP_CFG_HOLD_US sensor))).setFld DRP_STS_SLOWED 0 sensor
      let dur := s1.tb.run - (storeFind s.power.slowAt sensor).getD s1.tb.run
      let s2 := ((s1.bump .DRP_SLOW_NS dur sensor).sample 14 sensor dur).setFld DRP_STS_CRIT 0 sensor
      State.showSlowed { s2 with power := { s2.power with slowAt := storeDrop s2.power.slowAt sensor
                                                          critAt := storeDrop s2.power.critAt sensor
                                                          holdAt := storeDrop s2.power.holdAt sensor } } sensor

/-! ### Temperature and supply -/

/-- Every region is slowed for heat, or no longer (R451). -/
def State.thermSlow (s : State) (b : Bool) : State :=
  (List.range 8).foldl (fun (t : State) i => (t.setFlag DRP_STS_THERM_SLOW b i).showSlowed i) s

/-- THERMAL_CHANGE (R451): the hottest junction is at `temp` °C. -/
def execThermalChange (temp sensor : Nat) (s : State) : Out :=
  finish <|
    let old := s.fld PM_TEMP_TJ_C
    let trip := clampNat 90 120 (s.fld PM_THERM_TRIP_C)
    let s1 := s.putN .PM_TEMP (min 255 temp + sensor % 256 * 256)
    let s2 := s1.eventIf (decide (s.fld PM_THERM_WARN_C ≤ temp) && decide (old < s.fld PM_THERM_WARN_C)) PM_EVT_THERM_WARN
    let s3 := if 105 < temp then s2.level 32 sensor else s2.unlevel 32
    if trip ≤ temp then
      if s3.flag DRP_STS_THERM_SLOW then s3 else (s3.thermSlow true).event PM_EVT_THERM_TRIP
    else if temp + 5 < trip then (if s3.flag DRP_STS_THERM_SLOW then s3.thermSlow false else s3)
    else s3

/-- The VDD_CORE target in force (R452, R454). -/
def State.avsTarget (s : State) : Nat := clampNat 650 850 (s.fld PM_AVS_TARGET_MV)

/-- AVS_TARGET_WRITE (R452). -/
def execAvsTargetWrite (a : Agent) (v : Word) (s : State) : Out :=
  finish <| s.byAgent a .PM_AVS 0 fun f s =>
    if f ≠ 0 then s
    else
      let s1 := s.putN .PM_AVS (v.toNat % 1024)
      s1.emit (.avs s1.avsTarget)

/-- AVS_MISMATCH_EXPIRY (R452): the readback has been `mv` for 1 ms, or a transaction failed; a readback in range ends the fault. -/
def execAvsMismatchExpiry (mv : Nat) (busErr : Bool) (s : State) : Out :=
  finish <|
    let s1 := (s.setFld PM_AVS_STS_MEASURED_MV mv).setFlag PM_AVS_STS_BUS_ERR busErr
    let off := decide (mv + 25 < s.avsTarget) || decide (s.avsTarget + 25 < mv)
    if busErr || off then (s1.level 34 0).event PM_EVT_AVS_ERR else s1.unlevel 34

end Sys2Proof.Machine
end

