-- ==== Sys2Proof/Machine/Restart.lean ====
section
/-!
DEFINITION. What the resets of the whole die leave, and the start-up that follows them (R61, R62, R217, R256, R286, R308, R310, R342, R366,
R434, R457, R471, R472, R478, R496, R505 to R513).
-/
namespace Sys2Proof.Machine

/-! ### Registers that a reset keeps -/

/-- A stored register key belongs to a register of a list. -/
def keyOf (l : List Reg) (k : Nat) : Bool := l.any fun r => r.ctorIdx == k % 512

/-- Registers that a cold reset leaves: the fuse readings, the lead of Snowdrop and the burned security version (R401, R403, R488, R507). -/
def coldKept : List Reg := [.GLB_PART, .GLB_FUSE_CFG, .GLB_SERIAL, .AON_LEAD, .AON_LEAD_REQ, .SEC_MIN_SVN]

/-- The time base and tick registers (R61). -/
def timeRegs : List Reg :=
  [.TB_CTRL, .TB_STATUS, .TB_TIME_SEC, .TB_TIME_NS, .TB_TIME_FRAC, .TB_ADJ_RATE, .TB_ADJ_STEP, .TB_SERVO_OFS, .TB_LOCK_CFG, .TB_PPS_CAP_SEC,
   .TB_PPS_CAP_NS, .TB_PPS_OUT_CFG, .TB_SLEEP_SPAN, .TB_SLEEP_ERR, .TB_EVT, .TK_CTRL, .TK_NUM, .TK_DEN, .TK_Q, .TK_R, .TK_ACC, .TK_INDEX,
   .TK_NEXT_SEC, .TK_NEXT_NS, .TK_MISSED, .TK_OUT_CFG, .TK_OUT_OFS, .TK_LATE_CNT]

/-- Registers that a warm or CXL reset leaves beside them (R342, R366, R434, R457, R478, R519). -/
def warmKept : List Reg :=
  coldKept ++ timeRegs ++
  [.FC_STATUS, .FC_MASK, .FC_FIRST, .FC_LAST, .FC_CNT, .GLB_PERST_CFG, .GLB_RST_CNT, .MC_CFG, .MC_CAP, .MC_RETIRE_TBL, .MC_RETIRE_CNT,
   .SLT_MAP_DEC, .SLT_MAP_ENC, .ENC_CL_SPARE, .DEC_SPARE, .SPR_STS, .SPR_FAILED, .SPR_PENDING, .SPR_LOG_USED, .SPR_WC_ROWS, .AON_VOTE,
   .AON_WAKE_SRC, .AON_WAKE_CAUSE, .AON_SLEEP_CNT, .PM_DOM_STS, .CELLQ_QUAR_CNT]

/-- Registers that hold what is retained with the control stores and instruction memories (R392, R400). -/
def retainedRegs : List Reg := [.CPX_VERSION, .USQ_VERSION, .USQ_STS]

/-! ### Migration records and streams -/

/-- A migration record after a reset (R250, R513); `lost` says that device memory is lost. -/
def migAfter (lost : Bool) (m : MigRec) : MigRec :=
  let n := { m with cmd := none, asked := false, conf := [], context := [], bad := false }
  match m.role, m.step with
  | 1, 1 => { n with step := 8 }
  | 1, 4 => { n with step := 6 }
  | 2, 2 => { n with step := 8 }
  | 2, 3 => { n with after := some (lost || m.after == some true) }
  | _, _ => n

/-- The migration of a handle makes this device the owner, at a reset (R250, R513). -/
def State.ownsByMig (s : State) (h : Nat) : Bool :=
  match storeFind s.ring.mig h with
  | some m => (m.role == 1 && m.step == 1) || (m.role == 2 && m.step == 5)
  | none => false

/-- A migration record of a handle in a step of an end. -/
def State.migAt (s : State) (h role step : Nat) : Bool :=
  match storeFind s.ring.mig h with
  | some m => m.role == role && m.step == step
  | none => false

/-- The stream contexts that a reset leaves in place (R513): destinations that stay undecided, and handles in LOST. -/
def State.streamsAfter (s : State) (lost : Bool) : Store Stream :=
  s.streams.foldl (fun t (h, x) =>
    if x.st = .free then t
    else if s.migAt h 2 3 then storeInsert t h { x with res := { x.res with pool := [] }, resNext := none, refs := [], held := [] }
    else if x.st = .lost then storeInsert t h x
    else if lost ∧ s.ownsByMig h then storeInsert t h { st := .lost, dec := x.dec, codec := x.codec }
    else t) []

/-- The survivor records that a warm reset leaves (R512, R513). -/
def State.survivorsAfter (s : State) : Store Stream :=
  s.streams.foldl (fun t (h, x) =>
    if x.st = .free ∨ x.st = .lost ∨ s.migAt h 2 2 ∨ s.migAt h 2 3 ∨ s.migAt h 1 4 then t
    else storeInsert t h { x with
      func := if s.ownsByMig h then 0 else x.func, closing := none, flush := none, launched := false
      recPos := (s.regN .DEC_S_REC_HEAD h, s.regN .DEC_S_REC_TAIL h) }) s.survivors

/-! ### What a reset of the die leaves -/

/-- The ring state after a reset: the migration records alone (R256). -/
def RingState.after (r : RingState) (lost : Bool) : RingState :=
  { mig := r.mig.map fun e => (e.1, migAfter lost e.2), migSeq := r.migSeq }

/-- `AON_LEAD` as it stands shows in `CPX_STS.LEAD` again (R413). -/
def State.showLead (s : State) : State :=
  if s.flag AON_LEAD_VALID then s.putLead (s.fld AON_LEAD_OWNER) (s.fld AON_LEAD_EPOCH) else s

/-- A reset is due for its start-up, with its CAUSE (R508, R519). -/
def State.dueFor (s : State) (cause : Nat) : State :=
  let s1 := (s.showLead.setFld GLB_RST_STS_CAUSE cause).showSurv
  { s1 with resets := { s1.resets with due := some cause } }

/-- The repair log when power or a reset cuts the entry short that is being programmed: it is bad (R471). -/
def Spare.logCut (p : Spare) : List Nat := if p.writing.isEmpty then p.log else p.log ++ [0]

/-- A cold reset of the die (R62, R342, R366, R434, R457, R478, R505, R507): Snowdrop keeps its lead and its migration records unless VDD_AON
was lost. -/
def State.wipeCold (s : State) (cause : Nat) (aonLost : Bool) : State :=
  let keep := if aonLost then coldKept.filter fun r => r != .AON_LEAD && r != .AON_LEAD_REQ else coldKept
  State.dueFor
    { pending := s.pending, regs := storeErase (fun k => !keyOf keep k) s.regs, hostMem := s.hostMem, chip := s.chip
      tb := { refLost := s.tb.refLost }, pins := { perstN := s.pins.perstN, scan := s.pins.scan }
      streams := if aonLost then [] else s.streamsAfter true
      ring := if aonLost then {} else s.ring.after true
      security := { burned := s.security.burned }
      spare := { log := s.spare.logCut }, resets := s.resets, lastRead := s.lastRead, sent := s.sent, freeCtr := s.freeCtr } cause

/-- The contents of the banks with KEEP (R366). -/
def State.keptSpad (s : State) : Store Byte := s.spad.filter fun e => s.flag SPD_BANK_CFG_KEEP (e.1 / 262144)

/-- What repairs show in status registers after a warm reset (R475, R478): pipes on their spares, and the bank on the spare bank. -/
def State.showRepairs (s before : State) : State :=
  let s1 := (List.range 24).foldl (fun (t : State) p =>
    if !t.onSpare p then t else if p < 16 then t.setFld ENC_EP_STS_ON_SPARE 1 p else t.setFld DEC_DP_STS_ON_SPARE 1 (p - 16)) s
  (List.range 64).foldl (fun (t : State) b => if before.fld SPD_BANK_STS_PHYS b = 64 then t.setFld SPD_BANK_STS_PHYS 64 b else t) s1

/-- The votes of clients 0 to 4 clear (R457). -/
def State.clearVotes (s : State) : State := (List.range 24).foldl (fun (t : State) d => t.putN .AON_VOTE (t.regN .AON_VOTE d &&& 0xFFE0) d) s

/-- Conditions of level faults that a warm reset ends: a failed channel and a failed self-test (R312, R486). -/
def State.levelsAfter (s : State) : State := (s.unlevel 2).unlevel 29

/-- The sequencers that are retained keep only the half that their patch is in (R392, R400). -/
def State.retain (s : State) : State :=
  (List.range 6).foldl (fun (t : State) u => t.putN .USQ_STS (t.regN .USQ_STS u &&& 0x10) u) s

/-- A warm or CXL reset of the die (R61, R342, R366, R434, R457, R478, R496, R505, R507): `clear` zeroes device memory, and `link` says that
the link stays up, as in a CXL reset. -/
def State.wipeWarm (s : State) (cause : Nat) (clear link : Bool) : State :=
  let lost := clear || s.regN .MC_CAP == 0
  let kept := s.fld CPX_BOOT_STS_STATE == 4 && s.ctl.retained
  let keep := if kept then warmKept ++ retainedRegs else warmKept
  let t : State :=
    { pending := s.pending, regs := storeErase (fun k => !keyOf keep k) s.regs, mem := if clear then [] else s.mem, hostMem := s.hostMem
      spad := s.keptSpad, chip := s.chip, tb := { s.tb with beacon := none }
      pins := { s.pins with wakeN := true }, levels := s.levels
      streams := s.streamsAfter lost, survivors := if lost then [] else s.survivorsAfter
      cxl := if link then { linkUp := s.cxl.linkUp, speed := s.cxl.speed, width := s.cxl.width, inUse := s.cxl.inUse } else {}
      power := { domTick := s.power.domTick, pllSlow := s.power.pllSlow }
      ring := s.ring.after lost
      memctl := { marks := if clear then [] else s.memctl.marks, poison := if clear then [] else s.memctl.poison
                  scheduled := s.memctl.scheduled, retiring := s.memctl.retiring }
      spare := { s.spare with monNext := [], monLast := s.tb.run, bankCe := [], reqs := s.spare.reqs.map fun r => { r with cmd := none }
                              copy := s.spare.copy.map fun e => (e.1, none) }
      security := { slots := s.security.slots.filterMap fun e => if e.2.loads = 0 then none else some (e.1, { loads := e.2.loads })
                    burned := s.security.burned, certBad := s.security.certBad, seedBad := s.security.seedBad }
      ctl := { retained := kept }, resets := s.resets, lastRead := s.lastRead, sent := s.sent, freeCtr := s.freeCtr }
  let t1 := ((if kept then t.retain else t).clearVotes.levelsAfter).setFld CELLQ_STS_FREE (16384 - s.regN .CELLQ_QUAR_CNT)
  let t2 := if s.power.entry.isSome then t1.bumpFld AON_SLEEP_CNT_ABORTS else t1
  ((t2.showRepairs s).bumpFld GLB_RST_CNT_WARM).dueFor cause

/-! ### Start-up -/

/-- Fuses are sensed and checked (R11, R12). -/
def State.senseFuses (s : State) (x : StartUp) : State :=
  let s1 := { s with chip := { s.chip with fuseErr := x.fuseErr } }
  let s2 := s1.setReg .GLB_FUSE_CFG (BitVec.ofNat 64 (fuseReading s1.chip))
  if x.fuseErr then s2.level 0 0 else s2

/-- An entry that is skipped (R471). -/
def State.badEntry (s : State) : State := s.bumpFld SPR_LOG_USED_BAD

/-- A unit of a SPARE_SWAP handle runs on its spare, or on its home (R471). -/
def State.placeUnit (s : State) (h : Nat) (spare : Bool) : State :=
  if h < 24 then (if s.pipePresent h then s.mapPipe h spare else s)
  else if h < 88 then (s.setFld SPD_BANK_STS_PHYS (if spare then 64 else h - 24) (h - 24)).setFlag SPR_STS_BANK_SPARE_USED spare
  else if h = 88 then s.setFlag SPR_STS_PLL_SEL spare else s

/-- One entry of the repair log is replayed (R471, R472). -/
def State.replayOne (s : State) (e : Nat) : State :=
  let w := e / 256 % 2 ^ 48
  if e / 2 ^ 56 ≠ Config.crc8 (e % 2 ^ 56) % 256 then s.badEntry
  else match e % 256 with
    | 1 =>
      let n := s.fld MC_RETIRE_CNT_COUNT
      if 1024 ≤ n then s else (s.putN .MC_RETIRE_TBL (w % 2 ^ 23 + 2 ^ 31) n).setFld MC_RETIRE_CNT_COUNT (n + 1)
    | 2 => if w % 32 < 20 then s.bumpFld SPR_WC_ROWS_ROWS 1 (w % 32) else s
    | 3 => s.placeUnit (24 + w % 64) true
    | 4 => s.placeUnit (w % 256) true
    | 5 => s.placeUnit (w % 256) true
    | 6 => s.placeUnit 88 (w.testBit 0)
    | 7 => s
    | 8 => s.placeUnit (w % 256) false
    | 9 => s.markFailed (w % 256)
    | _ => s.badEntry

/-- The repair log is replayed (R471). -/
def State.replayLog (s : State) : State := (s.spare.log.foldl State.replayOne s).setFld SPR_LOG_USED_USED s.spare.log.length

/-- The security module starts (R484, R497, R500). -/
def State.startSecurity (s : State) (x : StartUp) : State :=
  let s1 := { s with security := { s.security with seedBad := s.security.seedBad || x.seedBad, certBad := s.security.certBad || x.certBad } }
  (if x.seedBad then s1.record 31 0xD00 else s1).startModule x.tests

/-- The capacity of the memory found, less the reserved region (R310). -/
def State.capacity (s : State) : Nat :=
  let gib := if s.channelPresent 8 then 8 else 4
  gib * 2 ^ 30 * (if s.chip.density = 2 then 3 else 2) / 2 * (if s.chip.clamshell then 2 else 1) - 64 * 2 ^ 20

/-- Memory trains (R310): a check that fails or a channel that does not train leaves none. -/
def State.trainMemory (s : State) (x : StartUp) : State :=
  let n := if s.channelPresent 8 then 16 else 8
  if !x.memOk ∨ x.density = 0 ∨ 2 < x.density then
    State.level (State.setFld { s with chip := { s.chip with density := 0 } } MC_STS_CFG_ERR 1) 1 0
  else
    let s1 := { s with chip := { s.chip with density := x.density, clamshell := x.clamshell } }
    let s2 := s1.putN .MC_CFG (n + x.clamshell.toNat * 32 + x.density * 64 + 256)
    (s2.putN .MC_CAP s1.capacity).channelsPut 2

/-- The STATE client and, in test mode, the TEST client place their votes (R436, R457). -/
def State.standingVotes (s : State) : State :=
  (List.range 24).foldl (fun (t : State) d =>
    if !t.domPresent d then t
    else t.putN .AON_VOTE (t.regN .AON_VOTE d ||| (if domOfState d then 2 ^ 15 else 0) ||| (if t.chip.strapTest then 64 else 0)) d) s

/-- The domains that have a vote come ON, and the others are OFF; those of absent units show ABSENT (R435 to R437, R457). -/
def State.startDomains (s : State) : State :=
  let put := fun (t : State) (d : Nat) =>
    (t.setFlag PM_DOM_STS_ABSENT (!t.domPresent d) d).domPut d (if t.wanted d then domIsOn else domOff)
  let s1 := ((List.range 24).filter fun d => d != 14).foldl put s
  (put s1.dependVote 14).activeState.syncMasks

/-- Steps 0 to 5 after a cold reset (R508). -/
def State.startCold (s : State) (x : StartUp) : State :=
  (((s.aonStart.senseFuses x).replayLog.startSecurity x).trainMemory x).standingVotes.startDomains

/-- A digest that matches starts the command processors and sequencers again; without retained contents they stay stopped (R392, R509). -/
def State.restartRetained (s : State) (ok : Bool) : State :=
  if !s.ctl.retained then s
  else if !ok then s.digestFail
  else
    let s1 := (List.range 6).foldl (fun (t : State) u =>
      if !t.usqPresent u then t
      else
        let t1 := t.setFld USQ_STS_RUN 1 u
        if u < 4 then t1.setFld ENC_CL_STS_USQ_RUN 1 u else t1) (s.setFld CPX_BOOT_STS_STATE 4)
    (s1.startCpx 0).startCpx 1

/-- Survivor copies whose CRC fails are dropped (R512). -/
def State.dropCopies (s : State) (bad : List Nat) : State :=
  let gone := bad.filter fun h => (storeFind s.survivors h).isSome
  State.showSurv (if gone.isEmpty then s
    else State.setFld { s with survivors := storeErase gone.contains s.survivors } GLB_RST_STS_SURV_CRC 1)

/-- The steps after a warm or CXL reset (R52, R457, R509): a device that was in Deep restores its time first. -/
def State.startWarm (s : State) (x : StartUp) : State :=
  let s1 := if s.domOn 15 then s else ((s.domsOn [22, 15, 21]).sleepCount x.cycles).wakeTime
  let s2 := ((s1.standingVotes.startDomains.startSecurity x).channelsPut (if s1.flag MC_CFG_TRAINED then 2 else 0))
  (s2.restartRetained x.digestOk).dropCopies x.badCopies

/-- Start-up runs to READY (R508, R509), unless the die is held in reset (R451, R525). -/
def State.startUp (s : State) (x : StartUp) : State :=
  match s.resets.due with
  | none => s
  | some cause =>
    if s.resets.shut ∨ s.resets.rail then s
    else
      let s1 := if cause < 3 then s.startCold x else s.startWarm x
      State.setFld { s1 with resets := { s1.resets with due := none } } GLB_RST_STS_READY 1

end Sys2Proof.Machine
end

