-- ==== Sys2Proof/Machine/Reset.lean ====
section
/-!
DEFINITION. The seven resets as commands, power-up and the pins that bring them (R93, R126, R159, R187, R207, R217, R256, R286, R342, R366,
R371, R373, R385, R434, R451, R457, R496, R505, R506, R511 to R513, R516, R518, R525, R526, R529, R532, R533).
-/
namespace Sys2Proof.Machine

/-- The die is in a reset whose start-up has not run, or is held in reset (R451, R506, R525). -/
def State.inReset (s : State) : Bool := s.resets.due.isSome || s.resets.shut || s.resets.rail

/-! ### Pictures that a reset ends -/

/-- A launched encode picture ends with ABORTED_BY_RESET (R126, R159, R207): its buffer is FREE again, and its released bands count. -/
def State.abortEnc (s : State) (q : EncPic) : State :=
  let h := q.stream
  let x := s.stream h
  let bits : Nat := ((q.bands.take q.released).map BandPlan.bits).sum
  let rate := if isRing x.words then x.rate else { x.rate with owed := some bits }
  let s1 := ((s.encLeave q).mark q.buf 0 mkCur).onStream h fun x => { x with keyDue := true, rate := rate }
  (((s1.answerLater q.cmd 0x31 0 0).settleConfig h).touch 4 h).settleClose h

/-- A launched decode picture ends with ABORTED_BY_RESET (R187, R207). -/
def State.abortDec (s : State) (q : DecPic) : State :=
  let h := q.stream
  let s1 := match q.buf with | some b => (s.decLeave q).mark b 0 mkCur | none => s.decLeave q
  ((((s1.answerLater q.cmd 0x31 0 0).settleFlush h).settleConfig h).touch 4 h).settleClose h

/-- The pictures in flight of a stream end. -/
def State.abortStream (s : State) (h : Nat) : State :=
  let s1 := (s.codec.enc.filter fun q => q.launched && q.stream == h).foldl State.abortEnc s
  (s1.codec.dec.filter fun q => q.launched && q.stream == h).foldl State.abortDec s1

/-! ### Stream reset -/

/-- STREAM_RESET (R511): by the owner of a CONFIGURED or RUNNING stream. -/
def execStreamReset (a : Agent) (v : Word) (s : State) : Out :=
  finish <| s.byAgent a .GLB_STREAM_RST 0 fun f s =>
    let h := v.toNat % 512
    let x := s.stream h
    let s0 := s.putN .GLB_STREAM_RST h
    if !v.toNat.testBit 31 then s0
    else if x.func ≠ f ∨ !(x.st == .configured || x.st == .running) then s
    else
      let s1 := (s0.discardAccepted h 0x31 0).abortStream h
      if x.dec then
        ((s1.stream h).refs.foldl (fun (t : State) d => t.mark d mkUnusable 0) s1).touch 7 h
      else
        let s2 := (s1.stream h).res.pool.foldl (fun (t : State) d => t.mark d 0 mkRefAll) s1
        (s2.onStream h fun y => { y with refs := [], keyDue := true }).touch 7 h

/-- SURVIVOR_DISCARD (R512, R518): by PF0. -/
def execSurvivorDiscard (a : Agent) (v : Word) (s : State) : Out :=
  finish <| s.byAgent a .GLB_SURV_DISCARD 0 fun f s =>
    if f = 0 ∧ v.toNat.testBit 0 then State.showSurv { s with survivors := [] } else s

/-! ### Half reset -/

/-- The requesters' units of a half: its clusters and its decoder half as owners of scratchpad banks (R345). -/
def halfOwner (h u : Nat) : Bool := if u = 0 then false else if u ≤ 4 then (u - 1) / 2 == h else u == 5 + h

/-- The registers of the clusters, scouts, decoder pipes, command processor and sequencers of a half take their reset values (R126, R187,
R392): the spare maps, ADOPT, the versions and the patched halves stay. -/
def State.halfRegs (s : State) (h : Nat) : State :=
  let s1 := s.resetRange [.ENC_EP_STS, .ENC_EP_POS, .ENC_EP_STREAM, .ENC_EP_TICK, .ENC_EP_CYC_LAST, .ENC_EP_CYC_MAX, .ENC_EP_TRIM_CNT,
    .ENC_EP_WIN_CNT, .ENC_EP_POISON_CNT, .ENC_EP_EVT, .ENC_EP_EVT_EN] (8 * h) (8 * h + 8)
  let s2 := s1.resetRange [.ENC_CL_STS, .SCT_STS, .SCT_POS, .SCT_LATE_CNT, .SCT_CUT_CNT, .SCT_EVT, .SCT_EVT_EN] (2 * h) (2 * h + 2)
  let s3 := s2.resetRange [.DEC_DP_STS, .DEC_DP_POS, .DEC_DP_STREAM, .DEC_DP_TICK, .DEC_DP_CYC_LAST, .DEC_DP_CYC_MAX, .DEC_DP_CONC_CNT,
    .DEC_DP_BINLIM_CNT, .DEC_DP_GUARD_CNT, .DEC_DP_EVT, .DEC_DP_EVT_EN, .DEC_DP_GUARD_ADDR] (4 * h) (4 * h + 4)
  let adopt := s.flag CPX_CTL_ADOPT h
  let halted := s.flag CPX_STS_HALTED h
  let s4 := s3.resetRange [.CPX_STS, .CPX_CTL, .CPX_BELIEF, .CPX_HEARTBEAT, .CPX_EVT, .CPX_EVT_EN, .CPX_REFUSED_CNT] h (h + 1)
  let s5 := ((s4.setFlag CPX_CTL_ADOPT adopt h).setFlag CPX_STS_HALTED halted h).showLead
  let s6 := [2 * h, 2 * h + 1, 4 + h].foldl (fun (t : State) u =>
    let half := t.fld USQ_STS_PATCH_HALF u
    let pend := t.fld USQ_STS_PATCH_PENDING u
    let t1 := t.resetRange [.USQ_STS, .USQ_PC, .USQ_STEP_LOG, .USQ_EVT, .USQ_EVT_EN, .USQ_POISON_CNT, .USQ_LAT_MAX, .USQ_CS_ADDR] u (u + 1)
    (t1.setFld USQ_STS_PATCH_HALF half u).setFld USQ_STS_PATCH_PENDING pend u) s5
  s6.showRepairs s

/-- The CL, DEC, CPX and LG domains of a half pass through OFF and restore (R457). -/
def State.halfDomains (s : State) (h : Nat) : State :=
  [2 * h, 2 * h + 1, 4 + h, 6 + h, 10 + 2 * h, 11 + 2 * h].foldl (fun (t : State) d =>
    if t.fld PM_DOM_STS_STATE d = domOff then t else ((t.setDom d domOff).event PM_EVT_DOM_OFF).domMove d) s

/-- The lanes, ports and the link of a half go down (R286). -/
def State.halfLanes (s : State) (h : Nat) : State :=
  let s1 := ((List.range 4).filter fun p => s.portHalf p == h).foldl State.portDown s
  let s2 := if s1.linkUp h then s1.linkDown h else s1
  s2.setLanes (((List.range 4).filter fun g => g / 2 == h && s2.groupUse g != 0).flatMap s2.groupLanes) 1 0

/-- A load in progress, or a failed one, ends with a reset (R392). -/
def State.endLoad (s : State) : State :=
  if s.fld CPX_BOOT_STS_STATE = 4 then s
  else { s.putN .CPX_BOOT_STS 0 with ctl := { s.ctl with retained := false } }

/-- A half goes into reset (R93, R126, R187, R256, R286, R342, R366, R434, R457, R505 to R507). -/
def State.halfGoes (s : State) (h : Nat) : State :=
  let s1 := ((s.setFld (if h = 0 then GLB_RST_STS_HALF_E else GLB_RST_STS_HALF_W) 1).bumpFld GLB_RST_CNT_HALF).abortFor h
  let hit := fun (ps : List PipeWork) => ps.any fun w => pipeHalf w.pipe == h
  let s2 := (s1.codec.enc.filter fun q => q.launched && (hit q.pipes || (bitsOf 4 q.scouts).any fun u => u / 2 == h)).foldl State.abortEnc s1
  let s3 := (s2.codec.dec.filter fun q => q.launched && hit q.pipes).foldl State.abortDec s2
  let s4 := (((halfPipes h).filter fun p => decide (p < 16)).foldl State.stopTest s3).endLoad
  let s5 := ((s4.halfLanes h).halfRegs h).setTarget (768 + h) { waiting := false }
  let s6 := ((List.range 64).filter fun b => halfOwner h (s5.fld SPD_BANK_OWN_OWNER b)).foldl (fun (t : State) b => t.bankOwn b 0) s5
  let s7 := s6.halfDomains h
  let faults := storeErase (fun u => u / 2 == h && u < 4 || u == 4 + h) s7.ctl.faults
  let resident := storeErase (fun p => pipeHalf p == h) s7.codec.resident
  State.syncMasks { s7 with
    ctl := { s7.ctl with faults := faults }, codec := { s7.codec with resident := resident }
    arbPtr := storeDrop (storeDrop s7.arbPtr (4 + h)) (6 + h), power := { s7.power with halfReset := s7.power.halfReset ||| 2 ^ h } }

/-- A half reset is asked for (R506): refused for the half that leads, and absorbed by a reset of the die or one of the same half. -/
def State.halfReset (s : State) (h : Nat) : State :=
  if s.inReset then s
  else if h = s.leadHalf then s.setFld GLB_RST_STS_REFUSED 1
  else if s.power.halfReset.testBit h then s
  else s.halfGoes h

/-- The command processor and sequencers of a half restart after their digest check (R392). -/
def State.restartHalf (s : State) (h : Nat) (ok : Bool) : State :=
  if s.fld CPX_BOOT_STS_STATE ≠ 4 then s
  else if !ok then
    let s1 := (s.setFld CPX_BOOT_STS_STATE 5).setFld CPX_BOOT_STS_ERR 6
    State.record { s1 with ctl := { s1.ctl with retained := false } } 15 h
  else
    let s1 := ([2 * h, 2 * h + 1, 4 + h].filter s.usqPresent).foldl (fun (t : State) u =>
      let t1 := t.setFld USQ_STS_RUN 1 u
      if u < 4 then t1.setFld ENC_CL_STS_USQ_RUN 1 u else t1) s
    s1.startCpx h

/-- HALF_RESET_DONE (R286, R392, R457, R505): the half leaves reset, its lanes retrain, and its command processor restarts. -/
def execHalfResetDone (h : Nat) (digestOk : Bool) (s : State) : Out :=
  finish <|
    if 2 ≤ h ∨ !s.power.halfReset.testBit h then s
    else
      let s1 := s.setFld (if h = 0 then GLB_RST_STS_HALF_E else GLB_RST_STS_HALF_W) 0
      let s2 := { s1 with power := { s1.power with halfReset := s1.power.halfReset &&& (3 - 2 ^ h) } }
      let s3 := if s2.groupUse (linkGroup h) = 2 ∧ s2.joined then s2.trainLink h else s2
      (s3.restartHalf h digestOk).syncMasks

/-! ### Function-level reset -/

/-- The submission and completion queues of a function take their reset values, but for their owners (R93). -/
def State.dropQueues (s : State) (f : Nat) : State :=
  let mine := fun q => s.fld CMDQ_OWNER_FUNC q == f
  let own := fun n => s.fld CPLQ_OWNER_FUNC n == f
  let s1 := (List.range 64).foldl (fun (t : State) q =>
    let t1 := if mine q then t.resetRange [.CMDQ_BASE, .CMDQ_CFG, .CMDQ_TAIL, .CMDQ_HEAD, .CMDQ_STS] q (q + 1) else t
    if own q then t1.resetRange [.CPLQ_BASE, .CPLQ_CFG, .CPLQ_HEAD, .CPLQ_TAIL, .CPLQ_STS] q (q + 1) else t1) s
  let s2 := { s1 with cmd := { s1.cmd with outstanding := s1.cmd.outstanding.filter fun o => !mine o.cmd.queue
                                           heldReplies := s1.cmd.heldReplies.filter fun r => !own r.cplq && !mine r.queue } }
  s2.setFld CMDQ_HELD_COUNT s2.heldCount

/-- The streams, survivor records and flows of a function end (R217, R286, R512). -/
def State.dropStreams (s : State) (f : Nat) : State :=
  let hs := (s.streams.filter fun e => e.2.st != .free && e.2.func == f).map Prod.fst
  let s1 := hs.foldl (fun (t : State) h => ((t.discardAccepted h 0x31 0).abortStream h).endStream h) s
  let s2 := State.showSurv { s1 with survivors := s1.survivors.filter fun e => e.2.func != f }
  ((s2.flows.filter fun e => e.2.live && e.2.func == f).map Prod.fst).foldl State.dropFlow s2

/-- The host-written descriptors of a function are FREE with words 0 to 3 cleared (R217). -/
def State.dropDescs (s : State) (f : Nat) : State :=
  let ds := (List.range 8192).filter fun d => s.fld FB_DESC_OWN_FUNC d == f && !s.flag FB_DESC_OWN_POOL d
  let s1 := ds.foldl (fun (t : State) d => t.resetRange [.FB_DESC_BASE, .FB_DESC_DIM, .FB_DESC_FMT, .FB_DESC_MARKS] d (d + 1)) s
  { s1 with codec := { s1.codec with descStage := storeErase (fun k => ds.contains (k / 4)) s1.codec.descStage } }

/-- The DMA channels of a function: transfers withdrawn, registers reset but for the owner and the two byte counts (R342). -/
def State.dropDma (s : State) (f : Nat) (dma : List (Nat × DmaProgress)) : State :=
  let ns := (List.range 64).filter fun n => s.fld DMA_CH_OWNER_FUNC n == f
  let s1 := s.dmaStop ns.contains 8 dma
  (ns.foldl (fun (t : State) n =>
    (t.resetRange [.DMA_CH_CTL, .DMA_STS, .DMA_CH_CFG, .DMA_ERR_ADDR, .DMA_CH_EVT_EN] n (n + 1)).resetRange [.DMA_SH, .DMA_ACT] (n * 16)
      (n * 16 + 16)) s1).showBusy

/-- The vectors of a function: stacks emptied, pending raises of the sources routed to them discarded, masked again (R374, R434). -/
def State.dropVectors (s : State) (f : Nat) : State :=
  let ts := if f = 0 then List.range 256 else (List.range 8).map (512 + 8 * (f - 1) + ·)
  let routed := (List.range 250).filter fun n => s.pendBit n && ts.contains (s.route n)
  let claimed := ts.flatMap fun t => (s.target t).stack.map Prod.fst
  let s1 := ts.foldl (fun (t : State) k => t.setTarget k {}) s
  let s2 := routed.foldl (fun (t : State) n => t.srcBit .IC_PEND n false) s1
  let s3 := claimed.foldl (fun (t : State) n => t.srcBit .IC_ACTIVE n false) s2
  let mine := fun k => k / 256 == f
  { s3 with cxl := { s3.cxl with unmasked := storeErase mine s3.cxl.unmasked, pba := storeErase mine s3.cxl.pba } }

/-- A function-level reset (R505, R507). -/
def State.flr (s : State) (f : Nat) (dma : List (Nat × DmaProgress)) : State :=
  let s1 := ((((s.dropQueues f).dropStreams f).dropDescs f).dropDma f dma).dropVectors f
  s1.eraseSlots fun h k => decide (h < 0xC00) && k.func == f

/-- FUNCTION_LEVEL_RESET (R385, R505): of PF0 or of an enabled VF. -/
def execFunctionLevelReset (f : Nat) (dma : List (Nat × DmaProgress)) (s : State) : Out :=
  finish (if s.inReset ∨ !s.funcEnabled f then s else s.flr f dma)

/-- VF_ENABLE_WRITE (R373, R496, R516): NumVFs changes only while VF Enable is 0; clearing VF Enable resets every VF, and setting it after a
link reset resets those above the new NumVFs. -/
def execVfEnableWrite (numVfs : Nat) (enable : Bool) (dma : List (Nat × DmaProgress)) (s : State) : Out :=
  finish <|
    if s.cxl.vfEnable then
      if enable then s
      else
        let s1 := ((List.range s.vfs).map (· + 1)).foldl (fun (t : State) f => t.flr f dma) s
        { s1 with vfs := 0, cxl := { s1.cxl with vfEnable := false } }
    else if 32 < numVfs then s
    else if !enable then { s with cxl := { s.cxl with numVfs := numVfs } }
    else
      let gone := ((List.range s.vfsRetained).map (· + 1)).filter fun f => decide (numVfs < f)
      let s1 := gone.foldl (fun (t : State) f => t.flr f dma) s
      { s1 with vfs := numVfs, vfsRetained := 0, cxl := { s1.cxl with numVfs := numVfs, vfEnable := true } }

/-! ### Link reset -/

/-- Queues in host memory stop (R516): fetching with FETCH_ERR, and writing with WRITE_ERR. -/
def State.stopHostQueues (s : State) : State :=
  (List.range 64).foldl (fun (t : State) q =>
    let t1 := if t.flag CMDQ_CFG_EN q ∧ !t.flag CMDQ_BASE_LOC q then t.queueError q CMDQ_STS_FETCH_ERR else t
    if t1.flag CPLQ_CFG_EN q ∧ !t1.flag CPLQ_BASE_LOC q then t1.setFld CPLQ_STS_WRITE_ERR 1 q else t1) s

/-- A link reset (R376, R505, R516): configuration space, MSI-X and the HDM decoder; the VFs' resources wait for VF Enable. -/
def State.linkReset (s : State) (dma : List (Nat × DmaProgress)) : State :=
  if s.inReset then s
  else
    let s1 := s.cxlDown dma
    let s2 := { s1 with
      cxl := { ideSet := s1.cxl.ideSet, insecure := s1.cxl.insecure }
      vfs := 0, vfsRetained := if s1.vfs = 0 then s1.vfsRetained else s1.vfs }
    (s2.stopHostQueues.setFld GLB_RST_STS_CAUSE 7).bumpFld GLB_RST_CNT_LINK

/-- LINK_RESET (R516): with `GLB_PERST_CFG.MODE` = 1. -/
def execLinkReset (dma : List (Nat × DmaProgress)) (s : State) : Out :=
  finish (if s.flag GLB_PERST_CFG_MODE then s.linkReset dma else s)

/-! ### Warm, CXL and cold reset -/

/-- A warm reset begins (R505, R506): transfers are withdrawn first (R342). -/
def State.warmReset (s : State) (cause : Nat) (clear link : Bool) (dma : List (Nat × DmaProgress)) : State :=
  if s.inReset then s else (s.dmaStop (fun _ => true) 8 dma).wipeWarm cause clear link

/-- A reset that is over at once is followed by its start-up (R508, R509). -/
def State.thenStart (s : State) (was : State) (x : StartUp) : State := if was.inReset then s else s.startUp x

/-- CXL_RESET (R371, R385, R505): a warm reset through the DVSEC, with device memory zeroed where that is asked for. -/
def execCxlReset (clear : Bool) (dma : List (Nat × DmaProgress)) (x : StartUp) (s : State) : Out :=
  finish ((s.warmReset (if clear then 6 else 5) clear true dma).thenStart s x)

/-- A write of `GLB_RST_CTL` (R505, R506, R518, R519): PF0 alone may ask for a warm or cold reset, and the lead CPX too for a half; KEY must
be right for the first two, or the whole write is ignored, and the reset of highest rank runs. -/
def State.writeRst (s : State) (a : Agent) (v : Nat) (dma : List (Nat × DmaProgress)) (x : StartUp) : State :=
  s.byAgent a .GLB_RST_CTL 0 fun f s =>
    if f ≠ 0 then s
    else
      let host := match a with | .func _ => true | .cpx _ => false
      let keyed := decide (v / 65536 % 65536 = 0xA5A5) && host
      let s1 := s.putN .GLB_RST_CTL (v &&& 8)
      if host && !keyed && (v.testBit 0 || v.testBit 1) then s
      else if keyed && v.testBit 1 then
        if s1.resets.shut || s1.resets.rail then s1 else (s1.wipeCold 2 false).startUp x
      else if keyed && v.testBit 0 then (s1.warmReset 4 false false dma).thenStart s1 x
      else if v.testBit 2 then s1.halfReset (v / 8 % 2)
      else s1

/-- GLB_RST_WARM. -/
def execGlbRstWarm (a : Agent) (v : Word) (dma : List (Nat × DmaProgress)) (x : StartUp) (s : State) : Out :=
  finish (s.writeRst a v.toNat dma x)

/-- GLB_RST_COLD. -/
def execGlbRstCold (a : Agent) (v : Word) (x : StartUp) (s : State) : Out := finish (s.writeRst a v.toNat [] x)

/-- GLB_RST_HALF. -/
def execGlbRstHalf (a : Agent) (v : Word) (s : State) : Out := finish (s.writeRst a v.toNat [] {})

/-- PERST_N_ASSERT (R505, R516): PERST_N goes low, or a link hot reset, which is over at once. -/
def execPerstNAssert (hot : Bool) (dma : List (Nat × DmaProgress)) (x : StartUp) (s : State) : Out :=
  finish <|
    let s1 := { s with pins := { s.pins with perstN := hot && s.pins.perstN } }
    if s.flag GLB_PERST_CFG_MODE then s1.linkReset dma
    else
      let s2 := s1.warmReset 3 false false dma
      if hot then s2.thenStart s x else s2

/-- PERST_N_RELEASE (R508, R509): the start-up that is due runs. -/
def execPerstNRelease (x : StartUp) (s : State) : Out :=
  finish (State.startUp { s with pins := { s.pins with perstN := true } } x)

/-! ### Power -/

/-- POWER_UP (R403, R505, R519, R525, R526, R531): the straps are sampled, and the die waits in reset for PERST_N. -/
def execPowerUp (aonLost strapLead strapTest : Bool) (s : State) : Out :=
  finish <|
    let lost := aonLost || s.resets.due == some 1
    let s1 := s.wipeCold lost.toNat lost
    let chip := { s.chip with strapTest := strapTest, strapLead := if lost then strapLead else s.chip.strapLead }
    let s2 := { s1 with chip := chip, pins := { s1.pins with perstN := false }, resets := { s1.resets with shut := false, rail := false } }
    if s.resets.shut then s2.setFld GLB_RST_STS_THERM_SHUT 1 else s2

/-- RAIL_UNDERVOLTAGE (R525): the die is held in reset; below 0.65 V of VDD_AON the state of Snowdrop is lost too. -/
def execRailUndervoltage (aon : Bool) (s : State) : Out :=
  finish <|
    let lost := aon || s.resets.due == some 1
    let s1 := s.wipeCold lost.toNat lost
    { s1 with resets := { s1.resets with rail := true } }

/-- The values that Snowdrop holds for the SMBus target at the shutdown, and the fault registers (R451). -/
def heldRegs : List Reg := [.FC_STATUS, .FC_MASK, .FC_FIRST, .FC_LAST, .PM_TEMP, .PM_STATE, .GLB_RST_STS]

/-- THERMAL_SHUTDOWN (R451): every domain is off, and the device is held in reset until a rail is cycled. -/
def execThermalShutdown (s : State) : Out :=
  finish <|
    if s.resets.shut then s
    else
      let s1 := s.level 32 (s.fld PM_TEMP_SENSOR)
      let s2 := heldRegs.foldl (fun (t : State) r => t.setReg r (s1.reg r)) (s1.wipeCold 0 false)
      { s2 with resets := { s2.resets with shut := true } }

/-! ### Clocks and pins -/

/-- REFCLK_LANE_LOSS (R24, R529): the time base goes on from the backup TCLK, and the lanes go down. -/
def execRefclkLaneLoss (s : State) : Out :=
  finish <|
    if s.tb.refLost then s
    else
      let s1 := if s.flag TB_STATUS_CLK_ALT then s else (s.setFld TB_STATUS_CLK_ALT 1).tbEvent 103
      let s2 := (List.range 4).foldl State.portDown { s1 with tb := { s1.tb with refLost := true } }
      let s3 := [0, 1].foldl (fun (t : State) k => if t.linkUp k then t.linkDown k else t) s2
      s3.setLanes (((List.range 4).filter fun g => s3.groupUse g != 0).flatMap s3.groupLanes) 1 0

/-- REFCLK_LANE_RETURN (R263, R529): the links train again. -/
def execRefclkLaneReturn (s : State) : Out :=
  finish <|
    if !s.tb.refLost then s
    else
      let s1 := { s with tb := { s.tb with refLost := false } }
      [0, 1].foldl (fun (t : State) k => if t.groupUse (linkGroup k) = 2 ∧ t.joined then t.trainLink k else t) s1

/-- The registers that the SMBus target reads, in the order of R532. -/
def smbusReg : Nat → Option Reg
  | 0 => some .AON_LEAD
  | 1 => some .FC_STATUS
  | 2 => some .PM_TEMP
  | 3 => some .PM_STATE
  | 4 => some .GLB_RST_STS
  | _ => none

/-- SMBUS_READ (R532). -/
def execSmbusRead (reg : Nat) (s : State) : Out :=
  finish (match smbusReg reg with | some r => { s with lastRead := s.reg r } | none => s)

/-- BOUNDARY_SCAN (R533): every output is held at the level the scan sets, or let go. -/
def execBoundaryScan (levels : Option Nat) (s : State) : Out := finish { s with pins := { s.pins with scan := levels } }

end Sys2Proof.Machine
end

