-- ==== Sys2Proof/Machine/Tick.lean ====
section
/-!
DEFINITION. The tick: TICK_FIRE and the actions at it, in their order (R29, R30, R32).
-/
namespace Sys2Proof.Machine

/-- The tick index steps, and with it the time of the next tick (R29, R30): the grid steps by `TK_Q` and carries `TK_ACC`. -/
def State.indexStep (s : State) : State := ((s.setGrid (s.tickIndex + 1)).setFld TK_CTRL_PENDING 0).tbEvent 95

/-- `RC_SUM` takes the counts of the tick that ends (R155). -/
def State.sumTick (s : State) : State :=
  let a := s.codec.sumFloor
  let b := s.codec.sumEdge
  let c := s.codec.sumRepeat
  let s1 := ((s.setFld RC_SUM_FLOORED (min 1023 a)).setFld RC_SUM_EDGE (min 1023 b)).setFld RC_SUM_REPEAT (min 1023 c)
  let s2 := { s1 with codec := { s1.codec with sumFloor := 0, sumEdge := 0, sumRepeat := 0 } }
  if a + b + c = 0 then s2 else s2.tbEvent 100

/-- Bits of pictures that a stop or a reset ended are taken from V (R159). -/
def State.owedTick (s : State) : State := s.streams.foldl (fun (t : State) e => t.settleOwed e.1) s

/-- Position 1 (R29, R37, R155, R405, R408, R410): the index, windows staged for the tick, the comparison of beliefs, and a hand-back. -/
def State.tickFirst (s : State) : State := ((((s.stepWindows.owedTick).sumTick).leadCompare).handBackTick).wdogTick

/-- Positions 2 to 5 (R32, R198, R220, R233, R291, R314, R437, R461, R466). -/
def State.tickMiddle (s : State) : State :=
  (((((s.monTick State.monApplyAll).slotSwap).domainsMove).spareTick).retireTick).gateTick.leaveTick.sendHalos

/-- Positions 6 to 8 (R32, R48, R80, R226, R239, R246). -/
def State.tickLast (s : State) : State := (((s.roleTick.sendBeacon).planTick).migTick).releaseHeld.launchZero

/-- The tick fires (R30, R32, R61): while domain TIME is on and a grid runs; in a reset of the rest of the die only the index steps. -/
def State.tickFires (s : State) : State :=
  let s1 := (s.reach s.nextTick).indexStep
  if s.inReset then s1 else s1.tickFirst.tickMiddle.tickLast

/-- TICK_FIRE (R32). -/
def execTickFire (s : State) : Out := finish (if s.flag TK_CTRL_EN ∧ s.domOn 15 then s.tickFires else s)

end Sys2Proof.Machine
end

