-- ==== Sys2Proof/Machine/RegisterWrite.lean ====
section
/-!
DEFINITION. REGISTER_WRITE: a write of a BAR0 register by a function or by a command processor (R7, R19 to R21, R372, R382, R388 and the
register tables of every chapter).
-/
namespace Sys2Proof.Machine

/-! ### Which register an agent's write reaches -/

/-- The size of a BAR0 window (R372). -/
def barSize : Nat := 0x4000000

/-- The register, its instance and the byte within it that an agent's BAR0 offset reaches: a VF sees its own vectors and its own FB_ERR
in the places of PF0's (R215, R424). -/
def reachOf (a : Agent) (off : Nat) : Option (Reg × Nat × Nat) :=
  match a, regFind off with
  | _, none => none
  | .cpx _, some x => some x
  | .func f, some (r, i, b) =>
    if f = 0 then some (r, i, b)
    else match r with
      | .FB_ERR => some (r, f, b)
      | .IC_CLAIM | .IC_COMPLETE | .IC_TGT_STS | .IC_MOD => if i < 8 then some (r, vectorTarget f i, b) else none
      | _ => some (r, i, b)

/-- The lanes of a Fulet link are bonded and not fused off (R7, R257). -/
def State.linkPresent (s : State) (k : Nat) : Bool := !s.packageB && !(s.groupLanes (linkGroup k)).isEmpty

/-- The unit a register belongs to is present (R7). -/
def State.regPresent (s : State) (r : Reg) (i : Nat) : Bool :=
  match r with
  | .ENC_EP_CYC_MAX | .ENC_EP_TRIM_CNT | .ENC_EP_WIN_CNT | .ENC_EP_POISON_CNT | .ENC_EP_EVT | .ENC_EP_EVT_EN => s.pipePresent i
  | .SCT_LATE_CNT | .SCT_CUT_CNT | .SCT_EVT | .SCT_EVT_EN => s.clusterPresent i
  | .DEC_DP_CYC_MAX | .DEC_DP_CONC_CNT | .DEC_DP_BINLIM_CNT | .DEC_DP_GUARD_CNT | .DEC_DP_EVT | .DEC_DP_EVT_EN =>
    s.pipePresent (16 + i)
  | .LN_GRP_CFG => !(s.groupLanes i).isEmpty
  | .LN_EQ | .LN_PRBS_CFG | .LN_PRBS_ERR | .LN_PRBS_INJ | .LN_EVT | .LN_EVT_EN => s.lanePresent i
  | .ETH_CFG | .ETH_MAC | .ETH_TX_FRAMES | .ETH_RX_FRAMES | .ETH_FCS_CNT | .ETH_RX_DROP_CNT | .ETH_FEC_CORR_CNT
  | .ETH_FEC_UNC_CNT | .ETH_EVT | .ETH_EVT_EN | .PTP_CFG | .PTP_BRD_DLY | .PTP_RING_BASE | .PTP_RX_HEAD | .PTP_TX_TAIL
  | .PTP_RX_DROP_CNT => s.portPresent i
  | .FL_CFG | .FL_CRC_CNT | .FL_FEC_CORR_CNT | .FL_FEC_UNC_CNT | .FL_RETRAIN_CNT | .FL_EVT | .FL_EVT_EN => s.linkPresent i
  | .GT_HOLD_CNT | .GT_OVERSIZE_CNT | .GT_OVERRUN_CNT | .GT_EVT | .GT_EVT_EN | .SH_CTL_RATE | .SH_CTL_BURST | .SH_CTL_HOLD_CNT
  | .SH_EVT | .SH_EVT_EN => if i < 4 then s.portPresent i else s.linkPresent (i - 4)
  | .MC_CH_CE_CNT | .MC_CH_UE_CNT | .MC_CH_RETRY_CNT | .MC_CH_TRAIN_CNT | .MC_CH_LAT_MAX | .MC_CH_EVT | .MC_CH_EVT_EN =>
    s.channelPresent i
  | .USQ_STEP_LOG | .USQ_EVT | .USQ_EVT_EN | .USQ_POISON_CNT | .USQ_LAT_MAX | .USQ_CS_ADDR => s.usqPresent i
  | _ => true

/-- The agent is the command processor of half `h`. -/
def isCpx (a : Agent) (h : Nat) : Bool :=
  match a with
  | .func _ => false
  | .cpx g => g == h

/-- A stream register of a decode stream is reached by its owner alone (R184), one of a bitstream ring by its owner and PF0 (R215). -/
def State.ownsDecS (s : State) (f h : Nat) : Bool := (s.stream h).st != .free && (s.stream h).dec && (s.stream h).func == f
@[inherit_doc State.ownsDecS] def State.ownsRingS (s : State) (f h : Nat) : Bool :=
  (s.stream h).st != .free && !(s.stream h).dec && (f == 0 || (s.stream h).func == f)

/-- Function `f`, or a command processor with PF0's authority, may write a register that has no row of its own (R16, R41, R64, R86, R184, R215,
R338, R357, R404, R411 to R424, R453, R474, R501, R518). -/
def State.mayWrite (s : State) (a : Agent) (f : Nat) (r : Reg) (i : Nat) : Bool :=
  match r with
  | .CMDQ_BASE => s.fld CMDQ_OWNER_FUNC i == f && !s.flag CMDQ_CFG_EN i
  | .CPLQ_BASE => s.fld CPLQ_OWNER_FUNC i == f && !s.flag CPLQ_CFG_EN i
  | .CMDQ_STS => f == 0 || s.fld CMDQ_OWNER_FUNC i == f
  | .CPLQ_STS => f == 0 || s.fld CPLQ_OWNER_FUNC i == f
  | .CMDQ_OWNER => f == 0 && !s.flag CMDQ_CFG_EN i
  | .FB_ERR => true
  | .FB_S_RING_CFG | .FB_S_OVR_CNT => s.ownsRingS f i
  | .DEC_S_ERR | .DEC_S_CONC_CNT | .DEC_S_SUBST_CNT | .DEC_S_PS_CNT => s.ownsDecS f i
  | .DMA_SH => s.ownsDma a (i / 16)
  | .DMA_STS | .DMA_CH_CFG | .DMA_CH_EVT_EN => s.ownsDma a i
  | .DMA_CH_OWNER => f == 0 && decide (i < 56) && !s.flag DMA_CH_CTL_EN i && !s.flag DMA_STS_BUSY i
  | .IC_PEND => true
  | .IC_SPURIOUS_CNT => f == 0 || (decide (i < 64) && s.fld CPLQ_OWNER_FUNC i == f)
  | .IC_MOD => f == 0 || handles a i
  | .BP_BASE | .BP_MIRROR => f == 0 && !s.flag BP_CFG_EN i
  | .TB_ADJ_RATE => s.servoOwner a
  | .LN_PRBS_CFG => f == 0 && s.underTest i
  | .CPX_BELIEF | .CPX_HEARTBEAT => isCpx a i
  | .SEC_MB => isCpx a s.leadHalf
  | _ => f == 0

/-- The bits of a word of `IC_PEND` that a function's own sources hold (R424). -/
def State.ownSources (s : State) (f w : Nat) : Nat :=
  maskOf ((List.range 32).filter fun b =>
    f == 0 || (decide (32 * w + b < 64) && s.fld CPLQ_OWNER_FUNC (32 * w + b) == f))

/-! ### The effect on the register -/

/-- What a register holds after an accepted write (R20, R21): RW fields take the value, W1C bits that are written 1 clear, a counter clears,
and reserved and read-only bits stay. -/
def State.plainWrite (s : State) (r : Reg) (i : Nat) (v : DWord) : State :=
  let t := regInfo r
  if t.anyClears then s.putN r 0 i
  else
    let rw := BitVec.ofNat 64 t.rw
    s.setReg r ((s.reg r i &&& ~~~rw &&& ~~~(v &&& BitVec.ofNat 64 t.w1c)) ||| (v &&& rw)) i

/-- The thresholds of a droop sensor stand in order (R449). -/
def droopOrdered (v : DWord) : Bool :=
  let at_ := fun (f : Field) => bitField v f.lo f.width
  decide (at_ DRP_CFG_WARN_MV < at_ DRP_CFG_SLOW_MV) && decide (at_ DRP_CFG_SLOW_MV < at_ DRP_CFG_CRIT_MV)
    && decide (at_ DRP_CFG_HYST_MV < at_ DRP_CFG_SLOW_MV)

/-- The word that `USQ_CS_ADDR` names is shown; what a control store holds is not the manual's (R393). -/
def State.showStore (s : State) (u : Nat) : State :=
  (List.range 6).foldl (fun (t : State) k => State.tookFree (t.putN .USQ_CS_DATA (t.free.toNat % 2 ^ 32) (u * 6 + k))) s

/-- TICK_OUT follows `TK_OUT_CFG` (R59): without EN, or where POL changes, it stands at its inactive level. -/
def State.tickOutLevel (s : State) (old : State) : State :=
  if s.flag TK_OUT_CFG_EN && s.flag TK_OUT_CFG_POL == old.flag TK_OUT_CFG_POL then s
  else { s with pins := { s.pins with tickOut := s.flag TK_OUT_CFG_POL && s.flag TK_OUT_CFG_EN }, tb := { s.tb with tickOutAt := none } }

/-- An accepted write of a register that has no row of its own, with what follows from it at once. -/
def State.commitReg (s : State) (f : Nat) (r : Reg) (i : Nat) (v : DWord) : State :=
  match r with
  | .IC_PEND => s.plainWrite r i (v &&& BitVec.ofNat 64 (s.ownSources f i))
  | .TB_ADJ_RATE => s.putN r (unsigned 32 (clampInt (-512000000) 512000000 (signed 32 v.toNat)))
  | .TK_OUT_OFS =>
    let h := s.regN .TK_Q / 2
    s.putN r (unsigned 32 (clampInt (-(h : Int)) h (signed 32 v.toNat)))
  | .TK_OUT_CFG => (s.plainWrite r i v).tickOutLevel s
  | .LN_EQ =>
    let s1 := s.plainWrite r i v
    if s1.flag LN_EQ_CTLE_MAN i then s1.setFld LN_STS_CTLE_NOW (s1.fld LN_EQ_CTLE i) i else s1
  | .LN_PRBS_CFG =>
    let s1 := s.plainWrite r i v
    if s1.flag LN_PRBS_CFG_RX_EN i then s1 else { s1 with prbs := storeDrop s1.prbs i }
  | .ETH_CFG => s.writeEthCfg i (v.toNat % 2 ^ 32)
  | .DRP_CFG => if droopOrdered v then (s.plainWrite r i v).setFld DRP_STS_CFG_ERR 0 i else s.setFld DRP_STS_CFG_ERR 1 i
  | .BP_THRESH_HI | .BP_THRESH_LO => (s.plainWrite r i v).bpOver i (s.fld BP_STS_IN_USE i)
  | .USQ_CS_ADDR => (s.plainWrite r i v).showStore i
  | .CPX_BELIEF => s.setReg r (v &&& 0xFFFFFFFF00000003) i
  | .CPX_HEARTBEAT | .SEC_MB => s.putN r (v.toNat % 2 ^ 32) i
  | _ => s.plainWrite r i v

/-! ### Registers with rows of their own -/

/-- The state a command that has a row of its own leaves. -/
def afterRow (o : Out) (s : State) : State :=
  match o with
  | .next t => t
  | _ => s

/-- A write of `DMA_CH_CTL` (R330, R333): EN, then ARM, then DISARM. -/
def State.writeDmaCtl (s : State) (a : Agent) (n v : Nat) : State :=
  let s1 := if v.testBit 0 = s.flag DMA_CH_CTL_EN n then s else afterRow (execDmaEnWrite a n (v.testBit 0) {} s) s
  let s2 := if v.testBit 1 then afterRow (execDmaArm a n s1) s1 else s1
  if v.testBit 2 then afterRow (execDmaDisarm a n s2) s2 else s2

/-- A write of `CPX_CTL` (R407 to R410): a fenced command processor writes RELEASE alone; PF0 and the lead command processor write HALT and ADOPT of the other half. -/
def State.writeCpxCtl (s : State) (a : Agent) (h v : Nat) : State :=
  if isCpx a h && s.flag CPX_STS_FENCED h then (if v.testBit 2 then afterRow (execCpxRelease h s) s else s)
  else
    let s1 := s.setFld CPX_CTL_WDOG_TICKS (v / 256) h
    if !s1.mayHalt a h then s1
    else if v.testBit 1 then (if s1.flag CPX_CTL_ADOPT h then s1 else s1.adopt h)
    else
      let s2 := s1.unadopt h
      if v.testBit 0 then (if s2.flag CPX_CTL_HALT h then s2 else afterRow (execCpxHalt a h s2) s2) else s2.setFld CPX_CTL_HALT 0 h

/-- A write of `MON_GLB_CTL` (R461, R474): SNAP takes a snapshot and reads 0. -/
def State.writeMonCtl (s : State) (a : Agent) (v : Nat) : State :=
  let s1 := s.putN .MON_GLB_CTL (v % 65536)
  if v.testBit 16 then afterRow (execMonitorSnapWrite a s1) s1 else s1

/-- The command that a write of a register is where the register has a row of its own; what that row takes from around the block stands
at its default. -/
def ownRow (a : Agent) (r : Reg) (i : Nat) (v : DWord) (s : State) : Option Out :=
  let w : Word := BitVec.ofNat 32 v.toNat
  match r with
  | .TB_CTRL => some (execTbCtrlWrite a w s)
  | .TB_ADJ_STEP => some (execTbAdjStepWrite a w s)
  | .TB_SERVO_OFS => some (execServoOffsetWrite a w s)
  | .CMDQ_TAIL => some (execCmdqTailWrite a i w s)
  | .CPLQ_HEAD => some (execCplqHeadWrite a i w s)
  | .CMDQ_CFG => some (execCmdqCfgWrite a i w s)
  | .CPLQ_CFG => some (execCplqCfgWrite a i w s)
  | .CPLQ_OWNER => some (execCplqOwnerWrite a i w s)
  | .DEC_S_REC_HEAD => some (execDecSRecHeadWrite a i w s)
  | .DEC_S_OUT_REL => some (execDecSOutRelWrite a i w s)
  | .FB_ASSIGN => some (execFbAssignWrite a w s)
  | .FB_DESC_FMT => some (execFbDescCommit a i w s)
  | .FB_READY => some (execFbReadyWrite a w s)
  | .FB_S_RING_RD => some (execFbRingRdWrite a i w s)
  | .FB_ARENA_BASE => some (execFbArenaWrite a i false v s)
  | .FB_ARENA_SIZE => some (execFbArenaWrite a i true v s)
  | .LN_GRP_CFG => some (execLnGrpCfgWrite a i w s)
  | .LN_PRBS_INJ => some (execLnPrbsInjWrite a i w s)
  | .PTP_TX_TAIL => some (execPtpTxTailWrite a i w s)
  | .CELLQ_FLUSH => some (execCellqFlushWrite a w s)
  | .ARB_CTL => some (execArbFreezeWrite a i w s)
  | .SPD_BANK_OWN => some (execSpdBankOwnWrite a i w s)
  | .SPD_BANK_CFG => some (execSpdBankStateWrite a i w s)
  | .BP_FREE => some (execBpFreeWrite a i w s)
  | .BP_CFG => some (execBpCfgWrite a i w s)
  | .CPX_BOOT_CTL => if w.toNat.testBit 0 then some (execCpxBootGo a s) else some (finish s)
  | .AON_LEAD_REQ => some (execAonLeadRequest a (v.toNat % 2) (v.toNat / 2 ^ 32) s)
  | .IC_COMPLETE => some (execIcComplete a i w s)
  | .IC_SRC_CFG => some (execIcSrcCfgWrite a i w s)
  | .FC_CLEAR => some (execFcClearWrite a v s)
  | .FC_MASK => some (execFcMaskWrite a v s)
  | .FC_INJECT => some (execFcInject a w s)
  | .PM_SLEEP_REQ => some (execSleepRequest a w none s.cxl.d3hot s)
  | .PM_AVS => some (execAvsTargetWrite a w s)
  | .GLB_RST_CTL => some (finish (s.writeRst a w.toNat [] {}))
  | .GLB_STREAM_RST => some (execStreamReset a w s)
  | .GLB_SURV_DISCARD => some (execSurvivorDiscard a w s)
  | .DMA_CH_CTL => some (finish (s.byAgent a r i fun _ s => s.writeDmaCtl a i w.toNat))
  | .CPX_CTL => some (finish (s.byAgent a r i fun f s => if f = 0 then s.writeCpxCtl a i w.toNat else s))
  | .MON_GLB_CTL => some (finish (s.byAgent a r i fun f s => if f = 0 then s.writeMonCtl a w.toNat else s))
  | _ => none

/-- A whole register is written: present units alone, by an agent that may. -/
def State.wholeWrite (s : State) (a : Agent) (r : Reg) (i : Nat) (v : DWord) : State :=
  if !s.regPresent r i then s
  else match ownRow a r i v s with
    | some o => afterRow o s
    | none => s.byAgent a r i fun f s => if s.mayWrite a f r i then s.commitReg f r i v else s

/-! ### Width and pairing -/

/-- One word of a frame buffer descriptor is staged by the descriptor's owner until word 3 commits it (R203). -/
def State.stageDesc (s : State) (a : Agent) (d k : Nat) (w : Word) : State :=
  s.byAgent a .FB_DESC_DIM d fun f s =>
    if s.fld FB_DESC_OWN_FUNC d ≠ f ∨ s.flag FB_DESC_OWN_POOL d then s.fbErr f FB_ERR_NOT_OWNER (some d)
    else { s with codec := { s.codec with descStage := storeInsert s.codec.descStage (d * 4 + k) w } }

/-- One 32-bit half of a 64-bit register (R19): the low word is held for an agent that may write the register, the high word commits both. -/
def State.halfWrite (s : State) (a : Agent) (r : Reg) (i : Nat) (high : Bool) (w : Word) : State :=
  let k := regKey r i
  if high then
    let low := match storeFind s.lowHeld k with | some x => x.toNat | none => (s.reg r i).toNat % 2 ^ 32
    State.wholeWrite { s with lowHeld := storeDrop s.lowHeld k } a r i (BitVec.ofNat 64 (low + w.toNat * 2 ^ 32))
  else s.byAgent a r i fun f s =>
    if s.mayWrite a f r i then { s with lowHeld := storeInsert s.lowHeld k w } else s

/-- A 32-bit write at a multiple of 4 (R19). -/
def State.write32 (s : State) (a : Agent) (off : Nat) (w : Word) : State :=
  match reachOf a off with
  | none => s
  | some (.FB_DESC_BASE, d, b) => s.stageDesc a d (b / 4) w
  | some (.FB_DESC_DIM, d, _) => s.stageDesc a d 2 w
  | some (r, i, b) => if (regInfo r).wide then s.halfWrite a r i (b == 4) w else s.wholeWrite a r i (BitVec.ofNat 64 w.toNat)

/-- A 64-bit write at a multiple of 8 (R19): a 64-bit register at once, two 32-bit registers one after the other. -/
def State.write64 (s : State) (a : Agent) (off : Nat) (v : DWord) : State :=
  let lo : Word := BitVec.ofNat 32 v.toNat
  let hi : Word := BitVec.ofNat 32 (v.toNat / 2 ^ 32)
  let two := (s.write32 a off lo).write32 a (off + 4) hi
  match reachOf a off with
  | some (.FB_DESC_BASE, _, _) => two
  | some (r, i, _) =>
    if (regInfo r).wide then State.wholeWrite { s with lowHeld := storeDrop s.lowHeld (regKey r i) } a r i v else two
  | none => two

/-- A function's write beyond its BAR is an unsupported request (R382). -/
def State.badOffset (s : State) (a : Agent) : State :=
  match a with
  | .cpx _ => s
  | .func _ =>
    let s1 := (s.record 25 0).emit (.completion false true)
    { s1 with cxl := { s1.cxl with errors := { s1.cxl.errors with unsupported := true } } }

/-- The agent exists: a function that the host reaches, or one of the two command processors. -/
def State.agentExists (s : State) (a : Agent) : Bool :=
  match a with
  | .func f => s.funcEnabled f
  | .cpx h => decide (h < 2)

/-- REGISTER_WRITE (R19): narrow and misaligned writes reach no register. -/
def execRegisterWrite (a : Agent) (off bytes : Nat) (v : DWord) (s : State) : Out :=
  finish <|
    if !s.agentExists a then s
    else if barSize < off + bytes then s.badOffset a
    else if bytes = 4 ∧ off % 4 = 0 then s.write32 a off (BitVec.ofNat 32 v.toNat)
    else if bytes = 8 ∧ off % 8 = 0 then s.write64 a off v
    else s

end Sys2Proof.Machine
end

