-- ==== Sys2Proof/Machine/Dispatch.lean ====
section
/-!
DEFINITION. The dispatch: one arm for each command, each a call of its meaning.
-/
namespace Sys2Proof.Machine

def exec (i : Instr) (s : State) : Host.Outcome State Fault Refusal :=
  match i with
  | .registerWrite a off bytes v => Sys2Proof.Machine.execRegisterWrite a off bytes v s
  | .tbTimeSecRead => Sys2Proof.Machine.execTbTimeSecRead s
  | .tbCtrlWrite a v => Sys2Proof.Machine.execTbCtrlWrite a v s
  | .tbAdjStepWrite a v => Sys2Proof.Machine.execTbAdjStepWrite a v s
  | .servoOffsetWrite a v => Sys2Proof.Machine.execServoOffsetWrite a v s
  | .servoTimeout => Sys2Proof.Machine.execServoTimeout s
  | .timePllLockLoss => Sys2Proof.Machine.execTimePllLockLoss s
  | .timePllReturn => Sys2Proof.Machine.execTimePllReturn s
  | .tickFire => Sys2Proof.Machine.execTickFire s
  | .leadCompareNoGrid => Sys2Proof.Machine.execLeadCompareNoGrid s
  | .tickOutActive => Sys2Proof.Machine.execTickOutActive s
  | .tickOutInactive => Sys2Proof.Machine.execTickOutInactive s
  | .ppsOutPulse => Sys2Proof.Machine.execPpsOutPulse s
  | .ppsOutEnd => Sys2Proof.Machine.execPpsOutEnd s
  | .ppsCapture => Sys2Proof.Machine.execPpsCapture s
  | .timeSet c => Sys2Proof.Machine.execTimeSet c s
  | .tickConfig c => Sys2Proof.Machine.execTickConfig c s
  | .launchSet c => Sys2Proof.Machine.execLaunchSet c s
  | .beacon m b => Sys2Proof.Machine.execBeacon m b s
  | .beaconLoss => Sys2Proof.Machine.execBeaconLoss s
  | .refclkAonLoss cycles => Sys2Proof.Machine.execRefclkAonLoss cycles s
  | .refclkAonReturn cycles => Sys2Proof.Machine.execRefclkAonReturn cycles s
  | .pictureLaunch stream => Sys2Proof.Machine.execPictureLaunch stream s
  | .delayedLaunch stream => Sys2Proof.Machine.execDelayedLaunch stream s
  | .deadlineBackstop stream => Sys2Proof.Machine.execDeadlineBackstop stream s
  | .cmdqTailWrite a q v => Sys2Proof.Machine.execCmdqTailWrite a q v s
  | .commandFetch slots => Sys2Proof.Machine.execCommandFetch slots s
  | .cplqHeadWrite a q v => Sys2Proof.Machine.execCplqHeadWrite a q v s
  | .heldReplyWrite q ok => Sys2Proof.Machine.execHeldReplyWrite q ok s
  | .cmdqCfgWrite a q v => Sys2Proof.Machine.execCmdqCfgWrite a q v s
  | .cplqCfgWrite a q v => Sys2Proof.Machine.execCplqCfgWrite a q v s
  | .cplqOwnerWrite a q v => Sys2Proof.Machine.execCplqOwnerWrite a q v s
  | .nop c => Sys2Proof.Machine.execNop c s
  | .deviceInfo c => Sys2Proof.Machine.execDeviceInfo c s
  | .stateRead c => Sys2Proof.Machine.execStateRead c s
  | .stateWrite c => Sys2Proof.Machine.execStateWrite c s
  | .faultClear c => Sys2Proof.Machine.execFaultClear c s
  | .streamOpen c => Sys2Proof.Machine.execStreamOpen c s
  | .streamConfig c => Sys2Proof.Machine.execStreamConfig c s
  | .streamClose c => Sys2Proof.Machine.execStreamClose c s
  | .bitstreamRingRelease stream => Sys2Proof.Machine.execBitstreamRingRelease stream s
  | .streamMigrateOut c => Sys2Proof.Machine.execStreamMigrateOut c s
  | .streamMigrateIn c => Sys2Proof.Machine.execStreamMigrateIn c s
  | .encPicture c => Sys2Proof.Machine.execEncPicture c s
  | .encKeyRequest c => Sys2Proof.Machine.execEncKeyRequest c s
  | .encRcUpdate c => Sys2Proof.Machine.execEncRcUpdate c s
  | .encQpMap c => Sys2Proof.Machine.execEncQpMap c s
  | .decAu c => Sys2Proof.Machine.execDecAu c s
  | .decFlush c => Sys2Proof.Machine.execDecFlush c s
  | .decRefDrop c => Sys2Proof.Machine.execDecRefDrop c s
  | .slotLoad c => Sys2Proof.Machine.execSlotLoad c s
  | .slotSwap c => Sys2Proof.Machine.execSlotSwap c s
  | .gateListLoad c => Sys2Proof.Machine.execGateListLoad c s
  | .shaperSet c => Sys2Proof.Machine.execShaperSet c s
  | .policerSet c => Sys2Proof.Machine.execPolicerSet c s
  | .flowOpen c => Sys2Proof.Machine.execFlowOpen c s
  | .flowClose c => Sys2Proof.Machine.execFlowClose c s
  | .ingestMap c => Sys2Proof.Machine.execIngestMap c s
  | .ringJoin c => Sys2Proof.Machine.execRingJoin c s
  | .ringJoinTimeout => Sys2Proof.Machine.execRingJoinTimeout s
  | .roleSet c => Sys2Proof.Machine.execRoleSet c s
  | .ringLeave c => Sys2Proof.Machine.execRingLeave c s
  | .voteSet c => Sys2Proof.Machine.execVoteSet c s
  | .keyLoad c => Sys2Proof.Machine.execKeyLoad c s
  | .zeroize c => Sys2Proof.Machine.execZeroize c s
  | .selfTest c fails => Sys2Proof.Machine.execSelfTest c fails s
  | .attest c => Sys2Proof.Machine.execAttest c s
  | .microcodePatch c x => Sys2Proof.Machine.execMicrocodePatch c x s
  | .microcodePatchSwitch => Sys2Proof.Machine.execMicrocodePatchSwitch s
  | .spareSwap c => Sys2Proof.Machine.execSpareSwap c s
  | .monitorConfig c => Sys2Proof.Machine.execMonitorConfig c s
  | .repairLogRead c => Sys2Proof.Machine.execRepairLogRead c s
  | .scoutBandDelivered unit stream band m => Sys2Proof.Machine.execScoutBandDelivered unit stream band m s
  | .scoutWaitExpiry pipe => Sys2Proof.Machine.execScoutWaitExpiry pipe s
  | .cuStart pipe late far needs => Sys2Proof.Machine.execCuStart pipe late far needs s
  | .waitCut pipe => Sys2Proof.Machine.execWaitCut pipe s
  | .cuBitCheck pipe u trimmed => Sys2Proof.Machine.execCuBitCheck pipe u trimmed s
  | .cuHandoff pipe bytes bits => Sys2Proof.Machine.execCuHandoff pipe bytes bits s
  | .seamStripDone stream => Sys2Proof.Machine.execSeamStripDone stream s
  | .bandRelease stream => Sys2Proof.Machine.execBandRelease stream s
  | .encPictureComplete stream st => Sys2Proof.Machine.execEncPictureComplete stream st s
  | .encPipeFault pipe f => Sys2Proof.Machine.execEncPipeFault pipe f s
  | .decBlockStart pipe r unfetched => Sys2Proof.Machine.execDecBlockStart pipe r unfetched s
  | .decPictureComplete stream d => Sys2Proof.Machine.execDecPictureComplete stream d s
  | .decPipeFault pipe f => Sys2Proof.Machine.execDecPipeFault pipe f s
  | .decSRecHeadWrite a stream v => Sys2Proof.Machine.execDecSRecHeadWrite a stream v s
  | .decSOutRelWrite a stream v => Sys2Proof.Machine.execDecSOutRelWrite a stream v s
  | .fbAssignWrite a v => Sys2Proof.Machine.execFbAssignWrite a v s
  | .fbDescCommit a d v => Sys2Proof.Machine.execFbDescCommit a d v s
  | .fbReadyWrite a v => Sys2Proof.Machine.execFbReadyWrite a v s
  | .fbRingRdWrite a stream v => Sys2Proof.Machine.execFbRingRdWrite a stream v s
  | .fbArenaWrite a f sizeReg v => Sys2Proof.Machine.execFbArenaWrite a f sizeReg v s
  | .hello m h => Sys2Proof.Machine.execHello m h s
  | .leave m => Sys2Proof.Machine.execLeave m s
  | .roleUpdate m kind rsid pos origin newEpoch switchTick => Sys2Proof.Machine.execRoleUpdate m kind rsid pos origin newEpoch switchTick s
  | .nak m type reason seq rsid epoch tick => Sys2Proof.Machine.execNak m type reason seq rsid epoch tick s
  | .messageDiscard link badCrc => Sys2Proof.Machine.execMessageDiscard link badCrc s
  | .plan m p => Sys2Proof.Machine.execPlan m p s
  | .planSendTimeout rsid => Sys2Proof.Machine.execPlanSendTimeout rsid s
  | .donate m rsid seq bits => Sys2Proof.Machine.execDonate m rsid seq bits s
  | .ask m rsid seq bits => Sys2Proof.Machine.execAsk m rsid seq bits s
  | .grant m rsid seq bits => Sys2Proof.Machine.execGrant m rsid seq bits s
  | .final m rsid flags bits carry cplx cut => Sys2Proof.Machine.execFinal m rsid flags bits carry cplx cut s
  | .halo m h => Sys2Proof.Machine.execHalo m h s
  | .haloDeadline rsid side => Sys2Proof.Machine.execHaloDeadline rsid side s
  | .staleHaloDrop => Sys2Proof.Machine.execStaleHaloDrop s
  | .seamUp m h => Sys2Proof.Machine.execSeamUp m h s
  | .seamDown m h => Sys2Proof.Machine.execSeamDown m h s
  | .seamDeadline rsid => Sys2Proof.Machine.execSeamDeadline rsid s
  | .band m h data => Sys2Proof.Machine.execBand m h data s
  | .forwardedBandDrop rsid => Sys2Proof.Machine.execForwardedBandDrop rsid s
  | .migData m h => Sys2Proof.Machine.execMigData m h s
  | .migCommitReq m id handle => Sys2Proof.Machine.execMigCommitReq m id handle s
  | .migCommitAck m id => Sys2Proof.Machine.execMigCommitAck m id s
  | .migQuery m id step answer => Sys2Proof.Machine.execMigQuery m id step answer s
  | .migAbort m id step => Sys2Proof.Machine.execMigAbort m id step s
  | .migrationTimeout handle => Sys2Proof.Machine.execMigrationTimeout handle s
  | .migrateInTimeout handle => Sys2Proof.Machine.execMigrateInTimeout handle s
  | .uioWriteReceive peer address data mail => Sys2Proof.Machine.execUioWriteReceive peer address data mail s
  | .lnGrpCfgWrite a g v => Sys2Proof.Machine.execLnGrpCfgWrite a g v s
  | .lnPrbsInjWrite a lane v => Sys2Proof.Machine.execLnPrbsInjWrite a lane v s
  | .fuletLinkDown link => Sys2Proof.Machine.execFuletLinkDown link s
  | .ethLinkChange port up faults => Sys2Proof.Machine.execEthLinkChange port up faults s
  | .ethFrameReceive port bytes f => Sys2Proof.Machine.execEthFrameReceive port bytes f s
  | .ptpTxTailWrite a port v => Sys2Proof.Machine.execPtpTxTailWrite a port v s
  | .gateEntryChange g => Sys2Proof.Machine.execGateEntryChange g s
  | .gateListSwitch g => Sys2Proof.Machine.execGateListSwitch g s
  | .frameSelect k => Sys2Proof.Machine.execFrameSelect k s
  | .cellEnqueue src => Sys2Proof.Machine.execCellEnqueue src s
  | .cellqFlushWrite a v => Sys2Proof.Machine.execCellqFlushWrite a v s
  | .cellLinkError queue cell e => Sys2Proof.Machine.execCellLinkError queue cell e s
  | .cellSweepDone bad => Sys2Proof.Machine.execCellSweepDone bad s
  | .memoryRequest r => Sys2Proof.Machine.execMemoryRequest r s
  | .arbBurstEnd arb group cands hold cycles => Sys2Proof.Machine.execArbBurstEnd arb group cands hold cycles s
  | .memoryBurstComplete ch src ecc => Sys2Proof.Machine.execMemoryBurstComplete ch src ecc s
  | .mcCrcError ch src trainOk => Sys2Proof.Machine.execMcCrcError ch src trainOk s
  | .mcRefresh ch temp x2 => Sys2Proof.Machine.execMcRefresh ch temp x2 s
  | .mcPeriodicRetrain ch temp => Sys2Proof.Machine.execMcPeriodicRetrain ch temp s
  | .pageRetireCopyDone entry => Sys2Proof.Machine.execPageRetireCopyDone entry s
  | .arbFreezeWrite a arb v => Sys2Proof.Machine.execArbFreezeWrite a arb v s
  | .dmaEnWrite a n en p => Sys2Proof.Machine.execDmaEnWrite a n en p s
  | .dmaArm a n => Sys2Proof.Machine.execDmaArm a n s
  | .dmaDisarm a n => Sys2Proof.Machine.execDmaDisarm a n s
  | .dmaHandover n late lateArm => Sys2Proof.Machine.execDmaHandover n late lateArm s
  | .dmaDescriptorComplete n data => Sys2Proof.Machine.execDmaDescriptorComplete n data s
  | .dmaError n code addr p => Sys2Proof.Machine.execDmaError n code addr p s
  | .spdAccess x => Sys2Proof.Machine.execSpdAccess x s
  | .spdBankOwnWrite a b v => Sys2Proof.Machine.execSpdBankOwnWrite a b v s
  | .spdHandoverDone b => Sys2Proof.Machine.execSpdHandoverDone b s
  | .spdBankStateWrite a b v => Sys2Proof.Machine.execSpdBankStateWrite a b v s
  | .spdBankTransitionDone b => Sys2Proof.Machine.execSpdBankTransitionDone b s
  | .windowCacheTestStart unit => Sys2Proof.Machine.execWindowCacheTestStart unit s
  | .windowCacheTestDone cluster rows => Sys2Proof.Machine.execWindowCacheTestDone cluster rows s
  | .bpAllocate k r => Sys2Proof.Machine.execBpAllocate k r s
  | .bpFreeWrite a k v => Sys2Proof.Machine.execBpFreeWrite a k v s
  | .bpAllocRead k => Sys2Proof.Machine.execBpAllocRead k s
  | .bpCfgWrite a k v => Sys2Proof.Machine.execBpCfgWrite a k v s
  | .cxlLinkDown dma => Sys2Proof.Machine.execCxlLinkDown dma s
  | .cxlLinkUp speed width => Sys2Proof.Machine.execCxlLinkUp speed width s
  | .l1EntryRequest => Sys2Proof.Machine.execL1EntryRequest s
  | .l1Exit host x => Sys2Proof.Machine.execL1Exit host x s
  | .l0pRequest width => Sys2Proof.Machine.execL0pRequest width s
  | .cxlMemRequest x => Sys2Proof.Machine.execCxlMemRequest x s
  | .hostSnoop line => Sys2Proof.Machine.execHostSnoop line s
  | .hdmDecoderCommit base size ways gran => Sys2Proof.Machine.execHdmDecoderCommit base size ways gran s
  | .vfEnableWrite numVfs enable dma => Sys2Proof.Machine.execVfEnableWrite numVfs enable dma s
  | .functionLevelReset f dma => Sys2Proof.Machine.execFunctionLevelReset f dma s
  | .cxlReset clear dma x => Sys2Proof.Machine.execCxlReset clear dma x s
  | .doeRequest x => Sys2Proof.Machine.execDoeRequest x s
  | .doeAbort => Sys2Proof.Machine.execDoeAbort s
  | .ideKeySetSwitch protocol dir set => Sys2Proof.Machine.execIdeKeySetSwitch protocol dir set s
  | .ideIntegrityFail => Sys2Proof.Machine.execIdeIntegrityFail s
  | .completionTimeout who => Sys2Proof.Machine.execCompletionTimeout who s
  | .msixUnmask f v => Sys2Proof.Machine.execMsixUnmask f v s
  | .cpxBootGo a => Sys2Proof.Machine.execCpxBootGo a s
  | .usqRoutineBoundary u wait next stop => Sys2Proof.Machine.execUsqRoutineBoundary u wait next stop s
  | .usqRoutineOverrun u pipes => Sys2Proof.Machine.execUsqRoutineOverrun u pipes s
  | .usqFault u routine step fs d => Sys2Proof.Machine.execUsqFault u routine step fs d s
  | .aonLeadRequest a owner expect => Sys2Proof.Machine.execAonLeadRequest a owner expect s
  | .aonPowerUp => Sys2Proof.Machine.execAonPowerUp s
  | .cpxRelease h => Sys2Proof.Machine.execCpxRelease h s
  | .cpxAdopt a h on => Sys2Proof.Machine.execCpxAdopt a h on s
  | .cpxHalt a h => Sys2Proof.Machine.execCpxHalt a h s
  | .cpxWatchdogExpiry h => Sys2Proof.Machine.execCpxWatchdogExpiry h s
  | .icClaim a t => Sys2Proof.Machine.execIcClaim a t s
  | .icComplete a t v => Sys2Proof.Machine.execIcComplete a t v s
  | .icSrcCfgWrite a n v => Sys2Proof.Machine.execIcSrcCfgWrite a n v s
  | .icMessageSend t => Sys2Proof.Machine.execIcMessageSend t s
  | .fcClearWrite a v => Sys2Proof.Machine.execFcClearWrite a v s
  | .fcMaskWrite a v => Sys2Proof.Machine.execFcMaskWrite a v s
  | .fcInject a v => Sys2Proof.Machine.execFcInject a v s
  | .domainRestoreDone d => Sys2Proof.Machine.execDomainRestoreDone d s
  | .sleepRequest a v w d3hot => Sys2Proof.Machine.execSleepRequest a v w d3hot s
  | .wakeEvent w x => Sys2Proof.Machine.execWakeEvent w x s
  | .droopCrossing sensor mv => Sys2Proof.Machine.execDroopCrossing sensor mv s
  | .droopCritExpiry sensor => Sys2Proof.Machine.execDroopCritExpiry sensor s
  | .droopHoldExpiry sensor => Sys2Proof.Machine.execDroopHoldExpiry sensor s
  | .thermalChange temp sensor => Sys2Proof.Machine.execThermalChange temp sensor s
  | .thermalShutdown => Sys2Proof.Machine.execThermalShutdown s
  | .avsTargetWrite a v => Sys2Proof.Machine.execAvsTargetWrite a v s
  | .avsMismatchExpiry mv busErr => Sys2Proof.Machine.execAvsMismatchExpiry mv busErr s
  | .monitorPeriod droop temp => Sys2Proof.Machine.execMonitorPeriod droop temp s
  | .monitorSnapWrite a => Sys2Proof.Machine.execMonitorSnapWrite a s
  | .agingMeasure u ppm => Sys2Proof.Machine.execAgingMeasure u ppm s
  | .spdBankCopyDone => Sys2Proof.Machine.execSpdBankCopyDone s
  | .pllLockLoss => Sys2Proof.Machine.execPllLockLoss s
  | .repairLogProgrammed => Sys2Proof.Machine.execRepairLogProgrammed s
  | .secConditionalTestFail => Sys2Proof.Machine.execSecConditionalTestFail s
  | .keystoreEccError slot => Sys2Proof.Machine.execKeystoreEccError slot s
  | .powerUp aonLost strapLead strapTest => Sys2Proof.Machine.execPowerUp aonLost strapLead strapTest s
  | .railUndervoltage aon => Sys2Proof.Machine.execRailUndervoltage aon s
  | .perstNAssert hot dma x => Sys2Proof.Machine.execPerstNAssert hot dma x s
  | .perstNRelease x => Sys2Proof.Machine.execPerstNRelease x s
  | .linkReset dma => Sys2Proof.Machine.execLinkReset dma s
  | .glbRstWarm a v dma x => Sys2Proof.Machine.execGlbRstWarm a v dma x s
  | .glbRstCold a v x => Sys2Proof.Machine.execGlbRstCold a v x s
  | .glbRstHalf a v => Sys2Proof.Machine.execGlbRstHalf a v s
  | .halfResetDone h digestOk => Sys2Proof.Machine.execHalfResetDone h digestOk s
  | .streamReset a v => Sys2Proof.Machine.execStreamReset a v s
  | .survivorDiscard a v => Sys2Proof.Machine.execSurvivorDiscard a v s
  | .refclkLaneLoss => Sys2Proof.Machine.execRefclkLaneLoss s
  | .refclkCxlLoss dma => Sys2Proof.Machine.execRefclkCxlLoss dma s
  | .smbusRead reg => Sys2Proof.Machine.execSmbusRead reg s
  | .fuletLinkUp link lanes rate25 degraded stepFail reversed skew => Sys2Proof.Machine.execFuletLinkUp link lanes rate25 degraded stepFail reversed skew s
  | .prbsCheckerLock lane locked errors => Sys2Proof.Machine.execPrbsCheckerLock lane locked errors s
  | .refclkLaneReturn => Sys2Proof.Machine.execRefclkLaneReturn s
  | .imageReadComplete x => Sys2Proof.Machine.execImageReadComplete x s
  | .scoutStop unit => Sys2Proof.Machine.execScoutStop unit s
  | .backInvalidateResponse line => Sys2Proof.Machine.execBackInvalidateResponse line s
  | .cxlInternalError => Sys2Proof.Machine.execCxlInternalError s
  | .boundaryScan levels => Sys2Proof.Machine.execBoundaryScan levels s

end Sys2Proof.Machine
end

