-- ==== Sys2Proof/Safety.lean ====
section
/-!
DEFINITION. The words that claims are stated in: a command that gives a next state, what it leaves unchanged, a host command that is ready
to run, and what counts as a safe state.
-/
namespace Sys2Proof.Machine

/-! ### Completion -/

/-- A command answers a next state, and this holds of it. -/
def Gives (c : Instr) (s : State) (P : State → Prop) : Prop := ∃ t, exec c s = .next t ∧ P t

/-- An agent writes with the authority of PF0: PF0 itself, or the lead command processor while it is not fenced (R388). -/
def State.actsAsPf0 (s : State) (a : Agent) : Bool :=
  match a with
  | .func f => f == 0
  | .cpx h => s.leadHalf == h && !s.flag CPX_STS_FENCED h

/-! ### Frames -/

/-- The registers that a raised source writes (R417): the pending bits and the count of merged raises. -/
def sourceOnly : List Reg := [.IC_PEND, .IC_MERGE_CNT]

/-- The registers that recording a fault writes (R427). -/
def faultOnly : List Reg := [.FC_STATUS, .FC_CNT, .FC_LAST, .FC_FIRST, .IC_PEND, .IC_MERGE_CNT]

/-- The registers that answering a command writes (R56, R67, R72, R86). -/
def replyOnly : List Reg :=
  [.CMDQ_STS, .CMDQ_HELD, .CPLQ_STS, .CPLQ_TAIL, .TK_LATE_CNT, .TB_EVT, .IC_PEND, .IC_MERGE_CNT]

/-- Registers outside a list hold what they held; `SEC_STS` holds APPROVED, which follows other state at every instant (R482). -/
def SameRegs (but : List Reg) (s t : State) : Prop := ∀ r i, r ∉ but → r ≠ .SEC_STS → t.reg r i = s.reg r i

/-- Nothing changed but the registers of a list and what follows from them: FAULT_N (R429). Memory, streams, flows, queues, pins and time
are as they were. -/
def OnlyRegs (but : List Reg) (s t : State) : Prop :=
  t = { s with regs := t.regs, pins := { s.pins with faultN := t.pins.faultN } } ∧ SameRegs but s t

/-- Every byte of host memory, device memory and the scratchpads is as it was. -/
def SameMemory (s t : State) : Prop :=
  (∀ sp a, t.byte sp a = s.byte sp a) ∧ ∀ a, memRead t.spad a = memRead s.spad a

/-- Every byte of memory is as it was, but for the `n` bytes from address `a` of one space. -/
def OnlyBytes (sp : Space) (a n : Nat) (s t : State) : Prop :=
  (∀ sp' b, sp' ≠ sp ∨ b < a ∨ a + n ≤ b → t.byte sp' b = s.byte sp' b) ∧ ∀ b, memRead t.spad b = memRead s.spad b

/-- Nothing changed at all, but for what follows at every instant. -/
def Unchanged (s t : State) : Prop := OnlyRegs [] s t

/-! ### Host commands -/

/-- The state a host command's own rules work on: it is listed as outstanding and has started (R78, R91). -/
def begun (c : Cmd) (s : State) : State :=
  (s.enlist c).onEntries c.queue (mapEntry c fun o => { o with stage := .started })

/-- A host command starts now: its header passes the checks (R539), no earlier command holds it back (R78 to R80, R246), and it is not held for a
tick (R80). -/
def Ready (c : Cmd) (s : State) : Bool :=
  (headerError c (s.enlist c)).isNone && !(s.enlist c).mustWait c && !(c.atTick && decide ((s.enlist c).tickIndex < c.tick))

/-- A reply can be written at once (R67): no earlier command to the same object is still to complete (R78), the completion queue is
enabled, has room and nothing held, and the answer is not one that QUIET suppresses (R81). -/
def ReplyGoesOut (c : Cmd) (s : State) : Bool :=
  let n := s.fld CMDQ_CFG_CPLQ c.queue
  !(s.enlist c).behind c && s.flag CPLQ_CFG_EN n && s.cplqRoom n && !s.someHeld n && !(c.quiet && !c.readback)

/-- What a state leaves of another once a reply is given: memory may hold the reply and its record (R67, R82), the outstanding commands lose
the one answered, and the registers of a reply move; everything else is as it was. -/
def RepliedOnly (s t : State) : Prop :=
  t = { s with regs := t.regs, mem := t.mem, hostMem := t.hostMem, cmd := t.cmd, pins := { s.pins with faultN := t.pins.faultN } } ∧
    SameRegs replyOnly s t

/-! ### Ring messages -/

/-- A ring message is for this member alone and of the epoch in force: it is handled here and not relayed (R221, R227). -/
def State.heeds (s : State) (m : RingHdr) : Bool := s.joined && !m.bcast && m.dst == s.ringPos && m.epoch == s.epochAt m.tick

/-! ### Safe states -/

/-- The three memories stand in canonical form: equal memories are equal data. -/
def State.memsWf (s : State) : Bool := memWf s.mem && memWf s.hostMem && memWf s.spad

/-- The outputs that follow state at every instant do: FAULT_N shows an unmasked fault (R429), and `SEC_STS.APPROVED` the state of the security
module (R482). -/
def State.outputsFollow (s : State) : Bool :=
  s.pins.faultN == s.faultNLevel && s.flag SEC_STS_APPROVED == s.approvedNow

/-- A safe run never leaves these states. -/
def State.safe (s : State) : Bool := s.memsWf && s.outputsFollow

end Sys2Proof.Machine
end

