-- ==== Sys2Proof/Certificates/Slice0/Obligations.lean ====
section
/-!
DEFINITION. The statements for the provers: what the spec's rules say of the commands, one group of commands at a time.
-/

open Sys2Proof Sys2Proof.Machine

/-- A step runs the command at the front of the queue: For every command c and state s whose queue is c followed by the rest, a step is the command's effect on the state with the queue's rest; the queue is the model's own, first in first out (log entry 1). -/
def Obligations.StepRunsFrontCommand : Prop :=
  ∀ (c : Instr) (rest : List Instr) (s : State), s.pending = c :: rest → step s = exec c { s with pending := rest }

/-- With nothing waiting, device time passes by one TCLK edge of 2 ns: With an empty queue, no sleep entry in progress, domain TIME on and no rate correction, a step adds 2 ns to device time and to every running duration, keeps the fraction, and changes no register, memory byte or queue but what follows at every instant (the idle step is the model's choice, log entry 2). -/
def Obligations.EmptyQueueIsOneEdge : Prop :=
  ∀ s : State, s.pending = [] → s.power.entry = none → s.domOn 15 = true → s.reg .TB_ADJ_RATE = 0 → s.tb.frac < 2 ^ 48 * 1000000000 →
    ∃ t, step s = .next t ∧ t.tb.ns = s.tb.ns + 2 ∧ t.tb.run = s.tb.run + 2 ∧ t.tb.frac = s.tb.frac ∧
      OnlyRegs [] { s with tb := t.tb } t

/-- Every command answers a next state, and its outputs follow the state: In every state every command gives a next state: nothing the block takes stops it. In the state it gives, FAULT_N is low exactly while a bit of FC_STATUS AND NOT FC_MASK is set, and SEC_STS.APPROVED is 1 exactly while CRYPTO is fused, TEST_MODE is 0 and the module is OPERATIONAL. -/
def Obligations.EveryCommandCompletes : Prop :=
  ∀ (c : Instr) (s : State), Gives c s fun t =>
    (t.pins.faultN = decide (t.reg .FC_STATUS &&& ~~~(t.reg .FC_MASK) = 0)) ∧
      t.flag SEC_STS_APPROVED = (t.fuse GLB_FUSE_CFG_CRYPTO == 1 && !t.chip.strapTest && t.fld SEC_STS_STATE == 2)

/-- Every step keeps FAULT_N and APPROVED true to the state: From every state in which FAULT_N shows an unmasked fault and APPROVED shows the state of the security module, every step, whatever command stands in front and also with an empty queue, gives a state in which they still do. -/
def Obligations.StepKeepsOutputs : Prop :=
  ∀ s t : State, s.outputsFollow = true → step s = .next t → t.outputsFollow = true

/-- The state after reset is safe, with nothing waiting: After reset the queue is empty, FAULT_N is released, the outputs follow the state, the three memories are in canonical form with nothing listed, device time is 0, no grid runs, every stream handle is FREE and no fault is recorded. -/
def Obligations.ResetIsSafe : Prop :=
  State.reset.pending = [] ∧ State.reset.pins.faultN = true ∧ State.reset.safe = true ∧ State.reset.mem = [] ∧ State.reset.hostMem = [] ∧
    State.reset.spad = [] ∧ State.reset.tb.ns = 0 ∧ State.reset.flag TK_CTRL_EN = false ∧ State.reset.reg .FC_STATUS = 0 ∧
    ∀ h, (State.reset.stream h).st = .free

/-- Servo updates store the offset and move LOCKED, HOLDOVER and the 4 s timer: For the servo owner: with SRC = FREE a write of TB_SERVO_OFS is only stored. With another SRC it clears HOLDOVER and restarts the 4 s timer; when the offset is within THRESH_NS and the count of such writes reaches COUNT, LOCKED is 1 after it. A write by a function that is not the owner changes nothing. When the 4 s timer of a servo runs out, LOCKED reads 0 and HOLDOVER 1. A write of TB_CTRL by PF0's authority stores its fields, and one that changes SRC leaves LOCKED at 0. -/
def Obligations.ServoWritesMoveLockState : Prop :=
  (∀ (a : Agent) (v : Word) (s : State), s.actsAsPf0 a = true → s.servoOwner a = true → s.fld TB_CTRL_SRC = 0 →
    Gives (.servoOffsetWrite a v) s fun t => t.regN .TB_SERVO_OFS = v.toNat ∧ OnlyRegs [.TB_SERVO_OFS] s t) ∧
  (∀ (a : Agent) (v : Word) (s : State), s.actsAsPf0 a = true → s.servoOwner a = true → s.fld TB_CTRL_SRC ≠ 0 →
    Gives (.servoOffsetWrite a v) s fun t =>
      t.regN .TB_SERVO_OFS = v.toNat ∧ t.fld TB_STATUS_HOLDOVER = 0 ∧ t.tb.servoTimer = true ∧ t.tb.servoAt = s.tb.run ∧
      ((signed 32 v.toNat).natAbs ≤ max 1 (s.fld TB_LOCK_CFG_THRESH_NS) → max 1 (s.fld TB_LOCK_CFG_COUNT) ≤ s.tb.within + 1 →
        t.flag TB_STATUS_LOCKED = true)) ∧
  (∀ (f : Nat) (v : Word) (s : State), s.servoOwner (.func f) = false →
    Gives (.servoOffsetWrite (.func f) v) s fun t => Unchanged s t) ∧
  (∀ s : State, s.tb.servoTimer = true → s.fld TB_CTRL_SRC ≠ 0 →
    Gives .servoTimeout s fun t => t.flag TB_STATUS_LOCKED = false ∧ t.flag TB_STATUS_HOLDOVER = true ∧ t.tb.servoTimer = false) ∧
  (∀ (a : Agent) (v : Word) (s : State), s.actsAsPf0 a = true →
    Gives (.tbCtrlWrite a v) s fun t =>
      t.regN .TB_CTRL = v.toNat % 32 ∧ (v.toNat % 4 ≠ s.fld TB_CTRL_SRC → t.flag TB_STATUS_LOCKED = false)) ∧
  (∀ (f : Nat) (v : Word) (s : State), f ≠ 0 → Gives (.tbCtrlWrite (.func f) v) s fun t => Unchanged s t)

/-- Steps of device time, TIME_SET, reads of time, and the clocks that carry it: A step by the servo owner within plus or minus 999,999,999 ns, while no grid runs or within 1 us forward, adds its signed value to device time once, and the register reads it back. A step forward of more than 1 us while a grid runs, with no picture waiting, counts every tick jumped over as missed and clears LOCKED. A larger value or another agent's changes no time. TIME_SET sets device time to its seconds and nanoseconds, clears LOCKED and sets TIME_VALID, and 1,000,000,000 ns or more is refused with BAD_PARAM. A read of the low word of TB_TIME_SEC latches seconds, nanoseconds and fraction and changes no time. Loss of the time PLL sets CLK_ALT and its return clears it, each raising source 103. In Deep sleep, loss of REFCLK_AON adds its cycles to the count and moves counting to the RC oscillator, its return moves it back, and device time does not move. -/
def Obligations.TimeStepsOnlyAsAsked : Prop :=
  (∀ (a : Agent) (v : Word) (s : State), s.actsAsPf0 a = true → s.servoOwner a = true → (signed 32 v.toNat).natAbs ≤ 999999999 →
    s.flag TK_CTRL_EN = false ∨ signed 32 v.toNat ≤ 1000 →
    Gives (.tbAdjStepWrite a v) s fun t =>
      t.tb.ns = ((s.tb.ns : Int) + signed 32 v.toNat).toNat ∧ t.tb.run = s.tb.run ∧ t.tb.frac = s.tb.frac ∧ t.regN .TB_ADJ_STEP = v.toNat) ∧
  (∀ (a : Agent) (v : Word) (m : Nat) (s : State), s.actsAsPf0 a = true → s.servoOwner a = true → 1000 < signed 32 v.toNat →
    signed 32 v.toNat ≤ 999999999 → s.flag TK_CTRL_EN = true → s.codec.enc = [] → s.codec.dec = [] → 0 < s.fld TK_DEN_DEN →
    0 < s.fld TK_NUM_NUM → s.tickTime m ≤ s.tb.ns + (signed 32 v.toNat).toNat → s.tb.ns + (signed 32 v.toNat).toNat < s.tickTime (m + 1) →
    s.tickIndex < m → m < 2 ^ 63 →
    Gives (.tbAdjStepWrite a v) s fun t =>
      t.tickIndex = m ∧ t.regN .TK_MISSED = min 0xFFFFFFFF (s.regN .TK_MISSED + (m - s.tickIndex)) ∧ t.flag TB_STATUS_LOCKED = false) ∧
  (∀ (a : Agent) (v : Word) (s : State), 999999999 < (signed 32 v.toNat).natAbs ∨ s.servoOwner a = false →
    Gives (.tbAdjStepWrite a v) s fun t => t.tb = s.tb ∧ t.reg .TB_ADJ_STEP = s.reg .TB_ADJ_STEP) ∧
  (∀ (c : Cmd) (s : State), Ready c s = true → c.p 2 < 1000000000 → s.flag TK_CTRL_EN = false →
    Gives (.timeSet c) s fun t =>
      t.tb.ns = c.p64 0 % 2 ^ 48 * 1000000000 + c.p 2 ∧ t.tb.run = s.tb.run ∧ t.flag TB_STATUS_LOCKED = false ∧
      t.flag TB_STATUS_TIME_VALID = true) ∧
  (∀ (c : Cmd) (s : State), Ready c s = true → 1000000000 ≤ c.p 2 →
    Gives (.timeSet c) s fun t => t = settle ((begun c s).answer c 0x11 0x800002 0)) ∧
  (∀ s : State, Gives .tbTimeSecRead s fun t =>
    t.lastRead = t.reg .TB_TIME_SEC ∧ t.regN .TB_TIME_SEC = s.tb.ns / 1000000000 % 2 ^ 48 ∧ t.regN .TB_TIME_NS = s.tb.ns % 1000000000 ∧
    t.tb.ns = s.tb.ns ∧ t.tb.shadowNs = s.tb.ns ∧ SameRegs [.TB_TIME_SEC, .TB_TIME_NS, .TB_TIME_FRAC] s t ∧ SameMemory s t) ∧
  (∀ s : State, s.flag TB_STATUS_CLK_ALT = false →
    Gives .timePllLockLoss s fun t =>
      t.flag TB_STATUS_CLK_ALT = true ∧ t.pendBit 103 = true ∧ OnlyRegs [.TB_STATUS, .TB_EVT, .IC_PEND, .IC_MERGE_CNT] s t) ∧
  (∀ s : State, s.flag TB_STATUS_CLK_ALT = true → s.flag TK_CTRL_EN = true →
    Gives .timePllReturn s fun t =>
      t.flag TB_STATUS_CLK_ALT = false ∧ t.pendBit 103 = true ∧ OnlyRegs [.TB_STATUS, .TB_EVT, .IC_PEND, .IC_MERGE_CNT] s t) ∧
  (∀ s : State, s.flag TB_STATUS_CLK_ALT = true → s.flag TK_CTRL_EN = false →
    Gives .timePllReturn s fun t =>
      t.flag TB_STATUS_CLK_ALT = false ∧ t.tb.ns % 1000000 = 0 ∧ s.tb.ns ≤ t.tb.ns ∧ t.tb.ns < s.tb.ns + 1000000) ∧
  (∀ (n : Nat) (s : State), s.fld PM_STATE_STATE = 3 → s.tb.onRc = false →
    Gives (.refclkAonLoss n) s fun t =>
      t.tb.onRc = true ∧ t.tb.refCount = min (2 ^ 40) (s.tb.refCount + n) ∧ t.tb.ns = s.tb.ns ∧ SameRegs [] s t ∧ SameMemory s t) ∧
  (∀ (n : Nat) (s : State), s.fld PM_STATE_STATE = 3 → s.tb.onRc = true →
    Gives (.refclkAonReturn n) s fun t =>
      t.tb.onRc = false ∧ t.tb.rcCount = min (2 ^ 40) (s.tb.rcCount + n) ∧ t.tb.ns = s.tb.ns ∧ SameRegs [] s t ∧ SameMemory s t)

/-- TICK_CONFIG accepts a grid and arms the first tick: With no grid running, TICK_CONFIG with TK_NUM and TK_DEN from 1 to 1,048,575 and a period from 1/240 s to 1 s stores both, sets TK_Q and TK_R to quotient and remainder of 10^9 x TK_NUM by TK_DEN, sets EN and PENDING, and names as the next tick the first grid time T(n) = floor(n x 10^9 x TK_NUM / TK_DEN) at least 1 ms ahead. With NUM or DEN 0 or too large it is refused with detail 2, and with another period with detail 3, and no grid is changed. -/
def Obligations.TickConfigStartsTheGrid : Prop :=
  (∀ (c : Cmd) (s : State), Ready c s = true → s.flag TK_CTRL_EN = false → 0 < c.p 0 → 0 < c.p 1 → c.p 0 ≤ 1048575 → c.p 1 ≤ 1048575 →
    c.p 1 ≤ 240 * c.p 0 → c.p 0 ≤ c.p 1 → s.tb.ns < 2 ^ 62 →
    Gives (.tickConfig c) s fun t =>
      t.flag TK_CTRL_EN = true ∧ t.flag TK_CTRL_PENDING = true ∧ t.fld TK_NUM_NUM = c.p 0 ∧ t.fld TK_DEN_DEN = c.p 1 ∧
      t.regN .TK_Q = 1000000000 * c.p 0 / c.p 1 ∧ t.regN .TK_R = 1000000000 * c.p 0 % c.p 1 ∧
      t.nextTick = (t.tickIndex + 1) * 1000000000 * c.p 0 / c.p 1 ∧ s.tb.ns + 1000000 ≤ t.nextTick ∧
      t.tickIndex * 1000000000 * c.p 0 / c.p 1 < s.tb.ns + 1000000 ∧ t.tb.ns = s.tb.ns ∧ t.streams = s.streams ∧
      t.codec = s.codec) ∧
  (∀ (c : Cmd) (s : State), Ready c s = true → s.flag TK_CTRL_EN = false →
    c.p 0 = 0 ∨ c.p 1 = 0 ∨ 1048575 < c.p 0 ∨ 1048575 < c.p 1 →
    Gives (.tickConfig c) s fun t => t = settle ((begun c s).answer c 0x11 2 0)) ∧
  (∀ (c : Cmd) (s : State), Ready c s = true → s.flag TK_CTRL_EN = false → 0 < c.p 0 → 0 < c.p 1 → c.p 0 ≤ 1048575 → c.p 1 ≤ 1048575 →
    240 * c.p 0 < c.p 1 ∨ c.p 1 < c.p 0 →
    Gives (.tickConfig c) s fun t => t = settle ((begun c s).answer c 0x11 3 0))

/-- A tick steps the index to the next grid time and raises its source: While domain TIME is on and a grid runs, TICK_FIRE carries device time to the next tick and gives the state that the actions of the tick, in their eight positions, leave from the stepped index: in that state the index is one higher, the next tick is the next grid time, PENDING is 0 and source 95 is pending. In a reset of the rest of the die only the index steps. Without a grid, or with TIME not on, nothing changes. -/
def Obligations.TickStepsTheIndex : Prop :=
  (∀ s : State, s.flag TK_CTRL_EN = true → s.domOn 15 = true → 0 < s.fld TK_DEN_DEN → s.tickIndex < 2 ^ 32 → s.inReset = false →
    ∃ u : State, exec .tickFire s = .next (settle u.tickFirst.tickMiddle.tickLast) ∧
      u.tickIndex = s.tickIndex + 1 ∧ u.nextTick = (s.tickIndex + 2) * 1000000000 * s.fld TK_NUM_NUM / s.fld TK_DEN_DEN ∧
      u.flag TK_CTRL_PENDING = false ∧ u.pendBit 95 = true ∧ u.tb.ns = max s.tb.ns s.nextTick) ∧
  (∀ s : State, s.flag TK_CTRL_EN = true → s.domOn 15 = true → 0 < s.fld TK_DEN_DEN → s.tickIndex < 2 ^ 32 → s.inReset = true →
    Gives .tickFire s fun t =>
      t.tickIndex = s.tickIndex + 1 ∧ t.nextTick = (s.tickIndex + 2) * 1000000000 * s.fld TK_NUM_NUM / s.fld TK_DEN_DEN ∧
      t.pendBit 95 = true ∧ t.tb.ns = max s.tb.ns s.nextTick ∧ t.streams = s.streams ∧ t.codec = s.codec ∧ SameMemory s t ∧
      SameRegs [.TK_INDEX, .TK_NEXT_SEC, .TK_NEXT_NS, .TK_ACC, .TK_CTRL, .TB_EVT, .IC_PEND, .IC_MERGE_CNT] s t) ∧
  (∀ s : State, s.flag TK_CTRL_EN = false ∨ s.domOn 15 = false → Gives .tickFire s fun t => Unchanged s t)

/-- TICK_OUT and PPS_OUT pulses, and PPS capture: TICK_OUT goes to its active level at the next marked tick's instant, and back to its inactive level after its width, WIDTH_NS held between 100 ns and half a period. PPS_OUT goes high where device nanoseconds next pass 0 and low after WIDTH_US, held between 1 us and 500 ms. A PPS edge captures device seconds and nanoseconds and raises source 94, unless it comes less than 100 ms after the last capture, when nothing changes. -/
def Obligations.TickOutAndPpsPulse : Prop :=
  (∀ s : State, s.flag TK_CTRL_EN = true → s.flag TK_OUT_CFG_EN = true → s.tb.tickOutAt = none →
    Gives .tickOutActive s fun t =>
      t.pins.tickOut = !s.flag TK_OUT_CFG_POL ∧ t.tb.tickOutAt = some t.tb.run ∧ s.tb.ns ≤ t.tb.ns ∧ SameRegs [] s t ∧ SameMemory s t) ∧
  (∀ (at_ : Nat) (s : State), s.tb.tickOutAt = some at_ →
    Gives .tickOutInactive s fun t =>
      t.pins.tickOut = s.flag TK_OUT_CFG_POL ∧ t.tb.tickOutAt = none ∧
      t.tb.run = max s.tb.run (at_ + min (s.regN .TK_Q / 2) (max 100 (s.fld TK_OUT_CFG_WIDTH_NS))) ∧ SameRegs [] s t ∧ SameMemory s t) ∧
  (∀ s : State, s.flag TB_PPS_OUT_CFG_EN = true → s.tb.ppsOutAt = none →
    Gives .ppsOutPulse s fun t =>
      t.pins.ppsOut = true ∧ t.tb.ns % 1000000000 = 0 ∧ s.tb.ns ≤ t.tb.ns ∧ t.tb.ns < s.tb.ns + 1000000000 ∧
      t.tb.ppsOutAt = some t.tb.run ∧ SameRegs [] s t ∧ SameMemory s t) ∧
  (∀ (at_ : Nat) (s : State), s.tb.ppsOutAt = some at_ →
    Gives .ppsOutEnd s fun t =>
      t.pins.ppsOut = false ∧ t.tb.ppsOutAt = none ∧
      t.tb.run = max s.tb.run (at_ + max 1 (min 500000 (s.fld TB_PPS_OUT_CFG_WIDTH_US)) * 1000) ∧ SameRegs [] s t ∧ SameMemory s t) ∧
  (∀ s : State, s.tb.ppsAt.all (fun x => decide (x + 100000000 ≤ s.tb.run)) = true → s.tb.ns / 1000000000 < 2 ^ 48 →
    Gives .ppsCapture s fun t =>
      t.regN .TB_PPS_CAP_SEC = s.tb.ns / 1000000000 ∧ t.regN .TB_PPS_CAP_NS = s.tb.ns % 1000000000 ∧ t.pendBit 94 = true ∧
      t.tb.ppsAt = some s.tb.run ∧ t.tb.ns = s.tb.ns ∧
      SameRegs [.TB_PPS_CAP_SEC, .TB_PPS_CAP_NS, .TB_EVT, .IC_PEND, .IC_MERGE_CNT] s t ∧ SameMemory s t) ∧
  (∀ (at_ : Nat) (s : State), s.tb.ppsAt = some at_ → s.tb.run < at_ + 100000000 → Gives .ppsCapture s fun t => Unchanged s t)

/-- Doorbell writes of the owner of a queue move its ring, or put it in error: For a queue below 64, written by its owning function: a CMDQ_TAIL write while the queue is enabled and active, below the depth and making at most depth - 1 slots pending, stores the tail and changes nothing else; any other value sets DB_ERR, clears ACTIVE and leaves the tail. A CPLQ_HEAD write while the queue is enabled, below the depth and returning no unwritten entry, stores the head and keeps FULL and HELD true (and STALLED of the queues bound to it); any other value sets DB_ERR and leaves the head. A function that does not own the queue changes nothing. -/
def Obligations.DoorbellsMoveTheRings : Prop :=
  (∀ (f q : Nat) (v : Word) (s : State), q < 64 → s.fld CMDQ_OWNER_FUNC q = f → s.flag CMDQ_CFG_EN q = true → s.flag CMDQ_STS_ACTIVE q = true →
    v.toNat % 4096 < ringDepth (s.fld CMDQ_CFG_LOG2_DEPTH q) →
    s.slotsPending q + (v.toNat % 4096 + ringDepth (s.fld CMDQ_CFG_LOG2_DEPTH q) - s.fld CMDQ_TAIL_TAIL q) %
      ringDepth (s.fld CMDQ_CFG_LOG2_DEPTH q) ≤ ringDepth (s.fld CMDQ_CFG_LOG2_DEPTH q) - 1 →
    Gives (.cmdqTailWrite (.func f) q v) s fun t => t.fld CMDQ_TAIL_TAIL q = v.toNat % 4096 ∧ OnlyRegs [.CMDQ_TAIL] s t) ∧
  (∀ (f q : Nat) (v : Word) (s : State), q < 64 → s.fld CMDQ_OWNER_FUNC q = f → s.flag CMDQ_CFG_EN q = true → s.flag CMDQ_STS_ACTIVE q = true →
    ringDepth (s.fld CMDQ_CFG_LOG2_DEPTH q) ≤ v.toNat % 4096 ∨ ringDepth (s.fld CMDQ_CFG_LOG2_DEPTH q) - 1 <
      s.slotsPending q + (v.toNat % 4096 + ringDepth (s.fld CMDQ_CFG_LOG2_DEPTH q) - s.fld CMDQ_TAIL_TAIL q) %
        ringDepth (s.fld CMDQ_CFG_LOG2_DEPTH q) →
    Gives (.cmdqTailWrite (.func f) q v) s fun t =>
      t.flag CMDQ_STS_DB_ERR q = true ∧ t.flag CMDQ_STS_ACTIVE q = false ∧ OnlyRegs [.CMDQ_STS, .IC_PEND, .IC_MERGE_CNT] s t) ∧
  (∀ (f q : Nat) (v : Word) (s : State), s.fld CMDQ_OWNER_FUNC q ≠ f → Gives (.cmdqTailWrite (.func f) q v) s fun t => Unchanged s t) ∧
  (∀ (f q : Nat) (v : Word) (s : State), q < 64 → s.fld CPLQ_OWNER_FUNC q = f → s.flag CPLQ_CFG_EN q = true →
    v.toNat % 4096 < ringDepth (s.fld CPLQ_CFG_LOG2_DEPTH q) →
    (v.toNat % 4096 + ringDepth (s.fld CPLQ_CFG_LOG2_DEPTH q) - s.fld CPLQ_HEAD_HEAD q % ringDepth (s.fld CPLQ_CFG_LOG2_DEPTH q)) %
      ringDepth (s.fld CPLQ_CFG_LOG2_DEPTH q) ≤ s.unreturned q →
    Gives (.cplqHeadWrite (.func f) q v) s fun t =>
      t.fld CPLQ_HEAD_HEAD q = v.toNat % 4096 ∧ t.fld CPLQ_STS_HELD q = min 64 (s.heldFor q).length ∧
      (t.flag CPLQ_STS_FULL q = true ↔ ringDepth (s.fld CPLQ_CFG_LOG2_DEPTH q) - 1 ≤ t.unreturned q) ∧
      OnlyRegs [.CPLQ_HEAD, .CPLQ_STS, .CMDQ_STS] s t) ∧
  (∀ (f q : Nat) (v : Word) (s : State), q < 64 → s.fld CPLQ_OWNER_FUNC q = f → s.flag CPLQ_CFG_EN q = true →
    ringDepth (s.fld CPLQ_CFG_LOG2_DEPTH q) ≤ v.toNat % 4096 ∨ s.unreturned q < (v.toNat % 4096 + ringDepth (s.fld CPLQ_CFG_LOG2_DEPTH q) -
      s.fld CPLQ_HEAD_HEAD q % ringDepth (s.fld CPLQ_CFG_LOG2_DEPTH q)) % ringDepth (s.fld CPLQ_CFG_LOG2_DEPTH q) →
    Gives (.cplqHeadWrite (.func f) q v) s fun t => t.flag CPLQ_STS_DB_ERR q = true ∧ OnlyRegs [.CPLQ_STS] s t) ∧
  (∀ (f q : Nat) (v : Word) (s : State), s.fld CPLQ_OWNER_FUNC q ≠ f → Gives (.cplqHeadWrite (.func f) q v) s fun t => Unchanged s t)

/-- Enabling, disabling and assigning queues: For a queue below 64: PF0's authority assigns CPLQ_OWNER while EN is 0, and a new owner finds PRIO 8, KIND 0, its own FUNC and VECTOR n (PF0) or n mod 8 (a VF) in the queue's source. The owner enables a completion queue when it names a function. The owner enables a submission queue whose completion queue is enabled and of the same function, which stores the other fields too and sets ACTIVE; otherwise EN stays 0 and CFG_ERR sets. Clearing CMDQ_CFG.EN resets HEAD, TAIL, ACTIVE and STALLED and leaves no fetched or held command of the queue; where none of its commands waits with its result for an earlier one (R78), exactly those are discarded, and memory and the held replies stay. Clearing CPLQ_CFG.EN with no enabled queue bound and nothing held resets HEAD, TAIL and PHASE. -/
def Obligations.QueuesAreEnabledAndOwned : Prop :=
  (∀ (a : Agent) (q : Nat) (v : Word) (s : State), s.actsAsPf0 a = true → q < 64 → s.flag CPLQ_CFG_EN q = false →
    v.toNat % 64 ≠ s.fld CPLQ_OWNER_FUNC q → v.toNat % 64 ≤ 32 →
    Gives (.cplqOwnerWrite a q v) s fun t =>
      t.fld CPLQ_OWNER_FUNC q = v.toNat % 64 ∧ t.fld IC_SRC_CFG_PRIO q = 8 ∧ t.fld IC_SRC_CFG_KIND q = 0 ∧
      t.fld IC_SRC_CFG_FUNC q = v.toNat % 64 ∧ t.fld IC_SRC_CFG_VECTOR q = (if v.toNat % 64 = 0 then q else q % 8) ∧
      OnlyRegs [.CPLQ_OWNER, .IC_SRC_CFG] s t) ∧
  (∀ (f q : Nat) (v : Word) (s : State), q < 64 → f ≤ 32 → s.fld CPLQ_OWNER_FUNC q = f → s.flag CPLQ_CFG_EN q = false → v.toNat / 2 ^ 31 = 1 →
    Gives (.cplqCfgWrite (.func f) q v) s fun t =>
      t.flag CPLQ_CFG_EN q = true ∧ t.fld CPLQ_CFG_LOG2_DEPTH q = v.toNat % 16 ∧ OnlyRegs [.CPLQ_CFG] s t) ∧
  (∀ (f q : Nat) (v : Word) (s : State), q < 64 → f ≤ 32 → s.fld CMDQ_OWNER_FUNC q = f → s.flag CMDQ_CFG_EN q = false → v.toNat / 2 ^ 31 = 1 →
    s.flag CPLQ_CFG_EN (v.toNat / 16 % 64) = true → s.fld CPLQ_OWNER_FUNC (v.toNat / 16 % 64) = f →
    Gives (.cmdqCfgWrite (.func f) q v) s fun t =>
      t.flag CMDQ_CFG_EN q = true ∧ t.flag CMDQ_STS_ACTIVE q = true ∧ t.fld CMDQ_CFG_LOG2_DEPTH q = v.toNat % 16 ∧
      t.fld CMDQ_CFG_CPLQ q = v.toNat / 16 % 64 ∧ t.fld CMDQ_CFG_WEIGHT q = v.toNat / 4096 % 16 ∧ OnlyRegs [.CMDQ_CFG, .CMDQ_STS] s t) ∧
  (∀ (f q : Nat) (v : Word) (s : State), q < 64 → s.fld CMDQ_OWNER_FUNC q = f → s.flag CMDQ_CFG_EN q = false → v.toNat / 2 ^ 31 = 1 →
    s.flag CPLQ_CFG_EN (v.toNat / 16 % 64) = false ∨ s.fld CPLQ_OWNER_FUNC (v.toNat / 16 % 64) ≠ f ∨ 32 < f →
    Gives (.cmdqCfgWrite (.func f) q v) s fun t =>
      t.flag CMDQ_CFG_EN q = false ∧ t.flag CMDQ_STS_CFG_ERR q = true ∧ OnlyRegs [.CMDQ_CFG, .CMDQ_STS] s t) ∧
  (∀ (f q : Nat) (v : Word) (s : State), q < 64 → s.fld CMDQ_OWNER_FUNC q = f → s.flag CMDQ_CFG_EN q = true → v.toNat < 2 ^ 31 →
    Gives (.cmdqCfgWrite (.func f) q v) s fun t =>
      t.flag CMDQ_CFG_EN q = false ∧ t.flag CMDQ_STS_ACTIVE q = false ∧ t.fld CMDQ_HEAD_HEAD q = 0 ∧ t.fld CMDQ_TAIL_TAIL q = 0 ∧
      t.flag CMDQ_STS_STALLED q = false ∧ (∀ o ∈ t.cmd.outstanding, o.cmd.queue = q → o.stage ≠ .fetched ∧ o.stage ≠ .held) ∧
      SameRegs (.CMDQ_CFG :: .CMDQ_HEAD :: .CMDQ_TAIL :: replyOnly) s t ∧
      ((∀ o ∈ s.cmd.outstanding, o.cmd.queue = q → o.result = none) →
        t.cmd.outstanding = s.cmd.outstanding.filter (fun o => !(o.cmd.queue == q && (o.stage == .fetched || o.stage == .held))) ∧
        t.cmd.heldReplies = s.cmd.heldReplies ∧ SameMemory s t ∧
        SameRegs [.CMDQ_CFG, .CMDQ_STS, .CMDQ_HEAD, .CMDQ_TAIL, .CMDQ_HELD] s t)) ∧
  (∀ (f q : Nat) (v : Word) (s : State), q < 64 → s.fld CPLQ_OWNER_FUNC q = f → s.flag CPLQ_CFG_EN q = true → v.toNat < 2 ^ 31 →
    (List.range 64).all (fun k => !(s.flag CMDQ_CFG_EN k && s.fld CMDQ_CFG_CPLQ k == q)) = true → s.heldFor q = [] →
    Gives (.cplqCfgWrite (.func f) q v) s fun t =>
      t.flag CPLQ_CFG_EN q = false ∧ t.fld CPLQ_HEAD_HEAD q = 0 ∧ t.fld CPLQ_TAIL_TAIL q = 0 ∧ t.fld CPLQ_TAIL_PHASE q = 1 ∧
      t.flag CPLQ_STS_FULL q = false ∧ SameMemory s t ∧ SameRegs [.CPLQ_CFG, .CPLQ_STS, .CPLQ_HEAD, .CPLQ_TAIL] s t)

/-- A fetch takes one whole command, and a failed read stops the queue: While the lead command processor fetches and a queue's turn comes: for a queue in host memory with the link up, the command that the slots spell is listed as outstanding, unless it already is, HEAD moves past its slots modulo the depth, and the queue has taken one more command of its turn. When its slots cannot be read, FETCH_ERR sets, ACTIVE clears and HEAD stays. With no queue to fetch from nothing changes. -/
def Obligations.FetchTakesTheNextCommand : Prop :=
  (∀ (q : Nat) (ws : List Nat) (s : State), s.fetches = true → s.pickQueue = some q → q < 64 → s.flag CMDQ_BASE_LOC q = false → s.cxl.linkUp = true →
    natField (word ws 0) 16 4 + 1 ≤ s.slotsPending q → (headerError (parseCmd q ws none) (s.enlist (parseCmd q ws none))).isNone = true →
    s.entryOf (parseCmd q ws none) = none →
    Gives (.commandFetch (some ws)) s fun t =>
      t.fld CMDQ_HEAD_HEAD q = (s.fld CMDQ_HEAD_HEAD q + (natField (word ws 0) 16 4 + 1)) % ringDepth (s.fld CMDQ_CFG_LOG2_DEPTH q) ∧
      t.cmd.outstanding.map (·.cmd) = s.cmd.outstanding.map (·.cmd) ++ [parseCmd q ws none] ∧ t.cmd.turn = q ∧
      t.cmd.taken = (if q = s.cmd.turn then s.cmd.taken + 1 else 1) ∧ SameMemory s t ∧ t.streams = s.streams ∧
      SameRegs [.CMDQ_HEAD, .CMDQ_STS, .CMDQ_HELD] s t) ∧
  (∀ (q : Nat) (s : State), s.fetches = true → s.pickQueue = some q → q < 64 → s.flag CMDQ_BASE_LOC q = false → s.cxl.linkUp = true →
    Gives (.commandFetch none) s fun t =>
      t.flag CMDQ_STS_FETCH_ERR q = true ∧ t.flag CMDQ_STS_ACTIVE q = false ∧ t.fld CMDQ_HEAD_HEAD q = s.fld CMDQ_HEAD_HEAD q ∧
      t.cmd = s.cmd ∧ SameMemory s t ∧
      SameRegs [.CMDQ_STS, .FC_STATUS, .FC_CNT, .FC_LAST, .FC_FIRST, .IC_PEND, .IC_MERGE_CNT] s t) ∧
  (∀ (w : Option (List Nat)) (s : State), s.fetches = false ∨ s.pickQueue = none → Gives (.commandFetch w) s fun t => Unchanged s t)

/-- A completed NOP is answered in its completion queue, and a held reply is written when there is room: A NOP that is ready, bound to an enabled completion queue in device memory that has room and holds nothing back, and not QUIET, leaves at CPLQ_TAIL the 32 bytes of R72 with status OK, its tag and the phase; the tail moves on modulo the depth, the phase inverts on a wrap, and source n of the queue is pending. The oldest held reply is written in the same way once there is room, and leaves the holding list. A held reply whose write fails stays held and sets WRITE_ERR. -/
def Obligations.RepliesReachTheRing : Prop :=
  (∀ (c : Cmd) (n : Nat) (s : State), Ready c s = true → s.fld CMDQ_CFG_CPLQ c.queue = n → ReplyGoesOut c s = true → s.flag CPLQ_BASE_LOC n = true →
    c.readback = false → c.atTick = false → s.entryOf c = none →
    Gives (.nop c) s fun t =>
      t.load .device (s.replyAddr n) 32 = replyBytes
        { queue := c.queue, cplq := n, tag := c.tag, opcode := c.opcode, status := 0, detail := 0, cplTick := s.cplTick, cplOfs := s.cplOfs, word := 0 }
        (s.fld CPLQ_TAIL_PHASE n) (s.fld CMDQ_HEAD_HEAD c.queue) ∧
      t.fld CPLQ_TAIL_TAIL n = (s.fld CPLQ_TAIL_TAIL n + 1) % ringDepth (s.fld CPLQ_CFG_LOG2_DEPTH n) ∧
      (s.fld CPLQ_TAIL_TAIL n + 1 = ringDepth (s.fld CPLQ_CFG_LOG2_DEPTH n) → t.fld CPLQ_TAIL_PHASE n = 1 - s.fld CPLQ_TAIL_PHASE n) ∧
      t.pendBit n = true ∧ t.cmd.outstanding = s.cmd.outstanding ∧ OnlyBytes .device (s.replyAddr n) 32 s t ∧
      SameRegs [.CMDQ_STS, .CMDQ_HELD, .CPLQ_STS, .CPLQ_TAIL, .IC_PEND, .IC_MERGE_CNT] s t) ∧
  (∀ (q : Nat) (r : Reply) (rest : List Reply) (s : State), s.heldFor q = r :: rest → q < 64 → s.cplqRoom q = true → s.flag CPLQ_CFG_EN q = true →
    Gives (.heldReplyWrite q true) s fun t =>
      t.load (spaceOf (s.fld CPLQ_BASE_LOC q)) (s.replyAddr q) 32 = replyBytes r (s.fld CPLQ_TAIL_PHASE q) (s.fld CMDQ_HEAD_HEAD r.queue) ∧
      t.cmd.heldReplies = s.cmd.heldReplies.erase r ∧
      t.fld CPLQ_TAIL_TAIL q = (s.fld CPLQ_TAIL_TAIL q + 1) % ringDepth (s.fld CPLQ_CFG_LOG2_DEPTH q) ∧ t.pendBit q = true ∧
      SameRegs [.CMDQ_STS, .CMDQ_HELD, .CPLQ_STS, .CPLQ_TAIL, .IC_PEND, .IC_MERGE_CNT] s t) ∧
  (∀ (q : Nat) (s : State), s.heldFor q ≠ [] → q < 64 → s.cplqRoom q = true → s.flag CPLQ_CFG_EN q = true →
    Gives (.heldReplyWrite q false) s fun t =>
      t.flag CPLQ_STS_WRITE_ERR q = true ∧ t.cmd = s.cmd ∧ SameMemory s t ∧
      SameRegs [.CPLQ_STS, .FC_STATUS, .FC_CNT, .FC_LAST, .FC_FIRST, .IC_PEND, .IC_MERGE_CNT] s t)

/-- Beacons: acceptance, counting of losses, and the loss event: A device that is tick lead, and one that is not in a ring, ignores a beacon. A member that receives one of its epoch and of its own grid has BEACON_OK set and no tick without a beacon counted; with SRC other than 3 no time base register but TB_STATUS changes. A beacon of another grid raises RING_EVT.STALE and leaves the time base alone. After three ticks without a beacon a member that is not tick lead and has BEACON_OK set clears it, sets HOLDOVER and raises source 101; otherwise nothing changes. -/
def Obligations.BeaconsKeepMembersInTime : Prop :=
  (∀ (m : RingHdr) (b : BeaconMsg) (s : State), s.isTickLead = true ∨ s.joined = false → Gives (.beacon m b) s fun t => Unchanged s t) ∧
  (∀ (m : RingHdr) (b : BeaconMsg) (s : State), s.joined = true → s.isTickLead = false → m.epoch = s.epochAt m.tick →
    b.num = s.fld TK_NUM_NUM → b.den = s.fld TK_DEN_DEN → s.fld TB_CTRL_SRC ≠ 3 →
    Gives (.beacon m b) s fun t =>
      t.flag TB_STATUS_BEACON_OK = true ∧ t.tb.beaconGap = 0 ∧ t.tb.ns = s.tb.ns ∧ t.reg .TB_SERVO_OFS = s.reg .TB_SERVO_OFS ∧
      t.flag TB_STATUS_LOCKED = s.flag TB_STATUS_LOCKED ∧ t.streams = s.streams ∧ SameMemory s t) ∧
  (∀ (m : RingHdr) (b : BeaconMsg) (s : State), s.joined = true → s.isTickLead = false → m.epoch = s.epochAt m.tick →
    b.num ≠ s.fld TK_NUM_NUM ∨ b.den ≠ s.fld TK_DEN_DEN →
    Gives (.beacon m b) s fun t => t.flag RING_EVT_STALE = true ∧ t.tb = s.tb ∧ t.reg .TB_STATUS = s.reg .TB_STATUS) ∧
  (∀ s : State, s.joined = true → s.isTickLead = false → 3 ≤ s.tb.beaconGap → s.flag TB_STATUS_BEACON_OK = true →
    Gives .beaconLoss s fun t =>
      t.flag TB_STATUS_BEACON_OK = false ∧ t.flag TB_STATUS_HOLDOVER = true ∧ t.pendBit 101 = true ∧
      OnlyRegs [.TB_STATUS, .TB_EVT, .IC_PEND, .IC_MERGE_CNT] s t) ∧
  (∀ s : State, s.joined = false ∨ s.isTickLead = true ∨ s.tb.beaconGap < 3 → Gives .beaconLoss s fun t => Unchanged s t)

/-- The lead comparison while no grid runs: While no grid runs, LEAD_COMPARE_NO_GRID carries device time to the next whole millisecond and compares both command processors with the lead in force. One that runs, is not halted or fenced and disagrees, outside Nap and Deep sleep, is fenced and FS13 is recorded; one that agrees is not. While a grid runs nothing changes. -/
def Obligations.LeadIsComparedWithoutGrid : Prop :=
  (∀ s : State, s.flag TK_CTRL_EN = false →
    Gives .leadCompareNoGrid s fun t =>
      t.tb.ns % 1000000 = 0 ∧ s.tb.ns < t.tb.ns ∧ t.tb.ns ≤ s.tb.ns + 1000000 ∧ t.ctl.oldLead = none) ∧
  (∀ (h : Nat) (s : State), s.flag TK_CTRL_EN = false → h < 2 → s.fld PM_STATE_STATE < 2 → s.flag CPX_STS_RUNNING h = true →
    s.flag CPX_STS_HALTED h = false → s.flag CPX_STS_FENCED h = false →
    s.fld CPX_BELIEF_OWNER h ≠ s.fld AON_LEAD_OWNER → s.ctl.oldLead = none →
    Gives .leadCompareNoGrid s fun t => t.flag CPX_STS_FENCED h = true ∧ (t.regN .FC_STATUS).testBit 13 = true) ∧
  (∀ (h : Nat) (s : State), s.flag TK_CTRL_EN = false → h < 2 → s.flag CPX_STS_FENCED h = false →
    s.fld CPX_BELIEF_OWNER h = s.fld AON_LEAD_OWNER → s.fld CPX_BELIEF_EPOCH h = s.fld AON_LEAD_EPOCH →
    Gives .leadCompareNoGrid s fun t => t.flag CPX_STS_FENCED h = false) ∧
  (∀ s : State, s.flag TK_CTRL_EN = true → Gives .leadCompareNoGrid s fun t => Unchanged s t)

/-- LAUNCH_SET stages L and D for a tick and launches nothing: For a stream the command's function owns, configured or running, LAUNCH_SET stages P0 and P1 as L and D for the next tick, or for the tick named with AT_TICK where it is already reached late, when D is above L, at most a tick period and at least L plus the floor time, and the window clashes with no other stream's on its pipes. L and D in force, every other stream and every register but those of the reply stay. A window that clashes is refused with detail 0x10, one outside the limits with the parameter word at fault. -/
def Obligations.LaunchSetStagesTheWindow : Prop :=
  (∀ (c : Cmd) (s : State), Ready c s = true → c.atTick = false → s.streamError c none = none → s.clashes c.handle (c.p 0, c.p 1) = false →
    c.p 0 < c.p 1 → c.p 1 ≤ s.regN .TK_Q → (s.stream c.handle).floorTime ≤ c.p 1 - c.p 0 →
    Gives (.launchSet c) s fun t =>
      (t.stream c.handle).ldNext = (s.stream c.handle).ldNext.filter (fun e => e.2.2 != s.tickIndex + 1) ++ [(c.p 0, c.p 1, s.tickIndex + 1)] ∧
      (t.stream c.handle).l = (s.stream c.handle).l ∧ (t.stream c.handle).d = (s.stream c.handle).d ∧
      RepliedOnly ((s.onStream c.handle fun y => { y with
        ldNext := y.ldNext.filter (fun e => e.2.2 != s.tickIndex + 1) ++ [(c.p 0, c.p 1, s.tickIndex + 1)] }).touch 4 c.handle) t) ∧
  (∀ (c : Cmd) (s : State), Ready c s = true → c.atTick = false → s.streamError c none = none → s.clashes c.handle (c.p 0, c.p 1) = true →
    Gives (.launchSet c) s fun t => t = settle ((begun c s).answer c 0x11 0x10 0)) ∧
  (∀ (c : Cmd) (s : State), Ready c s = true → c.atTick = false → s.streamError c none = none → s.clashes c.handle (c.p 0, c.p 1) = false →
    c.p 1 ≤ c.p 0 → Gives (.launchSet c) s fun t => t = settle ((begun c s).answer c 0x11 0x800000 0))

/-- A stream's launch instant: the picture bound to the tick launches, waits, or is a gap: PICTURE_LAUNCH of a stream with a launch due carries device time to T(n) + L. A configured stream with its pipes and no picture bound, never launched, launches nothing. When an encode picture is bound to tick n, its pipes are those it wants, no picture of the stream is in flight and none of the pipes is busy, it launches. When a pipe is busy it waits and no picture launches. An encode stream that has launched before, codes no repeats, and has no picture bound notes a gap. Without a launch due nothing changes. -/
def Obligations.LaunchesComeAtTheirInstant : Prop :=
  (∀ (h : Nat) (s : State), s.launchDue (s.stream h) = true → 999999 < (s.stream h).l →
    Gives (.pictureLaunch h) s fun t => t.tb.ns = max s.tb.ns (s.tickTime s.tickIndex + (s.stream h).l)) ∧
  (∀ (h : Nat) (s : State), s.launchDue (s.stream h) = true → 999999 < (s.stream h).l → (s.stream h).lockWait = false →
    s.fld PM_STATE_STATE < 2 → (s.stream h).st = .configured → (s.stream h).wordsNext = none → (s.stream h).launched = false →
    s.pipesNow h ≠ [] → (s.pipesNow h).length = (s.stream h).pipesWanted → s.codec.enc = [] → s.codec.dec = [] →
    Gives (.pictureLaunch h) s fun t =>
      t.codec = s.codec ∧ t.stream h = { s.stream h with handled := s.tickIndex + 1 } ∧ SameRegs [] s t ∧ SameMemory s t) ∧
  (∀ (h : Nat) (q : EncPic) (s : State), s.launchDue (s.stream h) = true → 999999 < (s.stream h).l → (s.stream h).lockWait = false →
    s.fld PM_STATE_STATE < 2 → (s.stream h).st = .running → (s.stream h).dec = false → (s.stream h).wordsNext = none →
    s.pipesNow h ≠ [] → (s.pipesNow h).length = (s.stream h).pipesWanted → s.codec.enc = [q] → s.codec.dec = [] → q.stream = h →
    q.launched = false → q.tick = s.tickIndex → q.cmd ≠ none →
    Gives (.pictureLaunch h) s fun t =>
      (t.codec.enc.any fun p => p.stream == h && p.tick == s.tickIndex && p.launched && p.cmd == q.cmd) = true ∧
      (t.stream h).launched = true ∧ (t.stream h).handled = s.tickIndex + 1) ∧
  (∀ (h : Nat) (q r : EncPic) (s : State), s.launchDue (s.stream h) = true → 999999 < (s.stream h).l → (s.stream h).lockWait = false →
    s.fld PM_STATE_STATE < 2 → (s.stream h).st = .running → (s.stream h).dec = false → (s.stream h).wordsNext = none →
    s.pipesNow h ≠ [] → (s.pipesNow h).length = (s.stream h).pipesWanted → s.codec.enc = [r, q] → s.codec.dec = [] → q.stream = h →
    q.launched = false → q.tick = s.tickIndex → r.stream ≠ h → r.launched = true → (s.pipesNow h).any s.pipeBusy = true →
    Gives (.pictureLaunch h) s fun t =>
      t.codec.enc = [r, { q with delayed := some t.tb.run }] ∧ t.codec.dec = [] ∧ SameRegs [] s t ∧ SameMemory s t) ∧
  (∀ (h : Nat) (s : State), s.launchDue (s.stream h) = true → 999999 < (s.stream h).l → (s.stream h).lockWait = false →
    s.fld PM_STATE_STATE < 2 → (s.stream h).st = .running → (s.stream h).dec = false → (s.stream h).wordsNext = none →
    s.pipesNow h ≠ [] → (s.pipesNow h).length = (s.stream h).pipesWanted → s.codec.enc = [] → s.codec.dec = [] →
    (s.stream h).launched = true → (s.stream h).repeats = false →
    Gives (.pictureLaunch h) s fun t => (t.stream h).rate.gap = true ∧ t.codec.enc = []) ∧
  (∀ (h : Nat) (s : State), s.launchDue (s.stream h) = false → Gives (.pictureLaunch h) s fun t => Unchanged s t)

/-- Delayed launches and the deadline timer: A picture waiting for a busy pipe launches once no picture of its stream is in flight and none of the pipes is busy, and SLT_DELAY_CNT counts it; while one is, and for a stream with no waiting picture, nothing changes. When the deadline timer of a launched encode picture runs out, FS10 is recorded, cause bit 1 is set and every unit of its pipes that have not stopped counts as handed off. When that of a decode picture whose output is already given up runs out, FS10 alone is recorded. A stream with no launched picture is unaffected. -/
def Obligations.DelaysAndDeadlinesAreKept : Prop :=
  (∀ (h : Nat) (q : EncPic) (at_ : Nat) (s : State), s.codec.enc = [q] → s.codec.dec = [] → q.stream = h → q.launched = false → q.delayed = some at_ →
    q.cmd ≠ none → (s.stream h).wordsNext = none → (s.stream h).dec = false → 999999 < (s.stream h).l →
    Gives (.delayedLaunch h) s fun t =>
      (t.codec.enc.any fun p => p.stream == h && p.tick == q.tick && p.launched && p.cmd == q.cmd) = true ∧ (t.stream h).launched = true ∧
      t.regN .SLT_DELAY_CNT = min 0xFFFFFFFF (s.regN .SLT_DELAY_CNT + 1)) ∧
  (∀ (h : Nat) (s : State), s.inFlight h = true ∨ (s.pipesNow h).any s.pipeBusy = true → Gives (.delayedLaunch h) s fun t => Unchanged s t) ∧
  (∀ (h : Nat) (s : State), (∀ p ∈ s.codec.enc, p.stream ≠ h) → (∀ p ∈ s.codec.dec, p.stream ≠ h) →
    Gives (.delayedLaunch h) s fun t => Unchanged s t) ∧
  (∀ (h : Nat) (q : EncPic) (s : State), s.decOf h = none → s.encOf h = some q →
    Gives (.deadlineBackstop h) s fun t =>
      (t.regN .FC_STATUS).testBit 10 = true ∧ t.tb.run = max s.tb.run q.dueRun ∧
      (t.encOf h).any (fun p => p.cause.testBit 1 && p.pipes.all fun w => w.stopped || decide (w.handed = w.units)) = true ∧
      SameRegs faultOnly s t ∧ SameMemory s t) ∧
  (∀ (h : Nat) (q : DecPic) (s : State), s.decOf h = some q → q.noOutput = true →
    Gives (.deadlineBackstop h) s fun t =>
      (t.regN .FC_STATUS).testBit 10 = true ∧ t.tb.run = max s.tb.run q.dueRun ∧ t.codec = s.codec ∧ SameRegs faultOnly s t ∧ SameMemory s t) ∧
  (∀ (h : Nat) (s : State), s.encOf h = none → s.decOf h = none → Gives (.deadlineBackstop h) s fun t => Unchanged s t)

/-- DEVICE_INFO, STATE_READ and FAULT_CLEAR: DEVICE_INFO with a length of at least 256 writes the class 0x01 record to the destination in host memory and, QUIET, changes no other byte of memory; a shorter length is refused naming P2. STATE_READ of one handle that the function sees writes its whole record when it fits the length, and names an undefined class with detail 1 and a handle outside the class with detail 0xF005. FAULT_CLEAR clears in FC_STATUS exactly the bits of its mask whose level condition does not persist, and FC_FIRST when none stays set. -/
def Obligations.RecordsAreReadAndFaultsCleared : Prop :=
  (∀ (c : Cmd) (s : State), Ready c s = true → c.readback = false → c.atTick = false → c.quiet = true → 256 ≤ c.p 2 →
    Gives (.deviceInfo c) s fun t =>
      t.load .host (c.p64 0) ((begun c s).objectRecord 1 0 c.func).length = (begun c s).objectRecord 1 0 c.func ∧
      OnlyBytes .host (c.p64 0) ((begun c s).objectRecord 1 0 c.func).length s t ∧ RepliedOnly s t) ∧
  (∀ (c : Cmd) (s : State), Ready c s = true → c.p 2 < 256 →
    Gives (.deviceInfo c) s fun t => t = settle ((begun c s).answer c 0x11 0x800002 0)) ∧
  (∀ (c : Cmd) (s : State), Ready c s = true → c.readback = false → c.atTick = false → c.quiet = true → classHandles (c.p 0 % 256) ≠ 0 →
    c.handle < classHandles (c.p 0 % 256) → c.p 0 % 256 ≠ 15 → (begun c s).readHandles c (c.p 0 % 256) = [c.handle] →
    ((begun c s).objectRecord (c.p 0 % 256) c.handle c.func).length ≤ c.p 4 →
    Gives (.stateRead c) s fun t =>
      t.load .host (c.p64 2) ((begun c s).objectRecord (c.p 0 % 256) c.handle c.func).length =
        (begun c s).objectRecord (c.p 0 % 256) c.handle c.func ∧
      OnlyBytes .host (c.p64 2) ((begun c s).objectRecord (c.p 0 % 256) c.handle c.func).length s t ∧ RepliedOnly s t) ∧
  (∀ (c : Cmd) (s : State), Ready c s = true → classHandles (c.p 0 % 256) = 0 →
    Gives (.stateRead c) s fun t => t = settle ((begun c s).answer c 0x11 1 0)) ∧
  (∀ (c : Cmd) (s : State), Ready c s = true → classHandles (c.p 0 % 256) ≠ 0 → c.handle ≠ 0xFFFF → classHandles (c.p 0 % 256) ≤ c.handle →
    Gives (.stateRead c) s fun t => t = settle ((begun c s).answer c 0x11 0x00F005 0)) ∧
  (∀ (c : Cmd) (s : State), Ready c s = true → c.readback = false → s.levels = 0 →
    Gives (.faultClear c) s fun t =>
      t.reg .FC_STATUS = s.reg .FC_STATUS &&& ~~~(BitVec.ofNat 64 (c.p64 0)) ∧
      t.reg .FC_FIRST = (if s.reg .FC_STATUS &&& ~~~(BitVec.ofNat 64 (c.p64 0)) = 0 then 0 else s.reg .FC_FIRST) ∧
      SameRegs (.FC_STATUS :: .FC_FIRST :: replyOnly) s t ∧ t.streams = s.streams)

/-- STATE_WRITE: the order of its checks, and a slot table written: STATE_WRITE of an undefined class is refused with detail 1, without data with detail 6, and with a record whose length, class or handle differs from the object's with detail 5. For class 0x05, a record PF0 may write, of the object's generation, whose next-bank entries pass the checks of SLOT_LOAD loads them into the pipe's next bank: each entry reads back with its reserved bits 0, and the count is the record's. -/
def Obligations.StateWriteChecksItsRecord : Prop :=
  (∀ (c : Cmd) (s : State), Ready c s = true → classHandles (c.p 0 % 256) = 0 →
    Gives (.stateWrite c) s fun t => t = settle ((begun c s).answer c 0x11 1 0)) ∧
  (∀ (c : Cmd) (s : State), Ready c s = true → classHandles (c.p 0 % 256) ≠ 0 → c.data = none →
    Gives (.stateWrite c) s fun t => t = settle ((begun c s).answer c 0x11 6 0)) ∧
  (∀ (c : Cmd) (r : List Byte) (s : State), Ready c s = true → classHandles (c.p 0 % 256) ≠ 0 → c.data = some r →
    c.p 4 ≠ recN r 8 4 ∨ recN r 0 1 ≠ c.p 0 % 256 ∨ recN r 2 2 ≠ c.handle →
    Gives (.stateWrite c) s fun t => t = settle ((begun c s).answer c 0x11 5 0)) ∧
  (∀ (c : Cmd) (r : List Byte) (s : State), Ready c s = true → c.readback = false → c.data = some r → c.p 0 % 256 = 5 → c.handle < 24 →
    16 ≤ c.p 4 → c.p 4 = recN r 8 4 → recN r 0 1 = 5 → recN r 2 2 = c.handle → c.p 4 = ((begun c s).objectRecord 5 c.handle 0).length →
    (begun c s).writeAllowed 5 c.handle r = true → c.func = 0 → recN r 4 4 = s.gen 5 c.handle → (begun c s).pipePresent c.handle = true →
    (begun c s).halfFenced (pipeHalf c.handle) = false →
    firstBad ((begun c s).slotChecks c.handle (recN r 16 4 / 256 % 128) (recWords r 280 (min (recN r 16 4 / 256 % 128) 64))) = none →
    Gives (.stateWrite c) s fun t =>
      (∀ e : Nat, e < 64 → t.regN .SLT_NEXT (c.handle * 64 + e) = word (recWords r 280 (min (recN r 16 4 / 256 % 128) 64)) e &&& 0x81FF) ∧
      t.fld SLT_BANK_NEXT_COUNT c.handle = recN r 16 4 / 256 % 128 ∧ t.streams = s.streams ∧
      SameRegs (.SLT_NEXT :: .SLT_BANK :: replyOnly) s t)

/-- The life of a stream handle: STREAM_OPEN of a FREE handle opens it with the named codec and direction for its function, and waits for LOCKED where that reads 0; a handle in use is refused with NO_RESOURCE. STREAM_CONFIG of an opened stream that passes its checks and finds its reservation configures it with P2 and P3 as L and D. STREAM_CLOSE of a stream with no picture accepted or in flight frees the handle, whose registers read 0; with a picture in flight and DRAIN it is closing and is answered later. The bitstream ring left by a closed stream goes when nothing in it is unsent, or two ticks after the close, when the flow counts what it drops. -/
def Obligations.StreamsOpenConfigureAndClose : Prop :=
  (∀ (c : Cmd) (s : State), Ready c s = true → c.handle < 512 → (s.stream c.handle).st = .free → natField (c.p 0) 4 4 ≤ 2 →
    s.fuse GLB_FUSE_CFG_CL_EN ≠ 0 → s.chip.fuseErr = false →
    Gives (.streamOpen c) s fun t =>
      t.stream c.handle = { st := .opened, dec := natField (c.p 0) 0 1 == 1, codec := natField (c.p 0) 4 4, func := c.func,
                            lockWait := !s.flag TB_STATUS_LOCKED } ∧
      t.survivors = storeDrop s.survivors c.handle ∧ t.codec = s.codec ∧ SameRegs (.GLB_SURV :: replyOnly) s t) ∧
  (∀ (c : Cmd) (s : State), Ready c s = true → c.handle < 512 → (s.stream c.handle).st ≠ .free → natField (c.p 0) 4 4 ≤ 2 →
    s.fuse GLB_FUSE_CFG_CL_EN ≠ 0 → Gives (.streamOpen c) s fun t => t = settle ((begun c s).answer c 0x12 1 0)) ∧
  (∀ (c : Cmd) (res : Resv) (u s : State), Ready c s = true → c.handle < 512 → (s.stream c.handle).st = .opened → (s.stream c.handle).func = c.func →
    (s.stream c.handle).dec = true → c.opcode = 0x0301 → s.inFlight c.handle = false → (s.stream c.handle).res = {} → (s.stream c.handle).resNext = none →
    firstBad ((begun c s).decChecks c.handle (s.stream c.handle) (c.params.map (· % 2 ^ 32))) = none →
    (begun c s).reserve c.handle (s.stream c.handle) (c.params.map (· % 2 ^ 32)) none = .ok (res, u) →
    Gives (.streamConfig c) s fun t =>
      (t.stream c.handle).st = .configured ∧ (t.stream c.handle).l = c.p 2 % 2 ^ 32 ∧ (t.stream c.handle).d = c.p 3 % 2 ^ 32 ∧
      (t.stream c.handle).words = c.params.map (· % 2 ^ 32)) ∧
  (∀ (c : Cmd) (s : State), Ready c s = true → c.handle < 512 → s.streamError c none = none → s.accepted c.handle = 0 → s.inFlight c.handle = false →
    Gives (.streamClose c) s fun t =>
      t.stream c.handle = {} ∧ t.reg .FB_S_RING_WR c.handle = 0 ∧ t.reg .RC_S_FILL c.handle = 0 ∧ t.reg .DEC_S_STS c.handle = 0 ∧ t.tb = s.tb) ∧
  (∀ (c : Cmd) (s : State), Ready c s = true → c.handle < 512 → s.streamError c none = none → s.inFlight c.handle = true → natField (c.p 0) 0 1 = 1 →
    Gives (.streamClose c) s fun t =>
      t.stream c.handle = { s.stream c.handle with st := .closing, closing := some c } ∧ t.codec = s.codec ∧
      t.cmd.heldReplies = s.cmd.heldReplies ∧ SameRegs [.CMDQ_STS, .CMDQ_HELD] s t ∧ SameMemory s t) ∧
  (∀ (h : Nat) (r : RingLeft) (s : State), s.codec.rings.find? (fun r => r.stream == h) = some r → r.unsent = [] ∨ r.tick + 2 ≤ s.tickIndex →
    Gives (.bitstreamRingRelease h) s fun t => t.codec.rings = s.codec.rings.erase r ∧ t.streams = s.streams ∧ SameRegs [] s t ∧ SameMemory s t) ∧
  (∀ (h : Nat) (r : RingLeft) (s : State), s.codec.rings.find? (fun r => r.stream == h) = some r → r.unsent ≠ [] → s.tickIndex < r.tick + 2 →
    Gives (.bitstreamRingRelease h) s fun t => Unchanged s t)

/-- ENC_PICTURE and DEC_AU bind a picture to its tick, and answer later: ENC_PICTURE for a configured encode stream of the function, with an index above those bound before, parameters and a source descriptor that suit it, fewer than four pictures accepted, its pipes those of the next bank, and an index that can still be met, adds the picture to those of the stream and posts no reply. An index that cannot be met is answered LATE_SUBMIT with detail 1, a fifth picture NO_RESOURCE with detail 1. DEC_AU does the same for a decode stream with an access unit from ingest. -/
def Obligations.PicturesAreAcceptedForTheirTick : Prop :=
  (∀ (c : Cmd) (s : State), Ready c s = true → s.streamError c (some false) = none → s.indexOk c = true → encPictureOk (s.stream c.handle) c = true →
    (c.p 3).testBit 6 = false → s.sourceOk (s.stream c.handle) (c.p 2 % 8192) = true → s.accepted c.handle < 4 →
    (s.pipesAfter 0 c.handle).length = cfg (s.stream c.handle).newest 4 0 5 → c.p64 0 ≠ 0 → s.canMeet (s.stream c.handle) (c.p64 0) = true →
    Gives (.encPicture c) s fun t =>
      t.codec = { s.codec with enc := s.codec.enc ++ [{ stream := c.handle, tick := c.p64 0, cmd := some c, words := c.params }] } ∧
      t.cmd.heldReplies = s.cmd.heldReplies ∧ t.streams = s.streams ∧ SameRegs [.CMDQ_STS, .CMDQ_HELD] s t ∧ SameMemory s t) ∧
  (∀ (c : Cmd) (s : State), Ready c s = true → s.streamError c (some false) = none → s.indexOk c = true → encPictureOk (s.stream c.handle) c = true →
    (c.p 3).testBit 6 = false → s.sourceOk (s.stream c.handle) (c.p 2 % 8192) = true → s.accepted c.handle < 4 →
    (s.pipesAfter 0 c.handle).length = cfg (s.stream c.handle).newest 4 0 5 → c.p64 0 ≠ 0 → s.canMeet (s.stream c.handle) (c.p64 0) = false →
    Gives (.encPicture c) s fun t => t = settle ((begun c s).answer c 0x15 1 0)) ∧
  (∀ (c : Cmd) (s : State), Ready c s = true → s.streamError c (some false) = none → s.indexOk c = true → encPictureOk (s.stream c.handle) c = true →
    (c.p 3).testBit 6 = false → s.sourceOk (s.stream c.handle) (c.p 2 % 8192) = true → 4 ≤ s.accepted c.handle →
    Gives (.encPicture c) s fun t => t = settle ((begun c s).answer c 0x12 1 0)) ∧
  (∀ (c : Cmd) (s : State), Ready c s = true → s.streamError c (some true) = none → s.indexOk c = true → c.p 2 = 1 →
    (flowOf true (s.stream c.handle).newest).isSome = true → s.accepted c.handle < 4 →
    (s.pipesAfter 0 c.handle).length = cfg (s.stream c.handle).newest 4 0 4 → c.p64 0 ≠ 0 → s.canMeet (s.stream c.handle) (c.p64 0) = true →
    Gives (.decAu c) s fun t =>
      t.codec = { s.codec with dec := s.codec.dec ++ [{ stream := c.handle, tick := c.p64 0, cmd := some c, words := c.params }] } ∧
      t.cmd.heldReplies = s.cmd.heldReplies ∧ t.streams = s.streams ∧ SameRegs [.CMDQ_STS, .CMDQ_HELD] s t ∧ SameMemory s t) ∧
  (∀ (c : Cmd) (s : State), Ready c s = true → s.streamError c (some true) = none → s.indexOk c = true → c.p 2 = 1 →
    (flowOf true (s.stream c.handle).newest).isSome = true → 4 ≤ s.accepted c.handle →
    Gives (.decAu c) s fun t => t = settle ((begun c s).answer c 0x12 1 0))

/-- Key, rate, QP map, flush and reference-drop requests: For a configured encode stream of the function: ENC_KEY_REQUEST adds its index to the stream's key requests; ENC_RC_UPDATE with a legal selection stages its four words for the named index; ENC_QP_MAP of the size of the map takes a copy, each byte brought into range, pending from the named index, and one of length 0 the removal of the map. Besides the reply nothing else changes, and other streams do not. A map of another length is refused with detail 1. DEC_REF_DROP marks unusable the most recently decoded usable reference with the named order identifier and touches no other descriptor; with none it is refused with detail 1. DEC_FLUSH with a picture of the stream still bound waits, and is answered later; with none, the stream has no reference left and every held picture is due for output. -/
def Obligations.CodingRequestsAreStaged : Prop :=
  (∀ (c : Cmd) (s : State), Ready c s = true → s.streamError c (some false) = none →
    Gives (.encKeyRequest c) s fun t =>
      RepliedOnly ((s.onStream c.handle fun x => { x with keyReq := x.keyReq ++ [c.p64 0] }).touch 4 c.handle) t) ∧
  (∀ (c : Cmd) (s : State), Ready c s = true → s.streamError c (some false) = none → c.p 0 = 8 → c.slots = 1 → c.readback = false →
    Gives (.encRcUpdate c) s fun t =>
      RepliedOnly ((s.onStream c.handle fun x => { x with rate := { x.rate with staged := some (c.params.take 4, 0) } }).touch 4 c.handle) t) ∧
  (∀ (c : Cmd) (s : State), Ready c s = true → s.streamError c (some false) = none → c.p 0 % 32 = 0 → c.p 0 < 32 →
    Gives (.encRcUpdate c) s fun t => t = settle ((begun c s).answer c 0x11 3 0)) ∧
  (∀ (c : Cmd) (bs : List Byte) (s : State), Ready c s = true → s.streamError c (some false) = none → c.data = some bs →
    (s.stream c.handle).rate.mapNext = none → c.p 2 ≠ 0 →
    c.p 2 = mapBytes (s.stream c.handle).codec (cfg (s.stream c.handle).newest 0 0 16) (cfg (s.stream c.handle).newest 0 16 16) →
    Gives (.encQpMap c) s fun t =>
      RepliedOnly ((s.onStream c.handle fun x => { x with rate := { x.rate with
        mapNext := some (some ((bs.take (c.p 2)).map clampMap), c.p64 3) } }).touch 4 c.handle) t) ∧
  (∀ (c : Cmd) (s : State), Ready c s = true → s.streamError c (some false) = none → (s.stream c.handle).rate.mapNext = none → c.p 2 = 0 →
    Gives (.encQpMap c) s fun t =>
      RepliedOnly ((s.onStream c.handle fun x => { x with rate := { x.rate with mapNext := some (none, c.p64 3) } }).touch 4 c.handle) t) ∧
  (∀ (c : Cmd) (s : State), Ready c s = true → s.streamError c (some false) = none → c.p 2 ≠ 0 →
    c.p 2 ≠ mapBytes (s.stream c.handle).codec (cfg (s.stream c.handle).newest 0 0 16) (cfg (s.stream c.handle).newest 0 16 16) →
    Gives (.encQpMap c) s fun t => t = settle ((begun c s).answer c 0x11 1 0)) ∧
  (∀ (c : Cmd) (d : Nat) (s : State), Ready c s = true → s.streamError c (some true) = none → (s.stream c.handle).refs = [d] →
    s.regN .FB_DESC_ORDER d = c.p 0 → s.regN .FB_DESC_MARKS d = 8 →
    Gives (.decRefDrop c) s fun t =>
      t.regN .FB_DESC_MARKS d = 40 ∧ (∀ e, e ≠ d → t.reg .FB_DESC_MARKS e = s.reg .FB_DESC_MARKS e) ∧ t.streams = s.streams ∧
      SameRegs (.FB_DESC_MARKS :: replyOnly) s t) ∧
  (∀ (c : Cmd) (s : State), Ready c s = true → s.streamError c (some true) = none →
    (∀ d ∈ (s.stream c.handle).refs, s.regN .FB_DESC_ORDER d ≠ c.p 0) →
    Gives (.decRefDrop c) s fun t => t = settle ((begun c s).answer c 0x11 1 0)) ∧
  (∀ (c : Cmd) (q : DecPic) (s : State), Ready c s = true → s.streamError c (some true) = none → s.codec.dec = [q] → s.codec.enc = [] → q.stream = c.handle →
    Gives (.decFlush c) s fun t =>
      t.stream c.handle = { s.stream c.handle with flush := some (c, q.tick) } ∧ t.codec = s.codec ∧ SameRegs [.CMDQ_STS, .CMDQ_HELD] s t) ∧
  (∀ (c : Cmd) (s : State), Ready c s = true → s.streamError c (some true) = none → s.codec.dec = [] → s.codec.enc = [] → (s.stream c.handle).held = [] →
    Gives (.decFlush c) s fun t => (t.stream c.handle).flush = none ∧ (t.stream c.handle).refs = [] ∧ (t.stream c.handle).due = 0)

/-- STREAM_MIGRATE_OUT and STREAM_MIGRATE_IN: STREAM_MIGRATE_OUT of a stream that is no ring stream, to a member of the same ring with room for its copy, opens a source record for the peer that waits for the freeze, leaves the stream running, and is answered later. On a card that is in no ring and has RING_CFG.DOMAIN at 0 it is refused with detail 4. STREAM_MIGRATE_IN of a reachable peer whose number is the source's in the migration identifier takes the lowest FREE handle, puts it in MIGRATING for the function, opens a destination record and sends MIG_QUERY; with another number it is refused with detail 2. -/
def Obligations.MigrationsStartAndAreRefused : Prop :=
  (∀ (c : Cmd) (s : State), Ready c s = true → s.streamError c none = none → isRing (s.stream c.handle).newest = false → s.sameRing (c.p 0 % 1024) = true →
    (begun c s).copyBytes c.handle ≤ 20 * s.regN .TK_Q →
    Gives (.streamMigrateOut c) s fun t =>
      (t.mig c.handle).role = 1 ∧ (t.mig c.handle).peer = c.p 0 % 1024 ∧ (t.mig c.handle).cmd = some c ∧ (t.mig c.handle).asked = true ∧
      t.streams = s.streams ∧ t.codec = s.codec ∧ SameRegs [.CMDQ_STS, .CMDQ_HELD] s t) ∧
  (∀ (c : Cmd) (s : State), Ready c s = true → s.streamError c none = none → isRing (s.stream c.handle).newest = false → s.joined = false →
    s.fld RING_CFG_DOMAIN = 0 →
    Gives (.streamMigrateOut c) s fun t => t = settle ((begun c s).answer c 0x11 4 0)) ∧
  (∀ (c : Cmd) (h : Nat) (s : State), Ready c s = true → s.packageB = false → s.reachable (c.p 0 % 1024) = true → c.p 0 % 1024 = c.p 1 / 2 ^ 22 →
    s.openHandle 0xFFFF = some h →
    Gives (.streamMigrateIn c) s fun t =>
      t.stream h = { st := .migrating, func := c.func, lockWait := !s.flag TB_STATUS_LOCKED } ∧ (t.mig h).role = 2 ∧ (t.mig h).id = c.p 1 ∧
      (t.mig h).peer = c.p 0 % 1024 ∧ (t.mig h).cmd = some c ∧ (∀ k, k ≠ h → t.stream k = s.stream k)) ∧
  (∀ (c : Cmd) (s : State), Ready c s = true → s.packageB = false → s.reachable (c.p 0 % 1024) = true → c.p 0 % 1024 ≠ c.p 1 / 2 ^ 22 →
    Gives (.streamMigrateIn c) s fun t => t = settle ((begun c s).answer c 0x11 2 0))

/-- SLOT_LOAD writes a next bank, and SLOT_SWAP makes pipes pending: For a pipe that is present and whose half is not fenced, SLOT_LOAD of entries that pass the checks writes the pipe's next bank, reserved bits 0, with the count, and leaves the active bank; with an entry enabled for a stream that is not open it is refused with detail 1, for an absent pipe with detail 0xF006. SLOT_SWAP of present pipes whose resulting configuration is consistent sets the pending bits of its mask beside those set, exchanges nothing yet, and is answered with the swap; an inconsistent one is refused with detail 1. -/
def Obligations.SlotTablesLoadAndSwap : Prop :=
  (∀ (c : Cmd) (bs : List Byte) (s : State), Ready c s = true → s.pipePresent c.handle = true → (begun c s).halfFenced (pipeHalf c.handle) = false →
    c.data = some bs → firstBad ((begun c s).slotChecks c.handle (c.p 2) (wordsOf (min (c.p 2) 64) bs)) = none →
    Gives (.slotLoad c) s fun t =>
      (∀ e : Nat, e < 64 → t.regN .SLT_NEXT (c.handle * 64 + e) = word (wordsOf (min (c.p 2) 64) bs) e &&& 0x81FF) ∧
      t.fld SLT_BANK_NEXT_COUNT c.handle = c.p 2 ∧ t.fld SLT_BANK_ACT_COUNT c.handle = s.fld SLT_BANK_ACT_COUNT c.handle ∧
      t.streams = s.streams ∧ SameRegs (.SLT_NEXT :: .SLT_BANK :: replyOnly) s t) ∧
  (∀ (c : Cmd) (bs : List Byte) (s : State), Ready c s = true → s.pipePresent c.handle = true → (begun c s).halfFenced (pipeHalf c.handle) = false →
    c.data = some bs → s.streams = [] → (wordsOf (min (c.p 2) 64) bs).any (fun w => w.testBit 15) = true →
    Gives (.slotLoad c) s fun t => t = settle ((begun c s).answer c 0x11 1 0)) ∧
  (∀ (c : Cmd) (s : State), Ready c s = true → (begun c s).pipePresent c.handle = false →
    Gives (.slotLoad c) s fun t => t = settle ((begun c s).answer c 0x11 0x00F006 0)) ∧
  (∀ (c : Cmd) (s : State), Ready c s = true → (∀ p : Nat, p < 24 → (c.p 0).testBit p = true → (begun c s).halfFenced (pipeHalf p) = false ∧
    (begun c s).pipePresent p = true) → (begun c s).swapOk (c.p 0 % 2 ^ 24) = true → s.regN .SLT_STS < 2 ^ 24 →
    Gives (.slotSwap c) s fun t =>
      t.regN .SLT_STS = s.regN .SLT_STS ||| c.p 0 % 2 ^ 24 ∧ t.codec.swaps = s.codec.swaps ++ [c] ∧ t.cmd.heldReplies = s.cmd.heldReplies ∧
      t.streams = s.streams ∧ (∀ e, t.reg .SLT_ACT e = s.reg .SLT_ACT e) ∧ (∀ e, t.reg .SLT_NEXT e = s.reg .SLT_NEXT e)) ∧
  (∀ (c : Cmd) (s : State), Ready c s = true → (∀ p : Nat, p < 24 → (begun c s).halfFenced (pipeHalf p) = false) →
    (begun c s).swapOk (c.p 0 % 2 ^ 24) = false → Gives (.slotSwap c) s fun t => t = settle ((begun c s).answer c 0x11 1 0))

/-- GATE_LIST_LOAD, SHAPER_SET and POLICER_SET: GATE_LIST_LOAD of a legal free-running list on a present port with no switch pending makes it the admin copy and schedules its switch, no sooner than 2 us ahead and at BASE plus whole cycles; the oper copy stays. A list with a too short entry is refused with detail 1. SHAPER_SET and POLICER_SET of legal rates store rates and sizes, and buckets that become active start full; COMMITTED above PEAK is refused with detail 1. Only the registers named change besides the reply. -/
def Obligations.ListsAndBucketsAreConfigured : Prop :=
  (∀ (c : Cmd) (bs : List Byte) (s : State), Ready c s = true → (begun c s).portPresent c.handle = true → c.handle < 4 → (s.list c.handle).pending = none →
    c.data = some bs → 0 < c.p 2 → c.p 2 ≤ 256 → (wordsOf (c.p 2) bs).all (fun e => decide (64 ≤ entryNs e)) = true → 1000 ≤ c.p 3 →
    c.p 3 ≤ 4000000000 → c.p 6 % 2 ^ 30 < 1000000000 → c.p 2 < 65536 →
    Gives (.gateListLoad c) s fun t =>
      (t.list c.handle).admin = { lock := false, cycle := c.p 3, base := c.p64 4 % 2 ^ 48 * 1000000000 + c.p 6 % 2 ^ 30, entries := wordsOf (c.p 2) bs } ∧
      (t.list c.handle).oper = (s.list c.handle).oper ∧
      (t.list c.handle).pending.any (fun w => decide (s.tb.ns + 2000 ≤ w) &&
        decide ((w - (c.p64 4 % 2 ^ 48 * 1000000000 + c.p 6 % 2 ^ 30)) % c.p 3 = 0)) = true ∧ t.streams = s.streams ∧ t.flows = s.flows) ∧
  (∀ (c : Cmd) (bs : List Byte) (s : State), Ready c s = true → (begun c s).portPresent c.handle = true → c.data = some bs → 0 < c.p 2 → c.p 2 ≤ 256 →
    (wordsOf (c.p 2) bs).any (fun e => decide (entryNs e < 64)) = true →
    Gives (.gateListLoad c) s fun t => t = settle ((begun c s).answer c 0x11 1 0)) ∧
  (∀ (c : Cmd) (s : State), Ready c s = true → c.readback = false → c.p 0 ≤ 100000000 → c.p 1 ≤ 100000000 → c.p 0 ≤ c.p 1 → 64 ≤ c.p 2 → 64 ≤ c.p 3 →
    c.p 2 < 2 ^ 32 → c.p 3 < 2 ^ 32 → c.p 4 < 64 → s.regN .SH_CIR c.handle = 0 →
    Gives (.shaperSet c) s fun t =>
      t.regN .SH_CIR c.handle = c.p 0 ∧ t.regN .SH_PIR c.handle = c.p 1 ∧ t.regN .SH_CBS c.handle = c.p 2 ∧ t.regN .SH_PBS c.handle = c.p 3 ∧
      t.fld SH_CFG_OVERHEAD c.handle = (if c.p 4 = 0 then 20 else c.p 4) ∧ t.regN .SH_C_CREDIT c.handle = c.p 2 ∧ t.regN .SH_P_CREDIT c.handle = c.p 3 ∧
      t.traffic.lists = s.traffic.lists ∧ t.traffic.policers = s.traffic.policers ∧
      SameRegs (.SH_CIR :: .SH_PIR :: .SH_CBS :: .SH_PBS :: .SH_CFG :: .SH_C_CREDIT :: .SH_P_CREDIT :: replyOnly) s t) ∧
  (∀ (c : Cmd) (s : State), Ready c s = true → c.p 1 ≠ 0 → c.p 1 < c.p 0 →
    Gives (.shaperSet c) s fun t => t = settle ((begun c s).answer c 0x11 1 0)) ∧
  (∀ (c : Cmd) (s : State), Ready c s = true → c.readback = false → c.p 0 ≤ c.p 1 → c.p 1 ≤ 100000000 → 64 ≤ c.p 2 → 64 ≤ c.p 3 → c.p 2 < 2 ^ 32 →
    c.p 3 < 2 ^ 32 → c.p 4 < 16 → s.flag PL_CFG_EN c.handle = false →
    Gives (.policerSet c) s fun t =>
      t.regN .PL_CIR c.handle = c.p 0 ∧ t.regN .PL_PIR c.handle = c.p 1 ∧ t.regN .PL_CBS c.handle = c.p 2 ∧ t.regN .PL_PBS c.handle = c.p 3 ∧
      t.regN .PL_CFG c.handle % 16 = c.p 4 ∧ t.regN .PL_C_CREDIT c.handle = c.p 2 ∧ t.regN .PL_P_CREDIT c.handle = c.p 3 ∧
      SameRegs (.PL_CIR :: .PL_PIR :: .PL_CBS :: .PL_PBS :: .PL_CFG :: .PL_C_CREDIT :: .PL_P_CREDIT :: replyOnly) s t) ∧
  (∀ (c : Cmd) (s : State), Ready c s = true → c.p 1 < c.p 0 →
    Gives (.policerSet c) s fun t => t = settle ((begun c s).answer c 0x11 1 0))

/-- FLOW_OPEN, FLOW_CLOSE and INGEST_MAP: FLOW_OPEN without SRTP of a handle below 2,048, on a present port whose half is not fenced, whose words pass the checks, opens the flow for its function with those words and binds its shaper to its port; a failed check is named by its detail. FLOW_CLOSE of an open flow of the function that no stream names frees it and unbinds its shaper or policer; one a stream names is refused with detail 1. INGEST_MAP that passes its checks is held for the next picture. Other flows stay. -/
def Obligations.FlowsOpenMapAndClose : Prop :=
  (∀ (c : Cmd) (s : State), Ready c s = true → c.readback = false → isIngest c.handle = false → (word (c.params.take 26) 0).testBit 4 = false → word (c.params.take 26) 0 < 2 ^ 32 →
    (begun c s).halfFenced ((begun c s).portHalf (word (c.params.take 26) 0 % 4)) = false →
    firstBad ((begun c s).flowChecks c.handle ((c.params.take 26).map (· % 2 ^ 32))) = none →
    Gives (.flowOpen c) s fun t =>
      t.flow c.handle = { live := true, func := c.func, words := (c.params.take 26).map (· % 2 ^ 32) } ∧
      t.flag SH_CFG_BOUND c.handle = true ∧ t.fld SH_CFG_PORT c.handle = word (c.params.take 26) 0 % 4 ∧ t.streams = s.streams ∧
      (∀ g, g ≠ c.handle → t.flow g = s.flow g)) ∧
  (∀ (c : Cmd) (d : Nat) (s : State), Ready c s = true → isIngest c.handle = false → (word (c.params.take 26) 0).testBit 4 = false → word (c.params.take 26) 0 < 2 ^ 32 →
    (begun c s).halfFenced ((begun c s).portHalf (word (c.params.take 26) 0 % 4)) = false →
    firstBad ((begun c s).flowChecks c.handle ((c.params.take 26).map (· % 2 ^ 32))) = some d →
    Gives (.flowOpen c) s fun t => t = settle ((begun c s).answer c 0x11 d 0)) ∧
  (∀ (c : Cmd) (s : State), Ready c s = true → c.readback = false → isIngest c.handle = true → c.handle < 3072 → (s.flow c.handle).live = true →
    (s.flow c.handle).func = c.func → (begun c s).halfFenced ((begun c s).portHalf (flowPort (s.flow c.handle).words)) = false →
    s.boundStream c.handle = none → (s.flow c.handle).aus = [] → (s.flow c.handle).cur = none →
    Gives (.flowClose c) s fun t =>
      t.flow c.handle = {} ∧ t.fld ⟨.PL_CFG, 31, 1⟩ (c.handle - 2048) = 0 ∧ t.streams = s.streams ∧ (∀ g, g ≠ c.handle → t.flow g = s.flow g)) ∧
  (∀ (c : Cmd) (s : State), Ready c s = true → (s.flow c.handle).live = true → (s.flow c.handle).func = c.func →
    (begun c s).halfFenced ((begun c s).portHalf (flowPort (s.flow c.handle).words)) = false → s.boundStream c.handle ≠ none →
    Gives (.flowClose c) s fun t => t = settle ((begun c s).answer c 0x11 1 0)) ∧
  (∀ (c : Cmd) (s : State), Ready c s = true → (s.flow c.handle).live = true → (s.flow c.handle).func = c.func →
    (begun c s).halfFenced ((begun c s).portHalf (flowPort (s.flow c.handle).words)) = false →
    firstBad ((begun c s).mapChecks c.handle c.func ((c.params.take 7).map (· % 2 ^ 32))) = none →
    Gives (.ingestMap c) s fun t =>
      RepliedOnly ((s.setFlow c.handle { s.flow c.handle with mapNext := some ((c.params.take 7).map (· % 2 ^ 32)) }).touch 8 c.handle) t)

/-- RING_JOIN, its timeout, ROLE_SET and RING_LEAVE: RING_JOIN of a legal size and position, on a device in no ring whose fuses allow one, without a domain, notes the join with its instant, sets STATE to 1, changes no membership register yet and is answered later; a size out of range is refused with detail 1. A join that has no neighbour one second later fails: the status registers are at their reset value and no join is in progress. ROLE_SET in a ring, no switch pending, for a tick at least two ahead notes the switch with the next epoch, sets SWITCH_PENDING, and changes no role yet. RING_LEAVE is refused with detail 1 while a ring stream is open; with no ring it is OK; in a ring while a grid runs it sets STATE to 3 and waits for the tick. -/
def Obligations.RingMembershipIsCommanded : Prop :=
  (∀ (c : Cmd) (s : State), Ready c s = true → s.joined = false → s.ring.joining = none → 2 ≤ natField (c.p 0) 10 6 → natField (c.p 0) 10 6 ≤ 32 →
    natField (c.p 0) 5 5 < natField (c.p 0) 10 6 → c.p 0 < 2 ^ 17 → s.fuse GLB_FUSE_CFG_RING ≠ 0 → c.slots = 1 → c.readback = false →
    Gives (.ringJoin c) s fun t =>
      t.ring.joining.map (·.since) = some s.tb.run ∧ t.fld RING_STS_STATE = 1 ∧ t.reg .RING_CFG = s.reg .RING_CFG ∧
      t.cmd.heldReplies = s.cmd.heldReplies ∧ t.streams = s.streams) ∧
  (∀ (c : Cmd) (s : State), Ready c s = true → natField (c.p 0) 10 6 < 2 ∨ 32 < natField (c.p 0) 10 6 ∨ natField (c.p 0) 10 6 ≤ natField (c.p 0) 5 5 →
    Gives (.ringJoin c) s fun t => t = settle ((begun c s).answer c 0x11 1 0)) ∧
  (∀ s : State, s.ring.joining ≠ none → s.flag RING_STS_FL0_NB = false → s.flag RING_STS_FL1_NB = false →
    Gives .ringJoinTimeout s fun t =>
      t.ring.joining = none ∧ t.ring.tlead = none ∧ t.ring.hasTable = false ∧ t.reg .RING_STS = 0 ∧ t.reg .RING_CFG = s.reg .RING_CFG ∧
      t.streams = s.streams) ∧
  (∀ s : State, s.ring.joining = none → Gives .ringJoinTimeout s fun t => Unchanged s t) ∧
  (∀ (c : Cmd) (s : State), Ready c s = true → s.packageB = false → c.p 0 % 4 < 2 → s.ring.switch = none → s.tickIndex + 2 ≤ c.p64 1 → s.joined = true →
    natField (c.p 0) 8 5 < s.ringSize →
    Gives (.roleSet c) s fun t =>
      t.ring.switch = some { kind := c.p 0 % 4, rsid := natField (c.p 0) 2 6, pos := natField (c.p 0) 8 5, origin := s.ringPos,
                             epoch := s.regN .RING_EPOCH + 1, tick := c.p64 1 } ∧
      t.ring.tlead = s.ring.tlead ∧ t.ring.plead = s.ring.plead ∧ t.flag RING_STS_SWITCH_PENDING = true ∧ t.reg .RING_EPOCH = s.reg .RING_EPOCH ∧
      SameRegs [.RING_STS, .CMDQ_STS, .CMDQ_HELD] s t) ∧
  (∀ (c : Cmd) (s : State), Ready c s = true → s.packageB = false → s.streams.any (fun e => e.2.st != .free && isRing e.2.newest) = true →
    Gives (.ringLeave c) s fun t => t = settle ((begun c s).answer c 0x11 1 0)) ∧
  (∀ (c : Cmd) (s : State), Ready c s = true → s.packageB = false → s.streams.any (fun e => e.2.st != .free && isRing e.2.newest) = false →
    s.joined = false → Gives (.ringLeave c) s fun t => RepliedOnly s t) ∧
  (∀ (c : Cmd) (s : State), Ready c s = true → s.packageB = false → s.streams.any (fun e => e.2.st != .free && isRing e.2.newest) = false →
    s.joined = true → s.flag TK_CTRL_EN = true →
    Gives (.ringLeave c) s fun t =>
      t.ring = { s.ring with leaving := some c } ∧ t.fld RING_STS_STATE = 3 ∧ t.joined = true ∧ SameRegs [.RING_STS, .CMDQ_STS, .CMDQ_HELD] s t)

/-- VOTE_SET, SPARE_SWAP, MONITOR_CONFIG and REPAIR_LOG_READ: VOTE_SET without WAIT for a present domain of a half that is not fenced, while a grid runs, sets client 0's vote to bit 0 and leaves every other vote. MONITOR_CONFIG that passes its checks stages the four words of the monitor. SPARE_SWAP of a pipe whose spare is free, with no swap of it asked, notes the request and is answered later; a handle that has no spare is refused with detail 1. REPAIR_LOG_READ with room for it writes the header and entries to host memory and, QUIET, no other byte; with less than 16 bytes it is refused with detail 1. -/
def Obligations.VotesSparesAndMonitorsAreCommanded : Prop :=
  (∀ (c : Cmd) (s : State), Ready c s = true → s.domPresent c.handle = true → (domainHalf c.handle).all (fun h => !(begun c s).halfFenced h) = true →
    c.p 0 < 2 → s.flag TK_CTRL_EN = true → c.readback = false →
    Gives (.voteSet c) s fun t =>
      t.regN .AON_VOTE c.handle % 2 = c.p 0 ∧ t.regN .AON_VOTE c.handle / 2 = s.regN .AON_VOTE c.handle / 2 ∧
      (∀ d, d ≠ c.handle → t.reg .AON_VOTE d = s.reg .AON_VOTE d) ∧ t.streams = s.streams ∧ SameRegs (.AON_VOTE :: replyOnly) s t) ∧
  (∀ (c : Cmd) (s : State), Ready c s = true → s.domPresent c.handle = true → (domainHalf c.handle).all (fun h => !(begun c s).halfFenced h) = true →
    4 ≤ c.p 0 % 2 ^ 32 → Gives (.voteSet c) s fun t => t = settle ((begun c s).answer c 0x11 0x800000 0)) ∧
  (∀ (c : Cmd) (s : State), Ready c s = true → s.monCheck (c.p 0) = none → c.slots = 1 → c.readback = false →
    Gives (.monitorConfig c) s fun t => RepliedOnly ((begun c s).monStage c.handle [c.p 0, c.p 1, c.p 2, 0]) t) ∧
  (∀ (c : Cmd) (d : Nat) (s : State), Ready c s = true → (begun c s).monCheck (c.p 0) = some d →
    Gives (.monitorConfig c) s fun t => t = settle ((begun c s).answer c 0x11 d 0)) ∧
  (∀ (c : Cmd) (s : State), Ready c s = true → c.handle < 24 → s.swapUnit c.handle = true →
    (swapHalf c.handle).all (fun h => !(begun c s).halfFenced h) = true → natField (c.p 0) 0 1 = 0 → s.swapAsked c.handle = false →
    s.spareFree c.handle = true →
    Gives (.spareSwap c) s fun t =>
      t.swapAsked c.handle = true ∧ t.onSpare c.handle = s.onSpare c.handle ∧ t.cmd.heldReplies = s.cmd.heldReplies ∧ t.streams = s.streams) ∧
  (∀ (c : Cmd) (s : State), Ready c s = true → (begun c s).swapUnit c.handle = false →
    Gives (.spareSwap c) s fun t => t = settle ((begun c s).answer c 0x11 1 0)) ∧
  (∀ (c : Cmd) (s : State), Ready c s = true → c.readback = false → c.atTick = false → c.quiet = true → 16 + 8 * s.spare.log.length ≤ c.p 2 →
    Gives (.repairLogRead c) s fun t =>
      t.load .host (c.p64 0) (16 + 8 * s.spare.log.length) = leBytes 4 s.spare.log.length ++ leBytes 4 logSize ++
        leBytes 4 (s.fld SPR_LOG_USED_BAD) ++ zeros 4 ++ s.spare.log.flatMap (leBytes 8) ∧
      OnlyBytes .host (c.p64 0) (16 + 8 * s.spare.log.length) s t ∧ RepliedOnly s t) ∧
  (∀ (c : Cmd) (s : State), Ready c s = true → c.p 2 < 16 →
    Gives (.repairLogRead c) s fun t => t = settle ((begun c s).answer c 0x11 1 0))

/-- KEY_LOAD, ZEROIZE, SELF_TEST and ATTEST: what they answer and leave: While the security module is in RESET, SELF_TEST or ZEROIZING a request that passes the header checks only waits. In ERROR it answers DEVICE_FAULT with detail 1. In the OPERATIONAL state: ZEROIZE of scope 0 leaves no key in any slot but the identity key's and records FS30; ZEROIZE of scope 1 without its magic word is refused with detail 1. SELF_TEST whose tests pass stays OPERATIONAL with SEC_SELFTEST 0; one that fails enters ERROR with no key left. KEY_LOAD in MODE ERASE of a slot that no flow uses leaves it without keys. ATTEST with a nonce and room writes its report, of 148 bytes and 55 for each block, to host memory. -/
def Obligations.ServicesOfTheModule : Prop :=
  (∀ (c : Cmd) (k : Nat) (s : State), [0, 1, 4].contains (s.fld SEC_STS_STATE) = true → headerError c (s.enlist c) = none →
    Gives (.keyLoad c) s (fun t => t = settle (s.enlist c)) ∧ Gives (.zeroize c) s (fun t => t = settle (s.enlist c)) ∧
    Gives (.selfTest c k) s (fun t => t = settle (s.enlist c)) ∧ Gives (.attest c) s (fun t => t = settle (s.enlist c))) ∧
  (∀ (c : Cmd) (k : Nat) (s : State), s.fld SEC_STS_STATE = 3 → Ready c s = true →
    Gives (.keyLoad c) s (fun t => t = settle ((begun c s).answer c 0x30 1 0)) ∧ Gives (.zeroize c) s (fun t => t = settle ((begun c s).answer c 0x30 1 0)) ∧
    Gives (.selfTest c k) s (fun t => t = settle ((begun c s).answer c 0x30 1 0)) ∧
    Gives (.attest c) s (fun t => t = settle ((begun c s).answer c 0x30 1 0))) ∧
  (∀ (c : Cmd) (s : State), s.fld SEC_STS_STATE = 2 → Ready c s = true → c.readback = false → c.p 0 = 0 → s.flows = [] →
    Gives (.zeroize c) s fun t =>
      (t.security.slots.all fun e => e.1 == 0xD00 || (e.2.cur.isNone && e.2.next.isNone)) = true ∧ t.fld SEC_STS_STATE = 2 ∧
      (t.regN .FC_STATUS).testBit 30 = true ∧ t.streams = s.streams) ∧
  (∀ (c : Cmd) (s : State), s.fld SEC_STS_STATE = 2 → Ready c s = true → c.p 0 = 1 → c.p 1 = 0 →
    Gives (.zeroize c) s fun t => t = settle ((begun c s).answer c 0x11 1 0)) ∧
  (∀ (c : Cmd) (s : State), s.fld SEC_STS_STATE = 2 → Ready c s = true → c.readback = false → c.p 0 = 0 →
    Gives (.selfTest c 0) s fun t =>
      t.fld SEC_STS_STATE = 2 ∧ t.regN .SEC_SELFTEST = 0 ∧ t.security.slots = s.security.slots ∧ t.streams = s.streams) ∧
  (∀ (c : Cmd) (s : State), s.fld SEC_STS_STATE = 2 → Ready c s = true → c.readback = false → c.p 0 = 1 → s.flows = [] →
    Gives (.selfTest c 1) s fun t =>
      t.fld SEC_STS_STATE = 3 ∧ t.regN .SEC_SELFTEST = 0x80000001 ∧ (t.security.slots.all fun e => e.2.cur.isNone && e.2.next.isNone) = true) ∧
  (∀ (c : Cmd) (s : State), s.fld SEC_STS_STATE = 2 → Ready c s = true → c.readback = false → s.approvedNow = true → c.p 0 = 2 → c.handle < 0xC00 →
    s.flowsOnSlot c.handle = 0 →
    Gives (.keyLoad c) s fun t =>
      (t.slot c.handle).cur = none ∧ (t.slot c.handle).next = none ∧ (t.slot c.handle).loads = (s.slot c.handle).loads ∧ t.streams = s.streams) ∧
  (∀ (c : Cmd) (s : State), s.fld SEC_STS_STATE = 2 → Ready c s = true → c.readback = false → c.quiet = true → c.atTick = false → s.noIdentity = false → s.security.certBad = false →
    c.data ≠ none → c.p 3 = 0 → 533 ≤ c.p 2 → c.p 2 < 2 ^ 32 →
    Gives (.attest c) s fun t =>
      t.load .host (c.p64 0) 4 = [1, 0, 7, 0] ∧ t.load .host (c.p64 0 + 4) 8 = leBytes 8 s.tickIndex ∧ OnlyBytes .host (c.p64 0) 533 s t)

/-- MICROCODE_PATCH waits for its switch: MICROCODE_PATCH of a well-formed, signed image of this die with a security version in range that passes its checks marks its micro-sequencers PATCH_PENDING and is answered later; while one waits, another is refused with detail 5; an unsigned one answers AUTH_FAIL. MICROCODE_PATCH_SWITCH, while a grid runs and no pipe of the sequencers carries a picture, switches them all: no patch waits afterwards. With none waiting, or a pipe at work, nothing changes. -/
def Obligations.MicrocodeIsPatchedAtAnInstant : Prop :=
  (∀ (c : Cmd) (x : PatchImage) (s : State), s.fld SEC_STS_STATE = 2 → Ready c s = true → s.ctl.patch = none → x.formed = true → x.signed = true →
    x.dieOk = true → s.fld SEC_MIN_SVN_SVN ≤ x.svn → x.svn ≤ 64 → x.encWords.all (fun k => decide (k ≤ 256)) = true → x.decWords.all (fun k => decide (k ≤ 256)) = true →
    c.p 2 ≤ 4194304 → firstBad (s.patchChecks x) = none →
    Gives (.microcodePatch c x) s fun t =>
      t.ctl.patch = some (c, x) ∧ (∀ u ∈ s.patchTargets x, t.flag USQ_STS_PATCH_PENDING u = true) ∧ t.cmd.heldReplies = s.cmd.heldReplies ∧
      t.streams = s.streams) ∧
  (∀ (c : Cmd) (x : PatchImage) (s : State), s.fld SEC_STS_STATE = 2 → Ready c s = true → s.ctl.patch ≠ none →
    Gives (.microcodePatch c x) s fun t => t = settle ((begun c s).answer c 0x11 5 0)) ∧
  (∀ (c : Cmd) (x : PatchImage) (s : State), s.fld SEC_STS_STATE = 2 → Ready c s = true → s.ctl.patch = none → x.signed = false →
    x.encWords.all (fun k => decide (k ≤ 256)) = true → x.decWords.all (fun k => decide (k ≤ 256)) = true → c.p 2 ≤ 4194304 →
    Gives (.microcodePatch c x) s fun t => t = settle ((begun c s).answer c 0x21 0 0)) ∧
  (∀ (p : Cmd × PatchImage) (s : State), s.ctl.patch = some p → s.flag TK_CTRL_EN = true →
    (∀ u ∈ s.patchTargets p.2, (usqPipes u).any s.carries = false) → s.entryOf p.1 = none →
    Gives .microcodePatchSwitch s fun t => t.ctl.patch = none ∧ t.streams = s.streams ∧ t.codec = s.codec ∧ t.cmd = s.cmd ∧ SameMemory s t) ∧
  (∀ s : State, s.ctl.patch = none → Gives .microcodePatchSwitch s fun t => Unchanged s t)

/-- Scout maps, late and stopped scouts, and the time check of each coding unit: A map that a running scout unit of a picture delivers for one of its bands is noted for that band and in SCT_POS, and for band 0 none of the unit's pipes waits any more; with no map asked for no memory changes. One for a repeat, of a stopped unit, or of a band delivered before, changes nothing. A pipe whose wait for scout data expires waits no more, and the late data is counted once for its unit. A scout unit of a present cluster that stops has STOPPED set, BUSY clear and FS7 recorded; an absent one changes nothing. A pipe of a picture that is not stopped and waits for nothing starts its next unit at the instant it is due, without halo needs. When a normal unit cannot be finished in time with every later one as a floor unit, it and the rest of its column are floor-coded and cause bit 1 is set. While a pipe waits for scout data, the first instant at which that check fails floor-codes the waiting unit and the rest, with cause bits 1 and 6. A pipe that codes no picture changes nothing. -/
def Obligations.ScoutsAndUnitsAreTimed : Prop :=
  (∀ (u h k : Nat) (m : ScoutMap) (q : EncPic) (s : State), s.encOf h = some q → q.isRepeat = false → s.flag SCT_STS_STOPPED u = false →
    q.scouts.testBit u = true → (q.bands[k]?).any (fun b => !b.heard.testBit u) = true → k < 256 → (word q.words 3).testBit 2 = false →
    Gives (.scoutBandDelivered u h k m) s fun t =>
      (t.encOf h).any (fun r => (r.bands[k]?).any fun b => b.heard.testBit u) = true ∧
      (k = 0 → (t.encOf h).any (fun r => r.pipes.all fun w => w.pipe / 4 != u || !w.waiting) = true) ∧ t.fld SCT_POS_BAND u = k ∧
      t.streams = s.streams ∧ SameMemory s t ∧ SameRegs [.SCT_POS, .SCT_CUT_CNT, .SCT_EVT, .SCT_STS, .RC_S_TARGET, .IC_PEND, .IC_MERGE_CNT] s t) ∧
  (∀ (u h k : Nat) (m : ScoutMap) (q : EncPic) (s : State), s.encOf h = some q →
    q.isRepeat = true ∨ s.flag SCT_STS_STOPPED u = true ∨ (q.bands[k]?).all (fun b => b.heard.testBit u) = true →
    Gives (.scoutBandDelivered u h k m) s fun t => Unchanged s t) ∧
  (∀ (p : Nat) (q : EncPic) (w : PipeWork) (s : State), s.encOn p = some q → s.encOf q.stream = some q →
    q.pipes.find? (fun w => w.pipe == p && w.waiting) = some w → (q.bands.head?).all (fun b => !b.late.testBit (p / 4)) = true →
    Gives (.scoutWaitExpiry p) s fun t =>
      (t.encOf q.stream).any (fun r => r.flags.testBit 7 && r.pipes.all fun v => v.pipe != p || !v.waiting) = true ∧
      t.regN .SCT_LATE_CNT (p / 4) = min 0xFFFFFFFF (s.regN .SCT_LATE_CNT (p / 4) + 1) ∧ t.flag SCT_EVT_LATE (p / 4) = true ∧
      t.streams = s.streams ∧ SameMemory s t ∧ SameRegs [.SCT_LATE_CNT, .SCT_EVT, .IC_PEND, .IC_MERGE_CNT] s t) ∧
  (∀ (p : Nat) (q : EncPic) (w : PipeWork) (s : State), s.encOn p = some q → s.encOf q.stream = some q →
    q.pipes.find? (fun w => w.pipe == p && w.waiting) = some w → (q.bands.head?).any (fun b => b.late.testBit (p / 4)) = true →
    Gives (.scoutWaitExpiry p) s fun t =>
      (t.encOf q.stream).any (fun r => r.pipes.all fun v => v.pipe != p || !v.waiting) = true ∧ t.streams = s.streams ∧ SameMemory s t ∧
      SameRegs [] s t) ∧
  (∀ (p : Nat) (s : State), s.encOn p = none → Gives (.scoutWaitExpiry p) s fun t => Unchanged s t) ∧
  (∀ (u : Nat) (s : State), u < 4 → s.clusterPresent u = true →
    Gives (.scoutStop u) s fun t =>
      t.flag SCT_STS_STOPPED u = true ∧ t.flag SCT_STS_BUSY u = false ∧ t.flag SCT_EVT_STOP u = true ∧ (t.regN .FC_STATUS).testBit 7 = true ∧
      OnlyRegs (.SCT_STS :: .SCT_EVT :: faultOnly) s t) ∧
  (∀ (u : Nat) (s : State), s.clusterPresent u = false → Gives (.scoutStop u) s fun t => Unchanged s t) ∧
  (∀ (p : Nat) (q : EncPic) (w : PipeWork) (s : State), s.encOn p = some q → s.encOf q.stream = some q → q.pipes.find? (fun w => w.pipe == p) = some w →
    w.stopped = false → w.waiting = false → w.started < w.units →
    Gives (.cuStart p 0 false 0) s fun t =>
      (t.encOf q.stream).any (fun r => r.pipes.any fun v => v.pipe == p && v.started == w.started + 1) = true ∧
      t.tb.run = max s.tb.run ((w.due + 4) / 5)) ∧
  (∀ (p : Nat) (q : EncPic) (w : PipeWork) (s : State), s.encOn p = some q → s.encOf q.stream = some q → q.pipes.find? (fun w => w.pipe == p) = some w →
    w.stopped = false → w.waiting = false → w.started < w.units → w.floorFrom = none →
    5 * q.dueRun < 5 * max s.tb.run ((w.due + 4) / 5) +
      s.timeNeed (s.stream q.stream) (encGeo (s.stream q.stream).codec (s.stream q.stream).words) (w.units - w.started - 1) →
    Gives (.cuStart p 0 false 0) s fun t =>
      (t.encOf q.stream).any (fun r => r.cause.testBit 1 && r.pipes.any fun v => v.pipe == p && v.floorFrom == some w.started) = true) ∧
  (∀ (p l n : Nat) (f : Bool) (q : EncPic) (w : PipeWork) (s : State), s.encOn p = some q → q.pipes.find? (fun w => w.pipe == p) = some w →
    w.stopped = true ∨ w.waiting = true ∨ w.units ≤ w.started → Gives (.cuStart p l f n) s fun t => Unchanged s t) ∧
  (∀ (p : Nat) (q : EncPic) (w : PipeWork) (s : State), s.encOn p = some q → s.encOf q.stream = some q → q.pipes.find? (fun w => w.pipe == p) = some w →
    w.stopped = false → w.waiting = true → w.started < w.units → w.floorFrom = none →
    Gives (.waitCut p) s fun t =>
      (t.encOf q.stream).any (fun r => r.cause.testBit 1 && r.cause.testBit 6 &&
        r.pipes.any fun v => v.pipe == p && v.floorFrom == some w.started && !v.waiting) = true ∧
      t.streams = s.streams ∧ SameRegs [] s t ∧ SameMemory s t) ∧
  (∀ (p : Nat) (s : State), s.encOn p = none →
    Gives (.waitCut p) s (fun t => Unchanged s t) ∧ Gives (.cuStart p 0 false 0) s (fun t => Unchanged s t))

/-- CU_BIT_CHECK, CU_HANDOFF, SEAM_STRIP_DONE and BAND_RELEASE: The next normal unit of a pipe whose bound fits COMMITTED and RESERVE under CAP passes: its bound is owed. When it does not, cause bit 0 is set and every unit of the picture not past stage 3 is a floor unit. A unit that passed is handed off with at most its bound, and its bits count as produced. The seam filter finishes a strip whose rows both neighbours have handed off, and none else. The next band of a picture outside a ring is released once all its columns are handed off, and not before. -/
def Obligations.BitsAreCheckedAndHandedOff : Prop :=
  (∀ (p u : Nat) (q : EncPic) (w : PipeWork) (s : State), s.encOn p = some q → s.encOf q.stream = some q → q.pipes.find? (fun w => w.pipe == p) = some w →
    w.stopped = false → w.past < w.started → w.floorFrom = none →
    q.committed + u + q.reserve (encGeo (s.stream q.stream).codec (s.stream q.stream).words) (q.unitsLeft - 1) ≤ q.cap →
    Gives (.cuBitCheck p u false) s fun t =>
      (t.encOf q.stream).any (fun r => decide (r.owed = q.owed ++ [(p, u)]) && decide (r.unitsLeft = q.unitsLeft - 1) &&
        decide (r.committed = q.committed + u) && r.pipes.any fun v => v.pipe == p && v.past == w.past + 1) = true ∧
      t.streams = s.streams ∧ SameRegs [] s t ∧ SameMemory s t) ∧
  (∀ (p u : Nat) (q : EncPic) (w : PipeWork) (s : State), s.encOn p = some q → s.encOf q.stream = some q → q.pipes.find? (fun w => w.pipe == p) = some w →
    w.stopped = false → w.past < w.started → w.floorFrom = none → (q.pipes.map (·.pipe)).Nodup →
    q.cap < q.committed + u + q.reserve (encGeo (s.stream q.stream).codec (s.stream q.stream).words) (q.unitsLeft - 1) →
    Gives (.cuBitCheck p u false) s fun t =>
      (t.encOf q.stream).any (fun r => r.cause.testBit 0 && r.passed && r.pipes.all fun v =>
        decide (v.units ≤ v.past) || v.floorFrom.any fun f => decide (f ≤ v.past)) = true ∧
      t.streams = s.streams ∧ SameRegs [] s t ∧ SameMemory s t) ∧
  (∀ (p n b : Nat) (bs : List Byte) (q : EncPic) (w : PipeWork) (s : State), s.encOn p = some q → s.encOf q.stream = some q →
    q.pipes.find? (fun w => w.pipe == p) = some w → w.stopped = false → w.handed < w.past → w.past ≤ w.started → w.floorFrom = none →
    q.owed.find? (fun e => e.1 == p) = some (p, b) → isRing (s.stream q.stream).words = false →
    Gives (.cuHandoff p bs n) s fun t =>
      (t.encOf q.stream).any (fun r => decide (r.produced = q.produced + min n b) && decide (r.unitsLeft = q.unitsLeft) &&
        r.pipes.any fun v => v.pipe == p && v.handed == w.handed + 1) = true ∧
      t.streams = s.streams ∧ SameRegs [] s t ∧ SameMemory s t) ∧
  (∀ (h : Nat) (q : EncPic) (s : State), s.encOf h = some q → q.seams < q.seamsReady →
    Gives (.seamStripDone h) s fun t =>
      t.encOf h = some { q with seams := q.seams + 1 } ∧ t.streams = s.streams ∧ SameRegs [.ENC_CL_STS] s t ∧ SameMemory s t) ∧
  (∀ (h : Nat) (q : EncPic) (s : State), s.encOf h = some q → q.seamsReady ≤ q.seams → Gives (.seamStripDone h) s fun t => Unchanged s t) ∧
  (∀ (h : Nat) (q : EncPic) (s : State), s.encOf h = some q → q.released < q.bands.length →
    q.bandDone (encGeo (s.stream h).codec (s.stream h).words) q.released = true → isRing (s.stream h).words = false →
    Gives (.bandRelease h) s fun t =>
      (t.encOf h).any (fun r => decide (r.released = q.released + 1) && decide (q.produced ≤ r.produced) &&
        decide (r.headersLeft = q.headersLeft - 1) && decide (r.bands.map (·.weight) = q.bands.map (·.weight))) = true ∧
      t.hostMem = s.hostMem ∧ t.tb = s.tb) ∧
  (∀ (h : Nat) (q : EncPic) (s : State), s.encOf h = some q → q.bandDone (encGeo (s.stream h).codec (s.stream h).words) q.released = false →
    Gives (.bandRelease h) s fun t => Unchanged s t)

/-- ENC_PICTURE_COMPLETE and ENC_PIPE_FAULT: Once every unit is handed off, every band released and every seam finished, a picture of a running stream leaves its pipes: the stream has one more picture completed, its last tick is the picture's and its buffer carries the order count; before that nothing changes. A pipe that stops during a picture has STOPPED set and FS6 recorded, and the picture fails with the lowest such pipe. An uncorrectable error in its data records FS5, sets cause bit 2 and floor-codes the unit it affects and every later one of the column. A fault other than a stop in a pipe without a picture changes nothing. -/
def Obligations.EncodePicturesCompleteOrFail : Prop :=
  (∀ (h : Nat) (st : EncStats) (q : EncPic) (s : State), s.encOf h = some q → (s.stream h).st = .running → (s.stream h).wordsNext = none →
    s.encReady (s.stream h) (encGeo (s.stream h).codec (s.stream h).words) q = true → q.tick < 2 ^ 32 →
    Gives (.encPictureComplete h st) s fun t =>
      t.encOf h = none ∧ (t.stream h).completed = (s.stream h).completed + 1 ∧ (t.stream h).lastTick = q.tick ∧
      t.fld FB_DESC_TICK_TICK q.buf = q.tick ∧ t.tb = s.tb) ∧
  (∀ (h : Nat) (st : EncStats) (q : EncPic) (s : State), s.encOf h = some q →
    s.encReady (s.stream h) (encGeo (s.stream h).codec (s.stream h).words) q = false → Gives (.encPictureComplete h st) s fun t => Unchanged s t) ∧
  (∀ (p : Nat) (q : EncPic) (w : PipeWork) (s : State), s.encOn p = some q → s.encOf q.stream = some q → q.pipes.find? (fun w => w.pipe == p) = some w →
    w.stopped = false → q.failed = none → s.flag SPR_CFG_AUTO_STOP = false →
    Gives (.encPipeFault p .stop) s fun t =>
      t.flag ENC_EP_STS_STOPPED p = true ∧ (t.regN .FC_STATUS).testBit 6 = true ∧ t.flag ENC_EP_EVT_STOP p = true ∧
      (t.encOf q.stream).any (fun r => r.failed == some p && r.pipes.all fun v => v.pipe != p || v.stopped) = true ∧
      SameRegs (.ENC_EP_STS :: .ENC_EP_EVT :: faultOnly) s t ∧ SameMemory s t) ∧
  (∀ (p u : Nat) (q : EncPic) (w : PipeWork) (s : State), s.encOn p = some q → s.encOf q.stream = some q → q.pipes.find? (fun w => w.pipe == p) = some w →
    w.stopped = false → w.floorFrom = none → w.handed ≤ w.past → w.past ≤ u → u ≤ w.started → u < w.units →
    Gives (.encPipeFault p (.poison u)) s fun t =>
      (t.regN .FC_STATUS).testBit 5 = true ∧ t.flag ENC_EP_EVT_POISON p = true ∧
      (t.encOf q.stream).any (fun r => r.cause.testBit 2 && r.pipes.any fun v => v.pipe == p && v.floorFrom == some u) = true ∧
      SameRegs (.ENC_EP_EVT :: faultOnly) s t ∧ SameMemory s t) ∧
  (∀ (p : Nat) (f : EncFault) (s : State), s.encOn p = none → f ≠ .stop → Gives (.encPipeFault p f) s fun t => Unchanged s t)

/-- DEC_BLOCK_START: parameter sets, the header, blocks in time, and damage: For a pipe of a launched decode picture outside a ring that has not stopped and whose output is not given up: a parameter set within the limits of R168 is stored with the stream; one of more than 4,096 bytes, or larger than MAX_WIDTH, is dropped with PS_DROP and counted. The header makes the picture known with its blocks; a second field goes into the buffer of the open first field. A good block of a parsed picture that meets the time check advances the pipe by one block and counts it done, and where it names a reference that was not usable at the launch it has SUBST in the map and counts in DEC_S_SUBST_CNT; one that fails the check sets flag bit 5 and conceals every block left. A damaged run of blocks is concealed, each by its method and with the reason in the map, counted in the picture and its registers. A picture without a header is lost, and without REPEAT_ON_LOSS nothing of it is reconstructed. -/
def Obligations.BlocksAreDecodedOrConcealed : Prop :=
  (∀ (p : Nat) (ps : ParamSet) (f : List Nat) (q : DecPic) (w : PipeWork) (s : State), s.decOn p = some q → s.decOf q.stream = some q →
    q.pipes.find? (fun w => w.pipe == p) = some w → w.stopped = false → q.noOutput = false → q.lost = false →
    isRing (s.stream q.stream).words = false → (s.stream q.stream).st ≠ .free → ps.inRange = true → ps.zeros ≤ 31 → ps.bytes ≤ 4096 → ps.profile = true →
    ps.chroma ≤ word (s.stream q.stream).words 1 % 4 → (ps.chroma = 2 → (s.stream q.stream).codec ≠ 3) → ps.depth ≤ word (s.stream q.stream).words 1 / 4 % 4 →
    ps.width ≤ word (s.stream q.stream).words 0 % 65536 → ps.height ≤ word (s.stream q.stream).words 0 / 65536 →
    ps.buffers ≤ word (s.stream q.stream).words 5 % 64 - 1 →
    Gives (.decBlockStart p (.paramSet ps) f) s fun t =>
      ps.id ∈ (t.stream q.stream).sets ∧ t.codec = s.codec ∧ SameRegs [] s t ∧ SameMemory s t) ∧
  (∀ (p : Nat) (ps : ParamSet) (f : List Nat) (q : DecPic) (w : PipeWork) (s : State), s.decOn p = some q → s.decOf q.stream = some q →
    q.pipes.find? (fun w => w.pipe == p) = some w → w.stopped = false → q.noOutput = false → q.lost = false →
    isRing (s.stream q.stream).words = false → 4096 < ps.bytes ∨ word (s.stream q.stream).words 0 % 65536 < ps.width →
    Gives (.decBlockStart p (.paramSet ps) f) s fun t =>
      t.fld DEC_S_ERR_PS_DROP q.stream = 1 ∧ t.regN .DEC_S_PS_CNT q.stream = min 0xFFFFFFFF (s.regN .DEC_S_PS_CNT q.stream + 1) ∧
      t.streams = s.streams ∧ t.codec = s.codec ∧ SameRegs [.DEC_S_ERR, .DEC_S_PS_CNT] s t ∧ SameMemory s t) ∧
  (∀ (p : Nat) (d : DecHeader) (f : List Nat) (q : DecPic) (w : PipeWork) (s : State), s.decOn p = some q → s.decOf q.stream = some q →
    q.pipes.find? (fun w => w.pipe == p) = some w → w.stopped = false → q.noOutput = false → q.lost = false → q.parsed = false → q.unplaced = false →
    isRing (s.stream q.stream).words = false →
    Gives (.decBlockStart p (.header d) f) s fun t =>
      (t.decOf q.stream).any (fun r => r.parsed && decide (r.blocks = d.blocks) && decide (r.mapW = d.mapW) && decide (r.chroma = d.chroma) &&
        (r.inter == d.inter) && r.buf == q.buf) = true ∧
      t.streams = s.streams ∧ SameRegs [] s t ∧ SameMemory s t) ∧
  (∀ (p e n : Nat) (d : DecHeader) (f : List Nat) (q : DecPic) (w : PipeWork) (s : State), s.decOn p = some q → s.decOf q.stream = some q →
    q.pipes.find? (fun w => w.pipe == p) = some w → w.stopped = false → q.noOutput = false → q.lost = false → q.parsed = false → q.unplaced = true →
    isRing (s.stream q.stream).words = false → d.second = true → (s.stream q.stream).openField = some (e, n) → e ∈ (s.stream q.stream).res.pool →
    Gives (.decBlockStart p (.header d) f) s fun t =>
      (t.decOf q.stream).any (fun r => r.parsed && r.second && r.buf == some e) = true ∧
      t.flag FB_DESC_MARKS_CUR e = true ∧ t.streams = s.streams ∧ SameRegs [.FB_DESC_MARKS, .DEC_S_STS] s t ∧ SameMemory s t) ∧
  (∀ (p : Nat) (f rs : List Nat) (q : DecPic) (w : PipeWork) (s : State), s.decOn p = some q → s.decOf q.stream = some q →
    q.pipes.find? (fun w => w.pipe == p) = some w → w.stopped = false → q.noOutput = false → q.lost = false → q.parsed = true →
    w.started < w.units → isRing (s.stream q.stream).words = false → q.gates = [] → (∀ r ∈ rs, r ∈ q.known) →
    (s.reachRun ((w.due + 4) / 5)).blockLate (s.stream q.stream) q (w.units - w.started - 1) = false →
    Gives (.decBlockStart p (.good rs 0) f) s fun t =>
      (t.decOf q.stream).any (fun r => decide (r.done = q.done + 1) && decide (r.conc = q.conc) && decide (r.map = q.map) &&
        r.pipes.any fun v => v.pipe == p && v.started == w.started + 1) = true ∧
      t.tb.run = max s.tb.run ((w.due + 4) / 5) ∧ t.streams = s.streams ∧ SameRegs [.DEC_DP_POS] s t ∧ SameMemory s t) ∧
  (∀ (p o b : Nat) (f : List Nat) (q : DecPic) (w : PipeWork) (s : State), s.decOn p = some q → s.decOf q.stream = some q →
    q.pipes.find? (fun w => w.pipe == p) = some w → w.stopped = false → q.noOutput = false → q.lost = false → q.parsed = true →
    w.started < w.units → isRing (s.stream q.stream).words = false → q.gates = [] → o ∉ q.known → q.blocksOf p w.started 1 = [b] →
    (s.reachRun ((w.due + 4) / 5)).blockLate (s.stream q.stream) q (w.units - w.started - 1) = false →
    Gives (.decBlockStart p (.good [o] 0) f) s fun t =>
      (t.decOf q.stream).any (fun r => decide (r.done = q.done + 1) && decide (r.subst = q.subst + 1) && decide (storeFind r.map b = some 4)) = true ∧
      t.regN .DEC_S_SUBST_CNT q.stream = min 0xFFFFFFFF (s.regN .DEC_S_SUBST_CNT q.stream + 1) ∧ t.streams = s.streams ∧
      SameRegs [.DEC_DP_POS, .DEC_S_SUBST_CNT] s t ∧ SameMemory s t) ∧
  (∀ (p : Nat) (f rs : List Nat) (q : DecPic) (w : PipeWork) (s : State), s.decOn p = some q → s.decOf q.stream = some q →
    q.pipes.find? (fun w => w.pipe == p) = some w → w.stopped = false → q.noOutput = false → q.lost = false → q.parsed = true →
    w.started < w.units → isRing (s.stream q.stream).words = false →
    (s.reachRun ((w.due + 4) / 5)).blockLate (s.stream q.stream) q (w.units - w.started - 1) = true →
    Gives (.decBlockStart p (.good rs 0) f) s fun t =>
      (t.decOf q.stream).any (fun r => r.flags.testBit 5) = true ∧ t.flag DEC_DP_EVT_TIME (p - 16) = true ∧ t.streams = s.streams ∧
      SameMemory s t) ∧
  (∀ (p k n : Nat) (f : List Nat) (q : DecPic) (w : PipeWork) (s : State), s.decOn p = some q → s.decOf q.stream = some q →
    q.pipes.find? (fun w => w.pipe == p) = some w → w.stopped = false → q.noOutput = false → q.lost = false → q.parsed = true →
    0 < n → w.started + n ≤ w.units → (q.blocksOf p w.started n).length = n → isRing (s.stream q.stream).words = false →
    Gives (.decBlockStart p (.damaged k n) f) s fun t =>
      (t.decOf q.stream).any (fun r => decide (r.done = q.done + n) && decide (r.conc = q.conc + n) &&
        (q.blocksOf p w.started n).all fun b => decide (storeFind r.map b = some (q.method f b + k % 16 * 16))) = true ∧
      t.regN .DEC_DP_CONC_CNT (p - 16) = min 0xFFFFFFFF (s.regN .DEC_DP_CONC_CNT (p - 16) + n) ∧ t.streams = s.streams ∧ SameMemory s t ∧
      SameRegs [.DEC_DP_POS, .DEC_DP_CONC_CNT, .DEC_S_CONC_CNT, .DEC_DP_EVT, .IC_PEND, .IC_MERGE_CNT] s t) ∧
  (∀ (p : Nat) (f : List Nat) (q : DecPic) (w : PipeWork) (s : State), s.decOn p = some q → s.decOf q.stream = some q →
    q.pipes.find? (fun w => w.pipe == p) = some w → w.stopped = false → q.noOutput = false → q.lost = false → q.parsed = false →
    isRing (s.stream q.stream).words = false → (word (s.stream q.stream).words 4).testBit 18 = false →
    Gives (.decBlockStart p .noHeader f) s fun t =>
      t.decOf q.stream = some { q with lost := true, parsed := true, flags := q.flags ||| 8 } ∧ t.streams = s.streams ∧ SameRegs [] s t ∧ SameMemory s t)

/-- DEC_PICTURE_COMPLETE, DEC_PIPE_FAULT, and the records and buffers a host gives back: A picture of a running stream that is done leaves its pipes: the stream has one more picture completed and its last tick is the picture's; a picture not done changes nothing. A decoder pipe whose back end stops has STOPPED set and FS9 recorded and the picture fails with it. Without a picture a fault other than a stop changes nothing. For the owner of a decode stream a write of DEC_S_REC_HEAD within the ring stores it, and one of DEC_S_OUT_REL gives back one OUT count of a buffer of the stream; an index that has none sets REL_ERR. Another function changes nothing. -/
def Obligations.DecodePicturesCompleteOrFail : Prop :=
  (∀ (h : Nat) (d : DecDone) (q : DecPic) (s : State), s.decOf h = some q → (s.stream h).st = .running → (s.stream h).wordsNext = none →
    (s.stream h).flush = none → s.decReady (s.stream h) q d.skipped = true →
    Gives (.decPictureComplete h d) s fun t =>
      t.decOf h = none ∧ (t.stream h).completed = (s.stream h).completed + 1 ∧ (t.stream h).lastTick = q.tick) ∧
  (∀ (h : Nat) (d : DecDone) (q : DecPic) (s : State), s.decOf h = some q → s.decReady (s.stream h) q d.skipped = false →
    Gives (.decPictureComplete h d) s fun t => Unchanged s t) ∧
  (∀ (p : Nat) (q : DecPic) (w : PipeWork) (s : State), s.decOn p = some q → s.decOf q.stream = some q → q.pipes.find? (fun w => w.pipe == p) = some w →
    w.stopped = false → q.failed = none → s.flag SPR_CFG_AUTO_STOP = false →
    Gives (.decPipeFault p .backStop) s fun t =>
      t.flag DEC_DP_STS_STOPPED (p - 16) = true ∧ (t.regN .FC_STATUS).testBit 9 = true ∧
      (t.decOf q.stream).any (fun r => r.noRef && r.noOutput && r.failed == some p && r.pipes.all fun v => v.pipe != p || v.stopped) = true ∧
      t.streams = s.streams ∧ SameRegs (.DEC_DP_STS :: .DEC_DP_EVT :: faultOnly) s t ∧ SameMemory s t) ∧
  (∀ (p : Nat) (f : DecFault) (s : State), s.decOn p = none → f ≠ .frontStop → f ≠ .backStop → Gives (.decPipeFault p f) s fun t => Unchanged s t) ∧
  (∀ (h : Nat) (v : Word) (s : State), (s.stream h).st ≠ .free → (s.stream h).dec = true → (s.stream h).words ≠ [] → (s.stream h).due = 0 →
    v.toNat % 4096 < recCount (s.stream h).words →
    Gives (.decSRecHeadWrite (.func (s.stream h).func) h v) s fun t =>
      t.fld DEC_S_REC_HEAD_HEAD h = v.toNat % 4096 ∧ OnlyRegs [.DEC_S_REC_HEAD, .DEC_S_STS] s t) ∧
  (∀ (f h : Nat) (v : Word) (s : State), f ≠ (s.stream h).func →
    Gives (.decSRecHeadWrite (.func f) h v) s (fun t => Unchanged s t) ∧ Gives (.decSOutRelWrite (.func f) h v) s (fun t => Unchanged s t)) ∧
  (∀ (h : Nat) (v : Word) (s : State), (s.stream h).st ≠ .free → (s.stream h).dec = true → (s.stream h).due = 0 →
    s.flag FB_DESC_OWN_POOL (v.toNat % 8192) = true → s.fld FB_DESC_OWN_STREAM (v.toNat % 8192) = h → 0 < s.fld FB_DESC_MARKS_OUT_CNT (v.toNat % 8192) →
    Gives (.decSOutRelWrite (.func (s.stream h).func) h v) s fun t =>
      t.fld FB_DESC_MARKS_OUT_CNT (v.toNat % 8192) = s.fld FB_DESC_MARKS_OUT_CNT (v.toNat % 8192) - 1 ∧ t.streams = s.streams ∧
      SameRegs [.DEC_S_OUT_REL, .FB_DESC_MARKS, .DEC_S_STS] s t ∧ SameMemory s t) ∧
  (∀ (h : Nat) (v : Word) (s : State), (s.stream h).st ≠ .free → (s.stream h).dec = true → s.fld FB_DESC_MARKS_OUT_CNT (v.toNat % 8192) = 0 →
    Gives (.decSOutRelWrite (.func (s.stream h).func) h v) s fun t =>
      t.fld DEC_S_ERR_REL_ERR h = 1 ∧ OnlyRegs [.DEC_S_OUT_REL, .DEC_S_ERR] s t)

/-- FB_ASSIGN, descriptor commits, FB_READY, the ring read position and arenas: With PF0's authority FB_ASSIGN of one unmarked descriptor outside pools gives it to the named function; a function number above 32 sets ASSIGN_ERR. A commit of word 3 by the owner of a descriptor outside pools with legal words and no mark but READY stores address, size and format and clears READY; one by another function sets NOT_OWNER. FB_READY sets READY of a free descriptor of its owner, and clears it with CLEAR. The owner of an encode stream moves FB_S_RING_RD to a multiple of 64 within the unread data, and no further. PF0 writes an arena register of a function without open streams, low 12 bits 0. -/
def Obligations.DescriptorsAreOwnedAndCommitted : Prop :=
  (∀ (a : Agent) (v : Word) (s : State), s.actsAsPf0 a = true → s.fld FB_ASSIGN_FUNC_FUNC ≤ 32 → v.toNat / 8192 % 16384 = 1 →
    s.regN .FB_DESC_MARKS (v.toNat % 8192) = 0 → s.flag FB_DESC_OWN_POOL (v.toNat % 8192) = false →
    Gives (.fbAssignWrite a v) s fun t =>
      t.fld FB_DESC_OWN_FUNC (v.toNat % 8192) = s.fld FB_ASSIGN_FUNC_FUNC ∧ t.regN .FB_DESC_BASE (v.toNat % 8192) = 0 ∧
      (∀ e, e ≠ v.toNat % 8192 → t.reg .FB_DESC_OWN e = s.reg .FB_DESC_OWN e) ∧ t.streams = s.streams ∧
      SameRegs [.FB_ASSIGN, .FB_DESC_BASE, .FB_DESC_DIM, .FB_DESC_FMT, .FB_DESC_MARKS, .FB_DESC_ORDER, .FB_DESC_TICK, .FB_DESC_OWN] s t ∧ SameMemory s t) ∧
  (∀ (a : Agent) (v : Word) (s : State), s.actsAsPf0 a = true → 32 < s.fld FB_ASSIGN_FUNC_FUNC →
    Gives (.fbAssignWrite a v) s fun t => t.fld FB_ERR_ASSIGN_ERR 0 = 1 ∧ SameRegs [.FB_ASSIGN, .FB_ERR] s t ∧ SameMemory s t) ∧
  (∀ (f : Nat) (v : Word) (s : State), f ≠ 0 → Gives (.fbAssignWrite (.func f) v) s fun t => Unchanged s t) ∧
  (∀ (d w h : Nat) (s : State), s.flag FB_DESC_OWN_POOL d = false → s.regN .FB_DESC_MARKS d % 2 = s.regN .FB_DESC_MARKS d → s.codec.descStage = [] →
    s.regN .FB_DESC_BASE d % 4096 = 0 → s.regN .FB_DESC_DIM d = w + h * 65536 → w % 8 = 0 → h % 8 = 0 → 64 ≤ w → w ≤ 8192 → 64 ≤ h → h ≤ 4352 →
    s.regN .FB_DESC_BASE d + bufferSize 1 w h (roundUp (minPitch 1 w) 64) false ≤ s.regN .MC_CAP → minPitch 1 w < 2 ^ 20 →
    Gives (.fbDescCommit (.func (s.fld FB_DESC_OWN_FUNC d)) d (BitVec.ofNat 32 (1 + roundUp (minPitch 1 w) 64 * 256))) s fun t =>
      t.reg .FB_DESC_BASE d = s.reg .FB_DESC_BASE d ∧ t.regN .FB_DESC_FMT d = 1 + roundUp (minPitch 1 w) 64 * 256 ∧
      t.regN .FB_DESC_MARKS d = 0 ∧ t.streams = s.streams ∧ SameRegs [.FB_DESC_BASE, .FB_DESC_DIM, .FB_DESC_FMT, .FB_DESC_MARKS] s t ∧ SameMemory s t) ∧
  (∀ (f d : Nat) (v : Word) (s : State), f ≠ s.fld FB_DESC_OWN_FUNC d →
    Gives (.fbDescCommit (.func f) d v) s fun t => t.fld FB_ERR_NOT_OWNER f = 1 ∧ OnlyRegs [.FB_ERR, .FB_ERR_IDX] s t) ∧
  (∀ (v : Word) (s : State), s.regN .FB_DESC_MARKS (v.toNat % 8192) = 0 → s.flag FB_DESC_OWN_POOL (v.toNat % 8192) = false → v.toNat < 2 ^ 31 →
    Gives (.fbReadyWrite (.func (s.fld FB_DESC_OWN_FUNC (v.toNat % 8192))) v) s fun t =>
      t.regN .FB_DESC_MARKS (v.toNat % 8192) = 1 ∧ (∀ e, e ≠ v.toNat % 8192 → t.reg .FB_DESC_MARKS e = s.reg .FB_DESC_MARKS e) ∧
      SameRegs [.FB_READY, .FB_DESC_MARKS] s t ∧ SameMemory s t) ∧
  (∀ (v : Word) (s : State), s.regN .FB_DESC_MARKS (v.toNat % 8192) = 1 → 2 ^ 31 ≤ v.toNat →
    Gives (.fbReadyWrite (.func (s.fld FB_DESC_OWN_FUNC (v.toNat % 8192))) v) s fun t =>
      t.regN .FB_DESC_MARKS (v.toNat % 8192) = 0 ∧ SameRegs [.FB_READY, .FB_DESC_MARKS] s t ∧ SameMemory s t) ∧
  (∀ (h n : Nat) (v : Word) (s : State), (s.stream h).st ≠ .free → (s.stream h).dec = false → (s.stream h).res.ringBytes = n → v.toNat % 64 = 0 →
    v.toNat < n → s.regN .FB_S_RING_RD h < n → s.regN .FB_S_RING_WR h < n →
    (v.toNat + n - s.regN .FB_S_RING_RD h) % n ≤ (s.regN .FB_S_RING_WR h + n - s.regN .FB_S_RING_RD h) % n →
    Gives (.fbRingRdWrite (.func (s.stream h).func) h v) s fun t => t.regN .FB_S_RING_RD h = v.toNat ∧ OnlyRegs [.FB_S_RING_RD] s t) ∧
  (∀ (h : Nat) (v : Word) (s : State), (s.stream h).st ≠ .free → (s.stream h).dec = false → v.toNat % 64 ≠ 0 ∨ (s.stream h).res.ringBytes ≤ v.toNat →
    Gives (.fbRingRdWrite (.func (s.stream h).func) h v) s fun t => Unchanged s t) ∧
  (∀ (a : Agent) (f : Nat) (b : Bool) (v : DWord) (s : State), s.actsAsPf0 a = true → f ≤ 32 → s.streams.any (fun e => e.2.st != .free && e.2.func == f) = false →
    Gives (.fbArenaWrite a f b v) s fun t =>
      t.reg (if b then .FB_ARENA_SIZE else .FB_ARENA_BASE) f = v &&& ~~~0xFFF ∧ OnlyRegs [if b then .FB_ARENA_SIZE else .FB_ARENA_BASE] s t) ∧
  (∀ (a : Agent) (f : Nat) (b : Bool) (v : DWord) (s : State), s.actsAsPf0 a = true → f ≤ 32 → s.streams.any (fun e => e.2.st != .free && e.2.func == f) = true →
    Gives (.fbArenaWrite a f b v) s fun t => t.fld FB_ERR_NOT_OWNER 0 = 1 ∧ OnlyRegs [.FB_ERR] s t)

/-- Ring messages for other members are passed on, and stale ones dropped and counted: Of the messages from LEAVE to BAND and MIG_ABORT: a device in no ring ignores them. A member hands one addressed to another member to its other link's queue and changes nothing else. One addressed to it whose epoch is not the one in force at its tick is dropped: RING_STALE_CNT counts it, the STALE event is set, and the ring state and every stream stay. -/
def Obligations.RingMessagesAreRelayedOrStale : Prop :=
  (∀ (m : RingHdr) (a b c d : Nat) (p : PlanMsg) (h : DataHdr) (x : MigData) (f : Bool) (bs : List Byte) (i : Instr) (s : State),
    i ∈ [.leave m, .roleUpdate m a b c d a b, .nak m a b c d a b, .plan m p, .donate m a b c, .ask m a b c, .grant m a b c, .final m a b c d a b,
      .halo m h, .seamUp m h, .seamDown m h, .band m h bs, .migData m x, .migCommitReq m a b, .migCommitAck m a, .migQuery m a b f, .migAbort m a b] →
    s.joined = false → Gives i s fun t => Unchanged s t) ∧
  (∀ (m : RingHdr) (a b c d : Nat) (p : PlanMsg) (h : DataHdr) (x : MigData) (f : Bool) (bs : List Byte) (i : Instr) (s : State),
    i ∈ [.leave m, .roleUpdate m a b c d a b, .nak m a b c d a b, .plan m p, .donate m a b c, .ask m a b c, .grant m a b c, .final m a b c d a b,
      .halo m h, .seamUp m h, .seamDown m h, .band m h bs, .migData m x, .migCommitReq m a b, .migCommitAck m a, .migQuery m a b f, .migAbort m a b] →
    s.joined = true → m.bcast = false → m.dst ≠ s.ringPos →
    Gives i s fun t =>
      t = settle { s with net := { s.net with waiting := t.net.waiting } } ∧ t.net.waiting.length = s.net.waiting.length + 1 ∧
      t.net.waiting.getLast?.any (fun g => g.relayed && decide (g.owner = 1 - m.link) && decide (g.words.take 6 = [word g.words 0, 0, m.src, m.dst, m.epoch, m.tick])) = true) ∧
  (∀ (m : RingHdr) (a b c d : Nat) (p : PlanMsg) (h : DataHdr) (x : MigData) (f : Bool) (bs : List Byte) (i : Instr) (s : State),
    i ∈ [.leave m, .roleUpdate m a b c d a b, .nak m a b c d a b, .plan m p, .donate m a b c, .ask m a b c, .grant m a b c, .final m a b c d a b,
      .halo m h, .seamUp m h, .seamDown m h, .band m h bs, .migData m x, .migCommitReq m a b, .migCommitAck m a, .migQuery m a b f, .migAbort m a b] →
    s.joined = true → m.bcast = false → m.dst = s.ringPos → m.epoch ≠ s.epochAt m.tick →
    Gives i s fun t =>
      t.regN .RING_STALE_CNT = min 0xFFFFFFFF (s.regN .RING_STALE_CNT + 1) ∧ t.flag RING_EVT_STALE = true ∧ t.ring = s.ring ∧ t.streams = s.streams ∧
      t.codec = s.codec ∧ SameMemory s t ∧ SameRegs [.RING_STALE_CNT, .RING_EVT, .IC_PEND, .IC_MERGE_CNT] s t)

/-- HELLO, LEAVE, ROLE_UPDATE, NAK and discarded messages: A HELLO on a link that is not UP changes nothing. A member answers one of the right ring, size, position and grid with an ECHO; while a join is in progress one of another grid fails the join. A LEAVE sets PARTITIONED and its event. A ROLE_UPDATE of the next epoch, of a known kind, while none is pending becomes the pending switch and no role changes yet; of another epoch it changes nothing. The NAK of an ASK closes the open request. A bad CRC is counted at its link and a reserved TYPE in RING_UNKNOWN_CNT. -/
def Obligations.MembershipMessagesAreHeeded : Prop :=
  (∀ (m : RingHdr) (h : HelloMsg) (s : State), 2 ≤ m.link ∨ s.linkUp m.link = false → Gives (.hello m h) s fun t => Unchanged s t) ∧
  (∀ (m : RingHdr) (h : HelloMsg) (s : State), m.link < 2 → s.linkUp m.link = true → s.joined = true → s.helloError m.link h = none → h.echo = false →
    h.hasTable = false →
    Gives (.hello m h) s fun t =>
      t.ring = s.ring ∧ t.net.waiting.length = s.net.waiting.length + 1 ∧
      t.net.waiting.getLast?.any (fun f => decide (word f.words 0 = 4) && decide (f.owner = m.link) && (word f.words 9).testBit 0) = true ∧
      t.streams = s.streams ∧ SameRegs [] s t ∧ SameMemory s t) ∧
  (∀ (m : RingHdr) (h : HelloMsg) (s : State), m.link < 2 → s.linkUp m.link = true → s.ring.joining ≠ none →
    h.num * s.fld TK_DEN_DEN ≠ s.fld TK_NUM_NUM * h.den →
    Gives (.hello m h) s fun t => t.ring.joining = none ∧ t.reg .RING_STS = 0 ∧ t.streams = s.streams) ∧
  (∀ (m : RingHdr) (s : State), s.heeds m = true → m.link < 2 →
    Gives (.leave m) s fun t =>
      t.flag RING_STS_PARTITIONED = true ∧ t.flag RING_EVT_NB_LOSS = true ∧ t.joined = true ∧
      OnlyRegs [.RING_STS, .RING_EVT, .IC_PEND, .IC_MERGE_CNT] s t) ∧
  (∀ (m : RingHdr) (k r p o n : Nat) (s : State), s.heeds m = true → k < 2 → s.ring.switch = none → r < 64 → p < 32 →
    Gives (.roleUpdate m k r p o (s.regN .RING_EPOCH + 1) n) s fun t =>
      t.ring = { s.ring with switch := some { kind := k, rsid := r, pos := p, origin := o, epoch := s.regN .RING_EPOCH + 1, tick := n } } ∧
      t.flag RING_STS_SWITCH_PENDING = true ∧ t.streams = s.streams ∧ SameRegs [.RING_STS] s t ∧ SameMemory s t) ∧
  (∀ (m : RingHdr) (k r p o e n : Nat) (s : State), s.heeds m = true → e ≠ s.regN .RING_EPOCH + 1 → Gives (.roleUpdate m k r p o e n) s fun t => Unchanged s t) ∧
  (∀ (m : RingHdr) (x q r e n : Nat) (s : State), s.heeds m = true → r < 64 →
    Gives (.nak m 0x12 x q r e n) s fun t =>
      t.rs r = { s.rs r with askOpen := false } ∧ t.streams = s.streams ∧ SameRegs [] s t ∧ SameMemory s t) ∧
  (∀ (m : RingHdr) (y x q r e n : Nat) (s : State), s.heeds m = true → y ≠ 0x12 → Gives (.nak m y x q r e n) s fun t => Unchanged s t) ∧
  (∀ (k : Nat) (s : State), k < 2 →
    Gives (.messageDiscard k true) s (fun t => t.regN .FL_CRC_CNT k = min 0xFFFFFFFF (s.regN .FL_CRC_CNT k + 1) ∧ t.flag FL_EVT_CRC k = true ∧
      OnlyRegs [.FL_CRC_CNT, .FL_EVT, .IC_PEND, .IC_MERGE_CNT] s t) ∧
    Gives (.messageDiscard k false) s (fun t => t.regN .RING_UNKNOWN_CNT = min 0xFFFFFFFF (s.regN .RING_UNKNOWN_CNT + 1) ∧ OnlyRegs [.RING_UNKNOWN_CNT] s t))

/-- PLAN, DONATE, ASK, GRANT and FINAL at the member that handles them: A member with a ring stream takes the tick, types, target and shares of a PLAN. The picture lead's bank grows by a DONATE and answers an ASK with no more than it holds. A member that is not picture lead drops both as stale. A GRANT for the tick of the picture in flight that is still open raises its cap; one that comes later is counted and, outside CBR mode, carried. A FINAL of the tick being gathered is noted by position. A PLAN not yet sent goes out at T(n) + 1 us, and one already sent changes nothing. -/
def Obligations.RingPicturesArePlannedAndPaid : Prop :=
  (∀ (m : RingHdr) (p : PlanMsg) (h : Nat) (s : State), s.heeds m = true → s.ringStream p.rsid = some h →
    Gives (.plan m p) s fun t =>
      (t.rs p.rsid).planTick = some m.tick ∧ (t.rs p.rsid).keyNow = p.key ∧ (t.rs p.rsid).nextKey = p.nextKey ∧ (t.rs p.rsid).target = p.target ∧
      (t.rs p.rsid).shares = p.shares ∧ t.codec = s.codec ∧ SameMemory s t) ∧
  (∀ (m : RingHdr) (r q n : Nat) (s : State), s.heeds m = true → s.isLead r = true →
    Gives (.donate m r q n) s fun t =>
      t.rs r = { s.rs r with pool := (s.rs r).pool + n } ∧ t.streams = s.streams ∧ t.net = s.net ∧ SameRegs [] s t ∧ SameMemory s t) ∧
  (∀ (m : RingHdr) (r q n : Nat) (s : State), s.heeds m = true → s.isLead r = true → m.src ≠ s.ringPos →
    Gives (.ask m r q n) s fun t =>
      t.rs r = { s.rs r with pool := (s.rs r).pool - min n (s.rs r).pool } ∧ t.net.waiting.length = s.net.waiting.length + 1 ∧
      t.net.waiting.getLast?.any (fun f => decide (f.words = [0x13, 0, s.ringPos, m.src, s.epochAt s.tickIndex, s.tickIndex, r, q, min n (s.rs r).pool])) = true ∧
      t.streams = s.streams ∧ SameRegs [] s t ∧ SameMemory s t) ∧
  (∀ (m : RingHdr) (r q n : Nat) (s : State), s.heeds m = true → s.isLead r = false →
    Gives (.donate m r q n) s (fun t => t.regN .RING_STALE_CNT = min 0xFFFFFFFF (s.regN .RING_STALE_CNT + 1) ∧ t.ring = s.ring ∧ t.streams = s.streams) ∧
    Gives (.ask m r q n) s (fun t => t.regN .RING_STALE_CNT = min 0xFFFFFFFF (s.regN .RING_STALE_CNT + 1) ∧ t.ring = s.ring ∧ t.streams = s.streams)) ∧
  (∀ (m : RingHdr) (r g n h : Nat) (q : EncPic) (s : State), s.heeds m = true → s.ringStream r = some h → s.encOf h = some q → q.passed = false → q.tick = m.tick →
    Gives (.grant m r g n) s fun t =>
      t.encOf h = some { q with cap := q.cap + n } ∧ t.rs r = { s.rs r with askOpen := false, granted := (s.rs r).granted + n } ∧ t.streams = s.streams ∧
      SameMemory s t) ∧
  (∀ (m : RingHdr) (r g n h : Nat) (s : State), s.heeds m = true → s.ringStream r = some h → s.encOf h = none → 0 < n → rateMode (s.stream h).rateCfg ≠ 0 →
    Gives (.grant m r g n) s fun t =>
      t.rs r = { s.rs r with askOpen := false, carry := (s.rs r).carry + n } ∧
      t.regN .RING_TOKEN_LATE_CNT = min 0xFFFFFFFF (s.regN .RING_TOKEN_LATE_CNT + 1) ∧ t.codec = s.codec ∧ t.streams = s.streams) ∧
  (∀ (m : RingHdr) (r f n k x c h : Nat) (s : State), s.heeds m = true → s.isLead r = true → s.ringStream r = some h → (s.rs r).finalTick = m.tick →
    m.tick + 1 ≠ s.tickIndex →
    Gives (.final m r f n k x c) s fun t =>
      t.rs r = { s.rs r with finals := storeInsert (s.rs r).finals m.src { flags := f, bits := n, carry := k, cplx := x, cut := c } } ∧
      t.streams = s.streams ∧ t.codec = s.codec ∧ SameRegs [.RING_RS_POOL] s t ∧ SameMemory s t) ∧
  (∀ (r h : Nat) (s : State), s.flag TK_CTRL_EN = true → s.isLead r = true → (s.rs r).planSent ≠ some s.tickIndex → s.ringStream r = some h →
    (s.stream h).dec = false → (s.stream h).words ≠ [] → (s.stream h).st = .running →
    Gives (.planSendTimeout r) s fun t =>
      (t.rs r).planSent = some s.tickIndex ∧ (t.rs r).planTick = some s.tickIndex ∧ t.net.waiting.length = s.net.waiting.length + 2 ∧
      t.tb.ns = max s.tb.ns (s.tickTime s.tickIndex + 1000)) ∧
  (∀ (r : Nat) (s : State), s.flag TK_CTRL_EN = false ∨ s.isLead r = false ∨ (s.rs r).planSent = some s.tickIndex →
    Gives (.planSendTimeout r) s fun t => Unchanged s t)

/-- HALO, SEAM and BAND messages and their deadlines: A member with a ring stream counts the bytes of a HALO, SEAM_UP or SEAM_DOWN of the tick being gathered; one of an earlier tick changes nothing. At its deadline a halo side that has not arrived is missing, counted once, and one that has arrived or is missing stays. A seam exchange not closed at the deadline of its picture is late and counted. The picture lead adds a BAND of the tick it gathers to the bands it holds, of which those lacking at T(n + 1) are dropped and counted. -/
def Obligations.BordersAreExchangedInTime : Prop :=
  (∀ (m : RingHdr) (d : DataHdr) (h : Nat) (s : State), s.heeds m = true → s.ringStream d.rsid = some h → d.flags % 2 = 1 → (s.rs d.rsid).above.tick = m.tick →
    Gives (.halo m d) s fun t =>
      (t.rs d.rsid).above.bytes = (s.rs d.rsid).above.bytes + d.bytes ∧ (t.rs d.rsid).below = (s.rs d.rsid).below ∧
      (haloBytes (s.stream h).words ≤ (s.rs d.rsid).above.bytes + d.bytes → (s.rs d.rsid).above.missing = false →
        s.tb.ns ≤ s.tickTime m.tick + haloDl (s.stream h).words → (t.rs d.rsid).above.arrived = true) ∧
      t.streams = s.streams ∧ SameRegs [] s t ∧ SameMemory s t) ∧
  (∀ (r k h : Nat) (s : State), s.joined = true → s.flag TK_CTRL_EN = true → s.ringStream r = some h → s.hasSide (k % 2) = true →
    ((s.rs r).side (k % 2)).tick ≠ s.tickIndex →
    Gives (.haloDeadline r k) s fun t =>
      ((t.rs r).side (k % 2)).missing = true ∧ ((t.rs r).side (k % 2)).tick = s.tickIndex ∧
      t.regN .RING_HALO_LATE_CNT = min 0xFFFFFFFF (s.regN .RING_HALO_LATE_CNT + 1) ∧ t.flag RING_EVT_HALO_LATE = true ∧
      t.tb.ns = max s.tb.ns (s.tickTime s.tickIndex + haloDl (s.stream h).words) ∧
      SameRegs [.RING_HALO_LATE_CNT, .RING_EVT, .IC_PEND, .IC_MERGE_CNT] s t) ∧
  (∀ (r k h : Nat) (s : State), s.joined = true → s.flag TK_CTRL_EN = true → s.ringStream r = some h →
    ((s.rs r).side (k % 2)).tick = s.tickIndex → ((s.rs r).side (k % 2)).arrived = true →
    Gives (.haloDeadline r k) s fun t => t.ring = s.ring ∧ SameRegs [] s t ∧ SameMemory s t) ∧
  (∀ (m : RingHdr) (d : DataHdr) (h : Nat) (s : State), s.heeds m = true → s.ringStream d.rsid = some h → (s.rs d.rsid).seamTick = m.tick → s.encOf h = none →
    s.decOf h = none →
    Gives (.seamUp m d) s (fun t => t.rs d.rsid = { s.rs d.rsid with seamUp := (s.rs d.rsid).seamUp + d.bytes } ∧ t.streams = s.streams ∧ SameRegs [] s t) ∧
    Gives (.seamDown m d) s (fun t => t.rs d.rsid = { s.rs d.rsid with seamDown := (s.rs d.rsid).seamDown + d.bytes } ∧ t.streams = s.streams ∧
      SameRegs [] s t)) ∧
  (∀ (m : RingHdr) (d : DataHdr) (h : Nat) (s : State), s.heeds m = true → s.ringStream d.rsid = some h → m.tick < (s.rs d.rsid).seamTick →
    Gives (.seamUp m d) s (fun t => Unchanged s t) ∧ Gives (.seamDown m d) s (fun t => Unchanged s t)) ∧
  (∀ (r h : Nat) (q : EncPic) (s : State), s.ringStream r = some h → s.encOf h = some q → s.seamsClosed (s.stream h) = false → rsid (s.stream h).words = r →
    Gives (.seamDeadline r) s fun t =>
      (t.rs r).seamLate = true ∧ t.regN .RING_SEAM_LATE_CNT = min 0xFFFFFFFF (s.regN .RING_SEAM_LATE_CNT + 1) ∧ t.flag RING_EVT_SEAM_LATE = true ∧
      t.tb.run = max s.tb.run q.dueRun ∧ t.codec = s.codec ∧ SameRegs [.RING_SEAM_LATE_CNT, .RING_EVT, .IC_PEND, .IC_MERGE_CNT] s t) ∧
  (∀ (m : RingHdr) (d : DataHdr) (bs : List Byte) (h : Nat) (s : State), s.heeds m = true → s.isLead d.rsid = true → s.ringStream d.rsid = some h →
    (s.rs d.rsid).fwdTick = m.tick → (s.rs d.rsid).fwdNext < d.index → (s.rs d.rsid).planTick ≠ some m.tick →
    storeFind (s.rs d.rsid).fwd (s.rs d.rsid).fwdNext = none → rsid (s.stream h).words = d.rsid → storeFind (s.rs d.rsid).fwd d.index = none →
    Gives (.band m d bs) s fun t =>
      storeFind (t.rs d.rsid).fwd d.index = some { total := d.total, bytes := d.bytes, flags := d.flags, payload := bs, dropped := false } ∧
      t.streams = s.streams ∧ SameRegs [] s t ∧ SameMemory s t) ∧
  (∀ (r h : Nat) (s : State), s.ringStream r = some h → s.isLead r = false → Gives (.forwardedBandDrop r) s fun t => Unchanged s t) ∧
  (∀ (r h : Nat) (s : State), s.ringStream r = some h → s.isLead r = true → (s.rs r).fwdTick ≠ 0 → (s.rs r).fwd = [] →
    (s.rs r).fwdNext < bandsAbove (s.stream h).codec s.ringSize (s.stream h).words s.ringSize →
    Gives (.forwardedBandDrop r) s fun t =>
      t.regN .RING_FWD_LATE_CNT = min 0xFFFFFFFF (s.regN .RING_FWD_LATE_CNT +
        (bandsAbove (s.stream h).codec s.ringSize (s.stream h).words s.ringSize - (s.rs r).fwdNext)) ∧ t.flag RING_EVT_FWD_LATE = true ∧
      t.tb.ns = max s.tb.ns (s.tickTime ((s.rs r).fwdTick + 1)))

/-- Migration messages copy a stream, hand it over once, and give it back when the commit does not come: At a destination waiting for the copy, the data of the save area, the scout area or the QP maps lands in its reservation and nowhere else. A COMMIT_REQ up to the end of tick f + 3 makes the source give the stream away: its record is RELEASED, the handle FREE. One for a migration the source has no record of is answered with MIG_ABORT. The acknowledgement makes a destination in COMMIT_REQ own the stream, CONFIGURED; one in another step stays. A query is answered with the step. An abort releases a destination still filling. The source that hears no commit takes its stream back, RUNNING, and a destination that hears nothing releases its handle. A peer's unordered write outside the mailbox and outside the reservation of a migration from that peer changes no memory: it records FS28 and is answered as an unsupported request; inside it writes its bytes and no others. -/
def Obligations.MigrationsMoveAStream : Prop :=
  (∀ (m : RingHdr) (d : MigData) (h : Nat) (s : State), s.heeds m = true → s.findMig 2 d.id (s.msgPeer m) = some h → (s.mig h).step = 2 →
    2 ≤ d.region → d.region ≤ 4 → d.whole = false →
    Gives (.migData m d) s fun t =>
      t.load .device (regionBase (s.stream h).res d.region + d.offset) d.data.length = d.data ∧
      OnlyBytes .device (regionBase (s.stream h).res d.region + d.offset) d.data.length s t ∧ (t.mig h).step = 2 ∧ (t.mig h).heard = true ∧
      t.streams = s.streams ∧ SameRegs [] s t) ∧
  (∀ (m : RingHdr) (i g h : Nat) (s : State), s.heeds m = true → s.findMig 1 i (s.msgPeer m) = some h → (s.mig h).step = 1 →
    s.tickIndex ≤ (s.mig h).freeze + 3 →
    Gives (.migCommitReq m i g) s fun t =>
      (t.mig h).step = 6 ∧ (t.mig h).peerHandle = g ∧ (t.mig h).lastTick = s.tickIndex ∧ t.stream h = {} ∧ t.flag RING_EVT_MIG = true ∧ SameMemory s t) ∧
  (∀ (m : RingHdr) (i g : Nat) (s : State), s.heeds m = true → s.sameRing (s.msgPeer m) = true → s.findMig 1 i (s.msgPeer m) = none →
    Gives (.migCommitReq m i g) s fun t =>
      t = settle { s with net := { s.net with waiting := t.net.waiting } } ∧ t.net.waiting.length = s.net.waiting.length + 1 ∧
      t.net.waiting.getLast?.any (fun f => decide (f.words = [0x44, 0, s.ringPos, m.src, s.epochAt s.tickIndex, s.tickIndex, i, 0, 0xFFFF])) = true) ∧
  (∀ (m : RingHdr) (i h : Nat) (s : State), s.heeds m = true → s.findMig 2 i (s.msgPeer m) = some h → (s.mig h).step = 3 → (s.mig h).after = none →
    Gives (.migCommitAck m i) s fun t =>
      (t.mig h).step = 5 ∧ (t.stream h).st = .configured ∧ t.flag RING_EVT_MIG = true ∧ (∀ k, k ≠ h → t.stream k = s.stream k)) ∧
  (∀ (m : RingHdr) (i h : Nat) (s : State), s.heeds m = true → s.findMig 2 i (s.msgPeer m) = some h → (s.mig h).step ≠ 3 →
    Gives (.migCommitAck m i) s fun t => Unchanged s t) ∧
  (∀ (m : RingHdr) (i x h : Nat) (s : State), s.heeds m = true → s.sameRing (s.msgPeer m) = true → s.findMig 1 i (s.msgPeer m) = some h →
    (s.mig h).heard = true → (s.mig h).step = 1 ∨ (s.mig h).step = 4 ∨ (s.mig h).step = 6 →
    Gives (.migQuery m i x false) s fun t =>
      t = settle { s with net := { s.net with waiting := t.net.waiting } } ∧ t.net.waiting.length = s.net.waiting.length + 1 ∧
      t.net.waiting.getLast?.any (fun f => decide (f.words =
        [0x43, 0, s.ringPos, m.src, s.epochAt s.tickIndex, s.tickIndex, i, (s.mig h).step, 1])) = true) ∧
  (∀ (m : RingHdr) (i x h : Nat) (s : State), s.heeds m = true → s.findMig 2 i (s.msgPeer m) = some h → (s.mig h).step = 3 → (s.mig h).after = none →
    x = 4 ∨ x = 6 →
    Gives (.migQuery m i x true) s fun t => (t.mig h).step = 5 ∧ (t.stream h).st = .configured ∧ t.flag RING_EVT_MIG = true) ∧
  (∀ (m : RingHdr) (i x h : Nat) (s : State), s.heeds m = true → s.findMig 2 i (s.msgPeer m) = some h → (s.mig h).step = 2 → (s.mig h).after = none →
    Gives (.migAbort m i x) s fun t => (t.mig h).step = 8 ∧ t.stream h = {} ∧ t.flag RING_EVT_MIG = true) ∧
  (∀ (h : Nat) (s : State), (s.mig h).role = 1 → (s.mig h).step = 1 →
    Gives (.migrationTimeout h) s fun t =>
      (t.mig h).step = 8 ∧ ((s.stream h).st = .migrating → (t.stream h).st = .running) ∧ t.flag RING_EVT_MIG = true ∧
      t.tb.ns = max s.tb.ns (s.tickTime ((s.mig h).freeze + 4)) ∧ (∀ k, k ≠ h → t.stream k = s.stream k) ∧
      SameRegs [.RING_EVT, .IC_PEND, .IC_MERGE_CNT] s t ∧ SameMemory s t) ∧
  (∀ (h : Nat) (s : State), (s.mig h).role ≠ 1 ∨ (s.mig h).step ≠ 1 → Gives (.migrationTimeout h) s fun t => Unchanged s t) ∧
  (∀ (h : Nat) (s : State), (s.mig h).role = 2 → (s.mig h).step = 2 → (s.mig h).heard = false → (s.mig h).after = none →
    Gives (.migrateInTimeout h) s fun t =>
      (t.mig h).step = 8 ∧ t.stream h = {} ∧ t.flag RING_EVT_MIG = true ∧ t.tb.ns = max s.tb.ns (s.tickTime ((s.mig h).freeze + 5))) ∧
  (∀ (h : Nat) (s : State), (s.mig h).role ≠ 2 ∨ (s.mig h).step ≠ 2 ∨ (s.mig h).heard = true → Gives (.migrateInTimeout h) s fun t => Unchanged s t) ∧
  (∀ (p a : Nat) (d : List (BitVec 8)) (x : Option MigMail) (s : State), s.uioTarget p a d.length = false →
    Gives (.uioWriteReceive p a d x) s fun t =>
      t.sent = Sent.completion false true :: s.sent ∧ (t.reg .FC_STATUS).getLsbD 28 = true ∧
      t.reg .FC_LAST = faultRecord 28 p false s.tickIndex ∧
      OnlyRegs faultOnly { s with sent := Sent.completion false true :: s.sent } t) ∧
  (∀ (p a : Nat) (d : List (BitVec 8)) (x : Option MigMail) (s : State), s.uioTarget p a d.length = true →
    a ≠ s.hdmSize - 65536 + 64 * (p % 1024) →
    Gives (.uioWriteReceive p a d x) s fun t =>
      t.load .device a d.length = d ∧ OnlyBytes .device a d.length s t ∧ t = settle { s with mem := t.mem })

/-- Lane groups, lanes under test, Fulet links, Ethernet ports and the lanes' reference clock: PF0 gives an unused lane group a new use: its lanes go OFF or to RESET; a group in use keeps its use and shows CFG_ERR. ONE of LN_PRBS_INJ inverts one bit; a checker that loses lock counts its errors. A Fulet link that goes down retrains and partitions a joined ring; one that finishes is UP, its lanes LOCKED. A ready port comes up, and goes down with its faults shown. A frame on a port that is down does nothing; bad FCS, over-long and unmatched frames are counted; a selected PTP frame enters the receive ring; a flow counts its packet. The servo owner's tail write queues a PTP frame. Loss of the lanes' reference takes every port and link down. -/
def Obligations.LanesAndPortsComeAndGo : Prop :=
  (∀ (a : Agent) (g : Nat) (v : Word) (s : State), s.actsAsPf0 a = true → s.groupLanes g ≠ [] → s.groupInUse g = false →
    v.toNat % 4 ≠ s.fld LN_GRP_CFG_USE g →
    Gives (.lnGrpCfgWrite a g v) s fun t =>
      t.fld LN_GRP_CFG_USE g = v.toNat % 4 ∧ t.flag ETH_STS_CFG_ERR (s.groupPort g) = false ∧
      (∀ l : Nat, l < 16 → l / 4 = g → s.lanePresent l = true → t.fld LN_STS_STATE l = (if t.groupUse g = 0 then 0 else 1) ∧ storeFind t.prbs l = none) ∧
      t.streams = s.streams) ∧
  (∀ (a : Agent) (g : Nat) (v : Word) (s : State), s.actsAsPf0 a = true → s.groupLanes g ≠ [] → s.groupInUse g = true →
    Gives (.lnGrpCfgWrite a g v) s fun t => t.flag ETH_STS_CFG_ERR (s.groupPort g) = true ∧ OnlyRegs [.ETH_STS] s t) ∧
  (∀ (f g : Nat) (v : Word) (s : State), f ≠ 0 →
    Gives (.lnGrpCfgWrite (.func f) g v) s (fun t => Unchanged s t) ∧ Gives (.lnPrbsInjWrite (.func f) g v) s fun t => Unchanged s t) ∧
  (∀ (a : Agent) (l : Nat) (v : Word) (s : State), s.actsAsPf0 a = true → l < 16 → s.underTest l = true →
    Gives (.lnPrbsInjWrite a l v) s fun t =>
      t.regN .LN_PRBS_INJ l = v.toNat / 65536 * 65536 ∧ t.sent = (if v.toNat % 2 = 1 then Sent.bitError l :: s.sent else s.sent) ∧
      OnlyRegs [.LN_PRBS_INJ] { s with sent := t.sent } t) ∧
  (∀ (l n : Nat) (s : State), s.underTest l = true → s.flag LN_PRBS_CFG_RX_EN l = true → storeFind s.prbs l = none →
    Gives (.prbsCheckerLock l true n) s fun t => storeFind t.prbs l = some true ∧ t = settle { s with prbs := t.prbs }) ∧
  (∀ (l n : Nat) (s : State), s.underTest l = true → s.flag LN_PRBS_CFG_RX_EN l = true → storeFind s.prbs l = some true →
    Gives (.prbsCheckerLock l false n) s fun t =>
      storeFind t.prbs l = none ∧ t.regN .LN_PRBS_ERR l = min 0xFFFFFFFF (s.regN .LN_PRBS_ERR l + n) ∧ t.flag LN_EVT_PRBS_LOSS l = true ∧
      OnlyRegs [.LN_PRBS_ERR, .LN_EVT, .IC_PEND, .IC_MERGE_CNT] { s with prbs := t.prbs } t) ∧
  (∀ (k : Nat) (s : State), k < 2 → s.linkUp k = true →
    Gives (.fuletLinkDown k) s fun t =>
      t.reg .FL_STS k = 1 ∧ t.regN .FL_RETRAIN_CNT k = min 0xFFFFFFFF (s.regN .FL_RETRAIN_CNT k + 1) ∧ t.flag FL_EVT_DOWN k = true ∧
      (s.joined = true → t.flag RING_STS_PARTITIONED = true ∧ t.flag RING_EVT_NB_LOSS = true) ∧ t.streams = s.streams) ∧
  (∀ (k n x : Nat) (f d e r : Bool) (s : State), 2 ≤ k ∨ s.linkUp k = false →
    Gives (.fuletLinkDown k) s (fun t => Unchanged s t) ∧ (2 ≤ k ∨ s.fld FL_STS_STATE k = 0 → Gives (.fuletLinkUp k n f d e r x) s fun t => Unchanged s t)) ∧
  (∀ (k n x : Nat) (f d e r : Bool) (s : State), k < 2 → s.fld FL_STS_STATE k ≠ 0 → s.fld FL_STS_STATE k ≠ 5 → s.groupUse (linkGroup k) = 2 →
    Gives (.fuletLinkUp k n f d e r x) s fun t =>
      t.fld FL_STS_STATE k = 5 ∧ t.flag FL_EVT_UP k = true ∧ (d = true → t.flag FL_EVT_DEGRADED k = true) ∧
      (e = true → t.flag FL_EVT_STEP_FAIL k = true) ∧
      ((s.groupLanes (linkGroup k)).take (2 ^ min (min n 2) (min 2 (s.fld FL_CFG_LANES k)))).all (fun l => t.fld LN_STS_STATE l == 3) = true ∧
      t.streams = s.streams ∧ t.flows = s.flows ∧ SameMemory s t) ∧
  (∀ (p x : Nat) (s : State), p < 4 → s.flag ETH_STS_LINK p = false → s.portReady p = true →
    Gives (.ethLinkChange p true x) s fun t =>
      t.flag ETH_STS_LINK p = true ∧ t.flag ETH_EVT_LINK p = true ∧ (∀ l ∈ s.portLanes p, t.fld LN_STS_STATE l = 3) ∧
      t.streams = s.streams ∧ t.flows = s.flows ∧ t.net = s.net ∧ SameMemory s t ∧ SameRegs [.ETH_STS, .ETH_EVT, .LN_STS, .IC_PEND, .IC_MERGE_CNT] s t) ∧
  (∀ (p x : Nat) (s : State), p < 4 → s.flag ETH_STS_LINK p = true → s.portPresent p = true →
    Gives (.ethLinkChange p false x) s fun t =>
      t.flag ETH_STS_LINK p = false ∧ t.fld ETH_STS_LOCAL_FAULT p = x % 2 ∧ t.fld ETH_STS_REMOTE_FAULT p = x / 2 % 2 ∧
      t.flag ETH_EVT_LINK p = true ∧ t.streams = s.streams) ∧
  (∀ (p x : Nat) (s : State), 4 ≤ p ∨ (s.flag ETH_STS_LINK p = false ∧ s.portReady p = false) →
    Gives (.ethLinkChange p true x) s fun t => Unchanged s t) ∧
  (∀ (p n : Nat) (f : RxFrame) (s : State), 4 ≤ p ∨ s.flag ETH_STS_LINK p = false → Gives (.ethFrameReceive p n f) s fun t => Unchanged s t) ∧
  (∀ (p n : Nat) (s : State), p < 4 → s.flag ETH_STS_LINK p = true →
    Gives (.ethFrameReceive p n .badFcs) s fun t =>
      t.regN .ETH_FCS_CNT p = min 0xFFFFFFFF (s.regN .ETH_FCS_CNT p + 1) ∧ t.flag ETH_EVT_FCS p = true ∧
      OnlyRegs [.ETH_FCS_CNT, .ETH_EVT, .IC_PEND, .IC_MERGE_CNT] s t) ∧
  (∀ (p n : Nat) (f : RxFrame) (s : State), p < 4 → s.flag ETH_STS_LINK p = true → f ≠ .badFcs → s.maxFrame p < n →
    Gives (.ethFrameReceive p n f) s fun t =>
      t.regN .ETH_RX_DROP_CNT p = min 0xFFFFFFFF (s.regN .ETH_RX_DROP_CNT p + 1) ∧ t.regN .ETH_RX_FRAMES p = min 0xFFFFFFFF (s.regN .ETH_RX_FRAMES p + 1) ∧
      t.flag ETH_EVT_RX_DROP p = true ∧ OnlyRegs [.ETH_RX_DROP_CNT, .ETH_RX_FRAMES, .ETH_EVT, .IC_PEND, .IC_MERGE_CNT] s t) ∧
  (∀ (p n x d : Nat) (bs : List (BitVec 8)) (s : State), p < 4 → s.flag ETH_STS_LINK p = true → n ≤ s.maxFrame p →
    (s.regN .ARB_MASK).testBit (24 + p) = false → s.ptpSelects p x d = true → bs.length ≤ 224 →
    (s.regN .PTP_RX_TAIL p % 64 + 1) % 64 ≠ s.regN .PTP_RX_HEAD p % 64 →
    Gives (.ethFrameReceive p n (.ptp x d bs)) s fun t =>
      t.regN .PTP_RX_TAIL p = (s.regN .PTP_RX_TAIL p % 64 + 1) % 64 ∧ t.flag ETH_EVT_PTP_RX p = true ∧
      t.load .device (s.ptpRx p (s.regN .PTP_RX_TAIL p % 64) + 32) bs.length = bs ∧
      OnlyBytes .device (s.ptpRx p (s.regN .PTP_RX_TAIL p % 64)) (32 + bs.length) s t ∧
      SameRegs [.PTP_RX_TAIL, .ETH_RX_FRAMES, .ETH_EVT, .IC_PEND, .IC_MERGE_CNT] s t ∧ t.flows = s.flows ∧ t.streams = s.streams) ∧
  (∀ (p n h : Nat) (w : Flow) (x : RxPkt) (s : State), p < 4 → s.flag ETH_STS_LINK p = true → n ≤ s.maxFrame p →
    (s.regN .ARB_MASK).testBit (24 + p) = false → (s.flows.find? fun e => isIngest e.1 && e.2.live && matchesFlow e.2.words x) = some (h, w) →
    Gives (.ethFrameReceive p n (.rtp x)) s fun t =>
      (t.flow h).packets = min 0xFFFFFFFF ((s.flow h).packets + 1) ∧ (t.flow h).bytes = min (2 ^ 64 - 1) ((s.flow h).bytes + n) ∧
      (∀ e, e ≠ h → t.flow e = s.flow e)) ∧
  (∀ (a : Agent) (p : Nat) (v : Word) (s : State), p < 4 → s.actsAsPf0 a = true → s.servoOwner a = true → s.flag ETH_STS_LINK p = true →
    v.toNat % 16 = (s.regN .PTP_TX_TAIL p % 16 + 1) % 16 → leNat (s.load .device (s.ptpTx p (s.regN .PTP_TX_TAIL p % 16)) 2) ≤ 224 →
    Gives (.ptpTxTailWrite a p v) s fun t =>
      t.regN .PTP_TX_TAIL p = v.toNat % 16 ∧
      t.net.waiting = s.net.waiting ++ [{ queue := 2048 + p, bytes := max 64 (leNat (s.load .device (s.ptpTx p (s.regN .PTP_TX_TAIL p % 16)) 2) + 4), kind := 2, owner := p, words := [s.regN .PTP_TX_TAIL p % 16] }] ∧
      OnlyRegs [.PTP_TX_TAIL] { s with net := t.net } t) ∧
  (∀ (f p : Nat) (v : Word) (s : State), s.servoOwner (.func f) = false → Gives (.ptpTxTailWrite (.func f) p v) s fun t => Unchanged s t) ∧
  (∀ s : State, s.tb.refLost = false →
    Gives .refclkLaneLoss s fun t =>
      t.tb.refLost = true ∧ t.flag TB_STATUS_CLK_ALT = true ∧ (∀ p : Nat, p < 4 → t.flag ETH_STS_LINK p = false) ∧
      t.linkUp 0 = false ∧ t.linkUp 1 = false ∧ t.streams = s.streams) ∧
  (∀ s : State, s.tb.refLost = true →
    Gives .refclkLaneLoss s (fun t => Unchanged s t) ∧
    Gives .refclkLaneReturn s fun t =>
      t.tb.refLost = false ∧ (s.groupUse 1 = 2 → s.joined = true → t.reg .FL_STS 0 = 1) ∧ (s.groupUse 3 = 2 → s.joined = true → t.reg .FL_STS 1 = 1) ∧
      SameRegs [.FL_STS, .LN_STS] s t ∧ t.streams = s.streams ∧ t.flows = s.flows ∧ SameMemory s t) ∧
  (∀ s : State, s.tb.refLost = false → Gives .refclkLaneReturn s fun t => Unchanged s t)

/-- Gate lists switch, frames take cells, queue, are sent, flushed or dropped: At its instant the admin list becomes the oper list; the entry in force follows time. A frame that waits takes its cells and joins its queue when there is room; without room a relayed one is dropped and counted, another waits. A packet of a released record joins its flow's queue, or counts as dropped when the port is down. An eligible frame starts: it is sent, leaves its queue and is counted by its flow; at its end its cells return. A flush empties a queue and returns its cells. A corrected cell error is counted; an uncorrectable one records FS18, and one of a link entry takes the queue out until the sweep. HALO and SEAM messages of past ticks leave queue and wait. -/
def Obligations.CellsQueuesAndGatesMoveFrames : Prop :=
  (∀ (g w : Nat) (s : State), (s.list g).pending = some w → (s.list g).admin.lock = false → (s.list g).after = none →
    Gives (.gateListSwitch g) s fun t =>
      (t.list g).oper = (if (s.list g).admin.entries = [] then none else some (s.list g).admin) ∧ (t.list g).pending = none ∧
      (t.list g).start = max s.tb.ns w ∧ t.tb.ns = max s.tb.ns w ∧ t.flag GT_EVT_SWITCH g = true ∧ t.net = s.net ∧ t.flows = s.flows ∧ SameMemory s t ∧
      SameRegs [.GT_OPER, .GT_STS, .GT_COUNT, .GT_CYCLE, .GT_BASE_SEC, .GT_BASE_NS, .GT_SWITCH_SEC, .GT_SWITCH_NS, .GT_EVT, .IC_PEND, .IC_MERGE_CNT] s t) ∧
  (∀ (g : Nat) (s : State), (s.list g).pending = none ∨ (s.list g).admin.lock = true → Gives (.gateListSwitch g) s fun t => Unchanged s t) ∧
  (∀ (g : Nat) (c : GateCopy) (s : State), (s.list g).oper = some c → c.lock = false → c.entries.length ≤ 256 →
    Gives (.gateEntryChange g) s fun t =>
      t.tb.ns = max s.tb.ns (s.entryEnd c (s.list g).start) ∧ t.traffic = s.traffic ∧ t.fld GT_STS_GATES g = (t.gatesNow g).1 ∧ t.net = s.net ∧
      SameMemory s t ∧ SameRegs [.GT_STS, .GT_COUNT, .GT_CYCLE, .GT_BASE_SEC, .GT_BASE_NS, .GT_SWITCH_SEC, .GT_SWITCH_NS] s t) ∧
  (∀ (g : Nat) (s : State), (s.list g).oper = none → Gives (.gateEntryChange g) s fun t => Unchanged s t) ∧
  (∀ (k q : Nat) (f : Frame) (rest : List Frame) (s : State), k < 6 → storeFind s.net.sending k = none → s.canSend k = true → s.portQueues k = [q] →
    q < 2048 → s.frames q = f :: rest → f.kind = 0 → s.eligible k q = true → s.oversize k (s.queueClass q) f.bytes = false →
    Gives (.frameSelect k) s fun t =>
      (storeFind t.net.sending k).any (fun x => decide (x.1 = f)) = true ∧ (t.frames q).map (·.words) = rest.map (·.words) ∧
      (t.flow q).packets = min 0xFFFFFFFF ((s.flow q).packets + 1) ∧ (t.flow q).bytes = min (2 ^ 64 - 1) ((s.flow q).bytes + f.bytes) ∧
      t.sent = Sent.frame k q f.bytes :: s.sent ∧ t.fld CELLQ_STS_FREE = s.fld CELLQ_STS_FREE ∧ t.streams = s.streams ∧ SameMemory s t) ∧
  (∀ (k x : Nat) (f : Frame) (s : State), k < 6 → storeFind s.net.sending k = some (f, x) → f.kind = 0 → s.net.flushing = [] → s.canSend k = true →
    s.portQueues k = [] →
    Gives (.frameSelect k) s fun t =>
      storeFind t.net.sending k = none ∧ t.fld CELLQ_STS_FREE = min 16384 (s.fld CELLQ_STS_FREE + f.cells) ∧ t.tb.run = max s.tb.run x ∧
      t.flows = s.flows ∧ t.streams = s.streams ∧ SameRegs [.CELLQ_STS, .CELLQ_Q_DEPTH] s t ∧ SameMemory s t) ∧
  (∀ (k : Nat) (s : State), 6 ≤ k ∨ (storeFind s.net.sending k = none ∧ s.portQueues k = []) → Gives (.frameSelect k) s fun t => Unchanged s t) ∧
  (∀ (q : Nat) (f : Frame) (s : State), s.net.waiting.find? (fun x => x.queue == q) = some f → s.cellRoom q f.cells = true →
    Gives (.cellEnqueue (.queue q)) s fun t =>
      t.frames q = s.frames q ++ [{ f with headAt := s.tb.run }] ∧ t.net.waiting = s.net.waiting.erase f ∧
      t.fld CELLQ_STS_FREE = s.fld CELLQ_STS_FREE - f.cells ∧ t.flows = s.flows ∧ t.streams = s.streams ∧
      SameRegs [.CELLQ_STS, .CELLQ_Q_DEPTH, .CELLQ_EVT, .ARB_STS, .IC_PEND, .IC_MERGE_CNT] s t ∧ SameMemory s t) ∧
  (∀ (q : Nat) (f : Frame) (s : State), s.net.waiting.find? (fun x => x.queue == q) = some f → s.cellRoom q f.cells = false →
    (f.kind ≠ 2 → f.relayed = true → Gives (.cellEnqueue (.queue q)) s fun t =>
      t.regN .CELLQ_Q_DROP_CNT q = min 0xFFFFFFFF (s.regN .CELLQ_Q_DROP_CNT q + 1) ∧ t.flag CELLQ_EVT_DROP = true ∧
      t.net.waiting = s.net.waiting.erase f ∧
      OnlyRegs [.CELLQ_Q_DROP_CNT, .CELLQ_EVT, .IC_PEND, .IC_MERGE_CNT] { s with net := t.net } t) ∧
    (f.kind ≠ 2 → f.relayed = false → Gives (.cellEnqueue (.queue q)) s fun t => Unchanged s t)) ∧
  (∀ (h : Nat) (us : List Nat) (s : State), s.unsentOf h = none → Gives (.cellEnqueue (.packet h us)) s fun t => Unchanged s t) ∧
  (∀ (h f b o l n : Nat) (us more : List Nat) (rest : List (Nat × Nat)) (s : State), s.unsentOf h = some (false, f, b, (o, l) :: rest, n :: more) →
    (s.flow f).live = true → (word (s.flow f).words 0).testBit 4 = false → s.flag ETH_STS_LINK (word (s.flow f).words 0 % 4) = true →
    s.cellRoom f (ceilDiv (packetBytes (s.flow f).words n) 256) = true →
    Gives (.cellEnqueue (.packet h us)) s fun t =>
      (t.flow f).sentPkts = (s.flow f).sentPkts + 1 ∧ (t.frames f).length = (s.frames f).length + 1 ∧
      (t.frames f).getLast?.any (fun x => decide (x.bytes = packetBytes (s.flow f).words n) && decide (x.owner = h)) = true ∧
      (t.stream h).pkts = more ∧ (t.stream h).unsent = (if more = [] then rest else (o, l) :: rest) ∧
      t.fld CELLQ_STS_FREE = s.fld CELLQ_STS_FREE - ceilDiv (packetBytes (s.flow f).words n) 256 ∧ SameMemory s t ∧
      (∀ k, k ≠ h → t.stream k = s.stream k) ∧ (∀ e, e ≠ f → t.flow e = s.flow e)) ∧
  (∀ (h f b o l n : Nat) (us more : List Nat) (rest : List (Nat × Nat)) (s : State), s.unsentOf h = some (false, f, b, (o, l) :: rest, n :: more) →
    (s.flow f).live = true → (word (s.flow f).words 0).testBit 4 = false → s.flag ETH_STS_LINK (word (s.flow f).words 0 % 4) = false →
    Gives (.cellEnqueue (.packet h us)) s fun t =>
      (t.flow f).dropped = min 0xFFFFFFFF ((s.flow f).dropped + 1) ∧ (t.flow f).sentPkts = (s.flow f).sentPkts + 1 ∧ t.net = s.net ∧
      (t.stream h).pkts = more ∧ SameRegs [.ARB_STS] s t ∧ SameMemory s t) ∧
  (∀ (a : Agent) (v : Word) (s : State), s.actsAsPf0 a = true → v.toNat % 4096 < 2060 →
    Gives (.cellqFlushWrite a v) s fun t =>
      t.frames (v.toNat % 4096) = [] ∧ t.regN .CELLQ_FLUSH = v.toNat % 4096 ∧
      t.fld CELLQ_STS_FREE = min 16384 (s.fld CELLQ_STS_FREE + ((s.frames (v.toNat % 4096)).map Frame.cells).sum) ∧
      (s.flying (v.toNat % 4096) = [] → t.flag CELLQ_EVT_FLUSHED = true) ∧ t.flows = s.flows ∧ t.streams = s.streams) ∧
  (∀ (f : Nat) (v : Word) (s : State), f ≠ 0 → Gives (.cellqFlushWrite (.func f) v) s fun t => Unchanged s t) ∧
  (∀ (q c : Nat) (s : State),
    Gives (.cellLinkError q c .corrected) s fun t =>
      t.regN .CELLQ_CE_CNT = min 0xFFFFFFFF (s.regN .CELLQ_CE_CNT + 1) ∧ t.flag CELLQ_EVT_CE = true ∧
      OnlyRegs [.CELLQ_CE_CNT, .CELLQ_EVT, .IC_PEND, .IC_MERGE_CNT] s t) ∧
  (∀ (q c : Nat) (s : State), q < 2048 → s.flying q ≠ [] →
    Gives (.cellLinkError q c .data) s fun t =>
      t.regN .CELLQ_UE_CNT = min 0xFFFFFFFF (s.regN .CELLQ_UE_CNT + 1) ∧ t.flag CELLQ_EVT_UE = true ∧
      t.reg .FC_LAST = faultRecord 18 (c % 16384) false s.tickIndex ∧ (t.flow q).dropped = min 0xFFFFFFFF ((s.flow q).dropped + 1) ∧
      t.regN .SH_DROP_CNT q = min 0xFFFFFFFF (s.regN .SH_DROP_CNT q + 1) ∧ (∀ e, e ≠ q → t.flow e = s.flow e) ∧ t.net = s.net ∧ SameMemory s t ∧
      SameRegs ([.CELLQ_UE_CNT, .CELLQ_ERR_CELL, .CELLQ_EVT, .SH_DROP_CNT] ++ faultOnly) s t) ∧
  (∀ (q c : Nat) (s : State),
    Gives (.cellLinkError q c .link) s fun t =>
      t.frames q = [] ∧ t.fld CELLQ_STS_FREE = s.fld CELLQ_STS_FREE ∧ t.net.sweep = some (q, ((s.frames q).map Frame.cells).sum, s.tb.run) ∧
      t.regN .CELLQ_UE_CNT = min 0xFFFFFFFF (s.regN .CELLQ_UE_CNT + 1) ∧ t.reg .FC_LAST = faultRecord 18 (c % 16384) false s.tickIndex ∧
      t.flows = s.flows ∧ t.streams = s.streams) ∧
  (∀ (b q n x : Nat) (s : State), s.net.sweep = some (q, n, x) →
    Gives (.cellSweepDone b) s fun t =>
      t.net.sweep = none ∧ t.fld CELLQ_STS_FREE = min 16384 (s.fld CELLQ_STS_FREE + (n - b)) ∧ t.flag CELLQ_EVT_SWEEP = true ∧
      t.tb.run = max s.tb.run (x + 13108) ∧ (b ≠ 0 → t.regN .CELLQ_QUAR_CNT = min 0xFFFFFFFF (s.regN .CELLQ_QUAR_CNT + b)) ∧
      SameRegs [.CELLQ_STS, .CELLQ_QUAR_CNT, .CELLQ_EVT, .IC_PEND, .IC_MERGE_CNT] s t ∧ SameMemory s t ∧ t.flows = s.flows) ∧
  (∀ (b : Nat) (s : State), s.net.sweep = none → Gives (.cellSweepDone b) s fun t => Unchanged s t) ∧
  (∀ s : State, s.net.queued = [] →
    Gives .staleHaloDrop s fun t => t = settle { s with net := { s.net with waiting := s.net.waiting.filter fun f => !s.staleHalo f } }) ∧
  (∀ (q : Nat) (l : List Frame) (s : State), s.net.queued = [(q, l)] → l.filter s.staleHalo ≠ [] →
    Gives .staleHaloDrop s fun t =>
      (t.frames q).map (·.words) = (l.filter fun f => !s.staleHalo f).map (·.words) ∧
      t.net.waiting = (s.net.waiting.filter fun f => !s.staleHalo f) ∧
      t.fld CELLQ_STS_FREE = min 16384 (s.fld CELLQ_STS_FREE + ((l.filter s.staleHalo).map Frame.cells).sum) ∧ t.flows = s.flows ∧
      t.streams = s.streams ∧ SameRegs [.CELLQ_STS, .CELLQ_Q_DEPTH] s t ∧ SameMemory s t)

/-- Memory requests are granted and complete; errors are counted and pages retired: A request that stands alone in a free controller group is granted at once; behind a frozen arbiter, a mask or a burst it waits; SC0 beyond 8,000 bytes in a microsecond is counted. The end of a burst lets the next candidate in, or leaves the arbiter drained; a holder keeps its grant up to HOLD_MAX. A write burst lands at its address and nowhere else, a read returns its bytes; corrected and uncorrectable bursts are counted, the latter recorded as FS3. A CRC error is repeated three times, then the channel retrains, or is FAILED when that fails. Refresh shows the temperature reports, retraining keeps its distances, and a finished page copy puts its entry in force. -/
def Obligations.DeviceMemoryIsServed : Prop :=
  (∀ (r : MemAccess) (s : State), s.canRequest r = true → r.sc ≠ 0 → s.cxl.snoop = [] → s.memctl.waiting = [] →
    s.memctl.groups.contains (s.groupOf r.addr) = false → s.arbFrozen 0 = false → s.maskedAt r.src = false →
    Gives (.memoryRequest r) s fun t =>
      t.memctl.bursts = s.memctl.bursts ++ [{ src := r.src, sc := r.sc, addr := r.addr, bytes := r.bytes, data := r.data, since := s.tb.run, granted := s.tb.run }] ∧
      t.memctl.waiting = [] ∧ t.memctl.groups = s.memctl.groups ++ [s.groupOf r.addr] ∧ t.fld ARB_STS_LAST_GRANT = r.src ∧
      OnlyRegs [.ARB_STS] { s with memctl := t.memctl, arbPtr := t.arbPtr } t) ∧
  (∀ (r : MemAccess) (s : State), s.canRequest r = true → r.sc ≠ 0 → s.cxl.snoop = [] → s.memctl.waiting = [] →
    s.memctl.groups.contains (s.groupOf r.addr) = true ∨ s.arbFrozen 0 = true ∨ s.maskedAt r.src = true →
    Gives (.memoryRequest r) s fun t =>
      t.memctl = { s.memctl with waiting := [{ src := r.src, sc := r.sc, addr := r.addr, bytes := r.bytes, data := r.data, since := s.tb.run }] } ∧
      t = settle { s with memctl := t.memctl }) ∧
  (∀ (r : MemAccess) (s : State), s.canRequest r = true → r.sc = 0 → 8000 < s.sc0Demand (s.channelOf r.addr) + r.bytes →
    Gives (.memoryRequest r) s fun t =>
      t.regN .MC_SC0_OVER_CNT = min 0xFFFFFFFF (s.regN .MC_SC0_OVER_CNT + 1) ∧ SameRegs [.MC_SC0_OVER_CNT, .ARB_STS] s t ∧ SameMemory s t) ∧
  (∀ (r : MemAccess) (s : State), s.canRequest r = false → Gives (.memoryRequest r) s fun t => Unchanged s t) ∧
  (∀ (g c n : Nat) (h : Bool) (s : State), s.memctl.waiting = [] → s.memctl.groups = [g] →
    Gives (.arbBurstEnd 0 g c h n) s fun t =>
      t.memctl = { s.memctl with groups := [] } ∧ t.flag ARB_STS_DRAINED = true ∧
      OnlyRegs [.ARB_STS, .ARB_EVT, .IC_PEND, .IC_MERGE_CNT] { s with memctl := t.memctl } t) ∧
  (∀ (i g c n r : Nat) (s : State), 0 < i → i < 8 → s.arbFrozen i = false → arbFirst (arbRequesters i) ((storeFind s.arbPtr i).getD 0) c = some r →
    Gives (.arbBurstEnd i g c false n) s fun t =>
      t.fld ARB_STS_LAST_GRANT i = r ∧ t.flag ARB_STS_DRAINED i = false ∧ (storeFind t.arbPtr i).getD 0 = (r + 1) % arbRequesters i ∧
      OnlyRegs [.ARB_STS] { s with arbPtr := t.arbPtr } t) ∧
  (∀ (i g c n : Nat) (h : Bool) (s : State), 0 < i → i < 8 → s.arbFrozen i = true →
    Gives (.arbBurstEnd i g c h n) s fun t =>
      t.flag ARB_STS_DRAINED i = true ∧ (s.flag ARB_STS_DRAINED i = false → t.flag ARB_EVT_DRAINED i = true) ∧
      OnlyRegs [.ARB_STS, .ARB_EVT, .IC_PEND, .IC_MERGE_CNT] s t) ∧
  (∀ (i g c n : Nat) (s : State), 0 < i → i < 8 → s.arbFrozen i = false → s.flag ARB_STS_DRAINED i = false →
    c.testBit (s.fld ARB_STS_LAST_GRANT i) = true → n < s.fld ARB_CTL_HOLD_MAX i →
    Gives (.arbBurstEnd i g c true n) s fun t => Unchanged s t) ∧
  (∀ (a : Agent) (i : Nat) (v : Word) (s : State), s.actsAsPf0 a = true → 0 < i → i < 8 →
    Gives (.arbFreezeWrite a i v) s fun t =>
      t.flag ARB_CTL_FREEZE i = v.toNat.testBit 0 ∧ t.fld ARB_CTL_HOLD_MAX i = v.toNat / 65536 ∧
      t.flag ARB_STS_FROZEN i = (v.toNat.testBit 0 || s.flag ARB_STS_FW_FREEZE i) ∧ OnlyRegs [.ARB_CTL, .ARB_STS] s t) ∧
  (∀ (a : Agent) (v : Word) (s : State), s.actsAsPf0 a = true → v.toNat.testBit 0 = true →
    Gives (.arbFreezeWrite a 0 v) s fun t => t.flag ARB_CTL_FREEZE = true ∧ t.flag ARB_STS_FROZEN = true ∧ OnlyRegs [.ARB_CTL, .ARB_STS] s t) ∧
  (∀ (f i : Nat) (v : Word) (s : State), f ≠ 0 → Gives (.arbFreezeWrite (.func f) i v) s fun t => Unchanged s t) ∧
  (∀ (c x : Nat) (e : EccResult) (r : MemReq) (d : List (BitVec 8)) (s : State), (s.memctl.bursts.find? fun q => q.src == x && s.channelOf q.addr == c) = some r →
    r.data = some d → r.poison = false → r.sc ≠ 0 → s.channelFailed c = false → e ≠ .uncorrectable →
    Gives (.memoryBurstComplete c x e) s fun t =>
      t.load .device r.addr d.length = d ∧ OnlyBytes .device r.addr d.length s t ∧ t.memctl.bursts = s.memctl.bursts.erase r ∧
      SameRegs [.MC_RETIRE_TBL] s t ∧ t.streams = s.streams) ∧
  (∀ (c x : Nat) (r : MemReq) (s : State), (s.memctl.bursts.find? fun q => q.src == x && s.channelOf q.addr == c) = some r →
    r.data = none → s.channelFailed c = false → s.rangePoisoned r.addr r.bytes = false →
    Gives (.memoryBurstComplete c x .clean) s (fun t =>
      t.lastRead = BitVec.ofNat 64 (leNat (s.load .device r.addr (min 8 r.bytes))) ∧ t.memctl = { s.memctl with bursts := s.memctl.bursts.erase r, tries := storeDrop s.memctl.tries c } ∧
      SameMemory s t ∧ t.streams = s.streams) ∧
    Gives (.memoryBurstComplete c x .corrected) s (fun t =>
      t.regN .MC_CH_CE_CNT c = min 0xFFFFFFFF (s.regN .MC_CH_CE_CNT c + 1) ∧ t.flag MC_CH_EVT_CE c = true ∧ SameMemory s t) ∧
    Gives (.memoryBurstComplete c x .uncorrectable) s (fun t =>
      t.regN .MC_CH_UE_CNT c = min 0xFFFFFFFF (s.regN .MC_CH_UE_CNT c + 1) ∧ t.reg .MC_UE_ADDR = BitVec.ofNat 64 r.addr ∧
      t.flag MC_CH_EVT_UE c = true ∧ (t.reg .FC_STATUS).getLsbD 3 = true ∧ SameMemory s t)) ∧
  (∀ (c x : Nat) (e : EccResult) (s : State), (s.memctl.bursts.find? fun q => q.src == x && s.channelOf q.addr == c) = none →
    Gives (.memoryBurstComplete c x e) s fun t => Unchanged s t) ∧
  (∀ (c x : Nat) (b : Bool) (s : State), s.fld MC_CH_STS_STATE c = 2 → (s.memctl.bursts.any fun q => q.src == x && s.channelOf q.addr == c) = true →
    (storeFind s.memctl.tries c).getD 0 < 3 →
    Gives (.mcCrcError c x b) s fun t =>
      t.regN .MC_CH_RETRY_CNT c = min 0xFFFFFFFF (s.regN .MC_CH_RETRY_CNT c + 1) ∧ t.flag MC_CH_EVT_RETRY c = true ∧
      storeFind t.memctl.tries c = some ((storeFind s.memctl.tries c).getD 0 + 1) ∧ t.memctl.bursts = s.memctl.bursts ∧
      OnlyRegs [.MC_CH_RETRY_CNT, .MC_CH_EVT, .IC_PEND, .IC_MERGE_CNT] { s with memctl := t.memctl } t) ∧
  (∀ (c x : Nat) (b : Bool) (s : State), s.fld MC_CH_STS_STATE c = 2 → (s.memctl.bursts.any fun q => q.src == x && s.channelOf q.addr == c) = true →
    storeFind s.memctl.tries c = some 3 → s.levels.getLsbD 2 = false →
    Gives (.mcCrcError c x b) s fun t =>
      t.regN .MC_CH_TRAIN_CNT c = min 0xFFFFFFFF (s.regN .MC_CH_TRAIN_CNT c + 1) ∧ t.flag MC_CH_EVT_RETRAIN c = true ∧
      t.memctl.bursts = s.memctl.bursts ∧ SameMemory s t ∧
      (b = true → t.fld MC_CH_STS_STATE c = 2 ∧ (storeFind t.memctl.trained c).map Prod.fst = some s.tb.run) ∧
      (b = false → t.channelFailed c = true ∧ t.flag MC_CH_EVT_FAIL c = true ∧ (t.reg .FC_STATUS).getLsbD 2 = true)) ∧
  (∀ (c x : Nat) (b : Bool) (s : State), s.fld MC_CH_STS_STATE c ≠ 2 → Gives (.mcCrcError c x b) s fun t => Unchanged s t) ∧
  (∀ (c n : Nat) (b : Bool) (s : State), c < 16 → s.fld MC_CH_STS_STATE c = 2 →
    Gives (.mcRefresh c n b) s fun t => t.fld MC_CH_STS_TEMP c = n % 256 ∧ t.flag MC_CH_STS_REFX2 c = b ∧ t.fld MC_CH_STS_STATE c = 2 ∧ OnlyRegs [.MC_CH_STS] s t) ∧
  (∀ (c n : Nat) (b : Bool) (s : State), 16 ≤ c ∨ s.fld MC_CH_STS_STATE c ≠ 2 →
    Gives (.mcRefresh c n b) s (fun t => Unchanged s t) ∧ Gives (.mcPeriodicRetrain c n) s fun t => Unchanged s t) ∧
  (∀ (c n l x : Nat) (s : State), c < 16 → s.fld MC_CH_STS_STATE c = 2 → storeFind s.memctl.trained c = some (l, x) →
    Gives (.mcPeriodicRetrain c n) s fun t =>
      t.regN .MC_CH_TRAIN_CNT c = min 0xFFFFFFFF (s.regN .MC_CH_TRAIN_CNT c + 1) ∧ t.fld MC_CH_STS_TEMP c = n % 256 ∧
      storeFind t.memctl.trained c = some (t.tb.run, n) ∧ s.tb.run ≤ t.tb.run ∧
      (8 ≤ max n x - min n x → t.tb = s.tb) ∧
      (max n x - min n x < 8 → l + 1000000 ≤ t.tb.run ∧ (s.memctl.trained.all fun e => e.1 == c || decide (e.2.1 + 1000 ≤ t.tb.run)) = true) ∧
      OnlyRegs [.MC_CH_TRAIN_CNT, .MC_CH_STS] { s with memctl := t.memctl, tb := t.tb } t) ∧
  (∀ (i : Nat) (s : State), i < 1024 → s.flag MC_RETIRE_TBL_COPYING i = true →
    Gives (.pageRetireCopyDone i) s fun t =>
      t.flag MC_RETIRE_TBL_COPYING i = false ∧ t.flag MC_RETIRE_TBL_VALID i = true ∧ t.fld MC_RETIRE_TBL_PAGE i = s.fld MC_RETIRE_TBL_PAGE i ∧
      t.flag MC_CH_EVT_RETIRE ((storeFind s.memctl.retiring i).getD 0) = true ∧ storeFind t.memctl.retiring i = none ∧ SameMemory s t ∧
      SameRegs [.MC_RETIRE_TBL, .SPR_STS, .SPR_EVT, .MC_CH_EVT, .IC_PEND, .IC_MERGE_CNT] s t) ∧
  (∀ (i : Nat) (s : State), 1024 ≤ i ∨ s.flag MC_RETIRE_TBL_COPYING i = false → Gives (.pageRetireCopyDone i) s fun t => Unchanged s t)

/-- DMA channels arm, hand over, copy, chain, and stop with their errors: The owner of a channel arms and disarms it and sets EN; others change nothing. Clearing EN withdraws a running transfer with error 8. A hand-over moves the shadow set into the active set and clears ARM; a write of the same cycle stays in the shadow set. The descriptor runs when it passes the checks, and stops with its code and address otherwise. A completed descriptor of one row has copied its bytes to its destination and nowhere else; bytes are counted, DONE sets, and a LINK loads the next descriptor. Poison, a CXL completion error or a bank handed away stops the transfer with its code, its address and the rows completed. -/
def Obligations.DmaChannelsCopyAndStop : Prop :=
  (∀ (a : Agent) (n : Nat) (s : State), s.ownsDma a n = true →
    Gives (.dmaArm a n) s (fun t => t.flag DMA_CH_CTL_ARM n = true ∧ t.flag DMA_CH_CTL_EN n = s.flag DMA_CH_CTL_EN n ∧ OnlyRegs [.DMA_CH_CTL] s t) ∧
    Gives (.dmaDisarm a n) s fun t => t.flag DMA_CH_CTL_ARM n = false ∧ t.flag DMA_CH_CTL_EN n = s.flag DMA_CH_CTL_EN n ∧ OnlyRegs [.DMA_CH_CTL] s t) ∧
  (∀ (f n : Nat) (b : Bool) (p : DmaProgress) (s : State), s.ownsDma (.func f) n = false →
    Gives (.dmaArm (.func f) n) s (fun t => Unchanged s t) ∧ Gives (.dmaDisarm (.func f) n) s (fun t => Unchanged s t) ∧
    Gives (.dmaEnWrite (.func f) n b p) s fun t => Unchanged s t) ∧
  (∀ (a : Agent) (n : Nat) (b : Bool) (p : DmaProgress) (s : State), s.ownsDma a n = true → b = true ∨ s.flag DMA_STS_BUSY n = false →
    Gives (.dmaEnWrite a n b p) s fun t => t.flag DMA_CH_CTL_EN n = b ∧ OnlyRegs [.DMA_CH_CTL] s t) ∧
  (∀ (a : Agent) (n : Nat) (p : DmaProgress) (s : State), s.ownsDma a n = true → s.flag DMA_STS_BUSY n = true →
    Gives (.dmaEnWrite a n false p) s fun t =>
      t.flag DMA_CH_CTL_EN n = false ∧ t.flag DMA_STS_BUSY n = false ∧ t.fld DMA_STS_ERR_CODE n = 8 ∧ t.flag DMA_STS_ERR n = true ∧
      t.flag DMA_STS_ORPHAN n = true ∧
      t.regN .DMA_DONE_BYTES n = min (2 ^ 64 - 1) (s.regN .DMA_DONE_BYTES n + min p.rows (s.dmaAll n) * s.dmaLen n) ∧
      (p.rows = 0 → SameMemory s t)) ∧
  (∀ (n : Nat) (s : State), n < 64 → s.flag DMA_CH_CTL_EN n = true → s.flag DMA_CH_CTL_ARM n = true → s.flag DMA_STS_BUSY n = false →
    Gives (.dmaHandover n [] false) s fun t =>
      (∀ w : Nat, w < 16 → t.regN .DMA_ACT (n * 16 + w) = s.regN .DMA_SH (n * 16 + w) % 2 ^ 32) ∧ t.flag DMA_CH_CTL_ARM n = false ∧
      (t.dmaCheck n = none → t.flag DMA_STS_BUSY n = true ∧ t.flag DMA_STS_LINKED n = false) ∧
      (∀ x ∈ (t.dmaCheck n).toList, t.flag DMA_STS_BUSY n = false ∧ t.fld DMA_STS_ERR_CODE n = x.1 ∧ t.reg .DMA_ERR_ADDR n = BitVec.ofNat 64 x.2 ∧
        t.flag DMA_STS_ERR n = true) ∧
      OnlyRegs [.DMA_ACT, .DMA_CH_CTL, .DMA_STS, .DMA_GLB_STS, .DMA_ERR_ADDR, .IC_PEND, .IC_MERGE_CNT] s t) ∧
  (∀ (n w : Nat) (v : Word) (b : Bool) (s : State), n < 64 → w < 16 → s.flag DMA_CH_CTL_EN n = true → s.flag DMA_CH_CTL_ARM n = true →
    s.flag DMA_STS_BUSY n = false →
    Gives (.dmaHandover n [(w, v)] b) s fun t =>
      t.regN .DMA_SH (n * 16 + w) = v.toNat ∧ (∀ k : Nat, k < 16 → t.regN .DMA_ACT (n * 16 + k) = s.regN .DMA_SH (n * 16 + k) % 2 ^ 32) ∧
      t.flag DMA_CH_CTL_ARM n = b ∧ t.flag DMA_STS_SHADOW_LATE n = true ∧ SameMemory s t) ∧
  (∀ (n : Nat) (l : List (Nat × BitVec 32)) (b : Bool) (s : State),
    64 ≤ n ∨ s.flag DMA_CH_CTL_EN n = false ∨ s.flag DMA_CH_CTL_ARM n = false ∨ s.flag DMA_STS_BUSY n = true →
    Gives (.dmaHandover n l b) s fun t => Unchanged s t) ∧
  (∀ (n : Nat) (bs : List (BitVec 8)) (s : State), n < 64 → s.flag DMA_STS_BUSY n = true → s.dmaSrcSpace n = 0 → s.dmaDstSpace n = 0 → s.dmaAll n = 1 →
    s.poisonRow n = none → s.dmaFlag n 22 = false →
    Gives (.dmaDescriptorComplete n bs) s fun t =>
      t.load .device (s.dmaRow n 0).2 (s.dmaLen n) = s.load .device (s.dmaRow n 0).1 (s.dmaLen n) ∧
      OnlyBytes .device (s.dmaRow n 0).2 (s.dmaLen n) s t ∧
      t.regN .DMA_DONE_BYTES n = min (2 ^ 64 - 1) (s.regN .DMA_DONE_BYTES n + s.dmaLen n) ∧ t.flag DMA_STS_DONE n = true ∧
      t.flag DMA_STS_BUSY n = false ∧
      SameRegs [.DMA_STS, .DMA_DONE_BYTES, .DMA_GLB_STS, .MC_RETIRE_TBL, .IC_PEND, .IC_MERGE_CNT] s t) ∧
  (∀ (n : Nat) (bs : List (BitVec 8)) (s : State), n < 64 → s.flag DMA_STS_BUSY n = true → s.cxl.linkUp = true → s.poisonRow n = none →
    s.dmaFlag n 22 = true →
    Gives (.dmaDescriptorComplete n bs) s fun t =>
      t.regN .DMA_DONE_BYTES n = min (2 ^ 64 - 1) (s.regN .DMA_DONE_BYTES n + s.dmaAll n * s.dmaLen n) ∧ t.flag DMA_STS_DONE n = true ∧
      (∀ w : Nat, w < 16 → t.regN .DMA_ACT (n * 16 + w) = leNat (t.load .device (s.dmaWide n 10 + 4 * w) 4)) ∧
      (t.dmaCheck n = none → t.flag DMA_STS_BUSY n = true ∧ t.flag DMA_STS_LINKED n = true)) ∧
  (∀ (n r : Nat) (bs : List (BitVec 8)) (s : State), n < 64 → s.flag DMA_STS_BUSY n = true → s.cxl.linkUp = true → s.poisonRow n = some r →
    Gives (.dmaDescriptorComplete n bs) s fun t =>
      t.fld DMA_STS_ERR_CODE n = 4 ∧ t.reg .DMA_ERR_ADDR n = BitVec.ofNat 64 (s.dmaRow n r).1 ∧ t.flag DMA_STS_ERR n = true ∧
      t.flag DMA_STS_BUSY n = false ∧
      t.regN .DMA_DONE_BYTES n = min (2 ^ 64 - 1) (s.regN .DMA_DONE_BYTES n + min r (s.dmaAll n) * s.dmaLen n)) ∧
  (∀ (n : Nat) (bs : List (BitVec 8)) (s : State), n < 64 → s.flag DMA_STS_BUSY n = true → s.dmaOverCxl n = true → s.cxl.linkUp = false →
    Gives (.dmaDescriptorComplete n bs) s fun t =>
      t.fld DMA_STS_ERR_CODE n = 5 ∧ t.flag DMA_STS_ERR n = true ∧ t.flag DMA_STS_BUSY n = false ∧ SameMemory s t) ∧
  (∀ (n : Nat) (bs : List (BitVec 8)) (s : State), 64 ≤ n ∨ s.flag DMA_STS_BUSY n = false → Gives (.dmaDescriptorComplete n bs) s fun t => Unchanged s t) ∧
  (∀ (n c a : Nat) (p : DmaProgress) (s : State), n < 64 → 4 ≤ c → c ≤ 6 → s.flag DMA_STS_BUSY n = true →
    Gives (.dmaError n c a p) s fun t =>
      t.fld DMA_STS_ERR_CODE n = c ∧ t.reg .DMA_ERR_ADDR n = BitVec.ofNat 64 a ∧ t.flag DMA_STS_ERR n = true ∧ t.flag DMA_STS_ORPHAN n = true ∧
      t.flag DMA_STS_BUSY n = false ∧ t.regN .DMA_ORPHAN_BYTES n = p.orphan % 2 ^ 64 ∧
      t.regN .DMA_DONE_BYTES n = min (2 ^ 64 - 1) (s.regN .DMA_DONE_BYTES n + min p.rows (s.dmaAll n) * s.dmaLen n) ∧ (p.rows = 0 → SameMemory s t)) ∧
  (∀ (n c a : Nat) (p : DmaProgress) (s : State), 64 ≤ n ∨ c < 4 ∨ 6 < c ∨ s.flag DMA_STS_BUSY n = false →
    Gives (.dmaError n c a p) s fun t => Unchanged s t)

/-- Scratchpad banks serve their owners, window caches are tested, buffer pools allocate and free: An access of a unit that does not own its bank, or to a bank asleep, is refused: NOT_OWNER sets and a read returns zeros. A served write changes its bytes and no others; a served read returns them. Of two writes to one word port SA's bytes stand. Errors are counted; an uncorrectable one is FS16. A bank changes owner through PENDING and the hand-over, which may clear it, and state through its transition, losing its contents OFF. A test of an idle pipe's window cache starts and ends; a row that fails is counted and replaced. A pool grants its lowest free buffer, or answers EMPTY; a free of a free buffer is a double free; COUNT changes only while EN is 0. -/
def Obligations.OnChipStorageIsOwnedAndTested : Prop :=
  (∀ (x : SpdAccess) (s : State), x.bank < 64 → 0 < x.bytes → x.bytes ≤ 64 → x.offset < 262144 → (x.data.map List.length).getD x.bytes = x.bytes →
    s.bankAwake x.bank = false ∨ s.bankServes x.who x.bank x.data.isSome = false →
    Gives (.spdAccess x) s fun t =>
      t.flag SPD_EVT_NOT_OWNER = true ∧ (x.data = none → t.lastRead = 0) ∧ OnlyRegs [.SPD_EVT] { s with lastRead := t.lastRead } t) ∧
  (∀ (x : SpdAccess) (s : State), x.bank < 64 → 0 < x.bytes → x.bytes ≤ 64 → x.offset < 262144 → s.bankAwake x.bank = true →
    s.bankServes x.who x.bank false = true → x.data = none → x.other = none →
    (x.ecc = .clean → Gives (.spdAccess x) s fun t =>
      t = settle { s with lastRead := BitVec.ofNat 64 (leNat ((s.spdRead x.who x.bank x.offset x.bytes).take 8)) }) ∧
    (x.ecc = .corrected → s.fld SPR_CFG_BANK_CE = 0 → Gives (.spdAccess x) s fun t =>
      t.regN .SPD_CE_CNT = min 0xFFFFFFFF (s.regN .SPD_CE_CNT + 1) ∧ SameRegs [.SPD_CE_CNT] s t ∧ SameMemory s t ∧
      t.lastRead = BitVec.ofNat 64 (leNat ((s.spdRead x.who x.bank x.offset x.bytes).take 8))) ∧
    (x.ecc = .uncorrectable → Gives (.spdAccess x) s fun t =>
      t.regN .SPD_UE_CNT = min 0xFFFFFFFF (s.regN .SPD_UE_CNT + 1) ∧ t.flag SPD_EVT_UE = true ∧ (t.reg .FC_STATUS).getLsbD 16 = true ∧
      t.regN .SPD_ERR_ADDR = x.bank + x.offset * 256 ∧ SameMemory s t)) ∧
  (∀ (x : SpdAccess) (d : List (BitVec 8)) (s : State), x.bank < 64 → 0 < x.bytes → x.bytes ≤ 64 → x.offset < 262144 → s.bankAwake x.bank = true →
    s.bankServes x.who x.bank true = true → x.data = some d → d.length = x.bytes → x.other = none →
    Gives (.spdAccess x) s fun t =>
      t.spdRead x.who x.bank x.offset x.bytes = d ∧ t = settle { s with spad := t.spad } ∧
      (∀ a, a ∉ (List.range x.bytes).map (fun i => spdAddr x.bank (s.bankOffset x.who x.bank x.offset i)) → memRead t.spad a = memRead s.spad a)) ∧
  (∀ (x : SpdAccess) (o : Nat) (d e : List (BitVec 8)) (s : State), x.bank < 64 → 0 < x.bytes → x.bytes ≤ 64 → x.offset < 262144 →
    s.bankAwake x.bank = true → s.bankServes x.who x.bank true = true → x.who ≤ 6 → x.data = some d → d.length = x.bytes → x.other = some (o, e) →
    s.collide x.who x.bank x.offset x.bytes o e.length = true →
    Gives (.spdAccess x) s fun t =>
      t.spdRead x.who x.bank x.offset x.bytes = d ∧ t.flag SPD_EVT_WCOLL = true ∧ OnlyRegs [.SPD_EVT] { s with spad := t.spad } t) ∧
  (∀ (x : SpdAccess) (o : Nat) (e : List (BitVec 8)) (s : State), x.bank < 64 → 0 < x.bytes → x.bytes ≤ 64 → x.offset < 262144 →
    s.bankAwake x.bank = true → s.bankServes x.who x.bank false = true → 6 < x.who → x.data = none → x.other = some (o, e) →
    s.fld SPD_BANK_OWN_OWNER x.bank ≤ 6 → s.collide x.who x.bank x.offset x.bytes o e.length = true →
    Gives (.spdAccess x) s fun t => t.regN .SPD_BUSY_CNT = min 0xFFFFFFFF (s.regN .SPD_BUSY_CNT + 1) ∧ SameRegs [.SPD_BUSY_CNT] s t) ∧
  (∀ (x : SpdAccess) (s : State), 64 ≤ x.bank ∨ 64 < x.bytes ∨ x.bytes = 0 ∨ 262144 ≤ x.offset → Gives (.spdAccess x) s fun t => Unchanged s t) ∧
  (∀ (a : Agent) (b : Nat) (v : Word) (s : State), s.actsAsPf0 a = true → b < 64 → s.ownerPresent (v.toNat % 16) = true →
    s.flag SPD_BANK_OWN_PENDING b = true ∨ s.fld SPD_BANK_OWN_OWNER b ≠ v.toNat % 16 →
    Gives (.spdBankOwnWrite a b v) s fun t =>
      t.fld SPD_BANK_OWN_TARGET b = v.toNat % 16 ∧ t.flag SPD_BANK_OWN_PENDING b = true ∧ t.flag SPD_BANK_OWN_CLEARING b = v.toNat.testBit 4 ∧
      t.fld SPD_BANK_OWN_OWNER b = s.fld SPD_BANK_OWN_OWNER b ∧ OnlyRegs [.SPD_BANK_OWN] { s with banks := t.banks } t) ∧
  (∀ (a : Agent) (b : Nat) (v : Word) (s : State), s.actsAsPf0 a = true → b < 64 → s.ownerPresent (v.toNat % 16) = false →
    Gives (.spdBankOwnWrite a b v) s fun t => t.flag SPD_EVT_BAD_OWNER = true ∧ OnlyRegs [.SPD_EVT] s t) ∧
  (∀ (f b k i : Nat) (v : Word) (s : State), f ≠ 0 →
    Gives (.spdBankOwnWrite (.func f) b v) s (fun t => Unchanged s t) ∧ Gives (.spdBankStateWrite (.func f) b v) s (fun t => Unchanged s t) ∧
    Gives (.bpFreeWrite (.func f) k v) s (fun t => Unchanged s t) ∧ Gives (.bpCfgWrite (.func f) i v) s fun t => Unchanged s t) ∧
  (∀ (b x : Nat) (c : Bool) (s : State), storeFind s.banks.handover b = some (x, c) →
    Gives (.spdHandoverDone b) s fun t =>
      t.fld SPD_BANK_OWN_OWNER b = s.fld SPD_BANK_OWN_TARGET b ∧ t.flag SPD_BANK_OWN_PENDING b = false ∧ t.flag SPD_BANK_OWN_CLEARING b = false ∧
      storeFind t.banks.handover b = none ∧ t.tb.run = max s.tb.run (x + cyclesNs (if c then 4160 else 64)) ∧
      (c = true → (t.spad.all fun e => decide (e.1 / 262144 ≠ b)) = true) ∧ (c = false → t.spad = s.spad) ∧ t.mem = s.mem ∧
      SameRegs [.SPD_BANK_OWN] s t) ∧
  (∀ (a : Agent) (b : Nat) (v : Word) (s : State), s.actsAsPf0 a = true → b < 64 → v.toNat % 4 ≠ 3 → s.flag SPD_BANK_STS_TRANSIT b = false →
    (bankCycles (s.fld SPD_BANK_STS_STATE_NOW b) (v.toNat % 4)).isSome = true →
    Gives (.spdBankStateWrite a b v) s fun t =>
      t.regN .SPD_BANK_CFG b = v.toNat % 16 ∧ t.flag SPD_BANK_STS_TRANSIT b = true ∧ storeFind t.banks.moving b = some (s.tb.run, v.toNat % 4) ∧
      t.fld SPD_BANK_STS_STATE_NOW b = s.fld SPD_BANK_STS_STATE_NOW b ∧ OnlyRegs [.SPD_BANK_CFG, .SPD_BANK_STS] { s with banks := t.banks } t) ∧
  (∀ (a : Agent) (b : Nat) (v : Word) (s : State), s.actsAsPf0 a = true → b < 64 →
    (v.toNat % 4 = 3 → Gives (.spdBankStateWrite a b v) s fun t => Unchanged s t) ∧
    (v.toNat % 4 ≠ 3 → s.flag SPD_BANK_STS_TRANSIT b = true → Gives (.spdBankStateWrite a b v) s fun t =>
      t.regN .SPD_BANK_CFG b = v.toNat % 16 ∧ OnlyRegs [.SPD_BANK_CFG] s t)) ∧
  (∀ (b x m : Nat) (s : State), storeFind s.banks.moving b = some (x, m) → m < 3 → s.fld PM_STATE_STATE < 2 → s.fld SPD_BANK_CFG_STATE b = m →
    Gives (.spdBankTransitionDone b) s fun t =>
      t.fld SPD_BANK_STS_STATE_NOW b = m ∧ t.flag SPD_BANK_STS_TRANSIT b = false ∧ storeFind t.banks.moving b = none ∧
      t.tb.run = max s.tb.run (x + cyclesNs ((bankCycles (s.fld SPD_BANK_STS_STATE_NOW b) m).getD 0)) ∧
      (m = 2 → (t.spad.all fun e => decide (e.1 / 262144 ≠ b)) = true) ∧ (m ≠ 2 → t.spad = s.spad) ∧ SameRegs [.SPD_BANK_STS] s t) ∧
  (∀ (b c : Nat) (rs : List Nat) (s : State),
    (storeFind s.banks.handover b = none → Gives (.spdHandoverDone b) s fun t => Unchanged s t) ∧
    (storeFind s.banks.moving b = none → Gives (.spdBankTransitionDone b) s fun t => Unchanged s t) ∧
    (storeFind s.banks.testing c = none → Gives (.windowCacheTestDone c rs) s fun t => Unchanged s t) ∧
    (s.spare.copy = none → Gives .spdBankCopyDone s fun t => Unchanged s t) ∧
    (s.flag SPD_WCT_CFG_EN = false → Gives (.windowCacheTestStart c) s fun t => Unchanged s t)) ∧
  (∀ (u : Nat) (s : State), u < 20 → s.flag SPD_WCT_CFG_EN = true → s.clusterPresent (unitCluster u) = true → s.domOn (unitCluster u) = true →
    storeFind s.banks.testing (unitCluster u) = none → storeFind s.banks.nextRegion u = none → s.testable u = true →
    Gives (.windowCacheTestStart u) s fun t =>
      t.flag SPD_WCT_STS_BUSY = true ∧ t.fld SPD_WCT_STS_PIPE = u ∧ t.fld SPD_WCT_STS_REGION = s.regionFor u 0 ∧
      storeFind t.banks.testing (unitCluster u) = some (u, s.regionFor u 0, s.tb.run) ∧
      OnlyRegs [.SPD_WCT_STS] { s with banks := t.banks, codec := t.codec } t) ∧
  (∀ (c u r x : Nat) (s : State), storeFind s.banks.testing c = some (u, r, x) →
    Gives (.windowCacheTestDone c []) s fun t =>
      storeFind t.banks.testing c = none ∧ storeFind t.banks.nextRegion u = some ((r + 1) % 128, x) ∧
      t.tb.run = max s.tb.run (x + 2048) ∧ t.flag SPD_WCT_STS_BUSY = !t.banks.testing.isEmpty ∧
      OnlyRegs [.SPD_WCT_STS] { s with banks := t.banks, tb := t.tb } t) ∧
  (∀ (c u r x w : Nat) (s : State), storeFind s.banks.testing c = some (u, r, x) → s.fld SPR_WC_ROWS_ROWS u < 32 →
    Gives (.windowCacheTestDone c [w]) s fun t =>
      t.regN .SPD_WCT_FAIL_CNT = min 0xFFFFFFFF (s.regN .SPD_WCT_FAIL_CNT + 1) ∧ t.fld SPR_WC_ROWS_ROWS u = s.fld SPR_WC_ROWS_ROWS u + 1 ∧
      (t.reg .FC_STATUS).getLsbD 17 = true ∧ t.reg .FC_LAST = faultRecord 17 u false s.tickIndex ∧ t.flag SPR_EVT_WC_ROW = true ∧ SameMemory s t) ∧
  (∀ (k r : Nat) (s : State), k < 4 → s.flag BP_CFG_EN k = true → s.fld BP_STS_IN_USE k < s.poolCount k → 6 ≤ r ∨ s.flag BP_STS_OVER k = false →
    Gives (.bpAllocate k r) s fun t =>
      t.lastRead = BitVec.ofNat 64 (s.bpLowest k + k * 2 ^ 24) ∧ t.bpIsTaken k (s.bpLowest k) = true ∧
      t.fld BP_STS_IN_USE k = s.fld BP_STS_IN_USE k + 1 ∧ t.streams = s.streams ∧
      OnlyBytes .device (s.fld BP_MIRROR_ADDR k * 4096 + s.bpLowest k / 8) 1 s t ∧ SameRegs [.BP_STS, .BP_EVT, .ARB_STS, .IC_PEND, .IC_MERGE_CNT] s t) ∧
  (∀ (k r : Nat) (s : State), k < 4 → s.flag BP_CFG_EN k = false ∨ s.poolCount k ≤ s.fld BP_STS_IN_USE k ∨ r < 6 ∧ s.flag BP_STS_OVER k = true →
    k = 3 ∨ s.flag BP_CFG_SPILL k = false →
    Gives (.bpAllocate k r) s fun t =>
      t.lastRead = 0x80000000 ∧ t.regN .BP_EMPTY_CNT k = min 0xFFFFFFFF (s.regN .BP_EMPTY_CNT k + 1) ∧ t.flag BP_EVT_EMPTY k = true ∧ SameMemory s t ∧
      t.bpTaken = s.bpTaken) ∧
  (∀ (k : Nat) (s : State), k < 4 →
    (s.flag BP_CFG_EN k = true → s.fld BP_STS_IN_USE k < s.poolCount k → Gives (.bpAllocRead k) s fun t =>
      t.lastRead = BitVec.ofNat 64 (s.bpLowest k) ∧ t.bpIsTaken k (s.bpLowest k) = true ∧ t.fld BP_STS_IN_USE k = s.fld BP_STS_IN_USE k + 1) ∧
    (s.flag BP_CFG_EN k = false ∨ s.poolCount k ≤ s.fld BP_STS_IN_USE k → Gives (.bpAllocRead k) s fun t =>
      t.lastRead = 0x80000000 ∧ t.regN .BP_EMPTY_CNT k = min 0xFFFFFFFF (s.regN .BP_EMPTY_CNT k + 1) ∧ t.bpTaken = s.bpTaken)) ∧
  (∀ (a : Agent) (k : Nat) (v : Word) (s : State), s.actsAsPf0 a = true → k < 4 →
    (v.toNat % 131072 < s.poolCount k → s.bpIsTaken k (v.toNat % 131072) = true → Gives (.bpFreeWrite a k v) s fun t =>
      t.bpIsTaken k (v.toNat % 131072) = false ∧ t.fld BP_STS_IN_USE k = s.fld BP_STS_IN_USE k - 1) ∧
    (v.toNat % 131072 < s.poolCount k → s.bpIsTaken k (v.toNat % 131072) = false → Gives (.bpFreeWrite a k v) s fun t =>
      t.flag BP_EVT_DOUBLE_FREE k = true ∧ t.regN .BP_DFREE_CNT k = min 0xFFFFFFFF (s.regN .BP_DFREE_CNT k + 1) ∧
      t.fld BP_ERR_IDX_INDEX k = v.toNat % 131072 ∧ t.bpTaken = s.bpTaken ∧ SameMemory s t) ∧
    (s.poolCount k ≤ v.toNat % 131072 → Gives (.bpFreeWrite a k v) s fun t =>
      t.flag BP_EVT_BAD_FREE k = true ∧ t.fld BP_ERR_IDX_INDEX k = v.toNat % 131072 ∧ t.bpTaken = s.bpTaken ∧ SameMemory s t)) ∧
  (∀ (a : Agent) (k : Nat) (v : Word) (s : State), s.actsAsPf0 a = true → k < 4 →
    (s.flag BP_CFG_EN k = true → v.toNat.testBit 18 = true ∨ s.fld BP_STS_IN_USE k ≠ 0 → Gives (.bpCfgWrite a k v) s fun t => Unchanged s t) ∧
    (s.flag BP_CFG_EN k = true → v.toNat.testBit 18 = false → s.fld BP_STS_IN_USE k = 0 → Gives (.bpCfgWrite a k v) s fun t =>
      t.flag BP_CFG_EN k = false ∧ t.fld BP_CFG_COUNT k = s.fld BP_CFG_COUNT k ∧ OnlyRegs [.BP_CFG] s t) ∧
    (s.flag BP_CFG_EN k = false → v.toNat.testBit 18 = false → Gives (.bpCfgWrite a k v) s fun t =>
      t.regN .BP_CFG k = v.toNat % 2 ^ 18 ∧ OnlyRegs [.BP_CFG] s t) ∧
    (s.flag BP_CFG_EN k = false → v.toNat.testBit 18 = true → s.regN .BP_BASE k % poolSize k = 0 → (∀ j : Nat, j < 4 → s.flag BP_CFG_EN j = false) →
      s.regN .BP_BASE k + clampNat 1 65536 (v.toNat % 2 ^ 17) * poolSize k ≤ s.regN .MC_CAP →
      s.fld BP_MIRROR_ADDR k * 4096 + ceilDiv (clampNat 1 65536 (v.toNat % 2 ^ 17)) 8 ≤ s.regN .MC_CAP →
      Gives (.bpCfgWrite a k v) s fun t => t.flag BP_CFG_EN k = true ∧ t.fld BP_CFG_COUNT k = v.toNat % 2 ^ 17 ∧ OnlyRegs [.BP_CFG] s t) ∧
    (s.flag BP_CFG_EN k = false → v.toNat.testBit 18 = true → s.regN .BP_BASE k % poolSize k ≠ 0 → Gives (.bpCfgWrite a k v) s fun t =>
      t.flag BP_CFG_EN k = false ∧ t.flag BP_EVT_CFG_ERR k = true ∧ OnlyRegs [.BP_CFG, .BP_EVT, .IC_PEND, .IC_MERGE_CNT] s t)) ∧
  (∀ (b : Nat) (c : Option Cmd) (s : State), s.spare.copy = some (b, c) →
    Gives .spdBankCopyDone s fun t => t.spare.copy = none ∧ t.fld SPD_BANK_STS_PHYS b = 64 ∧ t.flag SPR_EVT_SWAP = true ∧ t.streams = s.streams)

/-- The CXL link, its power states, host accesses to device memory, snoops, MSI-X vectors and link errors: When the link goes down, or its clock fails with PERST_N high, transfers over it end with ERR_CODE 5 and others stay. It comes up at a width it has. L1 is entered while nothing is outstanding, and left; L0p takes every width down to x4. A host access goes through the decoder to the memory front end as requester 32 at SC2, the line a host keeps is tracked, a poisoned write is FS22, and one outside the decoder is an unsupported request. A host's snoop is answered invalid. A line that comes back lets its request in. An internal error is FS26; a completion timeout is FS24 and fails its requester's way. A vector unmasked while pending is sent. -/
def Obligations.TheHostLinkCarriesAndFails : Prop :=
  (∀ (l : List (Nat × DmaProgress)) (i : Instr) (s : State), i ∈ [.cxlLinkDown l, .refclkCxlLoss l] → s.pins.perstN = true → s.cxl.linkUp = true →
    Gives i s fun t =>
      t.cxl = { s.cxl with linkUp := false, l1 := false } ∧ t.streams = s.streams ∧
      (∀ n : Nat, n < 64 → s.dmaOverCxl n = true → t.flag DMA_STS_BUSY n = false ∧ t.fld DMA_STS_ERR_CODE n = 5) ∧
      (∀ n : Nat, n < 64 → s.dmaOverCxl n = false → t.reg .DMA_STS n = s.reg .DMA_STS n)) ∧
  (∀ (l : List (Nat × DmaProgress)) (s : State),
    (s.cxl.linkUp = false → Gives (.cxlLinkDown l) s fun t => Unchanged s t) ∧
    (s.cxl.linkUp = false ∨ s.pins.perstN = false → Gives (.refclkCxlLoss l) s fun t => Unchanged s t)) ∧
  (∀ (v w : Nat) (s : State), s.cxl.linkUp = false → 0 < v → v ≤ 6 → w ∈ [1, 2, 4, 8, 16] → (∀ q : Nat, q < 64 → s.heldFor q = []) →
    Gives (.cxlLinkUp v w) s fun t =>
      t = settle { s with cxl := { s.cxl with linkUp := true, speed := v, width := w, inUse := w, l1 := false }, pins := { s.pins with wakeN := true } }) ∧
  (∀ (v w : Nat) (s : State), s.cxl.linkUp = true ∨ v = 0 ∨ 6 < v ∨ w ∉ [1, 2, 4, 8, 16] → Gives (.cxlLinkUp v w) s fun t => Unchanged s t) ∧
  (∀ s : State, s.cxl.linkUp = true → s.cxlBusy = false → Gives .l1EntryRequest s fun t => t = settle { s with cxl := { s.cxl with l1 := true } }) ∧
  (∀ s : State, s.cxl.linkUp = false ∨ s.cxlBusy = true → Gives .l1EntryRequest s fun t => Unchanged s t) ∧
  (∀ (h : Bool) (x : WakeInfo) (s : State), s.cxl.linkUp = true → s.cxl.l1 = true → h = false ∨ (s.deep = false ∧ s.power.entry = none) →
    Gives (.l1Exit h x) s fun t => t = settle { s with cxl := { s.cxl with l1 := false }, pins := { s.pins with wakeN := true } }) ∧
  (∀ (h : Bool) (x : WakeInfo) (s : State), s.cxl.linkUp = false ∨ s.cxl.l1 = false → Gives (.l1Exit h x) s fun t => Unchanged s t) ∧
  (∀ (w : Nat) (s : State), s.cxl.linkUp = true → w ∈ [4, 8, 16] → w ≤ s.cxl.width →
    Gives (.l0pRequest w) s fun t => t = settle { s with cxl := { s.cxl with inUse := w } }) ∧
  (∀ (w : Nat) (s : State), s.cxl.linkUp = false ∨ w ∉ [4, 8, 16] ∨ s.cxl.width < w → Gives (.l0pRequest w) s fun t => Unchanged s t) ∧
  (∀ (x : CxlAccess) (a : Nat) (s : State), s.cxl.linkUp = true → 0 < x.bytes → x.addr % 64 + x.bytes ≤ 64 → (x.data.map List.length).getD x.bytes = x.bytes →
    s.hdmAddress x.addr = some a → x.poison = false → x.caches = 0 → s.cxl.snoop = [] → s.memctl.waiting = [] →
    s.memctl.groups.contains (s.groupOf a) = false → s.arbFrozen 0 = false → s.maskedAt 32 = false →
    Gives (.cxlMemRequest x) s fun t =>
      t.memctl.bursts = s.memctl.bursts ++ [{ src := 32, sc := 2, addr := a, bytes := x.bytes, data := x.data, since := s.tb.run, granted := s.tb.run }] ∧
      t.memctl.groups = s.memctl.groups ++ [s.groupOf a] ∧ OnlyRegs [.ARB_STS] { s with memctl := t.memctl, arbPtr := t.arbPtr } t) ∧
  (∀ (x : CxlAccess) (a : Nat) (s : State), s.cxl.linkUp = true → 0 < x.bytes → x.addr % 64 + x.bytes ≤ 64 → (x.data.map List.length).getD x.bytes = x.bytes →
    s.hdmAddress x.addr = some a → s.cxl.snoop.length < snoopEntries →
    Gives (.cxlMemRequest x) s fun t =>
      (0 < x.caches → t.cxl.snoop.contains (a / 64, decide (2 ≤ x.caches)) = true) ∧
      (x.poison = true → x.data ≠ none → (t.reg .FC_STATUS).getLsbD 22 = true) ∧ SameMemory s t ∧
      t.memctl.waiting.length + t.memctl.bursts.length = s.memctl.waiting.length + s.memctl.bursts.length + 1) ∧
  (∀ (x : CxlAccess) (s : State), s.cxl.linkUp = true → 0 < x.bytes → x.addr % 64 + x.bytes ≤ 64 → (x.data.map List.length).getD x.bytes = x.bytes →
    s.hdmAddress x.addr = none →
    Gives (.cxlMemRequest x) s fun t => t = settle { s with sent := Sent.completion false true :: s.sent }) ∧
  (∀ (x : CxlAccess) (s : State), s.cxl.linkUp = false ∨ x.bytes = 0 ∨ 64 < x.addr % 64 + x.bytes → Gives (.cxlMemRequest x) s fun t => Unchanged s t) ∧
  (∀ (l : Nat) (s : State),
    (s.cxl.linkUp = true → Gives (.hostSnoop l) s fun t => t = settle { s with sent := Sent.invalid l :: s.sent }) ∧
    (s.cxl.linkUp = false → Gives (.hostSnoop l) s fun t => Unchanged s t)) ∧
  (∀ (l : Nat) (r : MemReq) (s : State), s.cxl.asked.contains l = true → s.memctl.waiting = [r] → r.lines = [l] → r.track = none → r.sc < 4 →
    s.memctl.groups.contains (s.groupOf r.addr) = false → s.arbFrozen 0 = false → s.maskedAt r.src = false →
    Gives (.backInvalidateResponse l) s fun t =>
      t.cxl.asked = s.cxl.asked.erase l ∧ t.cxl.snoop = (s.cxl.snoop.filter fun e => e.1 != l) ∧ t.memctl.waiting = [] ∧
      t.memctl.bursts.length = s.memctl.bursts.length + 1 ∧ SameRegs [.ARB_STS] s t ∧ SameMemory s t) ∧
  (∀ (l : Nat) (s : State), s.cxl.asked.contains l = false → Gives (.backInvalidateResponse l) s fun t => Unchanged s t) ∧
  (∀ s : State, Gives .cxlInternalError s fun t =>
      t.cxl = { s.cxl with l1 := false, errors := { s.cxl.errors with fatal := true, rasUncorr := true } } ∧
      t.reg .FC_LAST = faultRecord 26 0 false s.tickIndex ∧ OnlyRegs faultOnly { s with cxl := t.cxl } t) ∧
  (∀ (q : Nat) (s : State), q < 64 →
    Gives (.completionTimeout (.fetch q)) s (fun t =>
      t.cxl.errors.nonFatal = true ∧ t.flag CMDQ_STS_FETCH_ERR q = true ∧ t.flag CMDQ_STS_ACTIVE q = false ∧
      t.reg .FC_LAST = faultRecord 24 (s.fld CMDQ_OWNER_FUNC q) false s.tickIndex ∧ OnlyRegs (.CMDQ_STS :: faultOnly) { s with cxl := t.cxl } t) ∧
    Gives (.completionTimeout (.reply q)) s (fun t =>
      t.cxl.errors.nonFatal = true ∧ t.flag CPLQ_STS_WRITE_ERR q = true ∧
      t.reg .FC_LAST = faultRecord 24 (s.fld CPLQ_OWNER_FUNC q) false s.tickIndex ∧ OnlyRegs (.CPLQ_STS :: faultOnly) { s with cxl := t.cxl } t)) ∧
  (∀ (n a : Nat) (p : DmaProgress) (s : State), n < 64 → s.flag DMA_STS_BUSY n = true →
    Gives (.completionTimeout (.dma n a p)) s fun t =>
      t.cxl.errors.nonFatal = true ∧ t.flag DMA_STS_BUSY n = false ∧ t.fld DMA_STS_ERR_CODE n = 5 ∧ t.reg .DMA_ERR_ADDR n = BitVec.ofNat 64 a ∧
      t.reg .FC_LAST = faultRecord 24 n false s.tickIndex) ∧
  (∀ (f v : Nat) (s : State), vectorExists f v = true → storeFind s.cxl.pba (vectorKey f v) = some true →
    Gives (.msixUnmask f v) s fun t =>
      storeFind t.cxl.unmasked (vectorKey f v) = some true ∧ storeFind t.cxl.pba (vectorKey f v) = none ∧
      t = settle { s with cxl := t.cxl, sent := Sent.msix f v :: s.sent }) ∧
  (∀ (f v : Nat) (s : State), vectorExists f v = true → storeFind s.cxl.pba (vectorKey f v) = none →
    Gives (.msixUnmask f v) s fun t => storeFind t.cxl.unmasked (vectorKey f v) = some true ∧ t = settle { s with cxl := t.cxl }) ∧
  (∀ (f v : Nat) (s : State), vectorExists f v = false → Gives (.msixUnmask f v) s fun t => Unchanged s t)

/-- HDM decoder, VFs, function-level and CXL reset, DOE, and link IDE: A decoder of whole 256 MiB units inside the memory commits and locks; another sets its error. VF Enable brings the VFs up and clearing it resets them. A function-level reset ends the function's streams, disables its queues, stops its DMA channels and masks its vectors; in a reset it does nothing. A CXL reset ends every command, picture and transfer, starts the device again, and zeroes device memory when asked to. A DOE object of over 4,096 bytes sets DOE Error; discovery is answered; sessions open up to four and close; a link IDE key goes into its slot inside a session; abort discards. A key set switches with its key; an integrity failure is FS27. -/
def Obligations.FunctionsKeysAndDecodersAreSetUp : Prop :=
  (∀ (b n w g : Nat) (s : State), s.cxl.hdm.committed = false → 0 < n → n ≤ s.hdmSize → n % 2 ^ 28 = 0 → b % 2 ^ 28 = 0 → w ∈ [1, 2, 4, 8] →
    g ∈ [256, 512, 1024, 2048, 4096, 8192, 16384] →
    Gives (.hdmDecoderCommit b n w g) s fun t =>
      t = settle { s with cxl := { s.cxl with hdm := { committed := true, base := b, size := n, ways := w, gran := g } } }) ∧
  (∀ (b n w g : Nat) (s : State), s.cxl.hdm.committed = false → n = 0 ∨ s.hdmSize < n ∨ w ∉ [1, 2, 4, 8] →
    Gives (.hdmDecoderCommit b n w g) s fun t => t = settle { s with cxl := { s.cxl with hdm := { s.cxl.hdm with err := true } } }) ∧
  (∀ (b n w g : Nat) (s : State), s.cxl.hdm.committed = true → Gives (.hdmDecoderCommit b n w g) s fun t => Unchanged s t) ∧
  (∀ (n : Nat) (l : List (Nat × DmaProgress)) (s : State), s.cxl.vfEnable = false → n ≤ 32 → s.vfsRetained = 0 →
    Gives (.vfEnableWrite n true l) s (fun t => t = settle { s with vfs := n, cxl := { s.cxl with numVfs := n, vfEnable := true } }) ∧
    Gives (.vfEnableWrite n false l) s fun t => t = settle { s with cxl := { s.cxl with numVfs := n } }) ∧
  (∀ (n : Nat) (l : List (Nat × DmaProgress)) (s : State), s.cxl.vfEnable = true →
    Gives (.vfEnableWrite n true l) s (fun t => Unchanged s t) ∧
    Gives (.vfEnableWrite n false l) s fun t =>
      t.vfs = 0 ∧ t.cxl.vfEnable = false ∧ (∀ q : Nat, q < 64 → 0 < s.fld CMDQ_OWNER_FUNC q → s.fld CMDQ_OWNER_FUNC q ≤ s.vfs → t.flag CMDQ_CFG_EN q = false)) ∧
  (∀ (f : Nat) (l : List (Nat × DmaProgress)) (s : State), s.inReset = false → s.funcEnabled f = true →
    Gives (.functionLevelReset f l) s fun t =>
      (∀ h : Nat, h < 512 → (s.stream h).st ≠ .free → (s.stream h).func = f → t.stream h = {}) ∧
      (∀ q : Nat, q < 64 → (s.fld CMDQ_OWNER_FUNC q = f → t.flag CMDQ_CFG_EN q = false) ∧ (s.fld CPLQ_OWNER_FUNC q = f → t.flag CPLQ_CFG_EN q = false)) ∧
      (∀ n : Nat, n < 64 → s.fld DMA_CH_OWNER_FUNC n = f → t.flag DMA_STS_BUSY n = false ∧ t.flag DMA_CH_CTL_EN n = false) ∧
      (t.cxl.unmasked.all fun e => decide (e.1 / 256 ≠ f)) = true ∧
      (∀ e : Nat, e < 4096 → (s.flow e).live = true → (s.flow e).func = f → (t.flow e).live = false)) ∧
  (∀ (f : Nat) (l : List (Nat × DmaProgress)) (s : State), s.inReset = true ∨ s.funcEnabled f = false →
    Gives (.functionLevelReset f l) s fun t => Unchanged s t) ∧
  (∀ (c : Bool) (x : StartUp) (s : State), s.inReset = false →
    Gives (.cxlReset c [] x) s fun t =>
      t.fld GLB_RST_STS_CAUSE = (if c then 6 else 5) ∧ t.flag GLB_RST_STS_READY = true ∧ t.resets.due = none ∧ t.codec.enc = [] ∧ t.codec.dec = [] ∧
      t.cmd.outstanding = [] ∧ (∀ q : Nat, q < 64 → t.flag CMDQ_CFG_EN q = false ∧ t.flag CPLQ_CFG_EN q = false) ∧
      (∀ n : Nat, n < 64 → t.flag DMA_STS_BUSY n = false) ∧ t.cxl.linkUp = s.cxl.linkUp ∧ t.flows = [] ∧ t.hostMem = s.hostMem ∧
      (c = true → t.mem = [] ∧ t.survivors = []) ∧ (c = false → t.mem = s.mem)) ∧
  (∀ (c : Bool) (l : List (Nat × DmaProgress)) (x : StartUp) (s : State), s.inReset = true → Gives (.cxlReset c l x) s fun t => Unchanged s t) ∧
  (∀ (x : DoeObject) (s : State), 4096 < x.bytes ∨ (s.cxl.doePending = true ∧ x.taken = false) →
    Gives (.doeRequest x) s fun t => t = settle { s with cxl := { s.cxl with doeErr := true } }) ∧
  (∀ (x : DoeObject) (s : State), x.bytes ≤ 4096 → s.cxl.doePending = false ∨ x.taken = true → x.what = .plain →
    Gives (.doeRequest x) s fun t => t = settle { s with cxl := { s.cxl with doePending := true }, sent := Sent.doe false :: s.sent }) ∧
  (∀ (x : DoeObject) (s : State), x.bytes ≤ 4096 → s.cxl.doePending = false ∨ x.taken = true → x.what = .openSession →
    (s.secError = false → s.secWaits = false → s.noIdentity = false → s.regN .SEC_SESSIONS < 4 → Gives (.doeRequest x) s fun t =>
      t.regN .SEC_SESSIONS = s.regN .SEC_SESSIONS + 1 ∧ t.flag SEC_EVT_SPDM_SESSION = true ∧ t.sent = Sent.doe false :: s.sent ∧
      t.cxl.doePending = true ∧ SameRegs [.SEC_SESSIONS, .SEC_EVT, .SEC_SVC_IND, .IC_PEND, .IC_MERGE_CNT] s t) ∧
    (s.secError = true ∨ s.secWaits = true ∨ s.noIdentity = true ∨ 4 ≤ s.regN .SEC_SESSIONS → Gives (.doeRequest x) s fun t =>
      t = settle { s with cxl := { s.cxl with doePending := true }, sent := Sent.doe true :: s.sent })) ∧
  (∀ (x : DoeObject) (s : State), x.bytes ≤ 4096 → s.cxl.doePending = false ∨ x.taken = true → x.what = .closeSession →
    s.regN .SEC_SESSIONS ≠ 0 → s.regN .SEC_SESSIONS < 2 ^ 32 →
    Gives (.doeRequest x) s fun t => t.regN .SEC_SESSIONS = s.regN .SEC_SESSIONS - 1 ∧ t.flag SEC_EVT_SPDM_SESSION = true ∧ t.sent = Sent.doe false :: s.sent) ∧
  (∀ (x : DoeObject) (h : Nat) (k : List (BitVec 8)) (s : State), x.bytes ≤ 4096 → s.cxl.doePending = false ∨ x.taken = true → x.what = .ideKey h k →
    s.secError = false → s.secWaits = false → s.regN .SEC_SESSIONS ≠ 0 → s.fuse GLB_FUSE_CFG_CRYPTO ≠ 0 → ideSlot h = true →
    Gives (.doeRequest x) s fun t =>
      (t.slot h).cur.map (·.bytes) = some k ∧ (t.slot h).loads = ((s.slot h).loads + 1) % 65536 ∧ t.sent = Sent.doe false :: s.sent ∧
      SameRegs [.SEC_SVC_IND, .SEC_KEYS_USED] s t ∧ SameMemory s t) ∧
  (∀ s : State, Gives .doeAbort s fun t => t = settle { s with cxl := { s.cxl with doePending := false, doeErr := false } }) ∧
  (∀ (p d k : Nat) (s : State), p < 2 → d < 2 → k < 2 → s.fuse GLB_FUSE_CFG_CRYPTO ≠ 0 → (s.slot (0xC00 + 16 * p + 8 * d + 4 * k)).cur ≠ none →
    Gives (.ideKeySetSwitch p d k) s fun t =>
      storeFind t.cxl.ideSet (p * 2 + d) = some k ∧ t.cxl.insecure = false ∧ (p = 0 → t.flag SEC_STS_IDE_IO = true) ∧
      (p = 1 → t.flag SEC_STS_IDE_CM = true) ∧ t.flag SEC_EVT_IDE_SWITCH = true ∧
      OnlyRegs [.SEC_STS, .SEC_EVT, .IC_PEND, .IC_MERGE_CNT] { s with cxl := t.cxl } t) ∧
  (∀ (p d k : Nat) (s : State), 2 ≤ p ∨ 2 ≤ d ∨ 2 ≤ k ∨ s.fuse GLB_FUSE_CFG_CRYPTO = 0 →
    Gives (.ideKeySetSwitch p d k) s fun t => Unchanged s t) ∧
  (∀ s : State, s.fuse GLB_FUSE_CFG_CRYPTO ≠ 0 →
    Gives .ideIntegrityFail s fun t =>
      t.cxl.insecure = true ∧ t.cxl.errors.fatal = true ∧ t.flag SEC_STS_IDE_IO = false ∧ t.flag SEC_STS_IDE_CM = false ∧ t.flag SEC_EVT_IDE_FAIL = true ∧
      t.reg .FC_LAST = faultRecord 27 0 false s.tickIndex ∧ OnlyRegs ([.SEC_STS, .SEC_EVT] ++ faultOnly) { s with cxl := t.cxl } t) ∧
  (∀ s : State, s.fuse GLB_FUSE_CFG_CRYPTO = 0 → Gives .ideIntegrityFail s fun t => Unchanged s t)

/-- USQ_STEP_LOG keeps the first fault; a later one sets only OVERFLOW; any write clears it: A fault at a sequencer that runs puts its routine, its step and its source into USQ_STEP_LOG with VALID while VALID is 0. While VALID is 1 a fault changes only OVERFLOW there. A write of the register, at once or of its high word, whose agent may write it (PF0, the lead command processor, or that of the sequencer's half) makes it 0. -/
def Obligations.StepLogKeepsTheFirstFault : Prop :=
  (∀ (u r p f : Nat) (d : UsqData) (s : State), s.usqPresent u = true → s.flag USQ_STS_RUN u = true → s.flag USQ_STEP_LOG_VALID u = false →
    Gives (.usqFault u r p f d) s fun t =>
      t.fld USQ_STEP_LOG_ROUTINE u = r % 256 ∧ t.fld USQ_STEP_LOG_STEP u = p % 4096 ∧ t.fld USQ_STEP_LOG_SOURCE u = f % 64 ∧
      t.flag USQ_STEP_LOG_VALID u = true ∧ t.flag USQ_STEP_LOG_OVERFLOW u = false) ∧
  (∀ (u r p f : Nat) (d : UsqData) (s : State), s.usqPresent u = true → s.flag USQ_STS_RUN u = true → s.flag USQ_STEP_LOG_VALID u = true →
    Gives (.usqFault u r p f d) s fun t => t.reg .USQ_STEP_LOG u = setBitField (s.reg .USQ_STEP_LOG u) USQ_STEP_LOG_OVERFLOW.lo 1 1) ∧
  (∀ (u : Nat) (v : DWord) (s : State), u < 6 → s.usqPresent u = true →
    Gives (.registerWrite (.func 0) (0x1002010 + 0x100 * u) 8 v) s (fun t => t.reg .USQ_STEP_LOG u = 0 ∧ SameRegs [.USQ_STEP_LOG] s t) ∧
    Gives (.registerWrite (.func 0) (0x1002014 + 0x100 * u) 4 v) s fun t => t.reg .USQ_STEP_LOG u = 0 ∧ SameRegs [.USQ_STEP_LOG] s t) ∧
  (∀ (u h : Nat) (v : DWord) (s : State), u < 6 → s.usqPresent u = true → h < 2 → s.cpxMay h .USQ_STEP_LOG u = true →
    Gives (.registerWrite (.cpx h) (0x1002010 + 0x100 * u) 8 v) s (fun t => t.reg .USQ_STEP_LOG u = 0 ∧ SameRegs [.USQ_STEP_LOG] s t) ∧
    Gives (.registerWrite (.cpx h) (0x1002014 + 0x100 * u) 4 v) s fun t => t.reg .USQ_STEP_LOG u = 0 ∧ SameRegs [.USQ_STEP_LOG] s t)

/-- Image load, the lead and its epoch, release, watchdog, halt and adoption, and the sequencers' boundaries: PF0 starts a load when none runs; a bad length or a bad image stops it with its error and FS15, a good one runs both command processors and every sequencer. A lead request with the epoch in force takes the lead at the next epoch; another changes nothing but its own register; a fenced command processor's is discarded and counted. Snowdrop without a lead takes the strap's. A fenced processor asks for its release. A lost heartbeat is WDOG and FS14, once a lapse. Halt and adoption stop the other half's processor; clearing ADOPT before it has run again does nothing. A boundary takes the faults kept, then a stop; a fault is FS12 and counted, an overrun FS11. -/
def Obligations.HalvesLoadLeadAndAreAdopted : Prop :=
  (∀ (a : Agent) (s : State), s.actsAsPf0 a = true → s.fld CPX_BOOT_STS_STATE = 0 ∨ s.fld CPX_BOOT_STS_STATE = 5 →
    (0 < s.regN .CPX_BOOT_LEN → s.regN .CPX_BOOT_LEN ≤ 4194304 → Gives (.cpxBootGo a) s fun t =>
      t.fld CPX_BOOT_STS_STATE = 1 ∧ t.fld CPX_BOOT_STS_ERR = 0 ∧ OnlyRegs [.CPX_BOOT_STS] s t) ∧
    (s.regN .CPX_BOOT_LEN = 0 ∨ 4194304 < s.regN .CPX_BOOT_LEN → Gives (.cpxBootGo a) s fun t =>
      t.fld CPX_BOOT_STS_STATE = 5 ∧ t.fld CPX_BOOT_STS_ERR = 1 ∧ t.flag CPX_EVT_BOOT_FAIL 0 = true ∧ t.flag CPX_EVT_BOOT_FAIL 1 = true ∧
      t.reg .FC_LAST = faultRecord 15 0 false s.tickIndex ∧ OnlyRegs ([.CPX_BOOT_STS, .CPX_EVT] ++ faultOnly) s t)) ∧
  (∀ (f : Nat) (s : State), f ≠ 0 ∨ (s.fld CPX_BOOT_STS_STATE ≠ 0 ∧ s.fld CPX_BOOT_STS_STATE ≠ 5) → Gives (.cpxBootGo (.func f)) s fun t => Unchanged s t) ∧
  (∀ (x : OxvexImage) (s : State), s.fld CPX_BOOT_STS_STATE = 1 → s.secWaits = false → s.imageError x = none →
    Gives (.imageReadComplete x) s fun t =>
      t.fld CPX_BOOT_STS_STATE = 4 ∧ t.flag CPX_STS_RUNNING 0 = true ∧ t.flag CPX_STS_RUNNING 1 = true ∧
      (∀ u : Nat, u < 6 → s.usqPresent u = true → t.flag USQ_STS_RUN u = true) ∧ t.ctl.retained = true ∧
      (x.commitSvn = true → s.fld SEC_MIN_SVN_SVN < x.svn → t.fld SEC_MIN_SVN_SVN = x.svn) ∧ t.reg .CPX_BELIEF 0 = s.reg .AON_LEAD ∧
      t.reg .CPX_BELIEF 1 = s.reg .AON_LEAD ∧ SameMemory s t ∧ t.streams = s.streams) ∧
  (∀ (x : OxvexImage) (e : Nat) (s : State), s.fld CPX_BOOT_STS_STATE = 1 → s.secWaits = false → s.imageError x = some e →
    Gives (.imageReadComplete x) s fun t =>
      t.fld CPX_BOOT_STS_STATE = 5 ∧ t.fld CPX_BOOT_STS_ERR = e ∧ t.reg .FC_LAST = faultRecord 15 0 false s.tickIndex ∧
      OnlyRegs ([.CPX_BOOT_STS, .CPX_EVT] ++ faultOnly) s t) ∧
  (∀ (x : OxvexImage) (s : State), s.fld CPX_BOOT_STS_STATE ≠ 1 ∨ s.secWaits = true → Gives (.imageReadComplete x) s fun t => Unchanged s t) ∧
  (∀ (o e : Nat) (s : State), e = s.fld AON_LEAD_EPOCH → e < 0xFFFFFFFF →
    Gives (.aonLeadRequest (.func 0) o e) s (fun t =>
      t.fld AON_LEAD_OWNER = o % 2 ∧ t.fld AON_LEAD_EPOCH = e + 1 ∧ t.flag CPX_EVT_LEAD_CHANGE 0 = true ∧ t.flag CPX_EVT_LEAD_CHANGE 1 = true ∧
      (∀ h, t.reg .CPX_BELIEF h = s.reg .CPX_BELIEF h) ∧ SameRegs [.AON_LEAD, .AON_LEAD_REQ, .CPX_STS, .CPX_EVT, .IC_PEND, .IC_MERGE_CNT] s t) ∧
    (∀ h : Nat, h < 2 → s.flag CPX_STS_FENCED h = false → Gives (.aonLeadRequest (.cpx h) o e) s fun t =>
      t.fld AON_LEAD_OWNER = o % 2 ∧ t.fld AON_LEAD_EPOCH = e + 1 ∧ t.reg .CPX_BELIEF h = t.reg .AON_LEAD ∧
      t.flag CPX_EVT_LEAD_CHANGE 0 = true ∧ t.flag CPX_EVT_LEAD_CHANGE 1 = true)) ∧
  (∀ (o e : Nat) (s : State), e ≠ s.fld AON_LEAD_EPOCH ∨ e = 0xFFFFFFFF →
    Gives (.aonLeadRequest (.func 0) o e) s fun t => t.flag AON_LEAD_REQ_ACCEPTED = false ∧ OnlyRegs [.AON_LEAD_REQ] s t) ∧
  (∀ (o e h : Nat) (s : State), h < 2 → s.flag CPX_STS_FENCED h = true →
    Gives (.aonLeadRequest (.cpx h) o e) s fun t =>
      t.regN .CPX_REFUSED_CNT h = min 0xFFFFFFFF (s.regN .CPX_REFUSED_CNT h + 1) ∧ OnlyRegs [.CPX_REFUSED_CNT] s t) ∧
  (∀ s : State, s.flag AON_LEAD_VALID = false →
    Gives .aonPowerUp s fun t =>
      t.flag AON_LEAD_VALID = true ∧ t.fld AON_LEAD_OWNER = s.chip.strapLead.toNat ∧
      t.fld AON_LEAD_EPOCH = min 0xFFFFFFFF (max (s.fld CPX_BELIEF_EPOCH 0) (s.fld CPX_BELIEF_EPOCH 1) + 1) ∧
      t.reg .FC_LAST = faultRecord 35 0 false s.tickIndex ∧ OnlyRegs ([.AON_LEAD, .CPX_STS] ++ faultOnly) s t) ∧
  (∀ s : State, s.flag AON_LEAD_VALID = true → Gives .aonPowerUp s fun t => Unchanged s t) ∧
  (∀ (h : Nat) (s : State),
    (h < 2 → s.flag CPX_STS_FENCED h = true → Gives (.cpxRelease h) s fun t => t.flag CPX_CTL_RELEASE h = true ∧ OnlyRegs [.CPX_CTL] s t) ∧
    (2 ≤ h ∨ s.flag CPX_STS_FENCED h = false → Gives (.cpxRelease h) s fun t => Unchanged s t) ∧
    (h < 2 → s.heartLost h = true → s.flag CPX_STS_WDOG h = false → Gives (.cpxWatchdogExpiry h) s fun t =>
      t.flag CPX_STS_WDOG h = true ∧ t.flag CPX_EVT_WDOG h = true ∧ t.reg .FC_LAST = faultRecord 14 (1 - h) false s.tickIndex ∧
      OnlyRegs ([.CPX_STS, .CPX_EVT] ++ faultOnly) s t) ∧
    (s.heartLost h = false ∨ s.flag CPX_STS_WDOG h = true → Gives (.cpxWatchdogExpiry h) s fun t => Unchanged s t)) ∧
  (∀ (a : Agent) (h : Nat) (s : State), s.actsAsPf0 a = true → s.mayHalt a h = true →
    Gives (.cpxAdopt a h true) s (fun t =>
      t.flag CPX_STS_HALTED h = true ∧ t.flag CPX_STS_RUNNING h = false ∧ t.flag CPX_CTL_ADOPT h = true ∧ t.flag CPX_STS_ADOPTED (1 - h) = true ∧
      t.ctl.handBack = none ∧ (s.cmd.outstanding = [] → t.cmd = s.cmd ∧ SameMemory s t)) ∧
    Gives (.cpxHalt a h) s (fun t =>
      t.flag CPX_STS_HALTED h = true ∧ t.flag CPX_STS_RUNNING h = false ∧ t.flag CPX_CTL_HALT h = true ∧
      t.flag CPX_STS_ADOPTED (1 - h) = s.flag CPX_STS_ADOPTED (1 - h)) ∧
    (s.flag CPX_CTL_ADOPT h = true → s.flag CPX_STS_HALTED h = false → Gives (.cpxAdopt a h false) s fun t =>
      t.flag CPX_CTL_ADOPT h = false ∧ t.ctl.handBack = some h ∧ OnlyRegs [.CPX_CTL] { s with ctl := t.ctl } t) ∧
    (s.flag CPX_STS_HALTED h = true → Gives (.cpxAdopt a h false) s fun t => Unchanged s t)) ∧
  (∀ (f h : Nat) (b : Bool) (s : State), s.mayHalt (.func f) h = false →
    Gives (.cpxAdopt (.func f) h b) s (fun t => Unchanged s t) ∧ Gives (.cpxHalt (.func f) h) s fun t => Unchanged s t) ∧
  (∀ (u w : Nat) (n : Option Nat) (s : State), s.usqPresent u = true → s.flag USQ_STS_RUN u = true → storeFind s.ctl.faults u = none →
    Gives (.usqRoutineBoundary u w n false) s (fun t =>
      t.flag USQ_STS_IN_ROUTINE u = n.isSome ∧ t.fld USQ_STS_ROUTINE u = n.getD 0 % 256 ∧ t.flag USQ_STS_RUN u = true ∧
      t.regN .USQ_LAT_MAX u = max (s.regN .USQ_LAT_MAX u) (min w 4096) ∧ OnlyRegs [.USQ_STS, .USQ_LAT_MAX] { s with ctl := t.ctl } t) ∧
    Gives (.usqRoutineBoundary u w n true) s fun t =>
      t.flag USQ_STS_RUN u = false ∧ t.flag USQ_STS_STOPPED u = true ∧ t.flag USQ_EVT_STOP u = true ∧ t.flag USQ_STS_IN_ROUTINE u = false) ∧
  (∀ (u w h : Nat) (n : Option Nat) (s : State), s.usqPresent u = true → s.flag USQ_STS_RUN u = true → storeFind s.ctl.faults u = some [.context h] →
    (s.stream h).st ≠ .free → (s.stream h).dec = false →
    Gives (.usqRoutineBoundary u w n false) s fun t =>
      (t.stream h).keyDue = true ∧ t.flag USQ_EVT_FAULT_TAKEN u = true ∧ storeFind t.ctl.faults u = none ∧
      (∀ k, k ≠ h → t.stream k = s.stream k)) ∧
  (∀ (u : Nat) (ps : List Nat) (s : State), s.usqPresent u = true → s.flag USQ_STS_RUN u = true → ps = [] →
    Gives (.usqRoutineOverrun u ps) s fun t =>
      t.flag USQ_STS_IN_ROUTINE u = false ∧ t.flag USQ_EVT_OVERRUN u = true ∧ t.reg .FC_LAST = faultRecord 11 u false s.tickIndex ∧
      OnlyRegs ([.USQ_STS, .USQ_EVT] ++ faultOnly) s t) ∧
  (∀ (u r p f : Nat) (d : UsqData) (s : State), s.usqPresent u = true → s.flag USQ_STS_RUN u = true →
    Gives (.usqFault u r p f d) s fun t =>
      t.regN .USQ_POISON_CNT u = min 0xFFFFFFFF (s.regN .USQ_POISON_CNT u + 1) ∧ t.flag USQ_EVT_POISON u = true ∧
      t.reg .FC_LAST = faultRecord 12 u false s.tickIndex ∧ storeFind t.ctl.faults u = some ((storeFind s.ctl.faults u).getD [] ++ [d]) ∧
      OnlyRegs ([.USQ_STEP_LOG, .USQ_POISON_CNT, .USQ_EVT] ++ faultOnly) { s with ctl := t.ctl } t) ∧
  (∀ (u w r p f : Nat) (n : Option Nat) (b : Bool) (d : UsqData) (ps : List Nat) (s : State), s.usqPresent u = false ∨ s.flag USQ_STS_RUN u = false →
    Gives (.usqRoutineBoundary u w n b) s (fun t => Unchanged s t) ∧ Gives (.usqRoutineOverrun u ps) s (fun t => Unchanged s t) ∧
    Gives (.usqFault u r p f d) s fun t => Unchanged s t)

/-- FC_INJECT records the source it names, with INJ, in test mode alone: With TEST_MODE 1, a write of FC_INJECT with GO by PF0 or the lead command processor records an occurrence of the source it names: the record in FC_LAST has INJ set, and every other register but FC_FIRST and FC_INJECT, and all else, is as a real occurrence of that source leaves it. With TEST_MODE 0 the write changes nothing. STRAP_TEST as sampled is what TEST_MODE reads. -/
def Obligations.InjectionRecordsAnOccurrence : Prop :=
  (∀ (a : Agent) (v : Word) (s : State), s.actsAsPf0 a = true → s.chip.strapTest = true → v.toNat.testBit 8 = true → v.toNat % 64 < 37 →
    Gives (.fcInject a v) s fun t =>
      t.reg .FC_LAST = faultRecord (v.toNat % 64) 0 true s.tickIndex ∧ (t.reg .FC_STATUS).getLsbD (v.toNat % 64) = true ∧
      OnlyRegs [.FC_INJECT, .FC_LAST, .FC_FIRST] (s.record (v.toNat % 64) 0) t) ∧
  (∀ (a : Agent) (v : Word) (s : State), s.actsAsPf0 a = true → s.chip.strapTest = false → Gives (.fcInject a v) s fun t => Unchanged s t)

/-- Claims, completions, routing, messages, and the fault collector's clear and mask: A target's handler claims the deliverable source of highest priority: it becomes active, on the target's stack, and its number is read; with none NONE is read. Anyone else reads NONE and changes nothing. Completing the top of the stack pops it; completing another under STRICT sets STACK_ERR and FS36, and without STRICT removes it or is counted. PF0 routes sources, the owner of a queue its vector. A message goes to an idle target that has a deliverable source, once. FC_CLEAR clears the bits written, and those of a condition that persists set again; FC_MASK takes the mask. -/
def Obligations.SourcesAreClaimedAndFaultsCleared : Prop :=
  (∀ (a : Agent) (x n : Nat) (s : State), handles a x = true → s.bestSource x = some n → s.live n = true →
    Gives (.icClaim a x) s fun t =>
      t.lastRead = BitVec.ofNat 64 n ∧ t.pendBit n = false ∧ (t.target x).stack = (n, s.fld IC_SRC_CFG_PRIO n) :: (s.target x).stack ∧
      (t.target x).signalled = false ∧ SameRegs [.IC_PEND, .IC_ACTIVE, .IC_TGT_STS] s t ∧ SameMemory s t) ∧
  (∀ (a : Agent) (x : Nat) (s : State), handles a x = true → s.bestSource x = none → x < 768 →
    Gives (.icClaim a x) s fun t => t = settle { s with lastRead := 0x80000000 }) ∧
  (∀ (a : Agent) (x : Nat) (s : State), handles a x = false → Gives (.icClaim a x) s fun t => t = settle { s with lastRead := 0x80000000 }) ∧
  (∀ (a : Agent) (x n p : Nat) (v : Word) (rest : List (Nat × Nat)) (s : State), handles a x = true → s.fencedAgent a = false →
    (s.target x).stack = (n, p) :: rest → v.toNat % 256 = n →
    Gives (.icComplete a x v) s fun t =>
      (t.target x).stack = (rest.filter fun e => e.1 != n) ∧ SameRegs [.IC_COMPLETE, .IC_ACTIVE, .IC_TGT_STS] s t ∧ SameMemory s t) ∧
  (∀ (a : Agent) (x : Nat) (v : Word) (s : State), handles a x = true → s.fencedAgent a = false →
    ((s.target x).stack.head?.map Prod.fst) ≠ some (v.toNat % 256) →
    (s.flag IC_CTL_STRICT = true → Gives (.icComplete a x v) s fun t =>
      t.flag IC_STS_STACK_ERR = true ∧ t.reg .FC_LAST = faultRecord 36 (v.toNat % 256) false s.tickIndex ∧
      OnlyRegs ([.IC_COMPLETE, .IC_STS] ++ faultOnly) s t) ∧
    (s.flag IC_CTL_STRICT = false → ((s.target x).stack.any fun e => e.1 == v.toNat % 256) = false → Gives (.icComplete a x v) s fun t =>
      t.regN .IC_IGNORED_CNT = min 0xFFFFFFFF (s.regN .IC_IGNORED_CNT + 1) ∧ OnlyRegs [.IC_COMPLETE, .IC_IGNORED_CNT] s t)) ∧
  (∀ (f x : Nat) (v : Word) (s : State), handles (.func f) x = false → Gives (.icComplete (.func f) x v) s fun t => Unchanged s t) ∧
  (∀ (a : Agent) (n : Nat) (v : Word) (s : State), s.actsAsPf0 a = true → 64 ≤ n → n < 250 →
    (natField v.toNat 4 2 ≠ 0 ∨ natField v.toNat 16 6 = 0 → Gives (.icSrcCfgWrite a n v) s fun t =>
      t.regN .IC_SRC_CFG n = v.toNat &&& 0x3FFF3F ∧ OnlyRegs [.IC_SRC_CFG] s t) ∧
    (natField v.toNat 4 2 = 0 → natField v.toNat 16 6 ≠ 0 → Gives (.icSrcCfgWrite a n v) s fun t =>
      t.flag IC_STS_CFG_ERR = true ∧ OnlyRegs [.IC_STS] s t)) ∧
  (∀ (f n : Nat) (v : Word) (s : State), n < 64 → f = s.fld CPLQ_OWNER_FUNC n → f ≤ 32 →
    (vectorExists f (natField v.toNat 8 8) = true → Gives (.icSrcCfgWrite (.func f) n v) s fun t =>
      t.fld IC_SRC_CFG_VECTOR n = natField v.toNat 8 8 ∧ t.fld IC_SRC_CFG_PRIO n = v.toNat % 16 ∧ OnlyRegs [.IC_SRC_CFG] s t) ∧
    (vectorExists f (natField v.toNat 8 8) = false → Gives (.icSrcCfgWrite (.func f) n v) s fun t =>
      t.flag IC_STS_CFG_ERR = true ∧ OnlyRegs [.IC_STS] s t)) ∧
  (∀ (f n : Nat) (v : Word) (s : State), (n < 64 ∧ f ≠ s.fld CPLQ_OWNER_FUNC n) ∨ (64 ≤ n ∧ f ≠ 0) ∨ 250 ≤ n →
    Gives (.icSrcCfgWrite (.func f) n v) s fun t => Unchanged s t) ∧
  (∀ (x : Nat) (s : State), targetExists x = true → (s.target x).signalled = false → s.deliverable x ≠ [] →
    Gives (.icMessageSend x) s fun t =>
      (t.target x).signalled = true ∧ (t.target x).waiting = false ∧ t.tb.run = max s.tb.run (s.messageAt x) ∧
      (t.target x).lastMsg = some (max s.tb.run (s.messageAt x)) ∧
      (768 ≤ x → t.sent = Sent.cpxEvent (x - 768) :: s.sent) ∧
      (x < 768 → storeFind s.cxl.unmasked (vectorKey (targetVector x).1 (targetVector x).2) = some true →
        t.sent = Sent.msix (targetVector x).1 (targetVector x).2 :: s.sent) ∧
      SameRegs [.IC_TGT_STS] s t ∧ SameMemory s t) ∧
  (∀ (x : Nat) (s : State), targetExists x = false ∨ (s.target x).signalled = true ∨ s.deliverable x = [] →
    Gives (.icMessageSend x) s fun t => Unchanged s t) ∧
  (∀ (a : Agent) (v : DWord) (s : State), s.actsAsPf0 a = true → s.levels = 0 →
    Gives (.fcClearWrite a v) s fun t =>
      t.reg .FC_STATUS = s.reg .FC_STATUS &&& ~~~v ∧ (s.reg .FC_STATUS &&& ~~~v = 0 → t.reg .FC_FIRST = 0) ∧
      (s.reg .FC_STATUS &&& ~~~v ≠ 0 → t.reg .FC_FIRST = s.reg .FC_FIRST) ∧ OnlyRegs [.FC_STATUS, .FC_FIRST] s t) ∧
  (∀ (a : Agent) (v : DWord) (f : Nat) (s : State), s.actsAsPf0 a = true → f < 37 → v.getLsbD f = true → (s.reg .FC_STATUS).getLsbD f = true →
    s.levels.getLsbD f = true →
    Gives (.fcClearWrite a v) s fun t => (t.reg .FC_STATUS).getLsbD f = true ∧ t.regN .FC_CNT f = min 0xFFFF (s.regN .FC_CNT f + 1)) ∧
  (∀ (a : Agent) (v : DWord) (s : State), s.actsAsPf0 a = true →
    Gives (.fcMaskWrite a v) s fun t =>
      t.reg .FC_MASK = v ∧ t.pins.faultN = decide (s.reg .FC_STATUS &&& ~~~v = 0) ∧ OnlyRegs [.FC_MASK] s t) ∧
  (∀ (f : Nat) (v : DWord) (w : Word) (s : State), f ≠ 0 →
    Gives (.fcClearWrite (.func f) v) s (fun t => Unchanged s t) ∧ Gives (.fcMaskWrite (.func f) v) s (fun t => Unchanged s t) ∧
    Gives (.fcInject (.func f) w) s fun t => Unchanged s t)

/-- Domains come on, sleep is asked for, refused, begun and aborted, and the device wakes: A restore that ends leaves its domain ON at its instant, with PM_EVT.DOM_ON. Only PF0 asks for sleep: a request that R441 refuses writes the cause and PM_EVT.SLEEP_ABORT and starts nothing; an accepted one starts the entry at PHASE 1, unless a wake condition is there, which aborts it at AP0. A wake condition during an entry aborts it at its next abort point; in Nap or Deep it wakes the device, which is then Active or Idle; a condition the target does not heed changes nothing; while the device is awake only the host's own transition happens. (That a restore ends with the row's event, and that the phases between AP0 and AP3 are operands of the wake event, are the model's choices (log entries 87 and 101).) -/
def Obligations.DomainsSleepAndWake : Prop :=
  (∀ (d x : Nat) (s : State), d < 24 → storeFind s.power.onAt d = some x → s.flag TK_CTRL_EN = true → s.cmd.outstanding = [] →
    Gives (.domainRestoreDone d) s fun t =>
      t.fld PM_DOM_STS_STATE d = 2 ∧ t.flag PM_EVT_DOM_ON = true ∧ storeFind t.power.onAt d = none ∧ t.tb.run = max s.tb.run x ∧
      (∀ e : Nat, e < 24 → e ≠ d → t.reg .PM_DOM_STS e = s.reg .PM_DOM_STS e ∧ (e ≠ 14 → t.reg .AON_VOTE e = s.reg .AON_VOTE e)) ∧
      (d < 6 → s.fld PM_STATE_STATE < 2 → t.fld PM_STATE_STATE = 0) ∧
      SameRegs [.PM_DOM_STS, .PM_EVT, .AON_VOTE, .PM_STATE, .ARB_MASK, .ARB_MASK_FENCE, .ARB_EVT, .IC_PEND, .IC_MERGE_CNT] s t ∧ SameMemory s t) ∧
  (∀ (d : Nat) (s : State), storeFind s.power.onAt d = none → Gives (.domainRestoreDone d) s fun t => Unchanged s t) ∧
  (∀ (v : Word) (s : State), v.toNat % 4 = 1 ∨ v.toNat % 4 = 2 → s.fld PM_STATE_STATE = 1 → s.fld CMDQ_HELD_COUNT = 0 →
    (∀ q : Nat, q < 64 → s.fld CMDQ_STS_PENDING q = 0 ∧ s.flag DMA_STS_BUSY q = false) → s.codec.enc = [] → s.codec.dec = [] →
    (v.toNat % 4 = 2 → s.cxl.l1 = true) → s.flag PM_STATE_ENTERING = false → s.flag PM_STATE_WAKING = false →
    Gives (.sleepRequest (.func 0) v none true) s fun t =>
      t.fld PM_SLEEP_STS_PHASE = 1 ∧ t.fld PM_SLEEP_STS_ERR = 0 ∧ t.flag PM_STATE_ENTERING = true ∧ t.fld PM_STATE_STATE = 1 ∧
      t.regN .PM_SLEEP_REQ = v.toNat &&& 0x13 ∧ t.power.entry = some (v.toNat % 4, s.tb.run) ∧
      SameRegs [.PM_SLEEP_REQ, .PM_SLEEP_STS, .PM_STATE] s t ∧ SameMemory s t) ∧
  (∀ (v : Word) (w : WakeCause) (d3 : Bool) (s : State), v.toNat % 4 = 1 ∨ v.toNat % 4 = 2 →
    State.sleepRefused { s with cxl := { s.cxl with d3hot := d3 } } (v.toNat % 4) = none →
    s.wakes (v.toNat % 4) w = true → w ≠ .d0 →
    Gives (.sleepRequest (.func 0) v (some w) d3) s fun t =>
      t.flag PM_SLEEP_STS_ABORTED = true ∧ t.fld PM_SLEEP_STS_ABORT_AP = 0 ∧ t.fld PM_SLEEP_STS_PHASE = 0 ∧ t.flag PM_STATE_ENTERING = false ∧
      t.flag PM_EVT_SLEEP_ABORT = true ∧ t.regN .AON_WAKE_CAUSE = causeWord w ∧ t.power.entry = none ∧ SameMemory s t) ∧
  (∀ (v : Word) (w : Option WakeCause) (d3 : Bool) (e : Nat) (s : State), v.toNat % 4 = 1 ∨ v.toNat % 4 = 2 →
    State.sleepRefused { s with cxl := { s.cxl with d3hot := d3 } } (v.toNat % 4) = some e →
    Gives (.sleepRequest (.func 0) v w d3) s fun t =>
      t.fld PM_SLEEP_STS_ERR = e ∧ 1 ≤ e ∧ e ≤ 4 ∧ t.flag PM_EVT_SLEEP_ABORT = true ∧ (s.fld PM_STATE_STATE ≠ 1 → e = 1) ∧
      (e = 3 → v.toNat % 4 = 2) ∧
      OnlyRegs [.PM_SLEEP_STS, .PM_EVT, .IC_PEND, .IC_MERGE_CNT] { s with cxl := { s.cxl with d3hot := d3 } } t) ∧
  (∀ (f : Nat) (v : Word) (w : Option WakeCause) (d3 : Bool) (s : State), f ≠ 0 ∨ v.toNat % 4 = 3 →
    Gives (.sleepRequest (.func f) v w d3) s fun t => Unchanged s t) ∧
  (∀ (w : WakeCause) (x : WakeInfo) (s : State), s.power.entry = none → 2 ≤ s.fld PM_STATE_STATE →
    s.wakes (s.fld PM_STATE_STATE - 1) w = true →
    Gives (.wakeEvent w x) s fun t =>
      t.fld PM_STATE_STATE < 2 ∧ t.flag PM_STATE_WAKING = false ∧
      (s.fld PM_STATE_STATE = 2 → t.flag PM_EVT_SLEEP_DONE = true ∧ t.flag PM_EVT_WAKE = true)) ∧
  (∀ (w : WakeCause) (x : WakeInfo) (p : Nat × Nat) (s : State), s.power.entry = some p → s.wakes p.1 w = true → x.ap < 4 →
    Gives (.wakeEvent w x) s fun t =>
      t.flag PM_SLEEP_STS_ABORTED = true ∧ t.fld PM_SLEEP_STS_ABORT_AP = max 1 x.ap ∧ t.flag PM_STATE_ENTERING = false ∧
      t.flag PM_EVT_SLEEP_ABORT = true ∧ t.regN .AON_WAKE_CAUSE = causeWord w ∧ t.power.entry = none) ∧
  (∀ (w : WakeCause) (x : WakeInfo) (s : State),
    (s.power.entry = none ∧ s.fld PM_STATE_STATE < 2 → Gives (.wakeEvent w x) s fun t => OnlyRegs [] (s.hostWakes w) t) ∧
    ((match s.power.entry with | some p => s.wakes p.1 w | none => true) = false → Gives (.wakeEvent w x) s fun t => Unchanged s t))

/-- Droop, temperature and the VDD_CORE readback act on their regions, events and faults: A sensor's droop sets DROOP_MV and WARN; at SLOW_MV its region is slowed and the episode counted, at CRIT_MV for 100 ns FS33 is recorded, and after the hold the full clock is restored and the episode's time added. Above 105 degrees FS32 is asserted; at TRIP_C every region is slowed until 5 degrees below it. A thermal shutdown holds the device in reset with the fault recorded. PF0 sets the target, which is sent to the regulator; a readback 25 mV off, or a failed transaction, asserts FS34. -/
def Obligations.RegionsSlowAndTheSupplyIsWatched : Prop :=
  (∀ (i mv : Nat) (s : State), i < 8 →
    Gives (.droopCrossing i mv) s fun t =>
      t.fld DRP_STS_DROOP_MV i = min 255 mv ∧ t.flag DRP_STS_WARN i = decide (s.fld DRP_CFG_WARN_MV i ≤ mv) ∧
      t.flag DRP_STS_SLOWED i = (s.flag DRP_STS_SLOWED i || decide (s.fld DRP_CFG_SLOW_MV i ≤ mv)) ∧
      (s.flag DRP_STS_WARN i = false → s.fld DRP_CFG_WARN_MV i ≤ mv → t.flag ⟨.DRP_EVT, 16 + i, 1⟩ = true) ∧
      (s.flag DRP_STS_SLOWED i = false → s.fld DRP_CFG_SLOW_MV i ≤ mv →
        t.flag ⟨.DRP_EVT, i, 1⟩ = true ∧ t.regN .DRP_SLOW_CNT i = min 0xFFFFFFFF (s.regN .DRP_SLOW_CNT i + 1) ∧
        storeFind t.power.slowAt i = some s.tb.run) ∧
      (s.flag DRP_STS_SLOWED i = true ∨ mv < s.fld DRP_CFG_SLOW_MV i → t.regN .DRP_SLOW_CNT i = s.regN .DRP_SLOW_CNT i) ∧
      (mv < s.fld DRP_CFG_CRIT_MV i → storeFind t.power.critAt i = none) ∧
      (∀ e, e ≠ i → t.reg .DRP_STS e = s.reg .DRP_STS e) ∧ t.tb = s.tb ∧ SameMemory s t) ∧
  (∀ (i mv : Nat) (s : State), i < 8 → s.fld DRP_CFG_CRIT_MV i ≤ mv → s.fld DRP_CFG_SLOW_MV i ≤ mv → storeFind s.power.critAt i = none →
    s.flag DRP_STS_CRIT i = false →
    Gives (.droopCrossing i mv) s fun t => storeFind t.power.critAt i = some s.tb.run) ∧
  (∀ (i mv : Nat) (s : State), 8 ≤ i → Gives (.droopCrossing i mv) s fun t => Unchanged s t) ∧
  (∀ (i x : Nat) (s : State), i < 8 → storeFind s.power.critAt i = some x →
    Gives (.droopCritExpiry i) s fun t =>
      t.flag DRP_STS_CRIT i = true ∧ t.flag ⟨.DRP_EVT, 8 + i, 1⟩ = true ∧ t.reg .FC_LAST = faultRecord 33 i false s.tickIndex ∧
      storeFind t.power.critAt i = none ∧ t.tb.run = max s.tb.run (x + 100) ∧ SameRegs ([.DRP_STS, .DRP_EVT] ++ faultOnly) s t ∧ SameMemory s t) ∧
  (∀ (i : Nat) (s : State), storeFind s.power.critAt i = none → Gives (.droopCritExpiry i) s fun t => Unchanged s t) ∧
  (∀ (i x : Nat) (s : State), i < 8 → storeFind s.power.holdAt i = some x →
    Gives (.droopHoldExpiry i) s fun t =>
      t.flag DRP_STS_SLOWED i = false ∧ t.tb.run = max s.tb.run (x + 1000 * max 1 (s.fld DRP_CFG_HOLD_US i)) ∧
      (∀ y : Nat, storeFind s.power.slowAt i = some y →
        t.regN .DRP_SLOW_NS i = min 0xFFFFFFFF (s.regN .DRP_SLOW_NS i + (t.tb.run - y))) ∧
      storeFind t.power.holdAt i = none ∧ storeFind t.power.slowAt i = none ∧ (∀ e, e ≠ i → t.reg .DRP_STS e = s.reg .DRP_STS e) ∧
      SameMemory s t) ∧
  (∀ (i : Nat) (s : State), storeFind s.power.holdAt i = none → Gives (.droopHoldExpiry i) s fun t => Unchanged s t) ∧
  (∀ (c i : Nat) (s : State),
    Gives (.thermalChange c i) s fun t =>
      t.fld PM_TEMP_TJ_C = min 255 c ∧ t.fld PM_TEMP_SENSOR = i % 256 ∧ t.levels.getLsbD 32 = decide (105 < c) ∧
      (105 < c → s.levels.getLsbD 32 = false → t.reg .FC_LAST = faultRecord 32 i false s.tickIndex) ∧
      (clampNat 90 120 (s.fld PM_THERM_TRIP_C) ≤ c → t.flag DRP_STS_THERM_SLOW = true) ∧
      (clampNat 90 120 (s.fld PM_THERM_TRIP_C) ≤ c → s.flag DRP_STS_THERM_SLOW = false →
        t.flag PM_EVT_THERM_TRIP = true ∧ ∀ e : Nat, e < 8 → t.flag DRP_STS_THERM_SLOW e = true) ∧
      (c + 5 < clampNat 90 120 (s.fld PM_THERM_TRIP_C) → t.flag DRP_STS_THERM_SLOW = false) ∧
      (c < clampNat 90 120 (s.fld PM_THERM_TRIP_C) → clampNat 90 120 (s.fld PM_THERM_TRIP_C) ≤ c + 5 →
        t.flag DRP_STS_THERM_SLOW = s.flag DRP_STS_THERM_SLOW) ∧
      (s.fld PM_THERM_WARN_C ≤ c → s.fld PM_TEMP_TJ_C < s.fld PM_THERM_WARN_C → t.flag PM_EVT_THERM_WARN = true) ∧
      SameRegs ([.PM_TEMP, .PM_EVT, .DRP_STS, .ENC_EP_STS, .DEC_DP_STS] ++ faultOnly) s t ∧ SameMemory s t) ∧
  (∀ s : State, s.resets.shut = false → Gives .thermalShutdown s fun t =>
    t.resets.shut = true ∧ t.inReset = true ∧ (t.reg .FC_STATUS).getLsbD 32 = (s.levels.getLsbD 32 && (s.reg .FC_STATUS).getLsbD 32 || !s.levels.getLsbD 32) ∧
    t.reg .PM_TEMP = s.reg .PM_TEMP ∧ t.reg .PM_STATE = s.reg .PM_STATE ∧ t.reg .GLB_RST_STS = s.reg .GLB_RST_STS ∧
    t.reg .FC_MASK = s.reg .FC_MASK ∧ t.flows = [] ∧ t.codec = {} ∧ t.cxl.linkUp = false) ∧
  (∀ s : State, s.resets.shut = true → Gives .thermalShutdown s fun t => Unchanged s t) ∧
  (∀ (v : Word) (a : Agent) (s : State), s.actsAsPf0 a = true →
    Gives (.avsTargetWrite a v) s fun t =>
      t.regN .PM_AVS = v.toNat % 1024 ∧ t.sent = Sent.avs (clampNat 650 850 (v.toNat % 1024)) :: s.sent ∧ SameRegs [.PM_AVS] s t ∧ SameMemory s t) ∧
  (∀ (f : Nat) (v : Word) (s : State), f ≠ 0 → Gives (.avsTargetWrite (.func f) v) s fun t => Unchanged s t) ∧
  (∀ (mv : Nat) (b : Bool) (s : State), mv < 1024 →
    Gives (.avsMismatchExpiry mv b) s fun t =>
      t.fld PM_AVS_STS_MEASURED_MV = mv ∧ t.flag PM_AVS_STS_BUS_ERR = b ∧
      t.levels.getLsbD 34 = (b || decide (mv + 25 < clampNat 650 850 (s.fld PM_AVS_TARGET_MV)) || decide (clampNat 650 850 (s.fld PM_AVS_TARGET_MV) + 25 < mv)) ∧
      (b = true → t.flag PM_EVT_AVS_ERR = true) ∧ (b = true → s.levels.getLsbD 34 = false → t.reg .FC_LAST = faultRecord 34 0 false s.tickIndex) ∧
      SameRegs ([.PM_AVS_STS, .PM_EVT] ++ faultOnly) s t ∧ SameMemory s t)

/-- Each period the monitors of level quantities fold a sample; a snapshot copies every live set: A period after the last, every enabled monitor of a level quantity folds the value it has into MIN, MAX, COUNT, SUM and one histogram bin, with HI or LO set outside its limits; the others keep theirs. While no grid runs, a SNAP write by PF0 or the lead command processor copies the live sets into the snapshot sets, writes MON_SNAP_TICK, and clears the live set where CLEAR_AT_SNAP is set; from anyone else, or while a grid runs, it changes nothing. -/
def Obligations.MonitorsSampleAndSnapshot : Prop :=
  (∀ (m v : Nat) (droop temp : List Nat) (s : State), m < 32 → natField (s.regN .MON_CFG m) 23 1 = 1 → v < 2 ^ 32 →
    s.levelOf (natField (s.regN .MON_CFG m) 0 8) (natField (s.regN .MON_CFG m) 8 12) droop temp = some v →
    Gives (.monitorPeriod droop temp) s fun t =>
      t.regN .MON_MIN m = min (s.regN .MON_MIN m) v ∧ t.regN .MON_MAX m = max (s.regN .MON_MAX m) v ∧
      t.regN .MON_COUNT m = min 0xFFFFFFFF (s.regN .MON_COUNT m + 1) ∧
      t.regN .MON_SUM m = min (2 ^ 64 - 1) (s.regN .MON_SUM m + v) ∧
      t.regN .MON_HIST (m * 64 + histBin (natField (s.regN .MON_CFG m) 20 2) (natField (s.regN .MON_CFG m) 24 5) (s.regN .MON_BASE m) v) =
        min 0xFFFFFFFF (s.regN .MON_HIST (m * 64 + histBin (natField (s.regN .MON_CFG m) 20 2) (natField (s.regN .MON_CFG m) 24 5) (s.regN .MON_BASE m) v) + 1) ∧
      t.flag MON_STS_HI m = (s.flag MON_STS_HI m || decide (s.regN .MON_LIMIT m < v)) ∧
      t.flag MON_STS_LO m = (s.flag MON_STS_LO m || decide (v < s.regN .MON_LO_LIMIT m)) ∧
      (s.regN .MON_LIMIT m < v ∨ v < s.regN .MON_LO_LIMIT m → t.flag ⟨.MON_EVT, m, 1⟩ = true)) ∧
  (∀ (m : Nat) (droop temp : List Nat) (s : State), m < 32 →
    natField (s.regN .MON_CFG m) 23 1 = 0 ∨ s.levelOf (natField (s.regN .MON_CFG m) 0 8) (natField (s.regN .MON_CFG m) 8 12) droop temp = none →
    Gives (.monitorPeriod droop temp) s fun t =>
      t.reg .MON_MIN m = s.reg .MON_MIN m ∧ t.reg .MON_MAX m = s.reg .MON_MAX m ∧ t.reg .MON_COUNT m = s.reg .MON_COUNT m ∧
      t.reg .MON_SUM m = s.reg .MON_SUM m ∧ t.reg .MON_STS m = s.reg .MON_STS m) ∧
  (∀ (droop temp : List Nat) (s : State),
    Gives (.monitorPeriod droop temp) s fun t =>
      t.tb.run = max s.tb.run (s.spare.monLast + max 1 (s.fld MON_GLB_CTL_PERIOD_US) * 1000) ∧ t.spare.monLast = t.tb.run ∧
      SameRegs [.MON_MIN, .MON_MAX, .MON_COUNT, .MON_SUM, .MON_HIST, .MON_STS, .MON_EVT, .IC_PEND, .IC_MERGE_CNT] s t ∧ SameMemory s t) ∧
  (∀ (a : Agent) (m : Nat) (s : State), s.actsAsPf0 a = true → s.flag TK_CTRL_EN = false → m < 32 → s.regN .MON_COUNT m ≠ 0 →
    Gives (.monitorSnapWrite a) s fun t =>
      t.reg .MON_S_MIN m = s.reg .MON_MIN m ∧ t.reg .MON_S_MAX m = s.reg .MON_MAX m ∧ t.reg .MON_S_COUNT m = s.reg .MON_COUNT m ∧
      t.reg .MON_S_SUM m = s.reg .MON_SUM m ∧ (∀ b : Nat, b < 64 → t.reg .MON_S_HIST (m * 64 + b) = s.reg .MON_HIST (m * 64 + b)) ∧
      t.regN .MON_SNAP_TICK = s.tickIndex ∧ t.flag MON_GLB_EVT_SNAP = true ∧
      (natField (s.regN .MON_CFG m) 22 1 = 1 → t.regN .MON_COUNT m = 0 ∧ t.regN .MON_MIN m = 0xFFFFFFFF ∧ t.regN .MON_MAX m = 0 ∧ t.regN .MON_SUM m = 0 ∧
        ∀ b : Nat, b < 64 → t.regN .MON_HIST (m * 64 + b) = 0) ∧
      (natField (s.regN .MON_CFG m) 22 1 = 0 → t.reg .MON_COUNT m = s.reg .MON_COUNT m ∧ t.reg .MON_MIN m = s.reg .MON_MIN m ∧
        ∀ b : Nat, b < 64 → t.reg .MON_HIST (m * 64 + b) = s.reg .MON_HIST (m * 64 + b)) ∧
      t.tb = s.tb ∧ SameMemory s t) ∧
  (∀ (f : Nat) (s : State), f ≠ 0 ∨ s.flag TK_CTRL_EN = true → Gives (.monitorSnapWrite (.func f)) s fun t => Unchanged s t)

/-- Aging, a PLL that loses lock, the repair log, failed tests and slots, and the board's ports: An aging measurement is written with VALID and WORN; a worn unit has its events, and with AUTO_AGE the PLL's spare is asked for. A lock loss of PLL A marks it failed and goes on from PLL B, or slows every region with FS19. The oldest entry being programmed enters the log. A failed conditional test puts an operational module into ERROR with 15 and FS29 and leaves no key; an error in a slot zeroises it with FS31. SMBus reads one of its registers; a boundary scan sets the outputs. (The SMBus index order is the model's, and so is that WORN is the sign of the shift (log entries 96 and 102).) -/
def Obligations.WearAndFailuresAreFound : Prop :=
  (∀ (u : Nat) (ppm : Int) (s : State), u < 34 →
    Gives (.agingMeasure u ppm) s fun t =>
      t.fld MON_AGE_SHIFT_PPM u = unsigned 16 ppm ∧ t.flag MON_AGE_VALID u = true ∧
      t.flag MON_AGE_WORN u = decide (ppm ≤ -((max 1 (s.fld SPR_CFG_AGE_LIMIT) : Nat) : Int)) ∧
      (-((max 1 (s.fld SPR_CFG_AGE_LIMIT) : Nat) : Int) < ppm → OnlyRegs [.MON_AGE] s t) ∧
      (ppm ≤ -((max 1 (s.fld SPR_CFG_AGE_LIMIT) : Nat) : Int) → t.flag MON_GLB_EVT_AGE = true ∧ t.flag SPR_EVT_WORN = true) ∧
      (ppm ≤ -((max 1 (s.fld SPR_CFG_AGE_LIMIT) : Nat) : Int) → s.flag SPR_CFG_AUTO_AGE = true → u = 32 → s.flag SPR_STS_PLL_SEL = false →
        s.swapAsked 88 = false → s.pllBOk = true → t.swapAsked 88 = true ∧ t.flag SPR_PENDING_PLL = true) ∧
      (∀ e, e ≠ u → t.reg .MON_AGE e = s.reg .MON_AGE e) ∧ SameMemory s t) ∧
  (∀ (u : Nat) (ppm : Int) (s : State), 34 ≤ u → Gives (.agingMeasure u ppm) s fun t => Unchanged s t) ∧
  (∀ s : State, s.flag SPR_STS_PLL_SEL = false → s.pllBOk = true →
    Gives .pllLockLoss s fun t =>
      t.flag SPR_STS_PLL_SEL = true ∧ t.flag SPR_FAILED_PLL_A = true ∧ t.flag SPR_EVT_PLL_SWITCH = true ∧ t.flag SPR_EVT_SWAP = true ∧
      (s.spare.log.length + s.spare.writing.length < 2048 → t.spare.writing = s.spare.writing ++ [logEntry 6 1] ∧ t.flag SPR_STS_LOG_BUSY = true) ∧
      (2048 ≤ s.spare.log.length + s.spare.writing.length → t.flag SPR_STS_LOG_FULL = true ∧ t.flag SPR_EVT_LOG_FULL = true) ∧
      t.power = s.power ∧ SameRegs [.SPR_STS, .SPR_FAILED, .SPR_EVT, .IC_PEND, .IC_MERGE_CNT] s t ∧ SameMemory s t) ∧
  (∀ s : State, s.flag SPR_STS_PLL_SEL = false → s.pllBOk = false →
    Gives .pllLockLoss s fun t =>
      t.power.pllSlow = true ∧ t.flag SPR_FAILED_PLL_A = true ∧ t.reg .FC_LAST = faultRecord 19 32 false s.tickIndex ∧ t.flag SPR_EVT_SPARE_NONE = true ∧
      (∀ p : Nat, p < 16 → t.flag ENC_EP_STS_SLOWED p = true) ∧ (∀ p : Nat, p < 8 → t.flag DEC_DP_STS_SLOWED p = true) ∧
      SameRegs ([.SPR_STS, .SPR_FAILED, .SPR_EVT, .ENC_EP_STS, .DEC_DP_STS] ++ faultOnly) s t ∧ SameMemory s t) ∧
  (∀ s : State, s.flag SPR_STS_PLL_SEL = true → Gives .pllLockLoss s fun t => Unchanged s t) ∧
  (∀ (e : Nat) (rest : List Nat) (s : State), s.spare.writing = e :: rest → s.spare.log.length < 2048 →
    Gives .repairLogProgrammed s fun t =>
      t.spare.log = s.spare.log ++ [e] ∧ t.spare.writing = rest ∧ t.fld SPR_LOG_USED_USED = s.spare.log.length + 1 ∧
      t.flag SPR_STS_LOG_BUSY = !rest.isEmpty ∧ SameRegs [.SPR_LOG_USED, .SPR_STS] s t ∧ SameMemory s t) ∧
  (∀ s : State, s.spare.writing = [] → Gives .repairLogProgrammed s fun t => Unchanged s t) ∧
  (∀ s : State, s.fld SEC_STS_STATE = 2 → s.levels.getLsbD 29 = false → s.flows = [] →
    Gives .secConditionalTestFail s fun t =>
      t.fld SEC_STS_STATE = 3 ∧ t.fld SEC_STS_ERR_TEST = 15 ∧ t.flag SEC_EVT_SELFTEST_FAIL = true ∧ t.levels.getLsbD 29 = true ∧
      t.reg .FC_LAST = faultRecord 29 0 false s.tickIndex ∧ (∀ h : Nat, (t.slot h).cur = none ∧ (t.slot h).next = none) ∧
      (s.flag SEC_STS_IDE_IO = true ∨ s.flag SEC_STS_IDE_CM = true → t.cxl.insecure = true ∧ t.flag SEC_STS_IDE_IO = false ∧ t.flag SEC_STS_IDE_CM = false) ∧
      SameRegs ([.SEC_STS, .SEC_EVT, .SEC_SESSIONS, .SEC_KEYS_USED] ++ faultOnly) s t ∧ SameMemory s t) ∧
  (∀ s : State, s.fld SEC_STS_STATE ≠ 2 → Gives .secConditionalTestFail s fun t => Unchanged s t) ∧
  (∀ (h : Nat) (s : State), keyHandle h = true → h ≠ 0xD00 →
    Gives (.keystoreEccError h) s fun t =>
      (t.slot h).cur = none ∧ (t.slot h).next = none ∧ (∀ e : Nat, e ≠ h → t.slot e = s.slot e) ∧
      t.reg .FC_LAST = faultRecord 31 h false s.tickIndex ∧ t.flag SEC_EVT_ZEROIZED = true ∧ SameMemory s t ∧
      (h < 0xC00 → SameRegs ([.SEC_EVT, .SEC_KEYS_USED] ++ faultOnly) s t) ∧
      (0xC00 ≤ h → h < 0xC20 → s.flag SEC_STS_IDE_IO = true ∨ s.flag SEC_STS_IDE_CM = true → t.cxl.insecure = true)) ∧
  (∀ s : State, Gives (.keystoreEccError 0xD00) s fun t =>
    (t.slot 0xD00).cur = none ∧ t.noIdentity = true ∧ t.security.burned = s.security.burned ∧ t.flag SEC_STS_DECOMMISSIONED = true ∧
    t.reg .FC_LAST = faultRecord 31 0xD00 false s.tickIndex) ∧
  (∀ (h : Nat) (s : State), keyHandle h = false → h ≠ 0xD00 → Gives (.keystoreEccError h) s fun t => Unchanged s t) ∧
  (∀ (r : Reg) (n : Nat) (s : State), (n, r) ∈ [(0, Reg.AON_LEAD), (1, Reg.FC_STATUS), (2, Reg.PM_TEMP), (3, Reg.PM_STATE), (4, Reg.GLB_RST_STS)] →
    Gives (.smbusRead n) s fun t => t = settle { s with lastRead := s.reg r }) ∧
  (∀ (l : Option Nat) (s : State), Gives (.boundaryScan l) s fun t => t = settle { s with pins := { s.pins with scan := l } })

/-- Power, the pins and GLB_RST_CTL bring each reset, and each reaches what it names: Power-up samples the straps and leaves the die in reset with CAUSE 0 or 1; an undervoltage holds it there. PERST_N, a hot reset, and WARM with its KEY bring a warm reset, which keeps device memory and time; COLD with its KEY a cold one; a release runs the start-up to READY. A reset of the die absorbs another. With MODE 1 only the link is reset. A half that does not lead is reset and later leaves reset; the half that leads is refused. The owner of a stream resets it: its pictures end, its references clear or become unusable, the next picture is a key. PF0 discards the survivor records. (That start-up runs in one step is the model's choice, log entry 90.) -/
def Obligations.ResetsReachWhatTheyName : Prop :=
  (∀ (aon lead test : Bool) (s : State),
    Gives (.powerUp aon lead test) s fun t =>
      t.resets.due = some (if aon || s.resets.due == some 1 then 1 else 0) ∧
      t.fld GLB_RST_STS_CAUSE = (if aon || s.resets.due == some 1 then 1 else 0) ∧ t.flag GLB_RST_STS_READY = false ∧
      t.flag GLB_RST_STS_THERM_SHUT = s.resets.shut ∧ t.resets.shut = false ∧ t.resets.rail = false ∧ t.pins.perstN = false ∧
      t.chip.strapTest = test ∧ (aon = true → t.chip.strapLead = lead) ∧
      (aon = false → s.resets.due ≠ some 1 → t.chip.strapLead = s.chip.strapLead ∧ t.flag AON_LEAD_VALID = s.flag AON_LEAD_VALID ∧
        t.fld AON_LEAD_OWNER = s.fld AON_LEAD_OWNER ∧ t.fld AON_LEAD_EPOCH = s.fld AON_LEAD_EPOCH) ∧
      t.mem = [] ∧ t.hostMem = s.hostMem ∧ t.codec = {} ∧ t.flows = [] ∧ t.survivors = [] ∧ t.cmd.outstanding = [] ∧ t.cxl = {}) ∧
  (∀ (aon : Bool) (s : State),
    Gives (.railUndervoltage aon) s fun t =>
      t.resets.rail = true ∧ t.inReset = true ∧ t.flag GLB_RST_STS_READY = false ∧ t.mem = [] ∧ t.hostMem = s.hostMem ∧ t.codec = {} ∧
      t.flows = [] ∧ (aon = false → s.resets.due ≠ some 1 → t.flag AON_LEAD_VALID = s.flag AON_LEAD_VALID ∧ t.fld AON_LEAD_EPOCH = s.fld AON_LEAD_EPOCH)) ∧
  (∀ (x : StartUp) (s : State), s.inReset = false → s.flag GLB_PERST_CFG_MODE = false → (∀ n : Nat, n < 64 → s.flag DMA_STS_BUSY n = false) →
    Gives (.perstNAssert false [] x) s fun t =>
      t.resets.due = some 3 ∧ t.fld GLB_RST_STS_CAUSE = 3 ∧ t.flag GLB_RST_STS_READY = false ∧ t.pins.perstN = false ∧ t.mem = s.mem ∧
      t.hostMem = s.hostMem ∧ t.tb.ns = s.tb.ns ∧ t.tickIndex = s.tickIndex ∧ t.codec = {} ∧ t.flows = [] ∧ t.cmd.outstanding = [] ∧
      t.cxl.linkUp = false ∧ t.reg .FC_FIRST = s.reg .FC_FIRST ∧ ∀ q : Nat, q < 64 → t.flag CMDQ_CFG_EN q = false ∧ t.flag CPLQ_CFG_EN q = false) ∧
  (∀ (x : StartUp) (s : State), s.inReset = false → s.flag GLB_PERST_CFG_MODE = false → (∀ n : Nat, n < 64 → s.flag DMA_STS_BUSY n = false) →
    Gives (.perstNAssert true [] x) s fun t =>
      t.resets.due = none ∧ t.fld GLB_RST_STS_CAUSE = 3 ∧ t.flag GLB_RST_STS_READY = true ∧ t.mem = s.mem ∧ t.codec = {} ∧ t.flows = []) ∧
  (∀ (hot : Bool) (l : List (Nat × DmaProgress)) (x : StartUp) (s : State), s.inReset = true →
    Gives (.perstNAssert hot l x) s fun t => t = settle { s with pins := { s.pins with perstN := hot && s.pins.perstN } }) ∧
  (∀ (hot : Bool) (l : List (Nat × DmaProgress)) (x : StartUp) (s : State), s.inReset = false → s.flag GLB_PERST_CFG_MODE = true →
    Gives (.perstNAssert hot l x) s fun t =>
      t.fld GLB_RST_STS_CAUSE = 7 ∧ t.resets = s.resets ∧ t.cxl.linkUp = false ∧ t.cxl.vfEnable = false ∧ t.cxl.hdm = {} ∧ t.streams = s.streams ∧
      t.flows = s.flows ∧ t.tb = s.tb) ∧
  (∀ (c : Nat) (x : StartUp) (s : State), s.resets.due = some c → s.resets.shut = false → s.resets.rail = false →
    Gives (.perstNRelease x) s fun t =>
      t.resets.due = none ∧ t.inReset = false ∧ t.flag GLB_RST_STS_READY = true ∧ t.pins.perstN = true ∧ t.mem = s.mem ∧ t.hostMem = s.hostMem) ∧
  (∀ (x : StartUp) (s : State), s.resets.due = none ∨ s.resets.shut = true ∨ s.resets.rail = true →
    Gives (.perstNRelease x) s fun t => t = settle { s with pins := { s.pins with perstN := true } }) ∧
  (∀ (l : List (Nat × DmaProgress)) (s : State), s.inReset = false → s.flag GLB_PERST_CFG_MODE = true →
    Gives (.linkReset l) s fun t =>
      t.fld GLB_RST_STS_CAUSE = 7 ∧ t.cxl.linkUp = false ∧ t.cxl.vfEnable = false ∧ t.vfs = 0 ∧ t.cxl.hdm = {} ∧ t.cxl.unmasked = [] ∧
      (s.vfs ≠ 0 → t.vfsRetained = s.vfs) ∧ t.streams = s.streams ∧ t.flows = s.flows ∧ t.tb = s.tb ∧ t.resets = s.resets ∧
      ∀ q : Nat, q < 64 →
        (s.flag CMDQ_CFG_EN q = true → s.flag CMDQ_BASE_LOC q = false → t.flag CMDQ_STS_FETCH_ERR q = true ∧ t.flag CMDQ_STS_ACTIVE q = false) ∧
        (s.flag CPLQ_CFG_EN q = true → s.flag CPLQ_BASE_LOC q = false → t.flag CPLQ_STS_WRITE_ERR q = true)) ∧
  (∀ (l : List (Nat × DmaProgress)) (s : State), s.inReset = true ∨ s.flag GLB_PERST_CFG_MODE = false →
    Gives (.linkReset l) s fun t => Unchanged s t) ∧
  (∀ (v : Word) (x : StartUp) (s : State), s.inReset = false → v.toNat / 65536 = 0xA5A5 → v.toNat.testBit 0 = true → v.toNat.testBit 1 = false →
    (∀ n : Nat, n < 64 → s.flag DMA_STS_BUSY n = false) →
    Gives (.glbRstWarm (.func 0) v [] x) s fun t =>
      t.fld GLB_RST_STS_CAUSE = 4 ∧ t.flag GLB_RST_STS_READY = true ∧ t.resets.due = none ∧ t.mem = s.mem ∧ t.hostMem = s.hostMem ∧ t.codec = {} ∧
      t.flows = [] ∧ (∀ q : Nat, q < 64 → t.flag CMDQ_CFG_EN q = false ∧ t.flag CPLQ_CFG_EN q = false)) ∧
  (∀ (v : Word) (x : StartUp) (s : State), s.resets.shut = false → s.resets.rail = false → v.toNat / 65536 = 0xA5A5 → v.toNat.testBit 1 = true →
    Gives (.glbRstCold (.func 0) v x) s fun t =>
      t.fld GLB_RST_STS_CAUSE = 2 ∧ t.flag GLB_RST_STS_READY = true ∧ t.resets.due = none ∧ t.mem = [] ∧ t.hostMem = s.hostMem ∧ t.codec = {} ∧
      t.flows = [] ∧ t.survivors = [] ∧ ∀ q : Nat, q < 64 → t.flag CMDQ_CFG_EN q = false ∧ t.flag CPLQ_CFG_EN q = false) ∧
  (∀ (f : Nat) (v : Word) (x : StartUp) (l : List (Nat × DmaProgress)) (s : State),
    f ≠ 0 ∨ (v.toNat / 65536 ≠ 0xA5A5 ∧ (v.toNat.testBit 0 = true ∨ v.toNat.testBit 1 = true)) →
    Gives (.glbRstWarm (.func f) v l x) s (fun t => Unchanged s t) ∧ Gives (.glbRstCold (.func f) v x) s (fun t => Unchanged s t) ∧
    Gives (.glbRstHalf (.func f) v) s fun t => Unchanged s t) ∧
  (∀ (a : Agent) (v : Word) (s : State), s.actsAsPf0 a = true → v.toNat.testBit 0 = false → v.toNat.testBit 1 = false → v.toNat.testBit 2 = true →
    s.inReset = false →
    (v.toNat / 8 % 2 = s.leadHalf → Gives (.glbRstHalf a v) s fun t =>
      t.flag GLB_RST_STS_REFUSED = true ∧ OnlyRegs [.GLB_RST_CTL, .GLB_RST_STS] s t) ∧
    (v.toNat / 8 % 2 ≠ s.leadHalf → s.power.halfReset.testBit (v.toNat / 8 % 2) = true → Gives (.glbRstHalf a v) s fun t => OnlyRegs [.GLB_RST_CTL] s t)) ∧
  (∀ (a : Agent) (h : Nat) (v : Word) (s : State), s.actsAsPf0 a = true → v.toNat.testBit 0 = false → v.toNat.testBit 1 = false →
    v.toNat.testBit 2 = true → s.inReset = false → h = v.toNat / 8 % 2 → h ≠ s.leadHalf → s.power.halfReset = 0 →
    Gives (.glbRstHalf a v) s fun t =>
      t.power.halfReset.testBit h = true ∧ (h = 0 → t.flag GLB_RST_STS_HALF_E = true) ∧ (h = 1 → t.flag GLB_RST_STS_HALF_W = true) ∧
      t.flag CPX_STS_RUNNING h = false ∧ (∀ p : Nat, 8 * h ≤ p → p < 8 * h + 8 → t.regN .ENC_EP_CYC_MAX p = 0) ∧
      (t.codec.enc.all fun q => !(q.launched && q.pipes.any fun w => pipeHalf w.pipe == h)) = true ∧ t.tb = s.tb) ∧
  (∀ (h : Nat) (ok : Bool) (s : State), h < 2 → s.power.halfReset.testBit h = true → s.power.halfReset < 4 → s.ring = {} → s.fld CPX_BOOT_STS_STATE = 4 →
    Gives (.halfResetDone h ok) s fun t =>
      t.power.halfReset.testBit h = false ∧ (h = 0 → t.flag GLB_RST_STS_HALF_E = false) ∧ (h = 1 → t.flag GLB_RST_STS_HALF_W = false) ∧
      (ok = true → t.flag CPX_STS_RUNNING h = true ∧ ∀ u : Nat, u < 6 → (u < 4 ∧ u / 2 = h) ∨ u = 4 + h → s.usqPresent u = true → t.flag USQ_STS_RUN u = true) ∧
      (ok = false → t.fld CPX_BOOT_STS_STATE = 5 ∧ t.fld CPX_BOOT_STS_ERR = 6 ∧ t.reg .FC_LAST = faultRecord 15 h false s.tickIndex)) ∧
  (∀ (h : Nat) (ok : Bool) (s : State), 2 ≤ h ∨ s.power.halfReset.testBit h = false → Gives (.halfResetDone h ok) s fun t => Unchanged s t) ∧
  (∀ (h : Nat) (v : Word) (s : State), h = v.toNat % 512 → v.toNat.testBit 31 = true → (s.stream h).st = .configured ∨ (s.stream h).st = .running →
    Gives (.streamReset (.func (s.stream h).func) v) s fun t =>
      (t.codec.enc.all fun q => q.stream != h) = true ∧ (t.codec.dec.all fun q => q.stream != h) = true ∧
      ((s.stream h).dec = false → (t.stream h).refs = [] ∧ (t.stream h).keyDue = true) ∧
      (s.codec.enc = [] → s.codec.dec = [] → SameRegs [.GLB_STREAM_RST, .FB_DESC_MARKS] s t ∧ SameMemory s t ∧
        ((s.stream h).dec = false → t.stream h = { s.stream h with refs := [], keyDue := true } ∧
          ∀ d ∈ (s.stream h).res.pool, t.regN .FB_DESC_MARKS d = s.regN .FB_DESC_MARKS d &&& (0xFFF ^^^ 56)) ∧
        ((s.stream h).dec = true → t.stream h = s.stream h ∧
          ∀ d ∈ (s.stream h).refs, t.regN .FB_DESC_MARKS d = (s.regN .FB_DESC_MARKS d ||| 32) &&& 0xFFF))) ∧
  (∀ (f h : Nat) (v : Word) (s : State), h = v.toNat % 512 → v.toNat.testBit 31 = true → (s.stream h).func ≠ f ∨ (s.stream h).st ∉ [.configured, .running] →
    Gives (.streamReset (.func f) v) s fun t => Unchanged s t) ∧
  (∀ (a : Agent) (v : Word) (s : State), s.actsAsPf0 a = true → v.toNat.testBit 0 = true →
    Gives (.survivorDiscard a v) s fun t => t.survivors = [] ∧ t.regN .GLB_SURV % 65536 = 0 ∧ SameRegs [.GLB_SURV] s t ∧ SameMemory s t) ∧
  (∀ (f : Nat) (v : Word) (s : State), f ≠ 0 ∨ v.toNat.testBit 0 = false → Gives (.survivorDiscard (.func f) v) s fun t => Unchanged s t)

/-- REGISTER_WRITE: width, pairing, access codes, absent units, refusals, and registers with rows of their own: A 32-bit write by an agent that may write gives a register's RW bits the value, clears the W1C bits written 1, clears a counter, and leaves every other bit, register and instance. A 64-bit register takes a whole write at once; its low word is held with no visible effect until the high word commits both, or commits with the low word in effect. Narrow and misaligned writes, reserved offsets, absent units, agents that are not there and functions that may not write change nothing; a command processor's refused write is counted; beyond the window FS25 is recorded and the request is unsupported. A register that has a row of its own acts as that row. -/
def Obligations.RegisterWritesFollowTheAccessRules : Prop :=
  (∀ (f off i b n : Nat) (r : Reg) (v w : DWord) (s : State), s.funcEnabled f = true → off + 4 ≤ barSize → off % 4 = 0 →
    reachOf (.func f) off = some (r, i, b) → r ∉ [.FB_DESC_BASE, .FB_DESC_DIM, .SEC_STS] → (regInfo r).wide = false → (regInfo r).anyClears = false →
    w = BitVec.ofNat 64 (v.toNat % 2 ^ 32) → s.regPresent r i = true → ownRow (.func f) r i w s = none → s.mayWrite (.func f) f r i = true →
    s.commitReg f r i w = s.plainWrite r i w →
    Gives (.registerWrite (.func f) off 4 v) s fun t =>
      (n < 32 → (t.reg r i).getLsbD n =
        (((regInfo r).rw.testBit n && v.getLsbD n) ||
          (!(regInfo r).rw.testBit n && (s.reg r i).getLsbD n && !((regInfo r).w1c.testBit n && v.getLsbD n)))) ∧
      (∀ e, e ≠ i → t.reg r e = s.reg r e) ∧ OnlyRegs [r] s t) ∧
  (∀ (f off i b : Nat) (r : Reg) (v w : DWord) (s : State), s.funcEnabled f = true → off + 4 ≤ barSize → off % 4 = 0 →
    reachOf (.func f) off = some (r, i, b) → (regInfo r).wide = false → (regInfo r).anyClears = true → r ∉ [.FB_DESC_BASE, .FB_DESC_DIM, .SEC_STS] →
    w = BitVec.ofNat 64 (v.toNat % 2 ^ 32) → s.regPresent r i = true → ownRow (.func f) r i w s = none → s.mayWrite (.func f) f r i = true →
    s.commitReg f r i w = s.plainWrite r i w →
    Gives (.registerWrite (.func f) off 4 v) s fun t => t.reg r i = 0 ∧ (∀ e, e ≠ i → t.reg r e = s.reg r e) ∧ OnlyRegs [r] s t) ∧
  (∀ (q : Nat) (v : DWord) (s : State), q < 64 → s.fld CMDQ_OWNER_FUNC q = 0 → s.flag CMDQ_CFG_EN q = false →
    Gives (.registerWrite (.func 0) (0x200000 + 64 * q) 8 v) s (fun t =>
      t.reg .CMDQ_BASE q = (s.reg .CMDQ_BASE q &&& ~~~(BitVec.ofNat 64 (regInfo .CMDQ_BASE).rw)) ||| (v &&& BitVec.ofNat 64 (regInfo .CMDQ_BASE).rw) ∧
      storeFind t.lowHeld (regKey .CMDQ_BASE q) = none ∧ SameRegs [.CMDQ_BASE] s t ∧ SameMemory s t) ∧
    Gives (.registerWrite (.func 0) (0x200000 + 64 * q) 4 v) s (fun t =>
      SameRegs [] s t ∧ storeFind t.lowHeld (regKey .CMDQ_BASE q) = some (BitVec.ofNat 32 v.toNat) ∧
      t = settle { s with lowHeld := t.lowHeld }) ∧
    (storeFind s.lowHeld (regKey .CMDQ_BASE q) = none → Gives (.registerWrite (.func 0) (0x200004 + 64 * q) 4 v) s fun t =>
      t.regN .CMDQ_BASE q / 2 ^ 32 = v.toNat % 2 ^ 32 ∧ t.regN .CMDQ_BASE q % 2 ^ 32 = s.regN .CMDQ_BASE q % 2 ^ 32 ∧ SameRegs [.CMDQ_BASE] s t)) ∧
  (∀ (q : Nat) (v : DWord) (w : Word) (s : State), q < 64 → s.fld CMDQ_OWNER_FUNC q = 0 → s.flag CMDQ_CFG_EN q = false →
    storeFind s.lowHeld (regKey .CMDQ_BASE q) = some w →
    Gives (.registerWrite (.func 0) (0x200004 + 64 * q) 4 v) s fun t =>
      t.regN .CMDQ_BASE q / 2 ^ 32 = v.toNat % 2 ^ 32 ∧ t.regN .CMDQ_BASE q % 2 ^ 32 / 2 ^ 12 = w.toNat / 2 ^ 12 ∧
      storeFind t.lowHeld (regKey .CMDQ_BASE q) = none ∧ SameRegs [.CMDQ_BASE] s t) ∧
  (∀ (a : Agent) (off n : Nat) (v : DWord) (s : State), off + n ≤ barSize →
    (n ≠ 4 ∧ n ≠ 8) ∨ (n = 4 ∧ off % 4 ≠ 0) ∨ (n = 8 ∧ off % 8 ≠ 0) → Gives (.registerWrite a off n v) s fun t => Unchanged s t) ∧
  (∀ (a : Agent) (off : Nat) (v : DWord) (s : State), off + 4 ≤ barSize → reachOf a off = none →
    Gives (.registerWrite a off 4 v) s fun t => Unchanged s t) ∧
  (∀ (a : Agent) (off i b : Nat) (r : Reg) (v : DWord) (s : State), off + 4 ≤ barSize → reachOf a off = some (r, i, b) → (regInfo r).wide = false →
    r ∉ [.FB_DESC_BASE, .FB_DESC_DIM] → s.regPresent r i = false → Gives (.registerWrite a off 4 v) s fun t => Unchanged s t) ∧
  (∀ (a : Agent) (off n : Nat) (v : DWord) (s : State), s.agentExists a = false → Gives (.registerWrite a off n v) s fun t => Unchanged s t) ∧
  (∀ (f off i b : Nat) (r : Reg) (v : DWord) (s : State), off + 4 ≤ barSize → reachOf (.func f) off = some (r, i, b) → (regInfo r).wide = false →
    r ∉ [.FB_DESC_BASE, .FB_DESC_DIM] → ownRow (.func f) r i (BitVec.ofNat 64 (v.toNat % 2 ^ 32)) s = none → s.mayWrite (.func f) f r i = false →
    Gives (.registerWrite (.func f) off 4 v) s fun t => Unchanged s t) ∧
  (∀ (h off i b : Nat) (r : Reg) (v : DWord) (s : State), h < 2 → off + 4 ≤ barSize → off % 4 = 0 → reachOf (.cpx h) off = some (r, i, b) →
    (regInfo r).wide = false → r ∉ [.FB_DESC_BASE, .FB_DESC_DIM] → s.regPresent r i = true →
    ownRow (.cpx h) r i (BitVec.ofNat 64 (v.toNat % 2 ^ 32)) s = none → s.cpxMay h r i = false →
    Gives (.registerWrite (.cpx h) off 4 v) s fun t =>
      t.regN .CPX_REFUSED_CNT h = min 0xFFFFFFFF (s.regN .CPX_REFUSED_CNT h + 1) ∧ OnlyRegs [.CPX_REFUSED_CNT] s t) ∧
  (∀ (f off n : Nat) (v : DWord) (s : State), s.funcEnabled f = true → barSize < off + n →
    Gives (.registerWrite (.func f) off n v) s fun t =>
      t.reg .FC_LAST = faultRecord 25 0 false s.tickIndex ∧ t.sent = Sent.completion false true :: s.sent ∧ t.cxl.errors.unsupported = true ∧
      SameRegs faultOnly s t ∧ SameMemory s t) ∧
  (∀ (f q : Nat) (v : DWord) (s : State), s.funcEnabled f = true → q < 64 →
    Gives (.registerWrite (.func f) 0x100000 4 v) s (fun t => t = settle (afterRow (exec (.tbCtrlWrite (.func f) (BitVec.ofNat 32 v.toNat)) s) s)) ∧
    Gives (.registerWrite (.func f) (0x200010 + 64 * q) 4 v) s fun t =>
      t = settle (afterRow (exec (.cmdqTailWrite (.func f) q (BitVec.ofNat 32 v.toNat)) s) s))
end

