-- ==== Sys2Proof/Laws/Store.lean ====
section
/-!
SUPPORT. What a sparse store does: a key reads back what was written, every other key reads as before, and the canonical form is kept.
-/
namespace Sys2Proof.Machine

variable {α : Type}

/-- A key that is set reads back. -/
@[simp] theorem storeFind_insert_same (st : Store α) (i : Nat) (x : α) : storeFind (storeInsert st i x) i = some x := by
  induction st with
  | nil => simp [storeInsert, storeFind]
  | cons e rest ih =>
    obtain ⟨k, v⟩ := e
    simp only [storeInsert]
    split
    · simp [storeFind]
    · split
      · simp [storeFind]
      · rename_i h _; simp [storeFind, h, ih]

/-- Setting a key leaves every other key. -/
theorem storeFind_insert_ne (st : Store α) {i j : Nat} (x : α) (h : i ≠ j) : storeFind (storeInsert st i x) j = storeFind st j := by
  induction st with
  | nil => simp [storeInsert, storeFind, h]
  | cons e rest ih =>
    obtain ⟨k, v⟩ := e
    simp only [storeInsert]
    split
    · rename_i hk; subst hk; simp [storeFind, h]
    · split
      · simp [storeFind, h]
      · simp [storeFind, ih]

/-- A dropped key is unlisted. -/
@[simp] theorem storeFind_drop_same (st : Store α) (i : Nat) : storeFind (storeDrop st i) i = none := by
  induction st with
  | nil => rfl
  | cons e rest ih =>
    obtain ⟨k, v⟩ := e
    simp only [storeDrop]
    split
    · exact ih
    · rename_i h; simp [storeFind, h, ih]

/-- Dropping a key leaves every other key. -/
theorem storeFind_drop_ne (st : Store α) {i j : Nat} (h : i ≠ j) : storeFind (storeDrop st i) j = storeFind st j := by
  induction st with
  | nil => rfl
  | cons e rest ih =>
    obtain ⟨k, v⟩ := e
    simp only [storeDrop]
    split
    · rename_i hk; subst hk; simp [storeFind, h, ih]
    · simp [storeFind, ih]

/-- What erasing keys leaves. -/
theorem storeFind_erase (p : Nat → Bool) (st : Store α) (i : Nat) :
    storeFind (storeErase p st) i = if p i then none else storeFind st i := by
  induction st with
  | nil => simp [storeErase, storeFind]
  | cons e rest ih =>
    obtain ⟨k, v⟩ := e
    simp only [storeErase] at ih ⊢
    by_cases hp : p k
    · by_cases hk : k = i
      · subst hk; simp [hp, ih]
      · simp [hp, ih, storeFind, hk]
    · by_cases hk : k = i
      · subst hk; simp [hp, storeFind]
      · simp [hp, ih, storeFind, hk]

/-- A key that is put reads back, its default included. -/
theorem storeFind_put [DecidableEq α] (d : Nat → α) (st : Store α) (i j : Nat) (x : α) :
    (storeFind (storePut d st i x) j).getD (d j) = if i = j then x else (storeFind st j).getD (d j) := by
  unfold storePut
  by_cases hj : i = j
  · subst hj
    by_cases hx : x = d i <;> simp [hx]
  · by_cases hx : x = d i <;> simp [hx, hj, storeFind_drop_ne, storeFind_insert_ne]

/-! ### The canonical form -/

/-- A canonical table from a bound is one from every lower bound. -/
theorem storeWfFrom_mono [DecidableEq α] {d : Nat → α} {lo lo' : Nat} (h : lo' ≤ lo) {st : Store α}
    (hw : storeWfFrom d lo st = true) : storeWfFrom d lo' st = true := by
  cases st with
  | nil => rfl
  | cons e rest =>
    obtain ⟨k, v⟩ := e
    simp only [storeWfFrom, Bool.and_eq_true, decide_eq_true_eq] at hw ⊢
    exact ⟨⟨by omega, hw.1.2⟩, hw.2⟩

/-- Dropping a key keeps the canonical form. -/
theorem storeDrop_wf [DecidableEq α] {d : Nat → α} (i : Nat) : ∀ (st : Store α) {lo : Nat},
    storeWfFrom d lo st = true → storeWfFrom d lo (storeDrop st i) = true
  | [], _, _ => rfl
  | (k, v) :: rest, lo, hw => by
    simp only [storeWfFrom, Bool.and_eq_true, decide_eq_true_eq] at hw
    simp only [storeDrop]
    split
    · exact storeWfFrom_mono (by omega) (storeDrop_wf i rest hw.2)
    · simp only [storeWfFrom, Bool.and_eq_true, decide_eq_true_eq]
      exact ⟨hw.1, storeDrop_wf i rest hw.2⟩

/-- Setting a key to a value that is not its default keeps the canonical form. -/
theorem storeInsert_wf [DecidableEq α] {d : Nat → α} {i : Nat} {x : α} (hx : x ≠ d i) : ∀ (st : Store α) {lo : Nat},
    lo ≤ i → storeWfFrom d lo st = true → storeWfFrom d lo (storeInsert st i x) = true
  | [], lo, hl, _ => by simp [storeInsert, storeWfFrom, hl, hx]
  | (k, v) :: rest, lo, hl, hw => by
    simp only [storeWfFrom, Bool.and_eq_true, decide_eq_true_eq] at hw
    simp only [storeInsert]
    split
    · rename_i hk; subst hk
      simp only [storeWfFrom, Bool.and_eq_true, decide_eq_true_eq]
      exact ⟨⟨hl, hx⟩, hw.2⟩
    · split
      · rename_i hk hlt
        simp only [storeWfFrom, Bool.and_eq_true, decide_eq_true_eq]
        exact ⟨⟨hl, hx⟩, ⟨by omega, hw.1.2⟩, hw.2⟩
      · rename_i hk hlt
        simp only [storeWfFrom, Bool.and_eq_true, decide_eq_true_eq]
        exact ⟨hw.1, storeInsert_wf hx rest (by omega) hw.2⟩

/-- Putting a key keeps the canonical form. -/
theorem storePut_wf [DecidableEq α] {d : Nat → α} (st : Store α) (i : Nat) (x : α)
    (hw : storeWf d st = true) : storeWf d (storePut d st i x) = true := by
  unfold storePut
  split
  · exact storeDrop_wf i st hw
  · rename_i hx; exact storeInsert_wf hx st (Nat.zero_le i) hw

/-- Erasing keys keeps the canonical form. -/
theorem storeErase_wf [DecidableEq α] {d : Nat → α} (p : Nat → Bool) : ∀ (st : Store α) {lo : Nat},
    storeWfFrom d lo st = true → storeWfFrom d lo (storeErase p st) = true
  | [], _, _ => rfl
  | (k, v) :: rest, lo, hw => by
    simp only [storeWfFrom, Bool.and_eq_true, decide_eq_true_eq] at hw
    have ih := storeErase_wf p rest hw.2
    simp only [storeErase, List.filter_cons] at ih ⊢
    split
    · simp only [storeWfFrom, Bool.and_eq_true, decide_eq_true_eq]
      exact ⟨hw.1, ih⟩
    · exact storeWfFrom_mono (by omega) ih

end Sys2Proof.Machine
end

