-- ==== Sys2Proof/Laws/Memory.lean ====
section
/-!
SUPPORT. The laws of the byte memories: a read after a write, every other byte, and the canonical form.
-/
namespace Sys2Proof.Machine

/-- One byte after a write of one byte. -/
theorem memRead_memWrite (m : Store Byte) (a : Nat) (b : Byte) (x : Nat) :
    memRead (memWrite m a b) x = if a = x then b else memRead m x := by
  unfold memRead memWrite
  by_cases hx : a = x
  · subst hx
    by_cases hb : b = blankByte <;> simp [hb]
  · by_cases hb : b = blankByte <;> simp [hb, hx, storeFind_drop_ne, storeFind_insert_ne]

/-- A byte outside the bytes written reads as before. -/
theorem memRead_memWriteList_out : ∀ (bs : List Byte) (m : Store Byte) (a x : Nat),
    x < a ∨ a + bs.length ≤ x → memRead (memWriteList m a bs) x = memRead m x
  | [], _, _, _, _ => rfl
  | b :: bs, m, a, x, h => by
    simp only [List.length_cons] at h
    rw [memWriteList, memRead_memWriteList_out bs (memWrite m a b) (a + 1) x (by omega), memRead_memWrite]
    simp [show a ≠ x by omega]

/-- A byte written reads back. -/
theorem memRead_memWriteList_in : ∀ (bs : List Byte) (m : Store Byte) (a k : Nat) (h : k < bs.length),
    memRead (memWriteList m a bs) (a + k) = bs[k]
  | b :: bs, m, a, 0, _ => by
    rw [memWriteList, memRead_memWriteList_out bs _ (a + 1) (a + 0) (by omega), memRead_memWrite]
    simp
  | b :: bs, m, a, k + 1, h => by
    rw [memWriteList, show a + (k + 1) = a + 1 + k by omega,
      memRead_memWriteList_in bs (memWrite m a b) (a + 1) k (by simpa using h)]
    simp

/-- Writing a byte keeps the canonical form. -/
theorem memWrite_wf (m : Store Byte) (a : Nat) (b : Byte) (h : memWf m = true) : memWf (memWrite m a b) = true :=
  storePut_wf (d := fun _ => blankByte) m a b h

/-- Writing bytes keeps the canonical form. -/
theorem memWriteList_wf : ∀ (bs : List Byte) (m : Store Byte) (a : Nat), memWf m = true → memWf (memWriteList m a bs) = true
  | [], _, _, h => h
  | b :: bs, m, a, h => memWriteList_wf bs _ (a + 1) (memWrite_wf m a b h)

/-- Every byte of host and device memory after a store of bytes. -/
theorem byte_store_out (s : State) (sp sp' : Space) (a x : Nat) (bs : List Byte)
    (h : sp ≠ sp' ∨ x < a ∨ a + bs.length ≤ x) : (s.store sp a bs).byte sp' x = s.byte sp' x := by
  cases sp <;> cases sp' <;> simp only [State.store, State.byte] <;>
    exact memRead_memWriteList_out _ _ _ _ (by simpa using h)

/-- The bytes stored read back. -/
theorem byte_store_in (s : State) (sp : Space) (a k : Nat) (bs : List Byte) (h : k < bs.length) :
    (s.store sp a bs).byte sp (a + k) = bs[k] := by
  cases sp <;> exact memRead_memWriteList_in bs _ a k h

/-- A store keeps the memories canonical. -/
theorem store_memsWf (s : State) (sp : Space) (a : Nat) (bs : List Byte) (h : s.memsWf = true) : (s.store sp a bs).memsWf = true := by
  simp only [State.memsWf, Bool.and_eq_true] at h ⊢
  cases sp
  · exact ⟨⟨h.1.1, memWriteList_wf bs _ a h.1.2⟩, h.2⟩
  · exact ⟨⟨memWriteList_wf bs _ a h.1.1, h.1.2⟩, h.2⟩

/-- The memories of the reset state are canonical. -/
theorem reset_memsWf : State.reset.memsWf = true := rfl

end Sys2Proof.Machine
end

