-- ==== Sys2Proof/Laws/Regs.lean ====
section
/-!
SUPPORT. Registers and fields: what a write of one leaves in it and in every other.
-/
namespace Sys2Proof.Machine

/-! ### Keys -/

/-- Registers are numbered below 512. -/
theorem Reg.ctorIdx_lt (r : Reg) : r.ctorIdx < 512 := by cases r <;> decide

/-- A register instance has a key of its own. -/
theorem regKey_inj {r r' : Reg} {i i' : Nat} : regKey r i = regKey r' i' ↔ r = r' ∧ i = i' := by
  constructor
  · intro h
    have h1 := Reg.ctorIdx_lt r
    have h2 := Reg.ctorIdx_lt r'
    have h3 : r.ctorIdx = r'.ctorIdx := by simp only [regKey] at h; omega
    have h4 : r = r' := by rw [← Reg.ofNat_ctorIdx r, h3, Reg.ofNat_ctorIdx]
    exact ⟨h4, by simp only [regKey] at h; omega⟩
  · rintro ⟨rfl, rfl⟩; rfl

/-! ### Registers -/

/-- Every register after a write of one. -/
@[simp] theorem reg_setReg (s : State) (r : Reg) (v : DWord) (i : Nat) (r' : Reg) (i' : Nat) :
    (s.setReg r v i).reg r' i' = if r = r' ∧ i = i' then v else s.reg r' i' := by
  unfold State.setReg State.reg
  by_cases hk : r = r' ∧ i = i'
  · obtain ⟨rfl, rfl⟩ := hk
    by_cases hv : v = regReset r i <;> simp [hv]
  · have hne : regKey r i ≠ regKey r' i' := fun h => hk (regKey_inj.mp h)
    by_cases hv : v = regReset r i <;> simp [hv, hk, storeFind_drop_ne _ hne, storeFind_insert_ne _ _ hne]

/-- A register put back to its reset value, and every other. -/
@[simp] theorem reg_resetReg (s : State) (r : Reg) (i : Nat) (r' : Reg) (i' : Nat) :
    (s.resetReg r i).reg r' i' = if r = r' ∧ i = i' then regReset r i else s.reg r' i' := by
  unfold State.resetReg State.reg
  by_cases hk : r = r' ∧ i = i'
  · obtain ⟨rfl, rfl⟩ := hk
    simp
  · have hne : regKey r i ≠ regKey r' i' := fun h => hk (regKey_inj.mp h)
    simp [hk, storeFind_drop_ne _ hne]

/-- The number a register is set to, at its width. -/
def atWidth (r : Reg) (v : Nat) : DWord := BitVec.ofNat 64 (if (regInfo r).wide then v else v % 2 ^ 32)

@[simp] theorem reg_putN (s : State) (r : Reg) (v i : Nat) (r' : Reg) (i' : Nat) :
    (s.putN r v i).reg r' i' = if r = r' ∧ i = i' then atWidth r v else s.reg r' i' := reg_setReg s r _ i r' i'

/-- A number that fits is what a 32-bit register holds. -/
theorem atWidth_toNat (r : Reg) {v : Nat} (h : v < 2 ^ 32) : (atWidth r v).toNat = v := by
  unfold atWidth
  rw [BitVec.toNat_ofNat]
  split
  · omega
  · rw [Nat.mod_eq_of_lt h]; omega

/-- A number that fits is what a 64-bit register holds. -/
theorem atWidth_toNat_wide (r : Reg) (hr : (regInfo r).wide = true) {v : Nat} (h : v < 2 ^ 64) : (atWidth r v).toNat = v := by
  rw [atWidth, hr, if_pos rfl, BitVec.toNat_ofNat, Nat.mod_eq_of_lt h]

/-! ### Bit fields -/

/-- A field reads back what was put into it. -/
theorem bitField_setBitField_same (v : DWord) {lo w : Nat} (x : Nat) (h : lo + w ≤ 64) :
    bitField (setBitField v lo w x) lo w = x % 2 ^ w := by
  apply Nat.eq_of_testBit_eq
  intro j
  simp only [bitField, setBitField, Nat.testBit_mod_two_pow, Nat.testBit_shiftRight, BitVec.testBit_toNat, BitVec.getLsbD_or,
    BitVec.getLsbD_and, BitVec.getLsbD_not, BitVec.getLsbD_ofNat, Nat.testBit_shiftLeft, Nat.testBit_two_pow_sub_one]
  by_cases hj : j < w
  · have h1 : lo + j < 64 := by omega
    simp [hj, h1]
  · simp [hj]

/-- A field apart from the one written reads as before. -/
theorem bitField_setBitField_ne (v : DWord) {lo w lo' w' : Nat} (x : Nat) (h : lo + w ≤ lo' ∨ lo' + w' ≤ lo) :
    bitField (setBitField v lo w x) lo' w' = bitField v lo' w' := by
  apply Nat.eq_of_testBit_eq
  intro j
  simp only [bitField, setBitField, Nat.testBit_mod_two_pow, Nat.testBit_shiftRight, BitVec.testBit_toNat, BitVec.getLsbD_or,
    BitVec.getLsbD_and, BitVec.getLsbD_not, BitVec.getLsbD_ofNat, Nat.testBit_shiftLeft, Nat.testBit_two_pow_sub_one]
  by_cases hj : j < w'
  · by_cases h64 : lo' + j < 64
    · rcases h with h | h
      · have h1 : lo ≤ lo' + j := by omega
        have h2 : ¬ lo' + j - lo < w := by omega
        simp [hj, h64, h1, h2]
      · have h1 : ¬ lo ≤ lo' + j := by omega
        simp [hj, h64, h1]
    · have h1 : v.getLsbD (lo' + j) = false := BitVec.getLsbD_of_ge v _ (by omega)
      simp [h64, h1]
  · simp [hj]

/-- A field is below its bound. -/
theorem bitField_lt (v : DWord) (lo w : Nat) : bitField v lo w < 2 ^ w := Nat.mod_lt _ (Nat.two_pow_pos w)

/-! ### Fields of registers -/

/-- Two fields share no bit. -/
def Field.apart (f g : Field) : Prop := f.lo + f.width ≤ g.lo ∨ g.lo + g.width ≤ f.lo

theorem reg_setFld (s : State) (f : Field) (x i : Nat) (r : Reg) (j : Nat) :
    (s.setFld f x i).reg r j = if f.reg = r ∧ i = j then setBitField (s.reg f.reg i) f.lo f.width x else s.reg r j :=
  reg_setReg s f.reg _ i r j

/-- A register other than the field's. -/
@[simp] theorem reg_setFld_ne (s : State) (f : Field) (x i : Nat) (r : Reg) (j : Nat) (h : f.reg ≠ r) :
    (s.setFld f x i).reg r j = s.reg r j := by simp [reg_setFld, h]

/-- A field that is set reads back. -/
@[simp] theorem fld_setFld_same (s : State) (f : Field) (x i : Nat) (h : f.lo + f.width ≤ 64) :
    (s.setFld f x i).fld f i = x % 2 ^ f.width := by
  simp [State.fld, reg_setFld, bitField_setBitField_same, h]

/-- Setting a field leaves every field of another register. -/
@[simp] theorem fld_setFld_reg (s : State) (f g : Field) (x i j : Nat) (h : f.reg ≠ g.reg) :
    (s.setFld f x i).fld g j = s.fld g j := by simp [State.fld, h]

/-- Setting a field leaves every other instance. -/
@[simp] theorem fld_setFld_inst (s : State) (f g : Field) (x i j : Nat) (h : i ≠ j) :
    (s.setFld f x i).fld g j = s.fld g j := by simp [State.fld, reg_setFld, h]

/-- Setting a field leaves the fields apart from it. -/
theorem fld_setFld_apart (s : State) (f g : Field) (x i j : Nat) (h : f.apart g) :
    (s.setFld f x i).fld g j = s.fld g j := by
  unfold State.fld
  rw [reg_setFld]
  split
  · rename_i hk
    obtain ⟨h1, rfl⟩ := hk
    rw [bitField_setBitField_ne _ _ h, h1]
  · rfl

/-- A flag that is set reads back. -/
@[simp] theorem flag_setFlag_same (s : State) (f : Field) (b : Bool) (i : Nat) (h : f.lo + f.width ≤ 64) (hw : 0 < f.width) :
    (s.setFlag f b i).flag f i = b := by
  have h2 : 1 < 2 ^ f.width := Nat.one_lt_two_pow (by omega)
  cases b <;> simp [State.setFlag, State.flag, h, Nat.mod_eq_of_lt h2]

/-- A field of another register than the one set. -/
@[simp] theorem fld_setReg_ne (s : State) (r : Reg) (v : DWord) (i : Nat) (g : Field) (j : Nat) (h : r ≠ g.reg) :
    (s.setReg r v i).fld g j = s.fld g j := by simp [State.fld, h]

@[simp] theorem fld_putN_ne (s : State) (r : Reg) (v i : Nat) (g : Field) (j : Nat) (h : r ≠ g.reg) :
    (s.putN r v i).fld g j = s.fld g j := by simp [State.fld, h]

/-- A number register reads back what fits into it. -/
theorem regN_putN_same (s : State) (r : Reg) (v i : Nat) (h : v < 2 ^ 32) : (s.putN r v i).regN r i = v := by
  simp [State.regN, atWidth_toNat r h]

/-- A register reads the same in states with the same register table. -/
theorem reg_congr {s t : State} (h : t.regs = s.regs) (r : Reg) (i : Nat) : t.reg r i = s.reg r i := by simp [State.reg, h]

end Sys2Proof.Machine
end

