-- ==== Sys2Proof/Laws/State.lean ====
section
/-!
SUPPORT. Each field of the state after each elementary update: one lemma a field, true by unfolding the update.
-/
namespace Sys2Proof.Machine

/-! ### Registers -/

@[simp] theorem setReg_pending (s : State) (r : Reg) (v : DWord) (i : Nat) : (s.setReg r v i).pending = s.pending := rfl
@[simp] theorem setReg_lowHeld (s : State) (r : Reg) (v : DWord) (i : Nat) : (s.setReg r v i).lowHeld = s.lowHeld := rfl
@[simp] theorem setReg_mem (s : State) (r : Reg) (v : DWord) (i : Nat) : (s.setReg r v i).mem = s.mem := rfl
@[simp] theorem setReg_hostMem (s : State) (r : Reg) (v : DWord) (i : Nat) : (s.setReg r v i).hostMem = s.hostMem := rfl
@[simp] theorem setReg_spad (s : State) (r : Reg) (v : DWord) (i : Nat) : (s.setReg r v i).spad = s.spad := rfl
@[simp] theorem setReg_chip (s : State) (r : Reg) (v : DWord) (i : Nat) : (s.setReg r v i).chip = s.chip := rfl
@[simp] theorem setReg_tb (s : State) (r : Reg) (v : DWord) (i : Nat) : (s.setReg r v i).tb = s.tb := rfl
@[simp] theorem setReg_pins (s : State) (r : Reg) (v : DWord) (i : Nat) : (s.setReg r v i).pins = s.pins := rfl
@[simp] theorem setReg_cmd (s : State) (r : Reg) (v : DWord) (i : Nat) : (s.setReg r v i).cmd = s.cmd := rfl
@[simp] theorem setReg_targets (s : State) (r : Reg) (v : DWord) (i : Nat) : (s.setReg r v i).targets = s.targets := rfl
@[simp] theorem setReg_levels (s : State) (r : Reg) (v : DWord) (i : Nat) : (s.setReg r v i).levels = s.levels := rfl
@[simp] theorem setReg_gens (s : State) (r : Reg) (v : DWord) (i : Nat) : (s.setReg r v i).gens = s.gens := rfl
@[simp] theorem setReg_streams (s : State) (r : Reg) (v : DWord) (i : Nat) : (s.setReg r v i).streams = s.streams := rfl
@[simp] theorem setReg_codec (s : State) (r : Reg) (v : DWord) (i : Nat) : (s.setReg r v i).codec = s.codec := rfl
@[simp] theorem setReg_vfs (s : State) (r : Reg) (v : DWord) (i : Nat) : (s.setReg r v i).vfs = s.vfs := rfl
@[simp] theorem setReg_vfsRetained (s : State) (r : Reg) (v : DWord) (i : Nat) : (s.setReg r v i).vfsRetained = s.vfsRetained := rfl
@[simp] theorem setReg_cxl (s : State) (r : Reg) (v : DWord) (i : Nat) : (s.setReg r v i).cxl = s.cxl := rfl
@[simp] theorem setReg_bpTaken (s : State) (r : Reg) (v : DWord) (i : Nat) : (s.setReg r v i).bpTaken = s.bpTaken := rfl
@[simp] theorem setReg_arbPtr (s : State) (r : Reg) (v : DWord) (i : Nat) : (s.setReg r v i).arbPtr = s.arbPtr := rfl
@[simp] theorem setReg_survivors (s : State) (r : Reg) (v : DWord) (i : Nat) : (s.setReg r v i).survivors = s.survivors := rfl
@[simp] theorem setReg_power (s : State) (r : Reg) (v : DWord) (i : Nat) : (s.setReg r v i).power = s.power := rfl
@[simp] theorem setReg_flows (s : State) (r : Reg) (v : DWord) (i : Nat) : (s.setReg r v i).flows = s.flows := rfl
@[simp] theorem setReg_ring (s : State) (r : Reg) (v : DWord) (i : Nat) : (s.setReg r v i).ring = s.ring := rfl
@[simp] theorem setReg_spare (s : State) (r : Reg) (v : DWord) (i : Nat) : (s.setReg r v i).spare = s.spare := rfl
@[simp] theorem setReg_net (s : State) (r : Reg) (v : DWord) (i : Nat) : (s.setReg r v i).net = s.net := rfl
@[simp] theorem setReg_traffic (s : State) (r : Reg) (v : DWord) (i : Nat) : (s.setReg r v i).traffic = s.traffic := rfl
@[simp] theorem setReg_security (s : State) (r : Reg) (v : DWord) (i : Nat) : (s.setReg r v i).security = s.security := rfl
@[simp] theorem setReg_prbs (s : State) (r : Reg) (v : DWord) (i : Nat) : (s.setReg r v i).prbs = s.prbs := rfl
@[simp] theorem setReg_memctl (s : State) (r : Reg) (v : DWord) (i : Nat) : (s.setReg r v i).memctl = s.memctl := rfl
@[simp] theorem setReg_banks (s : State) (r : Reg) (v : DWord) (i : Nat) : (s.setReg r v i).banks = s.banks := rfl
@[simp] theorem setReg_ctl (s : State) (r : Reg) (v : DWord) (i : Nat) : (s.setReg r v i).ctl = s.ctl := rfl
@[simp] theorem setReg_resets (s : State) (r : Reg) (v : DWord) (i : Nat) : (s.setReg r v i).resets = s.resets := rfl
@[simp] theorem setReg_lastRead (s : State) (r : Reg) (v : DWord) (i : Nat) : (s.setReg r v i).lastRead = s.lastRead := rfl
@[simp] theorem setReg_sent (s : State) (r : Reg) (v : DWord) (i : Nat) : (s.setReg r v i).sent = s.sent := rfl
@[simp] theorem setReg_freeCtr (s : State) (r : Reg) (v : DWord) (i : Nat) : (s.setReg r v i).freeCtr = s.freeCtr := rfl

@[simp] theorem putN_pending (s : State) (r : Reg) (v i : Nat) : (s.putN r v i).pending = s.pending := rfl
@[simp] theorem putN_lowHeld (s : State) (r : Reg) (v i : Nat) : (s.putN r v i).lowHeld = s.lowHeld := rfl
@[simp] theorem putN_mem (s : State) (r : Reg) (v i : Nat) : (s.putN r v i).mem = s.mem := rfl
@[simp] theorem putN_hostMem (s : State) (r : Reg) (v i : Nat) : (s.putN r v i).hostMem = s.hostMem := rfl
@[simp] theorem putN_spad (s : State) (r : Reg) (v i : Nat) : (s.putN r v i).spad = s.spad := rfl
@[simp] theorem putN_chip (s : State) (r : Reg) (v i : Nat) : (s.putN r v i).chip = s.chip := rfl
@[simp] theorem putN_tb (s : State) (r : Reg) (v i : Nat) : (s.putN r v i).tb = s.tb := rfl
@[simp] theorem putN_pins (s : State) (r : Reg) (v i : Nat) : (s.putN r v i).pins = s.pins := rfl
@[simp] theorem putN_cmd (s : State) (r : Reg) (v i : Nat) : (s.putN r v i).cmd = s.cmd := rfl
@[simp] theorem putN_targets (s : State) (r : Reg) (v i : Nat) : (s.putN r v i).targets = s.targets := rfl
@[simp] theorem putN_levels (s : State) (r : Reg) (v i : Nat) : (s.putN r v i).levels = s.levels := rfl
@[simp] theorem putN_gens (s : State) (r : Reg) (v i : Nat) : (s.putN r v i).gens = s.gens := rfl
@[simp] theorem putN_streams (s : State) (r : Reg) (v i : Nat) : (s.putN r v i).streams = s.streams := rfl
@[simp] theorem putN_codec (s : State) (r : Reg) (v i : Nat) : (s.putN r v i).codec = s.codec := rfl
@[simp] theorem putN_vfs (s : State) (r : Reg) (v i : Nat) : (s.putN r v i).vfs = s.vfs := rfl
@[simp] theorem putN_vfsRetained (s : State) (r : Reg) (v i : Nat) : (s.putN r v i).vfsRetained = s.vfsRetained := rfl
@[simp] theorem putN_cxl (s : State) (r : Reg) (v i : Nat) : (s.putN r v i).cxl = s.cxl := rfl
@[simp] theorem putN_bpTaken (s : State) (r : Reg) (v i : Nat) : (s.putN r v i).bpTaken = s.bpTaken := rfl
@[simp] theorem putN_arbPtr (s : State) (r : Reg) (v i : Nat) : (s.putN r v i).arbPtr = s.arbPtr := rfl
@[simp] theorem putN_survivors (s : State) (r : Reg) (v i : Nat) : (s.putN r v i).survivors = s.survivors := rfl
@[simp] theorem putN_power (s : State) (r : Reg) (v i : Nat) : (s.putN r v i).power = s.power := rfl
@[simp] theorem putN_flows (s : State) (r : Reg) (v i : Nat) : (s.putN r v i).flows = s.flows := rfl
@[simp] theorem putN_ring (s : State) (r : Reg) (v i : Nat) : (s.putN r v i).ring = s.ring := rfl
@[simp] theorem putN_spare (s : State) (r : Reg) (v i : Nat) : (s.putN r v i).spare = s.spare := rfl
@[simp] theorem putN_net (s : State) (r : Reg) (v i : Nat) : (s.putN r v i).net = s.net := rfl
@[simp] theorem putN_traffic (s : State) (r : Reg) (v i : Nat) : (s.putN r v i).traffic = s.traffic := rfl
@[simp] theorem putN_security (s : State) (r : Reg) (v i : Nat) : (s.putN r v i).security = s.security := rfl
@[simp] theorem putN_prbs (s : State) (r : Reg) (v i : Nat) : (s.putN r v i).prbs = s.prbs := rfl
@[simp] theorem putN_memctl (s : State) (r : Reg) (v i : Nat) : (s.putN r v i).memctl = s.memctl := rfl
@[simp] theorem putN_banks (s : State) (r : Reg) (v i : Nat) : (s.putN r v i).banks = s.banks := rfl
@[simp] theorem putN_ctl (s : State) (r : Reg) (v i : Nat) : (s.putN r v i).ctl = s.ctl := rfl
@[simp] theorem putN_resets (s : State) (r : Reg) (v i : Nat) : (s.putN r v i).resets = s.resets := rfl
@[simp] theorem putN_lastRead (s : State) (r : Reg) (v i : Nat) : (s.putN r v i).lastRead = s.lastRead := rfl
@[simp] theorem putN_sent (s : State) (r : Reg) (v i : Nat) : (s.putN r v i).sent = s.sent := rfl
@[simp] theorem putN_freeCtr (s : State) (r : Reg) (v i : Nat) : (s.putN r v i).freeCtr = s.freeCtr := rfl

@[simp] theorem setFld_pending (s : State) (f : Field) (x i : Nat) : (s.setFld f x i).pending = s.pending := rfl
@[simp] theorem setFld_lowHeld (s : State) (f : Field) (x i : Nat) : (s.setFld f x i).lowHeld = s.lowHeld := rfl
@[simp] theorem setFld_mem (s : State) (f : Field) (x i : Nat) : (s.setFld f x i).mem = s.mem := rfl
@[simp] theorem setFld_hostMem (s : State) (f : Field) (x i : Nat) : (s.setFld f x i).hostMem = s.hostMem := rfl
@[simp] theorem setFld_spad (s : State) (f : Field) (x i : Nat) : (s.setFld f x i).spad = s.spad := rfl
@[simp] theorem setFld_chip (s : State) (f : Field) (x i : Nat) : (s.setFld f x i).chip = s.chip := rfl
@[simp] theorem setFld_tb (s : State) (f : Field) (x i : Nat) : (s.setFld f x i).tb = s.tb := rfl
@[simp] theorem setFld_pins (s : State) (f : Field) (x i : Nat) : (s.setFld f x i).pins = s.pins := rfl
@[simp] theorem setFld_cmd (s : State) (f : Field) (x i : Nat) : (s.setFld f x i).cmd = s.cmd := rfl
@[simp] theorem setFld_targets (s : State) (f : Field) (x i : Nat) : (s.setFld f x i).targets = s.targets := rfl
@[simp] theorem setFld_levels (s : State) (f : Field) (x i : Nat) : (s.setFld f x i).levels = s.levels := rfl
@[simp] theorem setFld_gens (s : State) (f : Field) (x i : Nat) : (s.setFld f x i).gens = s.gens := rfl
@[simp] theorem setFld_streams (s : State) (f : Field) (x i : Nat) : (s.setFld f x i).streams = s.streams := rfl
@[simp] theorem setFld_codec (s : State) (f : Field) (x i : Nat) : (s.setFld f x i).codec = s.codec := rfl
@[simp] theorem setFld_vfs (s : State) (f : Field) (x i : Nat) : (s.setFld f x i).vfs = s.vfs := rfl
@[simp] theorem setFld_vfsRetained (s : State) (f : Field) (x i : Nat) : (s.setFld f x i).vfsRetained = s.vfsRetained := rfl
@[simp] theorem setFld_cxl (s : State) (f : Field) (x i : Nat) : (s.setFld f x i).cxl = s.cxl := rfl
@[simp] theorem setFld_bpTaken (s : State) (f : Field) (x i : Nat) : (s.setFld f x i).bpTaken = s.bpTaken := rfl
@[simp] theorem setFld_arbPtr (s : State) (f : Field) (x i : Nat) : (s.setFld f x i).arbPtr = s.arbPtr := rfl
@[simp] theorem setFld_survivors (s : State) (f : Field) (x i : Nat) : (s.setFld f x i).survivors = s.survivors := rfl
@[simp] theorem setFld_power (s : State) (f : Field) (x i : Nat) : (s.setFld f x i).power = s.power := rfl
@[simp] theorem setFld_flows (s : State) (f : Field) (x i : Nat) : (s.setFld f x i).flows = s.flows := rfl
@[simp] theorem setFld_ring (s : State) (f : Field) (x i : Nat) : (s.setFld f x i).ring = s.ring := rfl
@[simp] theorem setFld_spare (s : State) (f : Field) (x i : Nat) : (s.setFld f x i).spare = s.spare := rfl
@[simp] theorem setFld_net (s : State) (f : Field) (x i : Nat) : (s.setFld f x i).net = s.net := rfl
@[simp] theorem setFld_traffic (s : State) (f : Field) (x i : Nat) : (s.setFld f x i).traffic = s.traffic := rfl
@[simp] theorem setFld_security (s : State) (f : Field) (x i : Nat) : (s.setFld f x i).security = s.security := rfl
@[simp] theorem setFld_prbs (s : State) (f : Field) (x i : Nat) : (s.setFld f x i).prbs = s.prbs := rfl
@[simp] theorem setFld_memctl (s : State) (f : Field) (x i : Nat) : (s.setFld f x i).memctl = s.memctl := rfl
@[simp] theorem setFld_banks (s : State) (f : Field) (x i : Nat) : (s.setFld f x i).banks = s.banks := rfl
@[simp] theorem setFld_ctl (s : State) (f : Field) (x i : Nat) : (s.setFld f x i).ctl = s.ctl := rfl
@[simp] theorem setFld_resets (s : State) (f : Field) (x i : Nat) : (s.setFld f x i).resets = s.resets := rfl
@[simp] theorem setFld_lastRead (s : State) (f : Field) (x i : Nat) : (s.setFld f x i).lastRead = s.lastRead := rfl
@[simp] theorem setFld_sent (s : State) (f : Field) (x i : Nat) : (s.setFld f x i).sent = s.sent := rfl
@[simp] theorem setFld_freeCtr (s : State) (f : Field) (x i : Nat) : (s.setFld f x i).freeCtr = s.freeCtr := rfl

@[simp] theorem setFlag_pending (s : State) (f : Field) (b : Bool) (i : Nat) : (s.setFlag f b i).pending = s.pending := rfl
@[simp] theorem setFlag_lowHeld (s : State) (f : Field) (b : Bool) (i : Nat) : (s.setFlag f b i).lowHeld = s.lowHeld := rfl
@[simp] theorem setFlag_mem (s : State) (f : Field) (b : Bool) (i : Nat) : (s.setFlag f b i).mem = s.mem := rfl
@[simp] theorem setFlag_hostMem (s : State) (f : Field) (b : Bool) (i : Nat) : (s.setFlag f b i).hostMem = s.hostMem := rfl
@[simp] theorem setFlag_spad (s : State) (f : Field) (b : Bool) (i : Nat) : (s.setFlag f b i).spad = s.spad := rfl
@[simp] theorem setFlag_chip (s : State) (f : Field) (b : Bool) (i : Nat) : (s.setFlag f b i).chip = s.chip := rfl
@[simp] theorem setFlag_tb (s : State) (f : Field) (b : Bool) (i : Nat) : (s.setFlag f b i).tb = s.tb := rfl
@[simp] theorem setFlag_pins (s : State) (f : Field) (b : Bool) (i : Nat) : (s.setFlag f b i).pins = s.pins := rfl
@[simp] theorem setFlag_cmd (s : State) (f : Field) (b : Bool) (i : Nat) : (s.setFlag f b i).cmd = s.cmd := rfl
@[simp] theorem setFlag_targets (s : State) (f : Field) (b : Bool) (i : Nat) : (s.setFlag f b i).targets = s.targets := rfl
@[simp] theorem setFlag_levels (s : State) (f : Field) (b : Bool) (i : Nat) : (s.setFlag f b i).levels = s.levels := rfl
@[simp] theorem setFlag_gens (s : State) (f : Field) (b : Bool) (i : Nat) : (s.setFlag f b i).gens = s.gens := rfl
@[simp] theorem setFlag_streams (s : State) (f : Field) (b : Bool) (i : Nat) : (s.setFlag f b i).streams = s.streams := rfl
@[simp] theorem setFlag_codec (s : State) (f : Field) (b : Bool) (i : Nat) : (s.setFlag f b i).codec = s.codec := rfl
@[simp] theorem setFlag_vfs (s : State) (f : Field) (b : Bool) (i : Nat) : (s.setFlag f b i).vfs = s.vfs := rfl
@[simp] theorem setFlag_vfsRetained (s : State) (f : Field) (b : Bool) (i : Nat) : (s.setFlag f b i).vfsRetained = s.vfsRetained := rfl
@[simp] theorem setFlag_cxl (s : State) (f : Field) (b : Bool) (i : Nat) : (s.setFlag f b i).cxl = s.cxl := rfl
@[simp] theorem setFlag_bpTaken (s : State) (f : Field) (b : Bool) (i : Nat) : (s.setFlag f b i).bpTaken = s.bpTaken := rfl
@[simp] theorem setFlag_arbPtr (s : State) (f : Field) (b : Bool) (i : Nat) : (s.setFlag f b i).arbPtr = s.arbPtr := rfl
@[simp] theorem setFlag_survivors (s : State) (f : Field) (b : Bool) (i : Nat) : (s.setFlag f b i).survivors = s.survivors := rfl
@[simp] theorem setFlag_power (s : State) (f : Field) (b : Bool) (i : Nat) : (s.setFlag f b i).power = s.power := rfl
@[simp] theorem setFlag_flows (s : State) (f : Field) (b : Bool) (i : Nat) : (s.setFlag f b i).flows = s.flows := rfl
@[simp] theorem setFlag_ring (s : State) (f : Field) (b : Bool) (i : Nat) : (s.setFlag f b i).ring = s.ring := rfl
@[simp] theorem setFlag_spare (s : State) (f : Field) (b : Bool) (i : Nat) : (s.setFlag f b i).spare = s.spare := rfl
@[simp] theorem setFlag_net (s : State) (f : Field) (b : Bool) (i : Nat) : (s.setFlag f b i).net = s.net := rfl
@[simp] theorem setFlag_traffic (s : State) (f : Field) (b : Bool) (i : Nat) : (s.setFlag f b i).traffic = s.traffic := rfl
@[simp] theorem setFlag_security (s : State) (f : Field) (b : Bool) (i : Nat) : (s.setFlag f b i).security = s.security := rfl
@[simp] theorem setFlag_prbs (s : State) (f : Field) (b : Bool) (i : Nat) : (s.setFlag f b i).prbs = s.prbs := rfl
@[simp] theorem setFlag_memctl (s : State) (f : Field) (b : Bool) (i : Nat) : (s.setFlag f b i).memctl = s.memctl := rfl
@[simp] theorem setFlag_banks (s : State) (f : Field) (b : Bool) (i : Nat) : (s.setFlag f b i).banks = s.banks := rfl
@[simp] theorem setFlag_ctl (s : State) (f : Field) (b : Bool) (i : Nat) : (s.setFlag f b i).ctl = s.ctl := rfl
@[simp] theorem setFlag_resets (s : State) (f : Field) (b : Bool) (i : Nat) : (s.setFlag f b i).resets = s.resets := rfl
@[simp] theorem setFlag_lastRead (s : State) (f : Field) (b : Bool) (i : Nat) : (s.setFlag f b i).lastRead = s.lastRead := rfl
@[simp] theorem setFlag_sent (s : State) (f : Field) (b : Bool) (i : Nat) : (s.setFlag f b i).sent = s.sent := rfl
@[simp] theorem setFlag_freeCtr (s : State) (f : Field) (b : Bool) (i : Nat) : (s.setFlag f b i).freeCtr = s.freeCtr := rfl

/-! ### Memory, time, outputs and free values -/

@[simp] theorem store_pending (s : State) (sp : Space) (a : Nat) (bs : List Byte) : (s.store sp a bs).pending = s.pending := by cases sp <;> rfl
@[simp] theorem store_regs (s : State) (sp : Space) (a : Nat) (bs : List Byte) : (s.store sp a bs).regs = s.regs := by cases sp <;> rfl
@[simp] theorem store_lowHeld (s : State) (sp : Space) (a : Nat) (bs : List Byte) : (s.store sp a bs).lowHeld = s.lowHeld := by cases sp <;> rfl
@[simp] theorem store_spad (s : State) (sp : Space) (a : Nat) (bs : List Byte) : (s.store sp a bs).spad = s.spad := by cases sp <;> rfl
@[simp] theorem store_chip (s : State) (sp : Space) (a : Nat) (bs : List Byte) : (s.store sp a bs).chip = s.chip := by cases sp <;> rfl
@[simp] theorem store_tb (s : State) (sp : Space) (a : Nat) (bs : List Byte) : (s.store sp a bs).tb = s.tb := by cases sp <;> rfl
@[simp] theorem store_pins (s : State) (sp : Space) (a : Nat) (bs : List Byte) : (s.store sp a bs).pins = s.pins := by cases sp <;> rfl
@[simp] theorem store_cmd (s : State) (sp : Space) (a : Nat) (bs : List Byte) : (s.store sp a bs).cmd = s.cmd := by cases sp <;> rfl
@[simp] theorem store_targets (s : State) (sp : Space) (a : Nat) (bs : List Byte) : (s.store sp a bs).targets = s.targets := by cases sp <;> rfl
@[simp] theorem store_levels (s : State) (sp : Space) (a : Nat) (bs : List Byte) : (s.store sp a bs).levels = s.levels := by cases sp <;> rfl
@[simp] theorem store_gens (s : State) (sp : Space) (a : Nat) (bs : List Byte) : (s.store sp a bs).gens = s.gens := by cases sp <;> rfl
@[simp] theorem store_streams (s : State) (sp : Space) (a : Nat) (bs : List Byte) : (s.store sp a bs).streams = s.streams := by cases sp <;> rfl
@[simp] theorem store_codec (s : State) (sp : Space) (a : Nat) (bs : List Byte) : (s.store sp a bs).codec = s.codec := by cases sp <;> rfl
@[simp] theorem store_vfs (s : State) (sp : Space) (a : Nat) (bs : List Byte) : (s.store sp a bs).vfs = s.vfs := by cases sp <;> rfl
@[simp] theorem store_vfsRetained (s : State) (sp : Space) (a : Nat) (bs : List Byte) : (s.store sp a bs).vfsRetained = s.vfsRetained := by cases sp <;> rfl
@[simp] theorem store_cxl (s : State) (sp : Space) (a : Nat) (bs : List Byte) : (s.store sp a bs).cxl = s.cxl := by cases sp <;> rfl
@[simp] theorem store_bpTaken (s : State) (sp : Space) (a : Nat) (bs : List Byte) : (s.store sp a bs).bpTaken = s.bpTaken := by cases sp <;> rfl
@[simp] theorem store_arbPtr (s : State) (sp : Space) (a : Nat) (bs : List Byte) : (s.store sp a bs).arbPtr = s.arbPtr := by cases sp <;> rfl
@[simp] theorem store_survivors (s : State) (sp : Space) (a : Nat) (bs : List Byte) : (s.store sp a bs).survivors = s.survivors := by cases sp <;> rfl
@[simp] theorem store_power (s : State) (sp : Space) (a : Nat) (bs : List Byte) : (s.store sp a bs).power = s.power := by cases sp <;> rfl
@[simp] theorem store_flows (s : State) (sp : Space) (a : Nat) (bs : List Byte) : (s.store sp a bs).flows = s.flows := by cases sp <;> rfl
@[simp] theorem store_ring (s : State) (sp : Space) (a : Nat) (bs : List Byte) : (s.store sp a bs).ring = s.ring := by cases sp <;> rfl
@[simp] theorem store_spare (s : State) (sp : Space) (a : Nat) (bs : List Byte) : (s.store sp a bs).spare = s.spare := by cases sp <;> rfl
@[simp] theorem store_net (s : State) (sp : Space) (a : Nat) (bs : List Byte) : (s.store sp a bs).net = s.net := by cases sp <;> rfl
@[simp] theorem store_traffic (s : State) (sp : Space) (a : Nat) (bs : List Byte) : (s.store sp a bs).traffic = s.traffic := by cases sp <;> rfl
@[simp] theorem store_security (s : State) (sp : Space) (a : Nat) (bs : List Byte) : (s.store sp a bs).security = s.security := by cases sp <;> rfl
@[simp] theorem store_prbs (s : State) (sp : Space) (a : Nat) (bs : List Byte) : (s.store sp a bs).prbs = s.prbs := by cases sp <;> rfl
@[simp] theorem store_memctl (s : State) (sp : Space) (a : Nat) (bs : List Byte) : (s.store sp a bs).memctl = s.memctl := by cases sp <;> rfl
@[simp] theorem store_banks (s : State) (sp : Space) (a : Nat) (bs : List Byte) : (s.store sp a bs).banks = s.banks := by cases sp <;> rfl
@[simp] theorem store_ctl (s : State) (sp : Space) (a : Nat) (bs : List Byte) : (s.store sp a bs).ctl = s.ctl := by cases sp <;> rfl
@[simp] theorem store_resets (s : State) (sp : Space) (a : Nat) (bs : List Byte) : (s.store sp a bs).resets = s.resets := by cases sp <;> rfl
@[simp] theorem store_lastRead (s : State) (sp : Space) (a : Nat) (bs : List Byte) : (s.store sp a bs).lastRead = s.lastRead := by cases sp <;> rfl
@[simp] theorem store_sent (s : State) (sp : Space) (a : Nat) (bs : List Byte) : (s.store sp a bs).sent = s.sent := by cases sp <;> rfl
@[simp] theorem store_freeCtr (s : State) (sp : Space) (a : Nat) (bs : List Byte) : (s.store sp a bs).freeCtr = s.freeCtr := by cases sp <;> rfl

@[simp] theorem pass_pending (s : State) (n : Nat) : (s.pass n).pending = s.pending := rfl
@[simp] theorem pass_regs (s : State) (n : Nat) : (s.pass n).regs = s.regs := rfl
@[simp] theorem pass_lowHeld (s : State) (n : Nat) : (s.pass n).lowHeld = s.lowHeld := rfl
@[simp] theorem pass_mem (s : State) (n : Nat) : (s.pass n).mem = s.mem := rfl
@[simp] theorem pass_hostMem (s : State) (n : Nat) : (s.pass n).hostMem = s.hostMem := rfl
@[simp] theorem pass_spad (s : State) (n : Nat) : (s.pass n).spad = s.spad := rfl
@[simp] theorem pass_chip (s : State) (n : Nat) : (s.pass n).chip = s.chip := rfl
@[simp] theorem pass_pins (s : State) (n : Nat) : (s.pass n).pins = s.pins := rfl
@[simp] theorem pass_cmd (s : State) (n : Nat) : (s.pass n).cmd = s.cmd := rfl
@[simp] theorem pass_targets (s : State) (n : Nat) : (s.pass n).targets = s.targets := rfl
@[simp] theorem pass_levels (s : State) (n : Nat) : (s.pass n).levels = s.levels := rfl
@[simp] theorem pass_gens (s : State) (n : Nat) : (s.pass n).gens = s.gens := rfl
@[simp] theorem pass_streams (s : State) (n : Nat) : (s.pass n).streams = s.streams := rfl
@[simp] theorem pass_codec (s : State) (n : Nat) : (s.pass n).codec = s.codec := rfl
@[simp] theorem pass_vfs (s : State) (n : Nat) : (s.pass n).vfs = s.vfs := rfl
@[simp] theorem pass_vfsRetained (s : State) (n : Nat) : (s.pass n).vfsRetained = s.vfsRetained := rfl
@[simp] theorem pass_cxl (s : State) (n : Nat) : (s.pass n).cxl = s.cxl := rfl
@[simp] theorem pass_bpTaken (s : State) (n : Nat) : (s.pass n).bpTaken = s.bpTaken := rfl
@[simp] theorem pass_arbPtr (s : State) (n : Nat) : (s.pass n).arbPtr = s.arbPtr := rfl
@[simp] theorem pass_survivors (s : State) (n : Nat) : (s.pass n).survivors = s.survivors := rfl
@[simp] theorem pass_power (s : State) (n : Nat) : (s.pass n).power = s.power := rfl
@[simp] theorem pass_flows (s : State) (n : Nat) : (s.pass n).flows = s.flows := rfl
@[simp] theorem pass_ring (s : State) (n : Nat) : (s.pass n).ring = s.ring := rfl
@[simp] theorem pass_spare (s : State) (n : Nat) : (s.pass n).spare = s.spare := rfl
@[simp] theorem pass_net (s : State) (n : Nat) : (s.pass n).net = s.net := rfl
@[simp] theorem pass_traffic (s : State) (n : Nat) : (s.pass n).traffic = s.traffic := rfl
@[simp] theorem pass_security (s : State) (n : Nat) : (s.pass n).security = s.security := rfl
@[simp] theorem pass_prbs (s : State) (n : Nat) : (s.pass n).prbs = s.prbs := rfl
@[simp] theorem pass_memctl (s : State) (n : Nat) : (s.pass n).memctl = s.memctl := rfl
@[simp] theorem pass_banks (s : State) (n : Nat) : (s.pass n).banks = s.banks := rfl
@[simp] theorem pass_ctl (s : State) (n : Nat) : (s.pass n).ctl = s.ctl := rfl
@[simp] theorem pass_resets (s : State) (n : Nat) : (s.pass n).resets = s.resets := rfl
@[simp] theorem pass_lastRead (s : State) (n : Nat) : (s.pass n).lastRead = s.lastRead := rfl
@[simp] theorem pass_sent (s : State) (n : Nat) : (s.pass n).sent = s.sent := rfl
@[simp] theorem pass_freeCtr (s : State) (n : Nat) : (s.pass n).freeCtr = s.freeCtr := rfl

@[simp] theorem emit_pending (s : State) (x : Sent) : (s.emit x).pending = s.pending := rfl
@[simp] theorem emit_regs (s : State) (x : Sent) : (s.emit x).regs = s.regs := rfl
@[simp] theorem emit_lowHeld (s : State) (x : Sent) : (s.emit x).lowHeld = s.lowHeld := rfl
@[simp] theorem emit_mem (s : State) (x : Sent) : (s.emit x).mem = s.mem := rfl
@[simp] theorem emit_hostMem (s : State) (x : Sent) : (s.emit x).hostMem = s.hostMem := rfl
@[simp] theorem emit_spad (s : State) (x : Sent) : (s.emit x).spad = s.spad := rfl
@[simp] theorem emit_chip (s : State) (x : Sent) : (s.emit x).chip = s.chip := rfl
@[simp] theorem emit_tb (s : State) (x : Sent) : (s.emit x).tb = s.tb := rfl
@[simp] theorem emit_pins (s : State) (x : Sent) : (s.emit x).pins = s.pins := rfl
@[simp] theorem emit_cmd (s : State) (x : Sent) : (s.emit x).cmd = s.cmd := rfl
@[simp] theorem emit_targets (s : State) (x : Sent) : (s.emit x).targets = s.targets := rfl
@[simp] theorem emit_levels (s : State) (x : Sent) : (s.emit x).levels = s.levels := rfl
@[simp] theorem emit_gens (s : State) (x : Sent) : (s.emit x).gens = s.gens := rfl
@[simp] theorem emit_streams (s : State) (x : Sent) : (s.emit x).streams = s.streams := rfl
@[simp] theorem emit_codec (s : State) (x : Sent) : (s.emit x).codec = s.codec := rfl
@[simp] theorem emit_vfs (s : State) (x : Sent) : (s.emit x).vfs = s.vfs := rfl
@[simp] theorem emit_vfsRetained (s : State) (x : Sent) : (s.emit x).vfsRetained = s.vfsRetained := rfl
@[simp] theorem emit_cxl (s : State) (x : Sent) : (s.emit x).cxl = s.cxl := rfl
@[simp] theorem emit_bpTaken (s : State) (x : Sent) : (s.emit x).bpTaken = s.bpTaken := rfl
@[simp] theorem emit_arbPtr (s : State) (x : Sent) : (s.emit x).arbPtr = s.arbPtr := rfl
@[simp] theorem emit_survivors (s : State) (x : Sent) : (s.emit x).survivors = s.survivors := rfl
@[simp] theorem emit_power (s : State) (x : Sent) : (s.emit x).power = s.power := rfl
@[simp] theorem emit_flows (s : State) (x : Sent) : (s.emit x).flows = s.flows := rfl
@[simp] theorem emit_ring (s : State) (x : Sent) : (s.emit x).ring = s.ring := rfl
@[simp] theorem emit_spare (s : State) (x : Sent) : (s.emit x).spare = s.spare := rfl
@[simp] theorem emit_net (s : State) (x : Sent) : (s.emit x).net = s.net := rfl
@[simp] theorem emit_traffic (s : State) (x : Sent) : (s.emit x).traffic = s.traffic := rfl
@[simp] theorem emit_security (s : State) (x : Sent) : (s.emit x).security = s.security := rfl
@[simp] theorem emit_prbs (s : State) (x : Sent) : (s.emit x).prbs = s.prbs := rfl
@[simp] theorem emit_memctl (s : State) (x : Sent) : (s.emit x).memctl = s.memctl := rfl
@[simp] theorem emit_banks (s : State) (x : Sent) : (s.emit x).banks = s.banks := rfl
@[simp] theorem emit_ctl (s : State) (x : Sent) : (s.emit x).ctl = s.ctl := rfl
@[simp] theorem emit_resets (s : State) (x : Sent) : (s.emit x).resets = s.resets := rfl
@[simp] theorem emit_lastRead (s : State) (x : Sent) : (s.emit x).lastRead = s.lastRead := rfl
@[simp] theorem emit_freeCtr (s : State) (x : Sent) : (s.emit x).freeCtr = s.freeCtr := rfl

@[simp] theorem tookFree_pending (s : State) (n : Nat) : (s.tookFree n).pending = s.pending := rfl
@[simp] theorem tookFree_regs (s : State) (n : Nat) : (s.tookFree n).regs = s.regs := rfl
@[simp] theorem tookFree_lowHeld (s : State) (n : Nat) : (s.tookFree n).lowHeld = s.lowHeld := rfl
@[simp] theorem tookFree_mem (s : State) (n : Nat) : (s.tookFree n).mem = s.mem := rfl
@[simp] theorem tookFree_hostMem (s : State) (n : Nat) : (s.tookFree n).hostMem = s.hostMem := rfl
@[simp] theorem tookFree_spad (s : State) (n : Nat) : (s.tookFree n).spad = s.spad := rfl
@[simp] theorem tookFree_chip (s : State) (n : Nat) : (s.tookFree n).chip = s.chip := rfl
@[simp] theorem tookFree_tb (s : State) (n : Nat) : (s.tookFree n).tb = s.tb := rfl
@[simp] theorem tookFree_pins (s : State) (n : Nat) : (s.tookFree n).pins = s.pins := rfl
@[simp] theorem tookFree_cmd (s : State) (n : Nat) : (s.tookFree n).cmd = s.cmd := rfl
@[simp] theorem tookFree_targets (s : State) (n : Nat) : (s.tookFree n).targets = s.targets := rfl
@[simp] theorem tookFree_levels (s : State) (n : Nat) : (s.tookFree n).levels = s.levels := rfl
@[simp] theorem tookFree_gens (s : State) (n : Nat) : (s.tookFree n).gens = s.gens := rfl
@[simp] theorem tookFree_streams (s : State) (n : Nat) : (s.tookFree n).streams = s.streams := rfl
@[simp] theorem tookFree_codec (s : State) (n : Nat) : (s.tookFree n).codec = s.codec := rfl
@[simp] theorem tookFree_vfs (s : State) (n : Nat) : (s.tookFree n).vfs = s.vfs := rfl
@[simp] theorem tookFree_vfsRetained (s : State) (n : Nat) : (s.tookFree n).vfsRetained = s.vfsRetained := rfl
@[simp] theorem tookFree_cxl (s : State) (n : Nat) : (s.tookFree n).cxl = s.cxl := rfl
@[simp] theorem tookFree_bpTaken (s : State) (n : Nat) : (s.tookFree n).bpTaken = s.bpTaken := rfl
@[simp] theorem tookFree_arbPtr (s : State) (n : Nat) : (s.tookFree n).arbPtr = s.arbPtr := rfl
@[simp] theorem tookFree_survivors (s : State) (n : Nat) : (s.tookFree n).survivors = s.survivors := rfl
@[simp] theorem tookFree_power (s : State) (n : Nat) : (s.tookFree n).power = s.power := rfl
@[simp] theorem tookFree_flows (s : State) (n : Nat) : (s.tookFree n).flows = s.flows := rfl
@[simp] theorem tookFree_ring (s : State) (n : Nat) : (s.tookFree n).ring = s.ring := rfl
@[simp] theorem tookFree_spare (s : State) (n : Nat) : (s.tookFree n).spare = s.spare := rfl
@[simp] theorem tookFree_net (s : State) (n : Nat) : (s.tookFree n).net = s.net := rfl
@[simp] theorem tookFree_traffic (s : State) (n : Nat) : (s.tookFree n).traffic = s.traffic := rfl
@[simp] theorem tookFree_security (s : State) (n : Nat) : (s.tookFree n).security = s.security := rfl
@[simp] theorem tookFree_prbs (s : State) (n : Nat) : (s.tookFree n).prbs = s.prbs := rfl
@[simp] theorem tookFree_memctl (s : State) (n : Nat) : (s.tookFree n).memctl = s.memctl := rfl
@[simp] theorem tookFree_banks (s : State) (n : Nat) : (s.tookFree n).banks = s.banks := rfl
@[simp] theorem tookFree_ctl (s : State) (n : Nat) : (s.tookFree n).ctl = s.ctl := rfl
@[simp] theorem tookFree_resets (s : State) (n : Nat) : (s.tookFree n).resets = s.resets := rfl
@[simp] theorem tookFree_lastRead (s : State) (n : Nat) : (s.tookFree n).lastRead = s.lastRead := rfl
@[simp] theorem tookFree_sent (s : State) (n : Nat) : (s.tookFree n).sent = s.sent := rfl

/-! ### Streams -/

@[simp] theorem setStream_pending (s : State) (h : Nat) (x : Stream) : (s.setStream h x).pending = s.pending := rfl
@[simp] theorem setStream_regs (s : State) (h : Nat) (x : Stream) : (s.setStream h x).regs = s.regs := rfl
@[simp] theorem setStream_lowHeld (s : State) (h : Nat) (x : Stream) : (s.setStream h x).lowHeld = s.lowHeld := rfl
@[simp] theorem setStream_mem (s : State) (h : Nat) (x : Stream) : (s.setStream h x).mem = s.mem := rfl
@[simp] theorem setStream_hostMem (s : State) (h : Nat) (x : Stream) : (s.setStream h x).hostMem = s.hostMem := rfl
@[simp] theorem setStream_spad (s : State) (h : Nat) (x : Stream) : (s.setStream h x).spad = s.spad := rfl
@[simp] theorem setStream_chip (s : State) (h : Nat) (x : Stream) : (s.setStream h x).chip = s.chip := rfl
@[simp] theorem setStream_tb (s : State) (h : Nat) (x : Stream) : (s.setStream h x).tb = s.tb := rfl
@[simp] theorem setStream_pins (s : State) (h : Nat) (x : Stream) : (s.setStream h x).pins = s.pins := rfl
@[simp] theorem setStream_cmd (s : State) (h : Nat) (x : Stream) : (s.setStream h x).cmd = s.cmd := rfl
@[simp] theorem setStream_targets (s : State) (h : Nat) (x : Stream) : (s.setStream h x).targets = s.targets := rfl
@[simp] theorem setStream_levels (s : State) (h : Nat) (x : Stream) : (s.setStream h x).levels = s.levels := rfl
@[simp] theorem setStream_gens (s : State) (h : Nat) (x : Stream) : (s.setStream h x).gens = s.gens := rfl
@[simp] theorem setStream_codec (s : State) (h : Nat) (x : Stream) : (s.setStream h x).codec = s.codec := rfl
@[simp] theorem setStream_vfs (s : State) (h : Nat) (x : Stream) : (s.setStream h x).vfs = s.vfs := rfl
@[simp] theorem setStream_vfsRetained (s : State) (h : Nat) (x : Stream) : (s.setStream h x).vfsRetained = s.vfsRetained := rfl
@[simp] theorem setStream_cxl (s : State) (h : Nat) (x : Stream) : (s.setStream h x).cxl = s.cxl := rfl
@[simp] theorem setStream_bpTaken (s : State) (h : Nat) (x : Stream) : (s.setStream h x).bpTaken = s.bpTaken := rfl
@[simp] theorem setStream_arbPtr (s : State) (h : Nat) (x : Stream) : (s.setStream h x).arbPtr = s.arbPtr := rfl
@[simp] theorem setStream_survivors (s : State) (h : Nat) (x : Stream) : (s.setStream h x).survivors = s.survivors := rfl
@[simp] theorem setStream_power (s : State) (h : Nat) (x : Stream) : (s.setStream h x).power = s.power := rfl
@[simp] theorem setStream_flows (s : State) (h : Nat) (x : Stream) : (s.setStream h x).flows = s.flows := rfl
@[simp] theorem setStream_ring (s : State) (h : Nat) (x : Stream) : (s.setStream h x).ring = s.ring := rfl
@[simp] theorem setStream_spare (s : State) (h : Nat) (x : Stream) : (s.setStream h x).spare = s.spare := rfl
@[simp] theorem setStream_net (s : State) (h : Nat) (x : Stream) : (s.setStream h x).net = s.net := rfl
@[simp] theorem setStream_traffic (s : State) (h : Nat) (x : Stream) : (s.setStream h x).traffic = s.traffic := rfl
@[simp] theorem setStream_security (s : State) (h : Nat) (x : Stream) : (s.setStream h x).security = s.security := rfl
@[simp] theorem setStream_prbs (s : State) (h : Nat) (x : Stream) : (s.setStream h x).prbs = s.prbs := rfl
@[simp] theorem setStream_memctl (s : State) (h : Nat) (x : Stream) : (s.setStream h x).memctl = s.memctl := rfl
@[simp] theorem setStream_banks (s : State) (h : Nat) (x : Stream) : (s.setStream h x).banks = s.banks := rfl
@[simp] theorem setStream_ctl (s : State) (h : Nat) (x : Stream) : (s.setStream h x).ctl = s.ctl := rfl
@[simp] theorem setStream_resets (s : State) (h : Nat) (x : Stream) : (s.setStream h x).resets = s.resets := rfl
@[simp] theorem setStream_lastRead (s : State) (h : Nat) (x : Stream) : (s.setStream h x).lastRead = s.lastRead := rfl
@[simp] theorem setStream_sent (s : State) (h : Nat) (x : Stream) : (s.setStream h x).sent = s.sent := rfl
@[simp] theorem setStream_freeCtr (s : State) (h : Nat) (x : Stream) : (s.setStream h x).freeCtr = s.freeCtr := rfl

end Sys2Proof.Machine
end

