-- ==== Sys2Proof/Laws/Ops.lean ====
section
/-!
SUPPORT. What each shared operation can do, said once: the frame of a raise, an event, a fault record, an answer, and the run of a host
command.
-/
namespace Sys2Proof.Machine

/-! ### Registers alone -/

/-- Only registers of a list differ. -/
def Touches (rs : List Reg) (s t : State) : Prop := t = { s with regs := t.regs } ∧ ∀ r i, r ∉ rs → t.reg r i = s.reg r i

theorem Touches.refl (rs : List Reg) (s : State) : Touches rs s s := ⟨rfl, fun _ _ _ => rfl⟩

theorem Touches.trans {rs : List Reg} {s t u : State} (h : Touches rs s t) (k : Touches rs t u) : Touches rs s u := by
  refine ⟨?_, fun r i hr => (k.2 r i hr).trans (h.2 r i hr)⟩
  have h1 := h.1
  have k1 := k.1
  rw [k1, h1]

theorem Touches.mono {rs rs' : List Reg} {s t : State} (h : Touches rs s t) (hs : ∀ r ∈ rs, r ∈ rs') : Touches rs' s t :=
  ⟨h.1, fun r i hr => h.2 r i fun hm => hr (hs r hm)⟩

theorem touches_setReg {rs : List Reg} (s : State) (r : Reg) (v : DWord) (i : Nat) (h : r ∈ rs) : Touches rs s (s.setReg r v i) :=
  ⟨rfl, fun r' i' hr => by
    have : r ≠ r' := fun e => hr (e ▸ h)
    simp [this]⟩

theorem touches_putN {rs : List Reg} (s : State) (r : Reg) (v i : Nat) (h : r ∈ rs) : Touches rs s (s.putN r v i) :=
  touches_setReg s r _ i h

theorem touches_setFld {rs : List Reg} (s : State) (f : Field) (x i : Nat) (h : f.reg ∈ rs) : Touches rs s (s.setFld f x i) :=
  touches_setReg s f.reg _ i h

theorem touches_setFlag {rs : List Reg} (s : State) (f : Field) (b : Bool) (i : Nat) (h : f.reg ∈ rs) : Touches rs s (s.setFlag f b i) :=
  touches_setFld s f _ i h

theorem touches_bump {rs : List Reg} (s : State) (r : Reg) (n i : Nat) (h : r ∈ rs) : Touches rs s (s.bump r n i) :=
  touches_putN s r _ i h

/-- A raise writes the pending bits and the count of merged raises, and nothing else. -/
theorem touches_raise {rs : List Reg} (s : State) (n : Nat) (h : ∀ r ∈ sourceOnly, r ∈ rs) : Touches rs s (s.raise n) := by
  unfold State.raise
  split
  · exact Touches.refl _ _
  · split
    · exact touches_bump s _ 1 0 (h _ (by simp [sourceOnly]))
    · exact touches_setReg s _ _ _ (h _ (by simp [sourceOnly]))

/-- An event writes its register, and may raise its source. -/
theorem touches_event {rs : List Reg} (s : State) (f : Field) (i : Nat) (hf : f.reg ∈ rs) (h : ∀ r ∈ sourceOnly, r ∈ rs) :
    Touches rs s (s.event f i) := by
  unfold State.event
  split
  · exact Touches.refl _ _
  · have h1 := touches_setFld s f 1 i hf
    dsimp only
    split
    · split
      · exact h1.trans (touches_raise _ _ h)
      · exact h1
    · exact h1

/-- A time base event writes `TB_EVT` and raises its source. -/
theorem touches_tbEvent {rs : List Reg} (s : State) (n : Nat) (hf : Reg.TB_EVT ∈ rs) (h : ∀ r ∈ sourceOnly, r ∈ rs) :
    Touches rs s (s.tbEvent n) :=
  (touches_setReg s _ _ 0 hf).trans (touches_raise _ _ h)

/-- A record writes the fault collector's registers and raises source 246 or 247. -/
theorem touches_record {rs : List Reg} (s : State) (fs d : Nat) (inj : Bool) (h : ∀ r ∈ faultOnly, r ∈ rs) : Touches rs s (s.record fs d inj) := by
  have hs : ∀ r ∈ sourceOnly, r ∈ rs := fun r hr => h r (by
    simp only [sourceOnly, List.mem_cons, List.not_mem_nil, or_false] at hr
    rcases hr with rfl | rfl <;> simp [faultOnly])
  unfold State.record
  split
  · exact Touches.refl _ _
  · dsimp only
    refine Touches.trans ?_ (touches_raise _ _ hs)
    have m1 : Reg.FC_STATUS ∈ rs := h _ (by simp [faultOnly])
    have m2 : Reg.FC_CNT ∈ rs := h _ (by simp [faultOnly])
    have m3 : Reg.FC_LAST ∈ rs := h _ (by simp [faultOnly])
    have m4 : Reg.FC_FIRST ∈ rs := h _ (by simp [faultOnly])
    have h3 := fun v w x => ((touches_setReg s .FC_STATUS v 0 m1).trans (touches_putN _ .FC_CNT w fs m2)).trans
      (touches_setReg _ .FC_LAST x 0 m3)
    split
    · exact h3 _ _ _
    · exact (h3 _ _ _).trans (touches_setReg _ _ _ _ m4)

/-! ### The end of every command -/

/-- `finish` answers a next state. -/
@[simp] theorem finish_eq (s : State) : finish s = .next (settle s) := rfl

/-- The outputs that follow leave every register but `SEC_STS`. -/
@[simp] theorem reg_settle (s : State) (r : Reg) (i : Nat) (h : r ≠ .SEC_STS) : (settle s).reg r i = s.reg r i := by
  show (s.setFlag SEC_STS_APPROVED s.approvedNow).reg r i = s.reg r i
  exact reg_setFld_ne _ _ _ _ _ _ (by simpa using h.symm)

@[simp] theorem fld_settle (s : State) (f : Field) (i : Nat) (h : f.reg ≠ .SEC_STS) : (settle s).fld f i = s.fld f i := by
  simp [State.fld, reg_settle s _ _ h]

@[simp] theorem flag_settle (s : State) (f : Field) (i : Nat) (h : f.reg ≠ .SEC_STS) : (settle s).flag f i = s.flag f i := by
  simp [State.flag, fld_settle s _ _ h]

@[simp] theorem regN_settle (s : State) (r : Reg) (i : Nat) (h : r ≠ .SEC_STS) : (settle s).regN r i = s.regN r i := by
  simp [State.regN, reg_settle s _ _ h]

@[simp] theorem byte_settle (s : State) (sp : Space) (a : Nat) : (settle s).byte sp a = s.byte sp a := by cases sp <;> rfl

/-! The outputs that follow leave the rest of the state. -/

@[simp] theorem settle_pending (s : State) : (settle s).pending = s.pending := rfl
@[simp] theorem settle_lowHeld (s : State) : (settle s).lowHeld = s.lowHeld := rfl
@[simp] theorem settle_mem (s : State) : (settle s).mem = s.mem := rfl
@[simp] theorem settle_hostMem (s : State) : (settle s).hostMem = s.hostMem := rfl
@[simp] theorem settle_spad (s : State) : (settle s).spad = s.spad := rfl
@[simp] theorem settle_chip (s : State) : (settle s).chip = s.chip := rfl
@[simp] theorem settle_tb (s : State) : (settle s).tb = s.tb := rfl
@[simp] theorem settle_cmd (s : State) : (settle s).cmd = s.cmd := rfl
@[simp] theorem settle_targets (s : State) : (settle s).targets = s.targets := rfl
@[simp] theorem settle_levels (s : State) : (settle s).levels = s.levels := rfl
@[simp] theorem settle_gens (s : State) : (settle s).gens = s.gens := rfl
@[simp] theorem settle_streams (s : State) : (settle s).streams = s.streams := rfl
@[simp] theorem settle_codec (s : State) : (settle s).codec = s.codec := rfl
@[simp] theorem settle_vfs (s : State) : (settle s).vfs = s.vfs := rfl
@[simp] theorem settle_vfsRetained (s : State) : (settle s).vfsRetained = s.vfsRetained := rfl
@[simp] theorem settle_cxl (s : State) : (settle s).cxl = s.cxl := rfl
@[simp] theorem settle_bpTaken (s : State) : (settle s).bpTaken = s.bpTaken := rfl
@[simp] theorem settle_arbPtr (s : State) : (settle s).arbPtr = s.arbPtr := rfl
@[simp] theorem settle_survivors (s : State) : (settle s).survivors = s.survivors := rfl
@[simp] theorem settle_power (s : State) : (settle s).power = s.power := rfl
@[simp] theorem settle_flows (s : State) : (settle s).flows = s.flows := rfl
@[simp] theorem settle_ring (s : State) : (settle s).ring = s.ring := rfl
@[simp] theorem settle_spare (s : State) : (settle s).spare = s.spare := rfl
@[simp] theorem settle_net (s : State) : (settle s).net = s.net := rfl
@[simp] theorem settle_traffic (s : State) : (settle s).traffic = s.traffic := rfl
@[simp] theorem settle_security (s : State) : (settle s).security = s.security := rfl
@[simp] theorem settle_prbs (s : State) : (settle s).prbs = s.prbs := rfl
@[simp] theorem settle_memctl (s : State) : (settle s).memctl = s.memctl := rfl
@[simp] theorem settle_banks (s : State) : (settle s).banks = s.banks := rfl
@[simp] theorem settle_ctl (s : State) : (settle s).ctl = s.ctl := rfl
@[simp] theorem settle_resets (s : State) : (settle s).resets = s.resets := rfl
@[simp] theorem settle_lastRead (s : State) : (settle s).lastRead = s.lastRead := rfl
@[simp] theorem settle_sent (s : State) : (settle s).sent = s.sent := rfl
@[simp] theorem settle_freeCtr (s : State) : (settle s).freeCtr = s.freeCtr := rfl
@[simp] theorem settle_stream (s : State) (h : Nat) : (settle s).stream h = s.stream h := rfl
@[simp] theorem settle_flow (s : State) (h : Nat) : (settle s).flow h = s.flow h := rfl

/-- What only registers of a list changed in is still so with the outputs that follow. -/
theorem onlyRegs_of_touches {rs : List Reg} {s t : State} (h : Touches rs s t) : OnlyRegs rs s (settle t) := by
  constructor
  · have h1 := h.1
    show settle t = _
    unfold settle
    rw [h1]
    rfl
  · intro r i hr hs
    rw [reg_settle _ _ _ hs, h.2 r i hr]

/-- A command that changes nothing. -/
theorem unchanged_settle (s : State) : Unchanged s (settle s) := onlyRegs_of_touches (Touches.refl [] s)

/-! ### Agents -/

/-- An agent with PF0's authority makes its write. -/
theorem byAgent_pf0 {s : State} {a : Agent} (h : s.actsAsPf0 a = true) (r : Reg) (i : Nat) (f : Nat → State → State) :
    s.byAgent a r i f = f 0 s := by
  cases a with
  | func n =>
    have h0 : n = 0 := by simpa [State.actsAsPf0] using h
    subst h0
    rfl
  | cpx n =>
    simp only [State.actsAsPf0, Bool.and_eq_true, beq_iff_eq, Bool.not_eq_true'] at h
    simp only [State.byAgent, State.cpxMay, h.2, h.1, Bool.false_eq_true, if_false, if_true]

/-- A function's write is its own. -/
@[simp] theorem byAgent_func (s : State) (n : Nat) (r : Reg) (i : Nat) (f : Nat → State → State) :
    s.byAgent (.func n) r i f = f n s := rfl

end Sys2Proof.Machine
end

