-- ==== Sys2Proof/Laws/Commands.lean ====
section
/-!
SUPPORT. The run of a host command: what listing, starting and answering it can change, and what a command that is ready gives.
-/
namespace Sys2Proof.Machine

/-- Only registers of a list, the queues of commands and replies, and host and device memory differ. -/
def Rest (rs : List Reg) (s t : State) : Prop :=
  t = { s with regs := t.regs, cmd := t.cmd, mem := t.mem, hostMem := t.hostMem } ∧ ∀ r i, r ∉ rs → t.reg r i = s.reg r i

theorem Rest.refl (rs : List Reg) (s : State) : Rest rs s s := ⟨rfl, fun _ _ _ => rfl⟩

theorem Rest.trans {rs : List Reg} {s t u : State} (h : Rest rs s t) (k : Rest rs t u) : Rest rs s u := by
  refine ⟨?_, fun r i hr => (k.2 r i hr).trans (h.2 r i hr)⟩
  have h1 := h.1
  have k1 := k.1
  rw [k1, h1]

theorem Touches.rest {rs : List Reg} {s t : State} (h : Touches rs s t) : Rest rs s t := by
  refine ⟨?_, h.2⟩
  have h1 := h.1
  rw [h1]

/-! Each field of the state that is not among them. -/

theorem Rest.pending {rs : List Reg} {s t : State} (h : Rest rs s t) : t.pending = s.pending := by rw [h.1]
theorem Rest.lowHeld {rs : List Reg} {s t : State} (h : Rest rs s t) : t.lowHeld = s.lowHeld := by rw [h.1]
theorem Rest.spad {rs : List Reg} {s t : State} (h : Rest rs s t) : t.spad = s.spad := by rw [h.1]
theorem Rest.chip {rs : List Reg} {s t : State} (h : Rest rs s t) : t.chip = s.chip := by rw [h.1]
theorem Rest.tb {rs : List Reg} {s t : State} (h : Rest rs s t) : t.tb = s.tb := by rw [h.1]
theorem Rest.pins {rs : List Reg} {s t : State} (h : Rest rs s t) : t.pins = s.pins := by rw [h.1]
theorem Rest.targets {rs : List Reg} {s t : State} (h : Rest rs s t) : t.targets = s.targets := by rw [h.1]
theorem Rest.levels {rs : List Reg} {s t : State} (h : Rest rs s t) : t.levels = s.levels := by rw [h.1]
theorem Rest.gens {rs : List Reg} {s t : State} (h : Rest rs s t) : t.gens = s.gens := by rw [h.1]
theorem Rest.streams {rs : List Reg} {s t : State} (h : Rest rs s t) : t.streams = s.streams := by rw [h.1]
theorem Rest.codec {rs : List Reg} {s t : State} (h : Rest rs s t) : t.codec = s.codec := by rw [h.1]
theorem Rest.vfs {rs : List Reg} {s t : State} (h : Rest rs s t) : t.vfs = s.vfs := by rw [h.1]
theorem Rest.vfsRetained {rs : List Reg} {s t : State} (h : Rest rs s t) : t.vfsRetained = s.vfsRetained := by rw [h.1]
theorem Rest.cxl {rs : List Reg} {s t : State} (h : Rest rs s t) : t.cxl = s.cxl := by rw [h.1]
theorem Rest.bpTaken {rs : List Reg} {s t : State} (h : Rest rs s t) : t.bpTaken = s.bpTaken := by rw [h.1]
theorem Rest.arbPtr {rs : List Reg} {s t : State} (h : Rest rs s t) : t.arbPtr = s.arbPtr := by rw [h.1]
theorem Rest.survivors {rs : List Reg} {s t : State} (h : Rest rs s t) : t.survivors = s.survivors := by rw [h.1]
theorem Rest.power {rs : List Reg} {s t : State} (h : Rest rs s t) : t.power = s.power := by rw [h.1]
theorem Rest.flows {rs : List Reg} {s t : State} (h : Rest rs s t) : t.flows = s.flows := by rw [h.1]
theorem Rest.ring {rs : List Reg} {s t : State} (h : Rest rs s t) : t.ring = s.ring := by rw [h.1]
theorem Rest.spare {rs : List Reg} {s t : State} (h : Rest rs s t) : t.spare = s.spare := by rw [h.1]
theorem Rest.net {rs : List Reg} {s t : State} (h : Rest rs s t) : t.net = s.net := by rw [h.1]
theorem Rest.traffic {rs : List Reg} {s t : State} (h : Rest rs s t) : t.traffic = s.traffic := by rw [h.1]
theorem Rest.security {rs : List Reg} {s t : State} (h : Rest rs s t) : t.security = s.security := by rw [h.1]
theorem Rest.prbs {rs : List Reg} {s t : State} (h : Rest rs s t) : t.prbs = s.prbs := by rw [h.1]
theorem Rest.memctl {rs : List Reg} {s t : State} (h : Rest rs s t) : t.memctl = s.memctl := by rw [h.1]
theorem Rest.banks {rs : List Reg} {s t : State} (h : Rest rs s t) : t.banks = s.banks := by rw [h.1]
theorem Rest.ctl {rs : List Reg} {s t : State} (h : Rest rs s t) : t.ctl = s.ctl := by rw [h.1]
theorem Rest.resets {rs : List Reg} {s t : State} (h : Rest rs s t) : t.resets = s.resets := by rw [h.1]
theorem Rest.lastRead {rs : List Reg} {s t : State} (h : Rest rs s t) : t.lastRead = s.lastRead := by rw [h.1]
theorem Rest.sent {rs : List Reg} {s t : State} (h : Rest rs s t) : t.sent = s.sent := by rw [h.1]
theorem Rest.freeCtr {rs : List Reg} {s t : State} (h : Rest rs s t) : t.freeCtr = s.freeCtr := by rw [h.1]

/-- Storing bytes in host or device memory. -/
theorem rest_store (rs : List Reg) (s : State) (sp : Space) (a : Nat) (bs : List Byte) : Rest rs s (s.store sp a bs) := by
  cases sp <;> exact ⟨rfl, fun _ _ _ => rfl⟩

/-- Changing the queues of commands and replies. -/
theorem rest_cmd (rs : List Reg) (s : State) (u : CmdUnit) : Rest rs s { s with cmd := u } := ⟨rfl, fun _ _ _ => rfl⟩

theorem mem_replyOnly_of_source {r : Reg} (h : r ∈ sourceOnly) : r ∈ replyOnly := by
  simp only [sourceOnly, List.mem_cons, List.not_mem_nil, or_false] at h
  rcases h with rfl | rfl <;> simp [replyOnly]

theorem rest_syncCmdq (s : State) (q : Nat) : Rest replyOnly s (s.syncCmdq q) :=
  ((touches_setFld s _ _ q (by simp [replyOnly])).trans (touches_setFld _ _ _ 0 (by simp [replyOnly]))).rest

theorem rest_syncStalled (s : State) (n : Nat) : Rest replyOnly s (s.syncStalled n) := by
  unfold State.syncStalled
  dsimp only
  split
  · exact Rest.refl _ _
  next hk =>
    clear hk
    generalize List.range 64 = l
    generalize (s.heldFor n).length = k
    induction l generalizing s with
    | nil => exact Rest.refl _ _
    | cons q l ih =>
      simp only [List.foldl_cons]
      refine Rest.trans ?_ (ih _)
      split
      · exact (touches_setFlag s _ _ q (by simp [replyOnly])).rest
      · exact Rest.refl _ _

theorem rest_syncCplq (s : State) (n : Nat) : Rest replyOnly s (s.syncCplq n) :=
  (((touches_setFlag s _ _ n (by simp [replyOnly])).trans (touches_setFld _ _ _ n (by simp [replyOnly]))).rest).trans
    (rest_syncStalled _ _)

theorem rest_onEntries (s : State) (q : Nat) (f : List Outstanding → List Outstanding) : Rest replyOnly s (s.onEntries q f) :=
  (rest_cmd replyOnly s _).trans (rest_syncCmdq _ q)

theorem rest_raise (s : State) (n : Nat) : Rest replyOnly s (s.raise n) :=
  (touches_raise s n fun _ h => mem_replyOnly_of_source h).rest

theorem rest_tbEvent (s : State) (n : Nat) : Rest replyOnly s (s.tbEvent n) :=
  (touches_tbEvent s n (by simp [replyOnly]) fun _ h => mem_replyOnly_of_source h).rest

/-- Writing a reply. -/
theorem rest_writeReply (s : State) (r : Reply) : Rest replyOnly s (s.writeReply r) := by
  unfold State.writeReply
  dsimp only
  refine Rest.trans ?_ (rest_syncCplq _ _)
  refine Rest.trans ?_ (rest_raise _ _)
  have h1 := fun a bs x => (rest_store replyOnly s (spaceOf (s.fld CPLQ_BASE_LOC r.cplq)) a bs).trans
    (touches_setFld _ CPLQ_TAIL_TAIL x r.cplq (by simp [replyOnly])).rest
  split
  · exact (h1 _ _ _).trans (touches_setFld _ _ _ _ (by simp [replyOnly])).rest
  · exact h1 _ _ _

/-- Posting a reply: it is written, held, or not written at all. -/
theorem rest_postReply (s : State) (c : Cmd) (st d w : Nat) : Rest replyOnly s (s.postReply c st d w) := by
  unfold State.postReply
  dsimp only
  split
  · exact rest_onEntries _ _ _
  · split
    · exact (rest_onEntries _ _ _).trans (rest_writeReply _ _)
    · refine Rest.trans (Rest.trans (Rest.trans ?_ (rest_onEntries _ _ _)) (rest_cmd _ _ _)) (rest_syncCplq _ _)
      split
      · exact Rest.refl _ _
      · exact (touches_setFld s _ _ _ (by simp [replyOnly])).rest

theorem rest_lateCount (s : State) (st : Nat) : Rest replyOnly s (s.lateCount st) := by
  unfold State.lateCount
  split
  · exact (touches_bump s _ _ 0 (by simp [replyOnly])).rest.trans (rest_tbEvent _ _)
  · exact Rest.refl _ _

theorem rest_readback (s : State) (c : Cmd) (h : Nat) : Rest replyOnly s (s.readback c h).1 := by
  unfold State.readback
  dsimp only
  generalize (if c.opcode = 0x0103 then c.p 0 % 256 else ((opRow c.opcode).bind OpRow.cls).getD 0) = cls
  split
  · exact rest_store _ s .host c.rbAddr _
  · exact Rest.refl _ s

/-- Completing a command writes its reply and its READBACK record, and nothing else. -/
theorem rest_complete (s : State) (c : Cmd) (st d w : Nat) : Rest replyOnly s (s.completeCmd c st d w) := by
  unfold State.completeCmd
  dsimp only
  split
  · by_cases hr : c.readback
    · simp only [hr, if_true]
      exact (rest_readback _ _ _).trans (rest_postReply _ _ _ _ _)
    · simp only [hr, Bool.false_eq_true, if_false]
      exact rest_postReply _ _ _ _ _
  · exact rest_postReply _ _ _ _ _

theorem rest_completeOne (s : State) (o : Outstanding) : Rest replyOnly s (s.completeOne o) := by
  unfold State.completeOne
  split
  · exact rest_complete _ _ _ _ _
  · exact Rest.refl _ _

theorem rest_completeAll (l : List Outstanding) (s : State) : Rest replyOnly s (l.foldl State.completeOne s) := by
  induction l generalizing s with
  | nil => exact Rest.refl _ _
  | cons o l ih => exact (rest_completeOne s o).trans (ih _)

/-- Answering a command writes replies and READBACK records, and nothing else. -/
theorem answer_rest (s : State) (c : Cmd) (st d w : Nat) : Rest replyOnly s (s.answer c st d w) := by
  unfold State.answer
  dsimp only
  split
  · exact Rest.refl _ _
  · split
    · exact (rest_lateCount s st).trans (rest_onEntries _ _ _)
    · exact ((rest_lateCount s st).trans (rest_complete _ _ _ _ _)).trans (rest_completeAll _ _)

/-- Listing a command. -/
theorem enlist_rest (s : State) (c : Cmd) : Rest replyOnly s (s.enlist c) := by
  unfold State.enlist
  split
  · exact Rest.refl _ _
  · exact rest_onEntries _ _ _

/-- Starting a command. -/
theorem begun_rest (c : Cmd) (s : State) : Rest replyOnly s (begun c s) := (enlist_rest s c).trans (rest_onEntries _ _ _)

/-! What answering and starting leave. -/

@[simp] theorem answer_pending (s : State) (c : Cmd) (st d w : Nat) : (s.answer c st d w).pending = s.pending := (answer_rest s c st d w).pending
@[simp] theorem answer_lowHeld (s : State) (c : Cmd) (st d w : Nat) : (s.answer c st d w).lowHeld = s.lowHeld := (answer_rest s c st d w).lowHeld
@[simp] theorem answer_spad (s : State) (c : Cmd) (st d w : Nat) : (s.answer c st d w).spad = s.spad := (answer_rest s c st d w).spad
@[simp] theorem answer_chip (s : State) (c : Cmd) (st d w : Nat) : (s.answer c st d w).chip = s.chip := (answer_rest s c st d w).chip
@[simp] theorem answer_tb (s : State) (c : Cmd) (st d w : Nat) : (s.answer c st d w).tb = s.tb := (answer_rest s c st d w).tb
@[simp] theorem answer_pins (s : State) (c : Cmd) (st d w : Nat) : (s.answer c st d w).pins = s.pins := (answer_rest s c st d w).pins
@[simp] theorem answer_targets (s : State) (c : Cmd) (st d w : Nat) : (s.answer c st d w).targets = s.targets := (answer_rest s c st d w).targets
@[simp] theorem answer_levels (s : State) (c : Cmd) (st d w : Nat) : (s.answer c st d w).levels = s.levels := (answer_rest s c st d w).levels
@[simp] theorem answer_gens (s : State) (c : Cmd) (st d w : Nat) : (s.answer c st d w).gens = s.gens := (answer_rest s c st d w).gens
@[simp] theorem answer_streams (s : State) (c : Cmd) (st d w : Nat) : (s.answer c st d w).streams = s.streams := (answer_rest s c st d w).streams
@[simp] theorem answer_codec (s : State) (c : Cmd) (st d w : Nat) : (s.answer c st d w).codec = s.codec := (answer_rest s c st d w).codec
@[simp] theorem answer_vfs (s : State) (c : Cmd) (st d w : Nat) : (s.answer c st d w).vfs = s.vfs := (answer_rest s c st d w).vfs
@[simp] theorem answer_vfsRetained (s : State) (c : Cmd) (st d w : Nat) : (s.answer c st d w).vfsRetained = s.vfsRetained := (answer_rest s c st d w).vfsRetained
@[simp] theorem answer_cxl (s : State) (c : Cmd) (st d w : Nat) : (s.answer c st d w).cxl = s.cxl := (answer_rest s c st d w).cxl
@[simp] theorem answer_bpTaken (s : State) (c : Cmd) (st d w : Nat) : (s.answer c st d w).bpTaken = s.bpTaken := (answer_rest s c st d w).bpTaken
@[simp] theorem answer_arbPtr (s : State) (c : Cmd) (st d w : Nat) : (s.answer c st d w).arbPtr = s.arbPtr := (answer_rest s c st d w).arbPtr
@[simp] theorem answer_survivors (s : State) (c : Cmd) (st d w : Nat) : (s.answer c st d w).survivors = s.survivors := (answer_rest s c st d w).survivors
@[simp] theorem answer_power (s : State) (c : Cmd) (st d w : Nat) : (s.answer c st d w).power = s.power := (answer_rest s c st d w).power
@[simp] theorem answer_flows (s : State) (c : Cmd) (st d w : Nat) : (s.answer c st d w).flows = s.flows := (answer_rest s c st d w).flows
@[simp] theorem answer_ring (s : State) (c : Cmd) (st d w : Nat) : (s.answer c st d w).ring = s.ring := (answer_rest s c st d w).ring
@[simp] theorem answer_spare (s : State) (c : Cmd) (st d w : Nat) : (s.answer c st d w).spare = s.spare := (answer_rest s c st d w).spare
@[simp] theorem answer_net (s : State) (c : Cmd) (st d w : Nat) : (s.answer c st d w).net = s.net := (answer_rest s c st d w).net
@[simp] theorem answer_traffic (s : State) (c : Cmd) (st d w : Nat) : (s.answer c st d w).traffic = s.traffic := (answer_rest s c st d w).traffic
@[simp] theorem answer_security (s : State) (c : Cmd) (st d w : Nat) : (s.answer c st d w).security = s.security := (answer_rest s c st d w).security
@[simp] theorem answer_prbs (s : State) (c : Cmd) (st d w : Nat) : (s.answer c st d w).prbs = s.prbs := (answer_rest s c st d w).prbs
@[simp] theorem answer_memctl (s : State) (c : Cmd) (st d w : Nat) : (s.answer c st d w).memctl = s.memctl := (answer_rest s c st d w).memctl
@[simp] theorem answer_banks (s : State) (c : Cmd) (st d w : Nat) : (s.answer c st d w).banks = s.banks := (answer_rest s c st d w).banks
@[simp] theorem answer_ctl (s : State) (c : Cmd) (st d w : Nat) : (s.answer c st d w).ctl = s.ctl := (answer_rest s c st d w).ctl
@[simp] theorem answer_resets (s : State) (c : Cmd) (st d w : Nat) : (s.answer c st d w).resets = s.resets := (answer_rest s c st d w).resets
@[simp] theorem answer_lastRead (s : State) (c : Cmd) (st d w : Nat) : (s.answer c st d w).lastRead = s.lastRead := (answer_rest s c st d w).lastRead
@[simp] theorem answer_sent (s : State) (c : Cmd) (st d w : Nat) : (s.answer c st d w).sent = s.sent := (answer_rest s c st d w).sent
@[simp] theorem answer_freeCtr (s : State) (c : Cmd) (st d w : Nat) : (s.answer c st d w).freeCtr = s.freeCtr := (answer_rest s c st d w).freeCtr

@[simp] theorem begun_pending (c : Cmd) (s : State) : (begun c s).pending = s.pending := (begun_rest c s).pending
@[simp] theorem begun_lowHeld (c : Cmd) (s : State) : (begun c s).lowHeld = s.lowHeld := (begun_rest c s).lowHeld
@[simp] theorem begun_spad (c : Cmd) (s : State) : (begun c s).spad = s.spad := (begun_rest c s).spad
@[simp] theorem begun_chip (c : Cmd) (s : State) : (begun c s).chip = s.chip := (begun_rest c s).chip
@[simp] theorem begun_tb (c : Cmd) (s : State) : (begun c s).tb = s.tb := (begun_rest c s).tb
@[simp] theorem begun_pins (c : Cmd) (s : State) : (begun c s).pins = s.pins := (begun_rest c s).pins
@[simp] theorem begun_targets (c : Cmd) (s : State) : (begun c s).targets = s.targets := (begun_rest c s).targets
@[simp] theorem begun_levels (c : Cmd) (s : State) : (begun c s).levels = s.levels := (begun_rest c s).levels
@[simp] theorem begun_gens (c : Cmd) (s : State) : (begun c s).gens = s.gens := (begun_rest c s).gens
@[simp] theorem begun_streams (c : Cmd) (s : State) : (begun c s).streams = s.streams := (begun_rest c s).streams
@[simp] theorem begun_codec (c : Cmd) (s : State) : (begun c s).codec = s.codec := (begun_rest c s).codec
@[simp] theorem begun_vfs (c : Cmd) (s : State) : (begun c s).vfs = s.vfs := (begun_rest c s).vfs
@[simp] theorem begun_vfsRetained (c : Cmd) (s : State) : (begun c s).vfsRetained = s.vfsRetained := (begun_rest c s).vfsRetained
@[simp] theorem begun_cxl (c : Cmd) (s : State) : (begun c s).cxl = s.cxl := (begun_rest c s).cxl
@[simp] theorem begun_bpTaken (c : Cmd) (s : State) : (begun c s).bpTaken = s.bpTaken := (begun_rest c s).bpTaken
@[simp] theorem begun_arbPtr (c : Cmd) (s : State) : (begun c s).arbPtr = s.arbPtr := (begun_rest c s).arbPtr
@[simp] theorem begun_survivors (c : Cmd) (s : State) : (begun c s).survivors = s.survivors := (begun_rest c s).survivors
@[simp] theorem begun_power (c : Cmd) (s : State) : (begun c s).power = s.power := (begun_rest c s).power
@[simp] theorem begun_flows (c : Cmd) (s : State) : (begun c s).flows = s.flows := (begun_rest c s).flows
@[simp] theorem begun_ring (c : Cmd) (s : State) : (begun c s).ring = s.ring := (begun_rest c s).ring
@[simp] theorem begun_spare (c : Cmd) (s : State) : (begun c s).spare = s.spare := (begun_rest c s).spare
@[simp] theorem begun_net (c : Cmd) (s : State) : (begun c s).net = s.net := (begun_rest c s).net
@[simp] theorem begun_traffic (c : Cmd) (s : State) : (begun c s).traffic = s.traffic := (begun_rest c s).traffic
@[simp] theorem begun_security (c : Cmd) (s : State) : (begun c s).security = s.security := (begun_rest c s).security
@[simp] theorem begun_prbs (c : Cmd) (s : State) : (begun c s).prbs = s.prbs := (begun_rest c s).prbs
@[simp] theorem begun_memctl (c : Cmd) (s : State) : (begun c s).memctl = s.memctl := (begun_rest c s).memctl
@[simp] theorem begun_banks (c : Cmd) (s : State) : (begun c s).banks = s.banks := (begun_rest c s).banks
@[simp] theorem begun_ctl (c : Cmd) (s : State) : (begun c s).ctl = s.ctl := (begun_rest c s).ctl
@[simp] theorem begun_resets (c : Cmd) (s : State) : (begun c s).resets = s.resets := (begun_rest c s).resets
@[simp] theorem begun_lastRead (c : Cmd) (s : State) : (begun c s).lastRead = s.lastRead := (begun_rest c s).lastRead
@[simp] theorem begun_sent (c : Cmd) (s : State) : (begun c s).sent = s.sent := (begun_rest c s).sent
@[simp] theorem begun_freeCtr (c : Cmd) (s : State) : (begun c s).freeCtr = s.freeCtr := (begun_rest c s).freeCtr

/-- Registers that no reply writes. -/
@[simp] theorem reg_answer (s : State) (c : Cmd) (st d w : Nat) (r : Reg) (i : Nat) (h : r ∉ replyOnly) :
    (s.answer c st d w).reg r i = s.reg r i := (answer_rest s c st d w).2 r i h

@[simp] theorem reg_begun (c : Cmd) (s : State) (r : Reg) (i : Nat) (h : r ∉ replyOnly) : (begun c s).reg r i = s.reg r i :=
  (begun_rest c s).2 r i h

@[simp] theorem fld_answer (s : State) (c : Cmd) (st d w : Nat) (f : Field) (i : Nat) (h : f.reg ∉ replyOnly) :
    (s.answer c st d w).fld f i = s.fld f i := by simp only [State.fld, reg_answer s c st d w f.reg i h]

@[simp] theorem fld_begun (c : Cmd) (s : State) (f : Field) (i : Nat) (h : f.reg ∉ replyOnly) : (begun c s).fld f i = s.fld f i := by
  simp only [State.fld, reg_begun c s f.reg i h]

@[simp] theorem regN_answer (s : State) (c : Cmd) (st d w : Nat) (r : Reg) (i : Nat) (h : r ∉ replyOnly) :
    (s.answer c st d w).regN r i = s.regN r i := by simp only [State.regN, reg_answer s c st d w r i h]

@[simp] theorem regN_begun (c : Cmd) (s : State) (r : Reg) (i : Nat) (h : r ∉ replyOnly) : (begun c s).regN r i = s.regN r i := by
  simp only [State.regN, reg_begun c s r i h]

@[simp] theorem flag_answer (s : State) (c : Cmd) (st d w : Nat) (f : Field) (i : Nat) (h : f.reg ∉ replyOnly) :
    (s.answer c st d w).flag f i = s.flag f i := by simp only [State.flag, fld_answer s c st d w f i h]

@[simp] theorem flag_begun (c : Cmd) (s : State) (f : Field) (i : Nat) (h : f.reg ∉ replyOnly) : (begun c s).flag f i = s.flag f i := by
  simp only [State.flag, fld_begun c s f i h]

@[simp] theorem stream_answer (s : State) (c : Cmd) (st d w h : Nat) : (s.answer c st d w).stream h = s.stream h := by
  simp only [State.stream, answer_streams]

@[simp] theorem stream_begun (c : Cmd) (s : State) (h : Nat) : (begun c s).stream h = s.stream h := by simp only [State.stream, begun_streams]

@[simp] theorem flow_answer (s : State) (c : Cmd) (st d w h : Nat) : (s.answer c st d w).flow h = s.flow h := by
  simp only [State.flow, answer_flows]

@[simp] theorem flow_begun (c : Cmd) (s : State) (h : Nat) : (begun c s).flow h = s.flow h := by simp only [State.flow, begun_flows]

/-- A command that is ready runs its opcode's rule on the state that lists it as started, and is answered unless a later event does. -/
theorem runCommand_ready {c : Cmd} {s : State} (h : Ready c s = true) (core : Cmd → State → Res) :
    runCommand c core s = finish (let r := core c (begun c s)
                                  if r.deferred then r.s else r.s.answer c r.status r.detail r.word) := by
  simp only [Ready, Bool.and_eq_true, Bool.not_eq_true', Option.isNone_iff_eq_none] at h
  obtain ⟨⟨h1, h2⟩, h3⟩ := h
  have h4 : ¬(c.atTick = true ∧ (s.enlist c).tickIndex < c.tick) := by
    rintro ⟨ha, hb⟩
    simp [ha, hb] at h3
  unfold runCommand
  simp only [h1, h2, h4, if_false, Bool.false_eq_true]
  rfl

end Sys2Proof.Machine
end

