-- ==== Sys2Proof/Laws/All.lean ====
section
/-!
SUPPORT. Every law file at once, for the files that cite them.
-/
end

