-- ==== Sys2Proof/WellFormed.lean ====
section
/-!
DEFINITION. Well-formed commands: agents, queues, streams, pipes and other units that the manual numbers, in its ranges, and packets under the
opcode of their row. A command that is not well-formed has a meaning all the same: it is one that no sender makes.
-/
namespace Sys2Proof

/-- PF0, one of 32 VFs, or one of the two command processors (R18, R388). -/
def Agent.wf : Agent → Bool
  | .func f => decide (f ≤ 32)
  | .cpx h => decide (h < 2)

/-- A packet of 1 to 16 slots under its opcode (R69, R70, R83): fields in their widths, parameters in 32 bits. -/
def Cmd.wf (c : Cmd) (opcode : Nat) : Bool :=
  c.opcode == opcode && decide (c.queue < 64) && decide (c.tag < 2 ^ 32) && decide (c.handle < 2 ^ 16) && decide (c.func < 2 ^ 16)
    && decide (1 ≤ c.slots) && decide (c.slots ≤ 16) && decide (c.tick < 2 ^ 64) && c.params.all fun p => decide (p < 2 ^ 32)

/-- The parts of a picture hold blocks of the picture (R162). -/
def DecHeader.wf (p : DecHeader) : Bool := decide (p.blocks < 2 ^ 18) && p.parts.all fun x => x.blocks.all fun b => decide (b < p.blocks)

/-- A reason is one of the table; a halo lies above or below (R173, R235). -/
def BlockResult.wf : BlockResult → Bool
  | .good _ needs => decide (needs < 4)
  | .damaged reason _ => decide (1 ≤ reason) && decide (reason ≤ 9)
  | .header p => p.wf
  | _ => true

/-- A ring message comes over one of the two links (R219, R221). -/
def RingHdr.wf (m : RingHdr) : Bool := decide (m.link < 2) && decide (m.src < 64) && decide (m.dst < 64) && decide (m.epoch < 2 ^ 32)

/-- A data message names one of 64 ring streams (R223). -/
def DataHdr.wf (h : DataHdr) : Bool := decide (h.rsid < 64) && decide (h.flags < 2 ^ 16)

/-- A plan names one of 64 ring streams (R239). -/
def PlanMsg.wf (p : PlanMsg) : Bool := decide (p.rsid < 64)

/-- HELLO's grid has a denominator (R29, R223). -/
def HelloMsg.wf (h : HelloMsg) : Bool := decide (h.pos < 64) && decide (h.size ≤ 64) && decide (0 < h.den)

/-- A region of a migration lies among the six (R247). -/
def MigData.wf (h : MigData) : Bool := decide (h.region < 256) && decide (h.data.length ≤ 65536)

/-- One of the 250 sources, or another cause of R444. -/
def WakeCause.wf : WakeCause → Bool
  | .source n => decide (n < 250)
  | _ => true

/-- Abort points are AP0 to AP3; 4 is none (R442). -/
def WakeInfo.wf (x : WakeInfo) : Bool := decide (x.ap ≤ 4)

/-- One of the 2,060 queues (R353), or a stream. -/
def CellSource.wf : CellSource → Bool
  | .queue q => decide (q < 2060)
  | .packet stream _ => decide (stream < 512)

/-- A queue of R64 or a channel of R327. -/
def DevRequest.wf : DevRequest → Bool
  | .fetch q => decide (q < 64)
  | .reply q => decide (q < 64)
  | .dma n _ _ => decide (n < 64)

/-- A pipe, or a stream. -/
def UsqData.wf : UsqData → Bool
  | .pipe p => decide (p < 24)
  | .context stream => decide (stream < 512)

/-- A requester of ARB0 with a class, writing as many bytes as it names (R316, R326). -/
def MemAccess.wf (r : MemAccess) : Bool :=
  decide (r.src < 36) && decide (r.sc < 4) && decide (0 < r.bytes) && r.data.all fun l => decide (l.length = r.bytes)

/-- A bank, an offset inside it, and as many bytes as the access names (R343, R344). -/
def SpdAccess.wf (x : SpdAccess) : Bool :=
  decide (x.bank < 64) && decide (x.offset < 262144) && decide (0 < x.bytes) && x.data.all fun l => decide (l.length = x.bytes)

/-- A host access of a cache line or part of one (R375). -/
def CxlAccess.wf (x : CxlAccess) : Bool :=
  decide (0 < x.bytes) && decide (x.bytes ≤ 64) && decide (x.caches < 3) && x.data.all fun l => decide (l.length = x.bytes)

/-- An interrupt target: a vector of PF0, of a VF, or a command processor (R418). -/
def targetNumber (t : Nat) : Bool := decide (t < 256) || (decide (512 ≤ t) && decide (t < 770))

/-- A command in the ranges of the manual. -/
def Instr.wf : Instr → Bool
  | .registerWrite a _ bytes _ => a.wf && decide (bytes ∈ [1, 2, 4, 8])
  | .tbTimeSecRead => true
  | .tbCtrlWrite a _ => a.wf
  | .tbAdjStepWrite a _ => a.wf
  | .servoOffsetWrite a _ => a.wf
  | .servoTimeout => true
  | .timePllLockLoss => true
  | .timePllReturn => true
  | .tickFire => true
  | .leadCompareNoGrid => true
  | .tickOutActive => true
  | .tickOutInactive => true
  | .ppsOutPulse => true
  | .ppsOutEnd => true
  | .ppsCapture => true
  | .timeSet c => c.wf 0x0200
  | .tickConfig c => c.wf 0x0201
  | .launchSet c => c.wf 0x0202
  | .beacon m _ => m.wf
  | .beaconLoss => true
  | .refclkAonLoss _ => true
  | .refclkAonReturn _ => true
  | .pictureLaunch stream => decide (stream < 512)
  | .delayedLaunch stream => decide (stream < 512)
  | .deadlineBackstop stream => decide (stream < 512)
  | .cmdqTailWrite a q _ => a.wf && decide (q < 64)
  | .commandFetch _ => true
  | .cplqHeadWrite a q _ => a.wf && decide (q < 64)
  | .heldReplyWrite q _ => decide (q < 64)
  | .cmdqCfgWrite a q _ => a.wf && decide (q < 64)
  | .cplqCfgWrite a q _ => a.wf && decide (q < 64)
  | .cplqOwnerWrite a q _ => a.wf && decide (q < 64)
  | .nop c => c.wf 0x0100
  | .deviceInfo c => c.wf 0x0101
  | .stateRead c => c.wf 0x0102
  | .stateWrite c => c.wf 0x0103
  | .faultClear c => c.wf 0x0104
  | .streamOpen c => c.wf 0x0300
  | .streamConfig c => c.wf 0x0301
  | .streamClose c => c.wf 0x0302
  | .bitstreamRingRelease stream => decide (stream < 512)
  | .streamMigrateOut c => c.wf 0x0303
  | .streamMigrateIn c => c.wf 0x0304
  | .encPicture c => c.wf 0x0400
  | .encKeyRequest c => c.wf 0x0401
  | .encRcUpdate c => c.wf 0x0402
  | .encQpMap c => c.wf 0x0403
  | .decAu c => c.wf 0x0500
  | .decFlush c => c.wf 0x0501
  | .decRefDrop c => c.wf 0x0502
  | .slotLoad c => c.wf 0x0600
  | .slotSwap c => c.wf 0x0601
  | .gateListLoad c => c.wf 0x0700
  | .shaperSet c => c.wf 0x0701
  | .policerSet c => c.wf 0x0702
  | .flowOpen c => c.wf 0x0703
  | .flowClose c => c.wf 0x0704
  | .ingestMap c => c.wf 0x0705
  | .ringJoin c => c.wf 0x0800
  | .ringJoinTimeout => true
  | .roleSet c => c.wf 0x0801
  | .ringLeave c => c.wf 0x0802
  | .voteSet c => c.wf 0x0900
  | .keyLoad c => c.wf 0x0A00
  | .zeroize c => c.wf 0x0A01
  | .selfTest c _ => c.wf 0x0A02
  | .attest c => c.wf 0x0A03
  | .microcodePatch c _ => c.wf 0x0B00
  | .microcodePatchSwitch => true
  | .spareSwap c => c.wf 0x0B01
  | .monitorConfig c => c.wf 0x0B02
  | .repairLogRead c => c.wf 0x0B03
  | .scoutBandDelivered unit stream _ _ => decide (unit < 4) && decide (stream < 512)
  | .scoutWaitExpiry pipe => decide (pipe < 16)
  | .cuStart pipe _ _ needs => decide (pipe < 16) && decide (needs < 4)
  | .waitCut pipe => decide (pipe < 16)
  | .cuBitCheck pipe _ _ => decide (pipe < 16)
  | .cuHandoff pipe _ _ => decide (pipe < 16)
  | .seamStripDone stream => decide (stream < 512)
  | .bandRelease stream => decide (stream < 512)
  | .encPictureComplete stream _ => decide (stream < 512)
  | .encPipeFault pipe f => decide (pipe < 16) && (match f with | .poison unit => decide (unit < 2 ^ 16) | _ => true)
  | .decBlockStart pipe r _ => decide (16 ≤ pipe) && decide (pipe < 24) && r.wf
  | .decPictureComplete stream _ => decide (stream < 512)
  | .decPipeFault pipe _ => decide (16 ≤ pipe) && decide (pipe < 24)
  | .decSRecHeadWrite a stream _ => a.wf && decide (stream < 512)
  | .decSOutRelWrite a stream _ => a.wf && decide (stream < 512)
  | .fbAssignWrite a _ => a.wf
  | .fbDescCommit a d _ => a.wf && decide (d < 8192)
  | .fbReadyWrite a _ => a.wf
  | .fbRingRdWrite a stream _ => a.wf && decide (stream < 512)
  | .fbArenaWrite a f _ _ => a.wf && decide (f < 33)
  | .hello m h => m.wf && h.wf
  | .leave m => m.wf
  | .roleUpdate m _ _ _ _ _ _ => m.wf
  | .nak m _ _ _ _ _ _ => m.wf
  | .messageDiscard link _ => decide (link < 2)
  | .plan m p => m.wf && p.wf
  | .planSendTimeout rsid => decide (rsid < 64)
  | .donate m rsid _ _ => m.wf && decide (rsid < 64)
  | .ask m rsid _ _ => m.wf && decide (rsid < 64)
  | .grant m rsid _ _ => m.wf && decide (rsid < 64)
  | .final m rsid _ _ _ _ _ => m.wf && decide (rsid < 64)
  | .halo m h => m.wf && h.wf
  | .haloDeadline rsid side => decide (rsid < 64) && decide (side < 2)
  | .staleHaloDrop => true
  | .seamUp m h => m.wf && h.wf
  | .seamDown m h => m.wf && h.wf
  | .seamDeadline rsid => decide (rsid < 64)
  | .band m h _ => m.wf && h.wf
  | .forwardedBandDrop rsid => decide (rsid < 64)
  | .migData m h => m.wf && h.wf
  | .migCommitReq m _ _ => m.wf
  | .migCommitAck m _ => m.wf
  | .migQuery m _ _ _ => m.wf
  | .migAbort m _ _ => m.wf
  | .migrationTimeout handle => decide (handle < 512)
  | .migrateInTimeout handle => decide (handle < 512)
  | .uioWriteReceive peer _ _ _ => decide (peer < 1024)
  | .lnGrpCfgWrite a g _ => a.wf && decide (g < 4)
  | .lnPrbsInjWrite a lane _ => a.wf && decide (lane < 16)
  | .fuletLinkDown link => decide (link < 2)
  | .ethLinkChange port _ _ => decide (port < 4)
  | .ethFrameReceive port _ _ => decide (port < 4)
  | .ptpTxTailWrite a port _ => a.wf && decide (port < 4)
  | .gateEntryChange g => decide (g < 6)
  | .gateListSwitch g => decide (g < 6)
  | .frameSelect k => decide (k < 6)
  | .cellEnqueue src => src.wf
  | .cellqFlushWrite a _ => a.wf
  | .cellLinkError queue cell _ => decide (queue < 2060) && decide (cell < 16384)
  | .cellSweepDone _ => true
  | .memoryRequest r => r.wf
  | .arbBurstEnd arb group _ _ _ => decide (arb < 8) && decide (group < 4)
  | .memoryBurstComplete ch src _ => decide (ch < 16) && decide (src < 36)
  | .mcCrcError ch src _ => decide (ch < 16) && decide (src < 36)
  | .mcRefresh ch _ _ => decide (ch < 16)
  | .mcPeriodicRetrain ch _ => decide (ch < 16)
  | .pageRetireCopyDone entry => decide (entry < 1024)
  | .arbFreezeWrite a arb _ => a.wf && decide (arb < 8)
  | .dmaEnWrite a n _ _ => a.wf && decide (n < 64)
  | .dmaArm a n => a.wf && decide (n < 64)
  | .dmaDisarm a n => a.wf && decide (n < 64)
  | .dmaHandover n _ _ => decide (n < 64)
  | .dmaDescriptorComplete n _ => decide (n < 64)
  | .dmaError n _ _ _ => decide (n < 64)
  | .spdAccess x => x.wf
  | .spdBankOwnWrite a b _ => a.wf && decide (b < 64)
  | .spdHandoverDone b => decide (b < 64)
  | .spdBankStateWrite a b _ => a.wf && decide (b < 64)
  | .spdBankTransitionDone b => decide (b < 64)
  | .windowCacheTestStart unit => decide (unit < 20)
  | .windowCacheTestDone cluster _ => decide (cluster < 4)
  | .bpAllocate k _ => decide (k < 4)
  | .bpFreeWrite a k _ => a.wf && decide (k < 4)
  | .bpAllocRead k => decide (k < 4)
  | .bpCfgWrite a k _ => a.wf && decide (k < 4)
  | .cxlLinkDown _ => true
  | .cxlLinkUp _ width => decide (width ∈ [1, 2, 4, 8, 16])
  | .l1EntryRequest => true
  | .l1Exit _ x => x.wf
  | .l0pRequest _ => true
  | .cxlMemRequest x => x.wf
  | .hostSnoop _ => true
  | .hdmDecoderCommit _ _ _ _ => true
  | .vfEnableWrite numVfs _ _ => decide (numVfs < 65536)
  | .functionLevelReset f _ => decide (f < 33)
  | .cxlReset _ _ _ => true
  | .doeRequest _ => true
  | .doeAbort => true
  | .ideKeySetSwitch protocol dir set => decide (protocol < 2) && decide (dir < 2) && decide (set < 2)
  | .ideIntegrityFail => true
  | .completionTimeout who => who.wf
  | .msixUnmask f v => decide (f < 33) && decide (v < 256)
  | .cpxBootGo a => a.wf
  | .usqRoutineBoundary u _ _ _ => decide (u < 6)
  | .usqRoutineOverrun u _ => decide (u < 6)
  | .usqFault u _ _ _ d => decide (u < 6) && d.wf
  | .aonLeadRequest a owner expect => a.wf && decide (owner < 2) && decide (expect < 2 ^ 32)
  | .aonPowerUp => true
  | .cpxRelease h => decide (h < 2)
  | .cpxAdopt a h _ => a.wf && decide (h < 2)
  | .cpxHalt a h => a.wf && decide (h < 2)
  | .cpxWatchdogExpiry h => decide (h < 2)
  | .icClaim a t => a.wf && targetNumber t
  | .icComplete a t _ => a.wf && targetNumber t
  | .icSrcCfgWrite a n _ => a.wf && decide (n < 256)
  | .icMessageSend t => targetNumber t
  | .fcClearWrite a _ => a.wf
  | .fcMaskWrite a _ => a.wf
  | .fcInject a _ => a.wf
  | .domainRestoreDone d => decide (d < 24)
  | .sleepRequest a _ w _ => a.wf && w.all WakeCause.wf
  | .wakeEvent w x => w.wf && x.wf
  | .droopCrossing sensor _ => decide (sensor < 8)
  | .droopCritExpiry sensor => decide (sensor < 8)
  | .droopHoldExpiry sensor => decide (sensor < 8)
  | .thermalChange _ sensor => decide (sensor < 16)
  | .thermalShutdown => true
  | .avsTargetWrite a _ => a.wf
  | .avsMismatchExpiry mv _ => decide (mv < 1024)
  | .monitorPeriod _ _ => true
  | .monitorSnapWrite a => a.wf
  | .agingMeasure u _ => decide (u < 34)
  | .spdBankCopyDone => true
  | .pllLockLoss => true
  | .repairLogProgrammed => true
  | .secConditionalTestFail => true
  | .keystoreEccError slot => decide (slot < 65536)
  | .powerUp _ _ _ => true
  | .railUndervoltage _ => true
  | .perstNAssert _ _ _ => true
  | .perstNRelease _ => true
  | .linkReset _ => true
  | .glbRstWarm a _ _ _ => a.wf
  | .glbRstCold a _ _ => a.wf
  | .glbRstHalf a _ => a.wf
  | .halfResetDone h _ => decide (h < 2)
  | .streamReset a _ => a.wf
  | .survivorDiscard a _ => a.wf
  | .refclkLaneLoss => true
  | .refclkCxlLoss _ => true
  | .smbusRead reg => decide (reg < 5)
  | .fuletLinkUp link lanes _ _ _ _ _ => decide (link < 2) && decide (lanes ≤ 4)
  | .prbsCheckerLock lane _ _ => decide (lane < 16)
  | .refclkLaneReturn => true
  | .imageReadComplete _ => true
  | .scoutStop unit => decide (unit < 4)
  | .backInvalidateResponse _ => true
  | .cxlInternalError => true
  | .boundaryScan _ => true

end Sys2Proof
end

