-- ==== Sys2Proof/Tests/Slice0.lean ====
section
/-!
SUPPORT. Tests: an ill-formed term for each check of WellFormed, worked examples of the manual, and for every statement concrete states and
operands that meet the hypotheses of each of its clauses.
-/
namespace Sys2Proof.Tests

open Sys2Proof Sys2Proof.Machine

set_option maxRecDepth 20000
set_option synthInstance.maxSize 4096
set_option synthInstance.maxHeartbeats 400000
set_option linter.unusedVariables false

/-! ### WellFormed refuses an ill-formed term for each check -/

theorem test_wf_agents :
    Agent.wf (.func 32) = true ∧ Agent.wf (.func 33) = false ∧ Agent.wf (.cpx 1) = true ∧ Agent.wf (.cpx 2) = false := by decide

theorem test_wf_packets :
    Cmd.wf { opcode := 0x0100, slots := 16, queue := 63 } 0x0100 = true ∧ Cmd.wf { opcode := 0x0101 } 0x0100 = false ∧
    Cmd.wf { opcode := 0x0100, queue := 64 } 0x0100 = false ∧ Cmd.wf { opcode := 0x0100, slots := 0 } 0x0100 = false ∧
    Cmd.wf { opcode := 0x0100, slots := 17 } 0x0100 = false ∧ Cmd.wf { opcode := 0x0100, tag := 2 ^ 32 } 0x0100 = false ∧
    Cmd.wf { opcode := 0x0100, handle := 2 ^ 16 } 0x0100 = false ∧ Cmd.wf { opcode := 0x0100, func := 2 ^ 16 } 0x0100 = false ∧
    Cmd.wf { opcode := 0x0100, tick := 2 ^ 64 } 0x0100 = false ∧ Cmd.wf { opcode := 0x0100, params := [2 ^ 32] } 0x0100 = false ∧
    Instr.wf (.nop { opcode := 0x0101 }) = false ∧ Instr.wf (.nop { opcode := 0x0100 }) = true := by decide

theorem test_wf_ring_messages :
    RingHdr.wf { link := 2, src := 0, epoch := 0, tick := 0 } = false ∧ RingHdr.wf { link := 1, src := 64, epoch := 0, tick := 0 } = false ∧
    RingHdr.wf { link := 1, src := 0, dst := 64, epoch := 0, tick := 0 } = false ∧ RingHdr.wf { link := 1, src := 0, epoch := 2 ^ 32, tick := 0 } = false ∧
    RingHdr.wf { link := 1, src := 63, epoch := 0, tick := 0 } = true ∧
    DataHdr.wf { rsid := 64, flags := 0, index := 0, offset := 0, total := 0, bytes := 0 } = false ∧
    DataHdr.wf { rsid := 63, flags := 2 ^ 16, index := 0, offset := 0, total := 0, bytes := 0 } = false ∧
    PlanMsg.wf { rsid := 64, key := true, nextKey := true, carryVoid := true, digest := 0, cap := 0, target := 0, finalSeen := 0, shares := [] } = false ∧
    HelloMsg.wf { ringId := 0, pos := 64, size := 2, num := 1, den := 50 } = false ∧
    HelloMsg.wf { ringId := 0, pos := 0, size := 65, num := 1, den := 50 } = false ∧
    HelloMsg.wf { ringId := 0, pos := 0, size := 2, num := 1, den := 0 } = false ∧
    MigData.wf { id := 0, region := 256 } = false ∧ MigData.wf { id := 0, region := 5 } = true := by decide

theorem test_wf_causes :
    WakeCause.wf (.source 250) = false ∧ WakeCause.wf .d0 = true ∧ WakeInfo.wf { ap := 5 } = false ∧ WakeInfo.wf { ap := 4 } = true ∧
    CellSource.wf (.queue 2060) = false ∧ CellSource.wf (.packet 512 []) = false ∧ CellSource.wf (.queue 2059) = true ∧
    DevRequest.wf (.fetch 64) = false ∧ DevRequest.wf (.reply 64) = false ∧ DevRequest.wf (.dma 64 0 {}) = false ∧
    UsqData.wf (.pipe 24) = false ∧ UsqData.wf (.context 512) = false := by decide

theorem test_wf_accesses :
    MemAccess.wf { src := 36, sc := 1, addr := 0, bytes := 4 } = false ∧ MemAccess.wf { src := 0, sc := 4, addr := 0, bytes := 4 } = false ∧
    MemAccess.wf { src := 0, sc := 1, addr := 0, bytes := 0 } = false ∧ MemAccess.wf { src := 0, sc := 1, addr := 0, bytes := 4, data := some [1] } = false ∧
    MemAccess.wf { src := 0, sc := 1, addr := 0, bytes := 1, data := some [1] } = true ∧
    SpdAccess.wf { who := 1, bank := 64, offset := 0, bytes := 4 } = false ∧ SpdAccess.wf { who := 1, bank := 0, offset := 262144, bytes := 4 } = false ∧
    SpdAccess.wf { who := 1, bank := 0, offset := 0, bytes := 0 } = false ∧
    SpdAccess.wf { who := 1, bank := 0, offset := 0, bytes := 4, data := some [1] } = false ∧
    CxlAccess.wf { addr := 0, bytes := 65 } = false ∧ CxlAccess.wf { addr := 0, bytes := 0 } = false ∧
    CxlAccess.wf { addr := 0, bytes := 64, caches := 3 } = false ∧ CxlAccess.wf { addr := 0, bytes := 2, data := some [1] } = false := by decide

theorem test_wf_unit_numbers :
    Instr.wf (.registerWrite (.func 0) 0 3 0) = false ∧ Instr.wf (.heldReplyWrite 64 true) = false ∧ Instr.wf (.pictureLaunch 512) = false ∧
    Instr.wf (.waitCut 16) = false ∧ Instr.wf (.scoutStop 4) = false ∧ Instr.wf (.fbDescCommit (.func 0) 8192 0) = false ∧
    Instr.wf (.planSendTimeout 64) = false ∧ Instr.wf (.haloDeadline 0 2) = false ∧ Instr.wf (.fuletLinkDown 2) = false ∧
    Instr.wf (.prbsCheckerLock 16 true 0) = false ∧ Instr.wf (.gateEntryChange 6) = false ∧ Instr.wf (.cellLinkError 0 16384 .link) = false ∧
    Instr.wf (.mcRefresh 16 50 false) = false ∧ Instr.wf (.arbFreezeWrite (.func 0) 8 0) = false ∧ Instr.wf (.dmaArm (.func 0) 64) = false ∧
    Instr.wf (.spdHandoverDone 64) = false ∧ Instr.wf (.windowCacheTestStart 20) = false ∧ Instr.wf (.bpAllocRead 4) = false ∧
    Instr.wf (.cxlLinkUp 5 3) = false ∧ Instr.wf (.msixUnmask 0 256) = false ∧ Instr.wf (.usqRoutineOverrun 6 []) = false ∧
    Instr.wf (.aonLeadRequest (.func 0) 2 0) = false ∧ Instr.wf (.cpxRelease 2) = false ∧ Instr.wf (.icMessageSend 256) = false ∧
    Instr.wf (.domainRestoreDone 24) = false ∧ Instr.wf (.droopCritExpiry 8) = false ∧ Instr.wf (.agingMeasure 34 0) = false ∧
    Instr.wf (.smbusRead 5) = false ∧ Instr.wf (.fuletLinkUp 0 5 true false false false 0) = false := by decide

/-! ### Worked examples of the manual -/

/-- The fuse words of a UZ-5408C (the example of R11). -/
theorem test_fuses_of_uz5408C : fuseReading { part := .uz5408C } = 0x0000000B000F3335 := by decide

/-- The LAUNCH_SET packet in the example after R82. -/
theorem test_launch_set_packet :
    parseCmd 12 [0x04000202, 0xA11C, 0x00030007, 0, 1000000, 0, 1000000, 15500000, 0, 0, 0, 0, 0, 0, 0, 0] none =
      { queue := 12, opcode := 0x0202, tag := 0xA11C, handle := 7, func := 3, atTick := true, tick := 1000000, slots := 1
        params := [1000000, 15500000, 0, 0, 0, 0, 0, 0, 0, 0] } := by decide

/-- TK_Q and TK_R of S-A (the example of R28). -/
theorem test_period_of_sa :
    Gives (.tickConfig { opcode := 0x0201, params := [1001, 60000] }) (State.reset.setFld CPLQ_CFG_EN 1 0)
      (fun t => t.regN .TK_Q = 16683333 ∧ t.regN .TK_R = 20000) := ⟨_, rfl, by decide⟩

/-- The histogram bins of MON3 (the example of R460). -/
theorem test_histogram_bins : histBin 0 17 10000000 11752000 = 14 ∧ histBin 0 17 10000000 15496000 = 42 := by decide

/-- The buffer of S-A in TILE10_422 (the example of R204). -/
theorem test_buffer_of_sa : minPitch 0x12 3840 = 38400 ∧ bufferSize 0x12 3840 2160 38400 false = 20742144 ∧
    bufferSize 0x12 3840 2160 38400 true = 21262336 := by decide

/-- The target of an inter and of a key picture of S-A (the example of R141). -/
theorem test_target_of_sa :
    State.encTarget ((State.reset.setFld TK_NUM_NUM 1001).setFld TK_DEN_DEN 60000) (List.replicate 10 0 ++ [0, 45000, 0, 1500, 25000, 0, 0, 0])
      { fill := 1000000 } false 0 = some 735125 ∧
    State.encTarget ((State.reset.setFld TK_NUM_NUM 1001).setFld TK_DEN_DEN 60000) (List.replicate 10 0 ++ [0, 45000, 0, 1500, 25000, 0, 0, 0])
      { fill := 1000000 } true 0 = some 2940500 := by decide

/-- HDM_SIZE of 12,224 MiB (the example of R375). -/
theorem test_hdm_size : ((State.reset.putN .MC_CAP (12224 * 2 ^ 20)).setFld MC_CFG_TRAINED 1).hdmSize = 12032 * 2 ^ 20 := by decide

/-- A dip of the rail of CL1 by 52 mV (the example of R449): EP4 to EP7 are slowed, and nothing is critical. -/
theorem test_droop_of_cl1 :
    Gives (.droopCrossing 1 52) State.reset (fun t =>
      t.flag ENC_EP_STS_SLOWED 4 = true ∧ t.flag ENC_EP_STS_SLOWED 7 = true ∧ t.flag ENC_EP_STS_SLOWED 8 = false ∧ t.pendBit 239 = false ∧
      t.flag DRP_STS_CRIT 1 = false) := ⟨_, rfl, by decide⟩

/-- No row of the opcode table gives bits, so no word spells a command. -/
theorem test_no_word_decodes : decodeTableWord 32 0x0202 = none := rfl

/-! ### States for the witnesses -/

/-- A small state or operand of the witnesses below. -/
def inRing : State := { State.reset.setFld RING_CFG_JOINED 1 with ring := { tlead := some 1 } }
/-- A small state or operand of the witnesses below. -/
def onPipe (x : Stream) : State :=
  { ((((State.reset.setFld TK_CTRL_EN 1).setFld TK_NUM_NUM 1).setFld TK_DEN_DEN 50).setFld SLT_BANK_ACT_COUNT 1 0).putN .SLT_ACT 0x8005 0 with streams := [(5, x)] }
/-- A class 0x05 record for pipe 0 with one next-bank entry that is off. -/
def slotRecord (s : State) : List Byte :=
  let old := s.objectRecord 5 0 0
  old.take 17 ++ [1] ++ old.drop 18
/-- A small state or operand of the witnesses below. -/
def decWords : List Nat := [64 + 64 * 65536, 0, 1000000, 15000000, 1, 2 + tiledCode 0 0 * 256, 0, 0, 4, 0] ++ List.replicate 16 0
/-- A small state or operand of the witnesses below. -/
def decOpen : State := { ((State.reset.putN .TK_Q 20000000).putN .MC_CAP (2 ^ 32)).putN .FB_ARENA_SIZE (2 ^ 32) with streams := [(5, { st := .opened, dec := true })] }
/-- A small state or operand of the witnesses below. -/
def decRes : Resv × State :=
  match (begun { opcode := 0x0301, slots := 2, handle := 5, params := decWords } decOpen).reserve 5 (decOpen.stream 5) (decWords.map (· % 2 ^ 32)) none with
  | .ok x => x
  | .error _ => ({}, decOpen)
/-- A small state or operand of the witnesses below. -/
def grid : State := ((((State.reset.setFld TK_CTRL_EN 1).setFld TK_NUM_NUM 1).setFld TK_DEN_DEN 50).putN .TK_Q 20000000)
/-- A small state or operand of the witnesses below. -/
def encReady : State :=
  { ((((grid.setFld SLT_BANK_ACT_COUNT 1 0).putN .SLT_ACT 0x8005 0).setFld FB_DESC_FMT_FORMAT 1 0).putN .FB_DESC_DIM 0x00400040 0) with
    streams := [(5, { st := .configured, l := 1000000, d := 9000000, words := [0x00400040, 0, 1000000, 9000000, 1] })] }
/-- A small state or operand of the witnesses below. -/
def decReady : State :=
  { (((grid.setFld SLT_BANK_ACT_COUNT 1 16).putN .SLT_ACT 0x8005 1024)) with
    streams := [(5, { st := .configured, dec := true, l := 1000000, d := 9000000, words := [0x00400040, 0, 1000000, 9000000, 1, 0, 0, 0, 0, 0x8800] })] }
/-- A small state or operand of the witnesses below. -/
def ringOfTwo : State := { ((State.reset.setFld RING_CFG_JOINED 1).setFld RING_CFG_SIZE 2) with ring := { tlead := some 1 } }
/-- A small state or operand of the witnesses below. -/
def ans (s : State) : State := (s.setFld CPLQ_CFG_EN 1 0).setFld CPLQ_BASE_LOC 1 0
/-- A small state or operand of the witnesses below. -/
def onPart (p : Part) : State := { State.reset with chip := { part := p }, regs := fuseRegs { part := p } }
/-- A small state or operand of the witnesses below. -/
def portUp : State := (List.range 4).foldl (fun s g => s.setFld LN_GRP_CFG_USE 1 g) State.reset
/-- A small state or operand of the witnesses below. -/
def secured : State :=
  { State.reset.setFld SEC_STS_STATE 2 with
    security := { slots := [(7, { cur := some { id := 7, bytes := [] }, loads := 1 }), (0xD00, { cur := some { id := 0xD00, bytes := [] }, loads := 1 })] } }
/-- A small state or operand of the witnesses below. -/
def onePatch : PatchImage := { encWords := some 4 }
/-- An encode picture on one pipe, with a column of four units and two bands. -/
def encPicture : EncPic :=
  { stream := 5, tick := 3, launched := true, dueRun := 1000000000, bands := [{}, {}], unitsLeft := 4, headersLeft := 2, buf := 9
    pipes := [{ pipe := 0, units := 4, cols := 4, waiting := true }] }
/-- `encPicture`, whose first band counts as late already. -/
def encLateBand : EncPic := { encPicture with bands := encPicture.bands.map fun b => { b with late := 1 } }

/-- A small state or operand of the witnesses below. -/
def encStarted : EncPic :=
  { encPicture with pipes := [{ pipe := 0, units := 4, cols := 4, started := 1, due := 17 }] }
/-- A small state or operand of the witnesses below. -/
def encPast : EncPic :=
  { encPicture with owed := [(0, 9)], pipes := [{ pipe := 0, units := 4, cols := 4, started := 1, past := 1 }] }
/-- A small state or operand of the witnesses below. -/
def encTwo : EncPic :=
  { encPicture with pipes := [{ pipe := 0, units := 4, cols := 4, started := 4, past := 4, handed := 4 },
                              { pipe := 1, units := 4, cols := 4, started := 4, past := 4, handed := 4 }] }
/-- A small state or operand of the witnesses below. -/
def encDone : EncPic :=
  { encPicture with released := 16, pipes := [{ pipe := 0, units := 4, cols := 4, started := 4, past := 4, handed := 4 }] }
/-- A small state or operand of the witnesses below. -/
def encRuns (q : EncPic) : State :=
  { grid with codec := { enc := [q] }
              streams := [(5, { st := .running, l := 1000000, d := 9000000, launched := true, words := [0x00400040, 0, 1000000, 9000000, 0x101] })] }
/-- A small state or operand of the witnesses below. -/
def decPicture : DecPic := { stream := 5, tick := 3, launched := true, dueRun := 1000000000, pipes := [{ pipe := 16, units := 0 }] }
/-- A small state or operand of the witnesses below. -/
def decParsed : DecPic :=
  { decPicture with parsed := true, blocks := 4, mapW := 2, order := [(16, [0, 1, 2, 3])], pipes := [{ pipe := 16, units := 4, due := 7 }] }
/-- A small state or operand of the witnesses below. -/
def decRuns (q : DecPic) : State :=
  { grid with codec := { dec := [q] }
              streams := [(5, { st := .running, dec := true, l := 1000000, d := 9000000, launched := true
                                words := [0x00400040, 0, 1000000, 9000000, 1, 2, 0, 0, 4, 0] })] }
/-- A small state or operand of the witnesses below. -/
def aPlan : PlanMsg := { rsid := 7, key := true, nextKey := false, carryVoid := false, digest := 0, cap := 1000, target := 500, finalSeen := 3, shares := [400, 400] }
/-- A small state or operand of the witnesses below. -/
def aPart : DataHdr := { rsid := 7, flags := 0, index := 0, offset := 0, total := 9, bytes := 9 }
/-- A small state or operand of the witnesses below. -/
def ringWords : List Nat :=
  [0x00400040, 0, 1000000, 9000000, 0x101] ++ List.replicate 5 0 ++ [1, 1000000, 1000000] ++ List.replicate 29 0 ++ [0x87, 0x00800040, 0] ++ List.replicate 13 0
/-- Position 0 of a ring of two, picture lead of RSID 7, with an encode ring stream. -/
def ringEnc : State :=
  { ((grid.setFld RING_CFG_JOINED 1).setFld RING_CFG_SIZE 2) with
    ring := { tlead := some 0, plead := [(7, 0)], rs := [(7, { pool := 30 })] }
    streams := [(5, { st := .running, l := 1000000, d := 9000000, words := ringWords, rate := { words := [1, 1000000, 1000000] } })] }
/-- A migration with the peer at position 1, of stream 5. -/
def moving (role step : Nat) : State :=
  { ringOfTwo with
    ring := { tlead := some 1, mig := [(5, { id := 9, role := role, step := step, peer := 1, heard := true })] }
    streams := [(5, { st := .migrating, l := 1000000, d := 9000000, words := [0x00400040, 0, 1000000, 9000000, 1], res := { base := 0, regions := [64, 64] } })] }
/-- Lane 2, of group 0, under test with its checker enabled. -/
def laneTest : State := (State.reset.setFld LN_GRP_CFG_USE 3 0).setFld LN_PRBS_CFG_RX_EN 1 2
/-- An ingest flow and a packet that matches it. -/
def anIngest : Flow := { live := true, words := [0, 0, 0, 5000 * 65536] }
/-- A small state or operand of the witnesses below. -/
def aPacket : RxPkt := { dst := 0, dport := 5000, seq := 1, ts := 0 }
/-- A frame of 1,000 bytes of flow 3, and port 0 up with that flow and a stream that feeds it. -/
def aFrame : Frame := { queue := 3, bytes := 1000 }
/-- A small state or operand of the witnesses below. -/
def sending : State :=
  { ((portUp.setFld ETH_STS_LINK 1 0).setFld ETH_CFG_MODE 2 0).setFld CELLQ_Q_LIMIT_LIMIT 100 3 with
    flows := [(3, { live := true, words := [0] })]
    streams := [(5, { st := .running, words := List.replicate 7 0 ++ [0x8003], unsent := [(0, 900)], pkts := [900, 7] })] }
/-- Channel 0 of the memory is trained; a granted write of requester 3. -/
def trained : State := (State.reset.putN .MC_CAP (2 ^ 32)).setFld MC_CH_STS_STATE 2 0
/-- A small state or operand of the witnesses below. -/
def aWrite : MemReq := { src := 3, sc := 1, addr := 0, bytes := 4, data := some [1, 2, 3, 4] }
/-- Channel 3 copies 4 bytes from address 0 to address 256 of device memory; `w` is added to word 5 of its descriptor. -/
def copying (w : Nat) : State :=
  { (((((((State.reset.putN .MC_CAP (2 ^ 32)).setFld DMA_CH_CTL_EN 1 3).setFld DMA_CH_CTL_ARM 1 3).setFld DMA_STS_BUSY 1 3).putN .DMA_ACT 256 50).putN
      .DMA_ACT 4 52).putN .DMA_ACT w 53) with mem := [(0, 7), (2, 9)] }
/-- Bank 2 belongs to the first encode cluster, with rotation. -/
def banked : State := (State.reset.setFld SPD_BANK_OWN_OWNER 1 2).setFld SPD_BANK_CFG_ROTATE 1 2
/-- Pool 1 has 4 buffers, of which buffer 0 is in use. -/
def pooled : State :=
  { ((State.reset.putN .MC_CAP (2 ^ 32)).putN .BP_CFG (4 + 2 ^ 18) 1).setFld BP_STS_IN_USE 1 1 with bpTaken := [(131072, true)] }
/-- The link is up and a decoder of 256 MiB at 256 MiB is committed. -/
def hosted (s : State) : State := { s with cxl := { linkUp := true, hdm := { committed := true, base := 2 ^ 28, size := 2 ^ 28, ways := 1, gran := 256 } } }
/-- A small state or operand of the witnesses below. -/
def trainedAll : State := (State.reset.putN .MC_CAP (2 ^ 32)).setFld MC_CFG_TRAINED 1
/-- Source 92 is pending and routed to vector 9 of PF0, or to the first command processor. -/
def raised : State := ((State.reset.putN .IC_SRC_CFG 0x905 92).putN .TB_EVT 1).raise 92
/-- A small state or operand of the witnesses below. -/
def raisedCpx : State := ((State.reset.putN .IC_SRC_CFG 0x15 92).putN .TB_EVT 1).raise 92

/-! ### Hypotheses that are met -/

/-- A state and operands that meet the hypotheses of `StepRunsFrontCommand`. -/
theorem test_hyps_StepRunsFrontCommand :
    ({ State.reset with pending := [Instr.tickFire] } : State).pending = Instr.tickFire :: [] := rfl

/-- A state and operands that meet the hypotheses of `EmptyQueueIsOneEdge`. -/
theorem test_hyps_EmptyQueueIsOneEdge :
    let s := State.reset.setFld PM_DOM_STS_STATE 2 15
    s.pending = [] ∧ s.power.entry = none ∧ s.domOn 15 = true ∧ s.reg .TB_ADJ_RATE = 0 ∧ s.tb.frac < 2 ^ 48 * 1000000000 := by decide

/-- A state and operands that meet the hypotheses of `StepKeepsOutputs`. -/
theorem test_hyps_StepKeepsOutputs :
    let s : State := { State.reset with pending := [.hostSnoop 3] }
    s.outputsFollow = true ∧ step s = .next (settle State.reset) := ⟨by decide, rfl⟩

/-- States and operands that meet the hypotheses of each clause of `ServoWritesMoveLockState`. -/
theorem test_hyps_ServoWritesMoveLockState :
    (let a : Agent := .func 0
     let v : Word := 5
     let s : State := State.reset.setFld TB_CTRL_SERVO_HOST 1
     (s.actsAsPf0 a = true) ∧ (s.servoOwner a = true) ∧ (s.fld TB_CTRL_SRC = 0)) ∧
    (let a : Agent := .func 0
     let v : Word := 0xFFFFFFCE
     let s : State := { (State.reset.setFld TB_CTRL_SERVO_HOST 1).setFld TB_CTRL_SRC 1 with tb := { servoTimer := true, within := 7 } }
     (s.actsAsPf0 a = true) ∧ (s.servoOwner a = true) ∧ (s.fld TB_CTRL_SRC ≠ 0)) ∧
    (let a : Agent := .cpx 0
     let v : Word := 51
     let s : State := (State.reset.setFld TB_CTRL_SRC 1).setFld TB_STATUS_HOLDOVER 1
     (s.actsAsPf0 a = true) ∧ (s.servoOwner a = true) ∧ (s.fld TB_CTRL_SRC ≠ 0)) ∧
    (let f : Nat := 1
     let v : Word := 5
     let s : State := State.reset.setFld TB_CTRL_SERVO_HOST 1
     (s.servoOwner (.func f) = false)) ∧
    (let s : State := { (State.reset.setFld TB_CTRL_SRC 1).setFld TB_STATUS_LOCKED 1 with tb := { servoTimer := true } }
     (s.tb.servoTimer = true) ∧ (s.fld TB_CTRL_SRC ≠ 0)) ∧
    (let a : Agent := .func 0
     let v : Word := 0xFFFFFFF2
     let s : State := (State.reset.setFld TB_CTRL_SRC 1).setFld TB_STATUS_LOCKED 1
     (s.actsAsPf0 a = true)) ∧
    (let f : Nat := 1
     let v : Word := 2
     let s : State := State.reset
     (f ≠ 0)) :=
  ⟨by decide, by decide, by decide, by decide, by decide, by decide, by decide⟩

/-- States and operands that meet the hypotheses of each clause of `TimeStepsOnlyAsAsked`. -/
theorem test_hyps_TimeStepsOnlyAsAsked :
    (let a : Agent := .func 0
     let v : Word := 0xFFFFFF9C
     let s : State := { State.reset.setFld TB_CTRL_SERVO_HOST 1 with tb := { ns := 5000 } }
     (s.actsAsPf0 a = true) ∧ (s.servoOwner a = true) ∧ ((signed 32 v.toNat).natAbs ≤ 999999999) ∧ (s.flag TK_CTRL_EN = false ∨ signed 32 v.toNat ≤ 1000)) ∧
    (let a : Agent := .func 0
     let v : Word := 999999999
     let s : State := State.reset.setFld TB_CTRL_SERVO_HOST 1
     (s.actsAsPf0 a = true) ∧ (s.servoOwner a = true) ∧ ((signed 32 v.toNat).natAbs ≤ 999999999) ∧ (s.flag TK_CTRL_EN = false ∨ signed 32 v.toNat ≤ 1000)) ∧
    (let a : Agent := .func 0
     let v : Word := 100000000
     let m : Nat := 5
     let s : State := { ((State.reset.setFld TB_CTRL_SERVO_HOST 1).setFld TK_CTRL_EN 1).setFld TK_NUM_NUM 1 |>.setFld TK_DEN_DEN 50 with tb := { ns := 7 } }
     (s.actsAsPf0 a = true) ∧ (s.servoOwner a = true) ∧ (1000 < signed 32 v.toNat) ∧ (signed 32 v.toNat ≤ 999999999) ∧ (s.flag TK_CTRL_EN = true) ∧ (s.codec.enc = []) ∧ (s.codec.dec = []) ∧ (0 < s.fld TK_DEN_DEN) ∧ (0 < s.fld TK_NUM_NUM) ∧ (s.tickTime m ≤ s.tb.ns + (signed 32 v.toNat).toNat) ∧ (s.tb.ns + (signed 32 v.toNat).toNat < s.tickTime (m + 1)) ∧ (s.tickIndex < m) ∧ (m < 2 ^ 63)) ∧
    (let a : Agent := .func 0
     let v : Word := 1000000000
     let s : State := State.reset.setFld TB_CTRL_SERVO_HOST 1
     (999999999 < (signed 32 v.toNat).natAbs ∨ s.servoOwner a = false)) ∧
    (let a : Agent := .func 0
     let v : Word := 5
     let s : State := State.reset
     (999999999 < (signed 32 v.toNat).natAbs ∨ s.servoOwner a = false)) ∧
    (let c : Cmd := { opcode := 0x0200, slots := 1, params := [7, 0, 999999999] }
     let s : State := State.reset
     (Ready c s = true) ∧ (c.p 2 < 1000000000) ∧ (s.flag TK_CTRL_EN = false)) ∧
    (let c : Cmd := { opcode := 0x0200, slots := 1, params := [7, 0, 1000000000] }
     let s : State := State.reset
     (Ready c s = true) ∧ (1000000000 ≤ c.p 2)) ∧
    (let s : State := State.reset
     (s.flag TB_STATUS_CLK_ALT = false)) ∧
    (let s : State := (State.reset.setFld TB_STATUS_CLK_ALT 1).setFld TK_CTRL_EN 1
     (s.flag TB_STATUS_CLK_ALT = true) ∧ (s.flag TK_CTRL_EN = true)) ∧
    (let s : State := { State.reset.setFld TB_STATUS_CLK_ALT 1 with tb := { ns := 1 } }
     (s.flag TB_STATUS_CLK_ALT = true) ∧ (s.flag TK_CTRL_EN = false)) ∧
    (let n : Nat := 3
     let s : State := State.reset.setFld PM_STATE_STATE 3
     (s.fld PM_STATE_STATE = 3) ∧ (s.tb.onRc = false)) ∧
    (let n : Nat := 3
     let s : State := { State.reset.setFld PM_STATE_STATE 3 with tb := { onRc := true } }
     (s.fld PM_STATE_STATE = 3) ∧ (s.tb.onRc = true)) :=
  ⟨by decide, by decide, by decide, by decide, by decide, by decide, by decide, by decide, by decide, by decide, by decide, by decide⟩

/-- States and operands that meet the hypotheses of each clause of `TickConfigStartsTheGrid`. -/
theorem test_hyps_TickConfigStartsTheGrid :
    (let c : Cmd := { opcode := 0x0201, slots := 1, params := [1001, 60000] }
     let s : State := State.reset
     (Ready c s = true) ∧ (s.flag TK_CTRL_EN = false) ∧ (0 < c.p 0) ∧ (0 < c.p 1) ∧ (c.p 0 ≤ 1048575) ∧ (c.p 1 ≤ 1048575) ∧ (c.p 1 ≤ 240 * c.p 0) ∧ (c.p 0 ≤ c.p 1) ∧ (s.tb.ns < 2 ^ 62)) ∧
    (let c : Cmd := { opcode := 0x0201, slots := 1, params := [1, 240] }
     let s : State := { State.reset with tb := { ns := 99000000 } }
     (Ready c s = true) ∧ (s.flag TK_CTRL_EN = false) ∧ (0 < c.p 0) ∧ (0 < c.p 1) ∧ (c.p 0 ≤ 1048575) ∧ (c.p 1 ≤ 1048575) ∧ (c.p 1 ≤ 240 * c.p 0) ∧ (c.p 0 ≤ c.p 1) ∧ (s.tb.ns < 2 ^ 62)) ∧
    (let c : Cmd := { opcode := 0x0201, slots := 1, params := [1, 1] }
     let s : State := State.reset
     (Ready c s = true) ∧ (s.flag TK_CTRL_EN = false) ∧ (0 < c.p 0) ∧ (0 < c.p 1) ∧ (c.p 0 ≤ 1048575) ∧ (c.p 1 ≤ 1048575) ∧ (c.p 1 ≤ 240 * c.p 0) ∧ (c.p 0 ≤ c.p 1) ∧ (s.tb.ns < 2 ^ 62)) ∧
    (let c : Cmd := { opcode := 0x0201, slots := 1, params := [1048576, 1048575] }
     let s : State := State.reset
     (Ready c s = true) ∧ (s.flag TK_CTRL_EN = false) ∧ (c.p 0 = 0 ∨ c.p 1 = 0 ∨ 1048575 < c.p 0 ∨ 1048575 < c.p 1)) ∧
    (let c : Cmd := { opcode := 0x0201, slots := 1, params := [1, 241] }
     let s : State := State.reset
     (Ready c s = true) ∧ (s.flag TK_CTRL_EN = false) ∧ (0 < c.p 0) ∧ (0 < c.p 1) ∧ (c.p 0 ≤ 1048575) ∧ (c.p 1 ≤ 1048575) ∧ (240 * c.p 0 < c.p 1 ∨ c.p 1 < c.p 0)) :=
  ⟨by decide, by decide, by decide, by decide, by decide⟩

/-- States and operands that meet the hypotheses of each clause of `TickStepsTheIndex`. -/
theorem test_hyps_TickStepsTheIndex :
    (let s : State := { (((State.reset.setFld PM_DOM_STS_STATE 2 15).setFld TK_CTRL_EN 1).setFld TK_NUM_NUM 1001).setFld TK_DEN_DEN 60000 with resets := { due := none } }
     (s.flag TK_CTRL_EN = true) ∧ (s.domOn 15 = true) ∧ (0 < s.fld TK_DEN_DEN) ∧ (s.tickIndex < 2 ^ 32) ∧ (s.inReset = false)) ∧
    (let s : State := { (((State.reset.setFld PM_DOM_STS_STATE 2 15).setFld TK_CTRL_EN 1).setFld TK_NUM_NUM 1001).setFld TK_DEN_DEN 60000 with resets := { due := some 3 } }
     (s.flag TK_CTRL_EN = true) ∧ (s.domOn 15 = true) ∧ (0 < s.fld TK_DEN_DEN) ∧ (s.tickIndex < 2 ^ 32) ∧ (s.inReset = true)) ∧
    (let s : State := State.reset
     (s.flag TK_CTRL_EN = false ∨ s.domOn 15 = false)) :=
  ⟨by decide, by decide, by decide⟩

/-- States and operands that meet the hypotheses of each clause of `TickOutAndPpsPulse`. -/
theorem test_hyps_TickOutAndPpsPulse :
    (let s : State := (((State.reset.setFld TK_CTRL_EN 1).setFld TK_OUT_CFG_EN 1).setFld TK_NUM_NUM 1).setFld TK_DEN_DEN 50
     (s.flag TK_CTRL_EN = true) ∧ (s.flag TK_OUT_CFG_EN = true) ∧ (s.tb.tickOutAt = none)) ∧
    (let at_ : Nat := 5
     let s : State := { State.reset.putN .TK_Q 20000000 with tb := { tickOutAt := some 5, run := 5, ns := 5 } }
     (s.tb.tickOutAt = some at_)) ∧
    (let s : State := { State.reset.setFld TB_PPS_OUT_CFG_EN 1 with tb := { ns := 1 } }
     (s.flag TB_PPS_OUT_CFG_EN = true) ∧ (s.tb.ppsOutAt = none)) ∧
    (let at_ : Nat := 5
     let s : State := { State.reset with tb := { ppsOutAt := some 5 } }
     (s.tb.ppsOutAt = some at_)) ∧
    (let s : State := { State.reset with tb := { ns := 5999999999, run := 3 } }
     (s.tb.ppsAt.all (fun x => decide (x + 100000000 ≤ s.tb.run)) = true) ∧ (s.tb.ns / 1000000000 < 2 ^ 48)) ∧
    (let at_ : Nat := 3
     let s : State := { State.reset with tb := { ppsAt := some 3, run := 100000002 } }
     (s.tb.ppsAt = some at_) ∧ (s.tb.run < at_ + 100000000)) :=
  ⟨by decide, by decide, by decide, by decide, by decide, by decide⟩

/-- States and operands that meet the hypotheses of each clause of `DoorbellsMoveTheRings`. -/
theorem test_hyps_DoorbellsMoveTheRings :
    (let f : Nat := 0
     let q : Nat := 63
     let v : Word := 15
     let s : State := (State.reset.setFld CMDQ_CFG_EN 1 63).setFld CMDQ_STS_ACTIVE 1 63
     (q < 64) ∧ (s.fld CMDQ_OWNER_FUNC q = f) ∧ (s.flag CMDQ_CFG_EN q = true) ∧ (s.flag CMDQ_STS_ACTIVE q = true) ∧ (v.toNat % 4096 < ringDepth (s.fld CMDQ_CFG_LOG2_DEPTH q)) ∧ (s.slotsPending q + (v.toNat % 4096 + ringDepth (s.fld CMDQ_CFG_LOG2_DEPTH q) - s.fld CMDQ_TAIL_TAIL q) %
       ringDepth (s.fld CMDQ_CFG_LOG2_DEPTH q) ≤ ringDepth (s.fld CMDQ_CFG_LOG2_DEPTH q) - 1)) ∧
    (let f : Nat := 0
     let q : Nat := 63
     let v : Word := 16
     let s : State := (State.reset.setFld CMDQ_CFG_EN 1 63).setFld CMDQ_STS_ACTIVE 1 63
     (q < 64) ∧ (s.fld CMDQ_OWNER_FUNC q = f) ∧ (s.flag CMDQ_CFG_EN q = true) ∧ (s.flag CMDQ_STS_ACTIVE q = true) ∧ (ringDepth (s.fld CMDQ_CFG_LOG2_DEPTH q) ≤ v.toNat % 4096 ∨ ringDepth (s.fld CMDQ_CFG_LOG2_DEPTH q) - 1 <
       s.slotsPending q + (v.toNat % 4096 + ringDepth (s.fld CMDQ_CFG_LOG2_DEPTH q) - s.fld CMDQ_TAIL_TAIL q) %
         ringDepth (s.fld CMDQ_CFG_LOG2_DEPTH q))) ∧
    (let f : Nat := 0
     let q : Nat := 0
     let v : Word := 2
     let s : State := ((State.reset.setFld CMDQ_CFG_EN 1 0).setFld CMDQ_STS_ACTIVE 1 0).setFld CMDQ_TAIL_TAIL 3 0
     (q < 64) ∧ (s.fld CMDQ_OWNER_FUNC q = f) ∧ (s.flag CMDQ_CFG_EN q = true) ∧ (s.flag CMDQ_STS_ACTIVE q = true) ∧ (ringDepth (s.fld CMDQ_CFG_LOG2_DEPTH q) ≤ v.toNat % 4096 ∨ ringDepth (s.fld CMDQ_CFG_LOG2_DEPTH q) - 1 <
       s.slotsPending q + (v.toNat % 4096 + ringDepth (s.fld CMDQ_CFG_LOG2_DEPTH q) - s.fld CMDQ_TAIL_TAIL q) %
         ringDepth (s.fld CMDQ_CFG_LOG2_DEPTH q))) ∧
    (let f : Nat := 1
     let q : Nat := 0
     let v : Word := 2
     let s : State := State.reset
     (s.fld CMDQ_OWNER_FUNC q ≠ f)) ∧
    (let f : Nat := 0
     let q : Nat := 63
     let v : Word := 2
     let s : State := (State.reset.setFld CPLQ_CFG_EN 1 63).setFld CPLQ_TAIL_TAIL 2 63
     (q < 64) ∧ (s.fld CPLQ_OWNER_FUNC q = f) ∧ (s.flag CPLQ_CFG_EN q = true) ∧ (v.toNat % 4096 < ringDepth (s.fld CPLQ_CFG_LOG2_DEPTH q)) ∧ ((v.toNat % 4096 + ringDepth (s.fld CPLQ_CFG_LOG2_DEPTH q) - s.fld CPLQ_HEAD_HEAD q % ringDepth (s.fld CPLQ_CFG_LOG2_DEPTH q)) %
       ringDepth (s.fld CPLQ_CFG_LOG2_DEPTH q) ≤ s.unreturned q)) ∧
    (let f : Nat := 0
     let q : Nat := 63
     let v : Word := 3
     let s : State := (State.reset.setFld CPLQ_CFG_EN 1 63).setFld CPLQ_TAIL_TAIL 2 63
     (q < 64) ∧ (s.fld CPLQ_OWNER_FUNC q = f) ∧ (s.flag CPLQ_CFG_EN q = true) ∧ (ringDepth (s.fld CPLQ_CFG_LOG2_DEPTH q) ≤ v.toNat % 4096 ∨ s.unreturned q < (v.toNat % 4096 + ringDepth (s.fld CPLQ_CFG_LOG2_DEPTH q) -
       s.fld CPLQ_HEAD_HEAD q % ringDepth (s.fld CPLQ_CFG_LOG2_DEPTH q)) % ringDepth (s.fld CPLQ_CFG_LOG2_DEPTH q))) ∧
    (let f : Nat := 0
     let q : Nat := 0
     let v : Word := 16
     let s : State := State.reset.setFld CPLQ_CFG_EN 1 0
     (q < 64) ∧ (s.fld CPLQ_OWNER_FUNC q = f) ∧ (s.flag CPLQ_CFG_EN q = true) ∧ (ringDepth (s.fld CPLQ_CFG_LOG2_DEPTH q) ≤ v.toNat % 4096 ∨ s.unreturned q < (v.toNat % 4096 + ringDepth (s.fld CPLQ_CFG_LOG2_DEPTH q) -
       s.fld CPLQ_HEAD_HEAD q % ringDepth (s.fld CPLQ_CFG_LOG2_DEPTH q)) % ringDepth (s.fld CPLQ_CFG_LOG2_DEPTH q))) ∧
    (let f : Nat := 1
     let q : Nat := 0
     let v : Word := 2
     let s : State := State.reset
     (s.fld CPLQ_OWNER_FUNC q ≠ f)) :=
  ⟨by decide, by decide, by decide, by decide, by decide, by decide, by decide, by decide⟩

/-- States and operands that meet the hypotheses of each clause of `QueuesAreEnabledAndOwned`. -/
theorem test_hyps_QueuesAreEnabledAndOwned :
    (let a : Agent := .func 0
     let q : Nat := 63
     let v : Word := 32
     let s : State := State.reset
     (s.actsAsPf0 a = true) ∧ (q < 64) ∧ (s.flag CPLQ_CFG_EN q = false) ∧ (v.toNat % 64 ≠ s.fld CPLQ_OWNER_FUNC q) ∧ (v.toNat % 64 ≤ 32)) ∧
    (let a : Agent := .cpx 0
     let q : Nat := 63
     let v : Word := 0
     let s : State := State.reset.setFld CPLQ_OWNER_FUNC 5 63
     (s.actsAsPf0 a = true) ∧ (q < 64) ∧ (s.flag CPLQ_CFG_EN q = false) ∧ (v.toNat % 64 ≠ s.fld CPLQ_OWNER_FUNC q) ∧ (v.toNat % 64 ≤ 32)) ∧
    (let f : Nat := 32
     let q : Nat := 63
     let v : Word := 0x8000000C
     let s : State := State.reset.setFld CPLQ_OWNER_FUNC 32 63
     (q < 64) ∧ (f ≤ 32) ∧ (s.fld CPLQ_OWNER_FUNC q = f) ∧ (s.flag CPLQ_CFG_EN q = false) ∧ (v.toNat / 2 ^ 31 = 1)) ∧
    (let f : Nat := 0
     let q : Nat := 63
     let v : Word := 0x8000F3FC
     let s : State := State.reset.setFld CPLQ_CFG_EN 1 63
     (q < 64) ∧ (f ≤ 32) ∧ (s.fld CMDQ_OWNER_FUNC q = f) ∧ (s.flag CMDQ_CFG_EN q = false) ∧ (v.toNat / 2 ^ 31 = 1) ∧ (s.flag CPLQ_CFG_EN (v.toNat / 16 % 64) = true) ∧ (s.fld CPLQ_OWNER_FUNC (v.toNat / 16 % 64) = f)) ∧
    (let f : Nat := 0
     let q : Nat := 63
     let v : Word := 0x8000F3FC
     let s : State := State.reset
     (q < 64) ∧ (s.fld CMDQ_OWNER_FUNC q = f) ∧ (s.flag CMDQ_CFG_EN q = false) ∧ (v.toNat / 2 ^ 31 = 1) ∧ (s.flag CPLQ_CFG_EN (v.toNat / 16 % 64) = false ∨ s.fld CPLQ_OWNER_FUNC (v.toNat / 16 % 64) ≠ f ∨ 32 < f)) ∧
    (let f : Nat := 0
     let q : Nat := 63
     let v : Word := 0
     let s : State := { State.reset.setFld CMDQ_CFG_EN 1 63 with cmd := { outstanding := [{ cmd := { queue := 63 } }] } }
     (q < 64) ∧ (s.fld CMDQ_OWNER_FUNC q = f) ∧ (s.flag CMDQ_CFG_EN q = true) ∧ (v.toNat < 2 ^ 31)) ∧
    (let f : Nat := 0
     let q : Nat := 63
     let v : Word := 0
     let s : State := { ((State.reset.setFld CMDQ_CFG_EN 1 63).setFld CPLQ_CFG_EN 1 0).setFld CPLQ_BASE_LOC 1 0 with cmd := { outstanding := [{ cmd := { queue := 63, tag := 1 } }, { cmd := { queue := 63, tag := 2 }, stage := .started, result := some (0, 0, 7) }] } }
     (q < 64) ∧ (s.fld CMDQ_OWNER_FUNC q = f) ∧ (s.flag CMDQ_CFG_EN q = true) ∧ (v.toNat < 2 ^ 31)) ∧
    (let f : Nat := 0
     let q : Nat := 63
     let v : Word := 0
     let s : State := (State.reset.setFld CPLQ_CFG_EN 1 63).setFld CPLQ_TAIL_TAIL 4 63
     (q < 64) ∧ (s.fld CPLQ_OWNER_FUNC q = f) ∧ (s.flag CPLQ_CFG_EN q = true) ∧ (v.toNat < 2 ^ 31) ∧ ((List.range 64).all (fun k => !(s.flag CMDQ_CFG_EN k && s.fld CMDQ_CFG_CPLQ k == q)) = true) ∧ (s.heldFor q = [])) :=
  ⟨by decide, by decide, by decide, by decide, by decide, by decide, by decide, by decide⟩

/-- States and operands that meet the hypotheses of each clause of `FetchTakesTheNextCommand`. -/
theorem test_hyps_FetchTakesTheNextCommand :
    (let q : Nat := 0
     let ws : List Nat := [0x00000100]
     let s : State := { (((State.reset.setFld CMDQ_CFG_EN 1 0).setFld CMDQ_STS_ACTIVE 1 0).setFld CMDQ_TAIL_TAIL 1 0).setFld CPX_STS_RUNNING 1 0 with cxl := { linkUp := true } }
     (s.fetches = true) ∧ (s.pickQueue = some q) ∧ (q < 64) ∧ (s.flag CMDQ_BASE_LOC q = false) ∧ (s.cxl.linkUp = true) ∧ (natField (word ws 0) 16 4 + 1 ≤ s.slotsPending q) ∧ ((headerError (parseCmd q ws none) (s.enlist (parseCmd q ws none))).isNone = true) ∧ (s.entryOf (parseCmd q ws none) = none)) ∧
    (let q : Nat := 0
     let s : State := { (((State.reset.setFld CMDQ_CFG_EN 1 0).setFld CMDQ_STS_ACTIVE 1 0).setFld CMDQ_TAIL_TAIL 1 0).setFld CPX_STS_RUNNING 1 0 with cxl := { linkUp := true } }
     (s.fetches = true) ∧ (s.pickQueue = some q) ∧ (q < 64) ∧ (s.flag CMDQ_BASE_LOC q = false) ∧ (s.cxl.linkUp = true)) ∧
    (let w : Option (List Nat) := none
     let s : State := State.reset
     (s.fetches = false ∨ s.pickQueue = none)) :=
  ⟨by decide, by decide, by decide⟩

/-- States and operands that meet the hypotheses of each clause of `RepliesReachTheRing`. -/
theorem test_hyps_RepliesReachTheRing :
    (let c : Cmd := { opcode := 0x0100, tag := 7 }
     let n : Nat := 0
     let s : State := ((State.reset.setFld CPLQ_CFG_EN 1 0).setFld CPLQ_BASE_LOC 1 0).setFld CPLQ_TAIL_TAIL 15 0 |>.setFld CPLQ_HEAD_HEAD 14 0
     (Ready c s = true) ∧ (s.fld CMDQ_CFG_CPLQ c.queue = n) ∧ (ReplyGoesOut c s = true) ∧ (s.flag CPLQ_BASE_LOC n = true) ∧ (c.readback = false) ∧ (c.atTick = false) ∧ (s.entryOf c = none)) ∧
    (let q : Nat := 63
     let r : Reply := { queue := 0, cplq := 63, tag := 9, opcode := 1, status := 0, detail := 0, cplTick := 0, cplOfs := 0, word := 0 }
     let rest : List Reply := []
     let s : State := { (State.reset.setFld CPLQ_CFG_EN 1 63).setFld CPLQ_BASE_LOC 1 63 with cmd := { heldReplies := [{ queue := 0, cplq := 63, tag := 9, opcode := 1, status := 0, detail := 0, cplTick := 0, cplOfs := 0, word := 0 }] } }
     (s.heldFor q = r :: rest) ∧ (q < 64) ∧ (s.cplqRoom q = true) ∧ (s.flag CPLQ_CFG_EN q = true)) ∧
    (let q : Nat := 63
     let s : State := { (State.reset.setFld CPLQ_CFG_EN 1 63).setFld CPLQ_BASE_LOC 1 63 with cmd := { heldReplies := [{ queue := 0, cplq := 63, tag := 9, opcode := 1, status := 0, detail := 0, cplTick := 0, cplOfs := 0, word := 0 }] } }
     (s.heldFor q ≠ []) ∧ (q < 64) ∧ (s.cplqRoom q = true) ∧ (s.flag CPLQ_CFG_EN q = true)) :=
  ⟨by decide, by decide, by decide⟩

/-- States and operands that meet the hypotheses of each clause of `BeaconsKeepMembersInTime`. -/
theorem test_hyps_BeaconsKeepMembersInTime :
    (let m : RingHdr := { link := 0, src := 1, epoch := 0, tick := 0 }
     let b : BeaconMsg := { hops := 0, num := 1, den := 50 }
     let s : State := State.reset
     (s.isTickLead = true ∨ s.joined = false)) ∧
    (let m : RingHdr := { link := 0, src := 1, epoch := 0, tick := 0 }
     let b : BeaconMsg := { hops := 0, num := 1, den := 50 }
     let s : State := (inRing.setFld TK_NUM_NUM 1).setFld TK_DEN_DEN 50
     (s.joined = true) ∧ (s.isTickLead = false) ∧ (m.epoch = s.epochAt m.tick) ∧ (b.num = s.fld TK_NUM_NUM) ∧ (b.den = s.fld TK_DEN_DEN) ∧ (s.fld TB_CTRL_SRC ≠ 3)) ∧
    (let m : RingHdr := { link := 0, src := 1, epoch := 0, tick := 0 }
     let b : BeaconMsg := { hops := 0, num := 1, den := 50 }
     let s : State := inRing
     (s.joined = true) ∧ (s.isTickLead = false) ∧ (m.epoch = s.epochAt m.tick) ∧ (b.num ≠ s.fld TK_NUM_NUM ∨ b.den ≠ s.fld TK_DEN_DEN)) ∧
    (let s : State := { inRing.setFld TB_STATUS_BEACON_OK 1 with tb := { beaconGap := 3 } }
     (s.joined = true) ∧ (s.isTickLead = false) ∧ (3 ≤ s.tb.beaconGap) ∧ (s.flag TB_STATUS_BEACON_OK = true)) ∧
    (let s : State := { inRing.setFld TB_STATUS_BEACON_OK 1 with tb := { beaconGap := 2 } }
     (s.joined = false ∨ s.isTickLead = true ∨ s.tb.beaconGap < 3)) :=
  ⟨by decide, by decide, by decide, by decide, by decide⟩

/-- States and operands that meet the hypotheses of each clause of `LeadIsComparedWithoutGrid`. -/
theorem test_hyps_LeadIsComparedWithoutGrid :
    (let s : State := State.reset
     (s.flag TK_CTRL_EN = false)) ∧
    (let h : Nat := 1
     let s : State := ((State.reset.setFld CPX_STS_RUNNING 1 1).setFld CPX_BELIEF_OWNER 1 1).setFld PM_STATE_STATE 1
     (s.flag TK_CTRL_EN = false) ∧ (h < 2) ∧ (s.fld PM_STATE_STATE < 2) ∧ (s.flag CPX_STS_RUNNING h = true) ∧ (s.flag CPX_STS_HALTED h = false) ∧ (s.flag CPX_STS_FENCED h = false) ∧ (s.fld CPX_BELIEF_OWNER h ≠ s.fld AON_LEAD_OWNER) ∧ (s.ctl.oldLead = none)) ∧
    (let h : Nat := 0
     let s : State := (State.reset.setFld CPX_STS_RUNNING 1 0).setFld CPX_BELIEF_EPOCH 1 0 |>.setFld AON_LEAD_EPOCH 1
     (s.flag TK_CTRL_EN = false) ∧ (h < 2) ∧ (s.flag CPX_STS_FENCED h = false) ∧ (s.fld CPX_BELIEF_OWNER h = s.fld AON_LEAD_OWNER) ∧ (s.fld CPX_BELIEF_EPOCH h = s.fld AON_LEAD_EPOCH)) ∧
    (let s : State := State.reset.setFld TK_CTRL_EN 1
     (s.flag TK_CTRL_EN = true)) :=
  ⟨by decide, by decide, by decide, by decide⟩

/-- States and operands that meet the hypotheses of each clause of `LaunchSetStagesTheWindow`. -/
theorem test_hyps_LaunchSetStagesTheWindow :
    (let c : Cmd := { opcode := 0x0202, handle := 5, params := [7, 20000000] }
     let s : State := { State.reset.putN .TK_Q 20000000 with streams := [(5, { st := .configured, l := 3, d := 19999999, ldNext := [(1, 2, 1)] })] }
     (Ready c s = true) ∧ (c.atTick = false) ∧ (s.streamError c none = none) ∧ (s.clashes c.handle (c.p 0, c.p 1) = false) ∧ (c.p 0 < c.p 1) ∧ (c.p 1 ≤ s.regN .TK_Q) ∧ ((s.stream c.handle).floorTime ≤ c.p 1 - c.p 0)) ∧
    (let c : Cmd := { opcode := 0x0202, handle := 5, params := [7, 20000000] }
     let s : State := { (((State.reset.putN .TK_Q 20000000).setFld SLT_BANK_ACT_COUNT 2 0).putN .SLT_ACT 0x8005 0).putN .SLT_ACT 0x8006 1 with streams := [(5, { st := .configured }), (6, { st := .running, l := 6, d := 8 })] }
     (Ready c s = true) ∧ (c.atTick = false) ∧ (s.streamError c none = none) ∧ (s.clashes c.handle (c.p 0, c.p 1) = true)) ∧
    (let c : Cmd := { opcode := 0x0202, handle := 5, params := [7, 7] }
     let s : State := { State.reset.putN .TK_Q 20000000 with streams := [(5, { st := .configured })] }
     (Ready c s = true) ∧ (c.atTick = false) ∧ (s.streamError c none = none) ∧ (s.clashes c.handle (c.p 0, c.p 1) = false) ∧ (c.p 1 ≤ c.p 0)) :=
  ⟨by decide, by decide, by decide⟩

/-- States and operands that meet the hypotheses of each clause of `LaunchesComeAtTheirInstant`. -/
theorem test_hyps_LaunchesComeAtTheirInstant :
    (let h : Nat := 5
     let s : State := onPipe { st := .configured, l := 1000000, d := 9000000 }
     (s.launchDue (s.stream h) = true) ∧ (999999 < (s.stream h).l)) ∧
    (let h : Nat := 5
     let s : State := onPipe { st := .configured, l := 1000000, d := 9000000, words := [0, 0, 0, 0, 1, 1] }
     (s.launchDue (s.stream h) = true) ∧ (999999 < (s.stream h).l) ∧ ((s.stream h).lockWait = false) ∧ (s.fld PM_STATE_STATE < 2) ∧ ((s.stream h).st = .configured) ∧ ((s.stream h).wordsNext = none) ∧ ((s.stream h).launched = false) ∧ (s.pipesNow h ≠ []) ∧ ((s.pipesNow h).length = (s.stream h).pipesWanted) ∧ (s.codec.enc = []) ∧ (s.codec.dec = [])) ∧
    (let h : Nat := 5
     let q : EncPic := { stream := 5, tick := 0, cmd := some {} }
     let s : State := { onPipe { st := .running, l := 1000000, d := 9000000, words := [0, 0, 63, 63, 1, 1] } with codec := { enc := [{ stream := 5, tick := 0, cmd := some {} }] } }
     (s.launchDue (s.stream h) = true) ∧ (999999 < (s.stream h).l) ∧ ((s.stream h).lockWait = false) ∧ (s.fld PM_STATE_STATE < 2) ∧ ((s.stream h).st = .running) ∧ ((s.stream h).dec = false) ∧ ((s.stream h).wordsNext = none) ∧ (s.pipesNow h ≠ []) ∧ ((s.pipesNow h).length = (s.stream h).pipesWanted) ∧ (s.codec.enc = [q]) ∧ (s.codec.dec = []) ∧ (q.stream = h) ∧ (q.launched = false) ∧ (q.tick = s.tickIndex) ∧ (q.cmd ≠ none)) ∧
    (let h : Nat := 5
     let q : EncPic := { stream := 5, tick := 0, cmd := some {} }
     let r : EncPic := { stream := 6, tick := 0, launched := true, pipes := [{ pipe := 0, units := 1 }] }
     let s : State := { onPipe { st := .running, l := 1000000, d := 9000000, words := [0, 0, 63, 63, 1, 1] } with codec := { enc := [{ stream := 6, tick := 0, launched := true, pipes := [{ pipe := 0, units := 1 }] }, { stream := 5, tick := 0, cmd := some {} }] } }
     (s.launchDue (s.stream h) = true) ∧ (999999 < (s.stream h).l) ∧ ((s.stream h).lockWait = false) ∧ (s.fld PM_STATE_STATE < 2) ∧ ((s.stream h).st = .running) ∧ ((s.stream h).dec = false) ∧ ((s.stream h).wordsNext = none) ∧ (s.pipesNow h ≠ []) ∧ ((s.pipesNow h).length = (s.stream h).pipesWanted) ∧ (s.codec.enc = [r, q]) ∧ (s.codec.dec = []) ∧ (q.stream = h) ∧ (q.launched = false) ∧ (q.tick = s.tickIndex) ∧ (r.stream ≠ h) ∧ (r.launched = true) ∧ ((s.pipesNow h).any s.pipeBusy = true)) ∧
    (let h : Nat := 5
     let s : State := onPipe { st := .running, l := 1000000, d := 9000000, launched := true, words := [0, 0, 63, 63, 1, 1], rate := { words := [1] } }
     (s.launchDue (s.stream h) = true) ∧ (999999 < (s.stream h).l) ∧ ((s.stream h).lockWait = false) ∧ (s.fld PM_STATE_STATE < 2) ∧ ((s.stream h).st = .running) ∧ ((s.stream h).dec = false) ∧ ((s.stream h).wordsNext = none) ∧ (s.pipesNow h ≠ []) ∧ ((s.pipesNow h).length = (s.stream h).pipesWanted) ∧ (s.codec.enc = []) ∧ (s.codec.dec = []) ∧ ((s.stream h).launched = true) ∧ ((s.stream h).repeats = false)) ∧
    (let h : Nat := 5
     let s : State := State.reset
     (s.launchDue (s.stream h) = false)) :=
  ⟨by decide, by decide, by decide, by decide, by decide, by decide⟩

/-- States and operands that meet the hypotheses of each clause of `DelaysAndDeadlinesAreKept`. -/
theorem test_hyps_DelaysAndDeadlinesAreKept :
    (let h : Nat := 5
     let q : EncPic := { stream := 5, tick := 7, cmd := some {}, delayed := some 3 }
     let at_ : Nat := 3
     let s : State := { onPipe { st := .running, l := 1000000, d := 9000000, words := [0, 0, 63, 63, 1, 1] } with codec := { enc := [{ stream := 5, tick := 7, cmd := some {}, delayed := some 3 }] } }
     (s.codec.enc = [q]) ∧ (s.codec.dec = []) ∧ (q.stream = h) ∧ (q.launched = false) ∧ (q.delayed = some at_) ∧ (q.cmd ≠ none) ∧ ((s.stream h).wordsNext = none) ∧ ((s.stream h).dec = false) ∧ (999999 < (s.stream h).l)) ∧
    (let h : Nat := 5
     let s : State := { State.reset with codec := { dec := [{ stream := 5, tick := 0, launched := true }] } }
     (s.inFlight h = true ∨ (s.pipesNow h).any s.pipeBusy = true)) ∧
    (let h : Nat := 5
     let s : State := { State.reset with codec := { dec := [{ stream := 6, tick := 0, launched := true }] } }
     ((∀ p ∈ s.codec.enc, p.stream ≠ h)) ∧ ((∀ p ∈ s.codec.dec, p.stream ≠ h))) ∧
    (let h : Nat := 5
     let q : EncPic := { stream := 5, tick := 7, launched := true, dueRun := 9, pipes := [{ pipe := 0, units := 4 }] }
     let s : State := { onPipe { st := .running } with codec := { enc := [{ stream := 5, tick := 7, launched := true, dueRun := 9, pipes := [{ pipe := 0, units := 4 }] }] } }
     (s.decOf h = none) ∧ (s.encOf h = some q)) ∧
    (let h : Nat := 5
     let q : DecPic := { stream := 5, tick := 7, launched := true, dueRun := 9, noOutput := true }
     let s : State := { onPipe { st := .running, dec := true } with codec := { dec := [{ stream := 5, tick := 7, launched := true, dueRun := 9, noOutput := true }] } }
     (s.decOf h = some q) ∧ (q.noOutput = true)) ∧
    (let h : Nat := 5
     let s : State := State.reset
     (s.encOf h = none) ∧ (s.decOf h = none)) :=
  ⟨by decide, by decide, by decide, by decide, by decide, by decide⟩

/-- States and operands that meet the hypotheses of each clause of `RecordsAreReadAndFaultsCleared`. -/
theorem test_hyps_RecordsAreReadAndFaultsCleared :
    (let c : Cmd := { opcode := 0x0101, quiet := true, params := [0x1000, 0, 256] }
     let s : State := State.reset
     (Ready c s = true) ∧ (c.readback = false) ∧ (c.atTick = false) ∧ (c.quiet = true) ∧ (256 ≤ c.p 2)) ∧
    (let c : Cmd := { opcode := 0x0101, params := [0x1000, 0, 255] }
     let s : State := State.reset
     (Ready c s = true) ∧ (c.p 2 < 256)) ∧
    (let c : Cmd := { opcode := 0x0102, quiet := true, handle := 63, params := [3, 1, 0x2000, 0, 4096] }
     let s : State := State.reset
     (Ready c s = true) ∧ (c.readback = false) ∧ (c.atTick = false) ∧ (c.quiet = true) ∧ (classHandles (c.p 0 % 256) ≠ 0) ∧ (c.handle < classHandles (c.p 0 % 256)) ∧ (c.p 0 % 256 ≠ 15) ∧ ((begun c s).readHandles c (c.p 0 % 256) = [c.handle]) ∧ (((begun c s).objectRecord (c.p 0 % 256) c.handle c.func).length ≤ c.p 4)) ∧
    (let c : Cmd := { opcode := 0x0102, params := [21, 1, 0x2000, 0, 4096] }
     let s : State := State.reset
     (Ready c s = true) ∧ (classHandles (c.p 0 % 256) = 0)) ∧
    (let c : Cmd := { opcode := 0x0102, handle := 64, params := [3, 1, 0x2000, 0, 4096] }
     let s : State := State.reset
     (Ready c s = true) ∧ (classHandles (c.p 0 % 256) ≠ 0) ∧ (c.handle ≠ 0xFFFF) ∧ (classHandles (c.p 0 % 256) ≤ c.handle)) ∧
    (let c : Cmd := { opcode := 0x0104, params := [6, 0] }
     let s : State := (State.reset.setReg .FC_STATUS 7).setReg .FC_FIRST 9
     (Ready c s = true) ∧ (c.readback = false) ∧ (s.levels = 0)) ∧
    (let c : Cmd := { opcode := 0x0104, params := [7, 0] }
     let s : State := (State.reset.setReg .FC_STATUS 7).setReg .FC_FIRST 9
     (Ready c s = true) ∧ (c.readback = false) ∧ (s.levels = 0)) :=
  ⟨by decide, by decide, by decide, by decide, by decide, by decide, by decide⟩

/-- States and operands that meet the hypotheses of each clause of `StateWriteChecksItsRecord`. -/
theorem test_hyps_StateWriteChecksItsRecord :
    (let c : Cmd := { opcode := 0x0103, params := [21, 0, 0, 0, 64] }
     let s : State := State.reset
     (Ready c s = true) ∧ (classHandles (c.p 0 % 256) = 0)) ∧
    (let c : Cmd := { opcode := 0x0103, params := [5, 0, 0, 0, 64] }
     let s : State := State.reset
     (Ready c s = true) ∧ (classHandles (c.p 0 % 256) ≠ 0) ∧ (c.data = none)) ∧
    (let c : Cmd := { opcode := 0x0103, params := [5, 0, 0, 0, 64], data := some [5, 0, 0, 0] }
     let r : List Byte := [5, 0, 0, 0]
     let s : State := State.reset
     (Ready c s = true) ∧ (classHandles (c.p 0 % 256) ≠ 0) ∧ (c.data = some r) ∧ (c.p 4 ≠ recN r 8 4 ∨ recN r 0 1 ≠ c.p 0 % 256 ∨ recN r 2 2 ≠ c.handle)) ∧
    (let c : Cmd := { opcode := 0x0103, handle := 0, params := [5, 0, 0, 0, 536], data := some (slotRecord State.reset) }
     let r : List Byte := slotRecord State.reset
     let s : State := State.reset
     (Ready c s = true) ∧ (c.readback = false) ∧ (c.data = some r) ∧ (c.p 0 % 256 = 5) ∧ (c.handle < 24) ∧ (16 ≤ c.p 4) ∧ (c.p 4 = recN r 8 4) ∧ (recN r 0 1 = 5) ∧ (recN r 2 2 = c.handle) ∧ (c.p 4 = ((begun c s).objectRecord 5 c.handle 0).length) ∧ ((begun c s).writeAllowed 5 c.handle r = true) ∧ (c.func = 0) ∧ (recN r 4 4 = s.gen 5 c.handle) ∧ ((begun c s).pipePresent c.handle = true) ∧ ((begun c s).halfFenced (pipeHalf c.handle) = false) ∧ (firstBad ((begun c s).slotChecks c.handle (recN r 16 4 / 256 % 128) (recWords r 280 (min (recN r 16 4 / 256 % 128) 64))) = none)) :=
  ⟨by decide, by decide, by decide, by decide⟩

/-- States and operands that meet the hypotheses of each clause of `StreamsOpenConfigureAndClose`. -/
theorem test_hyps_StreamsOpenConfigureAndClose :
    (let c : Cmd := { opcode := 0x0300, handle := 511, params := [0x21] }
     let s : State := State.reset
     (Ready c s = true) ∧ (c.handle < 512) ∧ ((s.stream c.handle).st = .free) ∧ (natField (c.p 0) 4 4 ≤ 2) ∧ (s.fuse GLB_FUSE_CFG_CL_EN ≠ 0) ∧ (s.chip.fuseErr = false)) ∧
    (let c : Cmd := { opcode := 0x0300, handle := 511, params := [0x20] }
     let s : State := { State.reset with streams := [(511, { st := .opened })] }
     (Ready c s = true) ∧ (c.handle < 512) ∧ ((s.stream c.handle).st ≠ .free) ∧ (natField (c.p 0) 4 4 ≤ 2) ∧ (s.fuse GLB_FUSE_CFG_CL_EN ≠ 0)) ∧
    (let c : Cmd := { opcode := 0x0301, slots := 2, handle := 5, params := decWords }
     let res : Resv := (decRes.1)
     let u : State := decRes.2
     let s : State := decOpen
     (Ready c s = true) ∧ (c.handle < 512) ∧ ((s.stream c.handle).st = .opened) ∧ ((s.stream c.handle).func = c.func) ∧ ((s.stream c.handle).dec = true) ∧ (c.opcode = 0x0301) ∧ (s.inFlight c.handle = false) ∧ ((s.stream c.handle).res = {}) ∧ ((s.stream c.handle).resNext = none) ∧ (firstBad ((begun c s).decChecks c.handle (s.stream c.handle) (c.params.map (· % 2 ^ 32))) = none) ∧ ((begun c s).reserve c.handle (s.stream c.handle) (c.params.map (· % 2 ^ 32)) none = .ok (res, u))) ∧
    (let c : Cmd := { opcode := 0x0302, handle := 5 }
     let s : State := { State.reset with streams := [(5, { st := .running, dec := true })] }
     (Ready c s = true) ∧ (c.handle < 512) ∧ (s.streamError c none = none) ∧ (s.accepted c.handle = 0) ∧ (s.inFlight c.handle = false)) ∧
    (let c : Cmd := { opcode := 0x0302, handle := 5, params := [1] }
     let s : State := { State.reset with streams := [(5, { st := .running, dec := true })], codec := { dec := [{ stream := 5, tick := 0, launched := true }] } }
     (Ready c s = true) ∧ (c.handle < 512) ∧ (s.streamError c none = none) ∧ (s.inFlight c.handle = true) ∧ (natField (c.p 0) 0 1 = 1)) ∧
    (let h : Nat := 5
     let r : RingLeft := { stream := 5, base := 0, bytes := 64, tick := 0, flow := none, unsent := [], pkts := [] }
     let s : State := { State.reset with codec := { rings := [{ stream := 5, base := 0, bytes := 64, tick := 0, flow := none, unsent := [], pkts := [] }] } }
     (s.codec.rings.find? (fun r => r.stream == h) = some r) ∧ (r.unsent = [] ∨ r.tick + 2 ≤ s.tickIndex)) ∧
    (let h : Nat := 5
     let r : RingLeft := { stream := 5, base := 0, bytes := 64, tick := 0, flow := none, unsent := [(0, 32)], pkts := [] }
     let s : State := { State.reset with codec := { rings := [{ stream := 5, base := 0, bytes := 64, tick := 0, flow := none, unsent := [(0, 32)], pkts := [] }] } }
     (s.codec.rings.find? (fun r => r.stream == h) = some r) ∧ (r.unsent ≠ []) ∧ (s.tickIndex < r.tick + 2)) :=
  ⟨by decide, by decide, by decide, by decide, by decide, by decide, by decide⟩

/-- States and operands that meet the hypotheses of each clause of `PicturesAreAcceptedForTheirTick`. -/
theorem test_hyps_PicturesAreAcceptedForTheirTick :
    (let c : Cmd := { opcode := 0x0400, slots := 2, handle := 5, params := [9, 0, 0, 0] }
     let s : State := encReady
     (Ready c s = true) ∧ (s.streamError c (some false) = none) ∧ (s.indexOk c = true) ∧ (encPictureOk (s.stream c.handle) c = true) ∧ ((c.p 3).testBit 6 = false) ∧ (s.sourceOk (s.stream c.handle) (c.p 2 % 8192) = true) ∧ (s.accepted c.handle < 4) ∧ ((s.pipesAfter 0 c.handle).length = cfg (s.stream c.handle).newest 4 0 5) ∧ (c.p64 0 ≠ 0) ∧ (s.canMeet (s.stream c.handle) (c.p64 0) = true)) ∧
    (let c : Cmd := { opcode := 0x0400, slots := 2, handle := 5, params := [9, 0, 0, 0] }
     let s : State := { encReady with tb := { ns := 2 ^ 40 } }
     (Ready c s = true) ∧ (s.streamError c (some false) = none) ∧ (s.indexOk c = true) ∧ (encPictureOk (s.stream c.handle) c = true) ∧ ((c.p 3).testBit 6 = false) ∧ (s.sourceOk (s.stream c.handle) (c.p 2 % 8192) = true) ∧ (s.accepted c.handle < 4) ∧ ((s.pipesAfter 0 c.handle).length = cfg (s.stream c.handle).newest 4 0 5) ∧ (c.p64 0 ≠ 0) ∧ (s.canMeet (s.stream c.handle) (c.p64 0) = false)) ∧
    (let c : Cmd := { opcode := 0x0400, slots := 2, handle := 5, params := [9, 0, 0, 0] }
     let s : State := { encReady with codec := { enc := [{ stream := 5, tick := 1 }, { stream := 5, tick := 2 }, { stream := 5, tick := 3 }, { stream := 5, tick := 8 }] } }
     (Ready c s = true) ∧ (s.streamError c (some false) = none) ∧ (s.indexOk c = true) ∧ (encPictureOk (s.stream c.handle) c = true) ∧ ((c.p 3).testBit 6 = false) ∧ (s.sourceOk (s.stream c.handle) (c.p 2 % 8192) = true) ∧ (4 ≤ s.accepted c.handle)) ∧
    (let c : Cmd := { opcode := 0x0500, slots := 2, handle := 5, params := [9, 0, 1] }
     let s : State := decReady
     (Ready c s = true) ∧ (s.streamError c (some true) = none) ∧ (s.indexOk c = true) ∧ (c.p 2 = 1) ∧ ((flowOf true (s.stream c.handle).newest).isSome = true) ∧ (s.accepted c.handle < 4) ∧ ((s.pipesAfter 0 c.handle).length = cfg (s.stream c.handle).newest 4 0 4) ∧ (c.p64 0 ≠ 0) ∧ (s.canMeet (s.stream c.handle) (c.p64 0) = true)) ∧
    (let c : Cmd := { opcode := 0x0500, slots := 2, handle := 5, params := [9, 0, 1] }
     let s : State := { decReady with codec := { dec := [{ stream := 5, tick := 1 }, { stream := 5, tick := 2 }, { stream := 5, tick := 3 }, { stream := 5, tick := 8 }] } }
     (Ready c s = true) ∧ (s.streamError c (some true) = none) ∧ (s.indexOk c = true) ∧ (c.p 2 = 1) ∧ ((flowOf true (s.stream c.handle).newest).isSome = true) ∧ (4 ≤ s.accepted c.handle)) :=
  ⟨by decide, by decide, by decide, by decide, by decide⟩

/-- States and operands that meet the hypotheses of each clause of `CodingRequestsAreStaged`. -/
theorem test_hyps_CodingRequestsAreStaged :
    (let c : Cmd := { opcode := 0x0401, handle := 5, params := [9, 0] }
     let s : State := encReady
     (Ready c s = true) ∧ (s.streamError c (some false) = none)) ∧
    (let c : Cmd := { opcode := 0x0402, handle := 5, params := [8, 1, 2, 3] }
     let s : State := encReady
     (Ready c s = true) ∧ (s.streamError c (some false) = none) ∧ (c.p 0 = 8) ∧ (c.slots = 1) ∧ (c.readback = false)) ∧
    (let c : Cmd := { opcode := 0x0402, handle := 5, params := [0, 1, 2, 3] }
     let s : State := encReady
     (Ready c s = true) ∧ (s.streamError c (some false) = none) ∧ (c.p 0 % 32 = 0) ∧ (c.p 0 < 32)) ∧
    (let c : Cmd := { opcode := 0x0403, handle := 5, params := [0, 0, 16, 9, 0], data := some (List.replicate 16 5) }
     let bs : List Byte := List.replicate 16 5
     let s : State := encReady
     (Ready c s = true) ∧ (s.streamError c (some false) = none) ∧ (c.data = some bs) ∧ ((s.stream c.handle).rate.mapNext = none) ∧ (c.p 2 ≠ 0) ∧ (c.p 2 = mapBytes (s.stream c.handle).codec (cfg (s.stream c.handle).newest 0 0 16) (cfg (s.stream c.handle).newest 0 16 16))) ∧
    (let c : Cmd := { opcode := 0x0403, handle := 5, params := [0, 0, 0, 9, 0] }
     let s : State := encReady
     (Ready c s = true) ∧ (s.streamError c (some false) = none) ∧ ((s.stream c.handle).rate.mapNext = none) ∧ (c.p 2 = 0)) ∧
    (let c : Cmd := { opcode := 0x0403, handle := 5, params := [0, 0, 5, 9, 0] }
     let s : State := encReady
     (Ready c s = true) ∧ (s.streamError c (some false) = none) ∧ (c.p 2 ≠ 0) ∧ (c.p 2 ≠ mapBytes (s.stream c.handle).codec (cfg (s.stream c.handle).newest 0 0 16) (cfg (s.stream c.handle).newest 0 16 16))) ∧
    (let c : Cmd := { opcode := 0x0502, handle := 5, params := [7] }
     let d : Nat := 3
     let s : State := { (decReady.putN .FB_DESC_ORDER 7 3).putN .FB_DESC_MARKS 8 3 with streams := [(5, { st := .running, dec := true, refs := [3] })] }
     (Ready c s = true) ∧ (s.streamError c (some true) = none) ∧ ((s.stream c.handle).refs = [d]) ∧ (s.regN .FB_DESC_ORDER d = c.p 0) ∧ (s.regN .FB_DESC_MARKS d = 8)) ∧
    (let c : Cmd := { opcode := 0x0502, handle := 5, params := [7] }
     let s : State := { decReady with streams := [(5, { st := .running, dec := true, refs := [3] })] }
     (Ready c s = true) ∧ (s.streamError c (some true) = none) ∧ ((∀ d ∈ (s.stream c.handle).refs, s.regN .FB_DESC_ORDER d ≠ c.p 0))) ∧
    (let c : Cmd := { opcode := 0x0501, handle := 5 }
     let q : DecPic := { stream := 5, tick := 9 }
     let s : State := { decReady with codec := { dec := [{ stream := 5, tick := 9 }] } }
     (Ready c s = true) ∧ (s.streamError c (some true) = none) ∧ (s.codec.dec = [q]) ∧ (s.codec.enc = []) ∧ (q.stream = c.handle)) ∧
    (let c : Cmd := { opcode := 0x0501, handle := 5 }
     let s : State := { decReady with streams := [(5, { st := .running, dec := true, refs := [3] })] }
     (Ready c s = true) ∧ (s.streamError c (some true) = none) ∧ (s.codec.dec = []) ∧ (s.codec.enc = []) ∧ ((s.stream c.handle).held = [])) :=
  ⟨by decide, by decide, by decide, by decide, by decide, by decide, by decide, by decide, by decide, by decide⟩

/-- States and operands that meet the hypotheses of each clause of `MigrationsStartAndAreRefused`. -/
theorem test_hyps_MigrationsStartAndAreRefused :
    (let c : Cmd := { opcode := 0x0303, handle := 5, params := [1] }
     let s : State := { ringOfTwo.putN .TK_Q 20000000 with streams := [(5, { st := .running, dec := true })] }
     (Ready c s = true) ∧ (s.streamError c none = none) ∧ (isRing (s.stream c.handle).newest = false) ∧ (s.sameRing (c.p 0 % 1024) = true) ∧ ((begun c s).copyBytes c.handle ≤ 20 * s.regN .TK_Q)) ∧
    (let c : Cmd := { opcode := 0x0303, handle := 5, params := [1] }
     let s : State := { State.reset with streams := [(5, { st := .running, dec := true })] }
     (Ready c s = true) ∧ (s.streamError c none = none) ∧ (isRing (s.stream c.handle).newest = false) ∧ (s.joined = false) ∧ (s.fld RING_CFG_DOMAIN = 0)) ∧
    (let c : Cmd := { opcode := 0x0304, params := [1, 0x400007] }
     let h : Nat := 0
     let s : State := ringOfTwo
     (Ready c s = true) ∧ (s.packageB = false) ∧ (s.reachable (c.p 0 % 1024) = true) ∧ (c.p 0 % 1024 = c.p 1 / 2 ^ 22) ∧ (s.openHandle 0xFFFF = some h)) ∧
    (let c : Cmd := { opcode := 0x0304, params := [1, 0x800007] }
     let s : State := ringOfTwo
     (Ready c s = true) ∧ (s.packageB = false) ∧ (s.reachable (c.p 0 % 1024) = true) ∧ (c.p 0 % 1024 ≠ c.p 1 / 2 ^ 22)) :=
  ⟨by decide, by decide, by decide, by decide⟩

/-- States and operands that meet the hypotheses of each clause of `SlotTablesLoadAndSwap`. -/
theorem test_hyps_SlotTablesLoadAndSwap :
    (let c : Cmd := { opcode := 0x0600, handle := 0, params := [0, 0, 1], data := some [0xFF, 0x7F, 0, 0] }
     let bs : List Byte := [0xFF, 0x7F, 0, 0]
     let s : State := State.reset
     (Ready c s = true) ∧ (s.pipePresent c.handle = true) ∧ ((begun c s).halfFenced (pipeHalf c.handle) = false) ∧ (c.data = some bs) ∧ (firstBad ((begun c s).slotChecks c.handle (c.p 2) (wordsOf (min (c.p 2) 64) bs)) = none)) ∧
    (let c : Cmd := { opcode := 0x0600, handle := 0, params := [0, 0, 1], data := some [0, 0x80, 0, 0] }
     let bs : List Byte := [0, 0x80, 0, 0]
     let s : State := State.reset
     (Ready c s = true) ∧ (s.pipePresent c.handle = true) ∧ ((begun c s).halfFenced (pipeHalf c.handle) = false) ∧ (c.data = some bs) ∧ (s.streams = []) ∧ ((wordsOf (min (c.p 2) 64) bs).any (fun w => w.testBit 15) = true)) ∧
    (let c : Cmd := { opcode := 0x0600, handle := 8, params := [0, 0, 1] }
     let s : State := onPart .uz3008
     (Ready c s = true) ∧ ((begun c s).pipePresent c.handle = false)) ∧
    (let c : Cmd := { opcode := 0x0601, params := [0xFF0001] }
     let s : State := State.reset.putN .SLT_STS 2
     (Ready c s = true) ∧ ((∀ p : Nat, p < 24 → (c.p 0).testBit p = true → (begun c s).halfFenced (pipeHalf p) = false ∧
     (begun c s).pipePresent p = true)) ∧ ((begun c s).swapOk (c.p 0 % 2 ^ 24) = true) ∧ (s.regN .SLT_STS < 2 ^ 24)) ∧
    (let c : Cmd := { opcode := 0x0601, params := [1] }
     let s : State := { ((State.reset.putN .SLT_NEXT 0x8005 0).setFld SLT_BANK_NEXT_COUNT 1 0) with streams := [(5, { st := .configured, words := [0, 0, 0, 0, 2] })] }
     (Ready c s = true) ∧ ((∀ p : Nat, p < 24 → (begun c s).halfFenced (pipeHalf p) = false)) ∧ ((begun c s).swapOk (c.p 0 % 2 ^ 24) = false)) :=
  ⟨by decide, by decide, by decide, by decide, by decide⟩

/-- States and operands that meet the hypotheses of each clause of `ListsAndBucketsAreConfigured`. -/
theorem test_hyps_ListsAndBucketsAreConfigured :
    (let c : Cmd := { opcode := 0x0700, handle := 0, params := [0, 0, 1, 1000, 0, 0, 500], data := some [0, 64, 0, 0] }
     let bs : List Byte := [0, 64, 0, 0]
     let s : State := { State.reset with tb := { ns := 777 } }
     (Ready c s = true) ∧ ((begun c s).portPresent c.handle = true) ∧ (c.handle < 4) ∧ ((s.list c.handle).pending = none) ∧ (c.data = some bs) ∧ (0 < c.p 2) ∧ (c.p 2 ≤ 256) ∧ ((wordsOf (c.p 2) bs).all (fun e => decide (64 ≤ entryNs e)) = true) ∧ (1000 ≤ c.p 3) ∧ (c.p 3 ≤ 4000000000) ∧ (c.p 6 % 2 ^ 30 < 1000000000) ∧ (c.p 2 < 65536)) ∧
    (let c : Cmd := { opcode := 0x0700, handle := 0, params := [0, 0, 1, 1000, 0, 0, 500], data := some [0, 63, 0, 0] }
     let bs : List Byte := [0, 63, 0, 0]
     let s : State := State.reset
     (Ready c s = true) ∧ ((begun c s).portPresent c.handle = true) ∧ (c.data = some bs) ∧ (0 < c.p 2) ∧ (c.p 2 ≤ 256) ∧ ((wordsOf (c.p 2) bs).any (fun e => decide (entryNs e < 64)) = true)) ∧
    (let c : Cmd := { opcode := 0x0701, handle := 2047, params := [1, 100000000, 64, 0xFFFFFFFF, 0] }
     let s : State := State.reset
     (Ready c s = true) ∧ (c.readback = false) ∧ (c.p 0 ≤ 100000000) ∧ (c.p 1 ≤ 100000000) ∧ (c.p 0 ≤ c.p 1) ∧ (64 ≤ c.p 2) ∧ (64 ≤ c.p 3) ∧ (c.p 2 < 2 ^ 32) ∧ (c.p 3 < 2 ^ 32) ∧ (c.p 4 < 64) ∧ (s.regN .SH_CIR c.handle = 0)) ∧
    (let c : Cmd := { opcode := 0x0701, handle := 2047, params := [2, 1, 64, 64, 0] }
     let s : State := State.reset
     (Ready c s = true) ∧ (c.p 1 ≠ 0) ∧ (c.p 1 < c.p 0)) ∧
    (let c : Cmd := { opcode := 0x0702, handle := 1023, params := [1, 100000000, 64, 65, 0xD] }
     let s : State := State.reset
     (Ready c s = true) ∧ (c.readback = false) ∧ (c.p 0 ≤ c.p 1) ∧ (c.p 1 ≤ 100000000) ∧ (64 ≤ c.p 2) ∧ (64 ≤ c.p 3) ∧ (c.p 2 < 2 ^ 32) ∧ (c.p 3 < 2 ^ 32) ∧ (c.p 4 < 16) ∧ (s.flag PL_CFG_EN c.handle = false)) ∧
    (let c : Cmd := { opcode := 0x0702, handle := 1023, params := [1, 0, 64, 65, 0xD] }
     let s : State := State.reset
     (Ready c s = true) ∧ (c.p 1 < c.p 0)) :=
  ⟨by decide, by decide, by decide, by decide, by decide, by decide⟩

/-- States and operands that meet the hypotheses of each clause of `FlowsOpenMapAndClose`. -/
theorem test_hyps_FlowsOpenMapAndClose :
    (let c : Cmd := { opcode := 0x0703, slots := 2, handle := 2047, params := [0x05DC0000] ++ List.replicate 25 0 }
     let s : State := portUp
     (Ready c s = true) ∧ (c.readback = false) ∧ (isIngest c.handle = false) ∧ ((word (c.params.take 26) 0).testBit 4 = false) ∧ (word (c.params.take 26) 0 < 2 ^ 32) ∧ ((begun c s).halfFenced ((begun c s).portHalf (word (c.params.take 26) 0 % 4)) = false) ∧ (firstBad ((begun c s).flowChecks c.handle ((c.params.take 26).map (· % 2 ^ 32))) = none)) ∧
    (let c : Cmd := { opcode := 0x0703, slots := 2, handle := 2047, params := [0x05DC0000] ++ List.replicate 25 0 }
     let d : Nat := 5
     let s : State := { portUp with flows := [(2047, { live := true })] }
     (Ready c s = true) ∧ (isIngest c.handle = false) ∧ ((word (c.params.take 26) 0).testBit 4 = false) ∧ (word (c.params.take 26) 0 < 2 ^ 32) ∧ ((begun c s).halfFenced ((begun c s).portHalf (word (c.params.take 26) 0 % 4)) = false) ∧ (firstBad ((begun c s).flowChecks c.handle ((c.params.take 26).map (· % 2 ^ 32))) = some d)) ∧
    (let c : Cmd := { opcode := 0x0704, handle := 3071 }
     let s : State := { portUp with flows := [(3071, { live := true })] }
     (Ready c s = true) ∧ (c.readback = false) ∧ (isIngest c.handle = true) ∧ (c.handle < 3072) ∧ ((s.flow c.handle).live = true) ∧ ((s.flow c.handle).func = c.func) ∧ ((begun c s).halfFenced ((begun c s).portHalf (flowPort (s.flow c.handle).words)) = false) ∧ (s.boundStream c.handle = none) ∧ ((s.flow c.handle).aus = []) ∧ ((s.flow c.handle).cur = none)) ∧
    (let c : Cmd := { opcode := 0x0704, handle := 2047 }
     let s : State := { portUp with flows := [(2047, { live := true })], streams := [(5, { st := .configured, words := [0, 0, 0, 0, 0, 0, 0, 0x87FF] })] }
     (Ready c s = true) ∧ ((s.flow c.handle).live = true) ∧ ((s.flow c.handle).func = c.func) ∧ ((begun c s).halfFenced ((begun c s).portHalf (flowPort (s.flow c.handle).words)) = false) ∧ (s.boundStream c.handle ≠ none)) ∧
    (let c : Cmd := { opcode := 0x0705, handle := 2048, params := [0] }
     let s : State := { portUp with flows := [(2048, { live := true, words := [0x3000] })] }
     (Ready c s = true) ∧ ((s.flow c.handle).live = true) ∧ ((s.flow c.handle).func = c.func) ∧ ((begun c s).halfFenced ((begun c s).portHalf (flowPort (s.flow c.handle).words)) = false) ∧ (firstBad ((begun c s).mapChecks c.handle c.func ((c.params.take 7).map (· % 2 ^ 32))) = none)) :=
  ⟨by decide, by decide, by decide, by decide, by decide⟩

/-- States and operands that meet the hypotheses of each clause of `RingMembershipIsCommanded`. -/
theorem test_hyps_RingMembershipIsCommanded :
    (let c : Cmd := { opcode := 0x0800, params := [0x823] }
     let s : State := State.reset
     (Ready c s = true) ∧ (s.joined = false) ∧ (s.ring.joining = none) ∧ (2 ≤ natField (c.p 0) 10 6) ∧ (natField (c.p 0) 10 6 ≤ 32) ∧ (natField (c.p 0) 5 5 < natField (c.p 0) 10 6) ∧ (c.p 0 < 2 ^ 17) ∧ (s.fuse GLB_FUSE_CFG_RING ≠ 0) ∧ (c.slots = 1) ∧ (c.readback = false)) ∧
    (let c : Cmd := { opcode := 0x0800, params := [0x843] }
     let s : State := State.reset
     (Ready c s = true) ∧ (natField (c.p 0) 10 6 < 2 ∨ 32 < natField (c.p 0) 10 6 ∨ natField (c.p 0) 10 6 ≤ natField (c.p 0) 5 5)) ∧
    (let s : State := { State.reset.setFld RING_STS_STATE 1 with ring := { joining := some { cmd := { opcode := 0x0800, params := [0x823] }, since := 0 } } }
     (s.ring.joining ≠ none) ∧ (s.flag RING_STS_FL0_NB = false) ∧ (s.flag RING_STS_FL1_NB = false)) ∧
    (let s : State := State.reset
     (s.ring.joining = none)) ∧
    (let c : Cmd := { opcode := 0x0801, params := [0x101, 2, 0] }
     let s : State := ringOfTwo
     (Ready c s = true) ∧ (s.packageB = false) ∧ (c.p 0 % 4 < 2) ∧ (s.ring.switch = none) ∧ (s.tickIndex + 2 ≤ c.p64 1) ∧ (s.joined = true) ∧ (natField (c.p 0) 8 5 < s.ringSize)) ∧
    (let c : Cmd := { opcode := 0x0802 }
     let s : State := { ringOfTwo with streams := [(5, { st := .running, words := List.replicate 42 0 ++ [0x80] ++ List.replicate 15 0 })] }
     (Ready c s = true) ∧ (s.packageB = false) ∧ (s.streams.any (fun e => e.2.st != .free && isRing e.2.newest) = true)) ∧
    (let c : Cmd := { opcode := 0x0802 }
     let s : State := State.reset
     (Ready c s = true) ∧ (s.packageB = false) ∧ (s.streams.any (fun e => e.2.st != .free && isRing e.2.newest) = false) ∧ (s.joined = false)) ∧
    (let c : Cmd := { opcode := 0x0802 }
     let s : State := ringOfTwo.setFld TK_CTRL_EN 1
     (Ready c s = true) ∧ (s.packageB = false) ∧ (s.streams.any (fun e => e.2.st != .free && isRing e.2.newest) = false) ∧ (s.joined = true) ∧ (s.flag TK_CTRL_EN = true)) :=
  ⟨by decide, by decide, by decide, by decide, by decide, by decide, by decide, by decide⟩

/-- States and operands that meet the hypotheses of each clause of `VotesSparesAndMonitorsAreCommanded`. -/
theorem test_hyps_VotesSparesAndMonitorsAreCommanded :
    (let c : Cmd := { opcode := 0x0900, handle := 14, params := [1] }
     let s : State := (State.reset.setFld TK_CTRL_EN 1).putN .AON_VOTE 0x30 14
     (Ready c s = true) ∧ (s.domPresent c.handle = true) ∧ ((domainHalf c.handle).all (fun h => !(begun c s).halfFenced h) = true) ∧ (c.p 0 < 2) ∧ (s.flag TK_CTRL_EN = true) ∧ (c.readback = false)) ∧
    (let c : Cmd := { opcode := 0x0900, handle := 14, params := [4] }
     let s : State := State.reset
     (Ready c s = true) ∧ (s.domPresent c.handle = true) ∧ ((domainHalf c.handle).all (fun h => !(begun c s).halfFenced h) = true) ∧ (4 ≤ c.p 0 % 2 ^ 32)) ∧
    (let c : Cmd := { opcode := 0x0B02, handle := 31, params := [0, 0, 0] }
     let s : State := State.reset
     (Ready c s = true) ∧ (s.monCheck (c.p 0) = none) ∧ (c.slots = 1) ∧ (c.readback = false)) ∧
    (let c : Cmd := { opcode := 0x0B02, handle := 31, params := [0xFFFFFFFF, 0, 0] }
     let d : Nat := 1
     let s : State := State.reset
     (Ready c s = true) ∧ ((begun c s).monCheck (c.p 0) = some d)) ∧
    (let c : Cmd := { opcode := 0x0B01, handle := 0, params := [0] }
     let s : State := State.reset
     (Ready c s = true) ∧ (c.handle < 24) ∧ (s.swapUnit c.handle = true) ∧ ((swapHalf c.handle).all (fun h => !(begun c s).halfFenced h) = true) ∧ (natField (c.p 0) 0 1 = 0) ∧ (s.swapAsked c.handle = false) ∧ (s.spareFree c.handle = true)) ∧
    (let c : Cmd := { opcode := 0x0B01, handle := 500, params := [0] }
     let s : State := State.reset
     (Ready c s = true) ∧ ((begun c s).swapUnit c.handle = false)) ∧
    (let c : Cmd := { opcode := 0x0B03, quiet := true, params := [0x1000, 0, 24] }
     let s : State := { State.reset with spare := { log := [0x1122334455667788] } }
     (Ready c s = true) ∧ (c.readback = false) ∧ (c.atTick = false) ∧ (c.quiet = true) ∧ (16 + 8 * s.spare.log.length ≤ c.p 2)) ∧
    (let c : Cmd := { opcode := 0x0B03, params := [0x1000, 0, 15] }
     let s : State := State.reset
     (Ready c s = true) ∧ (c.p 2 < 16)) :=
  ⟨by decide, by decide, by decide, by decide, by decide, by decide, by decide, by decide⟩

/-- States and operands that meet the hypotheses of each clause of `ServicesOfTheModule`. -/
theorem test_hyps_ServicesOfTheModule :
    (let c : Cmd := { opcode := 0x0A03 }
     let k : Nat := 0
     let s : State := State.reset
     ([0, 1, 4].contains (s.fld SEC_STS_STATE) = true) ∧ (headerError c (s.enlist c) = none)) ∧
    (let c : Cmd := { opcode := 0x0A03 }
     let k : Nat := 0
     let s : State := secured.setFld SEC_STS_STATE 3
     (s.fld SEC_STS_STATE = 3) ∧ (Ready c s = true)) ∧
    (let c : Cmd := { opcode := 0x0A01 }
     let s : State := secured
     (s.fld SEC_STS_STATE = 2) ∧ (Ready c s = true) ∧ (c.readback = false) ∧ (c.p 0 = 0) ∧ (s.flows = [])) ∧
    (let c : Cmd := { opcode := 0x0A01, params := [1, 0] }
     let s : State := secured
     (s.fld SEC_STS_STATE = 2) ∧ (Ready c s = true) ∧ (c.p 0 = 1) ∧ (c.p 1 = 0)) ∧
    (let c : Cmd := { opcode := 0x0A02 }
     let s : State := secured
     (s.fld SEC_STS_STATE = 2) ∧ (Ready c s = true) ∧ (c.readback = false) ∧ (c.p 0 = 0)) ∧
    (let c : Cmd := { opcode := 0x0A02, params := [1] }
     let s : State := secured
     (s.fld SEC_STS_STATE = 2) ∧ (Ready c s = true) ∧ (c.readback = false) ∧ (c.p 0 = 1) ∧ (s.flows = [])) ∧
    (let c : Cmd := { opcode := 0x0A00, handle := 7, params := [2] }
     let s : State := secured
     (s.fld SEC_STS_STATE = 2) ∧ (Ready c s = true) ∧ (c.readback = false) ∧ (s.approvedNow = true) ∧ (c.p 0 = 2) ∧ (c.handle < 0xC00) ∧ (s.flowsOnSlot c.handle = 0)) ∧
    (let c : Cmd := { opcode := 0x0A03, quiet := true, params := [0x1000, 0, 533, 0], data := some [1, 2, 3] }
     let s : State := secured
     (s.fld SEC_STS_STATE = 2) ∧ (Ready c s = true) ∧ (c.readback = false) ∧ (c.quiet = true) ∧ (c.atTick = false) ∧ (s.noIdentity = false) ∧ (s.security.certBad = false) ∧ (c.data ≠ none) ∧ (c.p 3 = 0) ∧ (533 ≤ c.p 2) ∧ (c.p 2 < 2 ^ 32)) :=
  ⟨by decide, by decide, by decide, by decide, by decide, by decide, by decide, by decide⟩

/-- States and operands that meet the hypotheses of each clause of `MicrocodeIsPatchedAtAnInstant`. -/
theorem test_hyps_MicrocodeIsPatchedAtAnInstant :
    (let c : Cmd := { opcode := 0x0B00, params := [0, 0, 64] }
     let x : PatchImage := onePatch
     let s : State := secured
     (s.fld SEC_STS_STATE = 2) ∧ (Ready c s = true) ∧ (s.ctl.patch = none) ∧ (x.formed = true) ∧ (x.signed = true) ∧ (x.dieOk = true) ∧ (s.fld SEC_MIN_SVN_SVN ≤ x.svn) ∧ (x.svn ≤ 64) ∧ (x.encWords.all (fun k => decide (k ≤ 256)) = true) ∧ (x.decWords.all (fun k => decide (k ≤ 256)) = true) ∧ (c.p 2 ≤ 4194304) ∧ (firstBad (s.patchChecks x) = none)) ∧
    (let c : Cmd := { opcode := 0x0B00, params := [0, 0, 64] }
     let x : PatchImage := onePatch
     let s : State := { secured with ctl := { patch := some ({}, onePatch) } }
     (s.fld SEC_STS_STATE = 2) ∧ (Ready c s = true) ∧ (s.ctl.patch ≠ none)) ∧
    (let c : Cmd := { opcode := 0x0B00, params := [0, 0, 64] }
     let x : PatchImage := { onePatch with signed := false }
     let s : State := secured
     (s.fld SEC_STS_STATE = 2) ∧ (Ready c s = true) ∧ (s.ctl.patch = none) ∧ (x.signed = false) ∧ (x.encWords.all (fun k => decide (k ≤ 256)) = true) ∧ (x.decWords.all (fun k => decide (k ≤ 256)) = true) ∧ (c.p 2 ≤ 4194304)) ∧
    (let p : Cmd × PatchImage := ({}, onePatch)
     let s : State := { secured.setFld TK_CTRL_EN 1 with ctl := { patch := some ({}, onePatch) } }
     (s.ctl.patch = some p) ∧ (s.flag TK_CTRL_EN = true) ∧ ((∀ u ∈ s.patchTargets p.2, (usqPipes u).any s.carries = false)) ∧ (s.entryOf p.1 = none)) ∧
    (let s : State := State.reset
     (s.ctl.patch = none)) :=
  ⟨by decide, by decide, by decide, by decide, by decide⟩

/-- States and operands that meet the hypotheses of each clause of `ScoutsAndUnitsAreTimed`. -/
theorem test_hyps_ScoutsAndUnitsAreTimed :
    (let u : Nat := 0
     let h : Nat := 5
     let k : Nat := 0
     let m : ScoutMap := { blocks := 4, cutBlocks := 0, noRef := 0, weightKey := 9, weightInter := 7, actSum := 0 }
     let q : EncPic := encPicture
     let s : State := encRuns encPicture
     (s.encOf h = some q) ∧ (q.isRepeat = false) ∧ (s.flag SCT_STS_STOPPED u = false) ∧ (q.scouts.testBit u = true) ∧ ((q.bands[k]?).any (fun b => !b.heard.testBit u) = true) ∧ (k < 256) ∧ ((word q.words 3).testBit 2 = false)) ∧
    (let u : Nat := 0
     let h : Nat := 5
     let k : Nat := 0
     let m : ScoutMap := { blocks := 4, cutBlocks := 0, noRef := 0, weightKey := 9, weightInter := 7, actSum := 0 }
     let q : EncPic := { encPicture with isRepeat := true }
     let s : State := encRuns { encPicture with isRepeat := true }
     (s.encOf h = some q) ∧ (q.isRepeat = true ∨ s.flag SCT_STS_STOPPED u = true ∨ (q.bands[k]?).all (fun b => b.heard.testBit u) = true)) ∧
    (let p : Nat := 0
     let q : EncPic := encPicture
     let w : PipeWork := { pipe := 0, units := 4, cols := 4, waiting := true }
     let s : State := encRuns encPicture
     (s.encOn p = some q) ∧ (s.encOf q.stream = some q) ∧ (q.pipes.find? (fun w => w.pipe == p && w.waiting) = some w) ∧ ((q.bands.head?).all (fun b => !b.late.testBit (p / 4)) = true)) ∧
    (let p : Nat := 0
     let q : EncPic := encLateBand
     let w : PipeWork := { pipe := 0, units := 4, cols := 4, waiting := true }
     let s : State := encRuns encLateBand
     (s.encOn p = some q) ∧ (s.encOf q.stream = some q) ∧ (q.pipes.find? (fun w => w.pipe == p && w.waiting) = some w) ∧ ((q.bands.head?).any (fun b => b.late.testBit (p / 4)) = true)) ∧
    (let p : Nat := 0
     let s : State := State.reset
     (s.encOn p = none)) ∧
    (let u : Nat := 3
     let s : State := State.reset
     (u < 4) ∧ (s.clusterPresent u = true)) ∧
    (let u : Nat := 3
     let s : State := onPart .uz9612C
     (s.clusterPresent u = false)) ∧
    (let p : Nat := 0
     let q : EncPic := encStarted
     let w : PipeWork := { pipe := 0, units := 4, cols := 4, started := 1, due := 17 }
     let s : State := encRuns encStarted
     (s.encOn p = some q) ∧ (s.encOf q.stream = some q) ∧ (q.pipes.find? (fun w => w.pipe == p) = some w) ∧ (w.stopped = false) ∧ (w.waiting = false) ∧ (w.started < w.units)) ∧
    (let p : Nat := 0
     let q : EncPic := { encStarted with dueRun := 0 }
     let w : PipeWork := { pipe := 0, units := 4, cols := 4, started := 1, due := 17 }
     let s : State := encRuns { encStarted with dueRun := 0 }
     (s.encOn p = some q) ∧ (s.encOf q.stream = some q) ∧ (q.pipes.find? (fun w => w.pipe == p) = some w) ∧ (w.stopped = false) ∧ (w.waiting = false) ∧ (w.started < w.units) ∧ (w.floorFrom = none) ∧ (5 * q.dueRun < 5 * max s.tb.run ((w.due + 4) / 5) +
       s.timeNeed (s.stream q.stream) (encGeo (s.stream q.stream).codec (s.stream q.stream).words) (w.units - w.started - 1))) ∧
    (let p : Nat := 0
     let l : Nat := 1
     let n : Nat := 3
     let f : Bool := true
     let q : EncPic := encPicture
     let w : PipeWork := { pipe := 0, units := 4, cols := 4, waiting := true }
     let s : State := encRuns encPicture
     (s.encOn p = some q) ∧ (q.pipes.find? (fun w => w.pipe == p) = some w) ∧ (w.stopped = true ∨ w.waiting = true ∨ w.units ≤ w.started)) ∧
    (let p : Nat := 0
     let q : EncPic := encPicture
     let w : PipeWork := { pipe := 0, units := 4, cols := 4, waiting := true }
     let s : State := encRuns encPicture
     (s.encOn p = some q) ∧ (s.encOf q.stream = some q) ∧ (q.pipes.find? (fun w => w.pipe == p) = some w) ∧ (w.stopped = false) ∧ (w.waiting = true) ∧ (w.started < w.units) ∧ (w.floorFrom = none)) ∧
    (let p : Nat := 0
     let s : State := State.reset
     (s.encOn p = none)) :=
  ⟨by decide, by decide, by decide, by decide, by decide, by decide, by decide, by decide, by decide, by decide, by decide, by decide⟩

/-- States and operands that meet the hypotheses of each clause of `BitsAreCheckedAndHandedOff`. -/
theorem test_hyps_BitsAreCheckedAndHandedOff :
    (let p : Nat := 0
     let u : Nat := 9
     let q : EncPic := { encStarted with cap := 100000 }
     let w : PipeWork := { pipe := 0, units := 4, cols := 4, started := 1, due := 17 }
     let s : State := encRuns { encStarted with cap := 100000 }
     (s.encOn p = some q) ∧ (s.encOf q.stream = some q) ∧ (q.pipes.find? (fun w => w.pipe == p) = some w) ∧ (w.stopped = false) ∧ (w.past < w.started) ∧ (w.floorFrom = none) ∧ (q.committed + u + q.reserve (encGeo (s.stream q.stream).codec (s.stream q.stream).words) (q.unitsLeft - 1) ≤ q.cap)) ∧
    (let p : Nat := 0
     let u : Nat := 9
     let q : EncPic := encStarted
     let w : PipeWork := { pipe := 0, units := 4, cols := 4, started := 1, due := 17 }
     let s : State := encRuns encStarted
     (s.encOn p = some q) ∧ (s.encOf q.stream = some q) ∧ (q.pipes.find? (fun w => w.pipe == p) = some w) ∧ (w.stopped = false) ∧ (w.past < w.started) ∧ (w.floorFrom = none) ∧ ((q.pipes.map (·.pipe)).Nodup) ∧ (q.cap < q.committed + u + q.reserve (encGeo (s.stream q.stream).codec (s.stream q.stream).words) (q.unitsLeft - 1))) ∧
    (let p : Nat := 0
     let n : Nat := 12
     let b : Nat := 9
     let bs : List Byte := [1, 2]
     let q : EncPic := encPast
     let w : PipeWork := { pipe := 0, units := 4, cols := 4, started := 1, past := 1 }
     let s : State := encRuns encPast
     (s.encOn p = some q) ∧ (s.encOf q.stream = some q) ∧ (q.pipes.find? (fun w => w.pipe == p) = some w) ∧ (w.stopped = false) ∧ (w.handed < w.past) ∧ (w.past ≤ w.started) ∧ (w.floorFrom = none) ∧ (q.owed.find? (fun e => e.1 == p) = some (p, b)) ∧ (isRing (s.stream q.stream).words = false)) ∧
    (let h : Nat := 5
     let q : EncPic := encTwo
     let s : State := encRuns encTwo
     (s.encOf h = some q) ∧ (q.seams < q.seamsReady)) ∧
    (let h : Nat := 5
     let q : EncPic := encStarted
     let s : State := encRuns encStarted
     (s.encOf h = some q) ∧ (q.seamsReady ≤ q.seams)) ∧
    (let h : Nat := 5
     let q : EncPic := { encStarted with pipes := [{ pipe := 0, units := 4, cols := 4, started := 4, past := 4, handed := 4 }] }
     let s : State := encRuns { encStarted with pipes := [{ pipe := 0, units := 4, cols := 4, started := 4, past := 4, handed := 4 }] }
     (s.encOf h = some q) ∧ (q.released < q.bands.length) ∧ (q.bandDone (encGeo (s.stream h).codec (s.stream h).words) q.released = true) ∧ (isRing (s.stream h).words = false)) ∧
    (let h : Nat := 5
     let q : EncPic := encStarted
     let s : State := encRuns encStarted
     (s.encOf h = some q) ∧ (q.bandDone (encGeo (s.stream h).codec (s.stream h).words) q.released = false)) :=
  ⟨by decide, by decide, by decide, by decide, by decide, by decide, by decide⟩

/-- States and operands that meet the hypotheses of each clause of `EncodePicturesCompleteOrFail`. -/
theorem test_hyps_EncodePicturesCompleteOrFail :
    (let h : Nat := 5
     let st : EncStats := { order := 7 }
     let q : EncPic := encDone
     let s : State := encRuns encDone
     (s.encOf h = some q) ∧ ((s.stream h).st = .running) ∧ ((s.stream h).wordsNext = none) ∧ (s.encReady (s.stream h) (encGeo (s.stream h).codec (s.stream h).words) q = true) ∧ (q.tick < 2 ^ 32)) ∧
    (let h : Nat := 5
     let st : EncStats := { order := 7 }
     let q : EncPic := encStarted
     let s : State := encRuns encStarted
     (s.encOf h = some q) ∧ (s.encReady (s.stream h) (encGeo (s.stream h).codec (s.stream h).words) q = false)) ∧
    (let p : Nat := 0
     let q : EncPic := encStarted
     let w : PipeWork := { pipe := 0, units := 4, cols := 4, started := 1, due := 17 }
     let s : State := (encRuns encStarted).setFld SPR_CFG_AUTO_STOP 0
     (s.encOn p = some q) ∧ (s.encOf q.stream = some q) ∧ (q.pipes.find? (fun w => w.pipe == p) = some w) ∧ (w.stopped = false) ∧ (q.failed = none) ∧ (s.flag SPR_CFG_AUTO_STOP = false)) ∧
    (let p : Nat := 0
     let u : Nat := 1
     let q : EncPic := encStarted
     let w : PipeWork := { pipe := 0, units := 4, cols := 4, started := 1, due := 17 }
     let s : State := encRuns encStarted
     (s.encOn p = some q) ∧ (s.encOf q.stream = some q) ∧ (q.pipes.find? (fun w => w.pipe == p) = some w) ∧ (w.stopped = false) ∧ (w.floorFrom = none) ∧ (w.handed ≤ w.past) ∧ (w.past ≤ u) ∧ (u ≤ w.started) ∧ (u < w.units)) ∧
    (let p : Nat := 1
     let f : EncFault := .strip true
     let s : State := encRuns encStarted
     (s.encOn p = none) ∧ (f ≠ .stop)) :=
  ⟨by decide, by decide, by decide, by decide, by decide⟩

/-- States and operands that meet the hypotheses of each clause of `BlocksAreDecodedOrConcealed`. -/
theorem test_hyps_BlocksAreDecodedOrConcealed :
    (let p : Nat := 16
     let ps : ParamSet := { id := 3, width := 64, height := 64 }
     let f : List Nat := []
     let q : DecPic := decPicture
     let w : PipeWork := { pipe := 16, units := 0 }
     let s : State := decRuns decPicture
     (s.decOn p = some q) ∧ (s.decOf q.stream = some q) ∧ (q.pipes.find? (fun w => w.pipe == p) = some w) ∧ (w.stopped = false) ∧ (q.noOutput = false) ∧ (q.lost = false) ∧ (isRing (s.stream q.stream).words = false) ∧ ((s.stream q.stream).st ≠ .free) ∧ (ps.inRange = true) ∧ (ps.zeros ≤ 31) ∧ (ps.bytes ≤ 4096) ∧ (ps.profile = true) ∧ (ps.chroma ≤ word (s.stream q.stream).words 1 % 4) ∧ ((ps.chroma = 2 → (s.stream q.stream).codec ≠ 3)) ∧ (ps.depth ≤ word (s.stream q.stream).words 1 / 4 % 4) ∧ (ps.width ≤ word (s.stream q.stream).words 0 % 65536) ∧ (ps.height ≤ word (s.stream q.stream).words 0 / 65536) ∧ (ps.buffers ≤ word (s.stream q.stream).words 5 % 64 - 1)) ∧
    (let p : Nat := 16
     let ps : ParamSet := { id := 3, width := 72, height := 64 }
     let f : List Nat := []
     let q : DecPic := decPicture
     let w : PipeWork := { pipe := 16, units := 0 }
     let s : State := decRuns decPicture
     (s.decOn p = some q) ∧ (s.decOf q.stream = some q) ∧ (q.pipes.find? (fun w => w.pipe == p) = some w) ∧ (w.stopped = false) ∧ (q.noOutput = false) ∧ (q.lost = false) ∧ (isRing (s.stream q.stream).words = false) ∧ (4096 < ps.bytes ∨ word (s.stream q.stream).words 0 % 65536 < ps.width)) ∧
    (let p : Nat := 16
     let ps : ParamSet := { id := 3, bytes := 4097 }
     let f : List Nat := []
     let q : DecPic := decPicture
     let w : PipeWork := { pipe := 16, units := 0 }
     let s : State := decRuns decPicture
     (s.decOn p = some q) ∧ (s.decOf q.stream = some q) ∧ (q.pipes.find? (fun w => w.pipe == p) = some w) ∧ (w.stopped = false) ∧ (q.noOutput = false) ∧ (q.lost = false) ∧ (isRing (s.stream q.stream).words = false) ∧ (4096 < ps.bytes ∨ word (s.stream q.stream).words 0 % 65536 < ps.width)) ∧
    (let p : Nat := 16
     let d : DecHeader := { blocks := 16, mapW := 4, chroma := 1, parts := [{ blocks := [0, 1, 2, 3] }] }
     let f : List Nat := []
     let q : DecPic := decPicture
     let w : PipeWork := { pipe := 16, units := 0 }
     let s : State := decRuns decPicture
     (s.decOn p = some q) ∧ (s.decOf q.stream = some q) ∧ (q.pipes.find? (fun w => w.pipe == p) = some w) ∧ (w.stopped = false) ∧ (q.noOutput = false) ∧ (q.lost = false) ∧ (q.parsed = false) ∧ (q.unplaced = false) ∧ (isRing (s.stream q.stream).words = false)) ∧
    (let p : Nat := 16
     let e : Nat := 3
     let n : Nat := 4
     let d : DecHeader := { blocks := 4, mapW := 2, second := true }
     let f : List Nat := []
     let q : DecPic := { decPicture with unplaced := true }
     let w : PipeWork := { pipe := 16, units := 0 }
     let s : State := (decRuns { decPicture with unplaced := true }).onStream 5 fun x => { x with openField := some (3, 4), res := { pool := [2, 3] } }
     (s.decOn p = some q) ∧ (s.decOf q.stream = some q) ∧ (q.pipes.find? (fun w => w.pipe == p) = some w) ∧ (w.stopped = false) ∧ (q.noOutput = false) ∧ (q.lost = false) ∧ (q.parsed = false) ∧ (q.unplaced = true) ∧ (isRing (s.stream q.stream).words = false) ∧ (d.second = true) ∧ ((s.stream q.stream).openField = some (e, n)) ∧ (e ∈ (s.stream q.stream).res.pool)) ∧
    (let p : Nat := 16
     let f : List Nat := []
     let rs : List Nat := []
     let q : DecPic := decParsed
     let w : PipeWork := { pipe := 16, units := 4, due := 7 }
     let s : State := decRuns decParsed
     (s.decOn p = some q) ∧ (s.decOf q.stream = some q) ∧ (q.pipes.find? (fun w => w.pipe == p) = some w) ∧ (w.stopped = false) ∧ (q.noOutput = false) ∧ (q.lost = false) ∧ (q.parsed = true) ∧ (w.started < w.units) ∧ (isRing (s.stream q.stream).words = false) ∧ (q.gates = []) ∧ ((∀ r ∈ rs, r ∈ q.known)) ∧ ((s.reachRun ((w.due + 4) / 5)).blockLate (s.stream q.stream) q (w.units - w.started - 1) = false)) ∧
    (let p : Nat := 16
     let o : Nat := 9
     let b : Nat := 0
     let f : List Nat := []
     let q : DecPic := decParsed
     let w : PipeWork := { pipe := 16, units := 4, due := 7 }
     let s : State := decRuns decParsed
     (s.decOn p = some q) ∧ (s.decOf q.stream = some q) ∧ (q.pipes.find? (fun w => w.pipe == p) = some w) ∧ (w.stopped = false) ∧ (q.noOutput = false) ∧ (q.lost = false) ∧ (q.parsed = true) ∧ (w.started < w.units) ∧ (isRing (s.stream q.stream).words = false) ∧ (q.gates = []) ∧ (o ∉ q.known) ∧ (q.blocksOf p w.started 1 = [b]) ∧ ((s.reachRun ((w.due + 4) / 5)).blockLate (s.stream q.stream) q (w.units - w.started - 1) = false)) ∧
    (let p : Nat := 16
     let f : List Nat := []
     let rs : List Nat := [1]
     let q : DecPic := { decParsed with dueRun := 0 }
     let w : PipeWork := { pipe := 16, units := 4, due := 7 }
     let s : State := decRuns { decParsed with dueRun := 0 }
     (s.decOn p = some q) ∧ (s.decOf q.stream = some q) ∧ (q.pipes.find? (fun w => w.pipe == p) = some w) ∧ (w.stopped = false) ∧ (q.noOutput = false) ∧ (q.lost = false) ∧ (q.parsed = true) ∧ (w.started < w.units) ∧ (isRing (s.stream q.stream).words = false) ∧ ((s.reachRun ((w.due + 4) / 5)).blockLate (s.stream q.stream) q (w.units - w.started - 1) = true)) ∧
    (let p : Nat := 16
     let k : Nat := 3
     let n : Nat := 4
     let f : List Nat := [1]
     let q : DecPic := { decParsed with inter := true, known := [8] }
     let w : PipeWork := { pipe := 16, units := 4, due := 7 }
     let s : State := decRuns { decParsed with inter := true, known := [8] }
     (s.decOn p = some q) ∧ (s.decOf q.stream = some q) ∧ (q.pipes.find? (fun w => w.pipe == p) = some w) ∧ (w.stopped = false) ∧ (q.noOutput = false) ∧ (q.lost = false) ∧ (q.parsed = true) ∧ (0 < n) ∧ (w.started + n ≤ w.units) ∧ ((q.blocksOf p w.started n).length = n) ∧ (isRing (s.stream q.stream).words = false)) ∧
    (let p : Nat := 16
     let f : List Nat := []
     let q : DecPic := decPicture
     let w : PipeWork := { pipe := 16, units := 0 }
     let s : State := decRuns decPicture
     (s.decOn p = some q) ∧ (s.decOf q.stream = some q) ∧ (q.pipes.find? (fun w => w.pipe == p) = some w) ∧ (w.stopped = false) ∧ (q.noOutput = false) ∧ (q.lost = false) ∧ (q.parsed = false) ∧ (isRing (s.stream q.stream).words = false) ∧ ((word (s.stream q.stream).words 4).testBit 18 = false)) :=
  ⟨by decide, by decide, by decide, by decide, by decide, by decide, by decide, by decide, by decide, by decide⟩

/-- States and operands that meet the hypotheses of each clause of `DecodePicturesCompleteOrFail`. -/
theorem test_hyps_DecodePicturesCompleteOrFail :
    (let h : Nat := 5
     let d : DecDone := {}
     let q : DecPic := { decParsed with pipes := [{ pipe := 16, units := 4, started := 4 }] }
     let s : State := decRuns { decParsed with pipes := [{ pipe := 16, units := 4, started := 4 }] }
     (s.decOf h = some q) ∧ ((s.stream h).st = .running) ∧ ((s.stream h).wordsNext = none) ∧ ((s.stream h).flush = none) ∧ (s.decReady (s.stream h) q d.skipped = true)) ∧
    (let h : Nat := 5
     let d : DecDone := {}
     let q : DecPic := decParsed
     let s : State := decRuns decParsed
     (s.decOf h = some q) ∧ (s.decReady (s.stream h) q d.skipped = false)) ∧
    (let p : Nat := 16
     let q : DecPic := decParsed
     let w : PipeWork := { pipe := 16, units := 4, due := 7 }
     let s : State := (decRuns decParsed).setFld SPR_CFG_AUTO_STOP 0
     (s.decOn p = some q) ∧ (s.decOf q.stream = some q) ∧ (q.pipes.find? (fun w => w.pipe == p) = some w) ∧ (w.stopped = false) ∧ (q.failed = none) ∧ (s.flag SPR_CFG_AUTO_STOP = false)) ∧
    (let p : Nat := 17
     let f : DecFault := .refFetch
     let s : State := decRuns decParsed
     (s.decOn p = none) ∧ (f ≠ .frontStop) ∧ (f ≠ .backStop)) ∧
    (let h : Nat := 5
     let v : Word := 15
     let s : State := decRuns decParsed
     ((s.stream h).st ≠ .free) ∧ ((s.stream h).dec = true) ∧ ((s.stream h).words ≠ []) ∧ ((s.stream h).due = 0) ∧ (v.toNat % 4096 < recCount (s.stream h).words)) ∧
    (let f : Nat := 1
     let h : Nat := 5
     let v : Word := 15
     let s : State := decRuns decParsed
     (f ≠ (s.stream h).func)) ∧
    (let h : Nat := 5
     let v : Word := 3
     let s : State := ((decRuns decParsed).putN .FB_DESC_OWN (64 + 5 * 65536 + 2 ^ 31) 3).putN .FB_DESC_MARKS 0x200 3
     ((s.stream h).st ≠ .free) ∧ ((s.stream h).dec = true) ∧ ((s.stream h).due = 0) ∧ (s.flag FB_DESC_OWN_POOL (v.toNat % 8192) = true) ∧ (s.fld FB_DESC_OWN_STREAM (v.toNat % 8192) = h) ∧ (0 < s.fld FB_DESC_MARKS_OUT_CNT (v.toNat % 8192))) ∧
    (let h : Nat := 5
     let v : Word := 3
     let s : State := decRuns decParsed
     ((s.stream h).st ≠ .free) ∧ ((s.stream h).dec = true) ∧ (s.fld FB_DESC_MARKS_OUT_CNT (v.toNat % 8192) = 0)) :=
  ⟨by decide, by decide, by decide, by decide, by decide, by decide, by decide, by decide⟩

/-- States and operands that meet the hypotheses of each clause of `DescriptorsAreOwnedAndCommitted`. -/
theorem test_hyps_DescriptorsAreOwnedAndCommitted :
    (let a : Agent := .func 0
     let v : Word := 0x3FFF
     let s : State := State.reset.setFld FB_ASSIGN_FUNC_FUNC 32
     (s.actsAsPf0 a = true) ∧ (s.fld FB_ASSIGN_FUNC_FUNC ≤ 32) ∧ (v.toNat / 8192 % 16384 = 1) ∧ (s.regN .FB_DESC_MARKS (v.toNat % 8192) = 0) ∧ (s.flag FB_DESC_OWN_POOL (v.toNat % 8192) = false)) ∧
    (let a : Agent := .cpx 0
     let v : Word := 0x3FFF
     let s : State := State.reset.setFld FB_ASSIGN_FUNC_FUNC 33
     (s.actsAsPf0 a = true) ∧ (32 < s.fld FB_ASSIGN_FUNC_FUNC)) ∧
    (let f : Nat := 1
     let v : Word := 0x3FFF
     let s : State := State.reset
     (f ≠ 0)) ∧
    (let d : Nat := 8191
     let w : Nat := 64
     let h : Nat := 64
     let s : State := (State.reset.putN .FB_DESC_DIM 0x00400040 8191).putN .MC_CAP (2 ^ 30)
     (s.flag FB_DESC_OWN_POOL d = false) ∧ (s.regN .FB_DESC_MARKS d % 2 = s.regN .FB_DESC_MARKS d) ∧ (s.codec.descStage = []) ∧ (s.regN .FB_DESC_BASE d % 4096 = 0) ∧ (s.regN .FB_DESC_DIM d = w + h * 65536) ∧ (w % 8 = 0) ∧ (h % 8 = 0) ∧ (64 ≤ w) ∧ (w ≤ 8192) ∧ (64 ≤ h) ∧ (h ≤ 4352) ∧ (s.regN .FB_DESC_BASE d + bufferSize 1 w h (roundUp (minPitch 1 w) 64) false ≤ s.regN .MC_CAP) ∧ (minPitch 1 w < 2 ^ 20)) ∧
    (let f : Nat := 1
     let d : Nat := 8191
     let v : Word := 1
     let s : State := State.reset
     (f ≠ s.fld FB_DESC_OWN_FUNC d)) ∧
    (let v : Word := 8191
     let s : State := State.reset
     (s.regN .FB_DESC_MARKS (v.toNat % 8192) = 0) ∧ (s.flag FB_DESC_OWN_POOL (v.toNat % 8192) = false) ∧ (v.toNat < 2 ^ 31)) ∧
    (let v : Word := 0x80001FFF
     let s : State := State.reset.putN .FB_DESC_MARKS 1 8191
     (s.regN .FB_DESC_MARKS (v.toNat % 8192) = 1) ∧ (2 ^ 31 ≤ v.toNat)) ∧
    (let h : Nat := 5
     let n : Nat := 4096
     let v : Word := 0
     let s : State := { (State.reset.putN .FB_S_RING_WR 64 5).putN .FB_S_RING_RD 4032 5 with streams := [(5, { st := .running, res := { ringBytes := 4096 } })] }
     ((s.stream h).st ≠ .free) ∧ ((s.stream h).dec = false) ∧ ((s.stream h).res.ringBytes = n) ∧ (v.toNat % 64 = 0) ∧ (v.toNat < n) ∧ (s.regN .FB_S_RING_RD h < n) ∧ (s.regN .FB_S_RING_WR h < n) ∧ ((v.toNat + n - s.regN .FB_S_RING_RD h) % n ≤ (s.regN .FB_S_RING_WR h + n - s.regN .FB_S_RING_RD h) % n)) ∧
    (let h : Nat := 5
     let n : Nat := 4096
     let v : Word := 64
     let s : State := { (State.reset.putN .FB_S_RING_WR 64 5).putN .FB_S_RING_RD 4032 5 with streams := [(5, { st := .running, res := { ringBytes := 4096 } })] }
     ((s.stream h).st ≠ .free) ∧ ((s.stream h).dec = false) ∧ ((s.stream h).res.ringBytes = n) ∧ (v.toNat % 64 = 0) ∧ (v.toNat < n) ∧ (s.regN .FB_S_RING_RD h < n) ∧ (s.regN .FB_S_RING_WR h < n) ∧ ((v.toNat + n - s.regN .FB_S_RING_RD h) % n ≤ (s.regN .FB_S_RING_WR h + n - s.regN .FB_S_RING_RD h) % n)) ∧
    (let h : Nat := 5
     let v : Word := 4096
     let s : State := { State.reset with streams := [(5, { st := .running, res := { ringBytes := 4096 } })] }
     ((s.stream h).st ≠ .free) ∧ ((s.stream h).dec = false) ∧ (v.toNat % 64 ≠ 0 ∨ (s.stream h).res.ringBytes ≤ v.toNat)) ∧
    (let a : Agent := .func 0
     let f : Nat := 32
     let b : Bool := true
     let v : DWord := 0x12345FFF
     let s : State := State.reset
     (s.actsAsPf0 a = true) ∧ (f ≤ 32) ∧ (s.streams.any (fun e => e.2.st != .free && e.2.func == f) = false)) ∧
    (let a : Agent := .func 0
     let f : Nat := 0
     let b : Bool := false
     let v : DWord := 0x12345FFF
     let s : State := { State.reset with streams := [(5, { st := .running })] }
     (s.actsAsPf0 a = true) ∧ (f ≤ 32) ∧ (s.streams.any (fun e => e.2.st != .free && e.2.func == f) = true)) :=
  ⟨by decide, by decide, by decide, by decide, by decide, by decide, by decide, by decide, by decide, by decide, by decide, by decide⟩

/-- States and operands that meet the hypotheses of each clause of `RingMessagesAreRelayedOrStale`. -/
theorem test_hyps_RingMessagesAreRelayedOrStale :
    (let m : RingHdr := { link := 0, src := 1, dst := 0, epoch := 0, tick := 0 }
     let a : Nat := 0
     let b : Nat := 1
     let c : Nat := 2
     let d : Nat := 3
     let p : PlanMsg := aPlan
     let h : DataHdr := aPart
     let x : MigData := { id := 0, region := 0 }
     let f : Bool := true
     let bs : List Byte := []
     let i : Instr := .donate { link := 0, src := 1, dst := 0, epoch := 0, tick := 0 } 0 1 2
     let s : State := State.reset
     (i ∈ [.leave m, .roleUpdate m a b c d a b, .nak m a b c d a b, .plan m p, .donate m a b c, .ask m a b c, .grant m a b c, .final m a b c d a b,
       .halo m h, .seamUp m h, .seamDown m h, .band m h bs, .migData m x, .migCommitReq m a b, .migCommitAck m a, .migQuery m a b f, .migAbort m a b]) ∧ (s.joined = false)) ∧
    (let m : RingHdr := { link := 0, src := 1, dst := 1, epoch := 0, tick := 0 }
     let a : Nat := 0
     let b : Nat := 1
     let c : Nat := 2
     let d : Nat := 3
     let p : PlanMsg := aPlan
     let h : DataHdr := aPart
     let x : MigData := { id := 0, region := 0 }
     let f : Bool := true
     let bs : List Byte := []
     let i : Instr := .seamUp { link := 0, src := 1, dst := 1, epoch := 0, tick := 0 } aPart
     let s : State := ringOfTwo
     (i ∈ [.leave m, .roleUpdate m a b c d a b, .nak m a b c d a b, .plan m p, .donate m a b c, .ask m a b c, .grant m a b c, .final m a b c d a b,
       .halo m h, .seamUp m h, .seamDown m h, .band m h bs, .migData m x, .migCommitReq m a b, .migCommitAck m a, .migQuery m a b f, .migAbort m a b]) ∧ (s.joined = true) ∧ (m.bcast = false) ∧ (m.dst ≠ s.ringPos)) ∧
    (let m : RingHdr := { link := 0, src := 1, dst := 1, epoch := 0, tick := 0 }
     let a : Nat := 0
     let b : Nat := 1
     let c : Nat := 2
     let d : Nat := 3
     let p : PlanMsg := aPlan
     let h : DataHdr := aPart
     let x : MigData := { id := 0, region := 0 }
     let f : Bool := true
     let bs : List Byte := []
     let i : Instr := .migAbort { link := 0, src := 1, dst := 1, epoch := 0, tick := 0 } 0 1
     let s : State := ringOfTwo
     (i ∈ [.leave m, .roleUpdate m a b c d a b, .nak m a b c d a b, .plan m p, .donate m a b c, .ask m a b c, .grant m a b c, .final m a b c d a b,
       .halo m h, .seamUp m h, .seamDown m h, .band m h bs, .migData m x, .migCommitReq m a b, .migCommitAck m a, .migQuery m a b f, .migAbort m a b]) ∧ (s.joined = true) ∧ (m.bcast = false) ∧ (m.dst ≠ s.ringPos)) ∧
    (let m : RingHdr := { link := 0, src := 1, dst := 0, epoch := 7, tick := 0 }
     let a : Nat := 0
     let b : Nat := 1
     let c : Nat := 2
     let d : Nat := 3
     let p : PlanMsg := aPlan
     let h : DataHdr := aPart
     let x : MigData := { id := 0, region := 0 }
     let f : Bool := true
     let bs : List Byte := []
     let i : Instr := .halo { link := 0, src := 1, dst := 0, epoch := 7, tick := 0 } aPart
     let s : State := ringOfTwo
     (i ∈ [.leave m, .roleUpdate m a b c d a b, .nak m a b c d a b, .plan m p, .donate m a b c, .ask m a b c, .grant m a b c, .final m a b c d a b,
       .halo m h, .seamUp m h, .seamDown m h, .band m h bs, .migData m x, .migCommitReq m a b, .migCommitAck m a, .migQuery m a b f, .migAbort m a b]) ∧ (s.joined = true) ∧ (m.bcast = false) ∧ (m.dst = s.ringPos) ∧ (m.epoch ≠ s.epochAt m.tick)) ∧
    (let m : RingHdr := { link := 0, src := 1, dst := 0, epoch := 7, tick := 0 }
     let a : Nat := 0
     let b : Nat := 1
     let c : Nat := 2
     let d : Nat := 3
     let p : PlanMsg := aPlan
     let h : DataHdr := aPart
     let x : MigData := { id := 0, region := 0 }
     let f : Bool := true
     let bs : List Byte := []
     let i : Instr := .band { link := 0, src := 1, dst := 0, epoch := 7, tick := 0 } aPart []
     let s : State := ringOfTwo
     (i ∈ [.leave m, .roleUpdate m a b c d a b, .nak m a b c d a b, .plan m p, .donate m a b c, .ask m a b c, .grant m a b c, .final m a b c d a b,
       .halo m h, .seamUp m h, .seamDown m h, .band m h bs, .migData m x, .migCommitReq m a b, .migCommitAck m a, .migQuery m a b f, .migAbort m a b]) ∧ (s.joined = true) ∧ (m.bcast = false) ∧ (m.dst = s.ringPos) ∧ (m.epoch ≠ s.epochAt m.tick)) :=
  ⟨by decide, by decide, by decide, by decide, by decide⟩

/-- States and operands that meet the hypotheses of each clause of `MembershipMessagesAreHeeded`. -/
theorem test_hyps_MembershipMessagesAreHeeded :
    (let m : RingHdr := { link := 0, src := 1, epoch := 0, tick := 0 }
     let h : HelloMsg := { ringId := 0, pos := 1, size := 2, num := 0, den := 0 }
     let s : State := State.reset
     (2 ≤ m.link ∨ s.linkUp m.link = false)) ∧
    (let m : RingHdr := { link := 1, src := 1, epoch := 0, tick := 0 }
     let h : HelloMsg := { ringId := 0, pos := 1, size := 2, num := 0, den := 0 }
     let s : State := ringOfTwo.setFld FL_STS_STATE 5 1
     (m.link < 2) ∧ (s.linkUp m.link = true) ∧ (s.joined = true) ∧ (s.helloError m.link h = none) ∧ (h.echo = false) ∧ (h.hasTable = false)) ∧
    (let m : RingHdr := { link := 1, src := 1, epoch := 0, tick := 0 }
     let h : HelloMsg := { ringId := 0, pos := 1, size := 2, num := 1, den := 1 }
     let s : State := { (State.reset.setFld FL_STS_STATE 5 1).setFld TK_DEN_DEN 50 with ring := { joining := some { cmd := {}, since := 0 } } }
     (m.link < 2) ∧ (s.linkUp m.link = true) ∧ (s.ring.joining ≠ none) ∧ (h.num * s.fld TK_DEN_DEN ≠ s.fld TK_NUM_NUM * h.den)) ∧
    (let m : RingHdr := { link := 1, src := 1, epoch := 0, tick := 0 }
     let s : State := ringOfTwo
     (s.heeds m = true) ∧ (m.link < 2)) ∧
    (let m : RingHdr := { link := 1, src := 1, epoch := 0, tick := 0 }
     let k : Nat := 1
     let r : Nat := 63
     let p : Nat := 31
     let o : Nat := 1
     let n : Nat := 9
     let s : State := ringOfTwo
     (s.heeds m = true) ∧ (k < 2) ∧ (s.ring.switch = none) ∧ (r < 64) ∧ (p < 32)) ∧
    (let m : RingHdr := { link := 1, src := 1, epoch := 0, tick := 0 }
     let k : Nat := 1
     let r : Nat := 63
     let p : Nat := 31
     let o : Nat := 1
     let e : Nat := 2
     let n : Nat := 9
     let s : State := ringOfTwo
     (s.heeds m = true) ∧ (e ≠ s.regN .RING_EPOCH + 1)) ∧
    (let m : RingHdr := { link := 1, src := 1, epoch := 0, tick := 0 }
     let x : Nat := 1
     let q : Nat := 0
     let r : Nat := 63
     let e : Nat := 1
     let n : Nat := 9
     let s : State := { ringOfTwo with ring := { rs := [(63, { askOpen := true })] } }
     (s.heeds m = true) ∧ (r < 64)) ∧
    (let m : RingHdr := { link := 1, src := 1, epoch := 0, tick := 0 }
     let y : Nat := 0x11
     let x : Nat := 1
     let q : Nat := 0
     let r : Nat := 63
     let e : Nat := 1
     let n : Nat := 9
     let s : State := ringOfTwo
     (s.heeds m = true) ∧ (y ≠ 0x12)) ∧
    (let k : Nat := 1
     let s : State := State.reset
     (k < 2)) :=
  ⟨by decide, by decide, by decide, by decide, by decide, by decide, by decide, by decide, by decide⟩

/-- States and operands that meet the hypotheses of each clause of `RingPicturesArePlannedAndPaid`. -/
theorem test_hyps_RingPicturesArePlannedAndPaid :
    (let m : RingHdr := { link := 1, src := 1, epoch := 0, tick := 4 }
     let p : PlanMsg := aPlan
     let h : Nat := 5
     let s : State := ringEnc
     (s.heeds m = true) ∧ (s.ringStream p.rsid = some h)) ∧
    (let m : RingHdr := { link := 1, src := 1, epoch := 0, tick := 4 }
     let r : Nat := 7
     let q : Nat := 1
     let n : Nat := 100
     let s : State := ringEnc
     (s.heeds m = true) ∧ (s.isLead r = true)) ∧
    (let m : RingHdr := { link := 1, src := 1, epoch := 0, tick := 4 }
     let r : Nat := 7
     let q : Nat := 1
     let n : Nat := 100
     let s : State := ringEnc
     (s.heeds m = true) ∧ (s.isLead r = true) ∧ (m.src ≠ s.ringPos)) ∧
    (let m : RingHdr := { link := 1, src := 1, epoch := 0, tick := 4 }
     let r : Nat := 8
     let q : Nat := 1
     let n : Nat := 100
     let s : State := ringEnc
     (s.heeds m = true) ∧ (s.isLead r = false)) ∧
    (let m : RingHdr := { link := 1, src := 1, epoch := 0, tick := 3 }
     let r : Nat := 7
     let g : Nat := 1
     let n : Nat := 100
     let h : Nat := 5
     let q : EncPic := { encStarted with cap := 9 }
     let s : State := { ringEnc with codec := { enc := [{ encStarted with cap := 9 }] } }
     (s.heeds m = true) ∧ (s.ringStream r = some h) ∧ (s.encOf h = some q) ∧ (q.passed = false) ∧ (q.tick = m.tick)) ∧
    (let m : RingHdr := { link := 1, src := 1, epoch := 0, tick := 3 }
     let r : Nat := 7
     let g : Nat := 1
     let n : Nat := 100
     let h : Nat := 5
     let s : State := ringEnc
     (s.heeds m = true) ∧ (s.ringStream r = some h) ∧ (s.encOf h = none) ∧ (0 < n) ∧ (rateMode (s.stream h).rateCfg ≠ 0)) ∧
    (let m : RingHdr := { link := 1, src := 1, epoch := 0, tick := 0 }
     let r : Nat := 7
     let f : Nat := 1
     let n : Nat := 2
     let k : Nat := 3
     let x : Nat := 4
     let c : Nat := 5
     let h : Nat := 5
     let s : State := ringEnc
     (s.heeds m = true) ∧ (s.isLead r = true) ∧ (s.ringStream r = some h) ∧ ((s.rs r).finalTick = m.tick) ∧ (m.tick + 1 ≠ s.tickIndex)) ∧
    (let r : Nat := 7
     let h : Nat := 5
     let s : State := ringEnc
     (s.flag TK_CTRL_EN = true) ∧ (s.isLead r = true) ∧ ((s.rs r).planSent ≠ some s.tickIndex) ∧ (s.ringStream r = some h) ∧ ((s.stream h).dec = false) ∧ ((s.stream h).words ≠ []) ∧ ((s.stream h).st = .running)) ∧
    (let r : Nat := 8
     let s : State := ringEnc
     (s.flag TK_CTRL_EN = false ∨ s.isLead r = false ∨ (s.rs r).planSent = some s.tickIndex)) :=
  ⟨by decide, by decide, by decide, by decide, by decide, by decide, by decide, by decide, by decide⟩

/-- States and operands that meet the hypotheses of each clause of `BordersAreExchangedInTime`. -/
theorem test_hyps_BordersAreExchangedInTime :
    (let m : RingHdr := { link := 1, src := 1, epoch := 0, tick := 0 }
     let d : DataHdr := { aPart with flags := 1 }
     let h : Nat := 5
     let s : State := ringEnc
     (s.heeds m = true) ∧ (s.ringStream d.rsid = some h) ∧ (d.flags % 2 = 1) ∧ ((s.rs d.rsid).above.tick = m.tick)) ∧
    (let r : Nat := 7
     let k : Nat := 1
     let h : Nat := 5
     let s : State := ringEnc.putN .TK_INDEX 3
     (s.joined = true) ∧ (s.flag TK_CTRL_EN = true) ∧ (s.ringStream r = some h) ∧ (s.hasSide (k % 2) = true) ∧ (((s.rs r).side (k % 2)).tick ≠ s.tickIndex)) ∧
    (let r : Nat := 7
     let k : Nat := 1
     let h : Nat := 5
     let s : State := { ringEnc with ring := { tlead := some 0, plead := [(7, 0)], rs := [(7, { below := { tick := 0, arrived := true } })] } }
     (s.joined = true) ∧ (s.flag TK_CTRL_EN = true) ∧ (s.ringStream r = some h) ∧ (((s.rs r).side (k % 2)).tick = s.tickIndex) ∧ (((s.rs r).side (k % 2)).arrived = true)) ∧
    (let m : RingHdr := { link := 1, src := 1, epoch := 0, tick := 0 }
     let d : DataHdr := aPart
     let h : Nat := 5
     let s : State := ringEnc
     (s.heeds m = true) ∧ (s.ringStream d.rsid = some h) ∧ ((s.rs d.rsid).seamTick = m.tick) ∧ (s.encOf h = none) ∧ (s.decOf h = none)) ∧
    (let m : RingHdr := { link := 1, src := 1, epoch := 0, tick := 0 }
     let d : DataHdr := aPart
     let h : Nat := 5
     let s : State := { ringEnc with ring := { tlead := some 0, plead := [(7, 0)], rs := [(7, { seamTick := 2 })] } }
     (s.heeds m = true) ∧ (s.ringStream d.rsid = some h) ∧ (m.tick < (s.rs d.rsid).seamTick)) ∧
    (let r : Nat := 7
     let h : Nat := 5
     let q : EncPic := encStarted
     let s : State := { ringEnc with codec := { enc := [encStarted] } }
     (s.ringStream r = some h) ∧ (s.encOf h = some q) ∧ (s.seamsClosed (s.stream h) = false) ∧ (rsid (s.stream h).words = r)) ∧
    (let m : RingHdr := { link := 1, src := 1, epoch := 0, tick := 0 }
     let d : DataHdr := { aPart with index := 1 }
     let bs : List Byte := [1, 2]
     let h : Nat := 5
     let s : State := ringEnc
     (s.heeds m = true) ∧ (s.isLead d.rsid = true) ∧ (s.ringStream d.rsid = some h) ∧ ((s.rs d.rsid).fwdTick = m.tick) ∧ ((s.rs d.rsid).fwdNext < d.index) ∧ ((s.rs d.rsid).planTick ≠ some m.tick) ∧ (storeFind (s.rs d.rsid).fwd (s.rs d.rsid).fwdNext = none) ∧ (rsid (s.stream h).words = d.rsid) ∧ (storeFind (s.rs d.rsid).fwd d.index = none)) ∧
    (let r : Nat := 7
     let h : Nat := 5
     let s : State := { ringEnc with ring := { plead := [(7, 1)] } }
     (s.ringStream r = some h) ∧ (s.isLead r = false)) ∧
    (let r : Nat := 7
     let h : Nat := 5
     let s : State := { ringEnc with ring := { plead := [(7, 0)], rs := [(7, { fwdTick := 2 })] } }
     (s.ringStream r = some h) ∧ (s.isLead r = true) ∧ ((s.rs r).fwdTick ≠ 0) ∧ ((s.rs r).fwd = []) ∧ ((s.rs r).fwdNext < bandsAbove (s.stream h).codec s.ringSize (s.stream h).words s.ringSize)) :=
  ⟨by decide, by decide, by decide, by decide, by decide, by decide, by decide, by decide, by decide⟩

/-- States and operands that meet the hypotheses of each clause of `MigrationsMoveAStream`. -/
theorem test_hyps_MigrationsMoveAStream :
    (let m : RingHdr := { link := 1, src := 1, epoch := 0, tick := 0 }
     let d : MigData := { id := 9, region := 2, offset := 4, data := [1, 2, 3] }
     let h : Nat := 5
     let s : State := moving 2 2
     (s.heeds m = true) ∧ (s.findMig 2 d.id (s.msgPeer m) = some h) ∧ ((s.mig h).step = 2) ∧ (2 ≤ d.region) ∧ (d.region ≤ 4) ∧ (d.whole = false)) ∧
    (let m : RingHdr := { link := 1, src := 1, epoch := 0, tick := 0 }
     let i : Nat := 9
     let g : Nat := 7
     let h : Nat := 5
     let s : State := moving 1 1
     (s.heeds m = true) ∧ (s.findMig 1 i (s.msgPeer m) = some h) ∧ ((s.mig h).step = 1) ∧ (s.tickIndex ≤ (s.mig h).freeze + 3)) ∧
    (let m : RingHdr := { link := 1, src := 1, epoch := 0, tick := 0 }
     let i : Nat := 8
     let g : Nat := 7
     let s : State := moving 1 1
     (s.heeds m = true) ∧ (s.sameRing (s.msgPeer m) = true) ∧ (s.findMig 1 i (s.msgPeer m) = none)) ∧
    (let m : RingHdr := { link := 1, src := 1, epoch := 0, tick := 0 }
     let i : Nat := 9
     let h : Nat := 5
     let s : State := moving 2 3
     (s.heeds m = true) ∧ (s.findMig 2 i (s.msgPeer m) = some h) ∧ ((s.mig h).step = 3) ∧ ((s.mig h).after = none)) ∧
    (let m : RingHdr := { link := 1, src := 1, epoch := 0, tick := 0 }
     let i : Nat := 9
     let h : Nat := 5
     let s : State := moving 2 5
     (s.heeds m = true) ∧ (s.findMig 2 i (s.msgPeer m) = some h) ∧ ((s.mig h).step ≠ 3)) ∧
    (let m : RingHdr := { link := 1, src := 1, epoch := 0, tick := 0 }
     let i : Nat := 9
     let x : Nat := 2
     let h : Nat := 5
     let s : State := moving 1 4
     (s.heeds m = true) ∧ (s.sameRing (s.msgPeer m) = true) ∧ (s.findMig 1 i (s.msgPeer m) = some h) ∧ ((s.mig h).heard = true) ∧ ((s.mig h).step = 1 ∨ (s.mig h).step = 4 ∨ (s.mig h).step = 6)) ∧
    (let m : RingHdr := { link := 1, src := 1, epoch := 0, tick := 0 }
     let i : Nat := 9
     let x : Nat := 6
     let h : Nat := 5
     let s : State := moving 2 3
     (s.heeds m = true) ∧ (s.findMig 2 i (s.msgPeer m) = some h) ∧ ((s.mig h).step = 3) ∧ ((s.mig h).after = none) ∧ (x = 4 ∨ x = 6)) ∧
    (let m : RingHdr := { link := 1, src := 1, epoch := 0, tick := 0 }
     let i : Nat := 9
     let x : Nat := 8
     let h : Nat := 5
     let s : State := moving 2 2
     (s.heeds m = true) ∧ (s.findMig 2 i (s.msgPeer m) = some h) ∧ ((s.mig h).step = 2) ∧ ((s.mig h).after = none)) ∧
    (let h : Nat := 5
     let s : State := moving 1 1
     ((s.mig h).role = 1) ∧ ((s.mig h).step = 1)) ∧
    (let h : Nat := 5
     let s : State := moving 1 6
     ((s.mig h).role ≠ 1 ∨ (s.mig h).step ≠ 1)) ∧
    (let h : Nat := 5
     let s : State := { moving 2 2 with ring := { (moving 2 2).ring with mig := [(5, { id := 9, role := 2, step := 2, peer := 1 })] } }
     ((s.mig h).role = 2) ∧ ((s.mig h).step = 2) ∧ ((s.mig h).heard = false) ∧ ((s.mig h).after = none)) ∧
    (let h : Nat := 5
     let s : State := moving 2 3
     ((s.mig h).role ≠ 2 ∨ (s.mig h).step ≠ 2 ∨ (s.mig h).heard = true)) ∧
    (let p : Nat := 3
     let a : Nat := 64
     let d : List (BitVec 8) := [1, 2]
     let x : Option MigMail := none
     let s : State := State.reset
     (s.uioTarget p a d.length = false)) ∧
    (let p : Nat := 1
     let a : Nat := 16
     let d : List (BitVec 8) := [1, 2]
     let x : Option MigMail := none
     let s : State := moving 2 2
     (s.uioTarget p a d.length = true) ∧ (a ≠ s.hdmSize - 65536 + 64 * (p % 1024))) :=
  ⟨by decide, by decide, by decide, by decide, by decide, by decide, by decide, by decide, by decide, by decide, by decide, by decide, by decide, by decide⟩

/-- States and operands that meet the hypotheses of each clause of `LanesAndPortsComeAndGo`. -/
theorem test_hyps_LanesAndPortsComeAndGo :
    (let a : Agent := .func 0
     let g : Nat := 1
     let v : Word := 3
     let s : State := State.reset
     (s.actsAsPf0 a = true) ∧ (s.groupLanes g ≠ []) ∧ (s.groupInUse g = false) ∧ (v.toNat % 4 ≠ s.fld LN_GRP_CFG_USE g)) ∧
    (let a : Agent := .func 0
     let g : Nat := 1
     let v : Word := 2
     let s : State := ringOfTwo
     (s.actsAsPf0 a = true) ∧ (s.groupLanes g ≠ []) ∧ (s.groupInUse g = true)) ∧
    (let f : Nat := 1
     let g : Nat := 1
     let v : Word := 2
     let s : State := State.reset
     (f ≠ 0)) ∧
    (let a : Agent := .cpx 0
     let l : Nat := 2
     let v : Word := 0x20001
     let s : State := State.reset.setFld LN_GRP_CFG_USE 3 0
     (s.actsAsPf0 a = true) ∧ (l < 16) ∧ (s.underTest l = true)) ∧
    (let l : Nat := 2
     let n : Nat := 0
     let s : State := laneTest
     (s.underTest l = true) ∧ (s.flag LN_PRBS_CFG_RX_EN l = true) ∧ (storeFind s.prbs l = none)) ∧
    (let l : Nat := 2
     let n : Nat := 7
     let s : State := { laneTest with prbs := [(2, true)] }
     (s.underTest l = true) ∧ (s.flag LN_PRBS_CFG_RX_EN l = true) ∧ (storeFind s.prbs l = some true)) ∧
    (let k : Nat := 1
     let s : State := ringOfTwo.setFld FL_STS_STATE 5 1
     (k < 2) ∧ (s.linkUp k = true)) ∧
    (let k : Nat := 0
     let n : Nat := 2
     let x : Nat := 3
     let f : Bool := true
     let d : Bool := false
     let e : Bool := false
     let r : Bool := false
     let s : State := State.reset
     (2 ≤ k ∨ s.linkUp k = false)) ∧
    (let k : Nat := 0
     let n : Nat := 2
     let x : Nat := 3
     let f : Bool := true
     let d : Bool := true
     let e : Bool := false
     let r : Bool := false
     let s : State := ((State.reset.setFld LN_GRP_CFG_USE 2 1).setFld FL_STS_STATE 1 0).setFld FL_CFG_LANES 2 0
     (k < 2) ∧ (s.fld FL_STS_STATE k ≠ 0) ∧ (s.fld FL_STS_STATE k ≠ 5) ∧ (s.groupUse (linkGroup k) = 2)) ∧
    (let p : Nat := 0
     let x : Nat := 0
     let s : State := (((portUp.setFld ETH_CFG_EN 1 0).setFld ETH_CFG_MODE 2 0).setFld PM_DOM_STS_STATE domIsOn 10)
     (p < 4) ∧ (s.flag ETH_STS_LINK p = false) ∧ (s.portReady p = true)) ∧
    (let p : Nat := 0
     let x : Nat := 2
     let s : State := portUp.setFld ETH_STS_LINK 1 0
     (p < 4) ∧ (s.flag ETH_STS_LINK p = true) ∧ (s.portPresent p = true)) ∧
    (let p : Nat := 0
     let x : Nat := 0
     let s : State := State.reset
     (4 ≤ p ∨ (s.flag ETH_STS_LINK p = false ∧ s.portReady p = false))) ∧
    (let p : Nat := 0
     let n : Nat := 64
     let f : RxFrame := .badFcs
     let s : State := State.reset
     (4 ≤ p ∨ s.flag ETH_STS_LINK p = false)) ∧
    (let p : Nat := 0
     let n : Nat := 64
     let s : State := portUp.setFld ETH_STS_LINK 1 0
     (p < 4) ∧ (s.flag ETH_STS_LINK p = true)) ∧
    (let p : Nat := 0
     let n : Nat := 9300
     let f : RxFrame := .ptp 0 0 []
     let s : State := portUp.setFld ETH_STS_LINK 1 0
     (p < 4) ∧ (s.flag ETH_STS_LINK p = true) ∧ (f ≠ .badFcs) ∧ (s.maxFrame p < n)) ∧
    (let p : Nat := 1
     let n : Nat := 64
     let x : Nat := 1
     let d : Nat := 127
     let bs : List (BitVec 8) := [1, 2, 3]
     let s : State := ((portUp.setFld ETH_STS_LINK 1 1).setFld PTP_CFG_EN 1 1).setFld PTP_CFG_TRANSPORT 1 1
     (p < 4) ∧ (s.flag ETH_STS_LINK p = true) ∧ (n ≤ s.maxFrame p) ∧ ((s.regN .ARB_MASK).testBit (24 + p) = false) ∧ (s.ptpSelects p x d = true) ∧ (bs.length ≤ 224) ∧ ((s.regN .PTP_RX_TAIL p % 64 + 1) % 64 ≠ s.regN .PTP_RX_HEAD p % 64)) ∧
    (let p : Nat := 0
     let n : Nat := 100
     let h : Nat := 2048
     let w : Flow := anIngest
     let x : RxPkt := aPacket
     let s : State := { portUp.setFld ETH_STS_LINK 1 0 with flows := [(2048, anIngest)] }
     (p < 4) ∧ (s.flag ETH_STS_LINK p = true) ∧ (n ≤ s.maxFrame p) ∧ ((s.regN .ARB_MASK).testBit (24 + p) = false) ∧ ((s.flows.find? fun e => isIngest e.1 && e.2.live && matchesFlow e.2.words x) = some (h, w))) ∧
    (let a : Agent := .cpx 0
     let p : Nat := 0
     let v : Word := 1
     let s : State := portUp.setFld ETH_STS_LINK 1 0
     (p < 4) ∧ (s.actsAsPf0 a = true) ∧ (s.servoOwner a = true) ∧ (s.flag ETH_STS_LINK p = true) ∧ (v.toNat % 16 = (s.regN .PTP_TX_TAIL p % 16 + 1) % 16) ∧ (leNat (s.load .device (s.ptpTx p (s.regN .PTP_TX_TAIL p % 16)) 2) ≤ 224)) ∧
    (let f : Nat := 0
     let p : Nat := 0
     let v : Word := 1
     let s : State := portUp.setFld ETH_STS_LINK 1 0
     (s.servoOwner (.func f) = false)) ∧
    (let s : State := { portUp.setFld ETH_STS_LINK 1 0 with tb := { State.reset.tb with refLost := false } }
     (s.tb.refLost = false)) ∧
    (let s : State := { ringOfTwo with tb := { ringOfTwo.tb with refLost := true } }
     (s.tb.refLost = true)) ∧
    (let s : State := State.reset
     (s.tb.refLost = false)) :=
  ⟨by decide, by decide, by decide, by decide, by decide, by decide, by decide, by decide, by decide, by decide, by decide, by decide, by decide, by decide, by decide, by decide, by decide, by decide, by decide, by decide, by decide, by decide⟩

/-- States and operands that meet the hypotheses of each clause of `CellsQueuesAndGatesMoveFrames`. -/
theorem test_hyps_CellsQueuesAndGatesMoveFrames :
    (let g : Nat := 1
     let w : Nat := 50
     let s : State := { State.reset with traffic := { lists := [(1, { pending := some 50, admin := { cycle := 2000, entries := [0xFF + 256 * 64] } })] } }
     ((s.list g).pending = some w) ∧ ((s.list g).admin.lock = false) ∧ ((s.list g).after = none)) ∧
    (let g : Nat := 1
     let s : State := State.reset
     ((s.list g).pending = none ∨ (s.list g).admin.lock = true)) ∧
    (let g : Nat := 1
     let c : GateCopy := { cycle := 2000, entries := [0xFF + 256 * 64, 0x0F + 256 * 64] }
     let s : State := { State.reset with traffic := { lists := [(1, { oper := some { cycle := 2000, entries := [0xFF + 256 * 64, 0x0F + 256 * 64] } })] } }
     ((s.list g).oper = some c) ∧ (c.lock = false) ∧ (c.entries.length ≤ 256)) ∧
    (let g : Nat := 1
     let s : State := State.reset
     ((s.list g).oper = none)) ∧
    (let k : Nat := 0
     let q : Nat := 3
     let f : Frame := aFrame
     let rest : List Frame := [{ aFrame with words := [1] }]
     let s : State := { sending with net := { queued := [(3, [aFrame, { aFrame with words := [1] }])] } }
     (k < 6) ∧ (storeFind s.net.sending k = none) ∧ (s.canSend k = true) ∧ (s.portQueues k = [q]) ∧ (q < 2048) ∧ (s.frames q = f :: rest) ∧ (f.kind = 0) ∧ (s.eligible k q = true) ∧ (s.oversize k (s.queueClass q) f.bytes = false)) ∧
    (let k : Nat := 0
     let x : Nat := 99
     let f : Frame := aFrame
     let s : State := { sending with net := { sending := [(0, aFrame, 99)] } }
     (k < 6) ∧ (storeFind s.net.sending k = some (f, x)) ∧ (f.kind = 0) ∧ (s.net.flushing = []) ∧ (s.canSend k = true) ∧ (s.portQueues k = [])) ∧
    (let k : Nat := 0
     let s : State := State.reset
     (6 ≤ k ∨ (storeFind s.net.sending k = none ∧ s.portQueues k = []))) ∧
    (let q : Nat := 3
     let f : Frame := aFrame
     let s : State := { sending with net := { waiting := [aFrame], queued := [(3, [aFrame])] } }
     (s.net.waiting.find? (fun x => x.queue == q) = some f) ∧ (s.cellRoom q f.cells = true)) ∧
    (let q : Nat := 3
     let f : Frame := { aFrame with relayed := true }
     let s : State := { sending.setFld CELLQ_STS_FREE 0 with net := { waiting := [{ aFrame with relayed := true }] } }
     (s.net.waiting.find? (fun x => x.queue == q) = some f) ∧ (s.cellRoom q f.cells = false)) ∧
    (let q : Nat := 3
     let f : Frame := aFrame
     let s : State := { sending.setFld CELLQ_STS_FREE 0 with net := { waiting := [aFrame] } }
     (s.net.waiting.find? (fun x => x.queue == q) = some f) ∧ (s.cellRoom q f.cells = false)) ∧
    (let h : Nat := 5
     let us : List Nat := []
     let s : State := State.reset
     (s.unsentOf h = none)) ∧
    (let h : Nat := 5
     let f : Nat := 3
     let b : Nat := 0
     let o : Nat := 0
     let l : Nat := 900
     let n : Nat := 900
     let us : List Nat := []
     let more : List Nat := [7]
     let rest : List (Nat × Nat) := []
     let s : State := sending
     (s.unsentOf h = some (false, f, b, (o, l) :: rest, n :: more)) ∧ ((s.flow f).live = true) ∧ ((word (s.flow f).words 0).testBit 4 = false) ∧ (s.flag ETH_STS_LINK (word (s.flow f).words 0 % 4) = true) ∧ (s.cellRoom f (ceilDiv (packetBytes (s.flow f).words n) 256) = true)) ∧
    (let h : Nat := 5
     let f : Nat := 3
     let b : Nat := 0
     let o : Nat := 0
     let l : Nat := 900
     let n : Nat := 900
     let us : List Nat := []
     let more : List Nat := [7]
     let rest : List (Nat × Nat) := []
     let s : State := sending.setFld ETH_STS_LINK 0 0
     (s.unsentOf h = some (false, f, b, (o, l) :: rest, n :: more)) ∧ ((s.flow f).live = true) ∧ ((word (s.flow f).words 0).testBit 4 = false) ∧ (s.flag ETH_STS_LINK (word (s.flow f).words 0 % 4) = false)) ∧
    (let a : Agent := .func 0
     let v : Word := 3
     let s : State := { sending with net := { queued := [(3, [aFrame])] } }
     (s.actsAsPf0 a = true) ∧ (v.toNat % 4096 < 2060)) ∧
    (let f : Nat := 1
     let v : Word := 3
     let s : State := State.reset
     (f ≠ 0)) ∧
    (let q : Nat := 3
     let c : Nat := 9
     let s : State := { sending with net := { sending := [(0, aFrame, 99)] } }
     (q < 2048) ∧ (s.flying q ≠ [])) ∧
    (let b : Nat := 1
     let q : Nat := 3
     let n : Nat := 4
     let x : Nat := 7
     let s : State := { (State.reset.setFld CELLQ_STS_FREE 100) with net := { sweep := some (3, 4, 7) } }
     (s.net.sweep = some (q, n, x))) ∧
    (let b : Nat := 1
     let s : State := State.reset
     (s.net.sweep = none)) ∧
    (let s : State := { inRing.putN .TK_INDEX 2 with net := { waiting := [{ aFrame with kind := 1, words := [0x20], tick := 1 }, aFrame] } }
     (s.net.queued = [])) ∧
    (let q : Nat := 2054
     let l : List Frame := [{ aFrame with queue := 2054, kind := 1, words := [0x20], tick := 1 }, { aFrame with queue := 2054, kind := 1, words := [0x21], tick := 2 }]
     let s : State := { ((State.reset.setFld CELLQ_STS_FREE 100).putN .TK_INDEX 2) with net := { queued := [(2054, [{ aFrame with queue := 2054, kind := 1, words := [0x20], tick := 1 }, { aFrame with queue := 2054, kind := 1, words := [0x21], tick := 2 }])] } }
     (s.net.queued = [(q, l)]) ∧ (l.filter s.staleHalo ≠ [])) :=
  ⟨by decide, by decide, by decide, by decide, by decide, by decide, by decide, by decide, by decide, by decide, by decide, by decide, by decide, by decide, by decide, by decide, by decide, by decide, by decide, by decide⟩

/-- States and operands that meet the hypotheses of each clause of `DeviceMemoryIsServed`. -/
theorem test_hyps_DeviceMemoryIsServed :
    (let r : MemAccess := { src := 3, sc := 1, addr := 4096, bytes := 4, data := some [1, 2, 3, 4] }
     let s : State := trained
     (s.canRequest r = true) ∧ (r.sc ≠ 0) ∧ (s.cxl.snoop = []) ∧ (s.memctl.waiting = []) ∧ (s.memctl.groups.contains (s.groupOf r.addr) = false) ∧ (s.arbFrozen 0 = false) ∧ (s.maskedAt r.src = false)) ∧
    (let r : MemAccess := { src := 3, sc := 1, addr := 4096, bytes := 4, data := some [1, 2, 3, 4] }
     let s : State := trained.setFld ARB_CTL_FREEZE 1 0
     (s.canRequest r = true) ∧ (r.sc ≠ 0) ∧ (s.cxl.snoop = []) ∧ (s.memctl.waiting = []) ∧ (s.memctl.groups.contains (s.groupOf r.addr) = true ∨ s.arbFrozen 0 = true ∨ s.maskedAt r.src = true)) ∧
    (let r : MemAccess := { src := 3, sc := 0, addr := 4096, bytes := 4 }
     let s : State := { trained with memctl := { demand := [(0, 0, 7999)] } }
     (s.canRequest r = true) ∧ (r.sc = 0) ∧ (8000 < s.sc0Demand (s.channelOf r.addr) + r.bytes)) ∧
    (let r : MemAccess := { src := 36, sc := 0, addr := 4096, bytes := 4 }
     let s : State := trained
     (s.canRequest r = false)) ∧
    (let g : Nat := 2
     let c : Nat := 0
     let n : Nat := 0
     let h : Bool := false
     let s : State := { trained with memctl := { groups := [2] } }
     (s.memctl.waiting = []) ∧ (s.memctl.groups = [g])) ∧
    (let i : Nat := 2
     let g : Nat := 0
     let c : Nat := 5
     let n : Nat := 0
     let r : Nat := 2
     let s : State := { trained with arbPtr := [(2, 1)] }
     (0 < i) ∧ (i < 8) ∧ (s.arbFrozen i = false) ∧ (arbFirst (arbRequesters i) ((storeFind s.arbPtr i).getD 0) c = some r)) ∧
    (let i : Nat := 2
     let g : Nat := 0
     let c : Nat := 5
     let n : Nat := 0
     let h : Bool := true
     let s : State := (trained.setFld ARB_CTL_FREEZE 1 2).setFld ARB_STS_DRAINED 0 2
     (0 < i) ∧ (i < 8) ∧ (s.arbFrozen i = true)) ∧
    (let i : Nat := 2
     let g : Nat := 0
     let c : Nat := 5
     let n : Nat := 3
     let s : State := ((trained.setFld ARB_STS_DRAINED 0 2).setFld ARB_STS_LAST_GRANT 2 2).setFld ARB_CTL_HOLD_MAX 9 2
     (0 < i) ∧ (i < 8) ∧ (s.arbFrozen i = false) ∧ (s.flag ARB_STS_DRAINED i = false) ∧ (c.testBit (s.fld ARB_STS_LAST_GRANT i) = true) ∧ (n < s.fld ARB_CTL_HOLD_MAX i)) ∧
    (let a : Agent := .cpx 0
     let i : Nat := 7
     let v : Word := 0x90001
     let s : State := State.reset
     (s.actsAsPf0 a = true) ∧ (0 < i) ∧ (i < 8)) ∧
    (let a : Agent := .func 0
     let v : Word := 1
     let s : State := State.reset
     (s.actsAsPf0 a = true) ∧ (v.toNat.testBit 0 = true)) ∧
    (let f : Nat := 2
     let i : Nat := 1
     let v : Word := 1
     let s : State := State.reset
     (f ≠ 0)) ∧
    (let c : Nat := 0
     let x : Nat := 3
     let e : EccResult := .corrected
     let r : MemReq := aWrite
     let d : List (BitVec 8) := [1, 2, 3, 4]
     let s : State := { trained with memctl := { bursts := [aWrite] } }
     ((s.memctl.bursts.find? fun q => q.src == x && s.channelOf q.addr == c) = some r) ∧ (r.data = some d) ∧ (r.poison = false) ∧ (r.sc ≠ 0) ∧ (s.channelFailed c = false) ∧ (e ≠ .uncorrectable)) ∧
    (let c : Nat := 0
     let x : Nat := 3
     let r : MemReq := { aWrite with data := none }
     let s : State := { trained with memctl := { bursts := [{ aWrite with data := none }] } }
     ((s.memctl.bursts.find? fun q => q.src == x && s.channelOf q.addr == c) = some r) ∧ (r.data = none) ∧ (s.channelFailed c = false) ∧ (s.rangePoisoned r.addr r.bytes = false)) ∧
    (let c : Nat := 0
     let x : Nat := 3
     let e : EccResult := .clean
     let s : State := trained
     ((s.memctl.bursts.find? fun q => q.src == x && s.channelOf q.addr == c) = none)) ∧
    (let c : Nat := 0
     let x : Nat := 3
     let b : Bool := false
     let s : State := { trained with memctl := { bursts := [aWrite], tries := [(0, 2)] } }
     (s.fld MC_CH_STS_STATE c = 2) ∧ ((s.memctl.bursts.any fun q => q.src == x && s.channelOf q.addr == c) = true) ∧ ((storeFind s.memctl.tries c).getD 0 < 3)) ∧
    (let c : Nat := 0
     let x : Nat := 3
     let b : Bool := false
     let s : State := { trained with memctl := { bursts := [aWrite], tries := [(0, 3)] } }
     (s.fld MC_CH_STS_STATE c = 2) ∧ ((s.memctl.bursts.any fun q => q.src == x && s.channelOf q.addr == c) = true) ∧ (storeFind s.memctl.tries c = some 3) ∧ (s.levels.getLsbD 2 = false)) ∧
    (let c : Nat := 0
     let x : Nat := 3
     let b : Bool := true
     let s : State := { trained with memctl := { bursts := [aWrite], tries := [(0, 3)] } }
     (s.fld MC_CH_STS_STATE c = 2) ∧ ((s.memctl.bursts.any fun q => q.src == x && s.channelOf q.addr == c) = true) ∧ (storeFind s.memctl.tries c = some 3) ∧ (s.levels.getLsbD 2 = false)) ∧
    (let c : Nat := 0
     let x : Nat := 3
     let b : Bool := true
     let s : State := State.reset
     (s.fld MC_CH_STS_STATE c ≠ 2)) ∧
    (let c : Nat := 0
     let n : Nat := 55
     let b : Bool := true
     let s : State := trained
     (c < 16) ∧ (s.fld MC_CH_STS_STATE c = 2)) ∧
    (let c : Nat := 16
     let n : Nat := 55
     let b : Bool := true
     let s : State := trained
     (16 ≤ c ∨ s.fld MC_CH_STS_STATE c ≠ 2)) ∧
    (let c : Nat := 0
     let n : Nat := 55
     let l : Nat := 9
     let x : Nat := 50
     let s : State := { trained with memctl := { trained := [(0, (9, 50)), (1, (1000005, 50))] } }
     (c < 16) ∧ (s.fld MC_CH_STS_STATE c = 2) ∧ (storeFind s.memctl.trained c = some (l, x))) ∧
    (let c : Nat := 0
     let n : Nat := 58
     let l : Nat := 9
     let x : Nat := 50
     let s : State := { trained with memctl := { trained := [(0, (9, 50))] } }
     (c < 16) ∧ (s.fld MC_CH_STS_STATE c = 2) ∧ (storeFind s.memctl.trained c = some (l, x))) ∧
    (let i : Nat := 1
     let s : State := trained.putN .MC_RETIRE_TBL (7 + 2 ^ 63) 1
     (i < 1024) ∧ (s.flag MC_RETIRE_TBL_COPYING i = true)) ∧
    (let i : Nat := 1024
     let s : State := trained
     (1024 ≤ i ∨ s.flag MC_RETIRE_TBL_COPYING i = false)) :=
  ⟨by decide, by decide, by decide, by decide, by decide, by decide, by decide, by decide, by decide, by decide, by decide, by decide, by decide, by decide, by decide, by decide, by decide, by decide, by decide, by decide, by decide, by decide, by decide, by decide⟩

/-- States and operands that meet the hypotheses of each clause of `DmaChannelsCopyAndStop`. -/
theorem test_hyps_DmaChannelsCopyAndStop :
    (let a : Agent := .func 0
     let n : Nat := 3
     let s : State := State.reset
     (s.ownsDma a n = true)) ∧
    (let f : Nat := 1
     let n : Nat := 3
     let b : Bool := false
     let p : DmaProgress := {}
     let s : State := State.reset
     (s.ownsDma (.func f) n = false)) ∧
    (let a : Agent := .cpx 0
     let n : Nat := 60
     let b : Bool := true
     let p : DmaProgress := {}
     let s : State := State.reset
     (s.ownsDma a n = true) ∧ (b = true ∨ s.flag DMA_STS_BUSY n = false)) ∧
    (let a : Agent := .func 0
     let n : Nat := 3
     let p : DmaProgress := { rows := 1, orphan := 4 }
     let s : State := copying 0
     (s.ownsDma a n = true) ∧ (s.flag DMA_STS_BUSY n = true)) ∧
    (let n : Nat := 3
     let s : State := ((copying 0).setFld DMA_STS_BUSY 0 3).putN .DMA_SH 4 52
     (n < 64) ∧ (s.flag DMA_CH_CTL_EN n = true) ∧ (s.flag DMA_CH_CTL_ARM n = true) ∧ (s.flag DMA_STS_BUSY n = false)) ∧
    (let n : Nat := 3
     let s : State := (copying 0).setFld DMA_STS_BUSY 0 3
     (n < 64) ∧ (s.flag DMA_CH_CTL_EN n = true) ∧ (s.flag DMA_CH_CTL_ARM n = true) ∧ (s.flag DMA_STS_BUSY n = false)) ∧
    (let n : Nat := 3
     let w : Nat := 4
     let v : Word := 9
     let b : Bool := true
     let s : State := ((copying 0).setFld DMA_STS_BUSY 0 3).putN .DMA_SH 4 52
     (n < 64) ∧ (w < 16) ∧ (s.flag DMA_CH_CTL_EN n = true) ∧ (s.flag DMA_CH_CTL_ARM n = true) ∧ (s.flag DMA_STS_BUSY n = false)) ∧
    (let n : Nat := 3
     let l : List (Nat × BitVec 32) := []
     let b : Bool := true
     let s : State := copying 0
     (64 ≤ n ∨ s.flag DMA_CH_CTL_EN n = false ∨ s.flag DMA_CH_CTL_ARM n = false ∨ s.flag DMA_STS_BUSY n = true)) ∧
    (let n : Nat := 3
     let bs : List (BitVec 8) := []
     let s : State := copying 0
     (n < 64) ∧ (s.flag DMA_STS_BUSY n = true) ∧ (s.dmaSrcSpace n = 0) ∧ (s.dmaDstSpace n = 0) ∧ (s.dmaAll n = 1) ∧ (s.poisonRow n = none) ∧ (s.dmaFlag n 22 = false)) ∧
    (let n : Nat := 3
     let bs : List (BitVec 8) := []
     let s : State := { copying (2 ^ 22) with cxl := { linkUp := true } }
     (n < 64) ∧ (s.flag DMA_STS_BUSY n = true) ∧ (s.cxl.linkUp = true) ∧ (s.poisonRow n = none) ∧ (s.dmaFlag n 22 = true)) ∧
    (let n : Nat := 3
     let r : Nat := 0
     let bs : List (BitVec 8) := []
     let s : State := { copying 0 with memctl := { poison := [(0, true)] }, cxl := { linkUp := true } }
     (n < 64) ∧ (s.flag DMA_STS_BUSY n = true) ∧ (s.cxl.linkUp = true) ∧ (s.poisonRow n = some r)) ∧
    (let n : Nat := 3
     let bs : List (BitVec 8) := []
     let s : State := copying (2 ^ 16)
     (n < 64) ∧ (s.flag DMA_STS_BUSY n = true) ∧ (s.dmaOverCxl n = true) ∧ (s.cxl.linkUp = false)) ∧
    (let n : Nat := 64
     let bs : List (BitVec 8) := []
     let s : State := copying 0
     (64 ≤ n ∨ s.flag DMA_STS_BUSY n = false)) ∧
    (let n : Nat := 3
     let c : Nat := 6
     let a : Nat := 77
     let p : DmaProgress := { rows := 0, orphan := 4 }
     let s : State := copying 0
     (n < 64) ∧ (4 ≤ c) ∧ (c ≤ 6) ∧ (s.flag DMA_STS_BUSY n = true)) ∧
    (let n : Nat := 3
     let c : Nat := 7
     let a : Nat := 77
     let p : DmaProgress := { rows := 0, orphan := 4 }
     let s : State := copying 0
     (64 ≤ n ∨ c < 4 ∨ 6 < c ∨ s.flag DMA_STS_BUSY n = false)) :=
  ⟨by decide, by decide, by decide, by decide, by decide, by decide, by decide, by decide, by decide, by decide, by decide, by decide, by decide, by decide, by decide⟩

/-- States and operands that meet the hypotheses of each clause of `OnChipStorageIsOwnedAndTested`. -/
theorem test_hyps_OnChipStorageIsOwnedAndTested :
    (let x : SpdAccess := { who := 1, bank := 2, offset := 0, bytes := 4 }
     let s : State := State.reset
     (x.bank < 64) ∧ (0 < x.bytes) ∧ (x.bytes ≤ 64) ∧ (x.offset < 262144) ∧ ((x.data.map List.length).getD x.bytes = x.bytes) ∧ (s.bankAwake x.bank = false ∨ s.bankServes x.who x.bank x.data.isSome = false)) ∧
    (let x : SpdAccess := { who := 1, bank := 2, offset := 60, bytes := 8 }
     let s : State := { banked with spad := [(2 * 262144, 5), (2 * 262144 + 60, 7)] }
     (x.bank < 64) ∧ (0 < x.bytes) ∧ (x.bytes ≤ 64) ∧ (x.offset < 262144) ∧ (s.bankAwake x.bank = true) ∧ (s.bankServes x.who x.bank false = true) ∧ (x.data = none) ∧ (x.other = none)) ∧
    (let x : SpdAccess := { who := 1, bank := 2, offset := 60, bytes := 8, ecc := .corrected }
     let s : State := banked.setFld SPR_CFG_BANK_CE 0
     (x.bank < 64) ∧ (0 < x.bytes) ∧ (x.bytes ≤ 64) ∧ (x.offset < 262144) ∧ (s.bankAwake x.bank = true) ∧ (s.bankServes x.who x.bank false = true) ∧ (x.data = none) ∧ (x.other = none)) ∧
    (let x : SpdAccess := { who := 7, bank := 2, offset := 60, bytes := 8, ecc := .uncorrectable }
     let s : State := banked
     (x.bank < 64) ∧ (0 < x.bytes) ∧ (x.bytes ≤ 64) ∧ (x.offset < 262144) ∧ (s.bankAwake x.bank = true) ∧ (s.bankServes x.who x.bank false = true) ∧ (x.data = none) ∧ (x.other = none)) ∧
    (let x : SpdAccess := { who := 1, bank := 2, offset := 62, bytes := 4, data := some [1, 2, 3, 4] }
     let d : List (BitVec 8) := [1, 2, 3, 4]
     let s : State := banked
     (x.bank < 64) ∧ (0 < x.bytes) ∧ (x.bytes ≤ 64) ∧ (x.offset < 262144) ∧ (s.bankAwake x.bank = true) ∧ (s.bankServes x.who x.bank true = true) ∧ (x.data = some d) ∧ (d.length = x.bytes) ∧ (x.other = none)) ∧
    (let x : SpdAccess := { who := 1, bank := 2, offset := 62, bytes := 4, data := some [1, 2, 3, 4], other := some (62, [9, 9]) }
     let o : Nat := 62
     let d : List (BitVec 8) := [1, 2, 3, 4]
     let e : List (BitVec 8) := [9, 9]
     let s : State := banked
     (x.bank < 64) ∧ (0 < x.bytes) ∧ (x.bytes ≤ 64) ∧ (x.offset < 262144) ∧ (s.bankAwake x.bank = true) ∧ (s.bankServes x.who x.bank true = true) ∧ (x.who ≤ 6) ∧ (x.data = some d) ∧ (d.length = x.bytes) ∧ (x.other = some (o, e)) ∧ (s.collide x.who x.bank x.offset x.bytes o e.length = true)) ∧
    (let x : SpdAccess := { who := 7, bank := 2, offset := 62, bytes := 4, other := some (62, [9, 9]) }
     let o : Nat := 62
     let e : List (BitVec 8) := [9, 9]
     let s : State := banked
     (x.bank < 64) ∧ (0 < x.bytes) ∧ (x.bytes ≤ 64) ∧ (x.offset < 262144) ∧ (s.bankAwake x.bank = true) ∧ (s.bankServes x.who x.bank false = true) ∧ (6 < x.who) ∧ (x.data = none) ∧ (x.other = some (o, e)) ∧ (s.fld SPD_BANK_OWN_OWNER x.bank ≤ 6) ∧ (s.collide x.who x.bank x.offset x.bytes o e.length = true)) ∧
    (let x : SpdAccess := { who := 7, bank := 64, offset := 62, bytes := 4 }
     let s : State := banked
     (64 ≤ x.bank ∨ 64 < x.bytes ∨ x.bytes = 0 ∨ 262144 ≤ x.offset)) ∧
    (let a : Agent := .cpx 0
     let b : Nat := 2
     let v : Word := 0x12
     let s : State := banked
     (s.actsAsPf0 a = true) ∧ (b < 64) ∧ (s.ownerPresent (v.toNat % 16) = true) ∧ (s.flag SPD_BANK_OWN_PENDING b = true ∨ s.fld SPD_BANK_OWN_OWNER b ≠ v.toNat % 16)) ∧
    (let a : Agent := .cpx 0
     let b : Nat := 2
     let v : Word := 0x0F
     let s : State := banked
     (s.actsAsPf0 a = true) ∧ (b < 64) ∧ (s.ownerPresent (v.toNat % 16) = false)) ∧
    (let f : Nat := 1
     let b : Nat := 2
     let k : Nat := 1
     let i : Nat := 3
     let v : Word := 0x2
     let s : State := banked
     (f ≠ 0)) ∧
    (let b : Nat := 2
     let x : Nat := 9
     let c : Bool := true
     let s : State := { banked.setFld SPD_BANK_OWN_TARGET 3 2 with banks := { handover := [(2, (9, true))] }, spad := [(2 * 262144, 5), (3 * 262144, 7)] }
     (storeFind s.banks.handover b = some (x, c))) ∧
    (let a : Agent := .func 0
     let b : Nat := 2
     let v : Word := 1
     let s : State := banked
     (s.actsAsPf0 a = true) ∧ (b < 64) ∧ (v.toNat % 4 ≠ 3) ∧ (s.flag SPD_BANK_STS_TRANSIT b = false) ∧ ((bankCycles (s.fld SPD_BANK_STS_STATE_NOW b) (v.toNat % 4)).isSome = true)) ∧
    (let a : Agent := .func 0
     let b : Nat := 2
     let v : Word := 3
     let s : State := banked
     (s.actsAsPf0 a = true) ∧ (b < 64)) ∧
    (let a : Agent := .func 0
     let b : Nat := 2
     let v : Word := 1
     let s : State := banked.setFld SPD_BANK_STS_TRANSIT 1 2
     (s.actsAsPf0 a = true) ∧ (b < 64)) ∧
    (let b : Nat := 2
     let x : Nat := 9
     let m : Nat := 2
     let s : State := { banked.setFld SPD_BANK_CFG_STATE 2 2 with banks := { moving := [(2, (9, 2))] }, spad := [(2 * 262144, 5), (3 * 262144, 7)] }
     (storeFind s.banks.moving b = some (x, m)) ∧ (m < 3) ∧ (s.fld PM_STATE_STATE < 2) ∧ (s.fld SPD_BANK_CFG_STATE b = m)) ∧
    (let u : Nat := 1
     let s : State := (State.reset.setFld SPD_WCT_CFG_EN 1).setFld PM_DOM_STS_STATE domIsOn 0
     (u < 20) ∧ (s.flag SPD_WCT_CFG_EN = true) ∧ (s.clusterPresent (unitCluster u) = true) ∧ (s.domOn (unitCluster u) = true) ∧ (storeFind s.banks.testing (unitCluster u) = none) ∧ (storeFind s.banks.nextRegion u = none) ∧ (s.testable u = true)) ∧
    (let c : Nat := 0
     let u : Nat := 1
     let r : Nat := 127
     let x : Nat := 5
     let s : State := { State.reset with banks := { testing := [(0, (1, 127, 5))] } }
     (storeFind s.banks.testing c = some (u, r, x))) ∧
    (let c : Nat := 0
     let u : Nat := 1
     let r : Nat := 127
     let x : Nat := 5
     let w : Nat := 9
     let s : State := { State.reset with banks := { testing := [(0, (1, 127, 5))] } }
     (storeFind s.banks.testing c = some (u, r, x)) ∧ (s.fld SPR_WC_ROWS_ROWS u < 32)) ∧
    (let k : Nat := 1
     let r : Nat := 2
     let s : State := pooled
     (k < 4) ∧ (s.flag BP_CFG_EN k = true) ∧ (s.fld BP_STS_IN_USE k < s.poolCount k) ∧ (6 ≤ r ∨ s.flag BP_STS_OVER k = false)) ∧
    (let k : Nat := 1
     let r : Nat := 2
     let s : State := pooled.setFld BP_STS_OVER 1 1
     (k < 4) ∧ (s.flag BP_CFG_EN k = false ∨ s.poolCount k ≤ s.fld BP_STS_IN_USE k ∨ r < 6 ∧ s.flag BP_STS_OVER k = true) ∧ (k = 3 ∨ s.flag BP_CFG_SPILL k = false)) ∧
    (let k : Nat := 1
     let s : State := pooled
     (k < 4)) ∧
    (let k : Nat := 2
     let s : State := pooled
     (k < 4)) ∧
    (let a : Agent := .func 0
     let k : Nat := 1
     let v : Word := 0
     let s : State := pooled
     (s.actsAsPf0 a = true) ∧ (k < 4)) ∧
    (let a : Agent := .func 0
     let k : Nat := 1
     let v : Word := 1
     let s : State := pooled
     (s.actsAsPf0 a = true) ∧ (k < 4)) ∧
    (let a : Agent := .func 0
     let k : Nat := 1
     let v : Word := 9
     let s : State := pooled
     (s.actsAsPf0 a = true) ∧ (k < 4)) ∧
    (let a : Agent := .func 0
     let k : Nat := 1
     let v : Word := 0
     let s : State := pooled
     (s.actsAsPf0 a = true) ∧ (k < 4)) ∧
    (let a : Agent := .func 0
     let k : Nat := 2
     let v : Word := 0x40003
     let s : State := State.reset.putN .MC_CAP (2 ^ 32)
     (s.actsAsPf0 a = true) ∧ (k < 4)) ∧
    (let a : Agent := .func 0
     let k : Nat := 2
     let v : Word := 0x40003
     let s : State := (State.reset.putN .MC_CAP (2 ^ 32)).putN .BP_BASE 64 2
     (s.actsAsPf0 a = true) ∧ (k < 4)) ∧
    (let a : Agent := .func 0
     let k : Nat := 2
     let v : Word := 3
     let s : State := State.reset
     (s.actsAsPf0 a = true) ∧ (k < 4)) ∧
    (let a : Agent := .func 0
     let k : Nat := 1
     let v : Word := 0
     let s : State := pooled.setFld BP_STS_IN_USE 0 1
     (s.actsAsPf0 a = true) ∧ (k < 4)) ∧
    (let b : Nat := 2
     let c : Option Cmd := none
     let s : State := { State.reset with spare := { copy := some (2, none) } }
     (s.spare.copy = some (b, c))) :=
  ⟨by decide, by decide, by decide, by decide, by decide, by decide, by decide, by decide, by decide, by decide, by decide, by decide, by decide, by decide, by decide, by decide, by decide, by decide, by decide, by decide, by decide, by decide, by decide, by decide, by decide, by decide, by decide, by decide, by decide, by decide, by decide, by decide⟩

/-- States and operands that meet the hypotheses of each clause of `TheHostLinkCarriesAndFails`. -/
theorem test_hyps_TheHostLinkCarriesAndFails :
    (let l : List (Nat × DmaProgress) := []
     let i : Instr := .cxlLinkDown []
     let s : State := { hosted (copying (2 ^ 16)) with pins := { perstN := true } }
     (i ∈ [.cxlLinkDown l, .refclkCxlLoss l]) ∧ (s.pins.perstN = true) ∧ (s.cxl.linkUp = true)) ∧
    (let l : List (Nat × DmaProgress) := []
     let i : Instr := .refclkCxlLoss []
     let s : State := { hosted (copying 0) with pins := { perstN := true } }
     (i ∈ [.cxlLinkDown l, .refclkCxlLoss l]) ∧ (s.pins.perstN = true) ∧ (s.cxl.linkUp = true)) ∧
    (let v : Nat := 5
     let w : Nat := 8
     let s : State := State.reset
     (s.cxl.linkUp = false) ∧ (0 < v) ∧ (v ≤ 6) ∧ (w ∈ [1, 2, 4, 8, 16]) ∧ ((∀ q : Nat, q < 64 → s.heldFor q = []))) ∧
    (let v : Nat := 5
     let w : Nat := 3
     let s : State := State.reset
     (s.cxl.linkUp = true ∨ v = 0 ∨ 6 < v ∨ w ∉ [1, 2, 4, 8, 16])) ∧
    (let s : State := hosted State.reset
     (s.cxl.linkUp = true) ∧ (s.cxlBusy = false)) ∧
    (let s : State := hosted (copying (2 ^ 16))
     (s.cxl.linkUp = false ∨ s.cxlBusy = true)) ∧
    (let h : Bool := true
     let x : WakeInfo := {}
     let s : State := { State.reset with cxl := { linkUp := true, l1 := true } }
     (s.cxl.linkUp = true) ∧ (s.cxl.l1 = true) ∧ (h = false ∨ (s.deep = false ∧ s.power.entry = none))) ∧
    (let h : Bool := true
     let x : WakeInfo := {}
     let s : State := State.reset
     (s.cxl.linkUp = false ∨ s.cxl.l1 = false)) ∧
    (let w : Nat := 4
     let s : State := hosted State.reset
     (s.cxl.linkUp = true) ∧ (w ∈ [4, 8, 16]) ∧ (w ≤ s.cxl.width)) ∧
    (let w : Nat := 2
     let s : State := hosted State.reset
     (s.cxl.linkUp = false ∨ w ∉ [4, 8, 16] ∨ s.cxl.width < w)) ∧
    (let x : CxlAccess := { addr := 2 ^ 28 + 64, bytes := 8 }
     let a : Nat := 64
     let s : State := hosted State.reset
     (s.cxl.linkUp = true) ∧ (0 < x.bytes) ∧ (x.addr % 64 + x.bytes ≤ 64) ∧ ((x.data.map List.length).getD x.bytes = x.bytes) ∧ (s.hdmAddress x.addr = some a) ∧ (x.poison = false) ∧ (x.caches = 0) ∧ (s.cxl.snoop = []) ∧ (s.memctl.waiting = []) ∧ (s.memctl.groups.contains (s.groupOf a) = false) ∧ (s.arbFrozen 0 = false) ∧ (s.maskedAt 32 = false)) ∧
    (let x : CxlAccess := { addr := 2 ^ 28 + 64, bytes := 2, data := some [1, 2], poison := true, caches := 2 }
     let a : Nat := 64
     let s : State := hosted State.reset
     (s.cxl.linkUp = true) ∧ (0 < x.bytes) ∧ (x.addr % 64 + x.bytes ≤ 64) ∧ ((x.data.map List.length).getD x.bytes = x.bytes) ∧ (s.hdmAddress x.addr = some a) ∧ (s.cxl.snoop.length < snoopEntries)) ∧
    (let x : CxlAccess := { addr := 64, bytes := 8 }
     let s : State := hosted State.reset
     (s.cxl.linkUp = true) ∧ (0 < x.bytes) ∧ (x.addr % 64 + x.bytes ≤ 64) ∧ ((x.data.map List.length).getD x.bytes = x.bytes) ∧ (s.hdmAddress x.addr = none)) ∧
    (let x : CxlAccess := { addr := 63, bytes := 2 }
     let s : State := hosted State.reset
     (s.cxl.linkUp = false ∨ x.bytes = 0 ∨ 64 < x.addr % 64 + x.bytes)) ∧
    (let l : Nat := 3
     let r : MemReq := { aWrite with lines := [3] }
     let s : State := { State.reset with cxl := { asked := [3], snoop := [(3, true), (4, false)] }, memctl := { waiting := [{ aWrite with lines := [3] }] } }
     (s.cxl.asked.contains l = true) ∧ (s.memctl.waiting = [r]) ∧ (r.lines = [l]) ∧ (r.track = none) ∧ (r.sc < 4) ∧ (s.memctl.groups.contains (s.groupOf r.addr) = false) ∧ (s.arbFrozen 0 = false) ∧ (s.maskedAt r.src = false)) ∧
    (let l : Nat := 3
     let s : State := State.reset
     (s.cxl.asked.contains l = false)) ∧
    (let q : Nat := 63
     let s : State := State.reset
     (q < 64)) ∧
    (let n : Nat := 3
     let a : Nat := 9
     let p : DmaProgress := {}
     let s : State := copying 0
     (n < 64) ∧ (s.flag DMA_STS_BUSY n = true)) ∧
    (let f : Nat := 0
     let v : Nat := 255
     let s : State := { State.reset with cxl := { pba := [(255, true)] } }
     (vectorExists f v = true) ∧ (storeFind s.cxl.pba (vectorKey f v) = some true)) ∧
    (let f : Nat := 32
     let v : Nat := 7
     let s : State := State.reset
     (vectorExists f v = true) ∧ (storeFind s.cxl.pba (vectorKey f v) = none)) ∧
    (let f : Nat := 1
     let v : Nat := 8
     let s : State := State.reset
     (vectorExists f v = false)) :=
  ⟨by decide, by decide, by decide, by decide, by decide, by decide, by decide, by decide, by decide, by decide, by decide, by decide, by decide, by decide, by decide, by decide, by decide, by decide, by decide, by decide, by decide⟩

/-- States and operands that meet the hypotheses of each clause of `FunctionsKeysAndDecodersAreSetUp`. -/
theorem test_hyps_FunctionsKeysAndDecodersAreSetUp :
    (let b : Nat := 2 ^ 28
     let n : Nat := 2 ^ 29
     let w : Nat := 1
     let g : Nat := 256
     let s : State := trainedAll
     (s.cxl.hdm.committed = false) ∧ (0 < n) ∧ (n ≤ s.hdmSize) ∧ (n % 2 ^ 28 = 0) ∧ (b % 2 ^ 28 = 0) ∧ (w ∈ [1, 2, 4, 8]) ∧ (g ∈ [256, 512, 1024, 2048, 4096, 8192, 16384])) ∧
    (let b : Nat := 2 ^ 28
     let n : Nat := 0
     let w : Nat := 1
     let g : Nat := 256
     let s : State := trainedAll
     (s.cxl.hdm.committed = false) ∧ (n = 0 ∨ s.hdmSize < n ∨ w ∉ [1, 2, 4, 8])) ∧
    (let b : Nat := 2 ^ 28
     let n : Nat := 0
     let w : Nat := 1
     let g : Nat := 256
     let s : State := hosted State.reset
     (s.cxl.hdm.committed = true)) ∧
    (let n : Nat := 32
     let l : List (Nat × DmaProgress) := []
     let s : State := State.reset
     (s.cxl.vfEnable = false) ∧ (n ≤ 32) ∧ (s.vfsRetained = 0)) ∧
    (let n : Nat := 3
     let l : List (Nat × DmaProgress) := []
     let s : State := { (State.reset.setFld CMDQ_OWNER_FUNC 2 7).setFld CMDQ_CFG_EN 1 7 with vfs := 2, cxl := { vfEnable := true } }
     (s.cxl.vfEnable = true)) ∧
    (let f : Nat := 0
     let l : List (Nat × DmaProgress) := []
     let s : State := { sending with resets := { due := none } }
     (s.inReset = false) ∧ (s.funcEnabled f = true)) ∧
    (let f : Nat := 0
     let l : List (Nat × DmaProgress) := []
     let s : State := State.reset
     (s.inReset = true ∨ s.funcEnabled f = false)) ∧
    (let c : Bool := true
     let x : StartUp := {}
     let s : State := { sending with resets := { due := none }, mem := [(5, 7)], cxl := { linkUp := true } }
     (s.inReset = false)) ∧
    (let c : Bool := false
     let x : StartUp := {}
     let s : State := { copying 0 with resets := { due := none } }
     (s.inReset = false)) ∧
    (let c : Bool := true
     let l : List (Nat × DmaProgress) := []
     let x : StartUp := {}
     let s : State := State.reset
     (s.inReset = true)) ∧
    (let x : DoeObject := { bytes := 4097, what := .plain }
     let s : State := State.reset
     (4096 < x.bytes ∨ (s.cxl.doePending = true ∧ x.taken = false))) ∧
    (let x : DoeObject := { bytes := 12, what := .plain }
     let s : State := State.reset
     (x.bytes ≤ 4096) ∧ (s.cxl.doePending = false ∨ x.taken = true) ∧ (x.what = .plain)) ∧
    (let x : DoeObject := { bytes := 12, what := .openSession }
     let s : State := secured
     (x.bytes ≤ 4096) ∧ (s.cxl.doePending = false ∨ x.taken = true) ∧ (x.what = .openSession)) ∧
    (let x : DoeObject := { bytes := 12, what := .openSession }
     let s : State := secured.putN .SEC_SESSIONS 4
     (x.bytes ≤ 4096) ∧ (s.cxl.doePending = false ∨ x.taken = true) ∧ (x.what = .openSession)) ∧
    (let x : DoeObject := { bytes := 12, what := .closeSession }
     let s : State := secured.putN .SEC_SESSIONS 4
     (x.bytes ≤ 4096) ∧ (s.cxl.doePending = false ∨ x.taken = true) ∧ (x.what = .closeSession) ∧ (s.regN .SEC_SESSIONS ≠ 0) ∧ (s.regN .SEC_SESSIONS < 2 ^ 32)) ∧
    (let x : DoeObject := { bytes := 12, what := .ideKey 0xC00 [1, 2] }
     let h : Nat := 0xC00
     let k : List (BitVec 8) := [1, 2]
     let s : State := secured.putN .SEC_SESSIONS 1
     (x.bytes ≤ 4096) ∧ (s.cxl.doePending = false ∨ x.taken = true) ∧ (x.what = .ideKey h k) ∧ (s.secError = false) ∧ (s.secWaits = false) ∧ (s.regN .SEC_SESSIONS ≠ 0) ∧ (s.fuse GLB_FUSE_CFG_CRYPTO ≠ 0) ∧ (ideSlot h = true)) ∧
    (let p : Nat := 1
     let d : Nat := 0
     let k : Nat := 1
     let s : State := { secured with security := { slots := [(0xC14, { cur := some { id := 1, bytes := [] }, loads := 1 })] } }
     (p < 2) ∧ (d < 2) ∧ (k < 2) ∧ (s.fuse GLB_FUSE_CFG_CRYPTO ≠ 0) ∧ ((s.slot (0xC00 + 16 * p + 8 * d + 4 * k)).cur ≠ none)) ∧
    (let p : Nat := 2
     let d : Nat := 0
     let k : Nat := 1
     let s : State := secured
     (2 ≤ p ∨ 2 ≤ d ∨ 2 ≤ k ∨ s.fuse GLB_FUSE_CFG_CRYPTO = 0)) ∧
    (let s : State := secured
     (s.fuse GLB_FUSE_CFG_CRYPTO ≠ 0)) ∧
    (let s : State := onPart .uz9616
     (s.fuse GLB_FUSE_CFG_CRYPTO = 0)) :=
  ⟨by decide, by decide, by decide, by decide, by decide, by decide, by decide, by decide, by decide, by decide, by decide, by decide, by decide, by decide, by decide, by decide, by decide, by decide, by decide, by decide⟩

/-- States and operands that meet the hypotheses of each clause of `StepLogKeepsTheFirstFault`. -/
theorem test_hyps_StepLogKeepsTheFirstFault :
    (let u : Nat := 5
     let r : Nat := 300
     let p : Nat := 4095
     let f : Nat := 12
     let d : UsqData := .pipe 20
     let s : State := State.reset.setFld USQ_STS_RUN 1 5
     (s.usqPresent u = true) ∧ (s.flag USQ_STS_RUN u = true) ∧ (s.flag USQ_STEP_LOG_VALID u = false)) ∧
    (let u : Nat := 0
     let r : Nat := 3
     let p : Nat := 7
     let f : Nat := 12
     let d : UsqData := .context 3
     let s : State := (State.reset.setFld USQ_STS_RUN 1 0).setFld USQ_STEP_LOG_VALID 1 0
     (s.usqPresent u = true) ∧ (s.flag USQ_STS_RUN u = true) ∧ (s.flag USQ_STEP_LOG_VALID u = true)) ∧
    (let u : Nat := 5
     let v : DWord := 9
     let s : State := State.reset.putN .USQ_STEP_LOG 77 5
     (u < 6) ∧ (s.usqPresent u = true)) ∧
    (let u : Nat := 2
     let h : Nat := 1
     let v : DWord := 9
     let s : State := State.reset.putN .USQ_STEP_LOG 77 2
     (u < 6) ∧ (s.usqPresent u = true) ∧ (h < 2) ∧ (s.cpxMay h .USQ_STEP_LOG u = true)) :=
  ⟨by decide, by decide, by decide, by decide⟩

/-- States and operands that meet the hypotheses of each clause of `HalvesLoadLeadAndAreAdopted`. -/
theorem test_hyps_HalvesLoadLeadAndAreAdopted :
    (let a : Agent := .func 0
     let s : State := State.reset.putN .CPX_BOOT_LEN 4096
     (s.actsAsPf0 a = true) ∧ (s.fld CPX_BOOT_STS_STATE = 0 ∨ s.fld CPX_BOOT_STS_STATE = 5)) ∧
    (let a : Agent := .cpx 0
     let s : State := State.reset
     (s.actsAsPf0 a = true) ∧ (s.fld CPX_BOOT_STS_STATE = 0 ∨ s.fld CPX_BOOT_STS_STATE = 5)) ∧
    (let f : Nat := 1
     let s : State := State.reset
     (f ≠ 0 ∨ (s.fld CPX_BOOT_STS_STATE ≠ 0 ∧ s.fld CPX_BOOT_STS_STATE ≠ 5))) ∧
    (let x : OxvexImage := { svn := 9, commitSvn := true }
     let s : State := (secured.setFld CPX_BOOT_STS_STATE 1).putN .AON_LEAD 3
     (s.fld CPX_BOOT_STS_STATE = 1) ∧ (s.secWaits = false) ∧ (s.imageError x = none)) ∧
    (let x : OxvexImage := { dieOk := false }
     let e : Nat := 4
     let s : State := secured.setFld CPX_BOOT_STS_STATE 1
     (s.fld CPX_BOOT_STS_STATE = 1) ∧ (s.secWaits = false) ∧ (s.imageError x = some e)) ∧
    (let x : OxvexImage := {}
     let s : State := State.reset
     (s.fld CPX_BOOT_STS_STATE ≠ 1 ∨ s.secWaits = true)) ∧
    (let o : Nat := 3
     let e : Nat := 7
     let s : State := State.reset.putN .AON_LEAD (2 + 7 * 2 ^ 32)
     (e = s.fld AON_LEAD_EPOCH) ∧ (e < 0xFFFFFFFF)) ∧
    (let o : Nat := 1
     let e : Nat := 8
     let s : State := State.reset.putN .AON_LEAD (2 + 7 * 2 ^ 32)
     (e ≠ s.fld AON_LEAD_EPOCH ∨ e = 0xFFFFFFFF)) ∧
    (let o : Nat := 1
     let e : Nat := 8
     let h : Nat := 1
     let s : State := State.reset.setFld CPX_STS_FENCED 1 1
     (h < 2) ∧ (s.flag CPX_STS_FENCED h = true)) ∧
    (let s : State := (State.reset.putN .AON_LEAD 0).putN .CPX_BELIEF (6 * 2 ^ 32) 1
     (s.flag AON_LEAD_VALID = false)) ∧
    (let s : State := State.reset.putN .AON_LEAD 2
     (s.flag AON_LEAD_VALID = true)) ∧
    (let a : Agent := .func 0
     let h : Nat := 1
     let s : State := (State.reset.putN .AON_LEAD 2).setFld CPX_STS_RUNNING 1 1
     (s.actsAsPf0 a = true) ∧ (s.mayHalt a h = true)) ∧
    (let a : Agent := .cpx 0
     let h : Nat := 1
     let s : State := (State.reset.putN .AON_LEAD 2).setFld CPX_CTL_ADOPT 1 1
     (s.actsAsPf0 a = true) ∧ (s.mayHalt a h = true)) ∧
    (let a : Agent := .cpx 0
     let h : Nat := 1
     let s : State := ((State.reset.putN .AON_LEAD 2).setFld CPX_CTL_ADOPT 1 1).setFld CPX_STS_HALTED 1 1
     (s.actsAsPf0 a = true) ∧ (s.mayHalt a h = true)) ∧
    (let f : Nat := 1
     let h : Nat := 1
     let b : Bool := false
     let s : State := State.reset
     (s.mayHalt (.func f) h = false)) ∧
    (let u : Nat := 4
     let w : Nat := 5000
     let n : Option Nat := some 300
     let s : State := State.reset.setFld USQ_STS_RUN 1 4
     (s.usqPresent u = true) ∧ (s.flag USQ_STS_RUN u = true) ∧ (storeFind s.ctl.faults u = none)) ∧
    (let u : Nat := 0
     let w : Nat := 5
     let h : Nat := 5
     let n : Option Nat := none
     let s : State := { sending.setFld USQ_STS_RUN 1 0 with ctl := { faults := [(0, [.context 5])] } }
     (s.usqPresent u = true) ∧ (s.flag USQ_STS_RUN u = true) ∧ (storeFind s.ctl.faults u = some [.context h]) ∧ ((s.stream h).st ≠ .free) ∧ ((s.stream h).dec = false)) ∧
    (let u : Nat := 4
     let ps : List Nat := []
     let s : State := State.reset.setFld USQ_STS_RUN 1 4
     (s.usqPresent u = true) ∧ (s.flag USQ_STS_RUN u = true) ∧ (ps = [])) ∧
    (let u : Nat := 4
     let r : Nat := 1
     let p : Nat := 2
     let f : Nat := 3
     let d : UsqData := .context 9
     let s : State := State.reset.setFld USQ_STS_RUN 1 4
     (s.usqPresent u = true) ∧ (s.flag USQ_STS_RUN u = true)) ∧
    (let u : Nat := 4
     let w : Nat := 1
     let r : Nat := 1
     let p : Nat := 2
     let f : Nat := 3
     let n : Option Nat := none
     let b : Bool := false
     let d : UsqData := .context 9
     let ps : List Nat := []
     let s : State := State.reset
     (s.usqPresent u = false ∨ s.flag USQ_STS_RUN u = false)) :=
  ⟨by decide, by decide, by decide, by decide, by decide, by decide, by decide, by decide, by decide, by decide, by decide, by decide, by decide, by decide, by decide, by decide, by decide, by decide, by decide, by decide⟩

/-- States and operands that meet the hypotheses of each clause of `InjectionRecordsAnOccurrence`. -/
theorem test_hyps_InjectionRecordsAnOccurrence :
    (let a : Agent := .func 0
     let v : Word := 0x10C
     let s : State := { State.reset with chip := { strapTest := true } }
     (s.actsAsPf0 a = true) ∧ (s.chip.strapTest = true) ∧ (v.toNat.testBit 8 = true) ∧ (v.toNat % 64 < 37)) ∧
    (let a : Agent := .func 0
     let v : Word := 0x10C
     let s : State := State.reset
     (s.actsAsPf0 a = true) ∧ (s.chip.strapTest = false)) :=
  ⟨by decide, by decide⟩

/-- States and operands that meet the hypotheses of each clause of `SourcesAreClaimedAndFaultsCleared`. -/
theorem test_hyps_SourcesAreClaimedAndFaultsCleared :
    (let a : Agent := .func 0
     let x : Nat := 9
     let n : Nat := 92
     let s : State := raised
     (handles a x = true) ∧ (s.bestSource x = some n) ∧ (s.live n = true)) ∧
    (let a : Agent := .func 0
     let x : Nat := 255
     let s : State := raised
     (handles a x = true) ∧ (s.bestSource x = none) ∧ (x < 768)) ∧
    (let a : Agent := .func 1
     let x : Nat := 9
     let s : State := raised
     (handles a x = false)) ∧
    (let a : Agent := .func 0
     let x : Nat := 9
     let n : Nat := 70
     let p : Nat := 3
     let v : Word := 70
     let rest : List (Nat × Nat) := [(71, 2)]
     let s : State := { State.reset with targets := [(9, { stack := [(70, 3), (71, 2)] })] }
     (handles a x = true) ∧ (s.fencedAgent a = false) ∧ ((s.target x).stack = (n, p) :: rest) ∧ (v.toNat % 256 = n)) ∧
    (let a : Agent := .func 0
     let x : Nat := 9
     let v : Word := 71
     let s : State := { State.reset.setFld IC_CTL_STRICT 1 with targets := [(9, { stack := [(70, 3), (71, 2)] })] }
     (handles a x = true) ∧ (s.fencedAgent a = false) ∧ (((s.target x).stack.head?.map Prod.fst) ≠ some (v.toNat % 256))) ∧
    (let a : Agent := .func 0
     let x : Nat := 9
     let v : Word := 72
     let s : State := { State.reset.setFld IC_CTL_STRICT 0 with targets := [(9, { stack := [(70, 3), (71, 2)] })] }
     (handles a x = true) ∧ (s.fencedAgent a = false) ∧ (((s.target x).stack.head?.map Prod.fst) ≠ some (v.toNat % 256))) ∧
    (let f : Nat := 1
     let x : Nat := 9
     let v : Word := 72
     let s : State := State.reset
     (handles (.func f) x = false)) ∧
    (let a : Agent := .cpx 0
     let n : Nat := 249
     let v : Word := 0x0100F5
     let s : State := State.reset
     (s.actsAsPf0 a = true) ∧ (64 ≤ n) ∧ (n < 250)) ∧
    (let a : Agent := .func 0
     let n : Nat := 64
     let v : Word := 0x10005
     let s : State := State.reset
     (s.actsAsPf0 a = true) ∧ (64 ≤ n) ∧ (n < 250)) ∧
    (let f : Nat := 0
     let n : Nat := 63
     let v : Word := 0xFF05
     let s : State := State.reset
     (n < 64) ∧ (f = s.fld CPLQ_OWNER_FUNC n) ∧ (f ≤ 32)) ∧
    (let f : Nat := 2
     let n : Nat := 63
     let v : Word := 0x0805
     let s : State := State.reset.setFld CPLQ_OWNER_FUNC 2 63
     (n < 64) ∧ (f = s.fld CPLQ_OWNER_FUNC n) ∧ (f ≤ 32)) ∧
    (let f : Nat := 2
     let n : Nat := 63
     let v : Word := 0x0805
     let s : State := State.reset
     ((n < 64 ∧ f ≠ s.fld CPLQ_OWNER_FUNC n) ∨ (64 ≤ n ∧ f ≠ 0) ∨ 250 ≤ n)) ∧
    (let x : Nat := 9
     let s : State := { raised with cxl := { unmasked := [(9, true)] } }
     (targetExists x = true) ∧ ((s.target x).signalled = false) ∧ (s.deliverable x ≠ [])) ∧
    (let x : Nat := 768
     let s : State := raisedCpx
     (targetExists x = true) ∧ ((s.target x).signalled = false) ∧ (s.deliverable x ≠ [])) ∧
    (let x : Nat := 9
     let s : State := State.reset
     (targetExists x = false ∨ (s.target x).signalled = true ∨ s.deliverable x = [])) ∧
    (let a : Agent := .func 0
     let v : DWord := 0xFF
     let s : State := State.reset.putN .FC_STATUS 0x108
     (s.actsAsPf0 a = true) ∧ (s.levels = 0)) ∧
    (let a : Agent := .func 0
     let v : DWord := 0xFF
     let f : Nat := 3
     let s : State := { State.reset.putN .FC_STATUS 0x108 with levels := 8 }
     (s.actsAsPf0 a = true) ∧ (f < 37) ∧ (v.getLsbD f = true) ∧ ((s.reg .FC_STATUS).getLsbD f = true) ∧ (s.levels.getLsbD f = true)) ∧
    (let a : Agent := .func 0
     let v : DWord := 0xFF
     let s : State := State.reset.putN .FC_STATUS 0x108
     (s.actsAsPf0 a = true)) ∧
    (let f : Nat := 2
     let v : DWord := 7
     let w : Word := 3
     let s : State := State.reset
     (f ≠ 0)) :=
  ⟨by decide, by decide, by decide, by decide, by decide, by decide, by decide, by decide, by decide, by decide, by decide, by decide, by decide, by decide, by decide, by decide, by decide, by decide, by decide⟩

/-- States and operands that meet the hypotheses of each clause of `DomainsSleepAndWake`. -/
theorem test_hyps_DomainsSleepAndWake :
    (let d : Nat := 0
     let x : Nat := 5
     let s : State := { State.reset.setFld TK_CTRL_EN 1 with power := { onAt := [(0, 5)] } }
     (d < 24) ∧ (storeFind s.power.onAt d = some x) ∧ (s.flag TK_CTRL_EN = true) ∧ (s.cmd.outstanding = [])) ∧
    (let d : Nat := 3
     let s : State := State.reset
     (storeFind s.power.onAt d = none)) ∧
    (let v : Word := 1
     let s : State := State.reset.setFld PM_STATE_STATE 1
     (v.toNat % 4 = 1 ∨ v.toNat % 4 = 2) ∧ (s.fld PM_STATE_STATE = 1) ∧ (s.fld CMDQ_HELD_COUNT = 0) ∧ ((∀ q : Nat, q < 64 → s.fld CMDQ_STS_PENDING q = 0 ∧ s.flag DMA_STS_BUSY q = false)) ∧ (s.codec.enc = []) ∧ (s.codec.dec = []) ∧ ((v.toNat % 4 = 2 → s.cxl.l1 = true)) ∧ (s.flag PM_STATE_ENTERING = false) ∧ (s.flag PM_STATE_WAKING = false)) ∧
    (let v : Word := 1
     let w : WakeCause := .hostAccess
     let d3 : Bool := false
     let s : State := State.reset.setFld PM_STATE_STATE 1
     (v.toNat % 4 = 1 ∨ v.toNat % 4 = 2) ∧ (State.sleepRefused { s with cxl := { s.cxl with d3hot := d3 } } (v.toNat % 4) = none) ∧ (s.wakes (v.toNat % 4) w = true) ∧ (w ≠ .d0)) ∧
    (let v : Word := 2
     let w : Option WakeCause := none
     let d3 : Bool := false
     let e : Nat := 3
     let s : State := State.reset.setFld PM_STATE_STATE 1
     (v.toNat % 4 = 1 ∨ v.toNat % 4 = 2) ∧ (State.sleepRefused { s with cxl := { s.cxl with d3hot := d3 } } (v.toNat % 4) = some e)) ∧
    (let f : Nat := 1
     let v : Word := 1
     let w : Option WakeCause := none
     let d3 : Bool := false
     let s : State := State.reset
     (f ≠ 0 ∨ v.toNat % 4 = 3)) ∧
    (let w : WakeCause := .hostAccess
     let x : WakeInfo := {}
     let s : State := State.reset.setFld PM_STATE_STATE 2
     (s.power.entry = none) ∧ (2 ≤ s.fld PM_STATE_STATE) ∧ (s.wakes (s.fld PM_STATE_STATE - 1) w = true)) ∧
    (let w : WakeCause := .hostAccess
     let x : WakeInfo := { ap := 2 }
     let p : Nat × Nat := (1, 0)
     let s : State := { State.reset.setFld PM_STATE_ENTERING 1 with power := { entry := some (1, 0) } }
     (s.power.entry = some p) ∧ (s.wakes p.1 w = true) ∧ (x.ap < 4)) :=
  ⟨by decide, by decide, by decide, by decide, by decide, by decide, by decide, by decide⟩

/-- States and operands that meet the hypotheses of each clause of `RegionsSlowAndTheSupplyIsWatched`. -/
theorem test_hyps_RegionsSlowAndTheSupplyIsWatched :
    (let i : Nat := 2
     let mv : Nat := 300
     let s : State := State.reset
     (i < 8)) ∧
    (let i : Nat := 2
     let mv : Nat := 300
     let s : State := State.reset
     (i < 8) ∧ (s.fld DRP_CFG_CRIT_MV i ≤ mv) ∧ (s.fld DRP_CFG_SLOW_MV i ≤ mv) ∧ (storeFind s.power.critAt i = none) ∧ (s.flag DRP_STS_CRIT i = false)) ∧
    (let i : Nat := 8
     let mv : Nat := 300
     let s : State := State.reset
     (8 ≤ i)) ∧
    (let i : Nat := 7
     let x : Nat := 9
     let s : State := { State.reset with power := { critAt := [(7, 9)] } }
     (i < 8) ∧ (storeFind s.power.critAt i = some x)) ∧
    (let i : Nat := 7
     let s : State := State.reset
     (storeFind s.power.critAt i = none)) ∧
    (let i : Nat := 7
     let x : Nat := 9
     let s : State := { State.reset.setFld DRP_STS_SLOWED 1 7 with power := { holdAt := [(7, 9)], slowAt := [(7, 5)] } }
     (i < 8) ∧ (storeFind s.power.holdAt i = some x)) ∧
    (let i : Nat := 7
     let s : State := State.reset
     (storeFind s.power.holdAt i = none)) ∧
    (let s : State := State.reset
     (s.resets.shut = false)) ∧
    (let s : State := { State.reset with resets := { shut := true } }
     (s.resets.shut = true)) ∧
    (let v : Word := 900
     let a : Agent := .func 0
     let s : State := State.reset
     (s.actsAsPf0 a = true)) ∧
    (let f : Nat := 1
     let v : Word := 900
     let s : State := State.reset
     (f ≠ 0)) ∧
    (let mv : Nat := 700
     let b : Bool := true
     let s : State := State.reset
     (mv < 1024)) :=
  ⟨by decide, by decide, by decide, by decide, by decide, by decide, by decide, by decide, by decide, by decide, by decide, by decide⟩

/-- States and operands that meet the hypotheses of each clause of `MonitorsSampleAndSnapshot`. -/
theorem test_hyps_MonitorsSampleAndSnapshot :
    (let m : Nat := 3
     let v : Nat := 700
     let droop : List Nat := []
     let temp : List Nat := []
     let s : State := ((State.reset.putN .MON_CFG 0x800010 3).setFld PM_AVS_STS_MEASURED_MV 700).putN .MON_LIMIT 500 3
     (m < 32) ∧ (natField (s.regN .MON_CFG m) 23 1 = 1) ∧ (v < 2 ^ 32) ∧ (s.levelOf (natField (s.regN .MON_CFG m) 0 8) (natField (s.regN .MON_CFG m) 8 12) droop temp = some v)) ∧
    (let m : Nat := 4
     let droop : List Nat := []
     let temp : List Nat := []
     let s : State := State.reset
     (m < 32) ∧ (natField (s.regN .MON_CFG m) 23 1 = 0 ∨ s.levelOf (natField (s.regN .MON_CFG m) 0 8) (natField (s.regN .MON_CFG m) 8 12) droop temp = none)) ∧
    (let a : Agent := .func 0
     let m : Nat := 5
     let s : State := (State.reset.putN .MON_COUNT 4 5).putN .MON_CFG 0x400000 5
     (s.actsAsPf0 a = true) ∧ (s.flag TK_CTRL_EN = false) ∧ (m < 32) ∧ (s.regN .MON_COUNT m ≠ 0)) ∧
    (let a : Agent := .func 0
     let m : Nat := 5
     let s : State := ((State.reset.putN .MON_COUNT 4 5).putN .MON_HIST 4 321).putN .MON_MIN 9 5
     (s.actsAsPf0 a = true) ∧ (s.flag TK_CTRL_EN = false) ∧ (m < 32) ∧ (s.regN .MON_COUNT m ≠ 0)) ∧
    (let f : Nat := 1
     let s : State := State.reset
     (f ≠ 0 ∨ s.flag TK_CTRL_EN = true)) :=
  ⟨by decide, by decide, by decide, by decide, by decide⟩

/-- States and operands that meet the hypotheses of each clause of `WearAndFailuresAreFound`. -/
theorem test_hyps_WearAndFailuresAreFound :
    (let u : Nat := 32
     let ppm : Int := -20000
     let s : State := State.reset.setFld SPR_CFG_AUTO_AGE 1
     (u < 34)) ∧
    (let u : Nat := 4
     let ppm : Int := 0
     let s : State := State.reset
     (u < 34)) ∧
    (let u : Nat := 34
     let ppm : Int := 0
     let s : State := State.reset
     (34 ≤ u)) ∧
    (let s : State := State.reset
     (s.flag SPR_STS_PLL_SEL = false) ∧ (s.pllBOk = true)) ∧
    (let s : State := State.reset.setFld SPR_FAILED_PLL_B 1
     (s.flag SPR_STS_PLL_SEL = false) ∧ (s.pllBOk = false)) ∧
    (let s : State := State.reset.setFld SPR_STS_PLL_SEL 1
     (s.flag SPR_STS_PLL_SEL = true)) ∧
    (let e : Nat := 5
     let rest : List Nat := []
     let s : State := { State.reset with spare := { writing := [5] } }
     (s.spare.writing = e :: rest) ∧ (s.spare.log.length < 2048)) ∧
    (let s : State := State.reset
     (s.spare.writing = [])) ∧
    (let s : State := secured
     (s.fld SEC_STS_STATE = 2) ∧ (s.levels.getLsbD 29 = false) ∧ (s.flows = [])) ∧
    (let s : State := State.reset
     (s.fld SEC_STS_STATE ≠ 2)) ∧
    (let h : Nat := 7
     let s : State := secured
     (keyHandle h = true) ∧ (h ≠ 0xD00)) ∧
    (let h : Nat := 0xD01
     let s : State := State.reset
     (keyHandle h = false) ∧ (h ≠ 0xD00)) ∧
    (let r : Reg := .PM_TEMP
     let n : Nat := 2
     let s : State := State.reset
     ((n, r) ∈ [(0, Reg.AON_LEAD), (1, Reg.FC_STATUS), (2, Reg.PM_TEMP), (3, Reg.PM_STATE), (4, Reg.GLB_RST_STS)])) :=
  ⟨by decide, by decide, by decide, by decide, by decide, by decide, by decide, by decide, by decide, by decide, by decide, by decide, by decide⟩

/-- States and operands that meet the hypotheses of each clause of `ResetsReachWhatTheyName`. -/
theorem test_hyps_ResetsReachWhatTheyName :
    (let x : StartUp := {}
     let s : State := { State.reset with resets := { due := none }, mem := [(4, 5)] }
     (s.inReset = false) ∧ (s.flag GLB_PERST_CFG_MODE = false) ∧ ((∀ n : Nat, n < 64 → s.flag DMA_STS_BUSY n = false))) ∧
    (let x : StartUp := {}
     let s : State := { State.reset with resets := { due := none }, mem := [(4, 5)] }
     (s.inReset = false) ∧ (s.flag GLB_PERST_CFG_MODE = false) ∧ ((∀ n : Nat, n < 64 → s.flag DMA_STS_BUSY n = false))) ∧
    (let hot : Bool := true
     let l : List (Nat × DmaProgress) := []
     let x : StartUp := {}
     let s : State := State.reset
     (s.inReset = true)) ∧
    (let hot : Bool := true
     let l : List (Nat × DmaProgress) := []
     let x : StartUp := {}
     let s : State := { State.reset.setFld GLB_PERST_CFG_MODE 1 with resets := { due := none } }
     (s.inReset = false) ∧ (s.flag GLB_PERST_CFG_MODE = true)) ∧
    (let c : Nat := 0
     let x : StartUp := {}
     let s : State := State.reset
     (s.resets.due = some c) ∧ (s.resets.shut = false) ∧ (s.resets.rail = false)) ∧
    (let c : Nat := 3
     let x : StartUp := {}
     let s : State := { State.reset with resets := { due := some 3 } }
     (s.resets.due = some c) ∧ (s.resets.shut = false) ∧ (s.resets.rail = false)) ∧
    (let x : StartUp := {}
     let s : State := { State.reset with resets := { due := none } }
     (s.resets.due = none ∨ s.resets.shut = true ∨ s.resets.rail = true)) ∧
    (let l : List (Nat × DmaProgress) := []
     let s : State := { (State.reset.setFld GLB_PERST_CFG_MODE 1).setFld CMDQ_CFG_EN 1 3 with resets := { due := none }, vfs := 2, cxl := { linkUp := true, vfEnable := true } }
     (s.inReset = false) ∧ (s.flag GLB_PERST_CFG_MODE = true)) ∧
    (let l : List (Nat × DmaProgress) := []
     let s : State := State.reset
     (s.inReset = true ∨ s.flag GLB_PERST_CFG_MODE = false)) ∧
    (let v : Word := 0xA5A50001
     let x : StartUp := {}
     let s : State := { State.reset with resets := { due := none }, mem := [(4, 5)] }
     (s.inReset = false) ∧ (v.toNat / 65536 = 0xA5A5) ∧ (v.toNat.testBit 0 = true) ∧ (v.toNat.testBit 1 = false) ∧ ((∀ n : Nat, n < 64 → s.flag DMA_STS_BUSY n = false))) ∧
    (let v : Word := 0xA5A50002
     let x : StartUp := {}
     let s : State := { State.reset with mem := [(4, 5)] }
     (s.resets.shut = false) ∧ (s.resets.rail = false) ∧ (v.toNat / 65536 = 0xA5A5) ∧ (v.toNat.testBit 1 = true)) ∧
    (let f : Nat := 0
     let v : Word := 0xA5A60007
     let x : StartUp := {}
     let l : List (Nat × DmaProgress) := []
     let s : State := State.reset
     (f ≠ 0 ∨ (v.toNat / 65536 ≠ 0xA5A5 ∧ (v.toNat.testBit 0 = true ∨ v.toNat.testBit 1 = true)))) ∧
    (let a : Agent := .func 0
     let v : Word := 4
     let s : State := { State.reset with resets := { due := none } }
     (s.actsAsPf0 a = true) ∧ (v.toNat.testBit 0 = false) ∧ (v.toNat.testBit 1 = false) ∧ (v.toNat.testBit 2 = true) ∧ (s.inReset = false)) ∧
    (let a : Agent := .func 0
     let v : Word := 12
     let s : State := { State.reset with resets := { due := none }, power := { halfReset := 2 } }
     (s.actsAsPf0 a = true) ∧ (v.toNat.testBit 0 = false) ∧ (v.toNat.testBit 1 = false) ∧ (v.toNat.testBit 2 = true) ∧ (s.inReset = false)) ∧
    (let a : Agent := .func 0
     let h : Nat := 1
     let v : Word := 12
     let s : State := { State.reset with resets := { due := none } }
     (s.actsAsPf0 a = true) ∧ (v.toNat.testBit 0 = false) ∧ (v.toNat.testBit 1 = false) ∧ (v.toNat.testBit 2 = true) ∧ (s.inReset = false) ∧ (h = v.toNat / 8 % 2) ∧ (h ≠ s.leadHalf) ∧ (s.power.halfReset = 0)) ∧
    (let h : Nat := 1
     let ok : Bool := true
     let s : State := { State.reset.setFld CPX_BOOT_STS_STATE 4 with power := { halfReset := 2 } }
     (h < 2) ∧ (s.power.halfReset.testBit h = true) ∧ (s.power.halfReset < 4) ∧ (s.ring = {}) ∧ (s.fld CPX_BOOT_STS_STATE = 4)) ∧
    (let h : Nat := 0
     let ok : Bool := false
     let s : State := { State.reset.setFld CPX_BOOT_STS_STATE 4 with power := { halfReset := 3 } }
     (h < 2) ∧ (s.power.halfReset.testBit h = true) ∧ (s.power.halfReset < 4) ∧ (s.ring = {}) ∧ (s.fld CPX_BOOT_STS_STATE = 4)) ∧
    (let h : Nat := 0
     let ok : Bool := true
     let s : State := State.reset
     (2 ≤ h ∨ s.power.halfReset.testBit h = false)) ∧
    (let h : Nat := 5
     let v : Word := 0x80000005
     let s : State := { State.reset with streams := [(5, { st := .configured, refs := [3], res := { pool := [3] } })] }
     (h = v.toNat % 512) ∧ (v.toNat.testBit 31 = true) ∧ ((s.stream h).st = .configured ∨ (s.stream h).st = .running)) ∧
    (let h : Nat := 5
     let v : Word := 0x80000005
     let s : State := { State.reset with streams := [(5, { st := .running, dec := true, refs := [3] })] }
     (h = v.toNat % 512) ∧ (v.toNat.testBit 31 = true) ∧ ((s.stream h).st = .configured ∨ (s.stream h).st = .running)) ∧
    (let f : Nat := 1
     let h : Nat := 5
     let v : Word := 0x80000005
     let s : State := State.reset
     (h = v.toNat % 512) ∧ (v.toNat.testBit 31 = true) ∧ ((s.stream h).func ≠ f ∨ (s.stream h).st ∉ [.configured, .running])) ∧
    (let a : Agent := .func 0
     let v : Word := 1
     let s : State := { State.reset with survivors := [(5, {})] }
     (s.actsAsPf0 a = true) ∧ (v.toNat.testBit 0 = true)) ∧
    (let f : Nat := 1
     let v : Word := 1
     let s : State := State.reset
     (f ≠ 0 ∨ v.toNat.testBit 0 = false)) :=
  ⟨by decide, by decide, by decide, by decide, by decide, by decide, by decide, by decide, by decide, by decide, by decide, by decide, by decide, by decide, by decide, by decide, by decide, by decide, by decide, by decide, by decide, by decide, by decide⟩

/-- States and operands that meet the hypotheses of each clause of `RegisterWritesFollowTheAccessRules`. -/
theorem test_hyps_RegisterWritesFollowTheAccessRules :
    (let f : Nat := 0
     let off : Nat := 0x100048
     let i : Nat := 0
     let b : Nat := 0
     let n : Nat := 3
     let r : Reg := .TB_EVT
     let v : DWord := 8
     let w : DWord := 8
     let s : State := State.reset.putN .TB_EVT 0xC 0
     (s.funcEnabled f = true) ∧ (off + 4 ≤ barSize) ∧ (off % 4 = 0) ∧ (reachOf (.func f) off = some (r, i, b)) ∧ (r ∉ [.FB_DESC_BASE, .FB_DESC_DIM, .SEC_STS]) ∧ ((regInfo r).wide = false) ∧ ((regInfo r).anyClears = false) ∧ (w = BitVec.ofNat 64 (v.toNat % 2 ^ 32)) ∧ (s.regPresent r i = true) ∧ (ownRow (.func f) r i w s = none) ∧ (s.mayWrite (.func f) f r i = true) ∧ (s.commitReg f r i w = s.plainWrite r i w)) ∧
    (let f : Nat := 0
     let off : Nat := 0xB010DC
     let i : Nat := 3
     let b : Nat := 0
     let n : Nat := 1
     let r : Reg := .MC_CH_EVT_EN
     let v : DWord := 0xFFFFFFFF
     let w : DWord := 0xFFFFFFFF
     let s : State := State.reset
     (s.funcEnabled f = true) ∧ (off + 4 ≤ barSize) ∧ (off % 4 = 0) ∧ (reachOf (.func f) off = some (r, i, b)) ∧ (r ∉ [.FB_DESC_BASE, .FB_DESC_DIM, .SEC_STS]) ∧ ((regInfo r).wide = false) ∧ ((regInfo r).anyClears = false) ∧ (w = BitVec.ofNat 64 (v.toNat % 2 ^ 32)) ∧ (s.regPresent r i = true) ∧ (ownRow (.func f) r i w s = none) ∧ (s.mayWrite (.func f) f r i = true) ∧ (s.commitReg f r i w = s.plainWrite r i w)) ∧
    (let f : Nat := 0
     let off : Nat := 0x380104
     let i : Nat := 1
     let b : Nat := 0
     let r : Reg := .FC_CNT
     let v : DWord := 8
     let w : DWord := 8
     let s : State := State.reset.putN .FC_CNT 0xC 1
     (s.funcEnabled f = true) ∧ (off + 4 ≤ barSize) ∧ (off % 4 = 0) ∧ (reachOf (.func f) off = some (r, i, b)) ∧ ((regInfo r).wide = false) ∧ ((regInfo r).anyClears = true) ∧ (r ∉ [.FB_DESC_BASE, .FB_DESC_DIM, .SEC_STS]) ∧ (w = BitVec.ofNat 64 (v.toNat % 2 ^ 32)) ∧ (s.regPresent r i = true) ∧ (ownRow (.func f) r i w s = none) ∧ (s.mayWrite (.func f) f r i = true) ∧ (s.commitReg f r i w = s.plainWrite r i w)) ∧
    (let q : Nat := 3
     let v : DWord := 0x123456789ABCDEF1
     let s : State := State.reset
     (q < 64) ∧ (s.fld CMDQ_OWNER_FUNC q = 0) ∧ (s.flag CMDQ_CFG_EN q = false)) ∧
    (let q : Nat := 3
     let v : DWord := 0x123456789ABCDEF1
     let w : Word := 0x5000
     let s : State := { State.reset with lowHeld := [(regKey .CMDQ_BASE 3, 0x5000)] }
     (q < 64) ∧ (s.fld CMDQ_OWNER_FUNC q = 0) ∧ (s.flag CMDQ_CFG_EN q = false) ∧ (storeFind s.lowHeld (regKey .CMDQ_BASE q) = some w)) ∧
    (let a : Agent := .func 0
     let off : Nat := 0x100001
     let n : Nat := 4
     let v : DWord := 1
     let s : State := State.reset
     (off + n ≤ barSize) ∧ ((n ≠ 4 ∧ n ≠ 8) ∨ (n = 4 ∧ off % 4 ≠ 0) ∨ (n = 8 ∧ off % 8 ≠ 0))) ∧
    (let a : Agent := .func 0
     let off : Nat := 0x90
     let v : DWord := 1
     let s : State := State.reset
     (off + 4 ≤ barSize) ∧ (reachOf a off = none)) ∧
    (let a : Agent := .func 0
     let off : Nat := 0x583010
     let i : Nat := 3
     let b : Nat := 0
     let r : Reg := .SCT_EVT
     let v : DWord := 1
     let s : State := onPart .uz9612C
     (off + 4 ≤ barSize) ∧ (reachOf a off = some (r, i, b)) ∧ ((regInfo r).wide = false) ∧ (r ∉ [.FB_DESC_BASE, .FB_DESC_DIM]) ∧ (s.regPresent r i = false)) ∧
    (let a : Agent := .func 5
     let off : Nat := 0
     let n : Nat := 4
     let v : DWord := 1
     let s : State := State.reset
     (s.agentExists a = false)) ∧
    (let f : Nat := 3
     let off : Nat := 0x100024
     let i : Nat := 0
     let b : Nat := 0
     let r : Reg := .TB_LOCK_CFG
     let v : DWord := 1
     let s : State := State.reset
     (off + 4 ≤ barSize) ∧ (reachOf (.func f) off = some (r, i, b)) ∧ ((regInfo r).wide = false) ∧ (r ∉ [.FB_DESC_BASE, .FB_DESC_DIM]) ∧ (ownRow (.func f) r i (BitVec.ofNat 64 (v.toNat % 2 ^ 32)) s = none) ∧ (s.mayWrite (.func f) f r i = false)) ∧
    (let h : Nat := 1
     let off : Nat := 0x100024
     let i : Nat := 0
     let b : Nat := 0
     let r : Reg := .TB_LOCK_CFG
     let v : DWord := 1
     let s : State := State.reset
     (h < 2) ∧ (off + 4 ≤ barSize) ∧ (off % 4 = 0) ∧ (reachOf (.cpx h) off = some (r, i, b)) ∧ ((regInfo r).wide = false) ∧ (r ∉ [.FB_DESC_BASE, .FB_DESC_DIM]) ∧ (s.regPresent r i = true) ∧ (ownRow (.cpx h) r i (BitVec.ofNat 64 (v.toNat % 2 ^ 32)) s = none) ∧ (s.cpxMay h r i = false)) ∧
    (let f : Nat := 0
     let off : Nat := 0x4000000
     let n : Nat := 4
     let v : DWord := 1
     let s : State := State.reset
     (s.funcEnabled f = true) ∧ (barSize < off + n)) ∧
    (let f : Nat := 0
     let q : Nat := 3
     let v : DWord := 5
     let s : State := State.reset
     (s.funcEnabled f = true) ∧ (q < 64)) :=
  ⟨by decide, by decide, by decide, by decide, by decide, by decide, by decide, by decide, by decide, by decide, by decide, by decide, by decide⟩

end Sys2Proof.Tests
end

section
/-!
SUPPORT. The shared layer of these proofs: how a command's run gives a state, folds, frames of registers, sources that pend.
-/
namespace Sys2Proof.Machine

/-! ### What a command gives -/

/-- A command that ends in a state gives that state with the outputs that follow. -/
theorem gives_finish {c : Instr} {s u : State} {P : State → Prop} (h : exec c s = finish u) (hp : P (settle u)) : Gives c s P :=
  ⟨_, h, hp⟩

/-- A command that ends in the state it began in changes nothing. -/
theorem gives_unchanged {c : Instr} {s : State} (h : exec c s = finish s) : Gives c s fun t => Unchanged s t :=
  gives_finish h (unchanged_settle s)

/-- A ready host command whose rule answers at once. -/
theorem gives_answered {i : Instr} {c : Cmd} {s : State} {op : Cmd → State → Res} {P : State → Prop} {r : Res}
    (hx : exec i s = runCommand c op s) (hr : Ready c s = true) (ho : op c (begun c s) = r) (hd : r.deferred = false)
    (hp : P (settle (r.s.answer c r.status r.detail r.word))) : Gives i s P :=
  gives_finish (hx.trans (runCommand_ready hr op)) (by simpa [ho, hd] using hp)

/-- A ready host command whose rule succeeds. -/
theorem gives_ok {i : Instr} {c : Cmd} {s u : State} {op : Cmd → State → Res} {P : State → Prop} {w : Nat}
    (hx : exec i s = runCommand c op s) (hr : Ready c s = true) (ho : op c (begun c s) = Res.ok u w)
    (hp : P (settle (u.answer c 0 0 w))) : Gives i s P :=
  gives_answered hx hr ho rfl hp

/-- A ready host command whose rule refuses it is answered, and nothing else. -/
theorem gives_refused {i : Instr} {c : Cmd} {s : State} {op : Cmd → State → Res} {st d : Nat}
    (hx : exec i s = runCommand c op s) (hr : Ready c s = true) (ho : op c (begun c s) = Res.err (begun c s) st d) :
    Gives i s fun t => t = settle ((begun c s).answer c st d 0) :=
  gives_answered hx hr ho rfl rfl

/-- A ready host command whose reply a later event writes. -/
theorem gives_deferred {i : Instr} {c : Cmd} {s u : State} {op : Cmd → State → Res} {P : State → Prop}
    (hx : exec i s = runCommand c op s) (hr : Ready c s = true) (ho : op c (begun c s) = Res.later u) (hp : P (settle u)) : Gives i s P :=
  gives_finish (hx.trans (runCommand_ready hr op)) (by simpa [ho, Res.later] using hp)

/-! ### Folds -/

/-- What every step of a fold keeps, the fold keeps. -/
theorem foldl_keeps {α β σ : Type} (p : σ → β) {f : σ → α → σ} (hf : ∀ t a, p (f t a) = p t) (l : List α) (s : σ) :
    p (l.foldl f s) = p s := by
  induction l generalizing s with
  | nil => rfl
  | cons a l ih => exact (ih _).trans (hf s a)

/-- A fold whose steps write registers of a list alone does so too. -/
theorem touches_foldl {α : Type} {rs : List Reg} {f : State → α → State} (hf : ∀ t a, Touches rs t (f t a)) (l : List α) (s : State) :
    Touches rs s (l.foldl f s) := by
  induction l generalizing s with
  | nil => exact Touches.refl rs s
  | cons a l ih => exact (hf s a).trans (ih _)

/-! ### What a write of registers leaves -/

theorem Touches.regN {rs : List Reg} {s t : State} (h : Touches rs s t) {r : Reg} (hr : r ∉ rs) (i : Nat := 0) : t.regN r i = s.regN r i := by
  simp only [State.regN, h.2 r i hr]

theorem Touches.fld {rs : List Reg} {s t : State} (h : Touches rs s t) {f : Field} (hf : f.reg ∉ rs) (i : Nat := 0) : t.fld f i = s.fld f i := by
  simp only [State.fld, h.2 f.reg i hf]

theorem Touches.flag {rs : List Reg} {s t : State} (h : Touches rs s t) {f : Field} (hf : f.reg ∉ rs) (i : Nat := 0) : t.flag f i = s.flag f i := by
  simp only [State.flag, h.fld hf i]

theorem Touches.tb {rs : List Reg} {s t : State} (h : Touches rs s t) : t.tb = s.tb := h.rest.tb
theorem Touches.codec {rs : List Reg} {s t : State} (h : Touches rs s t) : t.codec = s.codec := h.rest.codec
theorem Touches.streams {rs : List Reg} {s t : State} (h : Touches rs s t) : t.streams = s.streams := h.rest.streams

/-- A state that only registers changed in holds the same memory. -/
theorem sameMemory_of_mems {s t : State} (hm : t.mem = s.mem) (hh : t.hostMem = s.hostMem) (hp : t.spad = s.spad) : SameMemory s t := by
  refine ⟨fun sp a => ?_, fun a => by rw [hp]⟩
  cases sp
  · simp only [State.byte, hh]
  · simp only [State.byte, hm]

/-- A counter counts up to its top. -/
theorem regN_bump_same (s : State) (r : Reg) (n i : Nat) : (s.bump r n i).regN r i = min 0xFFFFFFFF (s.regN r i + n) :=
  regN_putN_same s r _ i (by simp only [satAdd]; omega)

/-- A bit of a register is set by writing 1 to it. -/
theorem testBit_setBitField_one (v : DWord) {b : Nat} (hb : b < 64) : (setBitField v b 1 1).toNat.testBit b = true := by
  simp only [setBitField, BitVec.testBit_toNat, BitVec.getLsbD_or, BitVec.getLsbD_ofNat, Nat.testBit_shiftLeft]
  simp [hb]

/-! ### Sources -/

/-- A source that is raised pends. -/
theorem pendBit_raise (s : State) {n : Nat} (hn : n < 250) : (s.raise n).pendBit n = true := by
  unfold State.raise
  rw [if_neg (by omega)]
  split
  next h => simpa [State.pendBit, State.regN, State.bump] using h
  next h => simp [State.pendBit, State.regN, State.srcBit, testBit_setBitField_one _ (show n % 32 < 64 by omega)]

/-- The event of a time base source makes it pend. -/
theorem pendBit_tbEvent (s : State) {n : Nat} (hn : n < 250) : (s.tbEvent n).pendBit n = true := pendBit_raise _ hn

/-- The registers of a time base event. -/
def tbEventRegs : List Reg := [.TB_EVT, .IC_PEND, .IC_MERGE_CNT]

theorem tbEvent_frame (s : State) (n : Nat) : Touches tbEventRegs s (s.tbEvent n) :=
  touches_tbEvent s n (by simp [tbEventRegs]) (by simp [sourceOnly, tbEventRegs])

end Sys2Proof.Machine
end

section
/-!
SUPPORT. The laws of device time: running durations, lock state, the grid, missed ticks and steps of time (R22 to R47).
-/
namespace Sys2Proof.Machine

/-! ### Running durations -/

/-- A duration that is waited for has passed. -/
theorem reachRun_run (s : State) (t : Nat) : (s.reachRun t).tb.run = max s.tb.run t := by
  unfold State.reachRun
  split
  · show s.tb.run + (t - s.tb.run) = _
    omega
  · omega

/-- Waiting for a duration leaves everything but the time base. -/
theorem reachRun_frame (s : State) (t : Nat) : s.reachRun t = { s with tb := (s.reachRun t).tb } := by
  unfold State.reachRun
  split <;> rfl

@[simp] theorem reg_reachRun (s : State) (t : Nat) (r : Reg) (i : Nat) : (s.reachRun t).reg r i = s.reg r i := by rw [reachRun_frame]; rfl
@[simp] theorem reachRun_codec (s : State) (t : Nat) : (s.reachRun t).codec = s.codec := by rw [reachRun_frame]
@[simp] theorem reachRun_mem (s : State) (t : Nat) : (s.reachRun t).mem = s.mem := by rw [reachRun_frame]
@[simp] theorem reachRun_hostMem (s : State) (t : Nat) : (s.reachRun t).hostMem = s.hostMem := by rw [reachRun_frame]
@[simp] theorem reachRun_spad (s : State) (t : Nat) : (s.reachRun t).spad = s.spad := by rw [reachRun_frame]

/-! ### Lock state -/

/-- The registers that a change of LOCKED writes (R42, R58). -/
def lockRegs : List Reg := [.TB_STATUS, .TB_EVT, .IC_PEND, .IC_MERGE_CNT]

/-- A fold whose steps change stream contexts alone does so too. -/
theorem foldl_streams_shape {α : Type} {f : State → α → State} (hf : ∀ t a, f t a = { t with streams := (f t a).streams }) (l : List α)
    (s : State) : l.foldl f s = { s with streams := (l.foldl f s).streams } := by
  induction l generalizing s with
  | nil => rfl
  | cons a l ih =>
    simp only [List.foldl_cons]
    rw [ih (f s a), hf s a]

/-- The first half of a change of LOCKED: the flag and source 92. -/
theorem lockFlag_touches (s : State) (b : Bool) : Touches lockRegs s ((s.setFlag TB_STATUS_LOCKED b).tbEvent 92) :=
  (touches_setFlag s TB_STATUS_LOCKED b 0 (by simp [lockRegs])).trans ((tbEvent_frame _ 92).mono (by simp [tbEventRegs, lockRegs]))

/-- The registers after a change of LOCKED: the flag and its source, and for a lock TIME_VALID. -/
def State.lockedRegs (s : State) (b : Bool) : State :=
  if b then ((s.setFlag TB_STATUS_LOCKED b).tbEvent 92).setFld TB_STATUS_TIME_VALID 1 else (s.setFlag TB_STATUS_LOCKED b).tbEvent 92

theorem lockedRegs_touches (s : State) (b : Bool) : Touches lockRegs s (s.lockedRegs b) := by
  unfold State.lockedRegs
  cases b
  · exact lockFlag_touches s false
  · exact (lockFlag_touches s true).trans (touches_setFld _ TB_STATUS_TIME_VALID 1 0 (by simp [lockRegs]))

theorem setLocked_same {s : State} {b : Bool} (h : s.flag TB_STATUS_LOCKED = b) : s.setLocked b = s := if_pos h

/-- A change of LOCKED writes those registers and the waits of streams, and starts the counts of servo writes anew. -/
theorem setLocked_change {s : State} {b : Bool} (h : s.flag TB_STATUS_LOCKED ≠ b) : ∃ ss, s.setLocked b =
    { s with regs := (s.lockedRegs b).regs, streams := ss, tb := { s.tb with within := 0, beyond := 0 } } := by
  have h1 := (lockFlag_touches s b).1
  unfold State.setLocked State.lockedRegs
  rw [if_neg h]
  generalize (s.setFlag TB_STATUS_LOCKED b).tbEvent 92 = u at h1 ⊢
  cases b
  · exact ⟨s.streams, by rw [h1]; rfl⟩
  · exact ⟨_, (foldl_streams_shape (fun _ _ => rfl) _ _).trans (by rw [h1]; rfl)⟩

/-- Whether it changes or not, LOCKED leaves all but registers, streams and the counts of servo writes. -/
theorem setLocked_shape (s : State) (b : Bool) : ∃ rs ss w x, s.setLocked b =
    { s with regs := rs, streams := ss, tb := { s.tb with within := w, beyond := x } } := by
  by_cases h : s.flag TB_STATUS_LOCKED = b
  · exact ⟨s.regs, s.streams, s.tb.within, s.tb.beyond, setLocked_same h⟩
  · obtain ⟨ss, hs⟩ := setLocked_change h
    exact ⟨_, ss, 0, 0, hs⟩

@[simp] theorem setLocked_ns (s : State) (b : Bool) : (s.setLocked b).tb.ns = s.tb.ns := by
  obtain ⟨rs, ss, w, x, h⟩ := setLocked_shape s b; rw [h]
@[simp] theorem setLocked_run (s : State) (b : Bool) : (s.setLocked b).tb.run = s.tb.run := by
  obtain ⟨rs, ss, w, x, h⟩ := setLocked_shape s b; rw [h]
@[simp] theorem setLocked_frac (s : State) (b : Bool) : (s.setLocked b).tb.frac = s.tb.frac := by
  obtain ⟨rs, ss, w, x, h⟩ := setLocked_shape s b; rw [h]
@[simp] theorem setLocked_servoAt (s : State) (b : Bool) : (s.setLocked b).tb.servoAt = s.tb.servoAt := by
  obtain ⟨rs, ss, w, x, h⟩ := setLocked_shape s b; rw [h]
@[simp] theorem setLocked_servoTimer (s : State) (b : Bool) : (s.setLocked b).tb.servoTimer = s.tb.servoTimer := by
  obtain ⟨rs, ss, w, x, h⟩ := setLocked_shape s b; rw [h]

/-- The registers after LOCKED is set to a value: those of a change, if it is one. -/
theorem reg_setLocked_cases (s : State) (b : Bool) :
    (s.flag TB_STATUS_LOCKED = b ∧ s.setLocked b = s) ∨ ∀ r i, (s.setLocked b).reg r i = (s.lockedRegs b).reg r i := by
  by_cases h : s.flag TB_STATUS_LOCKED = b
  · exact .inl ⟨h, setLocked_same h⟩
  · obtain ⟨ss, hs⟩ := setLocked_change h
    exact .inr fun r i => reg_congr (by rw [hs]) r i

/-- Every register outside those of a change of LOCKED. -/
theorem reg_setLocked (s : State) (b : Bool) (r : Reg) (i : Nat) (hr : r ∉ lockRegs) : (s.setLocked b).reg r i = s.reg r i := by
  rcases reg_setLocked_cases s b with ⟨-, h⟩ | h
  · rw [h]
  · rw [h, (lockedRegs_touches s b).2 r i hr]

theorem regN_setLocked (s : State) (b : Bool) (r : Reg) (i : Nat) (hr : r ∉ lockRegs) : (s.setLocked b).regN r i = s.regN r i := by
  simp only [State.regN, reg_setLocked s b r i hr]

/-- A field of `TB_STATUS` that a lock does not set with LOCKED. -/
theorem fld_lockedRegs (s : State) (b : Bool) (f : Field) (hf : f.reg ∉ tbEventRegs) (ha : TB_STATUS_TIME_VALID.apart f) :
    (s.lockedRegs b).fld f = (s.setFlag TB_STATUS_LOCKED b).fld f := by
  unfold State.lockedRegs
  cases b
  · exact (tbEvent_frame _ 92).fld hf
  · exact (fld_setFld_apart _ _ f 1 0 0 ha).trans ((tbEvent_frame _ 92).fld hf)

/-- LOCKED after it is set to a value. -/
@[simp] theorem flag_setLocked (s : State) (b : Bool) : (s.setLocked b).flag TB_STATUS_LOCKED = b := by
  rcases reg_setLocked_cases s b with ⟨h, he⟩ | h
  · rw [he, h]
  · have hl := fld_lockedRegs s b TB_STATUS_LOCKED (by simp [tbEventRegs]) (by simp [Field.apart])
    simp only [State.flag, State.fld, h]
    exact (congrArg (· != 0) hl).trans (flag_setFlag_same s TB_STATUS_LOCKED b 0 (by simp) (by simp))

/-- A change of LOCKED leaves HOLDOVER. -/
@[simp] theorem fld_setLocked_holdover (s : State) (b : Bool) : (s.setLocked b).fld TB_STATUS_HOLDOVER = s.fld TB_STATUS_HOLDOVER := by
  rcases reg_setLocked_cases s b with ⟨-, he⟩ | h
  · rw [he]
  · have hl := fld_lockedRegs s b TB_STATUS_HOLDOVER (by simp [tbEventRegs]) (by simp [Field.apart])
    simp only [State.fld, h]
    exact hl.trans (fld_setFld_apart s TB_STATUS_LOCKED TB_STATUS_HOLDOVER b.toNat 0 0 (by simp [Field.apart]))

end Sys2Proof.Machine
end

section
/-!
SUPPORT. The laws of the grid and of steps of time (R27 to R29, R44, R45).
-/
namespace Sys2Proof.Machine

/-! ### The grid -/

/-- The registers that the generator keeps (R29). -/
def gridRegs : List Reg := [.TK_INDEX, .TK_NEXT_SEC, .TK_NEXT_NS, .TK_ACC]

/-- The generator's registers at a grid point. -/
def State.gridPoint (s : State) (m : Nat) : State :=
  (((s.putN .TK_INDEX m).putN .TK_NEXT_SEC (s.tickTime (m + 1) / 1000000000)).putN .TK_NEXT_NS (s.tickTime (m + 1) % 1000000000)).putN .TK_ACC
    ((m + 1) * s.gridK % max 1 (s.fld TK_DEN_DEN))

theorem gridPoint_touches (s : State) (m : Nat) : Touches gridRegs s (s.gridPoint m) :=
  (((touches_putN s .TK_INDEX _ 0 (by simp [gridRegs])).trans (touches_putN _ .TK_NEXT_SEC _ 0 (by simp [gridRegs]))).trans
    (touches_putN _ .TK_NEXT_NS _ 0 (by simp [gridRegs]))).trans (touches_putN _ .TK_ACC _ 0 (by simp [gridRegs]))

/-- Standing after a grid point writes the generator's registers, and its instant. -/
theorem setGrid_shape (s : State) (m : Nat) : s.setGrid m = { s with regs := (s.gridPoint m).regs, tb := { s.tb with tickAt := s.tickTime m } } := by
  have h := (gridPoint_touches s m).1
  unfold State.setGrid
  show { s.gridPoint m with tb := { (s.gridPoint m).tb with tickAt := s.tickTime m } } = _
  rw [h]

theorem reg_gridPoint (s : State) (m : Nat) (r : Reg) (i : Nat) : (s.setGrid m).reg r i = (s.gridPoint m).reg r i :=
  reg_congr (by rw [setGrid_shape]) r i

theorem reg_setGrid (s : State) (m : Nat) (r : Reg) (i : Nat) (hr : r ∉ gridRegs) : (s.setGrid m).reg r i = s.reg r i :=
  (reg_gridPoint s m r i).trans ((gridPoint_touches s m).2 r i hr)

/-- The index of the grid point that the generator stands after. -/
theorem tickIndex_setGrid (s : State) {m : Nat} (hm : m < 2 ^ 64) : (s.setGrid m).tickIndex = m := by
  simp [State.tickIndex, State.regN, reg_gridPoint, State.gridPoint, atWidth_toNat_wide .TK_INDEX rfl hm]

/-- The next tick is the grid time after it. -/
theorem nextTick_setGrid (s : State) (m : Nat) (ht : s.tickTime (m + 1) < 2 ^ 64) : (s.setGrid m).nextTick = s.tickTime (m + 1) := by
  have h1 : s.tickTime (m + 1) / 1000000000 < 2 ^ 64 := by omega
  have h2 : s.tickTime (m + 1) % 1000000000 < 2 ^ 32 := by omega
  simp only [State.nextTick, State.regN, reg_gridPoint, State.gridPoint, reg_putN, reduceCtorEq, false_and, and_self, if_true, if_false,
    atWidth_toNat_wide .TK_NEXT_SEC rfl h1, atWidth_toNat .TK_NEXT_NS h2]
  omega

/-- The grid times are those of the numerator and denominator in force. -/
theorem tickTime_eq {s : State} {num den : Nat} (hn : s.fld TK_NUM_NUM = num) (hd : s.fld TK_DEN_DEN = den) (h : 0 < den) (n : Nat) :
    s.tickTime n = n * 1000000000 * num / den := by
  simp only [State.tickTime, hn, hd]
  rw [if_neg (by omega)]

/-- States with the same grid have the same grid times. -/
theorem tickTime_congr {s t : State} (hn : t.fld TK_NUM_NUM = s.fld TK_NUM_NUM) (hd : t.fld TK_DEN_DEN = s.fld TK_DEN_DEN) (n : Nat) :
    t.tickTime n = s.tickTime n := by
  simp only [State.tickTime, hn, hd]

/-- A grid time lies at or before an instant exactly when its index, in units of the accumulator, does. -/
theorem tickTime_le_iff {s : State} (hd : 0 < s.fld TK_DEN_DEN) (n t : Nat) :
    s.tickTime n ≤ t ↔ n * s.gridK < (t + 1) * s.fld TK_DEN_DEN := by
  rw [tickTime_eq rfl rfl hd, State.gridK, ← Nat.mul_assoc, ← Nat.lt_succ_iff, Nat.div_lt_iff_lt_mul hd, Nat.succ_eq_add_one]

/-- The last grid index at or before an instant (R27). -/
theorem lastIndex_eq {s : State} {m t : Nat} (hd : 0 < s.fld TK_DEN_DEN) (hn : 0 < s.fld TK_NUM_NUM) (h1 : s.tickTime m ≤ t)
    (h2 : t < s.tickTime (m + 1)) : s.lastIndex t = m := by
  have hk : 0 < s.gridK := by simp only [State.gridK]; omega
  rw [tickTime_le_iff hd] at h1
  have h3 : (t + 1) * s.fld TK_DEN_DEN ≤ (m + 1) * s.gridK := by
    have h4 := mt (tickTime_le_iff hd (m + 1) t).mpr
    omega
  rw [State.lastIndex, Nat.max_eq_right hk]
  refine Nat.div_eq_of_lt_le ?_ ?_
  · omega
  · exact lt_of_lt_of_le (Nat.sub_one_lt (by omega)) h3

/-! ### Missed ticks -/

/-- With no picture waiting, none is answered late. -/
theorem missPictures_nil {s : State} (he : s.codec.enc = []) (hd : s.codec.dec = []) (lo m : Nat) : s.missPictures lo m = s := by
  have hc : ({ s.codec with enc := [], dec := [] } : Codec) = s.codec := by rw [← he, ← hd]
  simp only [State.missPictures, he, hd, List.filter_nil, List.map_nil, List.append_nil, List.foldl_nil, hc]

/-- Without a grid no tick is missed. -/
theorem missTicks_no_grid {s : State} (h : s.flag TK_CTRL_EN = false) : s.missTicks = s := by
  unfold State.missTicks
  rw [h]
  rfl

/-- The ticks jumped over are counted (R45). -/
theorem missTicks_count {s : State} {m : Nat} (h : s.flag TK_CTRL_EN = true) (hm : s.lastIndex s.tb.ns = m) (hlo : s.tickIndex < m)
    (he : s.codec.enc = []) (hd : s.codec.dec = []) :
    s.missTicks = ((s.setGrid m).bump .TK_MISSED (m - s.tickIndex)).tbEvent 96 := by
  unfold State.missTicks
  simp only [h, hm, Bool.not_true, Bool.false_eq_true, if_false, if_neg (Nat.not_le.mpr hlo)]
  have hc : (((s.setGrid m).bump .TK_MISSED (m - s.tickIndex)).tbEvent 96).codec = s.codec := (tbEvent_frame _ 96).codec
  exact missPictures_nil (by rw [hc, he]) (by rw [hc, hd]) _ _

end Sys2Proof.Machine
end

section
/-!
SUPPORT. Steps of device time: the step itself, and the registers that follow it (R42, R44, R45, R293).
-/
namespace Sys2Proof.Machine

/-! ### What follows a step -/

/-- The registers of gate lists that follow time, and of the frames whose gates close (R293, R304). -/
def gateRegs : List Reg :=
  [.GT_STS, .GT_COUNT, .GT_CYCLE, .GT_BASE_SEC, .GT_BASE_NS, .GT_SWITCH_SEC, .GT_SWITCH_NS, .GT_OVERRUN_CNT, .GT_EVT, .IC_PEND, .IC_MERGE_CNT]

theorem touches_showList (s : State) (g : Nat) : Touches gateRegs s (s.showList g) := by
  unfold State.showList
  generalize s.gatesNow g = now
  obtain ⟨b, i⟩ := now
  dsimp only
  iterate 7 refine Touches.trans ?_ (touches_putN _ _ _ _ (by simp [gateRegs]))
  exact Touches.refl gateRegs s

theorem touches_showGates (s : State) : Touches gateRegs s s.showGates := touches_foldl touches_showList _ s

theorem touches_overruns (s before : State) : Touches gateRegs s (s.overruns before) := by
  refine touches_foldl (fun t k => ?_) _ s
  split
  · split
    · exact (touches_bump t .GT_OVERRUN_CNT 1 k (by simp [gateRegs])).trans
        (touches_event _ GT_EVT_OVERRUN k (by simp [gateRegs]) (by simp [sourceOnly, gateRegs]))
    · exact Touches.refl _ _
  · exact Touches.refl _ _

/-- After a step of time, gate registers alone follow. -/
theorem touches_jump (s : State) (new : Nat) : Touches gateRegs (s.stepTime new) (s.jump new) :=
  (touches_showGates _).trans (touches_overruns _ s)

/-! ### The step -/

/-- Device time reads another value. -/
def State.atTime (s : State) (new : Nat) : State := { s with tb := { s.tb with ns := new } }

/-- A step of time: ticks jumped over, then LOCKED, then source 93. -/
theorem stepTime_eq (s : State) (new : Nat) : s.stepTime new =
    ((fun s2 : State => if s.tb.ns + 1000 < new ∨ new + 1000 < s.tb.ns then s2.setLocked false else s2)
      (if s.tb.ns + 1000 < new then (s.atTime new).missTicks else s.atTime new)).tbEvent 93 := by
  unfold State.stepTime State.atTime
  rfl

/-- A step that jumps over no tick: one of at most 1 µs forward, or one while no grid runs. -/
theorem stepTime_plain {s : State} {new : Nat} (h : s.flag TK_CTRL_EN = false ∨ new ≤ s.tb.ns + 1000) :
    s.stepTime new =
      (if s.tb.ns + 1000 < new ∨ new + 1000 < s.tb.ns then (s.atTime new).setLocked false else s.atTime new).tbEvent 93 := by
  have hm : (if s.tb.ns + 1000 < new then (s.atTime new).missTicks else s.atTime new) = s.atTime new := by
    rcases h with h | h
    · rw [missTicks_no_grid (s := s.atTime new) h, ite_self]
    · rw [if_neg (by omega)]
  rw [stepTime_eq, hm]

/-- What a step of time without missed ticks leaves of the time base and the registers. -/
theorem jump_plain {s : State} {new : Nat} (h : s.flag TK_CTRL_EN = false ∨ new ≤ s.tb.ns + 1000) :
    (s.jump new).tb.ns = new ∧ (s.jump new).tb.run = s.tb.run ∧ (s.jump new).tb.frac = s.tb.frac ∧
      ∀ r i, r ∉ lockRegs → r ∉ gateRegs → (s.jump new).reg r i = s.reg r i := by
  have hj := touches_jump s new
  have hs := stepTime_plain h
  have he := fun u : State => tbEvent_frame u 93
  have hmem : ∀ r, r ∉ lockRegs → r ∉ tbEventRegs := fun r hr hm => hr (by simp_all [lockRegs, tbEventRegs])
  rw [hj.tb, hs]
  refine ⟨?_, ?_, ?_, fun r i hl hg => ?_⟩
  · rw [(he _).tb]; split <;> simp [State.atTime]
  · rw [(he _).tb]; split <;> simp [State.atTime]
  · rw [(he _).tb]; split <;> simp [State.atTime]
  · rw [hj.2 r i hg, hs, (he _).2 r i (hmem r hl)]
    split
    · exact reg_setLocked _ _ _ _ hl
    · rfl

/-- A step forward over ticks of the grid, with no picture waiting: they are counted, and LOCKED clears. -/
theorem stepTime_missed {s : State} {m new : Nat} (hn : s.tb.ns + 1000 < new) (h : s.flag TK_CTRL_EN = true)
    (hm : s.lastIndex new = m) (hlo : s.tickIndex < m) (he : s.codec.enc = []) (hd : s.codec.dec = []) :
    s.stepTime new = (((((s.atTime new).setGrid m).bump .TK_MISSED (m - s.tickIndex)).tbEvent 96).setLocked false).tbEvent 93 := by
  have hc : (s.atTime new).missTicks = (((s.atTime new).setGrid m).bump .TK_MISSED (m - s.tickIndex)).tbEvent 96 :=
    missTicks_count (s := s.atTime new) h hm hlo he hd
  rw [stepTime_eq, if_pos hn, hc]
  simp only [hn, true_or, if_true]

end Sys2Proof.Machine
end

section
/-!
SUPPORT and PROOFS. The servo and `TB_CTRL` (R40 to R42).
-/
namespace Sys2Proof.Machine

/-! ### A servo update -/

/-- The state a servo write has once its offset is stored and counted, before LOCKED follows (R42). -/
def State.servoCounted (s : State) (ofs w b : Nat) : State :=
  { (s.putN .TB_SERVO_OFS ofs).setFld TB_STATUS_HOLDOVER 0 with
    tb := { s.tb with within := min w 256, beyond := min b 256, servoAt := s.tb.run, servoTimer := true } }

/-- A servo update with SRC not FREE: the counted state, and then LOCKED may be set or cleared; it is set once enough offsets lie
within the threshold. -/
theorem servoUpdate_cases {s : State} (hs : s.fld TB_CTRL_SRC ≠ 0) (ofs : Nat) : ∃ w b, ∃ l : Option Bool,
    s.servoUpdate ofs = (match l with | some v => (s.servoCounted ofs w b).setLocked v | none => s.servoCounted ofs w b) ∧
      ((signed 32 ofs).natAbs ≤ max 1 (s.fld TB_LOCK_CFG_THRESH_NS) → max 1 (s.fld TB_LOCK_CFG_COUNT) ≤ s.tb.within + 1 → l = some true) := by
  unfold State.servoUpdate
  rw [if_neg hs]
  generalize (signed 32 ofs).natAbs = mag
  generalize max 1 (s.fld TB_LOCK_CFG_THRESH_NS) = thr
  generalize max 1 (s.fld TB_LOCK_CFG_COUNT) = cnt
  refine ⟨if decide (mag ≤ thr) then s.tb.within + 1 else 0, if decide (mag ≤ thr) then 0 else s.tb.beyond + 1, ?_⟩
  by_cases h1 : cnt ≤ if decide (mag ≤ thr) then s.tb.within + 1 else 0
  · exact ⟨some true, if_pos h1, fun _ _ => rfl⟩
  · have hno : mag ≤ thr → ¬ cnt ≤ s.tb.within + 1 := fun hm hc => h1 (by simpa [hm] using hc)
    by_cases h2 : 4 * thr < mag ∨ cnt ≤ if decide (mag ≤ thr) then 0 else s.tb.beyond + 1
    · exact ⟨some false, (if_neg h1).trans (if_pos h2), fun hm hc => absurd hc (hno hm)⟩
    · exact ⟨none, (if_neg h1).trans (if_neg h2), fun hm hc => absurd hc (hno hm)⟩

theorem reg_servoCounted (s : State) (ofs w b : Nat) (r : Reg) (i : Nat) :
    (s.servoCounted ofs w b).reg r i = ((s.putN .TB_SERVO_OFS ofs).setFld TB_STATUS_HOLDOVER 0).reg r i := rfl

/-- The offset stored, HOLDOVER 0, the 4 s timer from now on. -/
theorem servoCounted_facts (s : State) {ofs : Nat} (ho : ofs < 2 ^ 32) (w b : Nat) :
    (s.servoCounted ofs w b).regN .TB_SERVO_OFS = ofs ∧ (s.servoCounted ofs w b).fld TB_STATUS_HOLDOVER = 0 ∧
      (s.servoCounted ofs w b).tb.servoTimer = true ∧ (s.servoCounted ofs w b).tb.servoAt = s.tb.run := by
  refine ⟨?_, ?_, rfl, rfl⟩
  · simp [State.regN, reg_servoCounted, atWidth_toNat .TB_SERVO_OFS ho]
  · simp only [State.fld, reg_servoCounted]
    exact fld_setFld_same (s.putN .TB_SERVO_OFS ofs) TB_STATUS_HOLDOVER 0 0 (by simp)

/-- What every servo update with SRC not FREE does. -/
theorem servoUpdate_facts {s : State} (hs : s.fld TB_CTRL_SRC ≠ 0) {ofs : Nat} (ho : ofs < 2 ^ 32) :
    (s.servoUpdate ofs).regN .TB_SERVO_OFS = ofs ∧ (s.servoUpdate ofs).fld TB_STATUS_HOLDOVER = 0 ∧
      (s.servoUpdate ofs).tb.servoTimer = true ∧ (s.servoUpdate ofs).tb.servoAt = s.tb.run ∧
      ((signed 32 ofs).natAbs ≤ max 1 (s.fld TB_LOCK_CFG_THRESH_NS) → max 1 (s.fld TB_LOCK_CFG_COUNT) ≤ s.tb.within + 1 →
        (s.servoUpdate ofs).flag TB_STATUS_LOCKED = true) := by
  obtain ⟨w, b, l, he, hl⟩ := servoUpdate_cases hs ofs
  obtain ⟨h1, h2, h3, h4⟩ := servoCounted_facts s ho w b
  cases l with
  | none => exact he ▸ ⟨h1, h2, h3, h4, fun hm hc => nomatch hl hm hc⟩
  | some v =>
    rw [he]
    refine ⟨?_, ?_, ?_, ?_, fun hm hc => ?_⟩
    · rw [regN_setLocked _ _ _ _ (by simp [lockRegs]), h1]
    · rw [fld_setLocked_holdover, h2]
    · rw [setLocked_servoTimer, h3]
    · rw [setLocked_servoAt, h4]
    · rw [flag_setLocked, Option.some.inj (hl hm hc)]

/-! ### The 4 s timer -/

/-- A servo that has lost its reference: LOCKED 0, HOLDOVER 1, the timer stopped. -/
def State.servoLost (s : State) : State :=
  { (s.setLocked false).setFld TB_STATUS_HOLDOVER 1 with tb := { (s.setLocked false).tb with servoTimer := false } }

theorem servoLost_facts (s : State) : s.servoLost.flag TB_STATUS_LOCKED = false ∧ s.servoLost.flag TB_STATUS_HOLDOVER = true := by
  have hr : ∀ f : Field, s.servoLost.flag f = ((s.setLocked false).setFld TB_STATUS_HOLDOVER 1).flag f := fun _ => rfl
  refine ⟨?_, ?_⟩
  · rw [hr, State.flag, fld_setFld_apart _ _ _ _ _ _ (by simp [Field.apart])]
    exact flag_setLocked s false
  · rw [hr, State.flag, fld_setFld_same _ _ _ _ (by simp)]
    rfl

/-- The 4 s timer of a running servo runs out. -/
theorem execServoTimeout_lost {s : State} (ht : s.tb.servoTimer = true) (hs : s.fld TB_CTRL_SRC ≠ 0) :
    exec .servoTimeout s = finish (s.reachRun (s.tb.servoAt + 4000000000)).servoLost := by
  show execServoTimeout s = _
  unfold execServoTimeout
  rw [if_pos ⟨ht, hs⟩]
  rfl

/-! ### `TB_CTRL` -/

/-- The effect of a write of `TB_CTRL` with PF0's authority (R40, R42). -/
def State.tbCtrlStored (s : State) (v : Nat) : State :=
  if v % 4 = s.fld TB_CTRL_SRC then s.putN .TB_CTRL (v % 32)
  else
    let s2 := (s.putN .TB_CTRL (v % 32)).setLocked false
    let s3 := { s2 with tb := { s2.tb with within := 0, beyond := 0, servoAt := s.tb.run, servoTimer := v % 4 != 0 } }
    if v % 4 = 0 then s3.setFld TB_STATUS_HOLDOVER 0 else s3

theorem execTbCtrlWrite_pf0 {a : Agent} {v : Word} {s : State} (h : s.actsAsPf0 a = true) :
    exec (.tbCtrlWrite a v) s = finish (s.tbCtrlStored v.toNat) :=
  congrArg finish ((byAgent_pf0 h .TB_CTRL 0 _).trans rfl)

/-- The fields stored, and LOCKED 0 once SRC changes. -/
theorem tbCtrlStored_facts (s : State) (v : Nat) : (s.tbCtrlStored v).regN .TB_CTRL = v % 32 ∧
    (v % 4 ≠ s.fld TB_CTRL_SRC → (s.tbCtrlStored v).flag TB_STATUS_LOCKED = false) := by
  have h1 : (s.putN .TB_CTRL (v % 32)).regN .TB_CTRL = v % 32 := regN_putN_same s _ _ _ (by omega)
  have h2 : ((s.putN .TB_CTRL (v % 32)).setLocked false).regN .TB_CTRL = v % 32 := by
    rw [regN_setLocked _ _ _ _ (by simp [lockRegs]), h1]
  have h3 := flag_setLocked (s.putN .TB_CTRL (v % 32)) false
  unfold State.tbCtrlStored
  by_cases hs : v % 4 = s.fld TB_CTRL_SRC
  · rw [if_pos hs]
    exact ⟨h1, fun hne => absurd hs hne⟩
  · rw [if_neg hs]
    generalize (s.putN .TB_CTRL (v % 32)).setLocked false = u at h2 h3
    by_cases h0 : v % 4 = 0
    · simp only [if_pos h0]
      refine ⟨?_, fun _ => ?_⟩
      · refine Eq.trans ?_ h2
        exact congrArg BitVec.toNat (reg_setFld_ne _ _ _ _ _ _ (by simp))
      · refine Eq.trans ?_ h3
        exact congrArg (· != 0) (fld_setFld_apart _ TB_STATUS_HOLDOVER TB_STATUS_LOCKED 0 0 0 (by simp [Field.apart]))
    · simp only [if_neg h0]
      exact ⟨h2, fun _ => h3⟩

/-- Settles O6: each clause from the facts of the update it makes. -/
theorem servoWritesMoveLockState : Obligations.ServoWritesMoveLockState := by
  unfold Obligations.ServoWritesMoveLockState
  have owner : ∀ {a : Agent} {v : Word} {s : State}, s.actsAsPf0 a = true → s.servoOwner a = true →
      exec (.servoOffsetWrite a v) s = finish (s.servoUpdate v.toNat) := fun ha ho =>
    congrArg finish ((byAgent_pf0 ha .TB_SERVO_OFS 0 _).trans (if_pos ho))
  refine ⟨fun a v s ha ho hs => ?_, fun a v s ha ho hs => ?_, fun f v s ho => ?_, fun s ht hs => ?_,
    fun a v s ha => ?_, fun f v s hf => ?_⟩
  · have hu : s.servoUpdate v.toNat = s.putN .TB_SERVO_OFS v.toNat := if_pos hs
    refine gives_finish (owner ha ho) (hu ▸ ⟨?_, onlyRegs_of_touches (touches_putN s _ _ 0 (by simp))⟩)
    rw [regN_settle _ _ _ (by simp), regN_putN_same s _ _ _ v.isLt]
  · obtain ⟨h1, h2, h3, h4, h5⟩ := servoUpdate_facts hs v.isLt
    exact gives_finish (owner ha ho) ⟨by simpa using h1, by simpa using h2, h3, h4, fun hm hc => by simpa using h5 hm hc⟩
  · exact gives_unchanged (congrArg finish (if_neg (by simp [ho])))
  · obtain ⟨h1, h2⟩ := servoLost_facts (s.reachRun (s.tb.servoAt + 4000000000))
    exact gives_finish (execServoTimeout_lost ht hs) ⟨by simpa using h1, by simpa using h2, rfl⟩
  · obtain ⟨h1, h2⟩ := tbCtrlStored_facts s v.toNat
    exact gives_finish (execTbCtrlWrite_pf0 ha) ⟨by simpa using h1, fun hne => by simpa using h2 hne⟩
  · exact gives_unchanged (congrArg finish (if_pos hf))

end Sys2Proof.Machine
end

section
/-!
PROOFS. Steps of device time, TIME_SET, reads of time, and the clocks that carry it (R24, R25, R41 to R45, R52, R73).
-/
namespace Sys2Proof.Machine

/-! ### TB_ADJ_STEP -/

/-- The step that the servo owner asks for is made. -/
theorem execTbAdjStepWrite_owner {a : Agent} {v : Word} {s : State} (ha : s.actsAsPf0 a = true) (ho : s.servoOwner a = true)
    (hd : (signed 32 v.toNat).natAbs ≤ 999999999) :
    exec (.tbAdjStepWrite a v) s = finish ((s.putN .TB_ADJ_STEP v.toNat).jump ((s.tb.ns : Int) + signed 32 v.toNat).toNat) := by
  refine congrArg finish ((byAgent_pf0 ha .TB_ADJ_STEP 0 _).trans (if_neg ?_))
  simp only [ho, Bool.not_true, Bool.false_eq_true, false_or]
  omega

/-- A step that jumps over no tick moves device time alone. -/
theorem adjStep_plain {s : State} {v : Word} {d : Int} (h : s.flag TK_CTRL_EN = false ∨ d ≤ 1000) :
    ((s.putN .TB_ADJ_STEP v.toNat).jump ((s.tb.ns : Int) + d).toNat).tb.ns = ((s.tb.ns : Int) + d).toNat ∧
      ((s.putN .TB_ADJ_STEP v.toNat).jump ((s.tb.ns : Int) + d).toNat).tb.run = s.tb.run ∧
      ((s.putN .TB_ADJ_STEP v.toNat).jump ((s.tb.ns : Int) + d).toNat).tb.frac = s.tb.frac ∧
      ((s.putN .TB_ADJ_STEP v.toNat).jump ((s.tb.ns : Int) + d).toNat).regN .TB_ADJ_STEP = v.toNat := by
  have hp : (s.putN .TB_ADJ_STEP v.toNat).flag TK_CTRL_EN = false ∨
      ((s.tb.ns : Int) + d).toNat ≤ (s.putN .TB_ADJ_STEP v.toNat).tb.ns + 1000 := by
    refine h.imp (fun h => ?_) fun h => ?_
    · rw [State.flag, fld_putN_ne _ _ _ _ _ _ (by simp)]
      exact h
    · rw [putN_tb]; omega
  obtain ⟨h1, h2, h3, h4⟩ := jump_plain hp
  refine ⟨h1, h2, h3, ?_⟩
  rw [State.regN, h4 _ _ (by simp [lockRegs]) (by simp [gateRegs])]
  exact regN_putN_same s .TB_ADJ_STEP v.toNat 0 v.isLt

/-- A step forward over ticks up to index `m`: they are missed, and LOCKED clears. -/
theorem jump_missed {s : State} {m new : Nat} (hn : s.tb.ns + 1000 < new) (h : s.flag TK_CTRL_EN = true) (he : s.codec.enc = [])
    (hd : s.codec.dec = []) (hden : 0 < s.fld TK_DEN_DEN) (hnum : 0 < s.fld TK_NUM_NUM) (h1 : s.tickTime m ≤ new)
    (h2 : new < s.tickTime (m + 1)) (hlo : s.tickIndex < m) (hm : m < 2 ^ 63) :
    (s.jump new).tickIndex = m ∧ (s.jump new).regN .TK_MISSED = min 0xFFFFFFFF (s.regN .TK_MISSED + (m - s.tickIndex)) ∧
      (s.jump new).flag TB_STATUS_LOCKED = false := by
  have hg := touches_jump s new
  have hs := stepTime_missed hn h (lastIndex_eq hden hnum h1 h2) hlo he hd
  have kept : ∀ u : State, ∀ r, r ∉ lockRegs → r ∉ tbEventRegs → (((u.tbEvent 96).setLocked false).tbEvent 93).regN r = u.regN r :=
    fun u r hl ht => ((tbEvent_frame _ 93).regN ht).trans ((regN_setLocked _ _ _ _ hl).trans ((tbEvent_frame _ 96).regN ht))
  refine ⟨?_, ?_, ?_⟩
  · rw [State.tickIndex, hg.regN (by simp [gateRegs]), hs, kept _ _ (by simp [lockRegs]) (by simp [tbEventRegs])]
    refine Eq.trans ?_ (tickIndex_setGrid (s.atTime new) (show m < 2 ^ 64 by omega))
    exact (touches_bump _ .TK_MISSED _ 0 (List.mem_singleton.mpr rfl)).regN (by simp)
  · rw [hg.regN (by simp [gateRegs]), hs, kept _ _ (by simp [lockRegs]) (by simp [tbEventRegs]), regN_bump_same]
    simp only [State.regN, reg_setGrid (s.atTime new) m .TK_MISSED 0 (by simp [gridRegs])]
    rfl
  · rw [hg.flag (by simp [gateRegs]), hs, (tbEvent_frame _ 93).flag (by simp [tbEventRegs])]
    exact flag_setLocked _ false

/-- `jump_missed` once the step is stored in `TB_ADJ_STEP`, which is no part of the grid. -/
theorem adjStep_missed {s : State} {m new : Nat} (v : Nat) (hn : s.tb.ns + 1000 < new) (h : s.flag TK_CTRL_EN = true) (he : s.codec.enc = [])
    (hd : s.codec.dec = []) (hden : 0 < s.fld TK_DEN_DEN) (hnum : 0 < s.fld TK_NUM_NUM) (h1 : s.tickTime m ≤ new)
    (h2 : new < s.tickTime (m + 1)) (hlo : s.tickIndex < m) (hm : m < 2 ^ 63) :
    ((s.putN .TB_ADJ_STEP v).jump new).tickIndex = m ∧
      ((s.putN .TB_ADJ_STEP v).jump new).regN .TK_MISSED = min 0xFFFFFFFF (s.regN .TK_MISSED + (m - s.tickIndex)) ∧
      ((s.putN .TB_ADJ_STEP v).jump new).flag TB_STATUS_LOCKED = false := by
  have hput := touches_putN s .TB_ADJ_STEP v 0 (List.mem_singleton.mpr rfl)
  have hnumq : (s.putN .TB_ADJ_STEP v).fld TK_NUM_NUM = s.fld TK_NUM_NUM := hput.fld (by simp)
  have hdenq : (s.putN .TB_ADJ_STEP v).fld TK_DEN_DEN = s.fld TK_DEN_DEN := hput.fld (by simp)
  have hidx : (s.putN .TB_ADJ_STEP v).tickIndex = s.tickIndex := hput.regN (by simp)
  have hmissed : (s.putN .TB_ADJ_STEP v).regN .TK_MISSED = s.regN .TK_MISSED := hput.regN (by simp)
  rw [← tickTime_congr hnumq hdenq] at h1 h2
  rw [← hidx] at hlo ⊢
  rw [← hmissed]
  exact jump_missed hn ((hput.flag (by simp)).trans h) he hd (by rw [hdenq]; exact hden) (by rw [hnumq]; exact hnum) h1 h2 hlo hm

/-- A step out of range, or by another agent, is not made. -/
theorem adjStep_refused {a : Agent} {v : Word} {s : State} (h : 999999999 < (signed 32 v.toNat).natAbs ∨ s.servoOwner a = false) :
    Gives (.tbAdjStepWrite a v) s fun t => t.tb = s.tb ∧ t.reg .TB_ADJ_STEP = s.reg .TB_ADJ_STEP := by
  have hf : (!s.servoOwner a) = true ∨ 999999999 < (signed 32 v.toNat).natAbs := by simpa [or_comm] using h
  have hu : ∃ u, exec (.tbAdjStepWrite a v) s = finish u ∧ Touches [.CPX_REFUSED_CNT] s u := by
    cases a with
    | func f => exact ⟨s, congrArg finish (if_pos hf), Touches.refl _ _⟩
    | cpx k =>
      by_cases hk : s.cpxMay k .TB_ADJ_STEP 0 = true
      · exact ⟨s, congrArg finish ((if_pos hk).trans (if_pos hf)), Touches.refl _ _⟩
      · exact ⟨_, congrArg finish (if_neg hk), touches_bump s .CPX_REFUSED_CNT 1 k (by simp)⟩
  obtain ⟨u, he, ht⟩ := hu
  exact gives_finish he ⟨ht.tb, by rw [reg_settle _ _ _ (by simp), ht.2 _ _ (by simp)]⟩

/-! ### TIME_SET -/

/-- The state TIME_SET leaves before its reply, while no grid runs. -/
theorem timeSet_facts {s : State} (new : Nat) (h : s.flag TK_CTRL_EN = false) :
    (((s.jump new).setLocked false).setFld TB_STATUS_TIME_VALID 1).tb.ns = new ∧
      (((s.jump new).setLocked false).setFld TB_STATUS_TIME_VALID 1).tb.run = s.tb.run ∧
      (((s.jump new).setLocked false).setFld TB_STATUS_TIME_VALID 1).flag TB_STATUS_LOCKED = false ∧
      (((s.jump new).setLocked false).setFld TB_STATUS_TIME_VALID 1).flag TB_STATUS_TIME_VALID = true := by
  obtain ⟨h1, h2, -, -⟩ := jump_plain (new := new) (.inl h)
  refine ⟨?_, ?_, ?_, ?_⟩
  · rw [setFld_tb, setLocked_ns, h1]
  · rw [setFld_tb, setLocked_run, h2]
  · rw [State.flag, fld_setFld_apart _ _ _ _ _ _ (by simp [Field.apart])]
    exact flag_setLocked _ false
  · rw [State.flag, fld_setFld_same _ _ _ _ (by simp)]
    rfl

/-- TIME_SET of a time in range, while no grid runs. -/
theorem timeSet_gives {c : Cmd} {s : State} (hr : Ready c s = true) (hp : c.p 2 < 1000000000) (h : s.flag TK_CTRL_EN = false) :
    Gives (.timeSet c) s fun t =>
      t.tb.ns = c.p64 0 % 2 ^ 48 * 1000000000 + c.p 2 ∧ t.tb.run = s.tb.run ∧ t.flag TB_STATUS_LOCKED = false ∧
        t.flag TB_STATUS_TIME_VALID = true := by
  obtain ⟨h1, h2, h3, h4⟩ := timeSet_facts (s := begun c s) (c.p64 0 % 2 ^ 48 * 1000000000 + c.p 2)
    ((flag_begun c s TK_CTRL_EN 0 (by simp [replyOnly])).trans h)
  refine gives_ok rfl hr (if_neg (by omega)) ⟨?_, ?_, ?_, ?_⟩
  · rw [settle_tb, answer_tb]; exact h1
  · rw [settle_tb, answer_tb, ← begun_tb c s]; exact h2
  · rw [flag_settle _ _ _ (by simp), flag_answer _ _ _ _ _ _ _ (by simp [replyOnly])]; exact h3
  · rw [flag_settle _ _ _ (by simp), flag_answer _ _ _ _ _ _ _ (by simp [replyOnly])]; exact h4

/-! ### Reads of time -/

/-- The three time registers latched from device time (R25). -/
def State.timeLatched (s : State) : State :=
  ((s.putN .TB_TIME_SEC (s.tb.ns / 1000000000 % 2 ^ 48)).putN .TB_TIME_NS (s.tb.ns % 1000000000)).putN .TB_TIME_FRAC (fracField s.tb.frac)

theorem timeLatched_touches (s : State) : Touches [.TB_TIME_SEC, .TB_TIME_NS, .TB_TIME_FRAC] s s.timeLatched :=
  ((touches_putN s .TB_TIME_SEC _ 0 (by simp)).trans (touches_putN _ .TB_TIME_NS _ 0 (by simp))).trans
    (touches_putN _ .TB_TIME_FRAC _ 0 (by simp))

theorem timeLatched_facts (s : State) : s.timeLatched.regN .TB_TIME_SEC = s.tb.ns / 1000000000 % 2 ^ 48 ∧
    s.timeLatched.regN .TB_TIME_NS = s.tb.ns % 1000000000 := by
  have h1 : s.tb.ns / 1000000000 % 2 ^ 48 < 2 ^ 64 := by omega
  have h2 : s.tb.ns % 1000000000 < 2 ^ 32 := by omega
  simp only [State.timeLatched, State.regN, reg_putN, reduceCtorEq, false_and, and_self, if_true, if_false,
    atWidth_toNat_wide .TB_TIME_SEC rfl h1, atWidth_toNat .TB_TIME_NS h2]

/-- A read of the low word of `TB_TIME_SEC`: the latched registers, the value read, and the shadow copy. -/
theorem tbTimeSecRead_gives (s : State) : Gives .tbTimeSecRead s fun t =>
    t.lastRead = t.reg .TB_TIME_SEC ∧ t.regN .TB_TIME_SEC = s.tb.ns / 1000000000 % 2 ^ 48 ∧ t.regN .TB_TIME_NS = s.tb.ns % 1000000000 ∧
      t.tb.ns = s.tb.ns ∧ t.tb.shadowNs = s.tb.ns ∧ SameRegs [.TB_TIME_SEC, .TB_TIME_NS, .TB_TIME_FRAC] s t ∧ SameMemory s t := by
  obtain ⟨h1, h2⟩ := timeLatched_facts s
  have ht := timeLatched_touches s
  refine gives_finish (u := { s.timeLatched with
    lastRead := s.timeLatched.reg .TB_TIME_SEC
    tb := { s.timeLatched.tb with shadowNs := s.tb.ns, shadowFrac := fracField s.tb.frac } }) rfl ?_
  generalize s.timeLatched = u at h1 h2 ht
  have hns : u.tb.ns = s.tb.ns := congrArg TimeBase.ns ht.tb
  have hmem : u.mem = s.mem := by rw [ht.1]
  have hhost : u.hostMem = s.hostMem := by rw [ht.1]
  refine ⟨?_, ?_, ?_, ?_, rfl, fun r i hr hs => ?_, sameMemory_of_mems ?_ ?_ ?_⟩
  · exact (reg_settle _ _ _ (by simp)).symm
  · exact (regN_settle _ _ _ (by simp)).trans h1
  · exact (regN_settle _ _ _ (by simp)).trans h2
  · exact hns
  · exact (reg_settle _ _ _ hs).trans (ht.2 r i hr)
  · exact hmem
  · exact hhost
  · exact ht.rest.spad

/-! ### The time PLL -/

/-- CLK_ALT takes a value, with source 103 (R24). -/
def State.clkAlt (s : State) (b : Nat) : State := (s.setFld TB_STATUS_CLK_ALT b).tbEvent 103

theorem clkAlt_touches (s : State) (b : Nat) : Touches [.TB_STATUS, .TB_EVT, .IC_PEND, .IC_MERGE_CNT] s (s.clkAlt b) :=
  (touches_setFld s TB_STATUS_CLK_ALT b 0 (by simp)).trans ((tbEvent_frame _ 103).mono (by simp [tbEventRegs]))

theorem clkAlt_fld (s : State) {b : Nat} (hb : b < 2) : (s.clkAlt b).fld TB_STATUS_CLK_ALT = b := by
  rw [State.clkAlt, (tbEvent_frame _ 103).fld (by simp [tbEventRegs]), fld_setFld_same _ _ _ _ (by simp)]
  exact Nat.mod_eq_of_lt hb

/-- What a change of CLK_ALT gives: the bit, source 103, and no other register. -/
theorem clkAlt_settled (s : State) {b : Nat} (hb : b < 2) :
    (settle (s.clkAlt b)).fld TB_STATUS_CLK_ALT = b ∧ (settle (s.clkAlt b)).pendBit 103 = true ∧
      OnlyRegs [.TB_STATUS, .TB_EVT, .IC_PEND, .IC_MERGE_CNT] s (settle (s.clkAlt b)) := by
  refine ⟨?_, ?_, onlyRegs_of_touches (clkAlt_touches s b)⟩
  · rw [fld_settle _ _ _ (by simp), clkAlt_fld s hb]
  · rw [State.pendBit, regN_settle _ _ _ (by simp)]
    exact pendBit_tbEvent _ (by omega)

/-- The least multiple at or above a number. -/
theorem roundUp_facts (a : Nat) {b : Nat} (hb : 0 < b) : roundUp a b % b = 0 ∧ a ≤ roundUp a b ∧ roundUp a b < a + b := by
  have h1 : roundUp a b = (a + b - 1) / b * b := by rw [roundUp, ceilDiv, if_neg (by omega)]
  have h2 := Nat.div_add_mod (a + b - 1) b
  have h3 := Nat.mod_lt (a + b - 1) hb
  rw [h1]
  refine ⟨Nat.mul_mod_left _ _, ?_, ?_⟩ <;> rw [Nat.mul_comm] <;> omega

/-- Device time has reached an instant that was ahead. -/
theorem reach_ns (s : State) {t : Nat} (h : s.tb.ns ≤ t) : (s.reach t).tb.ns = t := by
  unfold State.reach
  split
  · show s.tb.ns + (t - s.tb.ns) = t
    omega
  · omega

/-- The return of the time PLL while no grid runs: CLK_ALT clears at the next multiple of 1 ms (R24). -/
theorem timePllReturn_idle {s : State} (h : s.flag TB_STATUS_CLK_ALT = true) (hen : s.flag TK_CTRL_EN = false) :
    Gives .timePllReturn s fun t =>
      t.flag TB_STATUS_CLK_ALT = false ∧ t.tb.ns % 1000000 = 0 ∧ s.tb.ns ≤ t.tb.ns ∧ t.tb.ns < s.tb.ns + 1000000 := by
  obtain ⟨h1, h2, h3⟩ := roundUp_facts s.tb.ns (b := 1000000) (by omega)
  obtain ⟨k1, -, -⟩ := clkAlt_settled (s.reach (roundUp s.tb.ns 1000000)) (b := 0) (by omega)
  have hns : (settle ((s.reach (roundUp s.tb.ns 1000000)).clkAlt 0)).tb.ns = roundUp s.tb.ns 1000000 := by
    rw [settle_tb, (clkAlt_touches _ 0).tb, reach_ns s h2]
  refine gives_finish (u := (s.reach (roundUp s.tb.ns 1000000)).clkAlt 0) ?_ ⟨by rw [State.flag]; exact congrArg (· != 0) k1, ?_⟩
  · show execTimePllReturn s = _
    simp only [execTimePllReturn, h, hen, Bool.not_true, Bool.false_eq_true, if_false, State.clkAlt]
  · rw [hns]
    exact ⟨h1, h2, h3⟩

/-! ### The sleep span -/

/-- Counting cycles of the sleep span changes the time base alone. -/
theorem sleepCount_frame (s : State) (n : Nat) (b : Bool) : ∃ x : TimeBase, x.ns = s.tb.ns ∧
    ({ s.sleepCount n with tb := { (s.sleepCount n).tb with onRc := b } } : State) = { s with tb := { x with onRc := b } } ∧
    x.refCount = (if s.tb.onRc then s.tb.refCount else min (2 ^ 40) (s.tb.refCount + n)) ∧
    x.rcCount = (if s.tb.onRc then min (2 ^ 40) (s.tb.rcCount + n) else s.tb.rcCount) := by
  unfold State.sleepCount
  cases s.tb.onRc
  · exact ⟨{ s.tb with refCount := satAdd sleepFull s.tb.refCount n }, rfl, rfl, rfl, rfl⟩
  · exact ⟨{ s.tb with rcCount := satAdd sleepFull s.tb.rcCount n }, rfl, rfl, rfl, rfl⟩

/-- STATE 3 is Deep. -/
theorem deep_of_state {s : State} (h : s.fld PM_STATE_STATE = 3) : s.deep = true := by rw [State.deep, h]; rfl

/-- A change of the time base alone leaves registers and memory. -/
theorem settle_tb_frame (s : State) (x : TimeBase) : SameRegs [] s (settle { s with tb := x }) ∧ SameMemory s (settle { s with tb := x }) :=
  ⟨fun r i _ hs => reg_settle { s with tb := x } r i hs, sameMemory_of_mems rfl rfl rfl⟩

/-- Settles O7: each clause from the facts of the step, read or clock that it is about. -/
theorem timeStepsOnlyAsAsked : Obligations.TimeStepsOnlyAsAsked := by
  unfold Obligations.TimeStepsOnlyAsAsked
  refine ⟨fun a v s ha ho hd h => ?_, fun a v m s ha ho h1 h2 hen he hdc hden hnum ht1 ht2 hlo hm => ?_, fun a v s h => adjStep_refused h,
    fun c s hr hp h => timeSet_gives hr hp h, fun c s hr hp => gives_refused rfl hr (if_pos hp), tbTimeSecRead_gives,
    fun s h => ?_, fun s h hen => ?_, fun s h hen => timePllReturn_idle h hen, fun n s hd hrc => ?_, fun n s hd hrc => ?_⟩
  · obtain ⟨h1, h2, h3, h4⟩ := adjStep_plain (v := v) h
    refine gives_finish (execTbAdjStepWrite_owner ha ho hd) ?_
    rw [settle_tb, regN_settle _ _ _ (by simp)]
    exact ⟨h1, h2, h3, h4⟩
  · have hnew : ((s.tb.ns : Int) + signed 32 v.toNat).toNat = s.tb.ns + (signed 32 v.toNat).toNat := by omega
    obtain ⟨j1, j2, j3⟩ := adjStep_missed v.toNat (by omega) hen he hdc hden hnum ht1 ht2 hlo hm
    refine gives_finish (execTbAdjStepWrite_owner ha ho (by omega)) ?_
    rw [hnew]
    exact ⟨(regN_settle _ _ _ (by simp)).trans j1, (regN_settle _ _ _ (by simp)).trans j2, (flag_settle _ _ _ (by simp)).trans j3⟩
  · obtain ⟨h1, h2, h3⟩ := clkAlt_settled s (b := 1) (by omega)
    exact gives_finish (congrArg finish (if_neg (by rw [h]; simp))) ⟨by rw [State.flag]; exact congrArg (· != 0) h1, h2, h3⟩
  · obtain ⟨h1, h2, h3⟩ := clkAlt_settled s (b := 0) (by omega)
    refine gives_finish (u := s.clkAlt 0) ?_ ⟨by rw [State.flag]; exact congrArg (· != 0) h1, h2, h3⟩
    show execTimePllReturn s = _
    simp only [execTimePllReturn, h, hen, Bool.not_true, Bool.false_eq_true, if_false, if_true, State.clkAlt]
  · obtain ⟨x, hx, he, hc, -⟩ := sleepCount_frame s n true
    obtain ⟨f1, f2⟩ := settle_tb_frame s { x with onRc := true }
    refine gives_finish (u := { s with tb := { x with onRc := true } }) ?_ ⟨rfl, by rw [settle_tb]; simpa [hrc] using hc, hx, f1, f2⟩
    exact congrArg finish ((if_neg (by rw [deep_of_state hd, hrc]; simp)).trans he)
  · obtain ⟨x, hx, he, -, hc⟩ := sleepCount_frame s n false
    obtain ⟨f1, f2⟩ := settle_tb_frame s { x with onRc := false }
    refine gives_finish (u := { s with tb := { x with onRc := false } }) ?_ ⟨rfl, by rw [settle_tb]; simpa [hrc] using hc, hx, f1, f2⟩
    exact congrArg finish ((if_neg (by rw [deep_of_state hd, hrc]; simp)).trans he)

end Sys2Proof.Machine
end

section
/-!
PROOFS. TICK_CONFIG (R27 to R29, R31).
-/
namespace Sys2Proof.Machine

/-- The number and denominator of a grid, with quotient and remainder of its period (R28). -/
def State.gridNumbers (s : State) (num den : Nat) : State :=
  (((s.putN .TK_NUM num).putN .TK_DEN den).putN .TK_Q (1000000000 * num / den)).putN .TK_R (1000000000 * num % den)

theorem gridNumbers_touches (s : State) (num den : Nat) : Touches [.TK_NUM, .TK_DEN, .TK_Q, .TK_R] s (s.gridNumbers num den) :=
  (((touches_putN s .TK_NUM _ 0 (by simp)).trans (touches_putN _ .TK_DEN _ 0 (by simp))).trans (touches_putN _ .TK_Q _ 0 (by simp))).trans
    (touches_putN _ .TK_R _ 0 (by simp))

/-- The grid numbers in range read back. -/
theorem gridNumbers_facts (s : State) {num den : Nat} (hd : 0 < den) (hn : num ≤ 1048575) (hd2 : den ≤ 1048575) (hle : num ≤ den) :
    (s.gridNumbers num den).fld TK_NUM_NUM = num ∧ (s.gridNumbers num den).fld TK_DEN_DEN = den ∧
      (s.gridNumbers num den).regN .TK_Q = 1000000000 * num / den ∧ (s.gridNumbers num den).regN .TK_R = 1000000000 * num % den := by
  have hq : 1000000000 * num / den < 2 ^ 32 := by
    have h : 1000000000 * num / den ≤ 1000000000 := Nat.div_le_of_le_mul (by rw [Nat.mul_comm den]; exact Nat.mul_le_mul_left _ hle)
    omega
  have hr : 1000000000 * num % den < 2 ^ 32 := by
    have h := Nat.mod_lt (1000000000 * num) hd
    omega
  have h20 : ∀ {x : Nat}, x ≤ 1048575 → x % 2 ^ 20 = x := fun h => Nat.mod_eq_of_lt (by omega)
  have hnw : (atWidth .TK_NUM num).toNat = num := atWidth_toNat .TK_NUM (by omega)
  have hdw : (atWidth .TK_DEN den).toNat = den := atWidth_toNat .TK_DEN (by omega)
  simp only [State.gridNumbers, State.fld, State.regN, bitField, reg_putN, TK_NUM_NUM, TK_DEN_DEN, reduceCtorEq, false_and, and_self,
    if_true, if_false, Nat.shiftRight_zero, atWidth_toNat .TK_Q hq, atWidth_toNat .TK_R hr, hnw, hdw, h20 hn, h20 hd2]

/-- The grid of TICK_CONFIG, armed at the first grid time at least 1 ms ahead: `n` is its index. -/
def State.gridArmed (s : State) (num den n : Nat) : State :=
  (((s.gridNumbers num den).setGrid (n - 1)).setFld TK_CTRL_EN 1).setFld TK_CTRL_PENDING 1

theorem ceilDiv_facts {a b : Nat} (ha : 0 < a) (hb : 0 < b) : 1 ≤ ceilDiv a b ∧ a ≤ ceilDiv a b * b ∧ (ceilDiv a b - 1) * b < a := by
  obtain ⟨-, h2, h3⟩ := roundUp_facts a hb
  rw [roundUp] at h2 h3
  have h1 : 1 ≤ ceilDiv a b := by
    by_contra h
    have h0 : ceilDiv a b = 0 := by omega
    rw [h0] at h2
    omega
  refine ⟨h1, h2, ?_⟩
  rw [Nat.sub_mul, Nat.one_mul]
  omega

/-- TICK_CONFIG accepts numbers in range while no grid runs. -/
theorem opTickConfig_accepts {c : Cmd} {s : State} (h : s.flag TK_CTRL_EN = false) (h0 : 0 < c.p 0) (h1 : 0 < c.p 1) (h2 : c.p 0 ≤ 1048575)
    (h3 : c.p 1 ≤ 1048575) (h4 : c.p 1 ≤ 240 * c.p 0) (h5 : c.p 0 ≤ c.p 1) :
    opTickConfig c s = Res.ok (s.gridArmed (c.p 0) (c.p 1) (ceilDiv ((s.tb.ns + 1000000) * c.p 1) (1000000000 * c.p 0)))
      (ceilDiv ((s.tb.ns + 1000000) * c.p 1) (1000000000 * c.p 0) % 2 ^ 32) := by
  unfold opTickConfig
  simp only [h, Bool.false_and, Bool.false_eq_true, if_false, false_and]
  rw [if_neg (by omega), if_neg (by omega)]
  rfl

/-- What the armed grid holds: its registers, and the next tick at the grid time after its index. -/
theorem gridArmed_facts (s : State) {num den n : Nat} (hd : 0 < den) (hn : num ≤ 1048575) (hd2 : den ≤ 1048575)
    (hle : num ≤ den) (h1 : 1 ≤ n) (hn64 : n < 2 ^ 64) (ht : n * 1000000000 * num / den < 2 ^ 64) :
    (s.gridArmed num den n).flag TK_CTRL_EN = true ∧ (s.gridArmed num den n).flag TK_CTRL_PENDING = true ∧
      (s.gridArmed num den n).fld TK_NUM_NUM = num ∧ (s.gridArmed num den n).fld TK_DEN_DEN = den ∧
      (s.gridArmed num den n).regN .TK_Q = 1000000000 * num / den ∧ (s.gridArmed num den n).regN .TK_R = 1000000000 * num % den ∧
      (s.gridArmed num den n).tickIndex = n - 1 ∧ (s.gridArmed num den n).nextTick = n * 1000000000 * num / den := by
  obtain ⟨g1, g2, g3, g4⟩ := gridNumbers_facts s hd hn hd2 hle
  have hT : (s.gridNumbers num den).tickTime (n - 1 + 1) = n * 1000000000 * num / den := by
    rw [Nat.sub_add_cancel h1, tickTime_eq g1 g2 hd]
  have htouch : Touches [.TK_CTRL] ((s.gridNumbers num den).setGrid (n - 1)) (s.gridArmed num den n) :=
    (touches_setFld _ TK_CTRL_EN 1 0 (by simp)).trans (touches_setFld _ TK_CTRL_PENDING 1 0 (by simp))
  have hnum : ∀ r : Reg, r ∉ gridRegs → r ∉ [Reg.TK_CTRL] → (s.gridArmed num den n).reg r = (s.gridNumbers num den).reg r := fun r h2 h3 =>
    (htouch.2 r 0 h3).trans (reg_setGrid _ _ _ _ h2)
  refine ⟨?_, ?_, ?_, ?_, ?_, ?_, ?_, ?_⟩
  · rw [State.gridArmed, State.flag, fld_setFld_apart _ _ _ _ _ _ (by simp [Field.apart]), fld_setFld_same _ _ _ _ (by simp)]
    rfl
  · rw [State.gridArmed, State.flag, fld_setFld_same _ _ _ _ (by simp)]
    rfl
  · rw [State.fld, hnum _ (by simp [gridRegs]) (by simp)]; exact g1
  · rw [State.fld, hnum _ (by simp [gridRegs]) (by simp)]; exact g2
  · rw [State.regN, hnum _ (by simp [gridRegs]) (by simp)]; exact g3
  · rw [State.regN, hnum _ (by simp [gridRegs]) (by simp)]; exact g4
  · exact (htouch.regN (by simp)).trans (tickIndex_setGrid _ (by omega))
  · have hx : (s.gridArmed num den n).nextTick = ((s.gridNumbers num den).setGrid (n - 1)).nextTick := by
      rw [State.nextTick, htouch.regN (by simp), htouch.regN (by simp), State.nextTick]
    rw [hx, nextTick_setGrid _ _ (by rw [hT]; exact ht), hT]

/-- Arming the grid leaves streams, pictures and device time. -/
theorem gridArmed_frame (s : State) (num den n : Nat) : (s.gridArmed num den n).tb.ns = s.tb.ns ∧
    (s.gridArmed num den n).streams = s.streams ∧ (s.gridArmed num den n).codec = s.codec := by
  have hg := gridNumbers_touches s num den
  have hns : (s.gridNumbers num den).tb.ns = s.tb.ns := congrArg TimeBase.ns hg.tb
  rw [State.gridArmed, setFld_tb, setFld_tb, setFld_streams, setFld_streams, setFld_codec, setFld_codec, setGrid_shape]
  exact ⟨hns, hg.streams, hg.codec⟩

/-- The first grid time at least 1 ms ahead: it is near, and the one before it lies within 1 ms. -/
theorem firstTick_bounds {ns num den n : Nat} (hn0 : 0 < num) (hd : 0 < den) (h4 : den ≤ 240 * num) (h5 : num ≤ den) (hns : ns < 2 ^ 62)
    (hn : n = ceilDiv ((ns + 1000000) * den) (1000000000 * num)) :
    1 ≤ n ∧ n < 2 ^ 64 ∧ n * 1000000000 * num / den < 2 ^ 64 ∧ ns + 1000000 ≤ n * 1000000000 * num / den ∧
      (n - 1) * 1000000000 * num / den < ns + 1000000 := by
  obtain ⟨h1, h2, h3⟩ := ceilDiv_facts (a := (ns + 1000000) * den) (b := 1000000000 * num) (Nat.mul_pos (by omega) hd) (by omega)
  rw [← hn] at h1 h2 h3
  have hlast : (n - 1) * 1000000000 * num / den < ns + 1000000 := by
    rw [Nat.div_lt_iff_lt_mul hd, Nat.mul_assoc]
    exact h3
  refine ⟨h1, ?_, ?_, ?_, hlast⟩
  · have h6 : (n - 1) * (1000000000 * num) < (ns + 1000000) * (240 * num) := lt_of_lt_of_le h3 (Nat.mul_le_mul_left _ h4)
    have h7 : (n - 1) * 1000000000 < (ns + 1000000) * 240 := by
      rw [← Nat.mul_assoc, ← Nat.mul_assoc] at h6
      exact Nat.lt_of_mul_lt_mul_right h6
    omega
  · have hsucc : n * 1000000000 = (n - 1) * 1000000000 + 1000000000 := by omega
    have h6 : n * 1000000000 * num ≤ (n - 1) * 1000000000 * num + 1000000000 * den := by
      rw [hsucc, Nat.add_mul]
      exact Nat.add_le_add_left (Nat.mul_le_mul_left _ h5) _
    have h7 : n * 1000000000 * num / den ≤ (n - 1) * 1000000000 * num / den + 1000000000 :=
      calc n * 1000000000 * num / den ≤ ((n - 1) * 1000000000 * num + 1000000000 * den) / den := Nat.div_le_div_right h6
        _ = _ := Nat.add_mul_div_right _ _ hd
    exact lt_of_le_of_lt h7 (lt_of_lt_of_le (Nat.add_lt_add_right hlast _) (by omega))
  · rw [Nat.le_div_iff_mul_le hd, Nat.mul_assoc]
    exact h2

/-- TICK_CONFIG refuses numbers out of range with detail 2. -/
theorem opTickConfig_range {c : Cmd} {s : State} (h : s.flag TK_CTRL_EN = false)
    (hp : c.p 0 = 0 ∨ c.p 1 = 0 ∨ 1048575 < c.p 0 ∨ 1048575 < c.p 1) : opTickConfig c s = Res.err s 0x11 2 := by
  unfold opTickConfig
  simp only [h, Bool.false_and, Bool.false_eq_true, if_false, false_and, if_pos hp]
  rfl

/-- TICK_CONFIG refuses a period below 1/240 s or above 1 s with detail 3. -/
theorem opTickConfig_period {c : Cmd} {s : State} (h : s.flag TK_CTRL_EN = false)
    (hin : ¬ (c.p 0 = 0 ∨ c.p 1 = 0 ∨ 1048575 < c.p 0 ∨ 1048575 < c.p 1)) (hp : 240 * c.p 0 < c.p 1 ∨ c.p 1 < c.p 0) :
    opTickConfig c s = Res.err s 0x11 3 := by
  unfold opTickConfig
  simp only [h, Bool.false_and, Bool.false_eq_true, if_false, false_and, if_neg hin, if_pos hp]
  rfl

/-- Settles O8: the accepted grid by `gridArmed_facts`, the refusals by the order of the checks. -/
theorem tickConfigStartsTheGrid : Obligations.TickConfigStartsTheGrid := by
  unfold Obligations.TickConfigStartsTheGrid
  have en : ∀ {c : Cmd} {s : State}, s.flag TK_CTRL_EN = false → (begun c s).flag TK_CTRL_EN = false := fun {c s} h =>
    (flag_begun c s TK_CTRL_EN 0 (by simp [replyOnly])).trans h
  refine ⟨fun c s hr h h0 h1 h2 h3 h4 h5 hns => ?_, fun c s hr h hp => gives_refused rfl hr (opTickConfig_range (en h) hp),
    fun c s hr h h0 h1 h2 h3 hp => gives_refused rfl hr (opTickConfig_period (en h) (by omega) hp)⟩
  obtain ⟨n1, n2, n3, n4, n5⟩ := firstTick_bounds h0 h1 h4 h5 hns rfl
  have hop := opTickConfig_accepts (s := begun c s) (en h) h0 h1 h2 h3 h4 h5
  rw [begun_tb] at hop
  generalize ceilDiv ((s.tb.ns + 1000000) * c.p 1) (1000000000 * c.p 0) = n at n1 n2 n3 n4 n5 hop
  obtain ⟨f1, f2, f3, f4, f5, f6, f7, f8⟩ := gridArmed_facts (begun c s) h1 h2 h3 h5 n1 n2 n3
  obtain ⟨g1, g2, g3⟩ := gridArmed_frame (begun c s) (c.p 0) (c.p 1) n
  refine gives_ok rfl hr hop ?_
  generalize (begun c s).gridArmed (c.p 0) (c.p 1) n = u at *
  have hreg : ∀ r, r ∉ replyOnly → r ≠ .SEC_STS → (settle (u.answer c 0 0 (n % 2 ^ 32))).regN r = u.regN r := fun r hq hs => by
    rw [regN_settle _ _ _ hs, regN_answer _ _ _ _ _ _ _ hq]
  have hfld : ∀ f : Field, f.reg ∉ replyOnly → f.reg ≠ .SEC_STS → (settle (u.answer c 0 0 (n % 2 ^ 32))).fld f = u.fld f := fun f hq hs => by
    rw [fld_settle _ _ _ hs, fld_answer _ _ _ _ _ _ _ hq]
  have hidx : (settle (u.answer c 0 0 (n % 2 ^ 32))).tickIndex = n - 1 := (hreg .TK_INDEX (by simp [replyOnly]) (by simp)).trans f7
  have hnext : (settle (u.answer c 0 0 (n % 2 ^ 32))).nextTick = n * 1000000000 * c.p 0 / c.p 1 := by
    rw [State.nextTick, hreg _ (by simp [replyOnly]) (by simp), hreg _ (by simp [replyOnly]) (by simp)]
    exact f8
  refine ⟨?_, ?_, ?_, ?_, ?_, ?_, ?_, ?_, ?_, ?_, ?_, ?_⟩
  · rw [State.flag, hfld _ (by simp [replyOnly]) (by simp)]; exact f1
  · rw [State.flag, hfld _ (by simp [replyOnly]) (by simp)]; exact f2
  · rw [hfld _ (by simp [replyOnly]) (by simp)]; exact f3
  · rw [hfld _ (by simp [replyOnly]) (by simp)]; exact f4
  · rw [hreg _ (by simp [replyOnly]) (by simp)]; exact f5
  · rw [hreg _ (by simp [replyOnly]) (by simp)]; exact f6
  · rw [hnext, hidx, Nat.sub_add_cancel n1]
  · rw [hnext]; exact n4
  · rw [hidx]; exact n5
  · rw [settle_tb, answer_tb, g1, begun_tb]
  · rw [settle_streams, answer_streams, g2, begun_streams]
  · rw [settle_codec, answer_codec, g3, begun_codec]

end Sys2Proof.Machine
end

section
/-!
PROOFS. The idle step and the state after reset (R23, R62, R217, R434, R518).
-/
namespace Sys2Proof.Machine

/-- Without a rate correction, one edge of TCLK is 2 ns, and the fraction stays. -/
theorem tclkEdge_plain {s : State} (h : s.reg .TB_ADJ_RATE = 0) (hf : s.tb.frac < 2 ^ 48 * 1000000000) : tclkEdge s = s.pass 2 := by
  have hrate : s.regN .TB_ADJ_RATE = 0 := by rw [State.regN, h]; rfl
  have hunit : nsUnit = 2 ^ 48 * 1000000000 := rfl
  have htotal : (((2 * nsUnit + s.tb.frac : Nat) : Int) + signed 32 (s.regN .TB_ADJ_RATE) * (2 ^ 39 : Nat)).toNat = 2 * nsUnit + s.tb.frac := by
    rw [hrate, show signed 32 0 = 0 from rfl]
    omega
  have hdiv : (2 * nsUnit + s.tb.frac) / nsUnit = 2 := by rw [hunit]; omega
  have hmod : (2 * nsUnit + s.tb.frac) % nsUnit = s.tb.frac := by rw [hunit]; omega
  unfold tclkEdge
  simp only [htotal, hdiv, hmod]
  rfl

/-- Settles O2: the idle step is one edge of TCLK. -/
theorem emptyQueueIsOneEdge : Obligations.EmptyQueueIsOneEdge := by
  unfold Obligations.EmptyQueueIsOneEdge
  intro s hq he hd hr hf
  have hidle : s.idle = s.pass 2 := by
    unfold State.idle
    rw [he]
    exact (if_pos hd).trans (tclkEdge_plain hr hf)
  refine ⟨settle (s.pass 2), ?_, rfl, rfl, rfl, ?_⟩
  · rw [step, hq, ← finish_eq, ← hidle]
  · exact onlyRegs_of_touches (Touches.refl [] (s.pass 2))

/-- Settles O5: the state after reset lists nothing but the fuse registers. -/
theorem resetIsSafe : Obligations.ResetIsSafe := by
  unfold Obligations.ResetIsSafe
  have hsafe : State.reset.safe = true := by
    rw [State.safe, reset_memsWf]
    decide
  exact ⟨rfl, rfl, hsafe, rfl, rfl, rfl, rfl, by decide, by decide, fun _ => rfl⟩

end Sys2Proof.Machine
end

section
/-!
PROOFS. ENC_PICTURE and DEC_AU (R38, R39, R84, R119, R165, R199).
-/
namespace Sys2Proof.Machine

/-! ### Listing a command -/

/-- The registers that count outstanding commands (R86). -/
def listRegs : List Reg := [.CMDQ_STS, .CMDQ_HELD]

/-- Only the list of outstanding commands and its counts differ. -/
def Listed (s t : State) : Prop :=
  t = { s with regs := t.regs, cmd := { s.cmd with outstanding := t.cmd.outstanding } } ∧ ∀ r i, r ∉ listRegs → t.reg r i = s.reg r i

theorem Listed.refl (s : State) : Listed s s := ⟨rfl, fun _ _ _ => rfl⟩

theorem Listed.trans {s t u : State} (h : Listed s t) (k : Listed t u) : Listed s u := by
  refine ⟨?_, fun r i hr => (k.2 r i hr).trans (h.2 r i hr)⟩
  have h1 := h.1
  have k1 := k.1
  rw [k1, h1]

theorem listed_onEntries (s : State) (q : Nat) (f : List Outstanding → List Outstanding) : Listed s (s.onEntries q f) := by
  have h : ∀ t : State, Touches listRegs t (t.syncCmdq q) := fun t =>
    (touches_setFld t CMDQ_STS_PENDING _ q (by simp [listRegs])).trans (touches_setFld _ CMDQ_HELD_COUNT _ 0 (by simp [listRegs]))
  have ht := h { s with cmd := { s.cmd with outstanding := f s.cmd.outstanding } }
  unfold State.onEntries
  exact ⟨by rw [ht.1], ht.2⟩

theorem listed_enlist (s : State) (c : Cmd) : Listed s (s.enlist c) := by
  unfold State.enlist
  split
  · exact Listed.refl s
  · exact listed_onEntries _ _ _

/-- A command that starts is listed, and nothing else. -/
theorem listed_begun (c : Cmd) (s : State) : Listed s (begun c s) := (listed_enlist s c).trans (listed_onEntries _ _ _)

theorem Listed.heldReplies {s t : State} (h : Listed s t) : t.cmd.heldReplies = s.cmd.heldReplies := by rw [h.1]
theorem Listed.mem {s t : State} (h : Listed s t) : t.mem = s.mem := by rw [h.1]
theorem Listed.hostMem {s t : State} (h : Listed s t) : t.hostMem = s.hostMem := by rw [h.1]
theorem Listed.spad {s t : State} (h : Listed s t) : t.spad = s.spad := by rw [h.1]
theorem Listed.streams {s t : State} (h : Listed s t) : t.streams = s.streams := by rw [h.1]
theorem Listed.codec {s t : State} (h : Listed s t) : t.codec = s.codec := by rw [h.1]
theorem Listed.tb {s t : State} (h : Listed s t) : t.tb = s.tb := by rw [h.1]

/-! ### What the checks of a picture read is not changed by listing its command -/

section
variable {s t : State} (hl : Listed s t)
include hl

theorem Listed.regN {r : Reg} (hr : r ∉ listRegs) (i : Nat) : t.regN r i = s.regN r i := by simp only [State.regN, hl.2 r i hr]

theorem Listed.fld {f : Field} (hf : f.reg ∉ listRegs) (i : Nat) : t.fld f i = s.fld f i := by simp only [State.fld, hl.2 f.reg i hf]

theorem Listed.flag {f : Field} (hf : f.reg ∉ listRegs) (i : Nat) : t.flag f i = s.flag f i := by simp only [State.flag, hl.fld hf i]

theorem Listed.stream (h : Nat) : t.stream h = s.stream h := by simp only [State.stream, hl.streams]

theorem Listed.streamError (c : Cmd) (k : Option Bool) : t.streamError c k = s.streamError c k := by
  simp only [State.streamError, hl.stream]

theorem Listed.indexOk (c : Cmd) : t.indexOk c = s.indexOk c := by simp only [State.indexOk, State.boundTicks, hl.codec]

theorem Listed.accepted (h : Nat) : t.accepted h = s.accepted h := by simp only [State.accepted, hl.codec]

theorem Listed.sourceOk (x : Stream) (d : Nat) : t.sourceOk x d = s.sourceOk x d := by
  simp (disch := simp [listRegs]) only [State.sourceOk, hl.fld, hl.flag, hl.regN]

theorem Listed.bankStreams (next : Bool) (p : Nat) : t.bankStreams next p = s.bankStreams next p := by
  cases next <;> simp (disch := simp [listRegs]) only [State.bankStreams, Bool.false_eq_true, if_true, if_false, hl.fld, hl.regN]

theorem Listed.pipesAfter (m h : Nat) : t.pipesAfter m h = s.pipesAfter m h := by
  simp (disch := simp [listRegs]) only [State.pipesAfter, State.swapPending, hl.bankStreams, hl.regN]

theorem Listed.canMeet (x : Stream) (n : Nat) : t.canMeet x n = s.canMeet x n := by
  simp (disch := simp [listRegs]) only [State.canMeet, State.tickTime, State.tickIndex, hl.tb, hl.fld, hl.flag, hl.regN]
  rfl

end

/-! ### A picture is bound -/

theorem withStream_some {c : Cmd} {k : Option Bool} {s : State} (h : s.streamError c k = none) (f : Stream → Res) :
    withStream c k s f = f (s.stream c.handle) := by
  unfold withStream
  rw [h]

/-- The state that a bound picture leaves: `u` lists the picture, and the command's entry its tick. -/
def boundState (c : Cmd) (u : State) : State := u.onEntries c.queue (mapEntry c fun o => { o with bound := c.p64 0 })

/-- A picture with an explicit index that can be met is bound to it, and its reply waits. -/
theorem bindPicture_bound {s : State} {c : Cmd} {n : Nat} {f : Nat → State} (ha : s.accepted c.handle < 4)
    (hp : (s.pipesAfter 0 c.handle).length = n) (h0 : c.p64 0 ≠ 0) (hm : s.canMeet (s.stream c.handle) (c.p64 0) = true) :
    s.bindPicture c n f = Res.later (boundState c (f (c.p64 0))) := by
  unfold State.bindPicture boundState
  simp only [if_neg (Nat.not_le.mpr ha), hp, ne_eq, not_true_eq_false, if_false, h0, not_false_eq_true, hm, Bool.not_true, Bool.false_eq_true,
    and_false]

/-- An index that cannot be met is answered LATE_SUBMIT. -/
theorem bindPicture_late {s : State} {c : Cmd} {n : Nat} {f : Nat → State} (ha : s.accepted c.handle < 4)
    (hp : (s.pipesAfter 0 c.handle).length = n) (h0 : c.p64 0 ≠ 0) (hm : s.canMeet (s.stream c.handle) (c.p64 0) = false) :
    s.bindPicture c n f = Res.err s 0x15 1 := by
  unfold State.bindPicture
  simp only [if_neg (Nat.not_le.mpr ha), hp, ne_eq, not_true_eq_false, if_false, h0, not_false_eq_true, hm, Bool.not_false, and_self, if_true]

/-- A fifth picture finds no room. -/
theorem bindPicture_full {s : State} {c : Cmd} {n : Nat} {f : Nat → State} (ha : 4 ≤ s.accepted c.handle) :
    s.bindPicture c n f = Res.err s 0x12 1 := if_pos ha

/-- The pictures of the codec are `x`, after the stream `h` was named. -/
def State.listPictures (u : State) (x : Codec) (h : Nat) : State := ({ u with codec := x } : State).touch 4 h

theorem reg_listPictures (u : State) (x : Codec) (h : Nat) (r : Reg) (i : Nat) : (u.listPictures x h).reg r i = u.reg r i := rfl

/-- What a bound picture changes: the pictures of its codec, and the list of commands. -/
theorem boundState_frame {s u : State} {c : Cmd} (hb : Listed s u) (x : Codec) (h : Nat) :
    (settle (boundState c (u.listPictures x h))).codec = x ∧ (settle (boundState c (u.listPictures x h))).cmd.heldReplies = s.cmd.heldReplies ∧
      (settle (boundState c (u.listPictures x h))).streams = s.streams ∧
      SameRegs [.CMDQ_STS, .CMDQ_HELD] s (settle (boundState c (u.listPictures x h))) ∧
      SameMemory s (settle (boundState c (u.listPictures x h))) := by
  have he : Listed (u.listPictures x h) (boundState c (u.listPictures x h)) := listed_onEntries _ _ _
  generalize boundState c (u.listPictures x h) = v at he ⊢
  refine ⟨?_, ?_, ?_, fun r i hr hs => ?_, sameMemory_of_mems ?_ ?_ ?_⟩
  · rw [settle_codec, he.codec]; rfl
  · rw [settle_cmd, he.heldReplies, ← hb.heldReplies]; rfl
  · rw [settle_streams, he.streams, ← hb.streams]; rfl
  · rw [reg_settle _ _ _ hs, he.2 r i hr, reg_listPictures, hb.2 r i hr]
  · rw [settle_mem, he.mem, ← hb.mem]; rfl
  · rw [settle_hostMem, he.hostMem, ← hb.hostMem]; rfl
  · rw [settle_spad, he.spad, ← hb.spad]; rfl

/-! ### ENC_PICTURE and DEC_AU that pass their checks -/

/-- Checks that all hold find no fault. -/
theorem firstBad_all_ok {l : List (Bool × Nat)} (h : ∀ p ∈ l, p.1 = true) : firstBad l = none := by
  induction l with
  | nil => rfl
  | cons p l ih =>
    obtain ⟨ok, d⟩ := p
    rw [List.forall_mem_cons] at h
    obtain ⟨rfl, hl⟩ := h
    exact ih hl

/-- The picture that ENC_PICTURE binds to a tick. -/
def encPicOf (c : Cmd) (n : Nat) : EncPic := { stream := c.handle, tick := n, cmd := some c, words := c.params }

/-- The picture that DEC_AU binds to a tick, of an access unit from ingest. -/
def decPicOf (c : Cmd) (n : Nat) : DecPic := { stream := c.handle, tick := n, cmd := some c, words := c.params }

/-- An ENC_PICTURE that passes its checks is bound. -/
theorem opEncPicture_checked {c : Cmd} {s : State} (h1 : s.streamError c (some false) = none) (h2 : s.indexOk c = true)
    (h3 : encPictureOk (s.stream c.handle) c = true) (h4 : (c.p 3).testBit 6 = false) (h5 : s.sourceOk (s.stream c.handle) (c.p 2 % 8192) = true) :
    opEncPicture c s = s.bindPicture c (cfg (s.stream c.handle).newest 4 0 5) fun n =>
      s.listPictures { s.codec with enc := s.codec.enc ++ [encPicOf c n] } c.handle := by
  unfold opEncPicture
  rw [withStream_some h1, h2, h3, h4, h5, firstBad_all_ok (by simp)]
  rfl

/-- The checks of a DEC_AU of an access unit from ingest. -/
theorem decAuChecks_ingest {c : Cmd} {s : State} {x : Stream} (h2 : s.indexOk c = true) (h3 : c.p 2 = 1)
    (h4 : (flowOf true x.newest).isSome = true) : firstBad (decAuChecks c x s) = none := by
  refine firstBad_all_ok ?_
  simp [decAuChecks, h2, h3, h4, show Nat.testBit 1 1 = false from rfl, show Nat.testBit 1 2 = false from rfl]

/-- A DEC_AU of an access unit from ingest that passes its checks is bound, with no buffer staged. -/
theorem opDecAu_checked {c : Cmd} {s : State} (h1 : s.streamError c (some true) = none) (h2 : s.indexOk c = true) (h3 : c.p 2 = 1)
    (h4 : (flowOf true (s.stream c.handle).newest).isSome = true) (ha : s.accepted c.handle < 4) {t : State}
    (hb : s.bindPicture c (cfg (s.stream c.handle).newest 4 0 4) (fun k =>
      s.listPictures { s.codec with dec := s.codec.dec ++ [decPicOf c k] } c.handle) = Res.later t) : opDecAu c s = Res.later t := by
  have hi : (c.p 2).testBit 0 = true := by rw [h3]; rfl
  unfold opDecAu
  rw [withStream_some h1, decAuChecks_ingest h2 h3 h4]
  simp only [hi, if_true, if_neg (Nat.not_le.mpr ha)]
  unfold State.listPictures decPicOf at hb
  rw [hb]
  rfl

/-- A fifth DEC_AU finds no room. -/
theorem opDecAu_full {c : Cmd} {s : State} (h1 : s.streamError c (some true) = none) (h2 : s.indexOk c = true) (h3 : c.p 2 = 1)
    (h4 : (flowOf true (s.stream c.handle).newest).isSome = true) (ha : 4 ≤ s.accepted c.handle) : opDecAu c s = Res.err s 0x12 1 := by
  unfold opDecAu
  rw [withStream_some h1, decAuChecks_ingest h2 h3 h4]
  exact if_pos ha

/-- Settles O23: the checks read what listing the command leaves, and then the picture is bound or refused. -/
theorem picturesAreAcceptedForTheirTick : Obligations.PicturesAreAcceptedForTheirTick := by
  unfold Obligations.PicturesAreAcceptedForTheirTick
  have enc : ∀ {c : Cmd} {s : State}, s.streamError c (some false) = none → s.indexOk c = true → encPictureOk (s.stream c.handle) c = true →
      (c.p 3).testBit 6 = false → s.sourceOk (s.stream c.handle) (c.p 2 % 8192) = true →
      opEncPicture c (begun c s) = (begun c s).bindPicture c (cfg (s.stream c.handle).newest 4 0 5) fun n =>
        (begun c s).listPictures { s.codec with enc := s.codec.enc ++ [encPicOf c n] } c.handle := fun {c s} h1 h2 h3 h4 h5 => by
    have hl := listed_begun c s
    rw [← hl.stream c.handle] at h3 h5 ⊢
    rw [← hl.codec]
    exact opEncPicture_checked ((hl.streamError _ _).trans h1) ((hl.indexOk _).trans h2) h3 h4 ((hl.sourceOk _ _).trans h5)
  refine ⟨fun c s hr h1 h2 h3 h4 h5 ha hp h0 hm => ?_, fun c s hr h1 h2 h3 h4 h5 ha hp h0 hm => ?_, fun c s hr h1 h2 h3 h4 h5 ha => ?_,
    fun c s hr h1 h2 h3 h4 ha hp h0 hm => ?_, fun c s hr h1 h2 h3 h4 ha => ?_⟩ <;> have hl := listed_begun c s
  · exact gives_deferred rfl hr ((enc h1 h2 h3 h4 h5).trans (bindPicture_bound (by rwa [hl.accepted]) (by rwa [hl.pipesAfter]) h0
      (by rwa [hl.stream, hl.canMeet]))) (boundState_frame hl _ _)
  · exact gives_refused rfl hr ((enc h1 h2 h3 h4 h5).trans (bindPicture_late (by rwa [hl.accepted]) (by rwa [hl.pipesAfter]) h0
      (by rwa [hl.stream, hl.canMeet])))
  · exact gives_refused rfl hr ((enc h1 h2 h3 h4 h5).trans (bindPicture_full (by rwa [hl.accepted])))
  · have hop := opDecAu_checked ((hl.streamError _ _).trans h1) ((hl.indexOk _).trans h2) h3 (by rwa [hl.stream]) (by rwa [hl.accepted])
      (bindPicture_bound (by rwa [hl.accepted]) (by rwa [hl.pipesAfter, hl.stream]) h0 (by rwa [hl.stream, hl.canMeet]))
    rw [hl.codec] at hop
    exact gives_deferred rfl hr hop (boundState_frame hl _ _)
  · exact gives_refused rfl hr (opDecAu_full ((hl.streamError _ _).trans h1) ((hl.indexOk _).trans h2) h3 (by rwa [hl.stream])
      (by rwa [hl.accepted]))

end Sys2Proof.Machine
end

section
/-!
PROOFS. Delayed launches and the deadline timer (R36, R130, R172, R200, R458).
-/
namespace Sys2Proof.Machine

/-! ### What leaves the pictures and the streams -/

/-- The encode pictures, the streams and the count of delayed launches are as they were. -/
def KeepsPictures (s t : State) : Prop :=
  t.codec.enc = s.codec.enc ∧ t.streams = s.streams ∧ t.regN .SLT_DELAY_CNT = s.regN .SLT_DELAY_CNT

theorem KeepsPictures.refl (s : State) : KeepsPictures s s := ⟨rfl, rfl, rfl⟩

theorem KeepsPictures.trans {s t u : State} (h : KeepsPictures s t) (k : KeepsPictures t u) : KeepsPictures s u :=
  ⟨k.1.trans h.1, k.2.1.trans h.2.1, k.2.2.trans h.2.2⟩

theorem KeepsPictures.stream {s t : State} (h : KeepsPictures s t) (k : Nat) : t.stream k = s.stream k := by
  simp only [State.stream, h.2.1]

/-- Writing other registers. -/
theorem Touches.keepsPictures {rs : List Reg} {s t : State} (h : Touches rs s t) (hr : Reg.SLT_DELAY_CNT ∉ rs) : KeepsPictures s t :=
  ⟨congrArg _ h.codec, h.streams, h.regN hr⟩

theorem keepsPictures_foldl {α : Type} {f : State → α → State} (hf : ∀ t a, KeepsPictures t (f t a)) (l : List α) (s : State) :
    KeepsPictures s (l.foldl f s) := by
  induction l generalizing s with
  | nil => exact KeepsPictures.refl s
  | cons a l ih => exact (hf s a).trans (ih _)

theorem keepsPictures_setReg (s : State) (r : Reg) (v : DWord) (i : Nat) (h : Reg.SLT_DELAY_CNT ≠ r) : KeepsPictures s (s.setReg r v i) :=
  (touches_setReg (rs := [r]) s r v i (by simp)).keepsPictures (by simpa using h)

theorem keepsPictures_putN (s : State) (r : Reg) (v i : Nat) (h : Reg.SLT_DELAY_CNT ≠ r) : KeepsPictures s (s.putN r v i) :=
  keepsPictures_setReg s r _ i h

theorem keepsPictures_setFld (s : State) (f : Field) (v i : Nat) (h : Reg.SLT_DELAY_CNT ≠ f.reg) : KeepsPictures s (s.setFld f v i) :=
  keepsPictures_setReg s f.reg _ i h

theorem keepsPictures_event (s : State) (f : Field) (i : Nat) (h : Reg.SLT_DELAY_CNT ≠ f.reg) : KeepsPictures s (s.event f i) :=
  (touches_event (rs := f.reg :: sourceOnly) s f i (by simp) fun _ hr => List.mem_cons_of_mem _ hr).keepsPictures (by simp [sourceOnly, h])

theorem keepsPictures_record (s : State) (fs d : Nat) : KeepsPictures s (s.record fs d) :=
  (touches_record (rs := faultOnly) s fs d false fun _ h => h).keepsPictures (by simp [faultOnly])

theorem keepsPictures_touch (s : State) (k h : Nat) : KeepsPictures s (s.touch k h) := ⟨rfl, rfl, rfl⟩

theorem keepsPictures_mark (s : State) (d a b : Nat) : KeepsPictures s (s.mark d a b) :=
  (keepsPictures_putN s .FB_DESC_MARKS _ d (by decide)).trans (keepsPictures_touch _ _ _)

/-- The registers that a sample of a monitor writes (R458). -/
def monitorRegs : List Reg := [.MON_MIN, .MON_MAX, .MON_COUNT, .MON_SUM, .MON_HIST, .MON_STS, .MON_EVT, .IC_PEND, .IC_MERGE_CNT]

theorem touches_fold (s : State) (m v : Nat) : Touches monitorRegs s (s.fold m v) := by
  unfold State.fold
  extract_lets _ b s1 s2 s3 hi lo s4 s5
  have k1 : Touches monitorRegs s s1 :=
    (touches_putN s .MON_MIN _ m (by simp [monitorRegs])).trans (touches_putN _ .MON_MAX _ m (by simp [monitorRegs]))
  have k2 : Touches monitorRegs s1 s2 :=
    (touches_bump s1 .MON_COUNT 1 m (by simp [monitorRegs])).trans (touches_putN _ .MON_SUM _ m (by simp [monitorRegs]))
  have k3 : Touches monitorRegs s2 s3 := touches_bump s2 .MON_HIST 1 b (by simp [monitorRegs])
  have k4 : Touches monitorRegs s3 s4 := by
    unfold s4
    split
    · exact touches_setFld s3 MON_STS_HI 1 m (by simp [monitorRegs])
    · exact Touches.refl _ _
  have k5 : Touches monitorRegs s4 s5 := by
    unfold s5
    split
    · exact touches_setFld s4 MON_STS_LO 1 m (by simp [monitorRegs])
    · exact Touches.refl _ _
  refine k1.trans (k2.trans (k3.trans (k4.trans (k5.trans ?_))))
  unfold State.eventIf
  split
  · exact touches_event s5 _ 0 (by simp [monitorRegs]) (by simp [sourceOnly, monitorRegs])
  · exact Touches.refl _ _

theorem keepsPictures_sample (s : State) (a b v : Nat) : KeepsPictures s (s.sample a b v) :=
  keepsPictures_foldl (fun t m => by
    split
    · exact (touches_fold t m _).keepsPictures (by simp [monitorRegs])
    · exact KeepsPictures.refl t) _ s

theorem keepsPictures_maxReg (s : State) (r : Reg) (v i : Nat) (h : Reg.SLT_DELAY_CNT ≠ r) : KeepsPictures s (s.maxReg r v i) := by
  unfold State.maxReg
  split
  · exact keepsPictures_putN s r _ i h
  · exact KeepsPictures.refl s

/-- A launch on a pipe under test stops the test. -/
theorem keepsPictures_stopTest (s : State) (p : Nat) : KeepsPictures s (s.stopTest p) := by
  unfold State.stopTest
  split
  · split
    · exact KeepsPictures.trans (t := { s with banks := _ }) ⟨rfl, rfl, rfl⟩
        ((keepsPictures_setFld _ SPD_WCT_STS_ABORT_CNT _ _ (by decide)).trans (keepsPictures_setFld _ SPD_WCT_STS_BUSY _ _ (by decide)))
    · exact KeepsPictures.refl s
  · exact KeepsPictures.refl s

theorem keepsPictures_setSlot (s : State) (h : Nat) (k : KeySlot) : KeepsPictures s (s.setSlot h k) := by
  unfold State.setSlot
  extract_lets _ s1 s2
  have k1 : KeepsPictures s s1 := ⟨rfl, rfl, rfl⟩
  have k2 : KeepsPictures s1 s2 := (keepsPictures_putN s1 .SEC_KEYS_USED _ 0 (by decide)).trans (keepsPictures_touch _ 15 h)
  refine k1.trans (k2.trans ?_)
  split
  · exact keepsPictures_setFld s2 SEC_STS_TRANSPORT _ 0 (by decide)
  · exact KeepsPictures.refl s2

theorem keepsPictures_switchKey (s : State) (x : Stream) : KeepsPictures s (s.switchKey x) := by
  have hk : ∀ h, KeepsPictures s (s.promoteKey h) := fun h => by
    unfold State.promoteKey
    dsimp only
    split
    · exact KeepsPictures.refl s
    · exact (keepsPictures_setSlot s h _).trans (keepsPictures_event _ SEC_EVT_KEY_SWITCH _ (by decide))
  unfold State.switchKey
  split
  · dsimp only
    split
    · exact hk _
    · exact KeepsPictures.refl s
  · exact KeepsPictures.refl s

theorem keepsPictures_pipeOn (s : State) (p h n : Nat) : KeepsPictures s (s.pipeOn p h n) := by
  unfold State.pipeOn
  dsimp only
  refine KeepsPictures.trans (t := { s with codec := { s.codec with resident := storeInsert s.codec.resident p h } }) ⟨rfl, rfl, rfl⟩ ?_
  generalize ({ s with codec := { s.codec with resident := storeInsert s.codec.resident p h } } : State) = u
  split
  · exact ((((keepsPictures_setFld u ENC_EP_STS_BUSY _ _ (by decide)).trans (keepsPictures_putN _ .ENC_EP_STREAM _ _ (by decide))).trans
      (keepsPictures_putN _ .ENC_EP_TICK _ _ (by decide))).trans (keepsPictures_setReg _ .ENC_CL_STS _ _ (by decide))).trans
      (keepsPictures_putN _ .ENC_EP_POS _ _ (by decide))
  · exact (((keepsPictures_setFld u DEC_DP_STS_BUSY _ _ (by decide)).trans (keepsPictures_putN _ .DEC_DP_STREAM _ _ (by decide))).trans
      (keepsPictures_putN _ .DEC_DP_TICK _ _ (by decide))).trans (keepsPictures_setReg _ .DEC_STS _ _ (by decide))

theorem keepsPictures_showStream (s : State) (h : Nat) : KeepsPictures s (s.showStream h) := by
  unfold State.showStream
  dsimp only
  split
  · exact KeepsPictures.refl s
  · exact (((((keepsPictures_putN s .FB_S_RING_BASE _ h (by decide)).trans (keepsPictures_putN _ .FB_S_RING_SIZE _ h (by decide))).trans
      (keepsPictures_putN _ .RC_S_FILL _ h (by decide))).trans (keepsPictures_putN _ .RC_S_QP _ h (by decide))).trans
      (keepsPictures_putN _ .RC_S_ALPHA _ h (by decide))).trans (keepsPictures_putN _ .RC_S_FLOOR_TIME _ h (by decide))

theorem keepsPictures_showRs (s : State) (r : Nat) : KeepsPictures s (s.showRs r) :=
  (((keepsPictures_putN s .RING_RS_TOKENS_IN _ r (by decide)).trans (keepsPictures_putN _ .RING_RS_TOKENS_OUT _ r (by decide))).trans
    (keepsPictures_putN _ .RING_RS_CARRY _ r (by decide))).trans (keepsPictures_putN _ .RING_RS_PLAN_TICK _ r (by decide))

/-! ### A launch -/

theorem stream_setStream_same (s : State) (h : Nat) (x : Stream) : (s.setStream h x).stream h = x := by
  unfold State.setStream State.stream
  dsimp only
  split
  next he => simp [he]
  next => simp

/-- A launch replaces the picture by the same picture launched, and marks its stream as launched. -/
theorem launchEnc_launches (s : State) (h n : Nat) (q : EncPic) (pipes : List Nat) : ∃ (l : List EncPic) (q1 : EncPic) (x1 : Stream),
    q1.stream = q.stream ∧ q1.tick = q.tick ∧ q1.cmd = q.cmd ∧ q1.launched = true ∧ x1.launched = true ∧
      KeepsPictures (({ s with codec := { s.codec with enc := l ++ [q1] } } : State).tookFree.setStream h x1) (s.launchEnc h n (some q) pipes) := by
  generalize ht : s.launchEnc h n (some q) pipes = t
  unfold State.launchEnc at ht
  extract_lets -underBinder x g ring id at ht
  generalize s.ringStart h n = z at ht
  obtain ⟨share, carry, rkey, rtarget, desync⟩ := z
  dsimp -zeta only at ht
  extract_lets -underBinder words d present rep usable key rate cap metaBits header blank _ base target buf dead q1 others
    x1 _ s1 s2 s3 s4 s5 s6 s7 r miss t8 s8 at ht
  refine ⟨others, q1, x1, rfl, rfl, rfl, rfl, rfl, ?_⟩
  have k2 : KeepsPictures s1 s2 := keepsPictures_foldl (fun t p => keepsPictures_pipeOn t p h n) _ _
  have k3 : KeepsPictures s2 s3 := by
    unfold s3
    split
    · exact keepsPictures_mark _ _ _ _
    · exact KeepsPictures.refl _
  have k5 : KeepsPictures s3 s5 := ((((keepsPictures_mark s3 buf mkCur 0).trans (keepsPictures_putN _ .RC_S_TARGET _ h (by decide))).trans
    (keepsPictures_putN _ .RC_S_CAP _ h (by decide))).trans (keepsPictures_setFld _ RC_STS_IN_FLIGHT _ 0 (by decide))).trans
    (keepsPictures_showStream _ h)
  have k6 : KeepsPictures s5 s6 := by
    unfold s6
    split
    · exact keepsPictures_putN _ _ _ _ (by decide)
    · refine keepsPictures_foldl (fun t u => ?_) _ _
      split
      · exact KeepsPictures.refl _
      · exact (keepsPictures_putN _ .SCT_STS _ u (by decide)).trans (keepsPictures_setFld _ SCT_POS_BAND _ u (by decide))
  have k7 : KeepsPictures s6 s7 := keepsPictures_foldl (fun t p => keepsPictures_record t 6 p) _ _
  have k8 : KeepsPictures s7 s8 := by
    unfold s8
    split
    · exact KeepsPictures.refl _
    · have kt : KeepsPictures s7 t8 := KeepsPictures.trans (t := s7.onRs id _) ⟨rfl, rfl, rfl⟩
        (keepsPictures_putN _ .RING_RS_SHARE share id (by decide))
      refine kt.trans (KeepsPictures.trans ?_ (keepsPictures_showRs _ id))
      split
      · exact (keepsPictures_putN t8 .RING_PLAN_MISS_CNT _ _ (by decide)).trans (keepsPictures_event _ RING_EVT_PLAN_MISS _ (by decide))
      · exact KeepsPictures.refl _
  rw [← ht]
  exact k2.trans (k3.trans (k5.trans (k6.trans (k7.trans (k8.trans (keepsPictures_touch _ _ _))))))

/-- The launch of a waiting picture that a command submitted, of a stream that encodes. -/
theorem launchOn_launches {s : State} {h : Nat} {q : EncPic} (he : s.codec.enc = [q]) (hs : q.stream = h) (hl : q.launched = false)
    (hc : q.cmd ≠ none) (hd : (s.stream h).dec = false) :
    ((s.launchOn h q.tick).codec.enc.any fun p => p.stream == h && p.tick == q.tick && p.launched && p.cmd == q.cmd) = true ∧
      ((s.launchOn h q.tick).stream h).launched = true ∧ (s.launchOn h q.tick).regN .SLT_DELAY_CNT = s.regN .SLT_DELAY_CNT := by
  have hf : ([q].find? fun p => p.stream == h && !p.launched && p.tick == q.tick && p.cmd.isSome) = some q := by
    simp [hs, hl, Option.isSome_iff_ne_none, hc]
  have k : KeepsPictures s (((s.pipesNow h).foldl State.stopTest s).switchKey (s.stream h)) :=
    (keepsPictures_foldl keepsPictures_stopTest _ _).trans (keepsPictures_switchKey _ _)
  have hx : s.launchOn h q.tick =
      (((s.pipesNow h).foldl State.stopTest s).switchKey (s.stream h)).launchEnc h q.tick (some q) (s.pipesNow h) := by
    unfold State.launchOn
    dsimp only
    rw [k.1, he, hf, hd]
    exact if_neg Bool.false_ne_true
  obtain ⟨l, q1, x1, h1, h2, h3, h4, h5, hq, hx1, hn⟩ :=
    launchEnc_launches (((s.pipesNow h).foldl State.stopTest s).switchKey (s.stream h)) h q.tick q (s.pipesNow h)
  rw [hx]
  refine ⟨?_, ?_, hn.trans k.2.2⟩
  · rw [hq]
    show ((l ++ [q1]).any _) = true
    simp [h1, h2, h3, h4, hs]
  · rw [State.stream, hx1]
    exact (congrArg Stream.launched (stream_setStream_same _ _ _)).trans h5

/-- Nothing waits, or a pipe is not free: nothing launches. -/
theorem execDelayedLaunch_busy {s : State} {h : Nat} (hb : s.inFlight h = true ∨ (s.pipesNow h).any s.pipeBusy = true) :
    execDelayedLaunch h s = finish s := by
  unfold execDelayedLaunch
  dsimp only
  split
  · rfl
  · rw [if_pos hb]

theorem execDelayedLaunch_none {s : State} {h : Nat} (he : ∀ p ∈ s.codec.enc, p.stream ≠ h) (hd : ∀ p ∈ s.codec.dec, p.stream ≠ h) :
    execDelayedLaunch h s = finish s := by
  have h1 : (s.codec.enc.find? fun p => p.stream == h && !p.launched && p.delayed.isSome) = none :=
    List.find?_eq_none.mpr fun p hp => by simp [he p hp]
  have h2 : (s.codec.dec.find? fun p => p.stream == h && !p.launched && p.delayed.isSome) = none :=
    List.find?_eq_none.mpr fun p hp => by simp [hd p hp]
  unfold execDelayedLaunch
  rw [h1, h2]
  rfl

/-- A delayed launch is counted and measured. -/
def State.countDelay (s : State) (d : Nat) : State := ((s.bump .SLT_DELAY_CNT).maxReg .SLT_DELAY_MAX d).sample 17 0 d

theorem countDelay_keeps (s : State) (d : Nat) : KeepsPictures (s.bump .SLT_DELAY_CNT) (s.countDelay d) :=
  (keepsPictures_maxReg _ .SLT_DELAY_MAX d 0 (by decide)).trans (keepsPictures_sample _ 17 0 d)

/-- The repeats of a stream that no command names and that have not launched are gone. -/
def State.dropRepeats (s : State) (h : Nat) : State :=
  { s with codec := { s.codec with enc := s.codec.enc.filter fun p => !(p.stream == h && !p.launched && p.cmd.isNone) } }

theorem dropRepeats_keeps {s : State} {q : EncPic} (h : Nat) (he : s.codec.enc = [q]) (hc : q.cmd ≠ none) : KeepsPictures s (s.dropRepeats h) := by
  have hk : ([q].filter fun p => !(p.stream == h && !p.launched && p.cmd.isNone)) = [q] := by
    simp [Option.isSome_iff_ne_none.mpr hc]
  refine ⟨?_, rfl, rfl⟩
  unfold State.dropRepeats
  rw [he]
  exact hk

theorem settleConfig_none {s : State} {h : Nat} (hw : (s.stream h).wordsNext = none) : s.settleConfig h = s := by
  unfold State.settleConfig
  dsimp only
  rw [hw]

/-- The only picture, accepted and not launched, waits: it is counted and launches. -/
theorem execDelayedLaunch_waiting {s : State} {h n : Nat} {q : EncPic} (he : s.codec.enc = [q]) (hd : s.codec.dec = []) (hs : q.stream = h)
    (hl : q.launched = false) (ha : q.delayed = some n) (hc : q.cmd ≠ none) (hw : (s.stream h).wordsNext = none) (hg : 999999 < (s.stream h).l) :
    execDelayedLaunch h s = finish (((s.countDelay (s.tb.run - n)).dropRepeats h).launchOn h q.tick) := by
  have k := countDelay_keeps s (s.tb.run - n)
  have kd := k.trans (dropRepeats_keeps h (k.1.trans he) hc)
  have hf : ([q].find? fun p => p.stream == h && !p.launched && p.delayed.isSome) = some q := by simp [hs, hl, ha]
  have hb : ¬(s.inFlight h = true ∨ (s.pipesNow h).any s.pipeBusy = true) := by simp [State.inFlight, State.pipeBusy, he, hd, hl]
  have hsc := settleConfig_none (s := (s.countDelay (s.tb.run - n)).dropRepeats h) (h := h) (by rw [kd.stream]; exact hw)
  unfold execDelayedLaunch
  rw [he, hf]
  simp only [Option.map_some, Option.orElse_some, ha, Option.getD_some]
  rw [if_neg hb]
  refine congrArg finish ?_
  unfold State.noteLaunch
  rw [if_neg fun hn => Nat.not_lt.mpr hg hn.1]
  exact congrArg (State.launchOn · h q.tick) hsc

/-! ### The deadline timer -/

/-- A fault that is recorded has its status bit. -/
theorem testBit_record (s : State) {n : Nat} (d : Nat) (hn : n < 37) : ((s.record n d).regN .FC_STATUS).testBit n = true := by
  unfold State.record
  rw [if_neg (by omega)]
  extract_lets rec1 s1 s2 s3 s4
  have h1 : (s1.regN .FC_STATUS).testBit n = true := by
    have hr : s1.reg .FC_STATUS = setBitField (s.reg .FC_STATUS) n 1 1 := by simp [s1]
    rw [State.regN, hr]
    exact testBit_setBitField_one _ (show n < 64 by omega)
  have h4 : Touches [.FC_CNT, .FC_LAST, .FC_FIRST] s1 s4 := by
    have h3 : Touches [.FC_CNT, .FC_LAST, .FC_FIRST] s1 s3 :=
      (touches_putN s1 .FC_CNT _ n (by simp)).trans (touches_setReg s2 .FC_LAST rec1 0 (by simp))
    unfold s4
    split
    · exact h3
    · exact h3.trans (touches_setReg s3 .FC_FIRST rec1 0 (by simp))
  rw [(touches_raise (rs := sourceOnly) s4 _ fun _ h => h).regN (by simp [sourceOnly]), h4.regN (by simp)]
  exact h1

/-- The picture of a stream after it was changed. -/
theorem encOf_onEnc {s : State} {h : Nat} {q : EncPic} (f : EncPic → EncPic) (hq : s.encOf h = some q)
    (hl : ∀ p, (f p).launched = true ∧ (f p).stream = h) : (s.onEnc h f).encOf h = some (f q) := by
  unfold State.encOf State.onEnc at *
  dsimp only at *
  generalize s.codec.enc = l at *
  induction l with
  | nil => simp at hq
  | cons a l ih =>
    by_cases ha : (a.launched && a.stream == h) = true
    · obtain rfl : a = q := by simpa [List.find?_cons, ha] using hq
      rw [List.map_cons, if_pos ha, List.find?_cons_of_pos (by simp [hl a])]
    · rw [List.find?_cons_of_neg (by simpa using ha)] at hq
      rw [List.map_cons, if_neg ha, List.find?_cons_of_neg (by simpa using ha)]
      exact ih hq

/-- Floor coding a column keeps the stream of the picture and that it launched. -/
theorem floorAt_keeps (q : EncPic) (g : Geo) (p u : Nat) : (q.floorAt g p u).launched = q.launched ∧ (q.floorAt g p u).stream = q.stream := by
  unfold EncPic.floorAt
  split
  · exact ⟨rfl, rfl⟩
  next w _ =>
    dsimp only
    generalize (decide (w.units ≤ u) || _) = b
    cases b <;> exact ⟨rfl, rfl⟩

/-- The picture whose deadline has run out: each of its columns is floor-coded from where it stands, and those that have not stopped count as
handed off (R130). -/
def EncPic.deadlined (q : EncPic) (g : Geo) : EncPic :=
  { q.pipes.foldl (fun q w => q.floorAt g w.pipe w.handed) q with
    cause := q.cause ||| 2
    pipes := (q.pipes.foldl (fun q w => q.floorAt g w.pipe w.handed) q).pipes.map fun w =>
      if w.stopped then w else { w with started := w.units, handed := w.units } }

theorem deadlined_launched (q : EncPic) (g : Geo) : (q.deadlined g).launched = q.launched :=
  foldl_keeps EncPic.launched (fun p _ => (floorAt_keeps p g _ _).1) _ _

theorem deadlined_stream (q : EncPic) (g : Geo) : (q.deadlined g).stream = q.stream :=
  foldl_keeps EncPic.stream (fun p _ => (floorAt_keeps p g _ _).2) _ _

/-- Cause bit 1 is set, and every column has stopped or counts as handed off. -/
theorem deadlined_handed (q : EncPic) (g : Geo) :
    ((q.deadlined g).cause.testBit 1 && (q.deadlined g).pipes.all fun w => w.stopped || decide (w.handed = w.units)) = true := by
  have hc : (q.cause ||| 2).testBit 1 = true := by
    rw [Nat.testBit_or, show Nat.testBit 2 1 = true from rfl, Bool.or_true]
  unfold EncPic.deadlined
  simp only [hc, Bool.true_and, List.all_map, List.all_eq_true, Function.comp_apply]
  intro w _
  cases hs : w.stopped <;> simp [hs]

/-- The state in which a deadline timer has run out and FS10 is recorded. -/
def State.deadlineMissed (s : State) (due h : Nat) : State := (s.reachRun due).record 10 h

theorem deadlineMissed_frame (s : State) (due h : Nat) : Touches faultOnly (s.reachRun due) (s.deadlineMissed due h) :=
  touches_record _ 10 h false fun _ hr => hr

/-- FS10 is recorded once the timer has run out, and nothing else. -/
theorem deadlineMissed_says (s : State) (due h : Nat) :
    ((s.deadlineMissed due h).regN .FC_STATUS).testBit 10 = true ∧ (s.deadlineMissed due h).tb.run = max s.tb.run due ∧
      (s.deadlineMissed due h).codec = s.codec ∧ SameRegs faultOnly s (s.deadlineMissed due h) ∧ SameMemory s (s.deadlineMissed due h) := by
  have k := deadlineMissed_frame s due h
  refine ⟨testBit_record _ h (by decide), ?_, ?_, fun r i hr _ => ?_, sameMemory_of_mems ?_ ?_ ?_⟩
  · rw [k.tb, reachRun_run]
  · rw [k.codec, reachRun_codec]
  · rw [k.2 r i hr, reg_reachRun]
  · rw [k.1]; exact reachRun_mem s due
  · rw [k.1]; exact reachRun_hostMem s due
  · rw [k.rest.spad, reachRun_spad]

theorem execDeadlineBackstop_enc {s : State} {h : Nat} {q : EncPic} (hd : s.decOf h = none) (hq : s.encOf h = some q) :
    execDeadlineBackstop h s = finish ((s.deadlineMissed q.dueRun h).onEnc h fun _ =>
      q.deadlined (encGeo (s.stream h).codec (s.stream h).words)) := by
  unfold execDeadlineBackstop
  rw [hd, hq]
  rfl

theorem execDeadlineBackstop_noOutput {s : State} {h : Nat} {q : DecPic} (hd : s.decOf h = some q) (ho : q.noOutput = true) :
    execDeadlineBackstop h s = finish (s.deadlineMissed q.dueRun h) := by
  unfold execDeadlineBackstop
  rw [hd]
  exact congrArg finish (if_pos (.inl ho))

theorem execDeadlineBackstop_none {s : State} {h : Nat} (he : s.encOf h = none) (hd : s.decOf h = none) : execDeadlineBackstop h s = finish s := by
  unfold execDeadlineBackstop
  rw [hd, he]

/-- Settles O19: a delay launches the picture that waits, and a deadline records FS10 and settles what the picture still owes. -/
theorem delaysAndDeadlinesAreKept : Obligations.DelaysAndDeadlinesAreKept := by
  unfold Obligations.DelaysAndDeadlinesAreKept
  refine ⟨fun h q n s he hd hs hl ha hc hw hg hL => gives_finish (execDelayedLaunch_waiting he hd hs hl ha hc hw hL) ?_,
    fun h s hb => gives_unchanged (execDelayedLaunch_busy hb), fun h s he hd => gives_unchanged (execDelayedLaunch_none he hd),
    fun h q s hd hq => gives_finish (execDeadlineBackstop_enc hd hq) ?_,
    fun h q s hd ho => gives_finish (execDeadlineBackstop_noOutput hd ho) ?_, fun h s he hd => gives_unchanged (execDeadlineBackstop_none he hd)⟩
  · have k := countDelay_keeps s (s.tb.run - n)
    have kd := k.trans (dropRepeats_keeps h (k.1.trans he) hc)
    obtain ⟨h1, h2, h3⟩ := launchOn_launches (s := (s.countDelay (s.tb.run - n)).dropRepeats h) (h := h) (kd.1.trans he) hs hl hc
      (by rw [kd.stream]; exact hg)
    rw [settle_codec, settle_stream, regN_settle _ _ _ (by simp)]
    exact ⟨h1, h2, h3.trans (kd.2.2.trans (regN_bump_same s .SLT_DELAY_CNT 1 0))⟩
  · obtain ⟨hf, ht, hcod, hr, hm⟩ := deadlineMissed_says s q.dueRun h
    have hl : (q.launched && q.stream == h) = true := List.find?_some (p := fun q : EncPic => q.launched && q.stream == h) hq
    obtain ⟨h1, h2⟩ : q.launched = true ∧ q.stream = h := by simpa using hl
    generalize s.deadlineMissed q.dueRun h = u at hf ht hcod hr hm ⊢
    have he := encOf_onEnc (s := u) (fun _ => q.deadlined (encGeo (s.stream h).codec (s.stream h).words))
      (by rw [State.encOf, hcod]; exact hq) fun _ => ⟨(deadlined_launched q _).trans h1, (deadlined_stream q _).trans h2⟩
    rw [State.encOf, settle_codec, settle_tb, regN_settle _ _ _ (by simp)]
    refine ⟨hf, ht, ?_, fun r i hr' hs => (reg_settle _ _ _ hs).trans (hr r i hr' hs), hm⟩
    rw [State.encOf] at he
    rw [he]
    exact deadlined_handed q _
  · obtain ⟨hf, ht, hcod, hr, hm⟩ := deadlineMissed_says s q.dueRun h
    generalize s.deadlineMissed q.dueRun h = u at hf ht hcod hr hm ⊢
    rw [settle_codec, settle_tb, regN_settle _ _ _ (by simp)]
    exact ⟨hf, ht, hcod, fun r i hr' hs => (reg_settle _ _ _ hs).trans (hr r i hr' hs), hm⟩

end Sys2Proof.Machine
end

section
/-!
SUPPORT. The laws of the queues' registers: fields of a register that is set whole, what keeping the status bits true writes, and the
bytes that a store leaves (R64 to R68, R86).
-/
namespace Sys2Proof.Machine

/-- A register outside a list is outside every part of it. -/
theorem notMem_part {rs rs' : List Reg} {r : Reg} (h : r ∉ rs') (hs : ∀ r ∈ rs, r ∈ rs') : r ∉ rs := mt (hs r) h

/-! ### Fields of a register that is set whole -/

/-- A field of a number, under a mask that keeps all of the field. -/
theorem field_masked (v : Nat) {m lo w : Nat} (h : (m >>> lo) % 2 ^ w = 2 ^ w - 1) : ((v &&& m) >>> lo) % 2 ^ w = v / 2 ^ lo % 2 ^ w := by
  rw [Nat.shiftRight_and_distrib, Nat.and_mod_two_pow, h, Nat.and_two_pow_sub_one_eq_mod, Nat.mod_mod, Nat.shiftRight_eq_div_pow]

/-- The fields of a register that is set to a number that fits. -/
theorem fld_putN_same (s : State) (f : Field) {v : Nat} (i : Nat) (hv : v < 2 ^ 32) : (s.putN f.reg v i).fld f i = (v >>> f.lo) % 2 ^ f.width := by
  simp [State.fld, bitField, atWidth_toNat f.reg hv]

/-- The fields of a register that is set to a number under a mask of 32 bits that keeps them. -/
theorem fld_putN_masked (s : State) (f : Field) (v : Nat) {m : Nat} (i : Nat) (hm : m < 2 ^ 32)
    (h : (m >>> f.lo) % 2 ^ f.width = 2 ^ f.width - 1) : (s.putN f.reg (v &&& m) i).fld f i = v / 2 ^ f.lo % 2 ^ f.width :=
  (fld_putN_same s f i (lt_of_le_of_lt Nat.and_le_right hm)).trans (field_masked v h)

/-- A flag that is set to 1. -/
theorem flag_setFld_one (s : State) (f : Field) (i : Nat) (h : f.lo + f.width ≤ 64) (hw : 0 < f.width) : (s.setFld f 1 i).flag f i = true := by
  rw [State.flag, fld_setFld_same _ _ _ _ h, Nat.mod_eq_of_lt (Nat.one_lt_two_pow (by omega))]
  rfl

/-- A flag that is set to 0. -/
theorem flag_setFld_zero (s : State) (f : Field) (i : Nat) (h : f.lo + f.width ≤ 64) : (s.setFld f 0 i).flag f i = false := by
  rw [State.flag, fld_setFld_same _ _ _ _ h, Nat.zero_mod]
  rfl

/-- Setting a field leaves the flags apart from it. -/
theorem flag_setFld_apart (s : State) (f g : Field) (x i j : Nat) (h : f.apart g) : (s.setFld f x i).flag g j = s.flag g j := by
  rw [State.flag, fld_setFld_apart s f g x i j h, State.flag]

/-- The ring of a queue has from 16 to 4,096 places (R86). -/
theorem ringDepth_bounds (x : Nat) : 16 ≤ ringDepth x ∧ ringDepth x ≤ 4096 := by
  have h : 4 ≤ clampNat 4 12 x ∧ clampNat 4 12 x ≤ 12 := by
    unfold clampNat
    omega
  exact ⟨Nat.pow_le_pow_right (n := 2) (by omega) h.1, Nat.pow_le_pow_right (n := 2) (by omega) h.2⟩

/-- A place in a ring fits the 12 bits of its field. -/
theorem mod_ringDepth_lt (a x : Nat) : a % ringDepth x % 2 ^ 12 = a % ringDepth x := by
  obtain ⟨h1, h2⟩ := ringDepth_bounds x
  have h3 := Nat.mod_lt a (show 0 < ringDepth x by omega)
  exact Nat.mod_eq_of_lt (by omega)

/-! ### Status bits that are kept true -/

/-- Keeping STALLED true writes `CMDQ_STS` alone. -/
theorem touches_syncStalled (s : State) (n : Nat) : Touches [.CMDQ_STS] s (s.syncStalled n) := by
  unfold State.syncStalled
  dsimp only
  split
  · exact Touches.refl _ _
  · refine touches_foldl (fun t q => ?_) _ s
    split
    · exact touches_setFlag t _ _ q (by simp)
    · exact Touches.refl _ _

/-- With nothing held for a completion queue, no STALLED bit is written. -/
theorem syncStalled_none {s : State} {n : Nat} (h : s.heldFor n = []) : s.syncStalled n = s := by
  unfold State.syncStalled
  rw [h]
  rfl

/-- What keeping STALLED true leaves of one submission queue: every field of its status but STALLED. -/
theorem fld_syncStalled (s : State) (n : Nat) {g : Field} (h : CMDQ_STS_STALLED.apart g) (q : Nat) : (s.syncStalled n).fld g q = s.fld g q := by
  unfold State.syncStalled
  dsimp only
  split
  · rfl
  · refine foldl_keeps (fun t : State => t.fld g q) (fun t k => ?_) _ s
    split
    · exact fld_setFld_apart t _ g _ k q h
    · rfl

/-- Keeping the status of a completion queue true, before STALLED follows. -/
def State.cplqStatus (s : State) (n : Nat) : State :=
  (s.setFlag CPLQ_STS_FULL (decide (ringDepth (s.fld CPLQ_CFG_LOG2_DEPTH n) - 1 ≤ s.unreturned n)) n).setFld CPLQ_STS_HELD
    (min 64 (s.heldFor n).length) n

theorem syncCplq_eq (s : State) (n : Nat) : s.syncCplq n = (s.cplqStatus n).syncStalled n := rfl

theorem touches_cplqStatus (s : State) (n : Nat) : Touches [.CPLQ_STS] s (s.cplqStatus n) :=
  (touches_setFlag s _ _ n (by simp)).trans (touches_setFld _ _ _ n (by simp))

/-- Keeping the status of a completion queue true writes the status registers of queues. -/
theorem touches_syncCplq (s : State) (n : Nat) : Touches [.CPLQ_STS, .CMDQ_STS] s (s.syncCplq n) :=
  ((touches_cplqStatus s n).mono (by simp)).trans ((touches_syncStalled _ n).mono (by simp))

/-- With nothing held for it, the status of the completion queue alone. -/
theorem touches_syncCplq_none {s : State} {n : Nat} (h : s.heldFor n = []) : Touches [.CPLQ_STS] s (s.syncCplq n) := by
  rw [syncCplq_eq, syncStalled_none (s := s.cplqStatus n) h]
  exact touches_cplqStatus s n

theorem fld_syncCplq_held (s : State) (n : Nat) : (s.syncCplq n).fld CPLQ_STS_HELD n = min 64 (s.heldFor n).length := by
  rw [syncCplq_eq, (touches_syncStalled _ n).fld (by simp) n, State.cplqStatus, fld_setFld_same _ _ _ _ (by simp)]
  exact Nat.mod_eq_of_lt (show min 64 _ < 2 ^ 7 by omega)

theorem flag_syncCplq_full (s : State) (n : Nat) :
    (s.syncCplq n).flag CPLQ_STS_FULL n = decide (ringDepth (s.fld CPLQ_CFG_LOG2_DEPTH n) - 1 ≤ s.unreturned n) := by
  rw [syncCplq_eq, (touches_syncStalled _ n).flag (by simp) n, State.cplqStatus, flag_setFld_apart _ _ _ _ _ _ (by simp [Field.apart])]
  exact flag_setFlag_same s CPLQ_STS_FULL _ n (by simp) (by simp)

/-- The entries not returned follow from three fields. -/
theorem unreturned_congr {s t : State} {n : Nat} (hd : t.fld CPLQ_CFG_LOG2_DEPTH n = s.fld CPLQ_CFG_LOG2_DEPTH n)
    (ht : t.fld CPLQ_TAIL_TAIL n = s.fld CPLQ_TAIL_TAIL n) (hh : t.fld CPLQ_HEAD_HEAD n = s.fld CPLQ_HEAD_HEAD n) :
    t.unreturned n = s.unreturned n := by
  simp only [State.unreturned, hd, ht, hh]

/-! ### A queue in error -/

/-- The registers of a queue that goes into error (R65). -/
def errorRegs : List Reg := [.CMDQ_STS, .IC_PEND, .IC_MERGE_CNT]

theorem touches_queueError (s : State) (q : Nat) {f : Field} (hf : f.reg = .CMDQ_STS) : Touches errorRegs s (s.queueError q f) :=
  ((touches_setFld s f 1 q (by simp [hf, errorRegs])).trans (touches_setFld _ CMDQ_STS_ACTIVE 0 q (by simp [errorRegs]))).trans
    (touches_raise _ _ (by simp [sourceOnly, errorRegs]))

/-- A queue in error shows why, and is not active. -/
theorem queueError_facts (s : State) (q : Nat) {f : Field} (hr : f.reg = .CMDQ_STS) (h64 : f.lo + f.width ≤ 64) (hw : 0 < f.width)
    (ha : CMDQ_STS_ACTIVE.apart f) : (s.queueError q f).flag f q = true ∧ (s.queueError q f).flag CMDQ_STS_ACTIVE q = false := by
  have ht := touches_raise (rs := sourceOnly) ((s.setFld f 1 q).setFld CMDQ_STS_ACTIVE 0 q) (s.fld CMDQ_CFG_CPLQ q) fun _ h => h
  rw [State.queueError, ht.flag (by simp [hr, sourceOnly]) q, ht.flag (by simp [sourceOnly]) q, flag_setFld_apart _ _ _ _ _ _ ha]
  exact ⟨flag_setFld_one s f q h64 hw, flag_setFld_zero _ _ q (by simp)⟩

end Sys2Proof.Machine
end

section
/-!
PROOFS. The front of the queue, and the doorbells (R65, R67, R85, R86).
-/
namespace Sys2Proof.Machine

/-- Settles O1: the queue is matched, and its front runs on the rest. -/
theorem stepRunsFrontCommand : Obligations.StepRunsFrontCommand := by
  unfold Obligations.StepRunsFrontCommand
  intro c rest s hq
  rw [step, hq]

/-- A write that its queue's rules ignore. -/
theorem execCmdqTailWrite_ignored {f q : Nat} {v : Word} {s : State} (h : s.fld CMDQ_OWNER_FUNC q ≠ f) :
    exec (.cmdqTailWrite (.func f) q v) s = finish s := congrArg finish (if_pos (.inl h))

theorem execCplqHeadWrite_ignored {f q : Nat} {v : Word} {s : State} (h : s.fld CPLQ_OWNER_FUNC q ≠ f) :
    exec (.cplqHeadWrite (.func f) q v) s = finish s := congrArg finish (if_pos (.inl h))

/-- The tail that a doorbell would leave is none of the ring, or it makes too many slots pending (R65). -/
def State.badTail (s : State) (q t : Nat) : Prop :=
  ringDepth (s.fld CMDQ_CFG_LOG2_DEPTH q) ≤ t ∨ ringDepth (s.fld CMDQ_CFG_LOG2_DEPTH q) - 1 <
    s.slotsPending q + (t + ringDepth (s.fld CMDQ_CFG_LOG2_DEPTH q) - s.fld CMDQ_TAIL_TAIL q) % ringDepth (s.fld CMDQ_CFG_LOG2_DEPTH q)

/-- The head that a doorbell would leave is none of the ring, or it returns an entry that is not written (R67). -/
def State.badHead (s : State) (q h : Nat) : Prop :=
  ringDepth (s.fld CPLQ_CFG_LOG2_DEPTH q) ≤ h ∨ s.unreturned q < (h + ringDepth (s.fld CPLQ_CFG_LOG2_DEPTH q) -
    s.fld CPLQ_HEAD_HEAD q % ringDepth (s.fld CPLQ_CFG_LOG2_DEPTH q)) % ringDepth (s.fld CPLQ_CFG_LOG2_DEPTH q)

section
variable {f q : Nat} {v : Word} {s : State}

/-- The submission doorbell of the owner of an active queue. -/
theorem execCmdqTailWrite_good (ho : s.fld CMDQ_OWNER_FUNC q = f) (he : s.flag CMDQ_CFG_EN q = true) (ha : s.flag CMDQ_STS_ACTIVE q = true)
    (h : ¬ s.badTail q (v.toNat % 4096)) :
    exec (.cmdqTailWrite (.func f) q v) s = finish (s.setFld CMDQ_TAIL_TAIL (v.toNat % 4096) q) :=
  congrArg finish ((if_neg (by rw [ho, he, ha]; simp)).trans (if_neg h))

theorem execCmdqTailWrite_bad (ho : s.fld CMDQ_OWNER_FUNC q = f) (he : s.flag CMDQ_CFG_EN q = true) (ha : s.flag CMDQ_STS_ACTIVE q = true)
    (h : s.badTail q (v.toNat % 4096)) : exec (.cmdqTailWrite (.func f) q v) s = finish (s.queueError q CMDQ_STS_DB_ERR) :=
  congrArg finish ((if_neg (by rw [ho, he, ha]; simp)).trans (if_pos h))

/-- The completion doorbell of the owner of an enabled queue. -/
theorem execCplqHeadWrite_good (ho : s.fld CPLQ_OWNER_FUNC q = f) (he : s.flag CPLQ_CFG_EN q = true) (h : ¬ s.badHead q (v.toNat % 4096)) :
    exec (.cplqHeadWrite (.func f) q v) s = finish ((s.setFld CPLQ_HEAD_HEAD (v.toNat % 4096) q).syncCplq q) :=
  congrArg finish ((if_neg (by rw [ho, he]; simp)).trans (if_neg h))

theorem execCplqHeadWrite_bad (ho : s.fld CPLQ_OWNER_FUNC q = f) (he : s.flag CPLQ_CFG_EN q = true) (h : s.badHead q (v.toNat % 4096)) :
    exec (.cplqHeadWrite (.func f) q v) s = finish (s.setFld CPLQ_STS_DB_ERR 1 q) :=
  congrArg finish ((if_neg (by rw [ho, he]; simp)).trans (if_pos h))

end

/-- What a queue shows once its head has moved: the head, the replies held, and FULL of the entries then left. -/
theorem headMoved_facts (s : State) (q h : Nat) (hh : h < 4096) :
    ((s.setFld CPLQ_HEAD_HEAD h q).syncCplq q).fld CPLQ_HEAD_HEAD q = h ∧
      ((s.setFld CPLQ_HEAD_HEAD h q).syncCplq q).fld CPLQ_STS_HELD q = min 64 (s.heldFor q).length ∧
      (((s.setFld CPLQ_HEAD_HEAD h q).syncCplq q).flag CPLQ_STS_FULL q = true ↔
        ringDepth (s.fld CPLQ_CFG_LOG2_DEPTH q) - 1 ≤ ((s.setFld CPLQ_HEAD_HEAD h q).syncCplq q).unreturned q) := by
  have ht := touches_syncCplq (s.setFld CPLQ_HEAD_HEAD h q) q
  refine ⟨?_, fld_syncCplq_held _ q, ?_⟩
  · rw [ht.fld (by simp) q, fld_setFld_same _ _ _ _ (by simp)]
    exact Nat.mod_eq_of_lt hh
  · rw [flag_syncCplq_full, decide_eq_true_eq, unreturned_congr (ht.fld (by simp) q) (ht.fld (by simp) q) (ht.fld (by simp) q),
      fld_setFld_reg _ _ _ _ _ _ (by simp)]

/-- Settles O11: each doorbell is ignored, moves its ring, or puts the queue in error, by its owner and the ring's bounds. -/
theorem doorbellsMoveTheRings : Obligations.DoorbellsMoveTheRings := by
  unfold Obligations.DoorbellsMoveTheRings
  have h12 : ∀ v : Word, v.toNat % 4096 < 4096 := fun v => Nat.mod_lt _ (by omega)
  refine ⟨fun f q v s _ ho he ha h1 h2 => ?_, fun f q v s _ ho he ha h => ?_, fun f q v s ho => gives_unchanged (execCmdqTailWrite_ignored ho),
    fun f q v s _ ho he h1 h2 => ?_, fun f q v s _ ho he h => ?_, fun f q v s ho => gives_unchanged (execCplqHeadWrite_ignored ho)⟩
  · refine gives_finish (execCmdqTailWrite_good ho he ha (not_or.mpr ⟨by omega, by omega⟩))
      ⟨?_, onlyRegs_of_touches (touches_setFld s _ _ q (by simp))⟩
    rw [fld_settle _ _ _ (by simp), fld_setFld_same _ _ _ _ (by simp)]
    exact Nat.mod_eq_of_lt (h12 v)
  · obtain ⟨h1, h2⟩ := queueError_facts s q (f := CMDQ_STS_DB_ERR) rfl (by simp) (by simp) (by simp [Field.apart])
    exact gives_finish (execCmdqTailWrite_bad ho he ha h) ⟨by simpa using h1, by simpa using h2, onlyRegs_of_touches (touches_queueError s q rfl)⟩
  · obtain ⟨f1, f2, f3⟩ := headMoved_facts s q (v.toNat % 4096) (h12 v)
    refine gives_finish (execCplqHeadWrite_good ho he (not_or.mpr ⟨by omega, by omega⟩)) ?_
    have ht : Touches [.CPLQ_HEAD, .CPLQ_STS, .CMDQ_STS] s ((s.setFld CPLQ_HEAD_HEAD (v.toNat % 4096) q).syncCplq q) :=
      (touches_setFld s _ _ q (by simp)).trans ((touches_syncCplq _ q).mono (by simp))
    generalize (s.setFld CPLQ_HEAD_HEAD (v.toNat % 4096) q).syncCplq q = u at f1 f2 f3 ht
    have hu : (settle u).unreturned q = u.unreturned q :=
      unreturned_congr (fld_settle _ _ _ (by simp)) (fld_settle _ _ _ (by simp)) (fld_settle _ _ _ (by simp))
    exact ⟨by simpa using f1, by simpa using f2, by rw [hu, flag_settle _ _ _ (by simp)]; exact f3, onlyRegs_of_touches ht⟩
  · refine gives_finish (execCplqHeadWrite_bad ho he h) ⟨?_, onlyRegs_of_touches (touches_setFld s _ _ q (by simp))⟩
    rw [flag_settle _ _ _ (by simp)]
    exact flag_setFld_one s _ q (by simp) (by simp)

end Sys2Proof.Machine
end

section
/-!
SUPPORT. The laws of replies: the bytes that a store leaves, a reply that stands in its ring, and the list of outstanding commands
(R67, R68, R72, R78).
-/
namespace Sys2Proof.Machine

/-! ### Bytes stored and read back -/

theorem length_memReadList (m : Store Byte) (n : Nat) : ∀ a : Nat, (memReadList m a n).length = n := by
  induction n with
  | zero => exact fun _ => rfl
  | succ n ih => exact fun a => congrArg (· + 1) (ih (a + 1))

theorem getElem_memReadList (m : Store Byte) (n : Nat) : ∀ (a k : Nat) (h : k < (memReadList m a n).length),
    (memReadList m a n)[k] = memRead m (a + k) := by
  induction n with
  | zero => exact fun a k h => absurd h (Nat.not_lt_zero k)
  | succ n ih =>
    intro a k h
    cases k with
    | zero => rfl
    | succ k => exact (ih (a + 1) k (by simpa [memReadList] using h)).trans (by rw [show a + 1 + k = a + (k + 1) by omega])

/-- Bytes that are written read back. -/
theorem memReadList_memWriteList (m : Store Byte) (a : Nat) (bs : List Byte) : memReadList (memWriteList m a bs) a bs.length = bs := by
  refine List.ext_getElem (length_memReadList _ _ _) fun k _ hk => ?_
  rw [getElem_memReadList, memRead_memWriteList_in bs m a k hk]

theorem load_store_same (s : State) (sp : Space) (a : Nat) {bs : List Byte} {n : Nat} (hn : bs.length = n) : (s.store sp a bs).load sp a n = bs := by
  subst hn
  cases sp <;> exact memReadList_memWriteList _ _ _

theorem reg_store (s : State) (sp : Space) (a : Nat) (bs : List Byte) (r : Reg) (i : Nat) : (s.store sp a bs).reg r i = s.reg r i :=
  reg_congr (store_regs s sp a bs) r i

theorem load_congr {s t : State} (hm : t.mem = s.mem) (hh : t.hostMem = s.hostMem) (sp : Space) (a n : Nat) : t.load sp a n = s.load sp a n := by
  cases sp <;> simp only [State.load, hm, hh]

/-- Storing bytes changes those bytes alone. -/
theorem onlyBytes_store (s : State) (sp : Space) (a : Nat) {bs : List Byte} {n : Nat} (hn : bs.length = n) : OnlyBytes sp a n s (s.store sp a bs) := by
  refine ⟨fun sp' b h => byte_store_out s sp sp' a b bs ?_, fun b => by rw [store_spad]⟩
  rw [hn]
  exact h.imp_left Ne.symm

/-! ### What a write of registers leaves -/

theorem Touches.cmd {rs : List Reg} {s t : State} (h : Touches rs s t) : t.cmd = s.cmd := by rw [h.1]
theorem Touches.mem {rs : List Reg} {s t : State} (h : Touches rs s t) : t.mem = s.mem := by rw [h.1]
theorem Touches.hostMem {rs : List Reg} {s t : State} (h : Touches rs s t) : t.hostMem = s.hostMem := by rw [h.1]
theorem Touches.spad {rs : List Reg} {s t : State} (h : Touches rs s t) : t.spad = s.spad := by rw [h.1]

/-! ### A reply in its ring -/

theorem length_leBytes (n x : Nat) : (leBytes n x).length = n := by
  induction n generalizing x with
  | zero => rfl
  | succ n ih => exact congrArg (· + 1) (ih _)

theorem length_flatMap_leBytes (k : Nat) (l : List Nat) : (l.flatMap (leBytes k)).length = k * l.length := by
  simp [List.length_flatMap, length_leBytes, Nat.mul_comm]

/-- A reply has 32 bytes (R72). -/
theorem length_replyBytes (r : Reply) (phase head : Nat) : (replyBytes r phase head).length = 32 := length_flatMap_leBytes 4 _

/-- The bytes of a reply stand at the tail of its ring. -/
def State.replyStored (s : State) (r : Reply) : State :=
  s.store (spaceOf (s.fld CPLQ_BASE_LOC r.cplq)) (s.replyAddr r.cplq) (replyBytes r (s.fld CPLQ_TAIL_PHASE r.cplq) (s.fld CMDQ_HEAD_HEAD r.queue))

/-- The tail has moved past the reply and its source is raised: the status of the queue is still to follow. -/
def State.replyPut (s : State) (r : Reply) : State :=
  let s1 := (s.replyStored r).setFld CPLQ_TAIL_TAIL ((s.fld CPLQ_TAIL_TAIL r.cplq + 1) % ringDepth (s.fld CPLQ_CFG_LOG2_DEPTH r.cplq)) r.cplq
  (if s.fld CPLQ_TAIL_TAIL r.cplq + 1 = ringDepth (s.fld CPLQ_CFG_LOG2_DEPTH r.cplq) then
    s1.setFld CPLQ_TAIL_PHASE (1 - s.fld CPLQ_TAIL_PHASE r.cplq) r.cplq else s1).raise r.cplq

theorem writeReply_eq (s : State) (r : Reply) : s.writeReply r = (s.replyPut r).syncCplq r.cplq := rfl

/-- The registers of a reply that is put into its ring. -/
def putRegs : List Reg := [.CPLQ_TAIL, .IC_PEND, .IC_MERGE_CNT]

theorem touches_replyPut (s : State) (r : Reply) : Touches putRegs (s.replyStored r) (s.replyPut r) := by
  unfold State.replyPut
  dsimp only
  refine Touches.trans ?_ (touches_raise _ _ (by simp [sourceOnly, putRegs]))
  have h1 := fun x => touches_setFld (rs := putRegs) (s.replyStored r) CPLQ_TAIL_TAIL x r.cplq (by simp [putRegs])
  split
  · exact (h1 _).trans (touches_setFld _ _ _ _ (by simp [putRegs]))
  · exact h1 _

/-- The registers of a reply that is written (R67, R68, R86). -/
def writeRegs : List Reg := [.CPLQ_TAIL, .CPLQ_STS, .CMDQ_STS, .IC_PEND, .IC_MERGE_CNT]

/-- Writing a reply stores its bytes, and then writes registers alone. -/
theorem touches_writeReply (s : State) (r : Reply) : Touches writeRegs (s.replyStored r) (s.writeReply r) :=
  ((touches_replyPut s r).mono (by simp [putRegs, writeRegs])).trans ((touches_syncCplq _ _).mono (by simp [writeRegs]))

/-- The tail after a reply is written, the phase after a wrap, and the source of the queue. -/
theorem writeReply_facts (s : State) {r : Reply} (hn : r.cplq < 64) :
    (s.writeReply r).fld CPLQ_TAIL_TAIL r.cplq = (s.fld CPLQ_TAIL_TAIL r.cplq + 1) % ringDepth (s.fld CPLQ_CFG_LOG2_DEPTH r.cplq) ∧
      (s.fld CPLQ_TAIL_TAIL r.cplq + 1 = ringDepth (s.fld CPLQ_CFG_LOG2_DEPTH r.cplq) →
        (s.writeReply r).fld CPLQ_TAIL_PHASE r.cplq = 1 - s.fld CPLQ_TAIL_PHASE r.cplq) ∧ (s.writeReply r).pendBit r.cplq = true := by
  have hs := touches_syncCplq (s.replyPut r) r.cplq
  rw [writeReply_eq]
  refine ⟨?_, fun hw => ?_, ?_⟩
  · rw [hs.fld (by simp) r.cplq]
    unfold State.replyPut
    dsimp only
    rw [(touches_raise (rs := sourceOnly) _ _ fun _ h => h).fld (by simp [sourceOnly]) r.cplq]
    split
    · rw [fld_setFld_apart _ _ _ _ _ _ (by simp [Field.apart]), fld_setFld_same _ _ _ _ (by simp)]
      exact mod_ringDepth_lt _ _
    · rw [fld_setFld_same _ _ _ _ (by simp)]
      exact mod_ringDepth_lt _ _
  · rw [hs.fld (by simp) r.cplq]
    unfold State.replyPut
    dsimp only
    rw [(touches_raise (rs := sourceOnly) _ _ fun _ h => h).fld (by simp [sourceOnly]) r.cplq, if_pos hw, fld_setFld_same _ _ _ _ (by simp)]
    exact Nat.mod_eq_of_lt (show 1 - _ < 2 ^ 1 by omega)
  · rw [State.pendBit, hs.regN (by simp) (r.cplq / 32)]
    exact pendBit_raise _ (by omega)

/-! ### The list of outstanding commands -/

theorem mem_of_mem_dropEntry {c : Cmd} {l : List Outstanding} {o : Outstanding} (h : o ∈ dropEntry c l) : o ∈ l := by
  induction l with
  | nil => exact h
  | cons p l ih =>
    rw [dropEntry] at h
    split at h
    · exact List.mem_cons_of_mem _ h
    · exact (List.mem_cons.mp h).elim (fun e => e ▸ List.mem_cons_self) fun hm => List.mem_cons_of_mem _ (ih hm)

/-- An entry of the changed list is one that stood in it, or a changed one. -/
theorem mem_of_mem_mapEntry {c : Cmd} {f : Outstanding → Outstanding} {l : List Outstanding} {o : Outstanding} (h : o ∈ mapEntry c f l) :
    o ∈ l ∨ ∃ p ∈ l, o = f p := by
  induction l with
  | nil => exact .inl h
  | cons p l ih =>
    rw [mapEntry] at h
    split at h
    · exact (List.mem_cons.mp h).elim (fun e => .inr ⟨p, List.mem_cons_self, e⟩) fun hm => .inl (List.mem_cons_of_mem _ hm)
    · rcases List.mem_cons.mp h with e | hm
      · exact .inl (e ▸ List.mem_cons_self)
      · exact (ih hm).imp (List.mem_cons_of_mem _) fun ⟨p', hp, e⟩ => ⟨p', List.mem_cons_of_mem _ hp, e⟩

theorem onEntries_outstanding (s : State) (q : Nat) (f : List Outstanding → List Outstanding) :
    (s.onEntries q f).cmd.outstanding = f s.cmd.outstanding := rfl

/-- Changing the list leaves the flags of `CMDQ_STS` below PENDING. -/
theorem flag_onEntries (s : State) (q : Nat) (f : List Outstanding → List Outstanding) {g : Field} (hr : g.reg ≠ .CMDQ_HELD)
    (ha : CMDQ_STS_PENDING.apart g) (i : Nat) : (s.onEntries q f).flag g i = s.flag g i := by
  unfold State.onEntries State.syncCmdq State.flag
  rw [fld_setFld_reg _ _ _ _ _ _ (by simpa using hr.symm), fld_setFld_apart _ _ _ _ _ _ ha]
  rfl

end Sys2Proof.Machine
end

section
/-!
SUPPORT. A submission queue that is disabled stays so while commands that waited for its own complete (R78, R87).
-/
namespace Sys2Proof.Machine

/-- A submission queue is disabled: not enabled, active or stalled, and no command of it is fetched or held. -/
def Stopped (q : Nat) (s : State) : Prop :=
  s.flag CMDQ_CFG_EN q = false ∧ s.flag CMDQ_STS_ACTIVE q = false ∧ s.flag CMDQ_STS_STALLED q = false ∧
    ∀ o ∈ s.cmd.outstanding, o.cmd.queue = q → o.stage ≠ .fetched ∧ o.stage ≠ .held

variable {q : Nat} {s t : State}

/-- What leaves the status of submission queues keeps a queue disabled. -/
theorem Stopped.of_regs (h : Stopped q s) (hc : ∀ i, t.reg .CMDQ_CFG i = s.reg .CMDQ_CFG i) (hs : ∀ i, t.reg .CMDQ_STS i = s.reg .CMDQ_STS i)
    (ho : t.cmd.outstanding = s.cmd.outstanding) : Stopped q t := by
  have hf : ∀ g : Field, g.reg = .CMDQ_CFG ∨ g.reg = .CMDQ_STS → t.flag g q = s.flag g q := by
    intro g hg
    rcases hg with hg | hg <;> simp [State.flag, State.fld, hg, hc, hs]
  obtain ⟨h1, h2, h3, h4⟩ := h
  exact ⟨(hf _ (.inl rfl)).trans h1, (hf _ (.inr rfl)).trans h2, (hf _ (.inr rfl)).trans h3, by rw [ho]; exact h4⟩

theorem Stopped.touches (h : Stopped q s) {rs : List Reg} (ht : Touches rs s t) (hc : Reg.CMDQ_CFG ∉ rs) (hs : Reg.CMDQ_STS ∉ rs) : Stopped q t :=
  h.of_regs (fun i => ht.2 _ i hc) (fun i => ht.2 _ i hs) (by rw [ht.cmd])

theorem Stopped.store (h : Stopped q s) (sp : Space) (a : Nat) (bs : List Byte) : Stopped q (s.store sp a bs) :=
  h.of_regs (fun _ => reg_store _ _ _ _ _ _) (fun _ => reg_store _ _ _ _ _ _) (by rw [store_cmd])

/-- STALLED is set for queues that are enabled only. -/
theorem Stopped.syncStalled (h : Stopped q s) (n : Nat) : Stopped q (s.syncStalled n) := by
  unfold State.syncStalled
  dsimp only
  split
  · exact h
  · refine List.foldlRecOn _ _ h fun t ⟨he, ha, hs, ho⟩ k _ => ?_
    split
    · refine ⟨(congrArg (· != 0) (fld_setFld_reg _ _ _ _ _ _ (by simp))).trans he, (flag_setFld_apart _ _ _ _ _ _ (by simp [Field.apart])).trans ha,
        ?_, ho⟩
      by_cases hk : k = q
      · rw [hk, he, Bool.false_and]
        exact flag_setFlag_same _ _ _ _ (by simp) (by simp)
      · exact (congrArg (· != 0) (fld_setFld_inst _ _ _ _ _ _ hk)).trans hs
    · exact ⟨he, ha, hs, ho⟩

theorem Stopped.syncCplq (h : Stopped q s) (n : Nat) : Stopped q (s.syncCplq n) :=
  (h.touches (touches_cplqStatus s n) (by simp) (by simp)).syncStalled n

/-- A change of the list that starts no command anew. -/
theorem Stopped.onEntries (h : Stopped q s) (k : Nat) {f : List Outstanding → List Outstanding}
    (hf : ∀ o ∈ f s.cmd.outstanding, o.stage = .replyWaiting ∨ o ∈ s.cmd.outstanding) : Stopped q (s.onEntries k f) := by
  obtain ⟨he, ha, hs, ho⟩ := h
  refine ⟨(flag_onEntries s k f (by simp) (by simp [Field.apart]) q).trans ?_, (flag_onEntries s k f (by simp) (by simp [Field.apart]) q).trans ha,
    (flag_onEntries s k f (by simp) (by simp [Field.apart]) q).trans hs, fun o hm hq => ?_⟩
  · exact he
  · rcases hf o hm with hw | hm
    · simp [hw]
    · exact ho o hm hq

theorem Stopped.dropEntry (h : Stopped q s) (k : Nat) (c : Cmd) : Stopped q (s.onEntries k (dropEntry c)) :=
  h.onEntries k fun _ ho => .inr (mem_of_mem_dropEntry ho)

theorem Stopped.replyWaits (h : Stopped q s) (k : Nat) (c : Cmd) :
    Stopped q (s.onEntries k (mapEntry c fun o => { o with stage := .replyWaiting })) :=
  h.onEntries k fun _ ho => (mem_of_mem_mapEntry ho).symm.imp_left fun ⟨_, _, e⟩ => by rw [e]

theorem Stopped.heldReplies (h : Stopped q s) (l : List Reply) : Stopped q { s with cmd := { s.cmd with heldReplies := l } } :=
  h.of_regs (fun _ => rfl) (fun _ => rfl) rfl

theorem Stopped.writeReply (h : Stopped q s) (r : Reply) : Stopped q (s.writeReply r) :=
  ((h.store _ _ _).touches (touches_replyPut s r) (by simp [putRegs]) (by simp [putRegs])).syncCplq r.cplq

theorem Stopped.postReply (h : Stopped q s) (c : Cmd) (st d w : Nat) : Stopped q (s.postReply c st d w) := by
  unfold State.postReply
  dsimp only
  split
  · exact h.dropEntry _ c
  · split
    · exact (h.dropEntry _ c).writeReply _
    · refine (Stopped.heldReplies (Stopped.replyWaits ?_ _ _) _).syncCplq _
      split
      · exact h
      · exact h.touches (touches_setFld (rs := [.CPLQ_STS]) s _ _ _ (by simp)) (by simp) (by simp)

theorem Stopped.completeCmd (h : Stopped q s) (c : Cmd) (st d w : Nat) : Stopped q (s.completeCmd c st d w) := by
  have hrb : ∀ k, Stopped q (s.readback c k).1 := fun k => by
    unfold State.readback
    dsimp only
    generalize (if c.opcode = 0x0103 then c.p 0 % 256 else ((opRow c.opcode).bind OpRow.cls).getD 0) = cls
    split
    · exact h.store _ _ _
    · exact h
  unfold State.completeCmd
  dsimp only
  split
  · by_cases hr : c.readback
    · simp only [hr, if_true]
      exact (hrb _).postReply c _ _ _
    · simp only [hr, Bool.false_eq_true, if_false]
      exact h.postReply c _ _ _
  · exact h.postReply c _ _ _

theorem Stopped.completeOne (h : Stopped q s) (o : Outstanding) : Stopped q (s.completeOne o) := by
  unfold State.completeOne
  split
  · exact h.completeCmd _ _ _ _
  · exact h

/-- Completing the commands that waited keeps a queue disabled. -/
theorem Stopped.completeFree (h : Stopped q s) (k : Nat) : Stopped q (s.completeFree k) := by
  refine List.foldlRecOn _ _ h fun t ht o _ => ?_
  split
  · exact ht
  · exact ht.completeOne o

/-- Completing the commands that waited writes their replies, and nothing else. -/
theorem rest_completeFree (s : State) (k : Nat) : Rest replyOnly s (s.completeFree k) := by
  refine List.foldlRecOn _ _ (Rest.refl _ _) fun t ht o _ => ?_
  split
  · exact ht
  · exact ht.trans (rest_completeOne t o)

/-- Where no command waits with its result, none completes. -/
theorem completeFree_none (h : ∀ o ∈ s.cmd.outstanding, o.cmd.queue = q → o.result = none) : s.completeFree q = s := by
  have hf : (s.cmd.outstanding.filter fun o => o.cmd.queue == q && o.result.isSome && o.stage != .replyWaiting) = [] := by
    refine List.filter_eq_nil_iff.mpr fun o ho => ?_
    by_cases hq : o.cmd.queue = q
    · simp [h o ho hq]
    · simp [hq]
  unfold State.completeFree
  rw [hf]
  rfl

end Sys2Proof.Machine
end

section
/-!
PROOFS. Enabling, disabling and assigning queues (R64, R86, R87, R418, R425).
-/
namespace Sys2Proof.Machine

/-! ### The owner of a completion queue -/

/-- What a queue's source is set to for a new owner (R418, R425). -/
def sourceWord (q o : Nat) : Nat := 8 + (if o = 0 then q else q % 8) * 256 + o * 65536

theorem execCplqOwnerWrite_new {a : Agent} {q : Nat} {v : Word} {s : State} (ha : s.actsAsPf0 a = true) (he : s.flag CPLQ_CFG_EN q = false)
    (hn : v.toNat % 64 ≠ s.fld CPLQ_OWNER_FUNC q) (h32 : v.toNat % 64 ≤ 32) :
    exec (.cplqOwnerWrite a q v) s = finish ((s.setFld CPLQ_OWNER_FUNC (v.toNat % 64) q).putN .IC_SRC_CFG (sourceWord q (v.toNat % 64)) q) := by
  refine congrArg finish ((byAgent_pf0 ha .CPLQ_OWNER q _).trans ((if_neg (by rw [he]; simp)).trans ((if_neg hn).trans ?_)))
  rw [if_pos h32]
  rfl

/-- The fields of the source of a new owner. -/
theorem sourceWord_fields {q o : Nat} (hq : q < 64) (ho : o ≤ 32) : sourceWord q o < 2 ^ 32 ∧ sourceWord q o % 2 ^ 4 = 8 ∧
    sourceWord q o / 2 ^ 4 % 2 ^ 2 = 0 ∧ sourceWord q o / 2 ^ 8 % 2 ^ 8 = (if o = 0 then q else q % 8) ∧ sourceWord q o / 2 ^ 16 % 2 ^ 6 = o := by
  have hv : (if o = 0 then q else q % 8) < 64 := by split <;> omega
  unfold sourceWord
  generalize (if o = 0 then q else q % 8) = x at hv ⊢
  omega

/-! ### Enabling -/

/-- A disabled completion queue takes its fields, and EN with them. -/
theorem execCplqCfgWrite_enable {f q : Nat} {v : Word} {s : State} (hf : f ≤ 32) (ho : s.fld CPLQ_OWNER_FUNC q = f)
    (he : s.flag CPLQ_CFG_EN q = false) (hv : v.toNat / 2 ^ 31 = 1) :
    exec (.cplqCfgWrite (.func f) q v) s = finish ((s.putN .CPLQ_CFG (v.toNat &&& 0xF) q).setFld CPLQ_CFG_EN 1 q) := by
  refine congrArg finish ((if_neg (not_not.mpr ho)).trans ?_)
  simp only [he, hv, Bool.false_eq_true, if_true, if_false, if_neg (show ¬ 32 < s.fld CPLQ_OWNER_FUNC q by omega)]

/-- The fields of a submission queue that is disabled. -/
def State.cmdqFields (s : State) (q : Nat) (v : Word) : State := s.putN .CMDQ_CFG (v.toNat &&& 0x0000F3FF) q

theorem cmdqFields_facts (s : State) (q : Nat) (v : Word) : (s.cmdqFields q v).fld CMDQ_CFG_LOG2_DEPTH q = v.toNat % 16 ∧
    (s.cmdqFields q v).fld CMDQ_CFG_CPLQ q = v.toNat / 16 % 64 ∧ (s.cmdqFields q v).fld CMDQ_CFG_WEIGHT q = v.toNat / 4096 % 16 ∧
    (s.cmdqFields q v).flag CMDQ_CFG_EN q = false := by
  refine ⟨?_, fld_putN_masked s CMDQ_CFG_CPLQ _ q (by simp) (by simp), fld_putN_masked s CMDQ_CFG_WEIGHT _ q (by simp) (by simp), ?_⟩
  · exact (fld_putN_masked s CMDQ_CFG_LOG2_DEPTH _ q (by simp) (by simp)).trans (by simp)
  · have h1 : v.toNat &&& 0x0000F3FF ≤ 0xF3FF := Nat.and_le_right
    have h2 : (s.cmdqFields q v).fld CMDQ_CFG_EN q = 0 := by
      refine (fld_putN_same s CMDQ_CFG_EN q (by omega)).trans ?_
      rw [Nat.shiftRight_eq_div_pow, Nat.div_eq_of_lt (lt_of_le_of_lt h1 (by simp)), Nat.zero_mod]
    rw [State.flag, h2]
    rfl

/-- A write of EN to a disabled submission queue: it is enabled, where its completion queue takes its replies. -/
theorem execCmdqCfgWrite_enable {f q : Nat} {v : Word} {s : State} (ho : s.fld CMDQ_OWNER_FUNC q = f) (he : s.flag CMDQ_CFG_EN q = false)
    (hv : v.toNat / 2 ^ 31 = 1) : exec (.cmdqCfgWrite (.func f) q v) s = finish (
      if s.flag CPLQ_CFG_EN (v.toNat / 16 % 64) = false ∨ s.fld CPLQ_OWNER_FUNC (v.toNat / 16 % 64) ≠ f ∨ 32 < f then
        (s.cmdqFields q v).setFld CMDQ_STS_CFG_ERR 1 q
      else (((s.cmdqFields q v).setFld CMDQ_CFG_EN 1 q).setFld CMDQ_STS_ACTIVE 1 q).syncStalled (v.toNat / 16 % 64)) := by
  have hm := (cmdqFields_facts s q v).2.1
  have h1 : (s.cmdqFields q v).flag CPLQ_CFG_EN (v.toNat / 16 % 64) = s.flag CPLQ_CFG_EN (v.toNat / 16 % 64) :=
    (touches_putN (rs := [.CMDQ_CFG]) s .CMDQ_CFG _ q (by simp)).flag (by simp) _
  have h2 : (s.cmdqFields q v).fld CPLQ_OWNER_FUNC (v.toNat / 16 % 64) = s.fld CPLQ_OWNER_FUNC (v.toNat / 16 % 64) :=
    fld_putN_ne _ _ _ _ _ _ (by simp)
  refine congrArg finish ((if_neg (not_not.mpr ho)).trans ?_)
  unfold State.cmdqFields at *
  simp only [he, hv, Bool.false_eq_true, if_true, if_false, hm, h1, h2, ho, Bool.not_eq_true']

/-- An enabled queue shows its fields, EN and ACTIVE. -/
theorem cmdqEnabled_facts (s : State) (q : Nat) (v : Word) (m : Nat) :
    let u := (((s.cmdqFields q v).setFld CMDQ_CFG_EN 1 q).setFld CMDQ_STS_ACTIVE 1 q).syncStalled m
    u.flag CMDQ_CFG_EN q = true ∧ u.flag CMDQ_STS_ACTIVE q = true ∧ u.fld CMDQ_CFG_LOG2_DEPTH q = v.toNat % 16 ∧
      u.fld CMDQ_CFG_CPLQ q = v.toNat / 16 % 64 ∧ u.fld CMDQ_CFG_WEIGHT q = v.toNat / 4096 % 16 := by
  obtain ⟨f1, f2, f3, -⟩ := cmdqFields_facts s q v
  have hs := touches_syncStalled (((s.cmdqFields q v).setFld CMDQ_CFG_EN 1 q).setFld CMDQ_STS_ACTIVE 1 q) m
  have hc : ∀ g : Field, g.reg = .CMDQ_CFG → CMDQ_CFG_EN.apart g →
      ((((s.cmdqFields q v).setFld CMDQ_CFG_EN 1 q).setFld CMDQ_STS_ACTIVE 1 q).syncStalled m).fld g q = (s.cmdqFields q v).fld g q := fun g hr ha => by
    rw [hs.fld (by simp [hr]) q, fld_setFld_reg _ _ _ _ _ _ (by simp [hr]), fld_setFld_apart _ _ _ _ _ _ ha]
  refine ⟨?_, ?_, (hc _ rfl (by simp [Field.apart])).trans f1, (hc _ rfl (by simp [Field.apart])).trans f2, (hc _ rfl (by simp [Field.apart])).trans f3⟩
  · rw [hs.flag (by simp) q, State.flag, fld_setFld_reg _ _ _ _ _ _ (by simp)]
    exact flag_setFld_one _ _ q (by simp) (by simp)
  · rw [State.flag, fld_syncStalled _ _ (by simp [Field.apart]) q]
    exact flag_setFld_one _ _ q (by simp) (by simp)

/-! ### Disabling -/

/-- A submission queue that is disabled (R87): its registers, before its commands are discarded. -/
def State.queueOff (s : State) (q : Nat) : State :=
  ((((s.setFld CMDQ_CFG_EN 0 q).setFld CMDQ_STS_ACTIVE 0 q).setFld CMDQ_STS_STALLED 0 q).setFld CMDQ_HEAD_HEAD 0 q).setFld CMDQ_TAIL_TAIL 0 q

/-- The commands of a queue that have not started. -/
def unstarted (q : Nat) (o : Outstanding) : Bool := o.cmd.queue == q && (o.stage == .fetched || o.stage == .held)

/-- A submission queue that is disabled, its commands that have not started discarded. -/
def State.queueEmptied (s : State) (q : Nat) : State := (s.queueOff q).onEntries q fun l => l.filter fun o => !unstarted q o

theorem execCmdqCfgWrite_disable {f q : Nat} {v : Word} {s : State} (ho : s.fld CMDQ_OWNER_FUNC q = f) (he : s.flag CMDQ_CFG_EN q = true)
    (hv : v.toNat < 2 ^ 31) : exec (.cmdqCfgWrite (.func f) q v) s = finish ((s.queueEmptied q).completeFree q) := by
  refine congrArg finish ((if_neg (not_not.mpr ho)).trans ?_)
  simp only [he, Nat.div_eq_of_lt hv, Nat.zero_ne_one, if_true, if_false]
  rfl

/-- The registers of a submission queue that is disabled. -/
def offRegs : List Reg := [.CMDQ_CFG, .CMDQ_STS, .CMDQ_HEAD, .CMDQ_TAIL, .CMDQ_HELD]

theorem touches_queueOff (s : State) (q : Nat) : Touches offRegs s (s.queueOff q) :=
  ((((touches_setFld s _ _ q (by simp [offRegs])).trans (touches_setFld _ _ _ q (by simp [offRegs]))).trans
    (touches_setFld _ _ _ q (by simp [offRegs]))).trans (touches_setFld _ _ _ q (by simp [offRegs]))).trans (touches_setFld _ _ _ q (by simp [offRegs]))

/-- The registers of a disabled queue, and the commands that are left of it. -/
theorem queueEmptied_facts (s : State) (q : Nat) : Stopped q (s.queueEmptied q) ∧ (s.queueEmptied q).fld CMDQ_HEAD_HEAD q = 0 ∧
    (s.queueEmptied q).fld CMDQ_TAIL_TAIL q = 0 := by
  have hl := listed_onEntries (s.queueOff q) q fun l => l.filter fun o => !unstarted q o
  have hflag : ∀ g : Field, g.reg ≠ .CMDQ_HELD → CMDQ_STS_PENDING.apart g → (s.queueEmptied q).flag g q = (s.queueOff q).flag g q :=
    fun g hr ha => flag_onEntries _ _ _ hr ha q
  refine ⟨⟨?_, ?_, ?_, fun o ho hq => ?_⟩, ?_, ?_⟩
  · rw [State.queueEmptied, hl.flag (by simp [listRegs]) q, State.queueOff, State.flag, fld_setFld_reg _ _ _ _ _ _ (by simp),
      fld_setFld_reg _ _ _ _ _ _ (by simp), fld_setFld_reg _ _ _ _ _ _ (by simp), fld_setFld_reg _ _ _ _ _ _ (by simp)]
    exact flag_setFld_zero _ _ q (by simp)
  · rw [hflag _ (by simp) (by simp [Field.apart]), State.queueOff, State.flag, fld_setFld_reg _ _ _ _ _ _ (by simp),
      fld_setFld_reg _ _ _ _ _ _ (by simp), fld_setFld_apart _ _ _ _ _ _ (by simp [Field.apart])]
    exact flag_setFld_zero _ _ q (by simp)
  · rw [hflag _ (by simp) (by simp [Field.apart]), State.queueOff, State.flag, fld_setFld_reg _ _ _ _ _ _ (by simp),
      fld_setFld_reg _ _ _ _ _ _ (by simp)]
    exact flag_setFld_zero _ _ q (by simp)
  · have hu := (List.mem_filter.mp ho).2
    simpa [unstarted, hq] using hu
  · rw [State.queueEmptied, hl.fld (by simp [listRegs]) q, State.queueOff, fld_setFld_reg _ _ _ _ _ _ (by simp), fld_setFld_same _ _ _ _ (by simp)]
    rfl
  · rw [State.queueEmptied, hl.fld (by simp [listRegs]) q, State.queueOff, fld_setFld_same _ _ _ _ (by simp)]
    rfl

/-- A disabled queue changes its registers and the list of commands. -/
theorem reg_queueEmptied (s : State) (q : Nat) (r : Reg) (i : Nat) (h : r ∉ offRegs) : (s.queueEmptied q).reg r i = s.reg r i :=
  ((listed_onEntries _ _ _).2 r i (notMem_part h (by simp [listRegs, offRegs]))).trans
    ((touches_queueOff s q).2 r i h)

/-- A disabled queue loses the commands that have not started; the replies held and the memories stay. -/
theorem queueEmptied_frame (s : State) (q : Nat) :
    (s.queueEmptied q).cmd.outstanding = s.cmd.outstanding.filter (fun o => !unstarted q o) ∧
      (s.queueEmptied q).cmd.heldReplies = s.cmd.heldReplies ∧ (s.queueEmptied q).mem = s.mem ∧ (s.queueEmptied q).hostMem = s.hostMem ∧
      (s.queueEmptied q).spad = s.spad := by
  have hl : Listed (s.queueOff q) (s.queueEmptied q) := listed_onEntries _ _ _
  have ht := touches_queueOff s q
  refine ⟨?_, hl.heldReplies.trans (by rw [ht.cmd]), hl.mem.trans ht.mem, hl.hostMem.trans ht.hostMem, hl.spad.trans ht.spad⟩
  rw [State.queueEmptied, onEntries_outstanding, ht.cmd]

/-- The state of a completion queue that is disabled with nothing held (R64, R86), before its status follows. -/
def State.ringOff (s : State) (q : Nat) : State :=
  (({ s with cmd := { s.cmd with heldReplies := s.cmd.heldReplies.filter fun r => r.cplq != q } }.setFld CPLQ_CFG_EN 0 q).setFld CPLQ_HEAD_HEAD 0 q).resetReg
    .CPLQ_TAIL q

theorem execCplqCfgWrite_disable {f q : Nat} {v : Word} {s : State} (ho : s.fld CPLQ_OWNER_FUNC q = f) (he : s.flag CPLQ_CFG_EN q = true)
    (hv : v.toNat < 2 ^ 31) (hb : (List.range 64).all (fun k => !(s.flag CMDQ_CFG_EN k && s.fld CMDQ_CFG_CPLQ k == q)) = true)
    (hh : s.heldFor q = []) : exec (.cplqCfgWrite (.func f) q v) s = finish ((s.ringOff q).syncCplq q) := by
  have hany : ((List.range 64).any fun k => s.flag CMDQ_CFG_EN k && s.fld CMDQ_CFG_CPLQ k == q) = false := by
    rw [List.any_eq_not_all_not, hb]
    rfl
  refine congrArg finish ((if_neg (not_not.mpr ho)).trans ?_)
  simp only [he, Nat.div_eq_of_lt hv, Nat.zero_ne_one, if_true, if_false, hany, Bool.false_eq_true, hh, List.foldl_nil]
  rfl

theorem ringOff_held (s : State) (q : Nat) : (s.ringOff q).heldFor q = [] := by
  show ((s.cmd.heldReplies.filter fun r => r.cplq != q).filter fun r => r.cplq == q) = []
  rw [List.filter_filter, List.filter_eq_nil_iff]
  intro r _
  simp

theorem reg_ringOff (s : State) (q : Nat) (r : Reg) (i : Nat) (h : r ∉ [Reg.CPLQ_CFG, .CPLQ_STS, .CPLQ_HEAD, .CPLQ_TAIL]) :
    (s.ringOff q).reg r i = s.reg r i := by
  simp only [List.mem_cons, List.not_mem_nil, or_false, not_or] at h
  obtain ⟨h1, -, h3, h4⟩ := h
  rw [State.ringOff, reg_resetReg, if_neg (fun hk => h4 hk.1.symm), reg_setFld_ne _ _ _ _ _ _ (by simpa using Ne.symm h3),
    reg_setFld_ne _ _ _ _ _ _ (by simpa using Ne.symm h1)]
  rfl

/-- The registers of a completion queue that is disabled. -/
theorem ringOff_facts (s : State) (q : Nat) : (s.ringOff q).flag CPLQ_CFG_EN q = false ∧ (s.ringOff q).fld CPLQ_HEAD_HEAD q = 0 ∧
    (s.ringOff q).fld CPLQ_TAIL_TAIL q = 0 ∧ (s.ringOff q).fld CPLQ_TAIL_PHASE q = 1 := by
  have hreset : ∀ (u : State) (g : Field), Reg.CPLQ_TAIL ≠ g.reg → (u.resetReg .CPLQ_TAIL q).fld g q = u.fld g q := fun u g h => by
    simp [State.fld, h]
  have hphase : regReset .CPLQ_TAIL q = 0x1000 := rfl
  refine ⟨?_, ?_, ?_, ?_⟩
  · rw [State.ringOff, State.flag, hreset _ _ (by simp), fld_setFld_reg _ _ _ _ _ _ (by simp)]
    exact flag_setFld_zero _ _ q (by simp)
  · rw [State.ringOff, hreset _ _ (by simp), fld_setFld_same _ _ _ _ (by simp)]
    rfl
  · rw [State.ringOff, State.fld, reg_resetReg, if_pos ⟨rfl, rfl⟩, hphase]
    decide
  · rw [State.ringOff, State.fld, reg_resetReg, if_pos ⟨rfl, rfl⟩, hphase]
    decide

/-- An empty ring is not full. -/
theorem ringOff_not_full (s : State) (q : Nat) : ((s.ringOff q).syncCplq q).flag CPLQ_STS_FULL q = false := by
  obtain ⟨-, hh, ht, -⟩ := ringOff_facts s q
  obtain ⟨hd, -⟩ := ringDepth_bounds ((s.ringOff q).fld CPLQ_CFG_LOG2_DEPTH q)
  have hu : (s.ringOff q).unreturned q = 0 := by
    rw [State.unreturned]
    simp only [hh, ht, Nat.zero_mod, Nat.sub_zero, Nat.zero_add, Nat.mod_self]
  rw [flag_syncCplq_full, hu, decide_eq_false_iff_not]
  omega

/-- Settles O12: an assignment, an enabling and a disabling each from the state its write leaves. -/
theorem queuesAreEnabledAndOwned : Obligations.QueuesAreEnabledAndOwned := by
  unfold Obligations.QueuesAreEnabledAndOwned
  refine ⟨fun a q v s ha hq he hn h32 => ?_, fun f q v s _ hf ho he hv => ?_, fun f q v s _ hf ho he hv h1 h2 => ?_,
    fun f q v s _ ho he hv h => ?_, fun f q v s _ ho he hv => ?_, fun f q v s _ ho he hv hb hh => ?_⟩
  · obtain ⟨w1, w2, w3, w4, w5⟩ := sourceWord_fields hq h32
    have hsrc : ∀ g : Field, g.reg = .IC_SRC_CFG → (settle ((s.setFld CPLQ_OWNER_FUNC (v.toNat % 64) q).putN .IC_SRC_CFG
        (sourceWord q (v.toNat % 64)) q)).fld g q = sourceWord q (v.toNat % 64) / 2 ^ g.lo % 2 ^ g.width := fun g hr => by
      rw [fld_settle _ _ _ (by simp [hr]), ← hr, fld_putN_same _ g q w1, Nat.shiftRight_eq_div_pow]
    refine gives_finish (execCplqOwnerWrite_new ha he hn h32) ⟨?_, (hsrc IC_SRC_CFG_PRIO rfl).trans ?_, (hsrc IC_SRC_CFG_KIND rfl).trans w3,
      (hsrc IC_SRC_CFG_FUNC rfl).trans w5, (hsrc IC_SRC_CFG_VECTOR rfl).trans w4,
      onlyRegs_of_touches ((touches_setFld s _ _ q (by simp)).trans (touches_putN _ _ _ q (by simp)))⟩
    · rw [fld_settle _ _ _ (by simp), fld_putN_ne _ _ _ _ _ _ (by simp), fld_setFld_same _ _ _ _ (by simp)]
      exact Nat.mod_mod _ 64
    · simpa using w2
  · refine gives_finish (execCplqCfgWrite_enable hf ho he hv) ⟨?_, ?_,
      onlyRegs_of_touches ((touches_putN s _ _ q (by simp)).trans (touches_setFld _ _ _ q (by simp)))⟩
    · rw [flag_settle _ _ _ (by simp)]
      exact flag_setFld_one _ _ q (by simp) (by simp)
    · rw [fld_settle _ _ _ (by simp), fld_setFld_apart _ _ _ _ _ _ (by simp [Field.apart])]
      exact (fld_putN_masked s CPLQ_CFG_LOG2_DEPTH _ q (by simp) (by simp)).trans (by simp)
  · have hx := execCmdqCfgWrite_enable ho he hv
    rw [if_neg (by rw [h1, h2]; simp; omega)] at hx
    obtain ⟨f1, f2, f3, f4, f5⟩ := cmdqEnabled_facts s q v (v.toNat / 16 % 64)
    exact gives_finish hx ⟨by simpa using f1, by simpa using f2, by simpa using f3, by simpa using f4, by simpa using f5,
      onlyRegs_of_touches ((((touches_putN s _ _ q (by simp)).trans (touches_setFld _ _ _ q (by simp))).trans
        (touches_setFld _ _ _ q (by simp))).trans ((touches_syncStalled _ _).mono (by simp)))⟩
  · have hx := execCmdqCfgWrite_enable ho he hv
    rw [if_pos h] at hx
    refine gives_finish hx ⟨?_, ?_, onlyRegs_of_touches ((touches_putN s _ _ q (by simp)).trans (touches_setFld _ _ _ q (by simp)))⟩
    · rw [flag_settle _ _ _ (by simp), State.flag, fld_setFld_reg _ _ _ _ _ _ (by simp)]
      exact (cmdqFields_facts s q v).2.2.2
    · rw [flag_settle _ _ _ (by simp)]
      exact flag_setFld_one _ _ q (by simp) (by simp)
  · obtain ⟨hs, hh, ht⟩ := queueEmptied_facts s q
    obtain ⟨k1, k2, k3, k4⟩ := hs.completeFree q
    have hr := rest_completeFree (s.queueEmptied q) q
    have hreg := reg_queueEmptied s q
    obtain ⟨m1, m2, m3, m4, m5⟩ := queueEmptied_frame s q
    have hfree : (∀ o ∈ s.cmd.outstanding, o.cmd.queue = q → o.result = none) → (s.queueEmptied q).completeFree q = s.queueEmptied q :=
      fun hnone => completeFree_none fun o hm hq => hnone o (List.mem_of_mem_filter (m1 ▸ hm)) hq
    have hx := execCmdqCfgWrite_disable ho he hv
    generalize (s.queueEmptied q).completeFree q = w at *
    generalize s.queueEmptied q = u at *
    refine gives_finish hx ⟨by simpa using k1, by simpa using k2, ?_, ?_, by simpa using k3, k4, fun r i hm hne => ?_, fun hnone => ?_⟩
    · rw [fld_settle _ _ _ (by simp), State.fld, hr.2 _ _ (by simp [replyOnly])]
      exact hh
    · rw [fld_settle _ _ _ (by simp), State.fld, hr.2 _ _ (by simp [replyOnly])]
      exact ht
    · rw [reg_settle _ _ _ hne, hr.2 r i (notMem_part hm (by simp [replyOnly])), hreg r i (notMem_part hm (by simp [offRegs, replyOnly]))]
    · rw [hfree hnone, settle_cmd]
      exact ⟨m1, m2, sameMemory_of_mems ((settle_mem u).trans m3) ((settle_hostMem u).trans m4) ((settle_spad u).trans m5),
        fun r i hm hne => (reg_settle _ _ _ hne).trans (hreg r i hm)⟩
  · obtain ⟨f1, f2, f3, f4⟩ := ringOff_facts s q
    have hsync := touches_syncCplq_none (ringOff_held s q)
    have hfull := ringOff_not_full s q
    have hx := execCplqCfgWrite_disable ho he hv hb hh
    generalize (s.ringOff q).syncCplq q = u at *
    refine gives_finish hx ⟨?_, ?_, ?_, ?_, by simpa using hfull, sameMemory_of_mems hsync.mem hsync.hostMem hsync.spad, fun r i hm hne => ?_⟩
    · rw [flag_settle _ _ _ (by simp), hsync.flag (by simp) q, f1]
    · rw [fld_settle _ _ _ (by simp), hsync.fld (by simp) q, f2]
    · rw [fld_settle _ _ _ (by simp), hsync.fld (by simp) q, f3]
    · rw [fld_settle _ _ _ (by simp), hsync.fld (by simp) q, f4]
    · rw [reg_settle _ _ _ hne, hsync.2 r i (notMem_part hm (by simp)), reg_ringOff s q r i hm]

end Sys2Proof.Machine
end

section
/-!
PROOFS. The fetch (R65, R66, R69, R73, R382).
-/
namespace Sys2Proof.Machine

/-! ### A completion error on a request -/

/-- A failed request is recorded (R382). -/
theorem touches_requestError (s : State) (d : Nat) :
    Touches faultOnly { s with cxl := { s.cxl with errors := { s.cxl.errors with advisory := true } } } (s.requestError d) :=
  touches_record _ 23 d false fun _ h => h

theorem reg_requestError (s : State) (d : Nat) (r : Reg) (i : Nat) (h : r ∉ faultOnly) : (s.requestError d).reg r i = s.reg r i :=
  (touches_requestError s d).2 r i h

/-- A failed request leaves the queues of commands and the memories. -/
theorem requestError_frame (s : State) (d : Nat) : (s.requestError d).cmd = s.cmd ∧ (s.requestError d).mem = s.mem ∧
    (s.requestError d).hostMem = s.hostMem ∧ (s.requestError d).spad = s.spad :=
  have h := touches_requestError s d
  ⟨h.cmd, h.mem, h.hostMem, h.spad⟩

/-! ### One command -/

/-- The header checks read the owner of the queue and the grid. -/
theorem headerError_congr {c : Cmd} {s t : State} (ho : t.fld CMDQ_OWNER_FUNC c.queue = s.fld CMDQ_OWNER_FUNC c.queue)
    (hi : t.tickIndex = s.tickIndex) (he : t.flag TK_CTRL_EN = s.flag TK_CTRL_EN) : headerError c t = headerError c s := by
  unfold headerError
  simp only [ho, hi, he]

/-- A command that is not listed yet is listed last. -/
theorem enlist_new {s : State} {c : Cmd} (h : s.entryOf c = none) : s.enlist c = s.onEntries c.queue fun l =>
    l ++ [{ cmd := c, late := c.atTick && decide (c.tick ≤ s.tickIndex), half := s.leadHalf }] := by
  unfold State.enlist
  rw [h]

/-- The head of a queue moves past `n` slots, and the queue has taken one more command of its turn (R66). -/
def State.takenFrom (s : State) (q n : Nat) : State :=
  { s.setFld CMDQ_HEAD_HEAD ((s.fld CMDQ_HEAD_HEAD q + n) % ringDepth (s.fld CMDQ_CFG_LOG2_DEPTH q)) q with
    cmd := { s.cmd with turn := q, taken := if q = s.cmd.turn then s.cmd.taken + 1 else 1 } }

theorem reg_takenFrom (s : State) (q n : Nat) (r : Reg) (i : Nat) (h : r ≠ .CMDQ_HEAD) : (s.takenFrom q n).reg r i = s.reg r i :=
  reg_setFld_ne s CMDQ_HEAD_HEAD _ q r i (by simpa using h.symm)

/-- The header checks of a command once it is taken are those before. -/
theorem headerError_takenFrom (s : State) (q n : Nat) (c : Cmd) :
    headerError c ((s.takenFrom q n).enlist c) = headerError c (s.enlist c) := by
  have hs := listed_enlist s c
  have ht := listed_enlist (s.takenFrom q n) c
  have hr : ∀ r i, r ∉ listRegs → r ≠ .CMDQ_HEAD → ((s.takenFrom q n).enlist c).reg r i = (s.enlist c).reg r i := fun r i h1 h2 => by
    rw [ht.2 r i h1, hs.2 r i h1, reg_takenFrom s q n r i h2]
  refine headerError_congr ?_ ?_ ?_
  · rw [State.fld, hr _ _ (by simp [listRegs]) (by simp), State.fld]
  · rw [State.tickIndex, State.regN, hr _ _ (by simp [listRegs]) (by simp), State.tickIndex, State.regN]
  · rw [State.flag, State.fld, hr _ _ (by simp [listRegs]) (by simp), State.flag, State.fld]

section
variable {q : Nat} {s : State}

/-- With no queue to fetch from. -/
theorem fetchOne_none (w : Option (List Nat)) (h : s.fetches = false ∨ s.pickQueue = none) : fetchOne w s = s := by
  have hp : (if s.fetches then s.pickQueue else none) = none := by
    rcases h with h | h <;> simp [h]
  unfold fetchOne
  rw [hp]

/-- A queue in host memory whose slots are read, and whose command passes the header checks. -/
theorem fetchOne_host {ws : List Nat} (hf : s.fetches = true) (hp : s.pickQueue = some q) (hl : s.flag CMDQ_BASE_LOC q = false)
    (hk : s.cxl.linkUp = true) (hn : natField (word ws 0) 16 4 + 1 ≤ s.slotsPending q)
    (hh : headerError (parseCmd q ws none) (s.enlist (parseCmd q ws none)) = none) :
    fetchOne (some ws) s = (s.takenFrom q (natField (word ws 0) 16 4 + 1)).enlist (parseCmd q ws none) := by
  rw [← headerError_takenFrom s q (natField (word ws 0) 16 4 + 1)] at hh
  unfold State.takenFrom at hh ⊢
  unfold fetchOne
  simp only [hf, hp, hl, hk, if_true, Bool.not_false, Bool.not_true, Bool.false_eq_true, and_false, if_false, Option.isNone_some, Option.getD_some,
    if_neg (Nat.not_lt.mpr hn)]
  simp only [setFld_cmd, hh]

/-- A queue in host memory whose slots cannot be read. -/
theorem fetchOne_failed (hf : s.fetches = true) (hp : s.pickQueue = some q) (hl : s.flag CMDQ_BASE_LOC q = false) (hk : s.cxl.linkUp = true) :
    fetchOne none s = (s.requestError (s.fld CMDQ_OWNER_FUNC q)).queueError q CMDQ_STS_FETCH_ERR := by
  unfold fetchOne
  simp only [hf, hp, hl, hk, if_true, Bool.not_false, Bool.not_true, Bool.false_eq_true, and_false, if_false, Option.isNone_none, and_self]

end

/-- Settles O13: the command that a fetch takes is listed, a failed read is recorded and stops the queue. -/
theorem fetchTakesTheNextCommand : Obligations.FetchTakesTheNextCommand := by
  unfold Obligations.FetchTakesTheNextCommand
  refine ⟨fun q ws s hf hp _ hl hk hn hh he => ?_, fun q s hf hp _ hl hk => ?_, fun w s h => gives_unchanged (congrArg finish (fetchOne_none w h))⟩
  · refine gives_finish (congrArg finish (fetchOne_host hf hp hl hk hn (Option.isNone_iff_eq_none.mp hh))) ?_
    generalize natField (word ws 0) 16 4 + 1 = n
    generalize hc : parseCmd q ws none = c at he
    have hlist := listed_enlist (s.takenFrom q n) c
    have hout := congrArg (fun u : State => u.cmd.outstanding.map (·.cmd)) (enlist_new (s := s.takenFrom q n) he)
    generalize (s.takenFrom q n).enlist c = u at hlist hout
    have hcmd : u.cmd = { (s.takenFrom q n).cmd with outstanding := u.cmd.outstanding } := by rw [hlist.1]
    refine ⟨?_, ?_, ?_, ?_, sameMemory_of_mems ((settle_mem u).trans hlist.mem) ((settle_hostMem u).trans hlist.hostMem)
      ((settle_spad u).trans hlist.spad), hlist.streams, fun r i hm hne => ?_⟩
    · rw [fld_settle _ _ _ (by simp), hlist.fld (by simp [listRegs]) q]
      refine (fld_setFld_same s CMDQ_HEAD_HEAD _ q (by simp)).trans ?_
      exact mod_ringDepth_lt _ _
    · rw [settle_cmd, hout]
      simp [State.takenFrom, onEntries_outstanding]
    · rw [settle_cmd, hcmd]
      rfl
    · rw [settle_cmd, hcmd]
      rfl
    · rw [reg_settle _ _ _ hne, hlist.2 r i (notMem_part hm (by simp [listRegs])), reg_takenFrom s q n r i fun h => hm (by simp [h])]
  · have hx := congrArg finish (fetchOne_failed hf hp hl hk)
    obtain ⟨c1, c2, c3, c4⟩ := requestError_frame s (s.fld CMDQ_OWNER_FUNC q)
    have hreg := reg_requestError s (s.fld CMDQ_OWNER_FUNC q)
    generalize s.requestError (s.fld CMDQ_OWNER_FUNC q) = u at *
    obtain ⟨e1, e2⟩ := queueError_facts u q (f := CMDQ_STS_FETCH_ERR) rfl (by simp) (by simp) (by simp [Field.apart])
    have ht := touches_queueError u q (f := CMDQ_STS_FETCH_ERR) rfl
    generalize u.queueError q CMDQ_STS_FETCH_ERR = w at *
    refine gives_finish hx ⟨by simpa using e1, by simpa using e2, ?_, ht.cmd.trans c1, sameMemory_of_mems ((settle_mem w).trans (ht.mem.trans c2))
      ((settle_hostMem w).trans (ht.hostMem.trans c3)) ((settle_spad w).trans (ht.spad.trans c4)), fun r i hm hne => ?_⟩
    · rw [fld_settle _ _ _ (by simp), ht.fld (by simp [errorRegs]) q, State.fld, hreg _ _ (by simp [faultOnly]), State.fld]
    · rw [reg_settle _ _ _ hne, ht.2 r i (notMem_part hm (by simp [errorRegs])), hreg r i (notMem_part hm (by simp [faultOnly]))]

end Sys2Proof.Machine
end

section
/-!
PROOFS. Replies in their ring: a NOP that is answered, and a held reply that is written (R67, R68, R72, R81).
-/
namespace Sys2Proof.Machine

/-! ### A reply written in a state that lists commands otherwise -/

section
variable {s v : State} (hreg : ∀ x i, x ∉ listRegs → v.reg x i = s.reg x i) (hm : v.mem = s.mem) (hh : v.hostMem = s.hostMem)
  (hp : v.spad = s.spad)
include hreg hm hh hp

/-- The bytes of a reply that is written in `v`, which differs from `s` in its list of commands: they stand where `s` has its tail. -/
theorem replyStored_facts (r : Reply) :
    (v.replyStored r).load (spaceOf (s.fld CPLQ_BASE_LOC r.cplq)) (s.replyAddr r.cplq) 32 =
        replyBytes r (s.fld CPLQ_TAIL_PHASE r.cplq) (s.fld CMDQ_HEAD_HEAD r.queue) ∧
      OnlyBytes (spaceOf (s.fld CPLQ_BASE_LOC r.cplq)) (s.replyAddr r.cplq) 32 s (v.replyStored r) ∧ (v.replyStored r).cmd = v.cmd ∧
      ∀ x i, (v.replyStored r).reg x i = v.reg x i := by
  have hf : ∀ (g : Field) (i : Nat), g.reg ∉ listRegs → v.fld g i = s.fld g i := fun g i hg => by simp only [State.fld, hreg g.reg i hg]
  have ha : v.replyAddr r.cplq = s.replyAddr r.cplq := by
    rw [State.replyAddr, hf _ _ (by simp [listRegs]), hf _ _ (by simp [listRegs]), State.replyAddr]
  have hlen := length_replyBytes r (s.fld CPLQ_TAIL_PHASE r.cplq) (s.fld CMDQ_HEAD_HEAD r.queue)
  have hbyte : ∀ sp x, v.byte sp x = s.byte sp x := fun sp x => by cases sp <;> simp only [State.byte, hm, hh]
  rw [State.replyStored, ha, hf _ _ (by simp [listRegs]), hf _ _ (by simp [listRegs]), hf _ _ (by simp [listRegs])]
  obtain ⟨o1, o2⟩ := onlyBytes_store v (spaceOf (s.fld CPLQ_BASE_LOC r.cplq)) (s.replyAddr r.cplq) hlen
  exact ⟨load_store_same v _ _ hlen, ⟨fun sp x hx => (o1 sp x hx).trans (hbyte sp x), fun x => (o2 x).trans (by rw [hp])⟩, store_cmd _ _ _ _,
    reg_store _ _ _ _⟩

/-- A reply that is written there: its bytes, the tail and phase, its source, and what it leaves of `s`. -/
theorem reply_reaches {r : Reply} (hn : r.cplq < 64) :
    (settle (v.writeReply r)).load (spaceOf (s.fld CPLQ_BASE_LOC r.cplq)) (s.replyAddr r.cplq) 32 =
        replyBytes r (s.fld CPLQ_TAIL_PHASE r.cplq) (s.fld CMDQ_HEAD_HEAD r.queue) ∧
      (settle (v.writeReply r)).fld CPLQ_TAIL_TAIL r.cplq = (s.fld CPLQ_TAIL_TAIL r.cplq + 1) % ringDepth (s.fld CPLQ_CFG_LOG2_DEPTH r.cplq) ∧
      (s.fld CPLQ_TAIL_TAIL r.cplq + 1 = ringDepth (s.fld CPLQ_CFG_LOG2_DEPTH r.cplq) →
        (settle (v.writeReply r)).fld CPLQ_TAIL_PHASE r.cplq = 1 - s.fld CPLQ_TAIL_PHASE r.cplq) ∧
      (settle (v.writeReply r)).pendBit r.cplq = true ∧ (settle (v.writeReply r)).cmd = v.cmd ∧
      OnlyBytes (spaceOf (s.fld CPLQ_BASE_LOC r.cplq)) (s.replyAddr r.cplq) 32 s (settle (v.writeReply r)) ∧
      SameRegs [.CMDQ_STS, .CMDQ_HELD, .CPLQ_STS, .CPLQ_TAIL, .IC_PEND, .IC_MERGE_CNT] s (settle (v.writeReply r)) := by
  have hf : ∀ (g : Field) (i : Nat), g.reg ∉ listRegs → v.fld g i = s.fld g i := fun g i hg => by simp only [State.fld, hreg g.reg i hg]
  have ht := touches_writeReply v r
  obtain ⟨b1, ⟨b2, b3⟩, b4, b5⟩ := replyStored_facts hreg hm hh hp r
  obtain ⟨w1, w2, w3⟩ := writeReply_facts v hn
  rw [hf CPLQ_TAIL_TAIL _ (by simp [listRegs]), hf CPLQ_CFG_LOG2_DEPTH _ (by simp [listRegs])] at w1 w2
  rw [hf CPLQ_TAIL_PHASE _ (by simp [listRegs])] at w2
  generalize v.replyStored r = b at *
  generalize v.writeReply r = w at *
  have hbyte : ∀ sp x, w.byte sp x = b.byte sp x := fun sp x => by cases sp <;> simp only [State.byte, ht.mem, ht.hostMem]
  refine ⟨?_, ?_, fun hw => ?_, ?_, ?_, ⟨fun sp x hx => ?_, fun x => ?_⟩, fun x i hx hne => ?_⟩
  · rw [load_congr ((settle_mem w).trans ht.mem) ((settle_hostMem w).trans ht.hostMem), b1]
  · rw [fld_settle _ _ _ (by simp), w1]
  · rw [fld_settle _ _ _ (by simp), w2 hw]
  · rw [State.pendBit, regN_settle _ _ _ (by simp)]
    exact w3
  · rw [settle_cmd, ht.cmd, b4]
  · rw [byte_settle, hbyte, b2 sp x hx]
  · rw [settle_spad, ht.spad, b3 x]
  · rw [reg_settle _ _ _ hne, ht.2 x i (notMem_part hx (by simp [writeRegs])), b5, hreg x i (notMem_part hx (by simp [listRegs]))]

end

/-! ### A command that is listed last -/

/-- An entry is the command's own, and waits for no reply. -/
def isEntry (c : Cmd) (o : Outstanding) : Bool := sameCmd o.cmd c && o.stage != .replyWaiting

theorem isEntry_iff (c : Cmd) (o : Outstanding) : isEntry c o = true ↔ sameCmd o.cmd c = true ∧ o.stage ≠ .replyWaiting := by
  simp [isEntry]

/-- The command is listed last, in the entry `e` after the list `l`, and nowhere else. -/
def ListedLast (c : Cmd) (l : List Outstanding) (e : Outstanding) (s : State) : Prop :=
  s.cmd.outstanding = l ++ [e] ∧ (∀ o ∈ l, isEntry c o = false) ∧ isEntry c e = true

/-- No entry of a list is the command's where none is found. -/
theorem entryOf_none {s : State} {c : Cmd} (h : s.entryOf c = none) : ∀ o ∈ s.cmd.outstanding, isEntry c o = false := fun o ho => by
  have hn := List.find?_eq_none.mp h o ho
  exact Bool.eq_false_iff.mpr hn

theorem mapEntry_last {c : Cmd} {f : Outstanding → Outstanding} {l : List Outstanding} {e : Outstanding} (hl : ∀ o ∈ l, isEntry c o = false)
    (he : isEntry c e = true) : mapEntry c f (l ++ [e]) = l ++ [f e] := by
  induction l with
  | nil => exact if_pos ((isEntry_iff c e).mp he)
  | cons p l ih =>
    obtain ⟨hp, hl⟩ := List.forall_mem_cons.mp hl
    have hne : ¬ (sameCmd p.cmd c = true ∧ p.stage ≠ .replyWaiting) := fun h => by simp [(isEntry_iff c p).mpr h] at hp
    rw [List.cons_append, mapEntry, if_neg hne, ih hl, List.cons_append]

theorem dropEntry_last {c : Cmd} {l : List Outstanding} {e : Outstanding} (hl : ∀ o ∈ l, isEntry c o = false) (he : isEntry c e = true) :
    dropEntry c (l ++ [e]) = l := by
  induction l with
  | nil => exact if_pos ((isEntry_iff c e).mp he)
  | cons p l ih =>
    obtain ⟨hp, hl⟩ := List.forall_mem_cons.mp hl
    have hne : ¬ (sameCmd p.cmd c = true ∧ p.stage ≠ .replyWaiting) := fun h => by simp [(isEntry_iff c p).mpr h] at hp
    rw [List.cons_append, dropEntry, if_neg hne, ih hl]

/-- The entry of a command that is listed for the first time. -/
def newEntry (c : Cmd) (s : State) : Outstanding := { cmd := c, late := c.atTick && decide (c.tick ≤ s.tickIndex), half := s.leadHalf }

theorem listedLast_enlist {s : State} {c : Cmd} (h : s.entryOf c = none) : ListedLast c s.cmd.outstanding (newEntry c s) (s.enlist c) :=
  ⟨by rw [enlist_new h]; rfl, entryOf_none h, by simp [isEntry, newEntry, sameCmd]⟩

/-- A command that is listed for the first time starts in an entry of its own. -/
theorem listedLast_begun {s : State} {c : Cmd} (h : s.entryOf c = none) :
    ListedLast c s.cmd.outstanding { newEntry c s with stage := .started } (begun c s) := by
  obtain ⟨h1, h2, h3⟩ := listedLast_enlist h
  refine ⟨?_, h2, by simp [isEntry, newEntry, sameCmd]⟩
  rw [begun, onEntries_outstanding, h1, mapEntry_last h2 h3]

section
variable {c : Cmd} {l : List Outstanding} {e : Outstanding} {s : State} (hs : ListedLast c l e s)
include hs

theorem ListedLast.entryOf : s.entryOf c = some e := by
  obtain ⟨h1, h2, h3⟩ := hs
  have hl : l.find? (isEntry c) = none := List.find?_eq_none.mpr fun o ho => Bool.eq_false_iff.mp (h2 o ho)
  show s.cmd.outstanding.find? (isEntry c) = some e
  rw [h1, List.find?_append, hl, List.find?_singleton, if_pos h3, Option.none_or]

theorem ListedLast.earlier : s.earlier c = l.filter fun o => o.cmd.queue == c.queue := by
  obtain ⟨h1, h2, h3⟩ := hs
  have hl : l.takeWhile (fun o => !isEntry c o) = l := List.takeWhile_eq_self_iff.mpr fun o ho => by simp [h2 o ho]
  show ((s.cmd.outstanding.takeWhile fun o => !isEntry c o).filter fun o => o.cmd.queue == c.queue) = _
  rw [h1, List.takeWhile_append, hl]
  simp [h3]

theorem ListedLast.followers : s.followers c = [] := by
  obtain ⟨h1, h2, h3⟩ := hs
  have hl : l.dropWhile (fun o => !isEntry c o) = [] := List.dropWhile_eq_nil_iff.mpr fun o ho => by simp [h2 o ho]
  show ((((s.cmd.outstanding.dropWhile fun o => !isEntry c o).drop 1).filter _).takeWhile _) = []
  rw [h1, List.dropWhile_append, hl]
  simp [h3]

/-- A command that is listed last, has no result yet and waits for no other is answered by its own reply. -/
theorem ListedLast.answer_ok (hr : e.result = none) (hl : e.late = false) (hb : s.behind c = false) (hc : c.readback = false) :
    s.answer c 0 0 0 = s.postReply c 0 0 0 := by
  have hcomp : s.completeCmd c 0 0 0 = s.postReply c 0 0 0 := by
    unfold State.completeCmd
    simp only [hs.entryOf, hl, hc, Bool.false_eq_true, if_false]
    rfl
  have hlate : s.lateCount 0 = s := if_neg (by simp)
  unfold State.answer
  rw [hs.entryOf, hlate]
  simp only [Option.bind_some, hr, Option.isSome_none, Bool.false_eq_true, if_false, hb, hs.followers, List.foldl_nil, hcomp]

end

/-- Whether a command waits depends on the commands listed before it. -/
theorem behind_congr {c : Cmd} {l : List Outstanding} {e e' : Outstanding} {s t : State} (hs : ListedLast c l e s) (ht : ListedLast c l e' t) :
    t.behind c = s.behind c := by
  rw [State.behind, ht.earlier, State.behind, hs.earlier]

/-! ### A reply that goes out -/

/-- The reply of a command with status OK. -/
def okReply (c : Cmd) (n : Nat) (s : State) : Reply :=
  { queue := c.queue, cplq := n, tag := c.tag, opcode := c.opcode, status := 0, detail := 0, cplTick := s.cplTick, cplOfs := s.cplOfs, word := 0 }

/-- A reply that nothing holds back is written. -/
theorem postReply_written {s : State} {c : Cmd} {n : Nat} (hn : s.fld CMDQ_CFG_CPLQ c.queue = n) (hq : c.quiet = false)
    (he : s.flag CPLQ_CFG_EN n = true) (hroom : s.cplqRoom n = true) (hheld : s.someHeld n = false) :
    s.postReply c 0 0 0 = (s.onEntries c.queue (dropEntry c)).writeReply (okReply c n s) := by
  unfold State.postReply
  simp only [hn, he, hq, hroom, hheld, Bool.not_true, Bool.not_false, Bool.false_eq_true, false_and, and_false, or_self, if_false, and_self,
    if_true]
  rfl

/-- What a reply reads of the time and the queue is not changed by listing its command. -/
theorem Listed.okReply {s t : State} (h : Listed s t) (c : Cmd) (n : Nat) : okReply c n t = okReply c n s := by
  have h1 : t.cplTick = s.cplTick := by simp (disch := simp [listRegs]) only [State.cplTick, State.tickIndex, h.flag, h.regN]
  have h2 : t.cplOfs = s.cplOfs := by simp (disch := simp [listRegs]) only [State.cplOfs, h.flag, h.tb]
  unfold Machine.okReply
  rw [h1, h2]

theorem Listed.cplqRoom {s t : State} (h : Listed s t) (n : Nat) : t.cplqRoom n = s.cplqRoom n := by
  have h1 : t.cxl = s.cxl := by rw [h.1]
  have h2 : t.unreturned n = s.unreturned n :=
    unreturned_congr (h.fld (by simp [listRegs]) n) (h.fld (by simp [listRegs]) n) (h.fld (by simp [listRegs]) n)
  unfold State.cplqRoom
  rw [h1, h2, h.fld (by simp [listRegs]) n, h.flag (by simp [listRegs]) n]

theorem Listed.someHeld {s t : State} (h : Listed s t) (n : Nat) : t.someHeld n = s.someHeld n := by
  simp only [State.someHeld, State.heldFor, h.heldReplies]

/-- What lets a reply go out, taken apart. -/
theorem replyGoesOut_iff {c : Cmd} {s : State} {n : Nat} (hn : s.fld CMDQ_CFG_CPLQ c.queue = n) (hrb : c.readback = false) :
    ReplyGoesOut c s = true ↔ (s.enlist c).behind c = false ∧ s.flag CPLQ_CFG_EN n = true ∧ s.cplqRoom n = true ∧ s.someHeld n = false ∧
      c.quiet = false := by
  unfold ReplyGoesOut
  simp only [hn, hrb, Bool.and_eq_true, Bool.not_eq_true', Bool.not_false, Bool.and_true]
  tauto

/-- A new NOP whose reply goes out leaves the list of commands as it was, and its reply in the ring. -/
theorem execNop_written {c : Cmd} {s : State} {n : Nat} (hr : Ready c s = true) (hn : s.fld CMDQ_CFG_CPLQ c.queue = n)
    (hg : ReplyGoesOut c s = true) (hrb : c.readback = false) (hat : c.atTick = false) (he : s.entryOf c = none) :
    exec (.nop c) s = finish (((begun c s).onEntries c.queue (dropEntry c)).writeReply (okReply c n s)) := by
  obtain ⟨g1, g2, g3, g4, g5⟩ := (replyGoesOut_iff hn hrb).mp hg
  have hl := listed_begun c s
  have hlast := listedLast_begun he
  rw [behind_congr hlast (listedLast_enlist he)] at g1
  refine (runCommand_ready hr opNop).trans (congrArg finish ?_)
  show (begun c s).answer c 0 0 0 = _
  rw [hlast.answer_ok rfl (by simp [newEntry, hat]) g1 hrb, postReply_written ((hl.fld (by simp [listRegs]) _).trans hn) g5
    ((hl.flag (by simp [listRegs]) _).trans g2) ((hl.cplqRoom n).trans g3) ((hl.someHeld n).trans g4), hl.okReply]

/-! ### A held reply -/

/-- The entry of a held reply goes with it. -/
def dropWaiting (r : Reply) (l : List Outstanding) : List Outstanding :=
  l.eraseP fun o => o.stage == .replyWaiting && o.cmd.queue == r.queue && o.cmd.tag == r.tag && o.cmd.opcode == r.opcode

/-- The state in which a held reply is written: it has left the holding list. -/
def State.unheld (s : State) (r : Reply) : State :=
  { s with cmd := { s.cmd with heldReplies := s.cmd.heldReplies.erase r } }.onEntries r.queue (dropWaiting r)

theorem unheld_frame (s : State) (r : Reply) : (∀ x i, x ∉ listRegs → (s.unheld r).reg x i = s.reg x i) ∧ (s.unheld r).mem = s.mem ∧
    (s.unheld r).hostMem = s.hostMem ∧ (s.unheld r).spad = s.spad ∧ (s.unheld r).cmd.heldReplies = s.cmd.heldReplies.erase r :=
  have h : Listed { s with cmd := { s.cmd with heldReplies := s.cmd.heldReplies.erase r } } (s.unheld r) := listed_onEntries _ _ _
  ⟨fun x i hx => h.2 x i hx, h.mem, h.hostMem, h.spad, h.heldReplies⟩

section
variable {s : State} {q : Nat} (hroom : s.cplqRoom q = true) (he : s.flag CPLQ_CFG_EN q = true)
include hroom he

/-- The oldest held reply is written where there is room. -/
theorem execHeldReplyWrite_written {r : Reply} {rest : List Reply} (hh : s.heldFor q = r :: rest) :
    exec (.heldReplyWrite q true) s = finish ((s.unheld r).writeReply r) := by
  have hw : s.writeHeld q = (s.unheld r).writeReply r := by
    unfold State.writeHeld
    rw [hh]
    exact if_neg (by rw [hroom, he]; simp)
  rw [← hw]
  exact congrArg finish ((if_neg (by rw [hh, hroom, he]; simp)).trans (if_neg (by simp)))

/-- A held reply whose write fails. -/
theorem execHeldReplyWrite_failed (hh : s.heldFor q ≠ []) :
    exec (.heldReplyWrite q false) s = finish ((s.requestError (s.fld CPLQ_OWNER_FUNC q)).setFld CPLQ_STS_WRITE_ERR 1 q) :=
  congrArg finish ((if_neg (by rw [hroom, he, List.isEmpty_iff]; simp [hh])).trans (if_pos rfl))

end

/-- Settles O14: the replies by `reply_reaches`, the failed write by the record it makes. -/
theorem repliesReachTheRing : Obligations.RepliesReachTheRing := by
  unfold Obligations.RepliesReachTheRing
  refine ⟨fun c n s hr hn hg hloc hrb hat he => ?_, fun q r rest s hh hq hroom he => ?_, fun q s hh hq hroom he => ?_⟩
  · have h64 : n < 64 := hn ▸ bitField_lt _ _ 6
    have hdev : spaceOf (s.fld CPLQ_BASE_LOC n) = .device := by
      have h1 : s.fld CPLQ_BASE_LOC n < 2 := bitField_lt _ _ 1
      have h2 : s.fld CPLQ_BASE_LOC n ≠ 0 := by simpa [State.flag] using hloc
      rw [show s.fld CPLQ_BASE_LOC n = 1 by omega]
      rfl
    have hl : Listed s ((begun c s).onEntries c.queue (dropEntry c)) := (listed_begun c s).trans (listed_onEntries _ _ _)
    obtain ⟨h1, h2, h3⟩ := listedLast_begun he
    have hout : ((begun c s).onEntries c.queue (dropEntry c)).cmd.outstanding = s.cmd.outstanding := by
      rw [onEntries_outstanding, h1, dropEntry_last h2 h3]
    obtain ⟨r1, r2, r3, r4, r5, r6, r7⟩ := reply_reaches hl.2 hl.mem hl.hostMem hl.spad (r := okReply c n s) h64
    refine gives_finish (execNop_written hr hn hg hrb hat he) ?_
    generalize ((begun c s).onEntries c.queue (dropEntry c)).writeReply (okReply c n s) = w at *
    rw [← hdev]
    exact ⟨r1, r2, r3, r4, by rw [r5, hout], r6, r7⟩
  · have hrq : r.cplq = q := by
      have hm : r ∈ s.heldFor q := by rw [hh]; exact List.mem_cons_self
      simpa using (List.mem_filter.mp hm).2
    subst hrq
    obtain ⟨u1, u2, u3, u4, u5⟩ := unheld_frame s r
    obtain ⟨r1, r2, -, r4, r5, -, r7⟩ := reply_reaches u1 u2 u3 u4 hq
    refine gives_finish (execHeldReplyWrite_written hroom he hh) ?_
    generalize (s.unheld r).writeReply r = w at *
    exact ⟨r1, by rw [r5, u5], r2, r4, r7⟩
  · obtain ⟨c1, c2, c3, c4⟩ := requestError_frame s (s.fld CPLQ_OWNER_FUNC q)
    have hreg := reg_requestError s (s.fld CPLQ_OWNER_FUNC q)
    have hx := execHeldReplyWrite_failed hroom he hh
    generalize s.requestError (s.fld CPLQ_OWNER_FUNC q) = u at *
    refine gives_finish hx ⟨?_, c1, sameMemory_of_mems c2 c3 c4, fun r i hm hne => ?_⟩
    · rw [flag_settle _ _ _ (by simp)]
      exact flag_setFld_one u _ q (by simp) (by simp)
    · rw [reg_settle _ _ _ hne, reg_setFld_ne _ _ _ _ _ _ (fun h => hm (by simp [← h])), hreg r i (notMem_part hm (by simp [faultOnly]))]

end Sys2Proof.Machine
end

section
/-!
PROOFS. STATE_WRITE: the order of its checks, and a slot table written (R89, R90, R195, R196, R212).
-/
namespace Sys2Proof.Machine

/-! ### A next bank is loaded -/

@[simp] theorem reg_touch (s : State) (cls h : Nat) (r : Reg) (i : Nat) : (s.touch cls h).reg r i = s.reg r i := rfl

@[simp] theorem touch_streams (s : State) (cls h : Nat) : (s.touch cls h).streams = s.streams := rfl

/-- One entry of a next bank, its reserved bits 0. -/
def State.loadEntry (p : Nat) (es : List Nat) (s : State) (e : Nat) : State :=
  if s.regN .SLT_NEXT (p * 64 + e) = word es e &&& 0x81FF then s else s.putN .SLT_NEXT (word es e &&& 0x81FF) (p * 64 + e)

/-- The entries of a next bank. -/
def State.loadEntries (s : State) (p n : Nat) (es : List Nat) : State := (List.range n).foldl (State.loadEntry p es) s

theorem loadBank_eq (s : State) (p : Nat) (es : List Nat) :
    s.loadBank p es = (((s.loadEntries p 64 es).setFld SLT_BANK_NEXT_COUNT es.length p).touch 5 p).touch 0x105 p := rfl

theorem touches_loadEntry (s : State) (p : Nat) (es : List Nat) (e : Nat) : Touches [.SLT_NEXT] s (s.loadEntry p es e) := by
  unfold State.loadEntry
  split
  · exact Touches.refl _ _
  · exact touches_putN s _ _ _ (by simp)

theorem touches_loadEntries (s : State) (p n : Nat) (es : List Nat) : Touches [.SLT_NEXT] s (s.loadEntries p n es) :=
  touches_foldl (fun t e => touches_loadEntry t p es e) _ s

/-- An entry that is loaded reads back, and every other as before. -/
theorem regN_loadEntry (s : State) (p : Nat) (es : List Nat) (e k : Nat) : (s.loadEntry p es e).regN .SLT_NEXT (p * 64 + k) =
    if k = e then word es e &&& 0x81FF else s.regN .SLT_NEXT (p * 64 + k) := by
  have hlt : word es e &&& 0x81FF < 2 ^ 32 := lt_of_le_of_lt Nat.and_le_right (by simp)
  unfold State.loadEntry
  by_cases hk : k = e
  · subst hk
    split
    next h => simpa using h
    next => simp [regN_putN_same s .SLT_NEXT _ _ hlt]
  · rw [if_neg hk]
    split
    · rfl
    · rw [State.regN, reg_putN, if_neg (by omega), State.regN]

/-- The entries of a next bank that is loaded read back. -/
theorem regN_loadEntries (s : State) (p n : Nat) (es : List Nat) : ∀ k < n, (s.loadEntries p n es).regN .SLT_NEXT (p * 64 + k) = word es k &&& 0x81FF := by
  induction n with
  | zero => exact fun k hk => absurd hk (Nat.not_lt_zero k)
  | succ n ih =>
    intro k hk
    have hs : s.loadEntries p (n + 1) es = (s.loadEntries p n es).loadEntry p es n := by simp [State.loadEntries, List.range_succ]
    rw [hs, regN_loadEntry]
    split
    next h => rw [h]
    next h => exact ih k (by omega)

/-- A next bank that is loaded: its entries, the count, and the registers outside it. -/
theorem loadBank_facts (s : State) (p : Nat) {es : List Nat} (hn : es.length ≤ 64) :
    (∀ k < 64, (s.loadBank p es).regN .SLT_NEXT (p * 64 + k) = word es k &&& 0x81FF) ∧ (s.loadBank p es).fld SLT_BANK_NEXT_COUNT p = es.length ∧
      (s.loadBank p es).streams = s.streams ∧ ∀ r i, r ∉ [Reg.SLT_NEXT, .SLT_BANK] → (s.loadBank p es).reg r i = s.reg r i := by
  have hreg : ∀ r i, (s.loadBank p es).reg r i = ((s.loadEntries p 64 es).setFld SLT_BANK_NEXT_COUNT es.length p).reg r i := fun r i => by
    rw [loadBank_eq, reg_touch, reg_touch]
  have hl := touches_loadEntries s p 64 es
  have hall := hl.mono (rs' := [.SLT_NEXT, .SLT_BANK]) (by simp) |>.trans (touches_setFld _ SLT_BANK_NEXT_COUNT es.length p (by simp))
  refine ⟨fun k hk => ?_, ?_, by rw [loadBank_eq, touch_streams, touch_streams, hall.streams], fun r i hr => (hreg r i).trans (hall.2 r i hr)⟩
  · rw [State.regN, hreg, reg_setFld_ne _ _ _ _ _ _ (by simp)]
    exact regN_loadEntries s p 64 es k hk
  · rw [State.fld, hreg]
    refine (fld_setFld_same _ SLT_BANK_NEXT_COUNT es.length p (by simp)).trans (Nat.mod_eq_of_lt ?_)
    exact lt_of_le_of_lt hn (by simp)

/-- Checks that find no fault all hold. -/
theorem firstBad_none {l : List (Bool × Nat)} (h : firstBad l = none) : ∀ p ∈ l, p.1 = true := by
  induction l with
  | nil => simp
  | cons p l ih =>
    obtain ⟨ok, d⟩ := p
    cases ok with
    | false => exact absurd h (by simp [firstBad])
    | true => exact List.forall_mem_cons.mpr ⟨rfl, ih h⟩

/-- A next bank that passes its checks has from 1 to 64 entries (R196). -/
theorem slotChecks_count {s : State} {p n : Nat} {es : List Nat} (h : firstBad (s.slotChecks p n es) = none) : 1 ≤ n ∧ n ≤ 64 := by
  have hn := firstBad_none h (decide (1 ≤ n) && decide (n ≤ 64), 5) (by simp [State.slotChecks])
  simpa using hn

theorem length_recWords (r : List Byte) (lo n : Nat) : (recWords r lo n).length = n := by simp [recWords, wordsOf]

/-! ### The checks in their order -/

/-- The rule of STATE_WRITE with the word of its reply (R76). -/
def stateWriteRule (c : Cmd) (s : State) : Res :=
  let r := opStateWrite c s
  if r.status < 0x10 then { r with word := r.s.gen (c.p 0 % 256) c.handle } else r

theorem execStateWrite_eq (c : Cmd) (s : State) : exec (.stateWrite c) s = runCommand c stateWriteRule s := rfl

/-- A refusal stays one. -/
theorem stateWriteRule_bad {c : Cmd} {s : State} {d : Nat} (h : opStateWrite c s = Res.bad s d) : stateWriteRule c s = Res.err s 0x11 d := by
  unfold stateWriteRule
  rw [h]
  rfl

theorem opStateWrite_undefined {c : Cmd} {s : State} (h : classHandles (c.p 0 % 256) = 0) : opStateWrite c s = Res.bad s 1 := by
  unfold opStateWrite
  simp only [h]

theorem opStateWrite_noData {c : Cmd} {s : State} (h : classHandles (c.p 0 % 256) ≠ 0) (hd : c.data = none) : opStateWrite c s = Res.bad s 6 := by
  obtain ⟨n, hn⟩ := Nat.exists_eq_succ_of_ne_zero h
  unfold opStateWrite
  simp only [hn, hd]

theorem opStateWrite_mismatch {c : Cmd} {s : State} {r : List Byte} (h : classHandles (c.p 0 % 256) ≠ 0) (hd : c.data = some r)
    (hm : c.p 4 ≠ recN r 8 4 ∨ recN r 0 1 ≠ c.p 0 % 256 ∨ recN r 2 2 ≠ c.handle) : opStateWrite c s = Res.bad s 5 := by
  obtain ⟨n, hn⟩ := Nat.exists_eq_succ_of_ne_zero h
  unfold opStateWrite
  simp only [hn, hd]
  exact if_pos (by tauto)

/-- A slot table that PF0 may write, and whose entries pass the checks, is loaded. -/
theorem opStateWrite_slotTable {c : Cmd} {s : State} {r : List Byte} (hd : c.data = some r) (hc : c.p 0 % 256 = 5) (hh : c.handle < 24)
    (h16 : 16 ≤ c.p 4) (hl : c.p 4 = recN r 8 4) (h0 : recN r 0 1 = 5) (h2 : recN r 2 2 = c.handle)
    (hsize : c.p 4 = (s.objectRecord 5 c.handle 0).length) (hw : s.writeAllowed 5 c.handle r = true) (hf : c.func = 0)
    (hg : recN r 4 4 = s.gen 5 c.handle) (hp : s.pipePresent c.handle = true) (hfen : s.halfFenced (pipeHalf c.handle) = false)
    (hk : firstBad (s.slotChecks c.handle (recN r 16 4 / 256 % 128) (recWords r 280 (min (recN r 16 4 / 256 % 128) 64))) = none) :
    opStateWrite c s = Res.ok (s.loadBank c.handle (recWords r 280 (min (recN r 16 4 / 256 % 128) 64))) := by
  have hmatch : ¬ (c.p 4 < 16 ∨ c.p 4 ≠ recN r 8 4 ∨ recN r 0 1 ≠ 5 ∨ recN r 2 2 ≠ c.handle ∨ 24 ≤ c.handle ∨
      c.p 4 ≠ (s.objectRecord 5 c.handle 0).length) := by
    simp only [not_or, not_not]
    exact ⟨by omega, hl, h0, h2, by omega, hsize⟩
  have howner : s.writeOwner c 5 c.handle = true := beq_iff_eq.mpr hf
  have hload : s.writeObject c 5 r = Res.ok (s.loadBank c.handle (recWords r 280 (min (recN r 16 4 / 256 % 128) 64))) := by
    unfold State.writeObject
    simp only [hp, hfen, hk, Bool.not_true, Bool.false_eq_true, if_false]
  unfold opStateWrite
  simp only [hc, show classHandles 5 = 24 from rfl, hd]
  rw [if_neg hmatch, hw, howner]
  simp [hg, hload]

/-- Settles O21: the refusals by the order of the checks, the slot table by `loadBank_facts`. -/
theorem stateWriteChecksItsRecord : Obligations.StateWriteChecksItsRecord := by
  unfold Obligations.StateWriteChecksItsRecord
  refine ⟨fun c s hr h => gives_refused (execStateWrite_eq c s) hr (stateWriteRule_bad (opStateWrite_undefined h)),
    fun c s hr h hd => gives_refused (execStateWrite_eq c s) hr (stateWriteRule_bad (opStateWrite_noData h hd)),
    fun c r s hr h hd hm => gives_refused (execStateWrite_eq c s) hr (stateWriteRule_bad (opStateWrite_mismatch h hd hm)),
    fun c r s hr _ hd hc hh h16 hl h0 h2 hsize hw hf hg hp hfen hk => ?_⟩
  obtain ⟨-, hn⟩ := slotChecks_count hk
  rw [Nat.min_eq_left hn] at hk
  have hop := opStateWrite_slotTable (s := begun c s) hd hc hh h16 hl h0 h2 hsize hw hf (by rw [hg, State.gen, State.gen, begun_gens]) hp hfen
    (by rw [Nat.min_eq_left hn]; exact hk)
  rw [Nat.min_eq_left hn] at hop ⊢
  generalize recN r 16 4 / 256 % 128 = n at hn hk hop ⊢
  have hlen := length_recWords r 280 n
  generalize recWords r 280 n = es at hk hop hlen ⊢
  obtain ⟨l1, l2, l3, l4⟩ := loadBank_facts (begun c s) c.handle (hlen.trans_le hn)
  generalize (begun c s).loadBank c.handle es = u at *
  have hrule : stateWriteRule c (begun c s) = Res.ok u (u.gen (c.p 0 % 256) c.handle) := by
    unfold stateWriteRule
    rw [hop]
    rfl
  refine gives_ok (execStateWrite_eq c s) hr hrule ⟨fun e he => ?_, ?_, ?_, fun x i hx hne => ?_⟩
  · rw [regN_settle _ _ _ (by simp), regN_answer _ _ _ _ _ _ _ (by simp [replyOnly]), l1 e he]
  · rw [fld_settle _ _ _ (by simp), fld_answer _ _ _ _ _ _ _ (by simp [replyOnly]), l2, hlen]
  · rw [settle_streams, answer_streams, l3, begun_streams]
  · rw [reg_settle _ _ _ hne, reg_answer _ _ _ _ _ _ _ (notMem_part hx (by simp [replyOnly])), l4 x i (notMem_part hx (by simp)),
      reg_begun _ _ _ _ (notMem_part hx (by simp [replyOnly]))]

end Sys2Proof.Machine
end

section
/-!
PROOFS. Two statements that fail where one command's answer lets another's reply go: SLOT_SWAP and REPAIR_LOG_READ (R67, R78, R191, R437,
R438, R473).
-/
namespace Sys2Proof.Machine

/-- What a command leaves, read by `p`; none where it gives no next state. -/
def readAfter {α : Type} (p : State → α) (i : Instr) (s : State) : Option α :=
  match exec i s with
  | .next t => some (p t)
  | _ => none

theorem readAfter_next {α : Type} (p : State → α) {i : Instr} {s t : State} (h : exec i s = .next t) : readAfter p i s = some (p t) := by
  rw [readAfter, h]

/-! ### SLOT_SWAP while a VOTE_SET with WAIT is due -/

/-- SLOT_SWAP of encoder pipe 0. -/
def swapPipe0 : Cmd := { opcode := 0x0601, tag := 1, params := [1] }

/-- VOTE_SET with WAIT that has withdrawn the vote on domain NET. -/
def netVoteOff : Cmd := { opcode := 0x0900, tag := 2, handle := 14, params := [2] }

/-- No grid runs, NET is ON with no vote left, and the VOTE_SET that withdrew the last one waits for it to be OFF. The completion queue is
enabled in host memory, and the link is down. The next bank of pipe 0 names stream 5, which codes on one pipe. -/
def netDue : State :=
  { (((State.reset.setFld CPLQ_CFG_EN 1).putN .SLT_NEXT 0x8005).setFld SLT_BANK_NEXT_COUNT 1).setFld PM_DOM_STS_STATE 2 14 with
    streams := [(5, { st := .configured, words := [0, 0, 0, 0, 1] })]
    cmd := { outstanding := [{ cmd := netVoteOff, stage := .started }] } }

/-- The vote that the swap places for stream 5 makes the domains move: the VOTE_SET is answered, and its reply is held. -/
theorem swapPipe0_holds_reply : readAfter (fun t => t.cmd.heldReplies.map Reply.tag) (.slotSwap swapPipe0) netDue = some [2] := by
  decide +kernel

/-- Refutes O26: with no grid running, the vote of the stream that a SLOT_SWAP names makes the domains move at once (R191, R437), which
answers a VOTE_SET with WAIT (R438); where its completion queue cannot be written, its reply joins the replies held. -/
theorem not_slotTablesLoadAndSwap : ¬ Obligations.SlotTablesLoadAndSwap := by
  unfold Obligations.SlotTablesLoadAndSwap
  rintro ⟨-, -, -, hswap, -⟩
  obtain ⟨t, hx, -, -, hheld, -⟩ := hswap swapPipe0 netDue (by decide) (by decide) (by decide) (by decide)
  have hread := readAfter_next (fun t => t.cmd.heldReplies.map Reply.tag) hx
  rw [swapPipe0_holds_reply, hheld] at hread
  exact absurd hread (by decide)

/-! ### REPAIR_LOG_READ before a command that waits with its result -/

/-- REPAIR_LOG_READ of an empty log to host address 0x1000, QUIET. -/
def quietLogRead : Cmd := { opcode := 0x0B03, tag := 1, quiet := true, params := [0x1000, 0, 16] }

/-- A NOP of two slots: it fails the header checks (R73, detail 0x00_F001). -/
def longNop : Cmd := { opcode := 0x0100, tag := 2, slots := 2 }

/-- The NOP was fetched after the REPAIR_LOG_READ, which has not started, and waits with its result for it (R78). The completion queue is
enabled, in device memory from address 0. -/
def nopWaits : State :=
  { (State.reset.setFld CPLQ_CFG_EN 1).setFld CPLQ_BASE_LOC 1 with
    cmd := { outstanding := [{ cmd := quietLogRead }, { cmd := longNop, stage := .started, result := some (0x11, 0x00F001, 0) }] } }

/-- The NOP completes with the REPAIR_LOG_READ: its reply, which begins with its tag, stands at the head of the ring. -/
theorem quietLogRead_writes_reply : readAfter (fun t => t.byte .device 0) (.repairLogRead quietLogRead) nopWaits = some 2 := by
  decide

/-- Refutes O30: a QUIET REPAIR_LOG_READ writes no reply of its own, but the command behind it completes with it (R78), and the reply of that
one is written beside the log's bytes. -/
theorem not_votesSparesAndMonitorsAreCommanded : ¬ Obligations.VotesSparesAndMonitorsAreCommanded := by
  unfold Obligations.VotesSparesAndMonitorsAreCommanded
  rintro ⟨-, -, -, -, -, -, hlog, -⟩
  obtain ⟨t, hx, -, ⟨hbytes, -⟩, -⟩ := hlog quietLogRead nopWaits (by decide) rfl rfl rfl (by decide)
  have hread := readAfter_next (fun t => t.byte .device 0) hx
  rw [quietLogRead_writes_reply, hbytes .device 0 (.inl (by decide))] at hread
  exact absurd hread (by decide)

end Sys2Proof.Machine
end

section
/-!
SUPPORT. The launched picture of a stream and what the steps of coding leave: of the picture, of the registers, of the memories.
-/
namespace Sys2Proof.Machine

/-! ### The launched picture of a stream -/

theorem encOf_launched {s : State} {h : Nat} {q : EncPic} (hq : s.encOf h = some q) : q.launched = true ∧ q.stream = h := by
  simpa using List.find?_some (p := fun q : EncPic => q.launched && q.stream == h) hq

@[simp] theorem encOf_settle (s : State) (h : Nat) : (settle s).encOf h = s.encOf h := rfl

@[simp] theorem encOf_reachRun (s : State) (n h : Nat) : (s.reachRun n).encOf h = s.encOf h := by simp only [State.encOf, reachRun_codec]

/-- A change of pictures that leaves each its stream, launched or not. -/
def KeepsStream (f : EncPic → EncPic) : Prop := ∀ q, (f q).launched = q.launched ∧ (f q).stream = q.stream

/-- The launched picture of a stream whose picture is changed is the changed one. -/
theorem encOf_onEnc_map (s : State) (h : Nat) {f : EncPic → EncPic} (hf : KeepsStream f) : (s.onEnc h f).encOf h = (s.encOf h).map f := by
  have hp : ((fun q : EncPic => q.launched && q.stream == h) ∘ fun q => if q.launched && q.stream == h then f q else q) =
      fun q => q.launched && q.stream == h := by
    funext q
    rw [Function.comp_apply]
    split
    next => rw [(hf q).1, (hf q).2]
    next => rfl
  unfold State.encOf State.onEnc
  dsimp only
  rw [List.find?_map, hp]
  refine Option.map_congr fun q hq => if_pos ?_
  exact List.find?_some (p := fun q : EncPic => q.launched && q.stream == h) hq

theorem encOf_onEnc_some {s : State} {h : Nat} {q : EncPic} {f : EncPic → EncPic} (hq : s.encOf h = some q) (hf : KeepsStream f) :
    (s.onEnc h f).encOf h = some (f q) := by
  rw [encOf_onEnc_map s h hf, hq, Option.map_some]

/-! ### Changes of a picture -/

/-- The plan of a band after one band's plan is changed. -/
theorem getElem?_onBand (q : EncPic) (k : Nat) (f : BandPlan → BandPlan) (j : Nat) :
    (q.onBand k f).bands[j]? = (q.bands[j]?).map fun b => if j = k then f b else b := by
  simp [EncPic.onBand, List.getElem?_map, List.getElem?_zipIdx, Option.map_map, Function.comp_def]

theorem mem_onPipe {q : EncPic} {p : Nat} {f : PipeWork → PipeWork} {v : PipeWork} :
    v ∈ (q.onPipe p f).pipes ↔ ∃ w ∈ q.pipes, (if w.pipe = p then f w else w) = v := List.mem_map

/-- The share of a pipe of the picture, once it is changed. -/
theorem exists_onPipe {q : EncPic} {p : Nat} {w : PipeWork} (hw : q.pipes.find? (fun w => w.pipe == p) = some w) (f : PipeWork → PipeWork) :
    w.pipe = p ∧ f w ∈ (q.onPipe p f).pipes := by
  have hp : w.pipe = p := by simpa using List.find?_some hw
  exact ⟨hp, mem_onPipe.mpr ⟨w, List.mem_of_find?_eq_some hw, if_pos hp⟩⟩

/-! ### What a step leaves of the picture -/

/-- The launched picture of a stream, as far as `p` reads it, is as it was. -/
def PicSame {α : Type} (p : EncPic → α) (h : Nat) (s t : State) : Prop := (t.encOf h).map p = (s.encOf h).map p

theorem PicSame.refl {α : Type} (p : EncPic → α) (h : Nat) (s : State) : PicSame p h s s := rfl

theorem PicSame.trans {α : Type} {p : EncPic → α} {h : Nat} {s t u : State} (a : PicSame p h s t) (b : PicSame p h t u) : PicSame p h s u :=
  Eq.trans b a

theorem picSame_of_codec {α : Type} (p : EncPic → α) (h : Nat) {s t : State} (hc : t.codec = s.codec) : PicSame p h s t := by
  rw [PicSame, State.encOf, hc, State.encOf]

theorem picSame_onEnc {α : Type} {p : EncPic → α} (h : Nat) (s : State) {f : EncPic → EncPic} (hf : KeepsStream f)
    (hp : ∀ q, p (f q) = p q) : PicSame p h s (s.onEnc h f) := by
  rw [PicSame, encOf_onEnc_map s h hf, Option.map_map]
  exact congrArg (Option.map · _) (funext hp)

theorem PicSame.some {α : Type} {p : EncPic → α} {h : Nat} {s t : State} {q : EncPic} (k : PicSame p h s t) (hq : s.encOf h = some q) :
    ∃ r, t.encOf h = some r ∧ p r = p q := by
  rw [PicSame, hq, Option.map_some, Option.map_eq_some_iff] at k
  exact k

/-! ### What a step leaves of the rest -/

/-- Only registers of a list, the pictures and time differ. -/
def Codes (rs : List Reg) (s t : State) : Prop :=
  t = { s with regs := t.regs, codec := t.codec, tb := t.tb } ∧ ∀ r i, r ∉ rs → t.reg r i = s.reg r i

theorem Codes.trans {rs : List Reg} {s t u : State} (h : Codes rs s t) (k : Codes rs t u) : Codes rs s u := by
  refine ⟨?_, fun r i hr => (k.2 r i hr).trans (h.2 r i hr)⟩
  have h1 := h.1
  have k1 := k.1
  rw [k1, h1]

theorem Touches.codes {rs : List Reg} {s t : State} (h : Touches rs s t) : Codes rs s t := by
  refine ⟨?_, h.2⟩
  have h1 := h.1
  rw [h1]

theorem codes_onEnc (rs : List Reg) (s : State) (h : Nat) (f : EncPic → EncPic) : Codes rs s (s.onEnc h f) := ⟨rfl, fun _ _ _ => rfl⟩

theorem codes_reachRun (rs : List Reg) (s : State) (n : Nat) : Codes rs s (s.reachRun n) :=
  ⟨by rw [reachRun_frame], fun r i _ => reg_reachRun s n r i⟩

theorem Codes.streams {rs : List Reg} {s t : State} (h : Codes rs s t) : t.streams = s.streams := by rw [h.1]

/-- What a coding step leaves once the outputs follow. -/
theorem Codes.settled {rs : List Reg} {s t : State} (h : Codes rs s t) :
    (settle t).streams = s.streams ∧ SameRegs rs s (settle t) ∧ SameMemory s (settle t) :=
  ⟨h.streams, fun r i hr hs => (reg_settle t r i hs).trans (h.2 r i hr), sameMemory_of_mems (by rw [settle_mem, h.1])
    (by rw [settle_hostMem, h.1]) (by rw [settle_spad, h.1])⟩

/-! ### Events -/

/-- An event that occurs shows in its register. -/
theorem flag_event_same (s : State) (f : Field) (i : Nat) (h : f.lo + f.width ≤ 64) (hw : 0 < f.width) (hs : f.reg ∉ sourceOnly) :
    (s.event f i).flag f i = true := by
  have h1 := flag_setFld_one s f i h hw
  unfold State.event
  split
  next he => exact he
  next =>
    dsimp only
    split
    · split
      · exact ((touches_raise (rs := sourceOnly) (s.setFld f 1 i) _ fun _ hr => hr).flag hs i).trans h1
      · exact h1
    · exact h1

end Sys2Proof.Machine
end

section
/-!
PROOFS. The scouts: a map that is delivered, a wait that expires, a unit that stops (R98, R102 to R104, R426).
-/
namespace Sys2Proof.Machine

/-! ### A map is delivered -/

/-- The target alone follows the scout. -/
theorem picSame_retarget {α : Type} {p : EncPic → α} (hp : ∀ q n, p { q with target := n } = p q) (h : Nat) (s : State) :
    PicSame p h s (s.retarget h) := by
  unfold State.retarget
  dsimp only
  split
  · exact PicSame.refl p h s
  · split
    · exact (picSame_onEnc (f := fun q => { q with target := s.pictureTarget (s.stream h) q }) h s (fun _ => ⟨rfl, rfl⟩)
        fun q => hp q _).trans (picSame_of_codec p h (putN_codec _ _ _ _))
    · exact PicSame.refl p h s

theorem codes_retarget {rs : List Reg} (s : State) (h : Nat) (hr : Reg.RC_S_TARGET ∈ rs) : Codes rs s (s.retarget h) := by
  unfold State.retarget
  dsimp only
  split
  · exact (Touches.refl rs s).codes
  · split
    · exact (codes_onEnc rs s h _).trans (touches_putN _ _ _ _ hr).codes
    · exact (Touches.refl rs s).codes

/-- The registers that the delivery of a map writes. -/
def deliveryRegs : List Reg := [.SCT_POS, .SCT_CUT_CNT, .SCT_EVT, .SCT_STS, .RC_S_TARGET, .IC_PEND, .IC_MERGE_CNT]

/-- The registers that a scene cut and the end of a unit's scouting write. -/
def scoutedRegs : List Reg := [.SCT_CUT_CNT, .SCT_EVT, .SCT_STS, .IC_PEND, .IC_MERGE_CNT]

/-- The picture in which no pipe of a scout unit waits any more. -/
def EncPic.wakeUnit (q : EncPic) (u now : Nat) : EncPic :=
  { q with pipes := q.pipes.map fun w => if w.pipe / 4 = u ∧ w.waiting then { w with waiting := false, due := max w.due (5 * now) } else w }

theorem wakeUnit_waits (q : EncPic) (u now : Nat) : (q.wakeUnit u now).pipes.all (fun w => w.pipe / 4 != u || !w.waiting) = true := by
  refine List.all_eq_true.mpr fun v hv => ?_
  obtain ⟨w, -, rfl⟩ := List.mem_map.mp hv
  split
  next => simp
  next hc => simpa [Classical.or_iff_not_imp_left] using hc

/-- A scene cut counts for each scout unit of a list. -/
theorem touches_countCuts (s : State) (l : List Nat) :
    Touches scoutedRegs s (l.foldl (fun t v => (t.bump .SCT_CUT_CNT 1 v).event SCT_EVT_CUT v) s) :=
  touches_foldl (fun t v => (touches_bump t _ 1 v (by simp [scoutedRegs])).trans
    (touches_event _ _ v (by simp [scoutedRegs]) (by simp [sourceOnly, scoutedRegs]))) l s

/-- A map that cannot be taken changes nothing. -/
theorem execScoutBandDelivered_again {u h k : Nat} {m : ScoutMap} {q : EncPic} {s : State} (hq : s.encOf h = some q)
    (hno : q.isRepeat = true ∨ s.flag SCT_STS_STOPPED u = true ∨ (q.bands[k]?).all (fun b => b.heard.testBit u) = true) :
    execScoutBandDelivered u h k m s = finish s := by
  unfold execScoutBandDelivered
  simp only [hq]
  rw [if_pos]
  rcases hno with hr | hs | hk
  · exact .inl hr
  · exact .inr (.inl hs)
  · refine .inr (.inr (.inr ?_))
    cases hb : q.bands[k]? with
    | none => rfl
    | some b => simpa [hb] using hk

/-- A map that is taken: its band has heard the unit, and for band 0 no pipe of the unit waits. -/
theorem execScoutBandDelivered_new {u h k : Nat} {m : ScoutMap} {q : EncPic} {s : State} (hq : s.encOf h = some q) (hr : q.isRepeat = false)
    (hst : s.flag SCT_STS_STOPPED u = false) (hu : q.scouts.testBit u = true)
    (hk : (q.bands[k]?).any (fun b => !b.heard.testBit u) = true) (hw : (word q.words 3).testBit 2 = false) :
    ∃ t r, execScoutBandDelivered u h k m s = finish t ∧ t.encOf h = some r ∧ (r.bands[k]?).any (fun b => b.heard.testBit u) = true ∧
      (k = 0 → r.pipes.all (fun w => w.pipe / 4 != u || !w.waiting) = true) ∧ t.fld SCT_POS_BAND u = k % 256 ∧ Codes deliveryRegs s t := by
  obtain ⟨hql, hqs⟩ := encOf_launched hq
  obtain ⟨b, hb, hbu⟩ : ∃ b, q.bands[k]? = some b ∧ b.heard.testBit u = false := by simpa [Option.any_eq_true] using hk
  generalize ht : execScoutBandDelivered u h k m s = out
  unfold execScoutBandDelivered at ht
  rw [hq] at ht
  dsimp -zeta only at ht
  extract_lets -underBinder again x pct q1 q2 cut q3 s1 s2 s3 g off at ht
  have ha : again = false := by
    unfold again
    rw [hb]
    exact hbu
  rw [if_neg (by rw [hr, hst, hu, ha]; decide), hw, if_neg Bool.false_ne_true] at ht
  have hheard : (q1.bands[k]?).any (fun b => b.heard.testBit u) = true := by
    unfold q1
    rw [getElem?_onBand, hb]
    dsimp only [Option.map_some, Option.any_some]
    rw [if_pos rfl, apply_ite BandPlan.heard, ite_self, Nat.testBit_or, Nat.testBit_two_pow_self, Bool.or_true]
  obtain ⟨hb2, hwake⟩ : q2.bands = q1.bands ∧ (k = 0 → q2.pipes.all (fun w => w.pipe / 4 != u || !w.waiting) = true) := by
    unfold q2
    split
    next => exact ⟨rfl, fun _ => wakeUnit_waits q1 u s.tb.run⟩
    next h0 => exact ⟨rfl, fun hk0 => absurd hk0 h0⟩
  obtain ⟨hb3, hp3, hl3⟩ : q3.bands = q2.bands ∧ q3.pipes = q2.pipes ∧ q3.launched = true ∧ q3.stream = h := by
    have hl : q2.launched = true ∧ q2.stream = h := by
      unfold q2
      split <;> exact ⟨hql, hqs⟩
    unfold q3
    split <;> exact ⟨rfl, rfl, hl⟩
  have ks2 : Touches scoutedRegs s1 s2 := by
    unfold s2
    split
    · exact touches_countCuts s1 _
    · exact Touches.refl _ _
  have ks3 : Touches scoutedRegs s1 s3 := by
    refine ks2.trans ?_
    unfold s3
    split
    · exact touches_setFld _ _ _ _ (by simp [scoutedRegs])
    · exact Touches.refl _ _
  have kc : Codes deliveryRegs s s1 := ((codes_onEnc _ s h _).trans (codes_retarget _ h (by simp [deliveryRegs]))).trans
    (touches_setFld _ _ _ _ (by simp [deliveryRegs])).codes
  have he : (s.onEnc h fun _ => q3).encOf h = some q3 := encOf_onEnc (fun _ => q3) hq fun _ => hl3
  obtain ⟨r, hrt, hrq⟩ := (picSame_retarget (p := fun q => (q.bands, q.pipes)) (fun _ _ => rfl) h _).some he
  obtain ⟨hrb, hrp⟩ := Prod.mk.inj hrq
  refine ⟨s3, r, ht.symm, ?_, ?_, fun hk0 => ?_, ?_, kc.trans (ks3.mono (by simp [scoutedRegs, deliveryRegs])).codes⟩
  · rw [State.encOf, ks3.codec]
    exact hrt
  · rw [hrb, hb3, hb2]
    exact hheard
  · rw [hrp, hp3]
    exact hwake hk0
  · rw [ks3.fld (by simp [scoutedRegs]) u]
    exact fld_setFld_same _ SCT_POS_BAND k u (by simp)

/-! ### Coded without scout data -/

/-- The picture knows that a band is coded without the data of a scout unit. -/
def EncPic.knowsLate (q : EncPic) (unit band : Nat) : Bool := (q.bands[band]?).any fun b => b.late.testBit unit

/-- The picture with a band that is coded without the data of a scout unit. -/
def EncPic.markLate (q : EncPic) (unit band : Nat) : EncPic :=
  { q.onBand band (fun b => { b with late := b.late ||| 2 ^ unit, cut := false }) with flags := q.flags ||| 128 }

theorem keepsStream_markLate (unit band : Nat) : KeepsStream fun q => q.markLate unit band := fun _ => ⟨rfl, rfl⟩

/-- Late data is marked in the picture, and counted where the picture did not know of it. -/
theorem scoutLate_eq {s : State} {h : Nat} {q : EncPic} (hq : s.encOf h = some q) (u k : Nat) :
    s.scoutLate h u k = if q.knowsLate u k then s.onEnc h fun q => q.markLate u k
      else ((s.onEnc h fun q => q.markLate u k).bump .SCT_LATE_CNT 1 u).event SCT_EVT_LATE u := by
  unfold State.scoutLate EncPic.knowsLate
  simp only [hq]
  cases q.bands[k]? <;> rfl

/-- The registers that late data writes. -/
def lateRegs : List Reg := [.SCT_LATE_CNT, .SCT_EVT, .IC_PEND, .IC_MERGE_CNT]

theorem touches_countLate (s : State) (u : Nat) : Touches lateRegs s ((s.bump .SCT_LATE_CNT 1 u).event SCT_EVT_LATE u) :=
  (touches_bump s .SCT_LATE_CNT 1 u (by simp [lateRegs])).trans (touches_event _ _ u (by simp [lateRegs]) (by simp [sourceOnly, lateRegs]))

/-- Late data that is counted. -/
theorem countLate_counts (s : State) (u : Nat) :
    ((s.bump .SCT_LATE_CNT 1 u).event SCT_EVT_LATE u).regN .SCT_LATE_CNT u = min 0xFFFFFFFF (s.regN .SCT_LATE_CNT u + 1) ∧
      ((s.bump .SCT_LATE_CNT 1 u).event SCT_EVT_LATE u).flag SCT_EVT_LATE u = true := by
  refine ⟨?_, flag_event_same _ _ _ (by simp) (by simp) (by simp [sourceOnly])⟩
  rw [(touches_event (rs := SCT_EVT_LATE.reg :: sourceOnly) _ SCT_EVT_LATE u (by simp) (by simp +contextual)).regN (by simp [sourceOnly]) u]
  exact regN_bump_same s .SCT_LATE_CNT 1 u

/-! ### A wait expires -/

/-- The picture with a pipe that waits no more for scout data, its next unit due at an instant. -/
def EncPic.endWait (q : EncPic) (p due : Nat) : EncPic := q.onPipe p fun w => { w with waiting := false, due := due }

theorem keepsStream_endWait (p due : Nat) : KeepsStream fun q => q.endWait p due := fun _ => ⟨rfl, rfl⟩

theorem endWait_waits (q : EncPic) (p due : Nat) : (q.endWait p due).pipes.all (fun v => v.pipe != p || !v.waiting) = true := by
  refine List.all_eq_true.mpr fun v hv => ?_
  obtain ⟨w, -, rfl⟩ := mem_onPipe.mp hv
  split
  next => simp
  next hc => simp [hc]

/-- A pipe whose wait expires codes band 0 without scout data, from an instant on. -/
theorem execScoutWaitExpiry_waiting {p : Nat} {q : EncPic} {w : PipeWork} {s : State} (hon : s.encOn p = some q)
    (hw : q.pipes.find? (fun w => w.pipe == p && w.waiting) = some w) :
    ∃ n due, execScoutWaitExpiry p s =
      finish (((s.reachRun n).onEnc q.stream fun q => q.endWait p due).scoutLate q.stream (p / 4) 0) := by
  unfold execScoutWaitExpiry
  simp only [hon, hw]
  exact ⟨_, _, rfl⟩

theorem execScoutWaitExpiry_none {p : Nat} {s : State} (hon : s.encOn p = none) : execScoutWaitExpiry p s = finish s := by
  unfold execScoutWaitExpiry
  rw [hon]

/-- The picture and the state between the end of a wait and the count of the late data. -/
theorem waitEnded_facts {q : EncPic} {s : State} (he : s.encOf q.stream = some q) (p n due : Nat) :
    (((s.reachRun n).onEnc q.stream fun q => q.endWait p due).encOf q.stream = some (q.endWait p due)) ∧
      (((s.reachRun n).onEnc q.stream fun q => q.endWait p due).onEnc q.stream fun q => q.markLate (p / 4) 0).encOf q.stream =
        some ((q.endWait p due).markLate (p / 4) 0) ∧
      ∀ rs, Codes rs s (((s.reachRun n).onEnc q.stream fun q => q.endWait p due).onEnc q.stream fun q => q.markLate (p / 4) 0) := by
  have h1 := encOf_onEnc_some ((encOf_reachRun s n q.stream).trans he) (keepsStream_endWait p due)
  exact ⟨h1, encOf_onEnc_some h1 (keepsStream_markLate _ _),
    fun rs => ((codes_reachRun rs s n).trans (codes_onEnc rs _ _ _)).trans (codes_onEnc rs _ _ _)⟩

/-- The picture once a wait has expired: its flags say so, and its pipe waits no more. -/
theorem endWait_markLate_says (q : EncPic) (p due u : Nat) :
    (((q.endWait p due).markLate u 0).flags.testBit 7 &&
      ((q.endWait p due).markLate u 0).pipes.all fun v => v.pipe != p || !v.waiting) = true := by
  rw [Bool.and_eq_true]
  refine ⟨?_, endWait_waits q p due⟩
  show (q.flags ||| 128).testBit 7 = true
  rw [Nat.testBit_or, show Nat.testBit 128 7 = true from rfl, Bool.or_true]

theorem endWait_knowsLate (q : EncPic) (p due u : Nat) :
    (q.endWait p due).knowsLate u 0 = (q.bands.head?).any fun b => b.late.testBit u := by
  rw [EncPic.knowsLate, List.head?_eq_getElem?]
  rfl

/-! ### A scout unit stops -/

/-- A scout unit that has stopped, before its fault is recorded. -/
def State.scoutStopped (s : State) (u : Nat) : State := ((s.setFld SCT_STS_STOPPED 1 u).setFld SCT_STS_BUSY 0 u).event SCT_EVT_STOP u

theorem execScoutStop_present {u : Nat} {s : State} (h4 : u < 4) (hp : s.clusterPresent u = true) :
    execScoutStop u s = finish ((s.scoutStopped u).record 7 u) := by
  unfold execScoutStop
  rw [if_neg (by simp [h4, hp])]
  rfl

theorem execScoutStop_absent {u : Nat} {s : State} (hp : s.clusterPresent u = false) : execScoutStop u s = finish s := by
  unfold execScoutStop
  rw [if_pos (by simp [hp])]

theorem scoutStopped_facts (s : State) (u : Nat) :
    (s.scoutStopped u).flag SCT_STS_STOPPED u = true ∧ (s.scoutStopped u).flag SCT_STS_BUSY u = false ∧
      (s.scoutStopped u).flag SCT_EVT_STOP u = true ∧ Touches (.SCT_STS :: .SCT_EVT :: sourceOnly) s (s.scoutStopped u) := by
  have ke := touches_event (rs := .SCT_EVT :: sourceOnly) ((s.setFld SCT_STS_STOPPED 1 u).setFld SCT_STS_BUSY 0 u) SCT_EVT_STOP u (by simp)
    fun _ h => List.mem_cons_of_mem _ h
  refine ⟨?_, ?_, flag_event_same _ _ _ (by simp) (by simp) (by simp [sourceOnly]), ?_⟩
  · rw [State.scoutStopped, ke.flag (by simp [sourceOnly]) u, flag_setFld_apart _ _ _ _ _ _ (by simp [Field.apart])]
    exact flag_setFld_one _ _ _ (by simp) (by simp)
  · rw [State.scoutStopped, ke.flag (by simp [sourceOnly]) u]
    exact flag_setFld_zero _ _ _ (by simp)
  · exact ((touches_setFld s _ 1 u (by simp)).trans (touches_setFld _ _ 0 u (by simp))).trans (ke.mono fun _ h => List.mem_cons_of_mem _ h)

/-- A scout unit that stopped, with FS7 recorded. -/
theorem scoutStopped_recorded (s : State) (u : Nat) : let t := settle ((s.scoutStopped u).record 7 u)
    t.flag SCT_STS_STOPPED u = true ∧ t.flag SCT_STS_BUSY u = false ∧ t.flag SCT_EVT_STOP u = true ∧ (t.regN .FC_STATUS).testBit 7 = true ∧
      OnlyRegs (.SCT_STS :: .SCT_EVT :: faultOnly) s t := by
  obtain ⟨h1, h2, h3, h4⟩ := scoutStopped_facts s u
  have kr := touches_record (rs := faultOnly) (s.scoutStopped u) 7 u false fun _ h => h
  refine ⟨?_, ?_, ?_, ?_, onlyRegs_of_touches ((h4.mono ?_).trans (kr.mono ?_))⟩
  · rw [flag_settle _ _ _ (by simp), kr.flag (f := SCT_STS_STOPPED) (by simp [faultOnly]) u, h1]
  · rw [flag_settle _ _ _ (by simp), kr.flag (f := SCT_STS_BUSY) (by simp [faultOnly]) u, h2]
  · rw [flag_settle _ _ _ (by simp), kr.flag (f := SCT_EVT_STOP) (by simp [faultOnly]) u, h3]
  · rw [regN_settle _ _ _ (by simp)]
    exact testBit_record _ u (by decide)
  · simp [sourceOnly, faultOnly]
  · simp [faultOnly]

end Sys2Proof.Machine
end

section
/-!
PROOFS. The time check: a unit that starts, a wait that is cut (R97, R127, R130, R131, R235).
-/
namespace Sys2Proof.Machine

/-! ### Floor coding a column -/

/-- The share of a pipe that is floor-coded from unit `u` on: no wait holds it any more. -/
def PipeWork.floorFromUnit (w : PipeWork) (u : Nat) : PipeWork := { w with floorFrom := some u, waiting := false }

/-- A column is past a unit, or that unit is a floor unit. -/
def PipeWork.settledAt (w : PipeWork) (u : Nat) : Bool := decide (w.units ≤ u) || w.floorFrom.any fun v => decide (v ≤ u)

theorem settledAt_floorFromUnit (w : PipeWork) (u : Nat) : (w.floorFromUnit u).settledAt u = true := by
  simp [PipeWork.settledAt, PipeWork.floorFromUnit]

/-- Floor coding a column changes the shares of its pipe, unless the column is past the unit or floor-coded there before. -/
theorem floorAt_pipes {q : EncPic} {p : Nat} {w : PipeWork} (g : Geo) (u : Nat) (hw : q.pipes.find? (fun w => w.pipe == p) = some w) :
    (q.floorAt g p u).pipes = if w.settledAt u then q.pipes else (q.onPipe p (·.floorFromUnit u)).pipes := by
  unfold EncPic.floorAt
  rw [hw]
  dsimp only
  generalize hb : (decide (w.units ≤ u) || _) = b
  obtain rfl : b = w.settledAt u := by
    rw [← hb, PipeWork.settledAt]
    cases w.floorFrom <;> rfl
  split <;> rfl

/-- Floor coding a column whose units are all normal, from one of them on. -/
theorem floorAt_pipes_normal {q : EncPic} {p u : Nat} {w : PipeWork} (g : Geo) (hw : q.pipes.find? (fun w => w.pipe == p) = some w)
    (hf : w.floorFrom = none) (hu : u < w.units) : (q.floorAt g p u).pipes = (q.onPipe p (·.floorFromUnit u)).pipes := by
  rw [floorAt_pipes g u hw, if_neg]
  simp [PipeWork.settledAt, hf, hu]

/-! ### A unit starts -/

/-- The shares of the pipes, the causes and time are as they were. -/
def KeepsUnits (h : Nat) (s t : State) : Prop := PicSame (fun q => (q.pipes, q.cause)) h s t ∧ t.tb = s.tb

theorem KeepsUnits.refl (h : Nat) (s : State) : KeepsUnits h s s := ⟨rfl, rfl⟩

theorem KeepsUnits.trans {h : Nat} {s t u : State} (a : KeepsUnits h s t) (b : KeepsUnits h t u) : KeepsUnits h s u :=
  ⟨a.1.trans b.1, b.2.trans a.2⟩

theorem keepsUnits_of_codec {h : Nat} {s t : State} (hc : t.codec = s.codec) (ht : t.tb = s.tb) : KeepsUnits h s t :=
  ⟨picSame_of_codec _ h hc, ht⟩

theorem Touches.keepsUnits {rs : List Reg} {h : Nat} {s t : State} (k : Touches rs s t) : KeepsUnits h s t := keepsUnits_of_codec k.codec k.tb

theorem keepsUnits_onEnc (h : Nat) (s : State) {f : EncPic → EncPic} (hf : KeepsStream f)
    (hp : ∀ q, ((f q).pipes, (f q).cause) = (q.pipes, q.cause)) :
    KeepsUnits h s (s.onEnc h f) := ⟨picSame_onEnc h s hf hp, rfl⟩

theorem keepsUnits_scoutLate (h : Nat) (s : State) (u k : Nat) : KeepsUnits h s (s.scoutLate h u k) := by
  unfold State.scoutLate
  extract_lets -underBinder known s1
  have k1 : KeepsUnits h s s1 := keepsUnits_onEnc h s (fun _ => ⟨rfl, rfl⟩) fun _ => rfl
  split
  · exact k1
  · exact k1.trans (touches_countLate s1 u).keepsUnits

theorem keepsUnits_onRs (h : Nat) (s : State) (r : Nat) (f : RsState → RsState) : KeepsUnits h s (s.onRs r f) := keepsUnits_of_codec rfl rfl

theorem keepsUnits_sendTo (h : Nat) (s : State) (dst type tick len : Nat) (payload : List Nat) :
    KeepsUnits h s (s.sendTo dst type tick len payload) := keepsUnits_of_codec rfl rfl

theorem keepsUnits_putN (h : Nat) (s : State) (r : Reg) (v i : Nat) : KeepsUnits h s (s.putN r v i) :=
  (touches_putN (rs := [r]) s r v i (by simp)).keepsUnits

theorem keepsUnits_showRs (h : Nat) (s : State) (r : Nat) : KeepsUnits h s (s.showRs r) :=
  (((keepsUnits_putN h s _ _ _).trans (keepsUnits_putN h _ _ _ _)).trans (keepsUnits_putN h _ _ _ _)).trans (keepsUnits_putN h _ _ _ _)

theorem keepsUnits_bankGrant (h : Nat) (s : State) (r pos seq bits : Nat) : KeepsUnits h s (s.bankGrant r pos seq bits).1 := by
  unfold State.bankGrant
  dsimp only
  have k := keepsUnits_onRs h s r fun x => { x with pool := x.pool - min bits (s.rs r).pool }
  split
  · exact k
  · exact k.trans (keepsUnits_sendTo h _ _ _ _ _ _)

/-- A band that starts plans its bits: no share of a pipe and no cause changes. -/
theorem keepsUnits_startBand (h : Nat) (s : State) (k : Nat) : KeepsUnits h s (s.startBand h k) := by
  unfold State.startBand
  split
  · exact KeepsUnits.refl h s
  next q _ =>
    dsimp -zeta only
    extract_lets -underBinder x g s1 id r need have_ want seq s2
    have k1 : KeepsUnits h s s1 := by
      unfold s1
      split
      · exact keepsUnits_onEnc h s (fun _ => ⟨rfl, rfl⟩) fun _ => rfl
      · exact (keepsUnits_onEnc (f := fun q => q.onBand k _) h s (fun _ => ⟨rfl, rfl⟩) fun _ => rfl).trans
          (touches_setFld (rs := [.RC_S_QP]) _ _ _ _ (by simp)).keepsUnits
    have k2 : KeepsUnits h s s2 := k1.trans (keepsUnits_onRs h s1 id _)
    split
    · exact k1
    · split
      · exact k1
      · split
        · have kg := k2.trans (keepsUnits_bankGrant h s2 id s.ringPos seq want)
          have ke := kg.trans (keepsUnits_onEnc (f := fun q => { q with cap := q.cap + (s2.bankGrant id s.ringPos seq want).2 }) h _
            (fun _ => ⟨rfl, rfl⟩) fun _ => rfl)
          exact ke.trans ((keepsUnits_onRs h _ id _).trans (keepsUnits_showRs h _ id))
        · split
          · exact k2.trans (keepsUnits_sendTo h s2 _ _ _ _ _)
          · exact k2

/-- A unit whose vectors reach no halo waits for none, and misses none. -/
theorem haloPending_none (s : State) (ws : List Nat) (n : Nat) : s.haloPending ws n 0 = false := by simp [State.haloPending]

theorem haloMissing_none (s : State) (ws : List Nat) (n : Nat) : s.haloMissing ws n 0 = false := by simp [State.haloMissing]

/-- The picture whose unit `u` of a pipe starts: floor-coded with the rest of its column when its time check fails. -/
def EncPic.unitStarted (q : EncPic) (g : Geo) (p u : Nat) (fails slowed : Bool) (now cost : Nat) : EncPic :=
  let q1 := if fails then { q.floorAt g p u with cause := q.cause ||| 2 } else q
  let q2 := if slowed then { q1 with cause := q1.cause ||| 16 } else q1
  q2.onPipe p fun w => { w with started := u + 1, due := max w.due (5 * now) + cost }

theorem keepsStream_unitStarted (g : Geo) (p u : Nat) (fails slowed : Bool) (now cost : Nat) :
    KeepsStream fun q => q.unitStarted g p u fails slowed now cost := fun q => by
  have hk := floorAt_keeps q g p u
  beta_reduce
  unfold EncPic.unitStarted
  generalize q.floorAt g p u = r at hk ⊢
  cases fails
  · cases slowed <;> exact ⟨rfl, rfl⟩
  · cases slowed <;> exact hk

/-- The unit has started. -/
theorem unitStarted_started {q : EncPic} {p : Nat} {w : PipeWork} (hw : q.pipes.find? (fun w => w.pipe == p) = some w) (g : Geo) (u : Nat)
    (fails slowed : Bool) (now cost : Nat) :
    (q.unitStarted g p u fails slowed now cost).pipes.any (fun v => v.pipe == p && v.started == u + 1) = true := by
  obtain ⟨v, hv, hp⟩ : ∃ v ∈ (if fails then q.floorAt g p u else q).pipes, v.pipe = p := by
    obtain ⟨hp, hv⟩ := exists_onPipe hw (·.floorFromUnit u)
    have hm := List.mem_of_find?_eq_some hw
    cases fails
    · exact ⟨w, hm, hp⟩
    · rw [if_pos rfl, floorAt_pipes g u hw]
      split
      · exact ⟨w, hm, hp⟩
      · exact ⟨_, hv, hp⟩
  refine List.any_eq_true.mpr ⟨_, mem_onPipe.mpr ⟨v, ?_, if_pos hp⟩, by simp [hp]⟩
  cases fails <;> cases slowed <;> exact hv

/-- A normal unit whose time check fails is a floor unit, with cause bit 1. -/
theorem unitStarted_floored {q : EncPic} {p u : Nat} {w : PipeWork} (hw : q.pipes.find? (fun w => w.pipe == p) = some w)
    (hf : w.floorFrom = none) (hu : u < w.units) (g : Geo) (slowed : Bool) (now cost : Nat) :
    ((q.unitStarted g p u true slowed now cost).cause.testBit 1 &&
      (q.unitStarted g p u true slowed now cost).pipes.any fun v => v.pipe == p && v.floorFrom == some u) = true := by
  obtain ⟨hp, hv⟩ := exists_onPipe hw (·.floorFromUnit u)
  rw [← floorAt_pipes_normal g hw hf hu] at hv
  rw [Bool.and_eq_true]
  constructor
  · cases slowed <;> simp [EncPic.unitStarted, EncPic.onPipe, show Nat.testBit 2 1 = true from rfl]
  · refine List.any_eq_true.mpr ⟨_, mem_onPipe.mpr ⟨w.floorFromUnit u, ?_, if_pos hp⟩, by simp [hp, PipeWork.floorFromUnit]⟩
    cases slowed <;> exact hv

theorem execCuStart_starts {p : Nat} {q : EncPic} {w : PipeWork} {s : State} (hon : s.encOn p = some q)
    (hw : q.pipes.find? (fun w => w.pipe == p) = some w) (h1 : w.stopped = false) (h2 : w.waiting = false) (h3 : w.started < w.units) :
    ∃ fails slowed now cost t, execCuStart p 0 false 0 s = finish t ∧
      (w.floorFrom = none → 5 * q.dueRun < 5 * (s.reachRun (ceilDiv w.due 5)).tb.run +
        s.timeNeed (s.stream q.stream) (encGeo (s.stream q.stream).codec (s.stream q.stream).words) (w.units - w.started - 1) → fails = true) ∧
      KeepsUnits q.stream ((s.reachRun (ceilDiv w.due 5)).onEnc q.stream fun r =>
        r.unitStarted (encGeo (s.stream q.stream).codec (s.stream q.stream).words) p w.started fails slowed now cost) t := by
  generalize ht : execCuStart p 0 false 0 s = out
  unfold execCuStart at ht
  rw [hon] at ht
  dsimp -zeta only at ht
  rw [hw] at ht
  dsimp -zeta only at ht
  extract_lets -underBinder x g u isFloor s1 firstOfBand fails s2 s3 s4 s5 s6 at ht
  rw [if_neg (by simp [h1, h2, h3]), haloPending_none, if_neg (by simp)] at ht
  have hs2 : s2 = s1.onEnc q.stream fun r =>
      r.unitStarted g p u fails (s1.slowedRegion (pipeRegion p)) s1.tb.run (s1.cycle p * if (isFloor || fails) = true then g.tf else g.t) := by
    refine congrArg (s1.onEnc q.stream) (funext fun r => ?_)
    rw [haloMissing_none, Bool.and_false]
    rfl
  have k5 : KeepsUnits q.stream s2 s5 := (touches_putN (rs := [.ENC_EP_POS]) s2 .ENC_EP_POS _ p (by simp)).keepsUnits
  have k6 : KeepsUnits q.stream s5 s6 := by
    unfold s6
    split
    · split
      · exact KeepsUnits.refl _ _
      · exact keepsUnits_startBand _ _ _
    · exact KeepsUnits.refl _ _
  refine ⟨fails, _, _, _, _, ht.symm, fun hf hlt => ?_, hs2 ▸ k5.trans ?_⟩
  · unfold fails isFloor
    rw [hf]
    exact decide_eq_true hlt
  · split
    · exact KeepsUnits.refl _ _
    · refine k6.trans ?_
      split
      · split
        · exact keepsUnits_scoutLate _ _ _ _
        · exact KeepsUnits.refl _ _
      · exact KeepsUnits.refl _ _

theorem execCuStart_idle {p l n : Nat} {f : Bool} {q : EncPic} {w : PipeWork} {s : State} (hon : s.encOn p = some q)
    (hw : q.pipes.find? (fun w => w.pipe == p) = some w) (hno : w.stopped = true ∨ w.waiting = true ∨ w.units ≤ w.started) :
    execCuStart p l f n s = finish s := by
  unfold execCuStart
  rw [hon]
  dsimp -zeta only
  rw [hw]
  exact congrArg finish (if_pos hno)

theorem execCuStart_none {p l n : Nat} {f : Bool} {s : State} (hon : s.encOn p = none) : execCuStart p l f n s = finish s := by
  unfold execCuStart
  rw [hon]

/-! ### A wait is cut -/

/-- The picture whose wait for scout data or a halo side is cut at unit `u` of a pipe. -/
def EncPic.waitCut (q : EncPic) (g : Geo) (p u left now : Nat) (halo : Bool) : EncPic :=
  let q1 := { q.floorAt g p u with cause := q.cause ||| 66 ||| (if halo then 32 else 0) }
  let q2 := if halo then { q1 with flags := q1.flags ||| 16, edge := q1.edge + left } else q1
  q2.onPipe p fun w => { w with due := max w.due (5 * now) }

theorem keepsStream_waitCut (g : Geo) (p u left now : Nat) (halo : Bool) : KeepsStream fun q => q.waitCut g p u left now halo := fun q => by
  have hk := floorAt_keeps q g p u
  beta_reduce
  unfold EncPic.waitCut
  generalize q.floorAt g p u = r at hk ⊢
  cases halo <;> exact hk

/-- The unit that waited and the rest of its column are floor units, and wait no more. -/
theorem waitCut_floored {q : EncPic} {p u : Nat} {w : PipeWork} (hw : q.pipes.find? (fun w => w.pipe == p) = some w) (hf : w.floorFrom = none)
    (hu : u < w.units) (g : Geo) (left now : Nat) (halo : Bool) :
    ((q.waitCut g p u left now halo).cause.testBit 1 && (q.waitCut g p u left now halo).cause.testBit 6 &&
      (q.waitCut g p u left now halo).pipes.any fun v => v.pipe == p && v.floorFrom == some u && !v.waiting) = true := by
  obtain ⟨hp, hv⟩ := exists_onPipe hw (·.floorFromUnit u)
  rw [← floorAt_pipes_normal g hw hf hu] at hv
  rw [Bool.and_eq_true, Bool.and_eq_true]
  refine ⟨⟨?_, ?_⟩, List.any_eq_true.mpr ⟨_, mem_onPipe.mpr ⟨w.floorFromUnit u, ?_, if_pos hp⟩, by simp [hp, PipeWork.floorFromUnit]⟩⟩
  · cases halo <;> simp [EncPic.waitCut, EncPic.onPipe, show Nat.testBit 66 1 = true from rfl]
  · cases halo <;> simp [EncPic.waitCut, EncPic.onPipe, show Nat.testBit 66 6 = true from rfl]
  · cases halo <;> exact hv

theorem execWaitCut_waiting {p : Nat} {q : EncPic} {w : PipeWork} {s : State} (hon : s.encOn p = some q)
    (hw : q.pipes.find? (fun w => w.pipe == p) = some w) (h1 : w.stopped = false) (h2 : w.waiting = true) (h3 : w.started < w.units)
    (hf : w.floorFrom = none) : ∃ n halo, execWaitCut p s = finish ((s.reachRun n).onEnc q.stream fun r =>
      r.waitCut (encGeo (s.stream q.stream).codec (s.stream q.stream).words) p w.started (w.units - w.started) (s.reachRun n).tb.run halo) := by
  unfold execWaitCut
  rw [hon]
  dsimp -zeta only
  rw [hw]
  exact ⟨_, _, congrArg finish (if_neg (by simp [h1, h2, h3, hf]))⟩

theorem execWaitCut_none {p : Nat} {s : State} (hon : s.encOn p = none) : execWaitCut p s = finish s := by
  unfold execWaitCut
  rw [hon]

/-! ### The statement -/

/-- Settles O33: the scouts by `execScoutBandDelivered_new` and `scoutLate_eq`, the time check by `execCuStart_starts` and `waitCut_floored`. -/
theorem scoutsAndUnitsAreTimed : Obligations.ScoutsAndUnitsAreTimed := by
  unfold Obligations.ScoutsAndUnitsAreTimed
  refine ⟨fun u h k m q s hq hr hst hu hk h256 hw => ?_, fun u h k m q s hq hno => gives_unchanged (execScoutBandDelivered_again hq hno),
    fun p q w s hon he hw hl => ?_, fun p q w s hon he hw hl => ?_, fun p s hon => gives_unchanged (execScoutWaitExpiry_none hon),
    fun u s h4 hp => gives_finish (execScoutStop_present h4 hp) (scoutStopped_recorded s u), fun u s hp => gives_unchanged (execScoutStop_absent hp),
    fun p q w s hon he hw h1 h2 h3 => ?_, fun p q w s hon he hw h1 h2 h3 hf hlt => ?_,
    fun p l n f q w s hon hw hno => gives_unchanged (execCuStart_idle hon hw hno), fun p q w s hon he hw h1 h2 h3 hf => ?_,
    fun p s hon => ⟨gives_unchanged (execWaitCut_none hon), gives_unchanged (execCuStart_none hon)⟩⟩
  · obtain ⟨t, r, hx, htr, hb, hp, hpos, kc⟩ := execScoutBandDelivered_new (m := m) hq hr hst hu hk hw
    obtain ⟨hs, hregs, hm⟩ := kc.settled
    refine gives_finish hx ?_
    rw [encOf_settle, htr, fld_settle _ _ _ (by simp), hpos, Nat.mod_eq_of_lt h256]
    exact ⟨hb, hp, rfl, hs, hm, hregs⟩
  · obtain ⟨n, due, hx⟩ := execScoutWaitExpiry_waiting hon hw
    obtain ⟨e1, e2, kc⟩ := waitEnded_facts he p n due
    have hk : (q.endWait p due).knowsLate (p / 4) 0 = false := by
      rw [endWait_knowsLate]
      cases hb : q.bands.head? with
      | none => rfl
      | some b => simpa [hb] using hl
    rw [scoutLate_eq e1, hk, if_neg Bool.false_ne_true] at hx
    generalize State.onEnc _ _ (fun q => q.markLate (p / 4) 0) = u at e2 kc hx
    have kt := touches_countLate u (p / 4)
    obtain ⟨c1, c2⟩ := countLate_counts u (p / 4)
    obtain ⟨hs, hregs, hm⟩ := ((kc lateRegs).trans kt.codes).settled
    refine gives_finish hx ?_
    rw [encOf_settle, State.encOf, kt.codec, ← State.encOf, e2, regN_settle _ _ _ (by simp), c1, flag_settle _ _ _ (by simp), c2, State.regN,
      (kc []).2 _ _ List.not_mem_nil]
    exact ⟨endWait_markLate_says q p due (p / 4), rfl, rfl, hs, hm, hregs⟩
  · obtain ⟨n, due, hx⟩ := execScoutWaitExpiry_waiting hon hw
    obtain ⟨e1, e2, kc⟩ := waitEnded_facts he p n due
    rw [scoutLate_eq e1, endWait_knowsLate, hl, if_pos rfl] at hx
    obtain ⟨hs, hregs, hm⟩ := (kc []).settled
    refine gives_finish hx ?_
    rw [encOf_settle, e2]
    exact ⟨endWait_waits q p due, hs, hm, hregs⟩
  · obtain ⟨fails, slowed, now, cost, t, hx, -, kp, kt⟩ := execCuStart_starts hon hw h1 h2 h3
    obtain ⟨r, hr, hrq⟩ := kp.some (encOf_onEnc_some ((encOf_reachRun s _ _).trans he) (keepsStream_unitStarted _ _ _ _ _ _ _))
    obtain ⟨hrp, -⟩ := Prod.mk.inj hrq
    refine gives_finish hx ?_
    rw [encOf_settle, hr, settle_tb, kt, Option.any_some, hrp]
    exact ⟨unitStarted_started hw _ _ _ _ _ _, reachRun_run s _⟩
  · obtain ⟨fails, slowed, now, cost, t, hx, hfail, kp, -⟩ := execCuStart_starts hon hw h1 h2 h3
    obtain ⟨r, hr, hrq⟩ := kp.some (encOf_onEnc_some ((encOf_reachRun s _ _).trans he) (keepsStream_unitStarted _ _ _ _ _ _ _))
    obtain ⟨hrp, hrc⟩ := Prod.mk.inj hrq
    obtain rfl := hfail hf (by rw [reachRun_run]; exact hlt)
    refine gives_finish hx ?_
    rw [encOf_settle, hr, Option.any_some, hrp, hrc]
    exact unitStarted_floored hw hf h3 _ _ _ _
  · obtain ⟨n, halo, hx⟩ := execWaitCut_waiting hon hw h1 h2 h3 hf
    have e1 := encOf_onEnc_some ((encOf_reachRun s n _).trans he) (keepsStream_waitCut (encGeo (s.stream q.stream).codec (s.stream q.stream).words)
      p w.started (w.units - w.started) (s.reachRun n).tb.run halo)
    obtain ⟨hs, hregs, hm⟩ := ((codes_reachRun [] s n).trans (codes_onEnc [] _ q.stream fun r => r.waitCut
      (encGeo (s.stream q.stream).codec (s.stream q.stream).words) p w.started (w.units - w.started) (s.reachRun n).tb.run halo)).settled
    refine gives_finish hx ?_
    rw [encOf_settle, e1]
    exact ⟨waitCut_floored hw hf h3 _ _ _ _, hs, hregs, hm⟩

end Sys2Proof.Machine
end

section
/-!
PROOFS. The bit check, the hand-off, the seam filter and the release of row bands (R98, R99, R101, R128, R135, R136, R153).
-/
namespace Sys2Proof.Machine

theorem onEnc_self (s : State) (h : Nat) : (s.onEnc h fun q => q) = s := by simp [State.onEnc]

/-! ### The bit check -/

/-- The picture whose next unit of a pipe passes the bit check: its bound is owed. -/
def EncPic.passUnit (q : EncPic) (p u : Nat) : EncPic :=
  { q.onPipe p (fun w => { w with past := w.past + 1 }) with
    owed := q.owed ++ [(p, u)], unitsLeft := q.unitsLeft - 1, passed := decide (q.unitsLeft ≤ 1) }

/-- The picture whose units not past stage 3 are floor units. -/
def EncPic.floorRest (q : EncPic) (g : Geo) : EncPic :=
  { q.pipes.foldl (fun q w => q.floorAt g w.pipe w.past) q with cause := q.cause ||| 1, passed := true }

theorem execCuBitCheck_normal {p u : Nat} {q : EncPic} {w : PipeWork} {s : State} (hon : s.encOn p = some q)
    (hw : q.pipes.find? (fun w => w.pipe == p) = some w) (h1 : w.stopped = false) (h2 : w.past < w.started) (hf : w.floorFrom = none) :
    execCuBitCheck p u false s = finish (
      if q.committed + u + q.reserve (encGeo (s.stream q.stream).codec (s.stream q.stream).words) (q.unitsLeft - 1) ≤ q.cap then
        s.onEnc q.stream fun r => r.passUnit p u
      else s.onEnc q.stream fun r => r.floorRest (encGeo (s.stream q.stream).codec (s.stream q.stream).words)) := by
  unfold execCuBitCheck
  rw [hon]
  dsimp -zeta only
  rw [hw]
  refine congrArg finish ((if_neg (by simp [h1, h2, hf])).trans ?_)
  extract_lets s0 s1
  have hs : s1 = s := onEnc_self s q.stream
  rw [hs]
  rfl

theorem keepsStream_passUnit (p u : Nat) : KeepsStream fun q => q.passUnit p u := fun _ => ⟨rfl, rfl⟩

theorem passUnit_says {q : EncPic} {p : Nat} {w : PipeWork} (hw : q.pipes.find? (fun w => w.pipe == p) = some w) (u : Nat) :
    (decide ((q.passUnit p u).owed = q.owed ++ [(p, u)]) && decide ((q.passUnit p u).unitsLeft = q.unitsLeft - 1) &&
      decide ((q.passUnit p u).committed = q.committed + u) &&
      (q.passUnit p u).pipes.any fun v => v.pipe == p && v.past == w.past + 1) = true := by
  obtain ⟨hp, hv⟩ := exists_onPipe hw fun w => { w with past := w.past + 1 }
  have hc : (q.passUnit p u).committed = q.committed + u := by
    simp only [EncPic.passUnit, EncPic.committed, EncPic.onPipe, List.map_append, List.sum_append, List.map_cons, List.map_nil, List.sum_singleton]
    omega
  simp only [Bool.and_eq_true, decide_eq_true_eq, List.any_eq_true]
  exact ⟨⟨⟨rfl, rfl⟩, hc⟩, _, hv, by simp [hp]⟩

/-- A share of a pipe whose column is floor-coded from unit `u` on, unless it is past that unit or floor-coded there before. -/
def PipeWork.floorAt (w : PipeWork) (u : Nat) : PipeWork := if w.settledAt u then w else w.floorFromUnit u

theorem floorAt_settledAt (w : PipeWork) (u : Nat) : (w.floorAt u).settledAt u = true := by
  unfold PipeWork.floorAt
  split
  next h => exact h
  next => exact settledAt_floorFromUnit w u

theorem pipe_floorAt (w : PipeWork) (u : Nat) : (w.floorAt u).pipe = w.pipe := by
  unfold PipeWork.floorAt
  split <;> rfl

theorem past_floorAt (w : PipeWork) (u : Nat) : (w.floorAt u).past = w.past := by
  unfold PipeWork.floorAt
  split <;> rfl

/-- Floor coding the column of a pipe that has one share changes that share alone. -/
theorem floorAt_pipes_nodup {q : EncPic} (g : Geo) (p u : Nat) (hn : (q.pipes.map (·.pipe)).Nodup) :
    (q.floorAt g p u).pipes = q.pipes.map fun w => if w.pipe = p then w.floorAt u else w := by
  cases hw : q.pipes.find? (fun w => w.pipe == p) with
  | none =>
    have hq : q.floorAt g p u = q := by
      unfold EncPic.floorAt
      rw [hw]
    have hno := List.find?_eq_none.mp hw
    rw [hq]
    refine (List.map_id' q.pipes).symm.trans (List.map_congr_left fun v hv => (if_neg ?_).symm)
    simpa using hno v hv
  | some w =>
    have hp : w.pipe = p := by simpa using List.find?_some hw
    have hu : ∀ v ∈ q.pipes, v.pipe = p → v = w := fun v hv hvp =>
      List.inj_on_of_nodup_map hn hv (List.mem_of_find?_eq_some hw) (hvp.trans hp.symm)
    have hshare : ∀ v ∈ q.pipes, (if v.pipe = p then v.floorAt u else v) =
        if w.settledAt u then v else if v.pipe = p then v.floorFromUnit u else v := fun v hv => by
      by_cases hvp : v.pipe = p
      · rw [if_pos hvp, if_pos hvp, hu v hv hvp, PipeWork.floorAt]
      · rw [if_neg hvp, if_neg hvp, ite_self]
    rw [floorAt_pipes g u hw, List.map_congr_left hshare]
    cases w.settledAt u
    · rfl
    · exact (List.map_id' q.pipes).symm

/-- Floor coding the columns of a list of shares, each from its first unit not past stage 3, settles every column that is in the list or was
settled before. -/
theorem foldl_floorAt_settles (g : Geo) (l : List PipeWork) (q : EncPic) (hn : (q.pipes.map (·.pipe)).Nodup)
    (hpast : ∀ a ∈ l, ∀ v ∈ q.pipes, v.pipe = a.pipe → v.past = a.past)
    (hall : ∀ v ∈ q.pipes, v.settledAt v.past = true ∨ ∃ a ∈ l, a.pipe = v.pipe) :
    ∀ v ∈ (l.foldl (fun q w => q.floorAt g w.pipe w.past) q).pipes, v.settledAt v.past = true := by
  induction l generalizing q with
  | nil => exact fun v hv => (hall v hv).resolve_right (by simp)
  | cons a l ih =>
    have hpipes := floorAt_pipes_nodup g a.pipe a.past hn
    have hstep : ∀ v ∈ (q.floorAt g a.pipe a.past).pipes, ∃ w ∈ q.pipes, v.pipe = w.pipe ∧ v.past = w.past ∧
        (w.pipe = a.pipe → v.settledAt v.past = true) ∧ (w.pipe ≠ a.pipe → v = w) := by
      intro v hv
      rw [hpipes] at hv
      obtain ⟨w, hw, rfl⟩ := List.mem_map.mp hv
      refine ⟨w, hw, ?_⟩
      split
      next hp =>
        have hs := floorAt_settledAt w a.past
        rw [← hpast a List.mem_cons_self w hw hp] at hs ⊢
        exact ⟨pipe_floorAt w _, past_floorAt w _, fun _ => by rw [past_floorAt]; exact hs, fun hne => absurd hp hne⟩
      next hp => exact ⟨rfl, rfl, fun he => absurd he hp, fun _ => rfl⟩
    refine ih (q.floorAt g a.pipe a.past) ?_ (fun b hb v hv hvb => ?_) fun v hv => ?_
    · rw [hpipes, List.map_map]
      refine (congrArg List.Nodup (List.map_congr_left fun w _ => ?_)).mpr hn
      rw [Function.comp_apply]
      split
      · exact pipe_floorAt w _
      · rfl
    · obtain ⟨w, hw, hvp, hvu, -⟩ := hstep v hv
      exact hvu.trans (hpast b (List.mem_cons_of_mem _ hb) w hw (hvp.symm.trans hvb))
    · obtain ⟨w, hw, hvp, -, hin, hout⟩ := hstep v hv
      by_cases hp : w.pipe = a.pipe
      · exact .inl (hin hp)
      · rw [hout hp]
        refine (hall w hw).imp_right fun ⟨b, hb, hbw⟩ => ⟨b, ?_, hbw⟩
        exact (List.mem_cons.mp hb).resolve_left fun hba => hp (hba ▸ hbw.symm)

theorem keepsStream_floorRest (g : Geo) : KeepsStream fun q => q.floorRest g := fun _ =>
  ⟨foldl_keeps EncPic.launched (fun p _ => (floorAt_keeps p g _ _).1) _ _, foldl_keeps EncPic.stream (fun p _ => (floorAt_keeps p g _ _).2) _ _⟩

/-- Cause bit 0 is set, and every unit of the picture not past stage 3 is a floor unit. -/
theorem floorRest_says {q : EncPic} (g : Geo) (hn : (q.pipes.map (·.pipe)).Nodup) :
    ((q.floorRest g).cause.testBit 0 && (q.floorRest g).passed && (q.floorRest g).pipes.all fun v => v.settledAt v.past) = true := by
  have hc : (q.cause ||| 1).testBit 0 = true := by rw [Nat.testBit_or, show Nat.testBit 1 0 = true from rfl, Bool.or_true]
  simp only [Bool.and_eq_true, List.all_eq_true]
  exact ⟨⟨hc, rfl⟩, foldl_floorAt_settles g q.pipes q hn (fun a ha v hv hva => by rw [List.inj_on_of_nodup_map hn hv ha hva])
    fun v hv => .inr ⟨v, hv, rfl⟩⟩

/-! ### The hand-off -/

/-- The picture that hands off unit `u` of a pipe, of band `k`, which passed the bit check, with `n` bits. -/
def EncPic.handOff (q : EncPic) (p u k n : Nat) (bytes : List (BitVec 8)) : EncPic :=
  { (q.onPipe p fun w => { w with handed := u + 1 }).onBand k fun b =>
      { b with bits := b.bits + n, normalBits := b.normalBits + n, bytes := b.bytes ++ bytes } with
    produced := q.produced + n, owed := dropOwed p q.owed }

theorem keepsStream_handOff (p u k n : Nat) (bytes : List (BitVec 8)) : KeepsStream fun q => q.handOff p u k n bytes := fun _ => ⟨rfl, rfl⟩

/-- The picture of no ring has no strips for other members. -/
theorem seamUnits_alone {s : State} {h : Nat} (hr : isRing (s.stream h).words = false) : s.seamUnits h = s := by
  unfold State.seamUnits State.seamStep
  split
  · rfl
  · dsimp only
    rw [if_pos (by simp [hr])]

theorem execCuHandoff_passed {p n b : Nat} {bs : List Byte} {q : EncPic} {w : PipeWork} {s : State} (hon : s.encOn p = some q)
    (hw : q.pipes.find? (fun w => w.pipe == p) = some w) (h1 : w.stopped = false) (h2 : w.handed < w.past) (h3 : w.past ≤ w.started)
    (hf : w.floorFrom = none) (ho : q.owed.find? (fun e => e.1 == p) = some (p, b)) (hr : isRing (s.stream q.stream).words = false) :
    ∃ k, execCuHandoff p bs n s = finish (s.onEnc q.stream fun r => r.handOff p w.handed k (min n b) bs) := by
  generalize ht : execCuHandoff p bs n s = out
  unfold execCuHandoff at ht
  rw [hon] at ht
  dsimp -zeta only at ht
  rw [hw] at ht
  dsimp -zeta only at ht
  extract_lets -underBinder x g u isFloor m at ht
  have hfl : isFloor = false := by
    unfold isFloor
    rw [hf]
  have hm : m = min n b := by
    unfold m
    rw [hfl, if_neg Bool.false_ne_true, ho]
    rfl
  rw [hfl, hm, if_neg (by simp [h1, h2, show w.handed < w.started by omega, u]), seamUnits_alone (s := s.onEnc q.stream _) hr] at ht
  exact ⟨_, ht.symm⟩

theorem handOff_says {q : EncPic} {p : Nat} {w : PipeWork} (hw : q.pipes.find? (fun w => w.pipe == p) = some w) (u k n : Nat)
    (bs : List (BitVec 8)) :
    (decide ((q.handOff p u k n bs).produced = q.produced + n) && decide ((q.handOff p u k n bs).unitsLeft = q.unitsLeft) &&
      (q.handOff p u k n bs).pipes.any fun v => v.pipe == p && v.handed == u + 1) = true := by
  obtain ⟨hp, hv⟩ := exists_onPipe hw fun w => { w with handed := u + 1 }
  simp only [Bool.and_eq_true, decide_eq_true_eq, List.any_eq_true]
  exact ⟨⟨rfl, rfl⟩, _, hv, by simp [hp]⟩

/-! ### The seam filter -/

/-- Whether strips of the pipes of a list are still to be filtered, as their clusters show it. -/
def State.showSeams (s : State) (l : List PipeWork) (busy : Bool) : State :=
  l.foldl (fun t w => t.setFlag ENC_CL_STS_SEAM_BUSY busy (w.pipe / 4)) s

theorem touches_showSeams (s : State) (l : List PipeWork) (busy : Bool) : Touches [.ENC_CL_STS] s (s.showSeams l busy) := by
  refine touches_foldl (fun t w => ?_) l s
  exact touches_setFlag t ENC_CL_STS_SEAM_BUSY busy (w.pipe / 4) (by simp)

theorem execSeamStripDone_ready {h : Nat} {q : EncPic} {s : State} (hq : s.encOf h = some q) (hs : q.seams < q.seamsReady) :
    execSeamStripDone h s = finish ((s.onEnc h fun r => { r with seams := r.seams + 1 }).showSeams (q.pipes.drop 1)
      (decide (q.seams + 1 < q.seamsReady))) := by
  unfold execSeamStripDone
  rw [hq]
  exact congrArg finish (if_pos hs)

theorem execSeamStripDone_waits {h : Nat} {q : EncPic} {s : State} (hq : s.encOf h = some q) (hs : q.seamsReady ≤ q.seams) :
    execSeamStripDone h s = finish s := by
  unfold execSeamStripDone
  rw [hq]
  exact congrArg finish (if_neg (Nat.not_lt.mpr hs))

/-! ### A band is released -/

/-- The pictures, host memory and time are as they were. -/
def KeepsCoding (s t : State) : Prop := t.codec = s.codec ∧ t.hostMem = s.hostMem ∧ t.tb = s.tb

theorem KeepsCoding.refl (s : State) : KeepsCoding s s := ⟨rfl, rfl, rfl⟩

theorem KeepsCoding.trans {s t u : State} (h : KeepsCoding s t) (k : KeepsCoding t u) : KeepsCoding s u :=
  ⟨k.1.trans h.1, k.2.1.trans h.2.1, k.2.2.trans h.2.2⟩

/-- A record takes its place in the ring of its stream. -/
theorem keepsCoding_ringPut (s : State) (h n : Nat) : KeepsCoding s (s.ringPut h n).2.2 := by
  unfold State.ringPut
  extract_lets x n wr size hit recs next ph leads flowOn lostSend rd lostRead x' s1 s2 s3 s4 s5
  have k1 : KeepsCoding s s1 := ⟨rfl, rfl, rfl⟩
  have k2 : KeepsCoding s1 s2 := by unfold s2; split <;> exact ⟨rfl, rfl, rfl⟩
  have k3 : KeepsCoding s2 s3 := by unfold s3; split <;> exact ⟨rfl, rfl, rfl⟩
  have k4 : KeepsCoding s3 s4 := by unfold s4; split <;> exact ⟨rfl, rfl, rfl⟩
  have k5 : KeepsCoding s4 s5 := by
    unfold s5
    split
    · split <;> exact ⟨rfl, rfl, rfl⟩
    · exact KeepsCoding.refl s4
  exact k1.trans (k2.trans (k3.trans (k4.trans k5)))

theorem keepsCoding_tookFree (s : State) (n : Nat) : KeepsCoding s (s.tookFree n) := ⟨rfl, rfl, rfl⟩

theorem keepsCoding_onStream (s : State) (h : Nat) (f : Stream → Stream) : KeepsCoding s (s.onStream h f) := ⟨rfl, rfl, rfl⟩

theorem keepsCoding_ringWrite (s : State) (h off : Nat) (bs : List Byte) : KeepsCoding s (s.ringWrite h off bs) := ⟨rfl, rfl, rfl⟩

/-- A band record goes to the ring of its stream, in device memory. -/
theorem keepsCoding_putRecord (s : State) (h tick band fl : Nat) (bs : List Byte) : KeepsCoding s (s.putRecord h tick band fl bs) := by
  have k := keepsCoding_ringPut s h bs.length
  unfold State.putRecord
  generalize s.ringPut h bs.length = z at k ⊢
  obtain ⟨off, ph, s1⟩ := z
  dsimp -zeta only
  extract_lets n pad s2
  have k2 : KeepsCoding s s2 := k.trans ((keepsCoding_ringWrite _ _ _ _).trans (keepsCoding_ringWrite _ _ _ _))
  split
  · exact k2.trans (keepsCoding_onStream s2 h _)
  · exact k2

theorem Touches.keepsCoding {rs : List Reg} {s t : State} (k : Touches rs s t) : KeepsCoding s t := ⟨k.codec, by rw [k.1], k.tb⟩

theorem keepsCoding_putN (s : State) (r : Reg) (v i : Nat) : KeepsCoding s (s.putN r v i) :=
  (touches_putN (rs := [r]) s r v i (by simp)).keepsCoding

theorem keepsCoding_showStream (s : State) (h : Nat) : KeepsCoding s (s.showStream h) := by
  unfold State.showStream
  extract_lets x r s1 s2
  have k1 : KeepsCoding s s1 := ((keepsCoding_putN s _ _ _).trans (keepsCoding_putN _ _ _ _)).trans (keepsCoding_putN _ _ _ _)
  have k2 : KeepsCoding s1 s2 := keepsCoding_putN s1 _ _ _
  split
  · exact KeepsCoding.refl s
  · exact (k1.trans k2).trans ((keepsCoding_putN s2 _ _ _).trans (keepsCoding_putN _ _ _ _))

/-- Changing one band's plan, its weight kept, keeps the weights of all. -/
theorem weights_onBand {q : EncPic} {k : Nat} {b b' : BandPlan} (hb : q.bands[k]? = some b) (hw : b'.weight = b.weight) :
    (q.onBand k fun _ => b').bands.map (·.weight) = q.bands.map (·.weight) := by
  refine List.ext_getElem? fun j => ?_
  rw [List.getElem?_map, getElem?_onBand, List.getElem?_map, Option.map_map]
  by_cases hj : j = k
  · subst hj
    simp [hb, hw]
  · simp [hj, Function.comp_def]

theorem execBandRelease_waits {h : Nat} {q : EncPic} {s : State} (hq : s.encOf h = some q)
    (hd : q.bandDone (encGeo (s.stream h).codec (s.stream h).words) q.released = false) : execBandRelease h s = finish s := by
  unfold execBandRelease
  rw [hq]
  dsimp only
  cases q.bands[q.released]? with
  | none => rfl
  | some b => exact congrArg finish (if_pos (by rw [hd]; rfl))

/-- A band whose columns are all handed off is released: one header less is left, and no weight changes. -/
theorem execBandRelease_releases {h : Nat} {q : EncPic} {s : State} (hq : s.encOf h = some q) (hk : q.released < q.bands.length)
    (hd : q.bandDone (encGeo (s.stream h).codec (s.stream h).words) q.released = true) (hr : isRing (s.stream h).words = false) :
    ∃ r t, execBandRelease h s = finish t ∧ t.encOf h = some r ∧ r.released = q.released + 1 ∧ q.produced ≤ r.produced ∧
      r.headersLeft = q.headersLeft - 1 ∧ r.bands.map (·.weight) = q.bands.map (·.weight) ∧ t.hostMem = s.hostMem ∧ t.tb = s.tb := by
  obtain ⟨b, hb⟩ : ∃ b, q.bands[q.released]? = some b := ⟨_, List.getElem?_eq_getElem hk⟩
  generalize ht : execBandRelease h s = out
  unfold execBandRelease at ht
  rw [hq] at ht
  dsimp -zeta only at ht
  extract_lets -underBinder x g k at ht
  rw [show q.bands[k]? = some b from hb] at ht
  dsimp -zeta only at ht
  extract_lets -underBinder last nh s0 more filler nhead head s1 fill s2 payload b1 _ q1 s3 s4 at ht
  rw [if_neg (by rw [hd]; decide)] at ht
  obtain ⟨hc2, hh2, ht2⟩ : KeepsCoding s s2 := (((keepsCoding_tookFree s 1).trans (keepsCoding_tookFree s0 nhead)).trans
    (keepsCoding_tookFree s1 (filler / 8))).trans (keepsCoding_onStream _ h _)
  obtain ⟨hl, hs⟩ := encOf_launched hq
  have he : s3.encOf h = some q1 := encOf_onEnc (fun _ => q1) (by rw [State.encOf, hc2]; exact hq) fun _ => ⟨hl, hs⟩
  obtain ⟨hc4, hh4, ht4⟩ : KeepsCoding s3 (s4.showStream h) := by
    refine KeepsCoding.trans ?_ (keepsCoding_showStream s4 h)
    unfold s4
    rw [if_neg (by rw [hr]; decide)]
    exact keepsCoding_putRecord _ _ _ _ _ _
  refine ⟨q1, s4.showStream h, ht.symm, ?_, rfl, ?_, rfl, weights_onBand hb rfl, hh4.trans hh2, ht4.trans ht2⟩
  · rw [State.encOf, hc4]
    exact he
  · exact (Nat.le_add_right _ more).trans (Nat.le_add_right _ filler)

/-! ### The statement -/

/-- Settles O34: the bit check by `passUnit_says` and `floorRest_says`, the hand-off by `handOff_says`, the rest by what a strip and a band
that are done leave. -/
theorem bitsAreCheckedAndHandedOff : Obligations.BitsAreCheckedAndHandedOff := by
  unfold Obligations.BitsAreCheckedAndHandedOff
  refine ⟨fun p u q w s hon he hw h1 h2 hf hfit => ?_, fun p u q w s hon he hw h1 h2 hf hn hover => ?_,
    fun p n b bs q w s hon he hw h1 h2 h3 hf ho hr => ?_, fun h q s hq hs => ?_,
    fun h q s hq hs => gives_unchanged (execSeamStripDone_waits hq hs), fun h q s hq hk hd hr => ?_,
    fun h q s hq hd => gives_unchanged (execBandRelease_waits hq hd)⟩
  · have hx := execCuBitCheck_normal (u := u) hon hw h1 h2 hf
    rw [if_pos hfit] at hx
    obtain ⟨hs, hregs, hm⟩ := (codes_onEnc [] s q.stream fun r => r.passUnit p u).settled
    refine gives_finish hx ?_
    rw [encOf_settle, encOf_onEnc_some he (keepsStream_passUnit p u)]
    exact ⟨passUnit_says hw u, hs, hregs, hm⟩
  · have hx := execCuBitCheck_normal (u := u) hon hw h1 h2 hf
    rw [if_neg (Nat.not_le.mpr hover)] at hx
    obtain ⟨hs, hregs, hm⟩ := (codes_onEnc [] s q.stream fun r =>
      r.floorRest (encGeo (s.stream q.stream).codec (s.stream q.stream).words)).settled
    refine gives_finish hx ?_
    rw [encOf_settle, encOf_onEnc_some he (keepsStream_floorRest _)]
    exact ⟨floorRest_says _ hn, hs, hregs, hm⟩
  · obtain ⟨k, hx⟩ := execCuHandoff_passed (n := n) (bs := bs) hon hw h1 h2 h3 hf ho hr
    obtain ⟨hs, hregs, hm⟩ := (codes_onEnc [] s q.stream fun r => r.handOff p w.handed k (min n b) bs).settled
    refine gives_finish hx ?_
    rw [encOf_settle, encOf_onEnc_some he (keepsStream_handOff _ _ _ _ _)]
    exact ⟨handOff_says hw _ _ _ _, hs, hregs, hm⟩
  · have kt := touches_showSeams (s.onEnc h fun r => { r with seams := r.seams + 1 }) (q.pipes.drop 1) (decide (q.seams + 1 < q.seamsReady))
    obtain ⟨hs', hregs, hm⟩ := ((codes_onEnc _ s h _).trans kt.codes).settled
    refine gives_finish (execSeamStripDone_ready hq hs) ?_
    rw [encOf_settle, State.encOf, kt.codec]
    exact ⟨encOf_onEnc_some (f := fun r => { r with seams := r.seams + 1 }) hq fun _ => ⟨rfl, rfl⟩, hs', hregs, hm⟩
  · obtain ⟨r, t, hx, hr, h1, h2, h3, h4, hh, ht⟩ := execBandRelease_releases hq hk hd hr
    refine gives_finish hx ⟨?_, hh, ht⟩
    rw [encOf_settle, hr]
    simp [h1, h2, h3, h4]

end Sys2Proof.Machine
end

section
/-!
SUPPORT. The launched decode picture of a stream, a pipe that decodes it, and what the steps of decoding leave.
-/
namespace Sys2Proof.Machine

/-! ### The launched decode picture of a stream -/

/-- The first of a list with a property, once those that have it are changed and keep it. -/
theorem find?_map_ite {α : Type} {p : α → Bool} {f : α → α} (hf : ∀ a, p (f a) = p a) (l : List α) :
    (l.map fun a => if p a then f a else a).find? p = (l.find? p).map f := by
  have hp : (p ∘ fun a => if p a then f a else a) = p := by
    funext a
    rw [Function.comp_apply]
    split
    · exact hf a
    · rfl
  rw [List.find?_map, hp]
  exact Option.map_congr fun a ha => if_pos (List.find?_some ha)

@[simp] theorem decOf_settle (s : State) (h : Nat) : (settle s).decOf h = s.decOf h := rfl

@[simp] theorem decOf_reachRun (s : State) (n h : Nat) : (s.reachRun n).decOf h = s.decOf h := by simp only [State.decOf, reachRun_codec]

theorem Touches.decOf {rs : List Reg} {s t : State} (k : Touches rs s t) (h : Nat) : t.decOf h = s.decOf h := by
  rw [State.decOf, k.codec, State.decOf]

/-- A change of decode pictures that leaves each its stream, launched or not. -/
def KeepsDecStream (f : DecPic → DecPic) : Prop := ∀ q, (f q).launched = q.launched ∧ (f q).stream = q.stream

/-- The launched picture of a stream whose picture is changed is the changed one. -/
theorem decOf_onDec {s : State} {h : Nat} {q : DecPic} {f : DecPic → DecPic} (hq : s.decOf h = some q) (hf : KeepsDecStream f) :
    (s.onDec h f).decOf h = some (f q) := by
  refine (find?_map_ite (p := fun q : DecPic => q.launched && q.stream == h) (fun r => ?_) s.codec.dec).trans (congrArg (Option.map f) hq)
  obtain ⟨hl, hs⟩ := hf r
  rw [hl, hs]

theorem codes_onDec (rs : List Reg) (s : State) (h : Nat) (f : DecPic → DecPic) : Codes rs s (s.onDec h f) := ⟨rfl, fun _ _ _ => rfl⟩

theorem Codes.mono {rs rs' : List Reg} {s t : State} (k : Codes rs s t) (hs : ∀ r ∈ rs, r ∈ rs') : Codes rs' s t :=
  ⟨k.1, fun r i hr => k.2 r i (mt (hs r) hr)⟩

theorem Codes.regN {rs : List Reg} {s t : State} (k : Codes rs s t) {r : Reg} (hr : r ∉ rs) (i : Nat) : t.regN r i = s.regN r i := by
  simp only [State.regN, k.2 r i hr]

/-! ### The share of a pipe -/

theorem pipe_of_find {l : List PipeWork} {p : Nat} {w : PipeWork} (hw : l.find? (fun w => w.pipe == p) = some w) : w.pipe = p := by
  simpa using List.find?_some hw

/-- The share of a pipe of the picture, once it is changed. -/
theorem mem_onPipe_dec {q : DecPic} {p : Nat} {w : PipeWork} (hw : q.pipes.find? (fun w => w.pipe == p) = some w) (f : PipeWork → PipeWork) :
    f w ∈ (q.onPipe p f).pipes :=
  List.mem_map.mpr ⟨w, List.mem_of_find?_eq_some hw, if_pos (pipe_of_find hw)⟩

/-! ### A pipe at work -/

/-- Pipe `p` works with share `w` at the launched picture `q` of a stream outside rings: the pipe has not stopped, and the picture is neither
lost nor given up. -/
structure Decodes (p : Nat) (q : DecPic) (w : PipeWork) (s : State) : Prop where
  on : s.decOn p = some q
  pic : s.decOf q.stream = some q
  share : q.pipes.find? (fun w => w.pipe == p) = some w
  runs : w.stopped = false
  output : q.noOutput = false
  found : q.lost = false
  alone : isRing (s.stream q.stream).words = false

/-- A member of no ring sends no seam strips after a block. -/
theorem seamBlocks_alone {s : State} {h : Nat} (hr : isRing (s.stream h).words = false) : State.seamBlocks h s = s := by
  unfold State.seamBlocks State.seamStep
  split
  · rfl
  · dsimp only
    rw [if_pos (by simp [hr])]

section
variable {p : Nat} {q : DecPic} {w : PipeWork} {s : State} (k : Decodes p q w s)
include k

/-- The picture once the block that is due may start. -/
theorem Decodes.reached : (s.reachRun (ceilDiv w.due 5)).decOf q.stream = some q := (decOf_reachRun s _ _).trans k.pic

/-- A step of the pipe that writes registers, pictures and time alone; no seam strip follows it. -/
theorem Decodes.gives {i : Instr} {t : State} {rs : List Reg} {P : State → Prop} (hx : exec i s = finish (State.seamBlocks q.stream t))
    (hc : Codes rs s t) (hp : (settle t).streams = s.streams → SameRegs rs s (settle t) → SameMemory s (settle t) → P (settle t)) :
    Gives i s P := by
  rw [seamBlocks_alone (by rw [State.stream, hc.streams]; exact k.alone)] at hx
  obtain ⟨hs, hregs, hm⟩ := hc.settled
  exact gives_finish hx (hp hs hregs hm)

/-- The condition under which a pipe takes nothing from its front end does not hold. -/
theorem Decodes.active : ¬ (w.stopped = true ∨ q.noOutput = true ∨ q.lost = true) := by simp [k.runs, k.output, k.found]

theorem Decodes.execParamSet (ps : ParamSet) (f : List Nat) :
    exec (.decBlockStart p (.paramSet ps) f) s = finish (State.seamBlocks q.stream (s.paramSet q.stream ps)) := by
  show execDecBlockStart p (.paramSet ps) f s = _
  unfold execDecBlockStart
  simp only [k.on, k.share]
  rw [if_neg k.active]

theorem Decodes.execHeader (hp : q.parsed = false) (d : DecHeader) (f : List Nat) :
    exec (.decBlockStart p (.header d) f) s = finish (State.seamBlocks q.stream (s.headerParsed q.stream d)) := by
  show execDecBlockStart p (.header d) f s = _
  unfold execDecBlockStart
  simp only [k.on, k.share]
  rw [if_neg k.active, if_neg (by simp [hp])]

theorem Decodes.execNoHeader (hp : q.parsed = false) (f : List Nat) :
    exec (.decBlockStart p .noHeader f) s = finish (State.seamBlocks q.stream (s.loseWhole q)) := by
  show execDecBlockStart p .noHeader f s = _
  unfold execDecBlockStart
  simp only [k.on, k.share]
  rw [if_neg k.active, if_neg (by simp [hp])]

theorem Decodes.execDamaged (hp : q.parsed = true) (reason run : Nat) (f : List Nat) :
    exec (.decBlockStart p (.damaged reason run) f) s =
      finish (State.seamBlocks q.stream ((s.reachRun (ceilDiv w.due 5)).concealRun q p reason run (q.method f))) := by
  show execDecBlockStart p (.damaged reason run) f s = _
  unfold execDecBlockStart
  simp only [k.on, k.share]
  rw [if_neg k.active, if_pos hp]

section
variable (hp : q.parsed = true) (hn : w.started < w.units)
include hp hn

/-- A block of a parsed picture that fails the time check. -/
theorem Decodes.execGood_late (rs f : List Nat) (needs : Nat)
    (hl : (s.reachRun (ceilDiv w.due 5)).blockLate (s.stream q.stream) q (w.units - w.started - 1) = true) :
    exec (.decBlockStart p (.good rs needs) f) s = finish (State.seamBlocks q.stream ((s.reachRun (ceilDiv w.due 5)).timeOut q p f)) := by
  show execDecBlockStart p (.good rs needs) f s = _
  unfold execDecBlockStart
  simp only [k.on, k.share]
  rw [if_neg k.active, if_neg (by simp [hp]), if_neg (by omega), if_pos hl]

/-- A block of a parsed picture that meets the time check, reads no halo, and waits for no row. -/
theorem Decodes.execGood_inTime (rs f : List Nat) (hg : q.gates = [])
    (hl : (s.reachRun (ceilDiv w.due 5)).blockLate (s.stream q.stream) q (w.units - w.started - 1) = false) :
    exec (.decBlockStart p (.good rs 0) f) s = finish (State.seamBlocks q.stream ((s.reachRun (ceilDiv w.due 5)).goodBlock q w rs 0)) := by
  show execDecBlockStart p (.good rs 0) f s = _
  unfold execDecBlockStart
  simp only [k.on, k.share]
  rw [if_neg k.active, if_neg (by simp [hp]), if_neg (by omega), if_neg (by simp [hl]), if_neg (by simp [haloPending_none, State.rowPending, hg])]

end

end

end Sys2Proof.Machine
end

section
/-!
PROOFS. Parameter sets and the header: what they leave of the picture, of its stream and of its buffer (R168, R169, R171, R177, R181).
-/
namespace Sys2Proof.Machine

/-! ### Parameter sets -/

/-- The check of a parameter set for a stream outside rings, word by word of its configuration (R163, R168). -/
theorem paramSetValid_iff {x : Stream} (hr : isRing x.words = false) (ps : ParamSet) :
    paramSetValid ps x = true ↔ ps.inRange = true ∧ ps.zeros ≤ 31 ∧ ps.bytes ≤ 4096 ∧ ps.profile = true ∧ ps.chroma ≤ word x.words 1 % 4 ∧
      (ps.chroma = 2 → x.codec ≠ 3) ∧ ps.depth ≤ word x.words 1 / 4 % 4 ∧ ps.width ≤ word x.words 0 % 65536 ∧
      ps.height ≤ word x.words 0 / 65536 ∧ ps.buffers ≤ word x.words 5 % 64 - 1 := by
  simp only [paramSetValid, hr, cfg, natField, Nat.shiftRight_eq_div_pow, Bool.false_eq_true, if_false, Bool.and_eq_true, decide_eq_true_eq,
    Bool.not_eq_true', Bool.and_eq_false_iff, beq_eq_false_iff_ne]
  norm_num
  tauto

theorem stream_onStream_same (s : State) (h : Nat) (f : Stream → Stream) : (s.onStream h f).stream h = f (s.stream h) :=
  stream_setStream_same s h _

/-- A parameter set that is stored is listed, and the configuration stays. -/
theorem paramSet_stored {s : State} {h : Nat} {ps : ParamSet} (hv : paramSetValid ps (s.stream h) = true) :
    ps.id ∈ ((s.paramSet h ps).stream h).sets ∧ ((s.paramSet h ps).stream h).words = (s.stream h).words ∧
      s.paramSet h ps = { s with streams := (s.paramSet h ps).streams } := by
  have hst : s.paramSet h ps =
      s.onStream h fun y => { y with sets := if y.sets.contains ps.id then y.sets else y.sets ++ [ps.id] } := if_pos hv
  rw [hst, stream_onStream_same]
  refine ⟨?_, rfl, rfl⟩
  split
  next hm => simpa using hm
  next => simp

/-- A parameter set that is dropped sets PS_DROP and counts. -/
theorem paramSet_dropped {s : State} {h : Nat} {ps : ParamSet} (hv : paramSetValid ps (s.stream h) = false) :
    (s.paramSet h ps).fld DEC_S_ERR_PS_DROP h = 1 ∧ (s.paramSet h ps).regN .DEC_S_PS_CNT h = min 0xFFFFFFFF (s.regN .DEC_S_PS_CNT h + 1) ∧
      Touches [.DEC_S_ERR, .DEC_S_PS_CNT] s (s.paramSet h ps) := by
  have hst : s.paramSet h ps = (s.setFld DEC_S_ERR_PS_DROP 1 h).bump .DEC_S_PS_CNT 1 h := if_neg (by simp [hv])
  rw [hst]
  refine ⟨?_, ?_, (touches_setFld s _ 1 h (by simp)).trans (touches_bump _ _ 1 h (by simp))⟩
  · rw [(touches_bump (rs := [.DEC_S_PS_CNT]) (s.setFld DEC_S_ERR_PS_DROP 1 h) _ 1 h (by simp)).fld (by simp) h]
    exact fld_setFld_same s DEC_S_ERR_PS_DROP 1 h (by simp)
  · rw [regN_bump_same, (touches_setFld (rs := [.DEC_S_ERR]) s DEC_S_ERR_PS_DROP 1 h (by simp)).regN (by simp) h]

/-! ### The header -/

theorem keepsDecStream_withHeader (d : DecHeader) : KeepsDecStream fun q => q.withHeader d := fun _ => ⟨rfl, rfl⟩

/-- The header of a picture that has its buffer changes the picture alone. -/
theorem headerParsed_placed {s : State} {h : Nat} {q : DecPic} (hq : s.decOf h = some q) (hu : q.unplaced = false) (d : DecHeader) :
    (s.headerParsed h d).decOf h = some (q.withHeader d) ∧ Codes [] s (s.headerParsed h d) := by
  have hno : ¬ (s.decOf h).any DecPic.unplaced = true := by simp [hq, hu]
  have hst : s.headerParsed h d = s.onDec h fun q => q.withHeader d := by
    unfold State.headerParsed
    rw [if_neg hno]
  rw [hst]
  exact ⟨decOf_onDec hq (keepsDecStream_withHeader d), codes_onDec [] s h _⟩

/-- The picture as the second field of a pair, in the buffer of the first (R181). -/
def DecPic.asSecond (q : DecPic) (e : Nat) (known : List Nat) : DecPic := { q with unplaced := false, second := true, buf := some e, known := known }

theorem keepsDecStream_asSecond (e : Nat) (known : List Nat) : KeepsDecStream fun q => q.asSecond e known := fun _ => ⟨rfl, rfl⟩

/-- The second field of an open pair takes the buffer of the first, which is marked as being written. -/
theorem placeDec_second {s : State} {h e n : Nat} (ho : (s.stream h).openField = some (e, n)) (he : e ∈ (s.stream h).res.pool) :
    s.placeDec h true = ((s.onDec h fun q => q.asSecond e (s.knownOrders (s.stream h))).mark e mkCur 0).showPool h := by
  unfold State.placeDec DecPic.asSecond
  simp only [ho, Option.any_some, List.contains_eq_mem, he, decide_true, Bool.and_self, if_true, Option.map_some,
    Option.isNone_some, Bool.toNat_false, Nat.zero_mul, Nat.or_zero, Bool.or_false]

/-- The registers that a buffer's mark and the counts of the pool show in (R184, R185, R207). -/
def placeRegs : List Reg := [.FB_DESC_MARKS, .DEC_S_STS]

theorem touches_showPool (s : State) (h : Nat) : Touches [.DEC_S_STS] s (s.showPool h) := by
  unfold State.showPool
  dsimp only
  split
  · exact Touches.refl _ _
  · exact touches_putN s _ _ _ (by simp)

/-- Marks set and cleared write `FB_DESC_MARKS` alone. -/
theorem reg_mark (s : State) (d set clear : Nat) (r : Reg) (i : Nat) (hr : r ≠ .FB_DESC_MARKS) : (s.mark d set clear).reg r i = s.reg r i :=
  (touches_putN (rs := [.FB_DESC_MARKS]) s .FB_DESC_MARKS _ d (by simp)).2 r i (by simpa using hr)

/-- A buffer that is being written shows CUR. -/
theorem flag_mark_cur (s : State) (d : Nat) : (s.mark d mkCur 0).flag FB_DESC_MARKS_CUR d = true := by
  have hlt : (s.regN .FB_DESC_MARKS d ||| mkCur) &&& (0xFFF ^^^ 0) < 2 ^ 32 := lt_of_le_of_lt Nat.and_le_right (by simp)
  have hbit : ((s.regN .FB_DESC_MARKS d ||| mkCur) &&& (0xFFF ^^^ 0)).testBit 2 = true := by
    rw [Nat.testBit_and, Nat.testBit_or, show Nat.testBit mkCur 2 = true from rfl, Bool.or_true]
    rfl
  show (((s.putN FB_DESC_MARKS_CUR.reg _ d).fld FB_DESC_MARKS_CUR d) != 0) = true
  rw [fld_putN_same s FB_DESC_MARKS_CUR d hlt]
  rwa [Nat.testBit, Nat.and_comm, Nat.and_one_is_mod] at hbit

/-- A picture that becomes the second field of a pair: the picture, the mark of its buffer, and the rest. -/
theorem placeDec_second_facts {s : State} {h e n : Nat} {q : DecPic} (hq : s.decOf h = some q) (ho : (s.stream h).openField = some (e, n))
    (he : e ∈ (s.stream h).res.pool) :
    (s.placeDec h true).decOf h = some (q.asSecond e (s.knownOrders (s.stream h))) ∧ (s.placeDec h true).flag FB_DESC_MARKS_CUR e = true ∧
      (s.placeDec h true).streams = s.streams ∧ (∀ r i, r ∉ placeRegs → (s.placeDec h true).reg r i = s.reg r i) ∧
      SameMemory s (s.placeDec h true) := by
  rw [placeDec_second ho he]
  have ht := touches_showPool ((s.onDec h fun q => q.asSecond e (s.knownOrders (s.stream h))).mark e mkCur 0) h
  refine ⟨?_, ?_, ht.streams, fun r i hr => ?_, sameMemory_of_mems ht.mem ht.hostMem ht.spad⟩
  · rw [ht.decOf]
    exact decOf_onDec hq (keepsDecStream_asSecond e _)
  · rw [ht.flag (by simp) e]
    exact flag_mark_cur _ e
  · rw [ht.2 r i (notMem_part hr (by simp [placeRegs])), reg_mark _ _ _ _ _ _ fun h => hr (by simp [h, placeRegs])]
    rfl

/-- The header of a second field: its picture takes the buffer of the first before it is parsed. -/
theorem headerParsed_second {s : State} {h e n : Nat} {q : DecPic} (hq : s.decOf h = some q) (hu : q.unplaced = true) {d : DecHeader}
    (hd : d.second = true) (ho : (s.stream h).openField = some (e, n)) (he : e ∈ (s.stream h).res.pool) :
    (s.headerParsed h d).decOf h = some ((q.asSecond e (s.knownOrders (s.stream h))).withHeader d) ∧
      (s.headerParsed h d).flag FB_DESC_MARKS_CUR e = true ∧ (s.headerParsed h d).streams = s.streams ∧
      (∀ r i, r ∉ placeRegs → (s.headerParsed h d).reg r i = s.reg r i) ∧ SameMemory s (s.headerParsed h d) := by
  have hyes : (s.decOf h).any DecPic.unplaced = true := by simp [hq, hu]
  have hst : s.headerParsed h d = (s.placeDec h true).onDec h fun q => q.withHeader d := by
    unfold State.headerParsed
    rw [if_pos hyes, hd]
  obtain ⟨hpic, hrest⟩ := placeDec_second_facts hq ho he
  rw [hst]
  exact ⟨decOf_onDec hpic (keepsDecStream_withHeader d), hrest⟩

/-! ### No header -/

/-- The picture is lost as a whole (R171). -/
def DecPic.lose (q : DecPic) : DecPic := { q with lost := true, parsed := true, flags := q.flags ||| 8 }

/-- Without REPEAT_ON_LOSS nothing of a lost picture is reconstructed. -/
theorem loseWhole_unrepeated {s : State} {q : DecPic} (hq : s.decOf q.stream = some q)
    (hb : (word (s.stream q.stream).words 4).testBit 18 = false) :
    (s.loseWhole q).decOf q.stream = some q.lose ∧ Codes [] s (s.loseWhole q) := by
  have hst : s.loseWhole q = s.onDec q.stream DecPic.lose := if_neg (by simp [hb])
  rw [hst]
  exact ⟨decOf_onDec hq fun _ => ⟨rfl, rfl⟩, codes_onDec [] s q.stream _⟩

end Sys2Proof.Machine
end

section
/-!
PROOFS. Blocks that are reconstructed in time, late, or concealed, and the statement of the pictures decoded or concealed (R161, R170, R173 to R176).
-/
namespace Sys2Proof.Machine

/-! ### A block that is reconstructed -/

/-- The share of a pipe that starts a block of `n` cycles. -/
def State.blockWork (s : State) (n : Nat) (w : PipeWork) : PipeWork := { s.works w n with started := w.started + 1 }

/-- The picture with one more block done, whose pipe's share changes by `g`; predicted from a substitute it has SUBST in the map (R173, R176). -/
def DecPic.blockDone (q : DecPic) (p b : Nat) (g : PipeWork → PipeWork) (subst : Bool) : DecPic :=
  { q.onPipe p g with map := if subst then storeInsert q.map b 4 else q.map, done := q.done + 1, subst := q.subst + subst.toNat }

/-- The state in which a pipe has started its block `b`, before a substitute is counted. -/
def State.blockStarted (s : State) (q : DecPic) (w : PipeWork) (b : Nat) (subst : Bool) : State :=
  (s.onDec q.stream fun r => r.blockDone w.pipe b (s.blockWork (blockCycles (s.stream q.stream).codec r.chroma false)) subst).putN .DEC_DP_POS
    (b % 2 ^ 18) (w.pipe - 16)

/-- A block that reads no halo. -/
theorem goodBlock_eq (s : State) (q : DecPic) (w : PipeWork) (refs : List Nat) {subst : Bool} (hs : (refs.any fun r => !q.known.contains r) = subst) :
    s.goodBlock q w refs 0 = if subst then (s.blockStarted q w ((q.blocksOf w.pipe w.started 1).headD 0) subst).bump .DEC_S_SUBST_CNT 1 q.stream
      else s.blockStarted q w ((q.blocksOf w.pipe w.started 1).headD 0) subst := by
  unfold State.goodBlock
  simp only [hs, haloMissing_none, Bool.and_false]
  cases subst <;> rfl

theorem blockStarted_facts {s : State} {q : DecPic} (hq : s.decOf q.stream = some q) (w : PipeWork) (b : Nat) (subst : Bool) :
    (s.blockStarted q w b subst).decOf q.stream =
        some (q.blockDone w.pipe b (s.blockWork (blockCycles (s.stream q.stream).codec q.chroma false)) subst) ∧
      Codes [.DEC_DP_POS] s (s.blockStarted q w b subst) ∧ (s.blockStarted q w b subst).tb = s.tb := by
  refine ⟨?_, (codes_onDec _ s _ _).trans (touches_putN _ _ _ _ (by simp)).codes, rfl⟩
  exact decOf_onDec
    (f := fun r => r.blockDone w.pipe b (s.blockWork (blockCycles (s.stream q.stream).codec r.chroma false)) subst) hq fun _ => ⟨rfl, rfl⟩

/-- The picture's pipe has started one block more. -/
theorem blockDone_started {q : DecPic} {p : Nat} {w : PipeWork} (hw : q.pipes.find? (fun w => w.pipe == p) = some w) (s : State) (b n : Nat)
    (subst : Bool) : ((q.blockDone p b (s.blockWork n) subst).pipes.any fun v => v.pipe == p && v.started == w.started + 1) = true := by
  have hp : w.pipe = p := pipe_of_find hw
  refine List.any_eq_true.mpr ⟨s.blockWork n w, mem_onPipe_dec hw _, ?_⟩
  simp [State.blockWork, State.works, hp]

section
variable {s : State} {q : DecPic} {p : Nat} {w : PipeWork} (hq : s.decOf q.stream = some q)
  (hw : q.pipes.find? (fun w => w.pipe == p) = some w)
include hq hw

/-- A block whose references were all usable at the launch is done, and nothing is noted of it. -/
theorem goodBlock_known {refs : List Nat} (hk : ∀ r ∈ refs, r ∈ q.known) :
    (∃ r, (s.goodBlock q w refs 0).decOf q.stream = some r ∧ r.done = q.done + 1 ∧ r.conc = q.conc ∧ r.map = q.map ∧
      (r.pipes.any fun v => v.pipe == p && v.started == w.started + 1) = true) ∧
      (s.goodBlock q w refs 0).tb = s.tb ∧ Codes [.DEC_DP_POS] s (s.goodBlock q w refs 0) := by
  have hp : w.pipe = p := pipe_of_find hw
  have hall : (refs.any fun r => !q.known.contains r) = false := by simpa [List.any_eq_false] using hk
  rw [goodBlock_eq s q w refs hall, if_neg Bool.false_ne_true, hp]
  obtain ⟨hpic, hc, htb⟩ := blockStarted_facts hq w ((q.blocksOf p w.started 1).headD 0) false
  rw [hp] at hpic
  exact ⟨⟨_, hpic, rfl, rfl, rfl, blockDone_started hw s _ _ false⟩, htb, hc⟩

/-- A block that names a reference which was not usable is predicted from a substitute, noted in the map and counted (R176). -/
theorem goodBlock_substitute {o b : Nat} (ho : o ∉ q.known) (hb : q.blocksOf p w.started 1 = [b]) :
    (∃ r, (s.goodBlock q w [o] 0).decOf q.stream = some r ∧ r.done = q.done + 1 ∧ r.subst = q.subst + 1 ∧ storeFind r.map b = some 4) ∧
      (s.goodBlock q w [o] 0).regN .DEC_S_SUBST_CNT q.stream = min 0xFFFFFFFF (s.regN .DEC_S_SUBST_CNT q.stream + 1) ∧
      Codes [.DEC_DP_POS, .DEC_S_SUBST_CNT] s (s.goodBlock q w [o] 0) := by
  have hp : w.pipe = p := pipe_of_find hw
  have hmiss : ([o].any fun r => !q.known.contains r) = true := by simpa using ho
  rw [goodBlock_eq s q w [o] hmiss, if_pos rfl, hp, hb, List.headD_cons]
  obtain ⟨hpic, hc, -⟩ := blockStarted_facts hq w b true
  have hbump := touches_bump (rs := [.DEC_DP_POS, .DEC_S_SUBST_CNT]) (s.blockStarted q w b true) .DEC_S_SUBST_CNT 1 q.stream (by simp)
  refine ⟨⟨_, (hbump.decOf _).trans hpic, rfl, rfl, storeFind_insert_same q.map b 4⟩, ?_, (hc.mono (by simp)).trans hbump.codes⟩
  rw [regN_bump_same, hc.regN (by simp)]

end

/-! ### Blocks that are concealed -/

theorem keepsDecStream_conceal (p reason n : Nat) (meth : Nat → Nat) : KeepsDecStream fun q => q.conceal p reason n meth := fun q => by
  dsimp only [DecPic.conceal]
  split <;> exact ⟨rfl, rfl⟩

theorem flags_conceal (q : DecPic) (p reason n : Nat) (meth : Nat → Nat) : (q.conceal p reason n meth).flags = q.flags := by
  unfold DecPic.conceal
  split <;> rfl

/-- A key that keeps its value under every insertion of a list reads it after them. -/
theorem storeFind_foldl_insert {α : Type} (g : Nat → α) {b : Nat} (l : List Nat) (m : Store α) (h : b ∈ l ∨ storeFind m b = some (g b)) :
    storeFind (l.foldl (fun m b => storeInsert m b (g b)) m) b = some (g b) := by
  induction l generalizing m with
  | nil => simpa using h
  | cons a l ih =>
    refine ih _ ?_
    by_cases hab : a = b
    · exact .inr (by rw [hab, storeFind_insert_same])
    · rw [storeFind_insert_ne _ _ hab]
      exact h.imp_left fun hm => (List.mem_cons.mp hm).resolve_left (Ne.symm hab)

/-- The picture's counts and map once blocks of a pipe are concealed (R173). -/
theorem conceal_says {q : DecPic} {p : Nat} {w : PipeWork} (hw : q.pipes.find? (fun w => w.pipe == p) = some w) (reason n : Nat)
    (meth : Nat → Nat) :
    (q.conceal p reason n meth).done = q.done + (q.blocksOf p w.started n).length ∧
      (q.conceal p reason n meth).conc = q.conc + (q.blocksOf p w.started n).length ∧
      ∀ b ∈ q.blocksOf p w.started n, storeFind (q.conceal p reason n meth).map b = some (meth b + reason % 16 * 16) := by
  unfold DecPic.conceal
  rw [hw]
  exact ⟨rfl, rfl, fun b hb => storeFind_foldl_insert (fun b => meth b + reason % 16 * 16) _ _ (.inl hb)⟩

/-- The registers that count concealed blocks (R184, R185). -/
def concealRegs : List Reg := [.DEC_DP_CONC_CNT, .DEC_S_CONC_CNT, .DEC_DP_EVT, .IC_PEND, .IC_MERGE_CNT]

theorem touches_concealed (s : State) (h p n : Nat) : Touches concealRegs s (s.concealed h p n) := by
  unfold State.concealed
  split
  · exact Touches.refl _ _
  · exact ((touches_bump s _ n _ (by simp [concealRegs])).trans (touches_bump _ _ n _ (by simp [concealRegs]))).trans
      (touches_event _ _ _ (by simp [concealRegs]) (by simp [sourceOnly, concealRegs]))

theorem concealed_counts (s : State) (h p : Nat) {n : Nat} (hn : n ≠ 0) :
    (s.concealed h p n).regN .DEC_DP_CONC_CNT (p - 16) = min 0xFFFFFFFF (s.regN .DEC_DP_CONC_CNT (p - 16) + n) := by
  rw [State.concealed, if_neg hn,
    (touches_event (rs := DEC_DP_EVT_CONCEAL.reg :: sourceOnly) _ DEC_DP_EVT_CONCEAL (p - 16) (by simp) (by simp +contextual)).regN
      (by simp [sourceOnly]) _,
    (touches_bump (rs := [.DEC_S_CONC_CNT]) _ .DEC_S_CONC_CNT n h (by simp)).regN (by simp) _]
  exact regN_bump_same s .DEC_DP_CONC_CNT n (p - 16)

/-- A run of concealed blocks: the picture `r` of the stream has them, the position follows, and the registers count them. -/
theorem concealRun_shape {s : State} {q r : DecPic} {p : Nat} {w : PipeWork} (hw : q.pipes.find? (fun w => w.pipe == p) = some w)
    (hr : s.decOf q.stream = some r) (reason n : Nat) (meth : Nat → Nat) : ∃ (u : State) (g : PipeWork → PipeWork),
      s.concealRun q p reason n meth = u.concealed q.stream p (min n (w.units - w.started)) ∧
      u.decOf q.stream = some ((r.conceal p reason (min n (w.units - w.started)) meth).onPipe p g) ∧ Codes [.DEC_DP_POS] s u := by
  generalize ht : s.concealRun q p reason n meth = t
  unfold State.concealRun at ht
  rw [hw] at ht
  dsimp -zeta only at ht
  extract_lets -underBinder x k s1 s2 at ht
  have hpos : Touches [.DEC_DP_POS] s1 s2 := by
    unfold s2
    split
    · exact touches_putN s1 _ _ _ (by simp)
    · exact Touches.refl _ _
  refine ⟨s2, fun w => s.works w (k * blockCycles x.codec r.chroma true), ht.symm, ?_,
    (codes_onDec _ s _ _).trans hpos.codes⟩
  rw [hpos.decOf]
  exact decOf_onDec (f := fun q => (q.conceal p reason k meth).onPipe p fun w => s.works w (k * blockCycles x.codec q.chroma true)) hr
    (keepsDecStream_conceal p reason k meth)

/-- A damaged run of blocks that lies within the pipe's share (R173, R175). -/
theorem concealRun_facts {s : State} {q : DecPic} {p n : Nat} {w : PipeWork} (hq : s.decOf q.stream = some q)
    (hw : q.pipes.find? (fun w => w.pipe == p) = some w) (h0 : 0 < n) (hn : w.started + n ≤ w.units)
    (hlen : (q.blocksOf p w.started n).length = n) (reason : Nat) (meth : Nat → Nat) :
    (∃ r, (s.concealRun q p reason n meth).decOf q.stream = some r ∧ r.done = q.done + n ∧ r.conc = q.conc + n ∧
      ∀ b ∈ q.blocksOf p w.started n, storeFind r.map b = some (meth b + reason % 16 * 16)) ∧
      (s.concealRun q p reason n meth).regN .DEC_DP_CONC_CNT (p - 16) = min 0xFFFFFFFF (s.regN .DEC_DP_CONC_CNT (p - 16) + n) ∧
      Codes (.DEC_DP_POS :: concealRegs) s (s.concealRun q p reason n meth) := by
  obtain ⟨u, g, hrun, hpic, hc⟩ := concealRun_shape hw hq reason n meth
  rw [Nat.min_eq_left (by omega)] at hrun hpic
  obtain ⟨hdone, hconc, hmap⟩ := conceal_says hw reason n meth
  rw [hlen] at hdone hconc
  have hk := touches_concealed u q.stream p n
  rw [hrun]
  refine ⟨⟨_, (hk.decOf _).trans hpic, hdone, hconc, hmap⟩, ?_,
    (hc.mono (by simp)).trans (hk.mono fun _ => List.mem_cons_of_mem _).codes⟩
  rw [concealed_counts _ _ _ (by omega), hc.regN (by simp)]

/-! ### A block that is late -/

/-- A picture whose time check fails has flag bit 5, and its pipe the event (R170). -/
theorem timeOut_facts {s : State} {q : DecPic} {p : Nat} {w : PipeWork} (hw : q.pipes.find? (fun w => w.pipe == p) = some w)
    (hq : s.decOf q.stream = some q) (f : List Nat) :
    (∃ r, (s.timeOut q p f).decOf q.stream = some r ∧ r.flags.testBit 5 = true) ∧ (s.timeOut q p f).flag DEC_DP_EVT_TIME (p - 16) = true ∧
      Codes (.DEC_DP_POS :: concealRegs) s (s.timeOut q p f) := by
  have hf : (s.onDec q.stream fun q => { q with flags := q.flags ||| 32 }).decOf q.stream = some { q with flags := q.flags ||| 32 } :=
    decOf_onDec (f := fun q => { q with flags := q.flags ||| 32 }) hq fun _ => ⟨rfl, rfl⟩
  obtain ⟨u, g, hx, hu, hc⟩ := concealRun_shape hw hf 5 (2 ^ 20) (q.method f)
  have hk := touches_concealed u q.stream p (min (2 ^ 20) (w.units - w.started))
  have he := touches_event (rs := DEC_DP_EVT_TIME.reg :: sourceOnly) (u.concealed q.stream p (min (2 ^ 20) (w.units - w.started)))
    DEC_DP_EVT_TIME (p - 16) (by simp) (by simp +contextual)
  rw [State.timeOut, hx]
  refine ⟨⟨_, (he.decOf _).trans ((hk.decOf _).trans hu), ?_⟩, flag_event_same _ _ _ (by simp) (by simp) (by simp [sourceOnly]), ?_⟩
  · show (DecPic.conceal _ _ _ _ _).flags.testBit 5 = true
    rw [flags_conceal, Nat.testBit_or, show Nat.testBit 32 5 = true from rfl, Bool.or_true]
  · exact (((codes_onDec _ s _ _).trans (hc.mono (by simp))).trans (hk.mono fun _ => List.mem_cons_of_mem _).codes).trans
      (he.mono (by simp [sourceOnly, concealRegs])).codes

/-! ### The statement -/

/-- Settles O36: what the front end hands over decides the step that a pipe at work takes (`Decodes.exec…`), and each step is followed into
the picture and the registers. -/
theorem blocksAreDecodedOrConcealed : Obligations.BlocksAreDecodedOrConcealed := by
  unfold Obligations.BlocksAreDecodedOrConcealed
  refine ⟨fun p ps f q w s hon hq hw h1 h2 h3 hr _ e1 e2 e3 e4 e5 e6 e7 e8 e9 e10 => ?_, fun p ps f q w s hon hq hw h1 h2 h3 hr hbad => ?_,
    fun p d f q w s hon hq hw h1 h2 h3 hp hu hr => ?_, fun p e n d f q w s hon hq hw h1 h2 h3 hp hu hr hd ho he => ?_,
    fun p f rs q w s hon hq hw h1 h2 h3 hp hn hr hg hrs hl => ?_, fun p o b f q w s hon hq hw h1 h2 h3 hp hn hr hg ho hb hl => ?_,
    fun p f rs q w s hon hq hw h1 h2 h3 hp hn hr hl => ?_, fun p k n f q w s hon hq hw h1 h2 h3 hp h0 hn hlen hr => ?_,
    fun p f q w s hon hq hw h1 h2 h3 hp hr hb => ?_⟩ <;>
    have kd : Decodes p q w s := ⟨hon, hq, hw, h1, h2, h3, hr⟩
  · obtain ⟨hid, hwords, hst⟩ := paramSet_stored ((paramSetValid_iff hr ps).mpr ⟨e1, e2, e3, e4, e5, e6, e7, e8, e9, e10⟩)
    have hx := kd.execParamSet ps f
    rw [seamBlocks_alone (by rw [hwords]; exact hr)] at hx
    refine gives_finish hx ⟨hid, ?_, fun r i _ hs => ?_, ?_⟩
    · rw [hst, settle_codec]
    · rw [hst]
      exact reg_settle _ r i hs
    · rw [hst]
      exact sameMemory_of_mems rfl rfl rfl
  · have hv : paramSetValid ps (s.stream q.stream) = false := by
      refine Bool.eq_false_iff.mpr fun hv => ?_
      obtain ⟨-, -, hbytes, -, -, -, -, hwidth, -, -⟩ := (paramSetValid_iff hr ps).mp hv
      omega
    obtain ⟨hdrop, hcnt, ht⟩ := paramSet_dropped hv
    exact kd.gives (kd.execParamSet ps f) ht.codes fun hs hregs hm => ⟨by simpa using hdrop, by simpa using hcnt, hs, ht.codec, hregs, hm⟩
  · obtain ⟨hpic, hc⟩ := headerParsed_placed hq hu d
    refine kd.gives (kd.execHeader hp d f) hc fun hs hregs hm => ⟨?_, hs, hregs, hm⟩
    rw [decOf_settle, hpic]
    simp [DecPic.withHeader]
  · obtain ⟨hpic, hcur, hs, hregs, hm⟩ := headerParsed_second hq hu hd ho he
    have hx := kd.execHeader hp d f
    rw [seamBlocks_alone (by rw [State.stream, hs]; exact hr)] at hx
    refine gives_finish hx ⟨?_, by simpa using hcur, hs, fun r i hr hne => (reg_settle _ r i hne).trans (hregs r i hr), hm⟩
    rw [decOf_settle, hpic]
    simp [DecPic.withHeader, DecPic.asSecond]
  · obtain ⟨⟨r, hpic, hdone, hconc, hmap, hpipe⟩, htb, hc⟩ := goodBlock_known kd.reached hw hrs
    refine kd.gives (kd.execGood_inTime hp hn rs f hg hl) ((codes_reachRun _ s _).trans hc) fun hs hregs hm => ⟨?_, ?_, hs, hregs, hm⟩
    · rw [decOf_settle, hpic]
      simp [hdone, hconc, hmap, hpipe]
    · exact (congrArg TimeBase.run htb).trans (reachRun_run s _)
  · obtain ⟨⟨r, hpic, hdone, hsubst, hmap⟩, hcnt, hc⟩ := goodBlock_substitute kd.reached hw ho hb
    refine kd.gives (kd.execGood_inTime hp hn [o] f hg hl) ((codes_reachRun _ s _).trans hc) fun hs hregs hm => ⟨?_, ?_, hs, hregs, hm⟩
    · rw [decOf_settle, hpic]
      simp [hdone, hsubst, hmap]
    · rw [regN_settle _ _ _ (by simp), hcnt, (codes_reachRun [] s _).regN (by simp)]
  · obtain ⟨⟨r, hpic, hflag⟩, htime, hc⟩ := timeOut_facts hw kd.reached f
    refine kd.gives (kd.execGood_late hp hn rs f 0 hl) ((codes_reachRun _ s _).trans hc) fun hs _ hm => ⟨?_, by simpa using htime, hs, hm⟩
    rw [decOf_settle, hpic, Option.any_some, hflag]
  · obtain ⟨⟨r, hpic, hdone, hconc, hmap⟩, hcnt, hc⟩ := concealRun_facts kd.reached hw h0 hn hlen k (q.method f)
    refine kd.gives (kd.execDamaged hp k n f) ((codes_reachRun _ s _).trans hc) fun hs hregs hm => ⟨?_, ?_, hs, hm, hregs⟩
    · rw [decOf_settle, hpic]
      simpa [hdone, hconc] using hmap
    · rw [regN_settle _ _ _ (by simp), hcnt, (codes_reachRun [] s _).regN (by simp)]
  · obtain ⟨hpic, hc⟩ := loseWhole_unrepeated hq hb
    exact kd.gives (kd.execNoHeader hp f) hc fun hs hregs hm => ⟨hpic, hs, hregs, hm⟩

end Sys2Proof.Machine
end

section
/-!
PROOFS. A statement that fails for a RASL picture: DEC_PICTURE_COMPLETE (R174, R177).
-/
namespace Sys2Proof.Machine

/-- A picture of stream 5 with 4 blocks to decode on pipe 16, none of them started. -/
def raslPicture : DecPic :=
  { stream := 5, tick := 3, launched := true, parsed := true, blocks := 4, mapW := 2, order := [(16, [0, 1, 2, 3])]
    pipes := [{ pipe := 16, units := 4 }] }

/-- Stream 5 runs, and that picture is launched. -/
def raslRuns : State :=
  { State.reset with
    codec := { dec := [raslPicture] }
    streams := [(5, { st := .running, dec := true, launched := true, words := [0x00400040, 0, 1000000, 9000000, 1, 2, 0, 0, 4, 0] })] }

/-- Found to be a RASL picture that is skipped, the picture leaves its pipes with its blocks undone. -/
theorem raslRuns_completes : readAfter (fun t => t.codec.dec) (.decPictureComplete 5 { rasl := true }) raslRuns = some [] := by
  decide +kernel

/-- Refutes O37: its second clause calls a picture not done by its blocks and by `skipped` alone, and asks that it stay; a RASL picture, which
is not decoded (R174), completes at once. -/
theorem not_decodePicturesCompleteOrFail : ¬ Obligations.DecodePicturesCompleteOrFail := by
  unfold Obligations.DecodePicturesCompleteOrFail
  rintro ⟨-, hwaits, -⟩
  obtain ⟨t, hx, hu, -⟩ := hwaits 5 { rasl := true } raslPicture raslRuns (by decide) (by decide)
  have hcodec : t.codec = raslRuns.codec := by rw [hu]
  have hread := readAfter_next (fun t => t.codec.dec) hx
  rw [raslRuns_completes, hcodec] at hread
  exact absurd hread (by decide)

end Sys2Proof.Machine
end

section
/-!
SUPPORT. The laws of a ring: what a message that is sent, relayed or dropped leaves, and the state of a ring stream (R218, R221 to R227).
-/
namespace Sys2Proof.Machine

/-- An event writes its register and the source's alone. -/
theorem touches_event_self (s : State) (f : Field) (i : Nat) : Touches (f.reg :: sourceOnly) s (s.event f i) :=
  touches_event s f i (by simp) fun _ h => by simp [h]

/-! ### What the ring's operations leave -/

/-- Only registers of a list, the frames on their way, the ring's state and the count of free values differ. -/
def Rings (rs : List Reg) (s t : State) : Prop :=
  t = { s with regs := t.regs, net := t.net, ring := t.ring, freeCtr := t.freeCtr } ∧ ∀ r i, r ∉ rs → t.reg r i = s.reg r i

theorem Rings.trans {rs : List Reg} {s t u : State} (h : Rings rs s t) (k : Rings rs t u) : Rings rs s u := by
  refine ⟨?_, fun r i hr => (k.2 r i hr).trans (h.2 r i hr)⟩
  have h1 := h.1
  have k1 := k.1
  rw [k1, h1]

theorem Touches.rings {rs : List Reg} {s t : State} (h : Touches rs s t) : Rings rs s t := by
  refine ⟨?_, h.2⟩
  have h1 := h.1
  rw [h1]

theorem rings_submit (rs : List Reg) (s : State) (f : Frame) : Rings rs s (s.submit f) := ⟨rfl, fun _ _ _ => rfl⟩

theorem rings_setRs (rs : List Reg) (s : State) (r : Nat) (x : RsState) : Rings rs s (s.setRs r x) := ⟨rfl, fun _ _ _ => rfl⟩

theorem Rings.streams {rs : List Reg} {s t : State} (h : Rings rs s t) : t.streams = s.streams := by rw [h.1]
theorem Rings.codec {rs : List Reg} {s t : State} (h : Rings rs s t) : t.codec = s.codec := by rw [h.1]
theorem Rings.cmd {rs : List Reg} {s t : State} (h : Rings rs s t) : t.cmd = s.cmd := by rw [h.1]
theorem Rings.sameMemory {rs : List Reg} {s t : State} (h : Rings rs s t) : SameMemory s t :=
  sameMemory_of_mems (by rw [h.1]) (by rw [h.1]) (by rw [h.1])

/-- Registers outside a list, once the outputs follow. -/
theorem sameRegs_settle {rs : List Reg} {s t : State} (h : ∀ r i, r ∉ rs → t.reg r i = s.reg r i) : SameRegs rs s (settle t) :=
  fun r i hr hs => (reg_settle t r i hs).trans (h r i hr)

/-- What the ring's operations leave once the outputs follow. -/
theorem Rings.settled {rs : List Reg} {s t : State} (h : Rings rs s t) :
    (settle t).streams = s.streams ∧ SameRegs rs s (settle t) ∧ SameMemory s (settle t) :=
  ⟨h.streams, sameRegs_settle h.2, h.sameMemory⟩

/-! ### Messages that are handled, passed on, or dropped -/

section
variable {s : State} {m : RingHdr}

/-- A device in no ring does nothing with a message. -/
theorem accept_outside (hj : s.joined = false) (type len seq rsid : Nat) (pl : List Nat) (role : Bool) (f : State → State) :
    (s.relay m type len pl).accept m type seq rsid role f = s := by
  simp [State.relay, State.accept, State.mine, hj]

/-- The frame in which a message goes on to its other link. -/
def onwardFrame (m : RingHdr) (type len : Nat) (pl : List Nat) : Frame :=
  { queue := ringQueue (1 - m.link) (msgClass type), bytes := 20 + len, kind := 1, relayed := true, owner := 1 - m.link, tick := m.tick,
    words := [type, m.bcast.toNat, m.src, m.dst, m.epoch, m.tick] ++ pl }

/-- A member passes on a message to another member, and does nothing else with it. -/
theorem accept_onward (hj : s.joined = true) (hb : m.bcast = false) (hd : m.dst ≠ s.ringPos) (type len seq rsid : Nat) (pl : List Nat)
    (role : Bool) (f : State → State) : (s.relay m type len pl).accept m type seq rsid role f = s.submit (onwardFrame m type len pl) := by
  have hr : s.relay m type len pl = s.submit (onwardFrame m type len pl) := by simp [State.relay, hj, hb, hd, onwardFrame]
  have hm : (s.submit (onwardFrame m type len pl)).mine m = false := by
    show (s.joined && (m.bcast || m.dst == s.ringPos)) = false
    simp [hb, hd]
  rw [hr, State.accept, hm]
  rfl

/-- A message to this member alone is not passed on. -/
theorem relay_here (hb : m.bcast = false) (hd : m.dst = s.ringPos) (type len : Nat) (pl : List Nat) : s.relay m type len pl = s := by
  simp [State.relay, hb, hd]

/-- A message of another epoch is dropped. -/
theorem accept_stale (hj : s.joined = true) (hb : m.bcast = false) (hd : m.dst = s.ringPos) (he : m.epoch ≠ s.epochAt m.tick)
    (type len seq rsid : Nat) (pl : List Nat) (role : Bool) (f : State → State) :
    (s.relay m type len pl).accept m type seq rsid role f = s.dropStale m type 1 seq rsid := by
  rw [relay_here hb hd, State.accept, if_neg (by simp [State.mine, hj, hd]), if_pos he]

/-- What heeding a message asks. -/
theorem heeds_iff : s.heeds m = true ↔ s.joined = true ∧ m.bcast = false ∧ m.dst = s.ringPos ∧ m.epoch = s.epochAt m.tick := by
  simp [State.heeds, and_assoc]

theorem heeds_joined (h : s.heeds m = true) : s.joined = true := (heeds_iff.mp h).1

/-- A message that is heeded reaches a member that lacks the role: it is dropped. -/
theorem accept_without_role (h : s.heeds m = true) {role : Bool} (hr : role = false) (type len seq rsid : Nat) (pl : List Nat) (f : State → State) :
    (s.relay m type len pl).accept m type seq rsid role f = s.dropStale m type 2 seq rsid := by
  obtain ⟨hj, hb, hd, he⟩ := heeds_iff.mp h
  rw [relay_here hb hd, State.accept, if_neg (by simp [State.mine, hj, hd]), if_neg (by simp [he]), hr]
  rfl

/-- A message that is heeded is handled. -/
theorem accept_heeded (h : s.heeds m = true) {role : Bool} (hr : role = true) (type len seq rsid : Nat) (pl : List Nat) (f : State → State) :
    (s.relay m type len pl).accept m type seq rsid role f = f s := by
  obtain ⟨hj, hb, hd, he⟩ := heeds_iff.mp h
  rw [relay_here hb hd, State.accept, if_neg (by simp [State.mine, hj, hd]), if_neg (by simp [he]), hr]
  rfl

end

/-! ### Messages that are dropped -/

/-- The registers of a dropped message. -/
def staleRegs : List Reg := [.RING_STALE_CNT, .RING_EVT, .IC_PEND, .IC_MERGE_CNT]

/-- A dropped message is counted, and its event set. -/
def State.staleCounted (s : State) : State := (s.bump .RING_STALE_CNT).event RING_EVT_STALE

theorem touches_staleCounted (s : State) : Touches staleRegs s s.staleCounted :=
  (touches_bump s .RING_STALE_CNT 1 0 (by simp [staleRegs])).trans (touches_event _ _ 0 (by simp [staleRegs]) (by simp [sourceOnly, staleRegs]))

theorem staleCounted_facts (s : State) :
    s.staleCounted.regN .RING_STALE_CNT = min 0xFFFFFFFF (s.regN .RING_STALE_CNT + 1) ∧ s.staleCounted.flag RING_EVT_STALE = true := by
  refine ⟨?_, flag_event_same _ _ 0 (by simp) (by simp) (by simp [sourceOnly])⟩
  rw [State.staleCounted, (touches_event_self _ _ _).regN (by simp [sourceOnly]), regN_bump_same]

/-- Beyond the count and the event, a dropped message can send a NAK. -/
theorem dropStale_eq (s : State) (m : RingHdr) (type reason seq rsid : Nat) :
    ∃ w, s.dropStale m type reason seq rsid = { s.staleCounted with net := w } := by
  unfold State.dropStale
  split
  · exact ⟨_, rfl⟩
  · exact ⟨_, rfl⟩

/-- What a dropped message gives. -/
theorem dropStale_gives {i : Instr} {s : State} {m : RingHdr} {type reason seq rsid : Nat}
    (hx : exec i s = finish (s.dropStale m type reason seq rsid)) :
    Gives i s fun t =>
      t.regN .RING_STALE_CNT = min 0xFFFFFFFF (s.regN .RING_STALE_CNT + 1) ∧ t.flag RING_EVT_STALE = true ∧ t.ring = s.ring ∧
        t.streams = s.streams ∧ t.codec = s.codec ∧ SameMemory s t ∧ SameRegs staleRegs s t := by
  obtain ⟨w, hw⟩ := dropStale_eq s m type reason seq rsid
  have ht := touches_staleCounted s
  obtain ⟨hcnt, hevt⟩ := staleCounted_facts s
  rw [hw] at hx
  refine gives_finish hx ⟨?_, ?_, ?_, ht.streams, ht.codec, ht.rings.sameMemory, sameRegs_settle ht.2⟩
  · rw [regN_settle _ _ _ (by simp)]
    exact hcnt
  · rw [flag_settle _ _ _ (by simp)]
    exact hevt
  · exact ht.rest.ring

/-! ### Ring streams -/

@[simp] theorem rs_settle (s : State) (r : Nat) : (settle s).rs r = s.rs r := rfl

/-- The state of a ring stream reads back what was set. -/
@[simp] theorem rs_setRs_same (s : State) (r : Nat) (x : RsState) : (s.setRs r x).rs r = x := by
  unfold State.setRs State.rs
  by_cases h : x = {} <;> simp [h]

@[simp] theorem rs_onRs_same (s : State) (r : Nat) (f : RsState → RsState) : (s.onRs r f).rs r = f (s.rs r) := rs_setRs_same s r _

theorem rings_onRs (rs : List Reg) (s : State) (r : Nat) (f : RsState → RsState) : Rings rs s (s.onRs r f) := rings_setRs rs s r _

theorem Touches.rs {rs : List Reg} {s t : State} (h : Touches rs s t) (r : Nat) : t.rs r = s.rs r := by
  simp only [State.rs, h.rest.ring]

end Sys2Proof.Machine
end

section
/-!
PROOFS. Ring messages that are ignored, passed on, or stale (R218, R221, R224, R227).
-/
namespace Sys2Proof.Machine

/-- The messages from LEAVE to BAND, and those of migrations. -/
def ringMessages (m : RingHdr) (a b c d : Nat) (p : PlanMsg) (h : DataHdr) (x : MigData) (f : Bool) (bs : List Byte) : List Instr :=
  [.leave m, .roleUpdate m a b c d a b, .nak m a b c d a b, .plan m p, .donate m a b c, .ask m a b c, .grant m a b c, .final m a b c d a b,
    .halo m h, .seamUp m h, .seamDown m h, .band m h bs, .migData m x, .migCommitReq m a b, .migCommitAck m a, .migQuery m a b f, .migAbort m a b]

/-- A message is passed on, and then handled if it is this member's, in the role it asks for. -/
def PassedOrHandled (i : Instr) (m : RingHdr) : Prop :=
  ∃ (type len : Nat) (pl : List Nat) (seq rsid : Nat) (role : State → Bool) (f : State → State),
    ∀ s, exec i s = finish ((s.relay m type len pl).accept m type seq rsid (role s) f)

/-- Each of those messages is. -/
theorem passedOrHandled {m : RingHdr} {a b c d : Nat} {p : PlanMsg} {h : DataHdr} {x : MigData} {f : Bool} {bs : List Byte} {i : Instr}
    (hi : i ∈ ringMessages m a b c d p h x f bs) : PassedOrHandled i m := by
  simp only [ringMessages, List.mem_cons, List.not_mem_nil, or_false] at hi
  rcases hi with rfl | rfl | rfl | rfl | rfl | rfl | rfl | rfl | rfl | rfl | rfl | rfl | rfl | rfl | rfl | rfl | rfl <;>
    exact ⟨_, _, _, _, _, _, _, fun _ => rfl⟩

/-- Settles O39: every message is relayed and then handled, and what that does follows from its header alone. -/
theorem ringMessagesAreRelayedOrStale : Obligations.RingMessagesAreRelayedOrStale := by
  unfold Obligations.RingMessagesAreRelayedOrStale
  refine ⟨fun m a b c d p h x f bs i s hi hj => ?_, fun m a b c d p h x f bs i s hi hj hb hd => ?_,
    fun m a b c d p h x f bs i s hi hj hb hd he => ?_⟩ <;>
  obtain ⟨type, len, pl, seq, rsid, role, g, hx⟩ := passedOrHandled hi
  · exact gives_unchanged ((hx s).trans (congrArg finish (accept_outside hj ..)))
  · refine gives_finish ((hx s).trans (congrArg finish (accept_onward hj hb hd ..))) ⟨rfl, by simp [State.submit], ?_⟩
    simp [State.submit, onwardFrame, word, hb]
  · exact dropStale_gives ((hx s).trans (congrArg finish (accept_stale hj hb hd he ..)))

end Sys2Proof.Machine
end

section
/-!
SUPPORT. The laws of ring membership: links that restart or stop, a neighbour that is lost, a HELLO that goes out, a join that fails (R219,
R220, R223, R261).
-/
namespace Sys2Proof.Machine

/-! ### Links -/

/-- The registers of a Fulet link and its lanes. -/
def linkRegs : List Reg := [.FL_STS, .LN_STS]

theorem touches_setLanes (s : State) (ls : List Nat) (st rate : Nat) : Touches linkRegs s (s.setLanes ls st rate) :=
  touches_foldl (fun t l => ((touches_setFld t LN_STS_STATE st l (by simp [linkRegs])).trans
    (touches_setFld _ LN_STS_RATE25 rate l (by simp [linkRegs]))).trans (touches_setFld _ LN_STS_CTLE_NOW 0 l (by simp [linkRegs]))) ls s

theorem touches_stopLink (s : State) (k : Nat) (b : Bool) : Touches linkRegs s (s.stopLink k b) :=
  ((touches_setReg s .FL_STS 0 k (by simp [linkRegs])).trans (touches_setFlag _ FL_STS_DELAY_ERR b k (by simp [linkRegs]))).trans
    (touches_setLanes _ _ _ _)

/-- A link that restarts forgets its round trips, and changes registers of the link and its lanes. -/
theorem trainLink_facts (s : State) (k : Nat) : Rings linkRegs s (s.trainLink k) ∧ (s.trainLink k).ring.joining = s.ring.joining := by
  have ht := (touches_setReg s .FL_STS 1 k (by simp [linkRegs])).trans
    (touches_setLanes (s.setReg .FL_STS 1 k) (s.groupLanes (linkGroup k)) 1 0)
  refine ⟨ht.rings.trans ⟨rfl, fun _ _ _ => rfl⟩, ?_⟩
  show RingState.joining (State.ring ((s.setReg .FL_STS 1 k).setLanes _ 1 0)) = _
  rw [ht.rest.ring]

/-! ### A neighbour that is lost -/

/-- The registers of a lost neighbour. -/
def partitionRegs : List Reg := [.RING_STS, .RING_EVT, .IC_PEND, .IC_MERGE_CNT]

theorem touches_setNb (s : State) (k : Nat) (b : Bool) : Touches partitionRegs s (s.setNb k b) := by
  unfold State.setNb
  split
  · exact touches_setFlag s _ b 0 (by simp [partitionRegs])
  · exact touches_setFlag s _ b 0 (by simp [partitionRegs])

theorem touches_partition (s : State) (k : Nat) : Touches partitionRegs s (s.partition k) :=
  ((touches_setNb s k false).trans (touches_setFld _ RING_STS_PARTITIONED 1 0 (by simp [partitionRegs]))).trans
    (touches_event _ _ 0 (by simp [partitionRegs]) (by simp [sourceOnly, partitionRegs]))

theorem partition_facts (s : State) (k : Nat) :
    (s.partition k).flag RING_STS_PARTITIONED = true ∧ (s.partition k).flag RING_EVT_NB_LOSS = true := by
  refine ⟨?_, flag_event_same _ _ 0 (by simp) (by simp) (by simp [sourceOnly])⟩
  rw [State.partition, (touches_event_self _ _ _).flag (by simp [sourceOnly]), flag_setFld_one _ _ _ (by simp) (by simp)]

/-! ### HELLO -/

/-- An ECHO goes out on its link, with its mark in the flags. -/
theorem sendHello_echo (s : State) (k seq : Nat) : ∃ f : Frame, s.sendHello k seq true = s.tookFree.submit f ∧ word f.words 0 = 4 ∧
    f.owner = k ∧ word f.words 9 % 2 = 1 := by
  unfold State.sendHello
  obtain ⟨id, pos, size⟩ := s.ringId
  refine ⟨_, rfl, rfl, rfl, ?_⟩
  simp only [word, List.cons_append, List.getElem?_cons_succ, List.getElem?_cons_zero, Option.getD_some, Bool.toNat_true]
  omega

/-! ### A role change that is pending -/

/-- A role change is scheduled (R226). -/
def State.withSwitch (s : State) (w : RoleSwitch) : State :=
  ({ s with ring := { s.ring with switch := some w } }).setFld RING_STS_SWITCH_PENDING 1

theorem rings_withSwitch (s : State) (w : RoleSwitch) : Rings [.RING_STS] s (s.withSwitch w) :=
  Rings.trans (t := { s with ring := { s.ring with switch := some w } }) ⟨rfl, fun _ _ _ => rfl⟩ (touches_setFld _ _ _ _ (by simp)).rings

theorem flag_withSwitch (s : State) (w : RoleSwitch) : (s.withSwitch w).flag RING_STS_SWITCH_PENDING = true :=
  flag_setFld_one _ _ _ (by simp) (by simp)

/-! ### A join that fails -/

/-- The device is outside any ring again: no role table, and the status register at its reset value. -/
theorem failJoin_facts {s : State} {j : Joining} (hj : s.ring.joining = some j) (d : Nat) :
    (s.failJoin d).ring = { s.ring with joining := none, rtt := [], nbSerial := [], hasTable := false, tlead := none, plead := [] } ∧
      (s.failJoin d).reg .RING_STS = 0 ∧ (s.failJoin d).reg .RING_CFG = s.reg .RING_CFG ∧ (s.failJoin d).streams = s.streams := by
  have ht : ∀ u : State, Touches linkRegs u ((u.stopLink 0 false).stopLink 1 false) := fun u =>
    (touches_stopLink u 0 false).trans (touches_stopLink _ 1 false)
  unfold State.failJoin
  rw [hj]
  refine ⟨(answer_ring ..).trans (ht _).rest.ring, ?_, ?_, (answer_streams ..).trans (ht _).streams⟩
  · simp [replyOnly]
    rfl
  · simp only [reg_answer _ _ _ _ _ .RING_CFG 0 (by simp [replyOnly]), reg_resetReg, reduceCtorEq, false_and, if_false]
    exact (ht _).2 .RING_CFG 0 (by simp [linkRegs])

end Sys2Proof.Machine
end

section
/-!
PROOFS. RING_JOIN, its timeout, ROLE_SET and RING_LEAVE (R219, R220, R225, R226).
-/
namespace Sys2Proof.Machine

/-- A command that has only been answered. -/
theorem repliedOnly_of_rest {s t : State} (h : Rest replyOnly s t) : RepliedOnly s (settle t) := by
  refine ⟨?_, sameRegs_settle h.2⟩
  have h1 := h.1
  unfold settle
  rw [h1]
  rfl

/-! ### RING_JOIN -/

/-- A join is in progress: both links restart, and STATE is 1. -/
def State.joinBegun (s : State) (c : Cmd) : State :=
  let s1 := { s with ring := { s.ring with joining := some { cmd := c, since := s.tb.run }, nbSerial := [] } }
  ((s1.trainLink 0).trainLink 1).setReg .RING_STS 1

/-- What a join that begins leaves. -/
theorem joinBegun_facts (s : State) (c : Cmd) : Rings (.RING_STS :: linkRegs) s (s.joinBegun c) ∧
    (s.joinBegun c).ring.joining = some { cmd := c, since := s.tb.run } ∧ (s.joinBegun c).fld RING_STS_STATE = 1 := by
  have mono : ∀ {u v : State}, Rings linkRegs u v → Rings (.RING_STS :: linkRegs) u v := fun h =>
    ⟨h.1, fun r i hr => h.2 r i fun hm => hr (List.mem_cons_of_mem _ hm)⟩
  have joined : Rings (.RING_STS :: linkRegs) s
      { s with ring := { s.ring with joining := some { cmd := c, since := s.tb.run }, nbSerial := [] } } := ⟨rfl, fun _ _ _ => rfl⟩
  obtain ⟨h0, hj0⟩ := trainLink_facts { s with ring := { s.ring with joining := some { cmd := c, since := s.tb.run }, nbSerial := [] } } 0
  obtain ⟨h1, hj1⟩ := trainLink_facts (State.trainLink _ 0) 1
  refine ⟨((joined.trans (mono h0)).trans (mono h1)).trans (touches_setReg _ .RING_STS 1 0 (by simp)).rings, hj1.trans hj0, ?_⟩
  simp [State.joinBegun, State.fld, bitField]

section
variable {c : Cmd} {s : State}

/-- A join of a legal size and position, of one slot and so without a domain, begins. -/
theorem opRingJoin_begins (hj : s.joined = false) (hn : s.ring.joining = none) (h1 : 2 ≤ natField (c.p 0) 10 6) (h2 : natField (c.p 0) 10 6 ≤ 32)
    (h3 : natField (c.p 0) 5 5 < natField (c.p 0) 10 6) (h4 : c.p 0 < 2 ^ 17) (hf : s.fuse GLB_FUSE_CFG_RING ≠ 0) (ho : c.own = 1) :
    opRingJoin c s = Res.later (s.joinBegun { c with params := c.params.take 10 }) := by
  unfold opRingJoin
  dsimp only
  rw [if_neg (by simp [hj, hn]; omega), if_neg hf, if_neg (by simp [ho]), if_neg (by omega)]
  simp [ho, State.joinBegun]

theorem opRingJoin_badSize (h : natField (c.p 0) 10 6 < 2 ∨ 32 < natField (c.p 0) 10 6 ∨ natField (c.p 0) 10 6 ≤ natField (c.p 0) 5 5) :
    opRingJoin c s = Res.err s 0x11 1 := by
  unfold opRingJoin
  dsimp only
  rw [if_pos (.inr (.inr h))]
  rfl

/-! ### The timeout -/

theorem execRingJoinTimeout_idle (hn : s.ring.joining = none) : exec .ringJoinTimeout s = finish s := by
  refine congrArg finish ?_
  rw [hn]

/-- One second after a join began without a neighbour, it fails. -/
theorem execRingJoinTimeout_alone {j : Joining} (hj : s.ring.joining = some j) (h0 : s.flag RING_STS_FL0_NB = false)
    (h1 : s.flag RING_STS_FL1_NB = false) : exec .ringJoinTimeout s = finish ((s.reachRun (j.since + 1000000000)).failJoin 5) := by
  refine congrArg finish ?_
  rw [hj]
  refine if_neg ?_
  simp only [State.flag, State.fld, reg_reachRun]
  simpa [State.flag, State.fld] using And.intro h0 h1

/-! ### ROLE_SET -/

/-- A role change of this device, pending and announced. -/
def State.roleSet (s : State) (c : Cmd) (w : RoleSwitch) : State :=
  (State.withSwitch { s with ring := { s.ring with ownSwitch := some (c, w) } } w).sendAll 2 s.tickIndex 16
    [w.kind, w.rsid, w.pos, w.origin, w.epoch, w.tick]

theorem roleSet_facts (s : State) (c : Cmd) (w : RoleSwitch) : Rings [.RING_STS] s (s.roleSet c w) ∧
    (s.roleSet c w).ring = { s.ring with switch := some w, ownSwitch := some (c, w) } ∧
    (s.roleSet c w).flag RING_STS_SWITCH_PENDING = true :=
  have hown : Rings [.RING_STS] s { s with ring := { s.ring with ownSwitch := some (c, w) } } := ⟨rfl, fun _ _ _ => rfl⟩
  ⟨((hown.trans (rings_withSwitch _ w)).trans (rings_submit ..)).trans (rings_submit ..), rfl, flag_withSwitch _ w⟩

theorem opRoleSet_accepts (hb : s.packageB = false) (hk : c.p 0 % 4 < 2) (hs : s.ring.switch = none) (ht : s.tickIndex + 2 ≤ c.p64 1)
    (hj : s.joined = true) (hp : natField (c.p 0) 8 5 < s.ringSize) :
    opRoleSet c s = Res.later (s.roleSet c { kind := c.p 0 % 4, rsid := natField (c.p 0) 2 6, pos := natField (c.p 0) 8 5, origin := s.ringPos,
                                             epoch := s.regN .RING_EPOCH + 1, tick := c.p64 1 }) := by
  unfold opRoleSet
  simp only [hb, hs, hj, if_neg (show ¬ 2 ≤ c.p 0 % 4 by omega), if_neg (show ¬ c.p64 1 = 0 by omega), if_neg (Nat.not_lt.mpr ht),
    Option.isSome_none, Bool.false_eq_true, if_false, Bool.not_true, false_or, if_neg (Nat.not_le.mpr hp)]
  rfl

/-! ### RING_LEAVE -/

/-- A leave that waits for the tick. -/
def State.leaveAsked (s : State) (c : Cmd) : State := ({ s with ring := { s.ring with leaving := some c } }).setFld RING_STS_STATE 3

theorem leaveAsked_facts (s : State) (c : Cmd) : Rings [.RING_STS] s (s.leaveAsked c) ∧ (s.leaveAsked c).fld RING_STS_STATE = 3 :=
  have hask : Rings [.RING_STS] s { s with ring := { s.ring with leaving := some c } } := ⟨rfl, fun _ _ _ => rfl⟩
  ⟨hask.trans (touches_setFld _ _ 3 0 (by simp)).rings, fld_setFld_same _ _ _ _ (by simp)⟩

theorem opRingLeave_refused (hb : s.packageB = false) (ho : s.streams.any (fun e => e.2.st != .free && isRing e.2.newest) = true) :
    opRingLeave c s = Res.err s 0x11 1 := (if_neg (by simp [hb])).trans (if_pos ho)

section
variable (hb : s.packageB = false) (ho : s.streams.any (fun e => e.2.st != .free && isRing e.2.newest) = false)
include hb ho

theorem opRingLeave_outside (hj : s.joined = false) : opRingLeave c s = Res.ok s :=
  (if_neg (by simp [hb])).trans ((if_neg (by simpa using ho)).trans (if_pos (by simp [hj])))

theorem opRingLeave_waits (hj : s.joined = true) (he : s.flag TK_CTRL_EN = true) : opRingLeave c s = Res.later (s.leaveAsked c) :=
  (if_neg (by simp [hb])).trans ((if_neg (by simpa using ho)).trans ((if_neg (by simp [hj])).trans (if_pos he)))

end

end

/-- A command that is listed leaves the package, and whether the device has joined. -/
theorem begun_packageB (c : Cmd) (s : State) : (begun c s).packageB = s.packageB := by
  simp only [State.packageB, State.fuse, begun_chip]

theorem begun_joined (c : Cmd) (s : State) : (begun c s).joined = s.joined := flag_begun _ _ _ _ (by simp [replyOnly])

/-- Registers that only the start of a command and an operation of the ring wrote. -/
theorem sameRegs_begun_rings {c : Cmd} {s t : State} {r : Reg} (h : Rings [r] (begun c s) t) : SameRegs [r, .CMDQ_STS, .CMDQ_HELD] s (settle t) :=
  sameRegs_settle fun x i hx => (h.2 x i (notMem_part hx (by simp))).trans ((listed_begun c s).2 x i (notMem_part hx (by simp [listRegs])))

/-- Settles O29: each command by the checks it passes and the state that then waits. -/
theorem ringMembershipIsCommanded : Obligations.RingMembershipIsCommanded := by
  unfold Obligations.RingMembershipIsCommanded
  refine ⟨fun c s hr hj hn h1 h2 h3 h4 hf hs hrb => ?_, fun c s hr h => gives_refused rfl hr (opRingJoin_badSize h), fun s hj h0 h1 => ?_,
    fun s hn => gives_unchanged (execRingJoinTimeout_idle hn), fun c s hr hb hk hs ht hj hp => ?_,
    fun c s hr hb ho => gives_refused rfl hr (opRingLeave_refused ((begun_packageB c s).trans hb) (by rwa [begun_streams])),
    fun c s hr hb ho hj => ?_, fun c s hr hb ho hj he => ?_⟩
  · have hown : c.own = 1 := by simp [Cmd.own, hrb, hs]
    obtain ⟨hring, hjoin, hstate⟩ := joinBegun_facts (begun c s) { c with params := c.params.take 10 }
    refine gives_deferred rfl hr (opRingJoin_begins ((begun_joined c s).trans hj) (by rwa [begun_ring]) h1 h2 h3 h4
      (by simpa only [State.fuse, begun_chip] using hf) hown) ⟨?_, ?_, ?_, ?_, ?_⟩
    · rw [settle_ring, hjoin, begun_tb]
      rfl
    · rw [fld_settle _ _ _ (by simp), hstate]
    · rw [reg_settle _ _ _ (by simp), hring.2 _ _ (by simp [linkRegs]), reg_begun _ _ _ _ (by simp [replyOnly])]
    · rw [settle_cmd, hring.cmd, (listed_begun c s).heldReplies]
    · rw [settle_streams, hring.streams, begun_streams]
  · obtain ⟨j, hj'⟩ := Option.ne_none_iff_exists'.mp hj
    have hframe := reachRun_frame s (j.since + 1000000000)
    obtain ⟨hring, hsts, hcfg, hstr⟩ := failJoin_facts (s := s.reachRun (j.since + 1000000000)) (j := j) (by rw [hframe]; exact hj') 5
    refine gives_finish (execRingJoinTimeout_alone hj' h0 h1) ⟨?_, ?_, ?_, ?_, ?_, ?_⟩
    · rw [settle_ring, hring]
    · rw [settle_ring, hring]
    · rw [settle_ring, hring]
    · rw [reg_settle _ _ _ (by simp), hsts]
    · rw [reg_settle _ _ _ (by simp), hcfg, reg_reachRun]
    · rw [settle_streams, hstr, hframe]
  · have hepoch : (begun c s).regN .RING_EPOCH = s.regN .RING_EPOCH := regN_begun _ _ _ _ (by simp [replyOnly])
    have hpos : (begun c s).ringPos = s.ringPos := fld_begun _ _ _ _ (by simp [replyOnly])
    have hsize : (begun c s).ringSize = s.ringSize := fld_begun _ _ _ _ (by simp [replyOnly])
    have htick : (begun c s).tickIndex = s.tickIndex := regN_begun _ _ _ _ (by simp [replyOnly])
    have hop := opRoleSet_accepts (c := c) ((begun_packageB c s).trans hb) hk (by rwa [begun_ring]) (by rwa [htick]) ((begun_joined c s).trans hj)
      (by rwa [hsize])
    rw [hpos, hepoch] at hop
    obtain ⟨hrings, hring, hpend⟩ := roleSet_facts (begun c s) c { kind := c.p 0 % 4, rsid := natField (c.p 0) 2 6, pos := natField (c.p 0) 8 5
                                                                   origin := s.ringPos, epoch := s.regN .RING_EPOCH + 1, tick := c.p64 1 }
    have hregs := sameRegs_begun_rings hrings
    refine gives_deferred rfl hr hop ⟨?_, ?_, ?_, ?_, hregs _ _ (by simp) (by simp), hregs⟩
    · rw [settle_ring, hring]
    · rw [settle_ring, hring, begun_ring]
    · rw [settle_ring, hring, begun_ring]
    · rw [flag_settle _ _ _ (by simp), hpend]
  · refine gives_ok rfl hr (opRingLeave_outside ((begun_packageB c s).trans hb) (by rwa [begun_streams]) ((begun_joined c s).trans hj)) ?_
    exact repliedOnly_of_rest ((begun_rest c s).trans (answer_rest ..))
  · obtain ⟨hrings, hstate⟩ := leaveAsked_facts (begun c s) c
    refine gives_deferred rfl hr (opRingLeave_waits ((begun_packageB c s).trans hb) (by rwa [begun_streams]) ((begun_joined c s).trans hj)
      ((flag_begun _ _ _ _ (by simp [replyOnly])).trans he)) ⟨?_, ?_, ?_, sameRegs_begun_rings hrings⟩
    · show { (begun c s).ring with leaving := some c } = _
      rw [begun_ring]
    · rw [fld_settle _ _ _ (by simp), hstate]
    · rw [State.joined, State.flag, State.fld, sameRegs_begun_rings hrings _ _ (by simp) (by simp)]
      exact hj

end Sys2Proof.Machine
end

section
/-!
PROOFS. HELLO, LEAVE, ROLE_UPDATE, NAK and discarded messages (R219 to R223, R226, R227, R240, R260).
-/
namespace Sys2Proof.Machine

/-! ### HELLO -/

section
variable {m : RingHdr} {h : HelloMsg} {s : State}

theorem execHello_deaf (hl : 2 ≤ m.link ∨ s.linkUp m.link = false) : exec (.hello m h) s = finish s :=
  congrArg finish (if_pos (by rcases hl with hl | hl <;> simp [hl]))

/-- A HELLO without fault that brings no role table is answered. -/
theorem execHello_answered (hl : m.link < 2) (hu : s.linkUp m.link = true) (hj : s.joined = true) (he : s.helloError m.link h = none)
    (hq : h.echo = false) (ht : h.hasTable = false) : exec (.hello m h) s = finish (s.sendHello m.link h.seq true) := by
  have hc : s.copyTable h = s := if_pos (by simp [ht])
  refine congrArg finish ((if_neg (by simp [hu, hj]; omega)).trans ?_)
  rw [he]
  simp only [hc, hq]
  rfl

/-- A HELLO of another grid fails the join. -/
theorem execHello_otherGrid (hl : m.link < 2) (hu : s.linkUp m.link = true) (hj : s.ring.joining ≠ none)
    (hg : h.num * s.fld TK_DEN_DEN ≠ s.fld TK_NUM_NUM * h.den) : exec (.hello m h) s = finish (s.failJoin 2) := by
  have hs : s.ring.joining.isSome = true := Option.isSome_iff_ne_none.mpr hj
  have he : s.helloError m.link h = some 2 := if_pos hg
  refine congrArg finish ((if_neg (by simp [hu, hs]; omega)).trans ?_)
  rw [he]
  exact if_pos hs

end

/-! ### Messages to a member -/

section
variable {m : RingHdr} {s : State} (hh : s.heeds m = true)
include hh

theorem execLeave_heeded (hl : m.link < 2) : exec (.leave m) s = finish (s.partition m.link) :=
  congrArg finish ((accept_heeded hh rfl ..).trans (if_pos hl))

/-- The update of the next epoch, while none is pending, is taken. -/
theorem execRoleUpdate_taken {k r p : Nat} (hk : k < 2) (hs : s.ring.switch = none) (hr : r < 64) (hp : p < 32) (o n : Nat) :
    exec (.roleUpdate m k r p o (s.regN .RING_EPOCH + 1) n) s =
      finish (s.withSwitch { kind := k, rsid := r, pos := p, origin := o, epoch := s.regN .RING_EPOCH + 1, tick := n }) := by
  refine congrArg finish ((accept_heeded hh rfl ..).trans ?_)
  simp only [hs, Nat.mod_eq_of_lt hr, Nat.mod_eq_of_lt hp]
  exact if_neg (by simp; omega)

theorem execRoleUpdate_otherEpoch {e : Nat} (he : e ≠ s.regN .RING_EPOCH + 1) (k r p o n : Nat) :
    exec (.roleUpdate m k r p o e n) s = finish s :=
  congrArg finish ((accept_heeded hh rfl ..).trans (if_pos (.inr (.inl he))))

theorem execNak_ofAsk {r : Nat} (hr : r < 64) (x q e n : Nat) :
    exec (.nak m 0x12 x q r e n) s = finish (s.onRs r fun y => { y with askOpen := false }) := by
  refine congrArg finish ((accept_heeded hh rfl ..).trans ((if_pos rfl).trans ?_))
  rw [Nat.mod_eq_of_lt hr]

theorem execNak_other {y : Nat} (hy : y ≠ 0x12) (x q r e n : Nat) : exec (.nak m y x q r e n) s = finish s :=
  congrArg finish ((accept_heeded hh rfl ..).trans (if_neg hy))

end

/-! ### Discarded messages -/

theorem messageDiscard_badCrc {k : Nat} {s : State} (hk : k < 2) :
    Gives (.messageDiscard k true) s fun t => t.regN .FL_CRC_CNT k = min 0xFFFFFFFF (s.regN .FL_CRC_CNT k + 1) ∧ t.flag FL_EVT_CRC k = true ∧
      OnlyRegs [.FL_CRC_CNT, .FL_EVT, .IC_PEND, .IC_MERGE_CNT] s t := by
  have ht := touches_event_self (s.bump .FL_CRC_CNT 1 k) FL_EVT_CRC k
  refine gives_finish (congrArg finish ((if_neg (by omega)).trans (if_pos rfl))) ⟨?_, ?_, onlyRegs_of_touches ?_⟩
  · rw [regN_settle _ _ _ (by simp), ht.regN (by simp [sourceOnly]) k, regN_bump_same]
  · rw [flag_settle _ _ _ (by simp), flag_event_same _ _ _ (by simp) (by simp) (by simp [sourceOnly])]
  · exact (touches_bump s .FL_CRC_CNT 1 k (by simp)).trans (ht.mono (by simp [sourceOnly]))

theorem messageDiscard_unknown {k : Nat} {s : State} (hk : k < 2) :
    Gives (.messageDiscard k false) s fun t =>
      t.regN .RING_UNKNOWN_CNT = min 0xFFFFFFFF (s.regN .RING_UNKNOWN_CNT + 1) ∧ OnlyRegs [.RING_UNKNOWN_CNT] s t := by
  refine gives_finish (congrArg finish ((if_neg (by omega)).trans (if_neg Bool.false_ne_true))) ⟨?_, onlyRegs_of_touches ?_⟩
  · rw [regN_settle _ _ _ (by simp), regN_bump_same]
  · exact touches_bump s .RING_UNKNOWN_CNT 1 0 (by simp)

/-- Settles O40: each message by the one change it makes, once it is known to be heeded. -/
theorem membershipMessagesAreHeeded : Obligations.MembershipMessagesAreHeeded := by
  unfold Obligations.MembershipMessagesAreHeeded
  refine ⟨fun m h s hl => gives_unchanged (execHello_deaf hl), fun m h s hl hu hj he hq ht => ?_, fun m h s hl hu hj hg => ?_,
    fun m s hh hl => ?_, fun m k r p o n s hh hk hs hr hp => ?_,
    fun m k r p o e n s hh he => gives_unchanged (execRoleUpdate_otherEpoch hh he ..), fun m x q r e n s hh hr => ?_,
    fun m y x q r e n s hh hy => gives_unchanged (execNak_other hh hy ..), fun k s hk => ⟨messageDiscard_badCrc hk, messageDiscard_unknown hk⟩⟩
  · obtain ⟨f, hf, htype, howner, hecho⟩ := sendHello_echo s m.link h.seq
    refine gives_finish (execHello_answered hl hu hj he hq ht) ?_
    rw [hf]
    have hr : Rings [] s (s.tookFree.submit f) := ⟨rfl, fun _ _ _ => rfl⟩
    exact ⟨rfl, List.length_append, by simp [State.submit, State.tookFree, htype, howner, hecho], hr.settled⟩
  · obtain ⟨j, hj'⟩ := Option.ne_none_iff_exists'.mp hj
    obtain ⟨hring, hsts, -, hstr⟩ := failJoin_facts hj' 2
    refine gives_finish (execHello_otherGrid hl hu hj hg) ⟨?_, ?_, hstr⟩
    · rw [settle_ring, hring]
    · rw [reg_settle _ _ _ (by simp), hsts]
  · obtain ⟨hpart, hevt⟩ := partition_facts s m.link
    have ht := touches_partition s m.link
    refine gives_finish (execLeave_heeded hh hl) ⟨?_, ?_, ?_, onlyRegs_of_touches ht⟩
    · rw [flag_settle _ _ _ (by simp), hpart]
    · rw [flag_settle _ _ _ (by simp), hevt]
    · rw [State.joined, flag_settle _ _ _ (by simp), ht.flag (by simp [partitionRegs])]
      exact heeds_joined hh
  · refine gives_finish (execRoleUpdate_taken hh hk hs hr hp o n) ⟨rfl, ?_, (rings_withSwitch s _).settled⟩
    rw [flag_settle _ _ _ (by simp), flag_withSwitch]
  · refine gives_finish (execNak_ofAsk hh hr ..) ⟨?_, (rings_onRs [] s r _).settled⟩
    rw [rs_settle, rs_onRs_same]

end Sys2Proof.Machine
end

section
/-!
SUPPORT. The laws of a ring picture: its registers, the instant that is waited for, the stream of an RSID, a PLAN that is taken or sent (R237 to
R240).
-/
namespace Sys2Proof.Machine

/-! ### Time -/

/-- An instant that is waited for has come. -/
theorem reach_ns_max (s : State) (t : Nat) : (s.reach t).tb.ns = max s.tb.ns t := by
  unfold State.reach
  split
  · show s.tb.ns + (t - s.tb.ns) = _
    omega
  · omega

/-- Waiting for an instant leaves everything but the time base. -/
theorem reach_frame (s : State) (t : Nat) : s.reach t = { s with tb := (s.reach t).tb } := by
  unfold State.reach
  split <;> rfl

/-! ### What stays of the streams and the memories -/

/-- The streams and the memories are as they were. -/
def KeepsStores (s t : State) : Prop := t.streams = s.streams ∧ t.mem = s.mem ∧ t.hostMem = s.hostMem ∧ t.spad = s.spad

theorem KeepsStores.trans {s t u : State} (h : KeepsStores s t) (k : KeepsStores t u) : KeepsStores s u :=
  ⟨k.1.trans h.1, k.2.1.trans h.2.1, k.2.2.1.trans h.2.2.1, k.2.2.2.trans h.2.2.2⟩

theorem Touches.keepsStores {rs : List Reg} {s t : State} (h : Touches rs s t) : KeepsStores s t :=
  ⟨h.rest.streams, h.mem, h.hostMem, h.spad⟩

theorem keepsStores_onRs (s : State) (r : Nat) (f : RsState → RsState) : KeepsStores s (s.onRs r f) := ⟨rfl, rfl, rfl, rfl⟩

theorem keepsStores_onEnc (s : State) (h : Nat) (f : EncPic → EncPic) : KeepsStores s (s.onEnc h f) := ⟨rfl, rfl, rfl, rfl⟩

theorem KeepsStores.settled {s t : State} (h : KeepsStores s t) : (settle t).streams = s.streams ∧ SameMemory s (settle t) :=
  ⟨h.1, sameMemory_of_mems h.2.1 h.2.2.1 h.2.2.2⟩

/-! ### Registers of a ring stream -/

/-- The registers that follow the state of a ring stream. -/
def rsRegs : List Reg := [.RING_RS_TOKENS_IN, .RING_RS_TOKENS_OUT, .RING_RS_CARRY, .RING_RS_PLAN_TICK]

theorem touches_showRs (s : State) (r : Nat) : Touches rsRegs s (s.showRs r) :=
  (((touches_putN s .RING_RS_TOKENS_IN _ r (by simp [rsRegs])).trans (touches_putN _ .RING_RS_TOKENS_OUT _ r (by simp [rsRegs]))).trans
    (touches_putN _ .RING_RS_CARRY _ r (by simp [rsRegs]))).trans (touches_putN _ .RING_RS_PLAN_TICK _ r (by simp [rsRegs]))

/-- The registers that follow the configuration and the rate state of a stream. -/
def streamRegs : List Reg := [.FB_S_RING_BASE, .FB_S_RING_SIZE, .RC_S_FILL, .RC_S_QP, .RC_S_ALPHA, .RC_S_FLOOR_TIME]

theorem touches_showStream (s : State) (h : Nat) : Touches streamRegs s (s.showStream h) := by
  unfold State.showStream
  dsimp only
  split
  · exact Touches.refl _ _
  · exact (((((touches_putN s .FB_S_RING_BASE _ h (by simp [streamRegs])).trans
      (touches_putN _ .FB_S_RING_SIZE _ h (by simp [streamRegs]))).trans (touches_putN _ .RC_S_FILL _ h (by simp [streamRegs]))).trans
      (touches_putN _ .RC_S_QP _ h (by simp [streamRegs]))).trans (touches_putN _ .RC_S_ALPHA _ h (by simp [streamRegs]))).trans
      (touches_putN _ .RC_S_FLOOR_TIME _ h (by simp [streamRegs]))

/-! ### The stream of an RSID -/

/-- A stream that is configured as the ring stream of an RSID. -/
def Stream.holdsRs (x : Stream) (r : Nat) : Bool := x.st != .free && x.st != .opened && isRing x.newest && rsid x.newest == r

theorem ringStream_isSome_iff (s : State) (r : Nat) : (s.ringStream r).isSome = true ↔ ∃ e ∈ s.streams, e.2.holdsRs r = true := by
  rw [State.ringStream, Option.isSome_map, List.find?_isSome]
  rfl

/-- Setting a key of a table lists the value, and unlists no entry but the one that the key read as. -/
theorem mem_storeInsert {α : Type} (st : Store α) (i : Nat) (x : α) :
    (i, x) ∈ storeInsert st i x ∧ ∀ e ∈ st, e ∈ storeInsert st i x ∨ storeFind st i = some e.2 := by
  induction st with
  | nil => exact ⟨List.mem_singleton.mpr rfl, fun e he => nomatch he⟩
  | cons p rest ih =>
    obtain ⟨k, v⟩ := p
    simp only [storeInsert, storeFind]
    split
    next hk =>
      refine ⟨List.mem_cons_self, fun e he => ?_⟩
      rcases List.mem_cons.mp he with rfl | he
      · exact .inr rfl
      · exact .inl (List.mem_cons_of_mem _ he)
    next hk =>
      split
      next => exact ⟨List.mem_cons_self, fun e he => .inl (List.mem_cons_of_mem _ he)⟩
      next =>
        refine ⟨List.mem_cons_of_mem _ ih.1, fun e he => ?_⟩
        rcases List.mem_cons.mp he with rfl | he
        · exact .inl List.mem_cons_self
        · exact (ih.2 e he).imp_left (List.mem_cons_of_mem _)

/-- An RSID keeps a stream when a stream that held it still does. -/
theorem ringStream_setStream {s : State} {r : Nat} (hs : (s.ringStream r).isSome = true) {h : Nat} {x : Stream} (hx : x ≠ {})
    (hk : (s.stream h).holdsRs r = true → x.holdsRs r = true) : ((s.setStream h x).ringStream r).isSome = true := by
  obtain ⟨e, he, hr⟩ := (ringStream_isSome_iff s r).mp hs
  obtain ⟨hin, hkeep⟩ := mem_storeInsert s.streams h x
  have hstr : (s.setStream h x).streams = storeInsert s.streams h x := if_neg hx
  rw [ringStream_isSome_iff, hstr]
  rcases hkeep e he with hm | hf
  · exact ⟨e, hm, hr⟩
  · have hstream : s.stream h = e.2 := by rw [State.stream, hf, Option.getD_some]
    exact ⟨(h, x), hin, hk (hstream ▸ hr)⟩

/-! ### A PLAN that is taken -/

/-- What a member holds of a PLAN: the tick, the types, the target, the shares. -/
def RsState.planned (x : RsState) (n : Nat) (p : PlanMsg) (bad : Bool) (carry : Nat) : RsState :=
  { x with planTick := some n, keyNow := p.key, nextKey := p.nextKey, target := p.target, shares := p.shares, badCfg := bad, carry := carry }

/-- The state of a ring stream is shown alike when a stream's record changes. -/
theorem showRs_onStream (u : State) (c : Bool) (h r : Nat) (f : Stream → Stream) :
    ∃ ss, State.showRs (if c then u else u.onStream h f) r = { u.showRs r with streams := ss } := by
  cases c
  case true => exact ⟨u.streams, rfl⟩
  case false => exact ⟨(u.onStream h f).streams, rfl⟩

/-- A carry that is lost is counted. -/
theorem touches_tokenLate (u : State) (c : Bool) : Touches [.RING_TOKEN_LATE_CNT] u (if c then u.bump .RING_TOKEN_LATE_CNT else u) := by
  cases c
  case true => exact touches_bump u .RING_TOKEN_LATE_CNT 1 0 (by simp)
  case false => exact Touches.refl _ u

/-- A PLAN that a member with the ring stream takes changes the state of the ring stream, a stream's buffer fill, and registers. -/
theorem applyPlan_eq {s : State} {p : PlanMsg} {h : Nat} (hr : s.ringStream p.rsid = some h) (n : Nat) :
    ∃ bad carry ss u, Touches (.RING_TOKEN_LATE_CNT :: rsRegs) (s.setRs p.rsid ((s.rs p.rsid).planned n p bad carry)) u ∧
      s.applyPlan n p = { u with streams := ss } := by
  have hlate : ∀ (u : State) (c : Bool), Touches (.RING_TOKEN_LATE_CNT :: rsRegs) u (State.showRs (if c then u.bump .RING_TOKEN_LATE_CNT else u) p.rsid) :=
    fun u c => ((touches_tokenLate u c).mono fun _ hm => by rw [List.mem_singleton.mp hm]; exact List.mem_cons_self).trans
      ((touches_showRs _ p.rsid).mono fun _ hm => List.mem_cons_of_mem _ hm)
  unfold State.applyPlan
  rw [hr]
  dsimp only
  obtain ⟨ss, he⟩ := showRs_onStream _ (s.isLead p.rsid) h p.rsid _
  exact ⟨_, _, ss, _, hlate _ _, he⟩

/-- The state of the ring stream after a PLAN, and what the PLAN leaves. -/
theorem applyPlan_facts {s : State} {p : PlanMsg} {h : Nat} (hr : s.ringStream p.rsid = some h) (n : Nat) :
    (∃ bad carry, (s.applyPlan n p).rs p.rsid = (s.rs p.rsid).planned n p bad carry) ∧ (s.applyPlan n p).codec = s.codec ∧
      (s.applyPlan n p).net = s.net ∧ (s.applyPlan n p).tb = s.tb ∧ SameMemory s (s.applyPlan n p) := by
  obtain ⟨bad, carry, ss, u, ht, he⟩ := applyPlan_eq hr n
  rw [he]
  refine ⟨⟨bad, carry, ?_⟩, ht.codec, ht.rest.net, ht.tb, sameMemory_of_mems ht.mem ht.hostMem ht.spad⟩
  exact (ht.rs p.rsid).trans (rs_setRs_same ..)

/-! ### A PLAN that is sent -/

theorem rs_onEnc (s : State) (h : Nat) (f : EncPic → EncPic) (r : Nat) : (s.onEnc h f).rs r = s.rs r := rfl

theorem rs_submit (s : State) (f : Frame) (r : Nat) : (s.submit f).rs r = s.rs r := rfl

theorem submit_last (s : State) (f : Frame) : (s.submit f).net.waiting.getLast? = some f := List.getLast?_concat

theorem submit_submit (s : State) (f g : Frame) : (s.submit f).submit g = { s with net := { s.net with waiting := s.net.waiting ++ [f, g] } } := by
  simp [State.submit]

/-- A message to every member is two frames that wait. -/
theorem sendAll_eq (s : State) (type n len : Nat) (pl : List Nat) :
    ∃ fs : List Frame, fs.length = 2 ∧ s.sendAll type n len pl = { s with net := { s.net with waiting := s.net.waiting ++ fs } } := by
  refine ⟨_, ?_, submit_submit s _ _⟩
  rfl

/-- A PLAN that the picture lead announces, and takes itself. -/
theorem announce_facts {s : State} {h r n : Nat} {x : Stream} {f : RsState → RsState} {p : PlanMsg} (l : List Nat) (hp : p.rsid = r)
    (hx : ((s.setStream h x).ringStream r).isSome = true) (hf : ∀ q, (f q).planSent = some n) :
    ((((((s.setStream h x).onRs r f).sendAll 0x10 n 160 l).applyPlan n p).showStream h).rs r).planSent = some n ∧
      ((((((s.setStream h x).onRs r f).sendAll 0x10 n 160 l).applyPlan n p).showStream h).rs r).planTick = some n ∧
      (((((s.setStream h x).onRs r f).sendAll 0x10 n 160 l).applyPlan n p).showStream h).net.waiting.length = s.net.waiting.length + 2 ∧
      (((((s.setStream h x).onRs r f).sendAll 0x10 n 160 l).applyPlan n p).showStream h).tb = s.tb := by
  subst hp
  obtain ⟨g, hg⟩ := Option.isSome_iff_exists.mp hx
  obtain ⟨fs, hfs, hsend⟩ := sendAll_eq ((s.setStream h x).onRs p.rsid f) 0x10 n 160 l
  have hrs : (((s.setStream h x).onRs p.rsid f).sendAll 0x10 n 160 l).rs p.rsid = f ((s.setStream h x).rs p.rsid) := by
    rw [hsend]
    exact rs_onRs_same ..
  have hnet : (((s.setStream h x).onRs p.rsid f).sendAll 0x10 n 160 l).net.waiting.length = s.net.waiting.length + 2 := by
    rw [hsend, ← hfs]
    exact List.length_append
  have htb : (((s.setStream h x).onRs p.rsid f).sendAll 0x10 n 160 l).tb = s.tb := by rw [hsend]; rfl
  have hring : (((s.setStream h x).onRs p.rsid f).sendAll 0x10 n 160 l).ringStream p.rsid = some g := by rw [hsend]; exact hg
  generalize ((s.setStream h x).onRs p.rsid f).sendAll 0x10 n 160 l = u at hrs hnet htb hring ⊢
  obtain ⟨⟨bad, carry, htaken⟩, -, hnet', htb', -⟩ := applyPlan_facts hring n
  have hshow := touches_showStream (u.applyPlan n p) h
  refine ⟨?_, ?_, ?_, ?_⟩
  · rw [hshow.rs, htaken, hrs]
    exact hf _
  · rw [hshow.rs, htaken]
    rfl
  · rw [hshow.rest.net, hnet', hnet]
  · rw [hshow.tb, htb', htb]

/-- A picture lead that runs the stream, at a tick for which it has sent no PLAN, puts its rate state and key requests on record, announces
a PLAN and takes it. -/
theorem sendPlan_eq {s : State} {r h n : Nat} (hl : s.isLead r = true) (hp : (s.rs r).planSent ≠ some n) (hr : s.ringStream r = some h)
    (hd : (s.stream h).dec = false) (hw : (s.stream h).words ≠ []) (hst : (s.stream h).st = .running) :
    ∃ (u : State) (rate : RateState) (req : List Nat) (f : RsState → RsState) (l : List Nat) (p : PlanMsg),
      (u.streams = s.streams ∧ u.net = s.net ∧ u.tb = s.tb) ∧ p.rsid = r ∧ (∀ q, (f q).planSent = some n) ∧
      s.sendPlan r n = (((((u.setStream h { s.stream h with rate := rate, keyDue := false, keyReq := req }).onRs r f).sendAll 0x10 n 160 l).applyPlan n p).showStream h) := by
  unfold State.sendPlan
  rw [hr]
  dsimp -zeta only
  rw [if_neg (by simp [hd, hl, hw, hp, hst])]
  extract_lets fs bits cplx rep moved rate x1 key rk ws capMin k void cap size units all shares g floorAll target cuts bands late s0 next order p s1 s2
  have hs0 : s0.streams = s.streams ∧ s0.net = s.net ∧ s0.tb = s.tb := by
    unfold s0
    split <;> exact ⟨rfl, rfl, rfl⟩
  exact ⟨s0.tookFree, rate, _, _, _, p, hs0, rfl, fun _ => rfl, rfl⟩

/-- What a picture lead that runs the stream sends at a tick for which it has sent none. -/
theorem sendPlan_facts {s : State} {r h n : Nat} (hl : s.isLead r = true) (hp : (s.rs r).planSent ≠ some n) (hr : s.ringStream r = some h)
    (hd : (s.stream h).dec = false) (hw : (s.stream h).words ≠ []) (hst : (s.stream h).st = .running) :
    ((s.sendPlan r n).rs r).planSent = some n ∧ ((s.sendPlan r n).rs r).planTick = some n ∧
      (s.sendPlan r n).net.waiting.length = s.net.waiting.length + 2 ∧ (s.sendPlan r n).tb = s.tb := by
  obtain ⟨u, rate, req, f, l, p, ⟨hstreams, hnet, htb⟩, hrsid, hf, he⟩ := sendPlan_eq hl hp hr hd hw hst
  have hstream : u.stream h = s.stream h := by rw [State.stream, hstreams, State.stream]
  have hsome : (u.ringStream r).isSome = true := by
    rw [State.ringStream, hstreams]
    exact (congrArg Option.isSome hr).trans rfl
  have hne : ({ s.stream h with rate := rate, keyDue := false, keyReq := req } : Stream) ≠ {} := fun hx => by
    have hfree := congrArg Stream.st hx
    rw [hst] at hfree
    cases hfree
  have hkept := ringStream_setStream hsome hne (by rw [hstream]; exact id)
  obtain ⟨hsent, htick, hlen, htb'⟩ := announce_facts (s := u) (n := n) (f := f) l hrsid hkept hf
  rw [he]
  exact ⟨hsent, htick, hnet ▸ hlen, htb'.trans htb⟩

end Sys2Proof.Machine
end

section
/-!
PROOFS. PLAN, DONATE, ASK, GRANT and FINAL at the member that handles them (R227, R237 to R241).
-/
namespace Sys2Proof.Machine

/-! ### The states after a GRANT and a FINAL -/

/-- The state once a GRANT is heard: the ASK is no longer open. -/
def State.askClosed (s : State) (r : Nat) : State := s.onRs r fun x => { x with askOpen := false }

/-- The state once a position's FINAL is noted, and the bank is shown. -/
def State.finalNoted (s : State) (r pos : Nat) (f : FinalRec) : State :=
  let s1 := s.onRs r fun x => { x with finals := storeInsert x.finals pos f }
  s1.putN .RING_RS_POOL (s1.rs r).pool r

theorem rings_finalNoted (s : State) (r pos : Nat) (f : FinalRec) : Rings [.RING_RS_POOL] s (s.finalNoted r pos f) :=
  (rings_onRs _ s r _).trans (touches_putN _ .RING_RS_POOL _ r (List.mem_singleton.mpr rfl)).rings

theorem rs_finalNoted (s : State) (r pos : Nat) (f : FinalRec) :
    (s.finalNoted r pos f).rs r = { s.rs r with finals := storeInsert (s.rs r).finals pos f } :=
  ((touches_putN _ .RING_RS_POOL _ r (List.mem_singleton.mpr rfl)).rs r).trans (rs_onRs_same s r _)

/-! ### What the messages do to a member that heeds them -/

section
variable {m : RingHdr} {r g n : Nat} {s : State} (hh : s.heeds m = true)
include hh

theorem execPlan_heeded (p : PlanMsg) : exec (.plan m p) s = finish (s.applyPlan m.tick p) := congrArg finish (accept_heeded hh rfl ..)

theorem execDonate_atLead (hl : s.isLead r = true) : exec (.donate m r g n) s = finish (s.bankTake r n) := congrArg finish (accept_heeded hh hl ..)

theorem execAsk_atLead (hl : s.isLead r = true) : exec (.ask m r g n) s = finish (s.bankGrant r m.src g n).1 :=
  congrArg finish (accept_heeded hh hl ..)

/-- A DONATE or an ASK that a member without the role gets is dropped. -/
theorem execDonate_elsewhere (hl : s.isLead r = false) : exec (.donate m r g n) s = finish (s.dropStale m 0x11 2 g r) :=
  congrArg finish (accept_without_role hh hl ..)

theorem execAsk_elsewhere (hl : s.isLead r = false) : exec (.ask m r g n) s = finish (s.dropStale m 0x12 2 g r) :=
  congrArg finish (accept_without_role hh hl ..)

/-- A GRANT in time raises the cap of the picture in flight. -/
theorem execGrant_live {h : Nat} {q : EncPic} (hr : s.ringStream r = some h) (hq : s.encOf h = some q) (hp : q.passed = false) (ht : q.tick = m.tick) :
    exec (.grant m r g n) s =
      finish ((((s.askClosed r).onEnc h fun q => { q with cap := q.cap + n }).onRs r fun x => { x with granted := x.granted + n }).showRs r) := by
  refine congrArg finish ((accept_heeded hh rfl ..).trans ?_)
  rw [hr]
  dsimp only
  rw [hq]
  exact if_pos (by simp [hp, ht])

/-- A GRANT with no picture in flight is counted and, outside CBR mode, carried. -/
theorem execGrant_late {h : Nat} (hr : s.ringStream r = some h) (hq : s.encOf h = none) (hn : 0 < n) (hm : rateMode (s.stream h).rateCfg ≠ 0) :
    exec (.grant m r g n) s =
      finish ((((s.askClosed r).bump .RING_TOKEN_LATE_CNT).onRs r fun x => { x with carry := x.carry + n }).showRs r) := by
  refine congrArg finish ((accept_heeded hh rfl ..).trans ?_)
  rw [hr]
  dsimp only
  rw [hq, if_neg Bool.false_ne_true, if_neg hm, if_neg (Nat.ne_of_gt hn)]
  rfl

/-- A FINAL of the tick being gathered is noted, at a picture lead that is not yet at the next tick. -/
theorem execFinal_noted {h f k x c : Nat} (hl : s.isLead r = true) (hr : s.ringStream r = some h) (hf : (s.rs r).finalTick = m.tick)
    (ht : m.tick + 1 ≠ s.tickIndex) :
    exec (.final m r f n k x c) s = finish (s.finalNoted r m.src { flags := f, bits := n, carry := k, cplx := x, cut := c }) := by
  refine congrArg finish ((accept_heeded hh (by rw [hl, Bool.or_true]) ..).trans ?_)
  rw [if_neg (by simp [hf, hr])]
  extract_lets q s1 s2
  have hs1 : s1 = s.onRs r fun x => { x with finals := storeInsert x.finals m.src q } := by
    simp only [s1, State.onRs, if_pos hf]
  have hs2 : s2 = s.finalNoted r m.src q := (if_pos hl).trans (by rw [hs1]; rfl)
  clear_value s1 s2
  have htick : s2.tickIndex = s.tickIndex := by
    rw [hs2]
    exact (touches_putN _ .RING_RS_POOL _ r (List.mem_singleton.mpr rfl)).regN (i := 0) (by simp)
  rw [if_neg fun hc => ht (hc.2.1.trans htick), hs2]

end

/-! ### PLAN_SEND_TIMEOUT -/

theorem execPlanSendTimeout_sends {r : Nat} {s : State} (hg : s.flag TK_CTRL_EN = true) (hl : s.isLead r = true)
    (hp : (s.rs r).planSent ≠ some s.tickIndex) :
    exec (.planSendTimeout r) s = finish ((s.reach (s.tickTime s.tickIndex + 1000)).sendPlan r s.tickIndex) :=
  congrArg finish (if_neg (by rw [hg, hl]; simpa using hp))

theorem execPlanSendTimeout_idle {r : Nat} {s : State}
    (h : s.flag TK_CTRL_EN = false ∨ s.isLead r = false ∨ (s.rs r).planSent = some s.tickIndex) : exec (.planSendTimeout r) s = finish s :=
  congrArg finish (if_pos (by simpa using h))

/-! ### What they leave -/

/-- The member takes the PLAN. -/
theorem plan_taken {m : RingHdr} {p : PlanMsg} {h : Nat} {s : State} (hh : s.heeds m = true) (hr : s.ringStream p.rsid = some h) :
    Gives (.plan m p) s fun t =>
      (t.rs p.rsid).planTick = some m.tick ∧ (t.rs p.rsid).keyNow = p.key ∧ (t.rs p.rsid).nextKey = p.nextKey ∧ (t.rs p.rsid).target = p.target ∧
        (t.rs p.rsid).shares = p.shares ∧ t.codec = s.codec ∧ SameMemory s t := by
  obtain ⟨⟨bad, carry, hrs⟩, hcodec, -, -, hmem⟩ := applyPlan_facts hr m.tick
  refine gives_finish (execPlan_heeded hh p) ?_
  rw [rs_settle, hrs]
  exact ⟨rfl, rfl, rfl, rfl, rfl, hcodec, hmem⟩

/-- The bank takes what is donated. -/
theorem donate_banked {m : RingHdr} {r q n : Nat} {s : State} (hh : s.heeds m = true) (hl : s.isLead r = true) :
    Gives (.donate m r q n) s fun t =>
      t.rs r = { s.rs r with pool := (s.rs r).pool + n } ∧ t.streams = s.streams ∧ t.net = s.net ∧ SameRegs [] s t ∧ SameMemory s t := by
  have hrs : (s.bankTake r n).rs r = { s.rs r with pool := (s.rs r).pool + n } := rs_onRs_same s r _
  have hring : Rings [] s (s.bankTake r n) := rings_onRs [] s r _
  refine gives_finish (execDonate_atLead hh hl) ⟨?_, hring.streams, rfl, hring.settled.2⟩
  rw [rs_settle, hrs]

/-- The bank answers an ASK of another position with a GRANT of no more than it holds. -/
theorem ask_granted {m : RingHdr} {r q n : Nat} {s : State} (hh : s.heeds m = true) (hl : s.isLead r = true) (hp : m.src ≠ s.ringPos) :
    Gives (.ask m r q n) s fun t =>
      t.rs r = { s.rs r with pool := (s.rs r).pool - min n (s.rs r).pool } ∧ t.net.waiting.length = s.net.waiting.length + 1 ∧
      t.net.waiting.getLast?.any (fun f => decide (f.words = [0x13, 0, s.ringPos, m.src, s.epochAt s.tickIndex, s.tickIndex, r, q, min n (s.rs r).pool])) = true ∧
      t.streams = s.streams ∧ SameRegs [] s t ∧ SameMemory s t := by
  have hg : (s.bankGrant r m.src q n).1 = (s.onRs r fun x => { x with pool := x.pool - min n (s.rs r).pool }).sendTo m.src 0x13 s.tickIndex 16
      [r, q, min n (s.rs r).pool] := if_neg hp
  refine gives_finish (execAsk_atLead hh hl) ?_
  rw [hg]
  refine ⟨?_, List.length_append, ?_, ((rings_onRs [] s r _).trans (rings_submit [] _ _)).settled⟩
  · rw [rs_settle]
    exact (rs_submit _ _ r).trans (rs_onRs_same s r _)
  · refine (congrArg (Option.any _) (submit_last _ _)).trans ?_
    exact decide_eq_true rfl

/-- The GRANT reaches the picture in flight. -/
theorem grant_live {m : RingHdr} {r g n h : Nat} {q : EncPic} {s : State} (hh : s.heeds m = true) (hr : s.ringStream r = some h)
    (hq : s.encOf h = some q) (hp : q.passed = false) (ht : q.tick = m.tick) :
    Gives (.grant m r g n) s fun t =>
      t.encOf h = some { q with cap := q.cap + n } ∧ t.rs r = { s.rs r with askOpen := false, granted := (s.rs r).granted + n } ∧ t.streams = s.streams ∧
      SameMemory s t := by
  refine gives_finish (execGrant_live hh hr hq hp ht) ?_
  have hpic : ((s.askClosed r).onEnc h fun q => { q with cap := q.cap + n }).encOf h = some { q with cap := q.cap + n } :=
    encOf_onEnc_some hq fun _ => ⟨rfl, rfl⟩
  have hrs : ((s.askClosed r).onEnc h fun q => { q with cap := q.cap + n }).rs r = { s.rs r with askOpen := false } :=
    (rs_onEnc ..).trans (rs_onRs_same s r _)
  have hkeep : KeepsStores s ((s.askClosed r).onEnc h fun q => { q with cap := q.cap + n }) :=
    (keepsStores_onRs s r _).trans (keepsStores_onEnc _ _ _)
  generalize (s.askClosed r).onEnc h (fun q => { q with cap := q.cap + n }) = u at hpic hrs hkeep ⊢
  have hshow := touches_showRs (u.onRs r fun x => { x with granted := x.granted + n }) r
  obtain ⟨hstr, hmem⟩ := ((hkeep.trans (keepsStores_onRs u r _)).trans hshow.keepsStores).settled
  refine ⟨?_, ?_, hstr, hmem⟩
  · rw [encOf_settle, State.encOf, hshow.codec]
    exact hpic
  · rw [rs_settle, hshow.rs, rs_onRs_same, hrs]

/-- The GRANT comes after the picture. -/
theorem grant_late {m : RingHdr} {r g n h : Nat} {s : State} (hh : s.heeds m = true) (hr : s.ringStream r = some h)
    (hq : s.encOf h = none) (hn : 0 < n) (hm : rateMode (s.stream h).rateCfg ≠ 0) :
    Gives (.grant m r g n) s fun t =>
      t.rs r = { s.rs r with askOpen := false, carry := (s.rs r).carry + n } ∧
      t.regN .RING_TOKEN_LATE_CNT = min 0xFFFFFFFF (s.regN .RING_TOKEN_LATE_CNT + 1) ∧ t.codec = s.codec ∧ t.streams = s.streams := by
  refine gives_finish (execGrant_late hh hr hq hn hm) ?_
  have hbump := touches_bump (s.askClosed r) .RING_TOKEN_LATE_CNT 1 0 (List.mem_singleton.mpr rfl)
  have hcnt := regN_bump_same (s.askClosed r) .RING_TOKEN_LATE_CNT 1 0
  have hrs : ((s.askClosed r).bump .RING_TOKEN_LATE_CNT).rs r = { s.rs r with askOpen := false } := (hbump.rs r).trans (rs_onRs_same s r _)
  have hring := (rings_onRs [.RING_TOKEN_LATE_CNT] s r fun x => { x with askOpen := false }).trans hbump.rings
  generalize (s.askClosed r).bump .RING_TOKEN_LATE_CNT = u at hcnt hrs hring ⊢
  have hlast := rings_onRs rsRegs u r fun x => { x with carry := x.carry + n }
  have hshow := touches_showRs (u.onRs r fun x => { x with carry := x.carry + n }) r
  refine ⟨?_, ?_, ?_, ?_⟩
  · rw [rs_settle, hshow.rs, rs_onRs_same, hrs]
  · rw [regN_settle _ _ _ (by simp), hshow.regN (by simp [rsRegs])]
    exact hcnt
  · rw [settle_codec, hshow.codec, hlast.codec, hring.codec]
  · rw [settle_streams, hshow.rest.streams, hlast.streams, hring.streams]

/-- The FINAL is noted by position. -/
theorem final_noted {m : RingHdr} {r f n k x c h : Nat} {s : State} (hh : s.heeds m = true) (hl : s.isLead r = true) (hr : s.ringStream r = some h)
    (hf : (s.rs r).finalTick = m.tick) (ht : m.tick + 1 ≠ s.tickIndex) :
    Gives (.final m r f n k x c) s fun t =>
      t.rs r = { s.rs r with finals := storeInsert (s.rs r).finals m.src { flags := f, bits := n, carry := k, cplx := x, cut := c } } ∧
      t.streams = s.streams ∧ t.codec = s.codec ∧ SameRegs [.RING_RS_POOL] s t ∧ SameMemory s t := by
  have hring := rings_finalNoted s r m.src { flags := f, bits := n, carry := k, cplx := x, cut := c }
  refine gives_finish (execFinal_noted hh hl hr hf ht) ⟨?_, hring.streams, hring.codec, hring.settled.2⟩
  rw [rs_settle, rs_finalNoted]

/-- A picture lead whose PLAN is not sent sends it when the wait ends. -/
theorem planSendTimeout_sends {r h : Nat} {s : State} (hg : s.flag TK_CTRL_EN = true) (hl : s.isLead r = true)
    (hp : (s.rs r).planSent ≠ some s.tickIndex) (hr : s.ringStream r = some h) (hd : (s.stream h).dec = false) (hw : (s.stream h).words ≠ [])
    (hst : (s.stream h).st = .running) :
    Gives (.planSendTimeout r) s fun t =>
      (t.rs r).planSent = some s.tickIndex ∧ (t.rs r).planTick = some s.tickIndex ∧ t.net.waiting.length = s.net.waiting.length + 2 ∧
      t.tb.ns = max s.tb.ns (s.tickTime s.tickIndex + 1000) := by
  have hb := reach_frame s (s.tickTime s.tickIndex + 1000)
  obtain ⟨hsent, htick, hlen, htb⟩ := sendPlan_facts (s := s.reach (s.tickTime s.tickIndex + 1000)) (r := r) (h := h) (n := s.tickIndex)
    (by rw [hb]; exact hl) (by rw [hb]; exact hp) (by rw [hb]; exact hr) (by rw [hb]; exact hd) (by rw [hb]; exact hw) (by rw [hb]; exact hst)
  refine gives_finish (execPlanSendTimeout_sends hg hl hp) ⟨hsent, htick, hlen.trans (by rw [hb]), ?_⟩
  rw [settle_tb, htb, reach_ns_max]

/-- Settles O41: each message by the change it makes at the member that heeds it; a PLAN that is sent, by the stream, the rate state and the
frames it leaves. -/
theorem ringPicturesArePlannedAndPaid : Obligations.RingPicturesArePlannedAndPaid := by
  unfold Obligations.RingPicturesArePlannedAndPaid
  refine ⟨fun m p h s hh hr => plan_taken hh hr, fun m r q n s hh hl => donate_banked hh hl, fun m r q n s hh hl hp => ask_granted hh hl hp,
    fun m r q n s hh hl => ⟨?_, ?_⟩, fun m r g n h q s hh hr hq hp ht => grant_live hh hr hq hp ht,
    fun m r g n h s hh hr hq hn hm => grant_late hh hr hq hn hm, fun m r f n k x c h s hh hl hr hf ht => final_noted hh hl hr hf ht,
    fun r h s hg hl hp hr hd hw hst => planSendTimeout_sends hg hl hp hr hd hw hst,
    fun r s h => gives_unchanged (execPlanSendTimeout_idle h)⟩
  · obtain ⟨t, ht, hcnt, -, hring, hstr, -⟩ := dropStale_gives (execDonate_elsewhere hh hl)
    exact ⟨t, ht, hcnt, hring, hstr⟩
  · obtain ⟨t, ht, hcnt, -, hring, hstr, -⟩ := dropStale_gives (execAsk_elsewhere hh hl)
    exact ⟨t, ht, hcnt, hring, hstr⟩

end Sys2Proof.Machine
end

section
/-!
SUPPORT. The laws of the cell pool: the frames of a queue, the count of free cells, what a frame that is lost writes, a flush, and the record of
an uncorrectable error (R353 to R356, R366).
-/
namespace Sys2Proof.Machine

/-! ### Tables -/

theorem flow_setFlow_same (s : State) (f : Nat) (x : Flow) : (s.setFlow f x).flow f = x := by
  unfold State.setFlow State.flow
  by_cases h : x = {} <;> simp [h]

theorem flow_setFlow_ne (s : State) {f e : Nat} (x : Flow) (h : e ≠ f) : (s.setFlow f x).flow e = s.flow e := by
  unfold State.setFlow State.flow
  by_cases hx : x = {}
  · simp [hx, storeFind_drop_ne _ h.symm]
  · simp [hx, storeFind_insert_ne _ _ h.symm]

theorem reg_setFlow (s : State) (f : Nat) (x : Flow) (r : Reg) (i : Nat) : (s.setFlow f x).reg r i = s.reg r i := rfl
theorem regN_setFlow (s : State) (f : Nat) (x : Flow) (r : Reg) (i : Nat) : (s.setFlow f x).regN r i = s.regN r i := rfl
theorem flag_setFlow (s : State) (f : Nat) (x : Flow) (g : Field) (i : Nat) : (s.setFlow f x).flag g i = s.flag g i := rfl
theorem stream_setFlow (s : State) (f : Nat) (w : Flow) (k : Nat) : (s.setFlow f w).stream k = s.stream k := rfl
theorem keepsStores_setFlow (s : State) (f : Nat) (x : Flow) : KeepsStores s (s.setFlow f x) := ⟨rfl, rfl, rfl, rfl⟩

theorem stream_onStream_ne (s : State) {h k : Nat} (f : Stream → Stream) (hk : k ≠ h) : (s.onStream h f).stream k = s.stream k := by
  unfold State.onStream State.setStream State.stream
  dsimp only
  split
  · rw [storeFind_drop_ne _ hk.symm]
  · rw [storeFind_insert_ne _ _ hk.symm]

/-! ### Waiting -/

theorem keepsStores_reach (s : State) (t : Nat) : KeepsStores s (s.reach t) := by
  rw [reach_frame]
  exact ⟨rfl, rfl, rfl, rfl⟩

theorem keepsStores_reachRun (s : State) (t : Nat) : KeepsStores s (s.reachRun t) := by
  rw [reachRun_frame]
  exact ⟨rfl, rfl, rfl, rfl⟩

/-! ### What the cell pool's operations leave -/

/-- Only registers of a list, the frames and the arbiters' turns differ. -/
def Pools (rs : List Reg) (s t : State) : Prop :=
  t = { s with regs := t.regs, net := t.net, arbPtr := t.arbPtr } ∧ ∀ r i, r ∉ rs → t.reg r i = s.reg r i

theorem Pools.trans {rs : List Reg} {s t u : State} (h : Pools rs s t) (k : Pools rs t u) : Pools rs s u := by
  refine ⟨?_, fun r i hr => (k.2 r i hr).trans (h.2 r i hr)⟩
  have h1 := h.1
  have k1 := k.1
  rw [k1, h1]

theorem Pools.mono {rs rs' : List Reg} {s t : State} (h : Pools rs s t) (hs : ∀ r ∈ rs, r ∈ rs') : Pools rs' s t :=
  ⟨h.1, fun r i hr => h.2 r i (notMem_part hr hs)⟩

theorem Touches.pools {rs : List Reg} {s t : State} (h : Touches rs s t) : Pools rs s t := by
  refine ⟨?_, h.2⟩
  have h1 := h.1
  rw [h1]

theorem Pools.flows {rs : List Reg} {s t : State} (h : Pools rs s t) : t.flows = s.flows := by rw [h.1]
theorem Pools.streams {rs : List Reg} {s t : State} (h : Pools rs s t) : t.streams = s.streams := by rw [h.1]
theorem Pools.tb {rs : List Reg} {s t : State} (h : Pools rs s t) : t.tb = s.tb := by rw [h.1]
theorem Pools.sent {rs : List Reg} {s t : State} (h : Pools rs s t) : t.sent = s.sent := by rw [h.1]
theorem Pools.keepsStores {rs : List Reg} {s t : State} (h : Pools rs s t) : KeepsStores s t := by
  refine ⟨h.streams, ?_, ?_, ?_⟩ <;> rw [h.1]
theorem Pools.flow {rs : List Reg} {s t : State} (h : Pools rs s t) (f : Nat) : t.flow f = s.flow f := by rw [State.flow, h.flows, State.flow]
theorem Pools.stream {rs : List Reg} {s t : State} (h : Pools rs s t) (k : Nat) : t.stream k = s.stream k := by
  rw [State.stream, h.streams, State.stream]
theorem Pools.fld {rs : List Reg} {s t : State} (h : Pools rs s t) {f : Field} (hf : f.reg ∉ rs) (i : Nat := 0) : t.fld f i = s.fld f i := by
  simp only [State.fld, h.2 f.reg i hf]
theorem Pools.regN {rs : List Reg} {s t : State} (h : Pools rs s t) {r : Reg} (hr : r ∉ rs) (i : Nat := 0) : t.regN r i = s.regN r i := by
  simp only [State.regN, h.2 r i hr]

/-- What they leave once the outputs follow. -/
theorem Pools.settled {rs : List Reg} {s t : State} (h : Pools rs s t) :
    (settle t).flows = s.flows ∧ (settle t).streams = s.streams ∧ SameRegs rs s (settle t) ∧ SameMemory s (settle t) :=
  ⟨h.flows, h.streams, sameRegs_settle h.2, h.keepsStores.settled.2⟩

theorem pools_arbGrant (s : State) (i r : Nat) : Pools [.ARB_STS] s (s.arbGrant i r) := by
  have h := touches_setFld s ARB_STS_LAST_GRANT r i (List.mem_singleton.mpr rfl)
  exact ⟨rfl, h.2⟩

/-! ### The frames of a queue -/

theorem touches_syncQueue (s : State) (q : Nat) : Touches [.CELLQ_Q_DEPTH] s (s.syncQueue q) :=
  touches_putN s .CELLQ_Q_DEPTH _ q (List.mem_singleton.mpr rfl)

theorem pools_setFrames (s : State) (q : Nat) (l : List Frame) : Pools [.CELLQ_Q_DEPTH] s (s.setFrames q l) := by
  refine Pools.trans (t := { s with net := _ }) ⟨rfl, fun _ _ _ => rfl⟩ (touches_syncQueue _ q).pools

theorem frames_setFrames (s : State) (q : Nat) (l : List Frame) : (s.setFrames q l).frames q = l := by
  show (storeFind (if l.isEmpty then storeDrop s.net.queued q else storeInsert s.net.queued q l) q).getD [] = l
  cases l
  case nil => simp
  case cons f rest => simp

/-- Of the frames, those queued alone change. -/
theorem setFrames_net (s : State) (q : Nat) (l : List Frame) : ∃ x, (s.setFrames q l).net = { s.net with queued := x } :=
  ⟨_, (touches_syncQueue _ q).rest.net⟩

theorem setFrames_waiting (s : State) (q : Nat) (l : List Frame) : (s.setFrames q l).net.waiting = s.net.waiting := by
  obtain ⟨x, hx⟩ := setFrames_net s q l
  rw [hx]

theorem setFrames_sending (s : State) (q : Nat) (l : List Frame) : (s.setFrames q l).net.sending = s.net.sending := by
  obtain ⟨x, hx⟩ := setFrames_net s q l
  rw [hx]

theorem frames_congr {s t : State} (h : t.net = s.net) (q : Nat) : t.frames q = s.frames q := by rw [State.frames, h, State.frames]

theorem flying_congr {s t : State} (h : t.net.sending = s.net.sending) (q : Nat) : t.flying q = s.flying q := by rw [State.flying, h, State.flying]

/-- The frames that remain in a queue are set, but for the instant from which a new head waits. -/
theorem keepFrames_eq (s : State) (q : Nat) (l : List Frame) : ∃ l' : List Frame, l'.map (·.words) = l.map (·.words) ∧ s.keepFrames q l = s.setFrames q l' := by
  refine ⟨_, ?_, rfl⟩
  cases l
  case nil => rfl
  case cons f rest =>
    dsimp only
    split <;> rfl

/-! ### Free cells -/

theorem touches_freeCells (s : State) (n : Nat) : Touches [.CELLQ_STS] s (s.freeCells n) := touches_setFld s CELLQ_STS_FREE _ 0 (List.mem_singleton.mpr rfl)

/-- Cells that return are free, up to the size of the pool. -/
theorem free_freeCells (s : State) (n : Nat) : (s.freeCells n).fld CELLQ_STS_FREE = min 16384 (s.fld CELLQ_STS_FREE + n) := by
  rw [State.freeCells, fld_setFld_same _ _ _ _ (by simp), Nat.mod_eq_of_lt]
  exact lt_of_le_of_lt (Nat.min_le_left ..) (by simp)

/-- The registers of cells that are taken. -/
def takenRegs : List Reg := [.CELLQ_STS, .CELLQ_EVT, .IC_PEND, .IC_MERGE_CNT]

theorem touches_eventIf (s : State) (b : Bool) (f : Field) (i : Nat) : Touches (f.reg :: sourceOnly) s (s.eventIf b f i) := by
  cases b
  case true => exact touches_event_self s f i
  case false => exact Touches.refl _ s

theorem touches_takeCells (s : State) (n : Nat) : Touches takenRegs s (s.takeCells n) :=
  (touches_setFld s CELLQ_STS_FREE _ 0 (by simp [takenRegs])).trans ((touches_eventIf _ _ CELLQ_EVT_LOW 0).mono (by simp [sourceOnly, takenRegs]))

/-- Cells that are taken are free no more. -/
theorem free_takeCells (s : State) (n : Nat) : (s.takeCells n).fld CELLQ_STS_FREE = s.fld CELLQ_STS_FREE - n := by
  have hlt : s.fld CELLQ_STS_FREE < 2 ^ 15 := bitField_lt _ _ 15
  rw [State.takeCells, (touches_eventIf _ _ CELLQ_EVT_LOW 0).fld (by simp [sourceOnly]), fld_setFld_same _ _ _ _ (by simp), Nat.mod_eq_of_lt]
  exact lt_of_le_of_lt (Nat.sub_le ..) hlt

/-! ### A frame that joins its queue -/

/-- The registers of a frame that takes its cells and joins its queue. -/
def enqueueRegs : List Reg := [.CELLQ_STS, .CELLQ_Q_DEPTH, .CELLQ_EVT, .IC_PEND, .IC_MERGE_CNT]

theorem pools_enqueue (s : State) (f : Frame) : Pools enqueueRegs s (s.enqueue f) :=
  ((touches_takeCells s f.cells).pools.mono (by simp [takenRegs, enqueueRegs])).trans ((pools_setFrames _ f.queue _).mono (by simp [enqueueRegs]))

theorem frames_enqueue (s : State) (f : Frame) : (s.enqueue f).frames f.queue = s.frames f.queue ++ [{ f with headAt := s.tb.run }] :=
  frames_setFrames ..

theorem waiting_enqueue (s : State) (f : Frame) : (s.enqueue f).net.waiting = s.net.waiting := by
  rw [State.enqueue, setFrames_waiting, (touches_takeCells s f.cells).rest.net]

theorem free_enqueue (s : State) (f : Frame) : (s.enqueue f).fld CELLQ_STS_FREE = s.fld CELLQ_STS_FREE - f.cells := by
  rw [State.enqueue, (pools_setFrames _ _ _).fld (by simp), free_takeCells]

/-! ### Frames that are lost -/

/-- The registers of a PTP entry that is completed. -/
def ptpRegs : List Reg := [.PTP_TX_HEAD, .ETH_EVT, .IC_PEND, .IC_MERGE_CNT]

theorem touches_ptpAdvance (k : Nat) : ∀ (n : Nat) (s : State), Touches ptpRegs s (s.ptpAdvance k n)
  | 0, s => Touches.refl _ s
  | n + 1, s => by
    rw [State.ptpAdvance]
    split
    · exact (touches_setFld s PTP_TX_HEAD_HEAD _ k (by simp [ptpRegs])).trans (touches_ptpAdvance k n _)
    · exact Touches.refl _ s

/-- A PTP entry is completed with ERR: a byte of device memory, then registers. -/
theorem ptpDone_lost (s : State) (k e : Nat) : ∃ m, Touches ptpRegs { s with mem := m } (s.ptpDone k e none) :=
  ⟨_, (touches_ptpAdvance k 16 _).trans (touches_event _ ETH_EVT_PTP_TX k (by simp [ptpRegs]) (by simp [sourceOnly, ptpRegs]))⟩

/-- Only registers of a list, device memory and the frames differ. -/
def Flushes (rs : List Reg) (s t : State) : Prop :=
  t = { s with regs := t.regs, mem := t.mem, net := t.net } ∧ ∀ r i, r ∉ rs → t.reg r i = s.reg r i

theorem Flushes.trans {rs : List Reg} {s t u : State} (h : Flushes rs s t) (k : Flushes rs t u) : Flushes rs s u := by
  refine ⟨?_, fun r i hr => (k.2 r i hr).trans (h.2 r i hr)⟩
  have h1 := h.1
  have k1 := k.1
  rw [k1, h1]

theorem Flushes.mono {rs rs' : List Reg} {s t : State} (h : Flushes rs s t) (hs : ∀ r ∈ rs, r ∈ rs') : Flushes rs' s t :=
  ⟨h.1, fun r i hr => h.2 r i (notMem_part hr hs)⟩

theorem Touches.flushes {rs : List Reg} {s t : State} (h : Touches rs s t) : Flushes rs s t := by
  refine ⟨?_, h.2⟩
  have h1 := h.1
  rw [h1]

theorem Flushes.tb {rs : List Reg} {s t : State} (h : Flushes rs s t) : t.tb = s.tb := by rw [h.1]
theorem Flushes.flows {rs : List Reg} {s t : State} (h : Flushes rs s t) : t.flows = s.flows := by rw [h.1]
theorem Flushes.streams {rs : List Reg} {s t : State} (h : Flushes rs s t) : t.streams = s.streams := by rw [h.1]
theorem Flushes.regN {rs : List Reg} {s t : State} (h : Flushes rs s t) {r : Reg} (hr : r ∉ rs) (i : Nat := 0) : t.regN r i = s.regN r i := by
  simp only [State.regN, h.2 r i hr]
theorem Flushes.fld {rs : List Reg} {s t : State} (h : Flushes rs s t) {f : Field} (hf : f.reg ∉ rs) (i : Nat := 0) : t.fld f i = s.fld f i := by
  simp only [State.fld, h.2 f.reg i hf]

theorem flushes_setFrames (s : State) (q : Nat) (l : List Frame) : Flushes [.CELLQ_Q_DEPTH] s (s.setFrames q l) :=
  Flushes.trans (t := { s with net := _ }) ⟨rfl, fun _ _ _ => rfl⟩ (touches_syncQueue _ q).flushes

/-- A frame that is lost changes no other frame. -/
theorem frameLost_facts (s : State) (f : Frame) : Flushes ptpRegs s (s.frameLost f) ∧ (s.frameLost f).net = s.net := by
  unfold State.frameLost
  split
  · obtain ⟨m, hm⟩ := ptpDone_lost s f.owner (word f.words 0)
    exact ⟨Flushes.trans (t := { s with mem := m }) ⟨rfl, fun _ _ _ => rfl⟩ hm.flushes, hm.rest.net⟩
  · exact ⟨(Touches.refl _ s).flushes, rfl⟩

/-- Nor do several. -/
theorem framesLost_facts (l : List Frame) (s : State) : Flushes ptpRegs s (l.foldl State.frameLost s) ∧ (l.foldl State.frameLost s).net = s.net := by
  refine ⟨?_, foldl_keeps State.net (fun t f => (frameLost_facts t f).2) l s⟩
  induction l generalizing s with
  | nil => exact (Touches.refl _ s).flushes
  | cons f rest ih => exact (frameLost_facts s f).1.trans (ih _)

/-! ### A flush -/

/-- The registers of a flush. -/
def flushRegs : List Reg := [.CELLQ_STS, .CELLQ_Q_DEPTH, .CELLQ_EVT, .PTP_TX_HEAD, .ETH_EVT, .IC_PEND, .IC_MERGE_CNT]

/-- What a flush on command makes of the state, up to its end. -/
def State.flushed (s : State) (q : Nat) : State :=
  (((s.frames q).foldl State.frameLost s).freeCells ((s.frames q).map Frame.cells).sum).setFrames q []

theorem flushed_facts (s : State) (q : Nat) :
    Flushes flushRegs s (s.flushed q) ∧ (s.flushed q).frames q = [] ∧ (s.flushed q).net.sending = s.net.sending ∧
      (s.flushed q).fld CELLQ_STS_FREE = min 16384 (s.fld CELLQ_STS_FREE + ((s.frames q).map Frame.cells).sum) := by
  obtain ⟨hlost, hnet⟩ := framesLost_facts (s.frames q) s
  have hfree := touches_freeCells ((s.frames q).foldl State.frameLost s) ((s.frames q).map Frame.cells).sum
  have hset := flushes_setFrames (((s.frames q).foldl State.frameLost s).freeCells ((s.frames q).map Frame.cells).sum) q []
  refine ⟨?_, frames_setFrames .., ?_, ?_⟩
  · exact ((hlost.mono (by simp [ptpRegs, flushRegs])).trans (hfree.flushes.mono (by simp [flushRegs]))).trans (hset.mono (by simp [flushRegs]))
  · rw [State.flushed, setFrames_sending, hfree.rest.net, hnet]
  · rw [State.flushed, hset.fld (by simp), free_freeCells, hlost.fld (by simp [ptpRegs])]

theorem flushQueue_eq (s : State) (q : Nat) :
    s.flushQueue q false = if (s.flying q).isEmpty then (s.flushed q).event CELLQ_EVT_FLUSHED
      else { s.flushed q with net := { (s.flushed q).net with flushing := q :: (s.flushed q).net.flushing.filter (· != q) } } := by
  rw [← flying_congr (flushed_facts s q).2.2.1 q]
  rfl

/-- A flush empties its queue and returns the cells; with no frame of the queue in transmission it ends at once. -/
theorem flushQueue_facts (s : State) (q : Nat) :
    Flushes flushRegs s (s.flushQueue q false) ∧ (s.flushQueue q false).frames q = [] ∧
      (s.flushQueue q false).fld CELLQ_STS_FREE = min 16384 (s.fld CELLQ_STS_FREE + ((s.frames q).map Frame.cells).sum) ∧
      (s.flying q = [] → (s.flushQueue q false).flag CELLQ_EVT_FLUSHED = true) := by
  obtain ⟨hflush, hframes, -, hfree⟩ := flushed_facts s q
  have hevt := touches_event_self (s.flushed q) CELLQ_EVT_FLUSHED 0
  rw [flushQueue_eq]
  generalize s.flushed q = u at hflush hframes hfree hevt ⊢
  split
  · refine ⟨hflush.trans (hevt.flushes.mono (by simp [sourceOnly, flushRegs])), (frames_congr hevt.rest.net q).trans hframes, ?_,
      fun _ => flag_event_same _ _ 0 (by simp) (by simp) (by simp [sourceOnly])⟩
    rw [hevt.fld (by simp [sourceOnly]), hfree]
  · next hne =>
    exact ⟨hflush.trans (t := u) ⟨rfl, fun _ _ _ => rfl⟩, hframes, hfree, fun he => absurd (List.isEmpty_iff.mpr he) hne⟩

/-! ### Errors -/

/-- The last fault recorded is the one that is recorded. -/
theorem last_record (s : State) {n : Nat} (hn : n < 37) (d : Nat) (inj : Bool) : (s.record n d inj).reg .FC_LAST = faultRecord n d inj s.tickIndex := by
  unfold State.record
  rw [if_neg (by omega)]
  extract_lets rec1 s1 s2 s3 s4
  have h3 : s3.reg .FC_LAST = rec1 := by simp [s3]
  have h4 : Touches [.FC_FIRST] s3 s4 := by
    unfold s4
    split
    · exact Touches.refl _ _
    · exact touches_setReg s3 .FC_FIRST rec1 0 (by simp)
  rw [(touches_raise (rs := sourceOnly) s4 _ fun _ hr => hr).2 .FC_LAST 0 (by simp [sourceOnly]), h4.2 .FC_LAST 0 (by simp), h3]

/-- The registers of an uncorrectable error of the pool. -/
def ueRegs : List Reg := .CELLQ_UE_CNT :: .CELLQ_ERR_CELL :: .CELLQ_EVT :: faultOnly

/-- An uncorrectable error is counted, shown and recorded. -/
theorem cellUe_facts (s : State) (c : Nat) :
    Touches ueRegs s (s.cellUe c) ∧ (s.cellUe c).regN .CELLQ_UE_CNT = min 0xFFFFFFFF (s.regN .CELLQ_UE_CNT + 1) ∧
      (s.cellUe c).flag CELLQ_EVT_UE = true ∧ (s.cellUe c).reg .FC_LAST = faultRecord 18 (c % 16384) false s.tickIndex := by
  have h1 : Touches ueRegs s (s.bump .CELLQ_UE_CNT) := touches_bump s .CELLQ_UE_CNT 1 0 (by simp [ueRegs])
  have hc := touches_setFld (rs := [.CELLQ_ERR_CELL]) (s.bump .CELLQ_UE_CNT) CELLQ_ERR_CELL_CELL c 0 (by simp)
  have he := touches_event_self ((s.bump .CELLQ_UE_CNT).setFld CELLQ_ERR_CELL_CELL c) CELLQ_EVT_UE 0
  have hr := touches_record (rs := faultOnly) (((s.bump .CELLQ_UE_CNT).setFld CELLQ_ERR_CELL_CELL c).event CELLQ_EVT_UE) 18 (c % 16384) false fun _ h => h
  have h3 := (h1.trans (hc.mono (by simp [ueRegs]))).trans (he.mono (by simp [sourceOnly, faultOnly, ueRegs]))
  refine ⟨h3.trans (hr.mono fun _ hm => List.mem_cons_of_mem _ (List.mem_cons_of_mem _ (List.mem_cons_of_mem _ hm))), ?_, ?_, ?_⟩
  · rw [State.cellUe, hr.regN (by simp [faultOnly]), he.regN (by simp [sourceOnly]), hc.regN (by simp), regN_bump_same]
  · rw [State.cellUe, hr.flag (by simp [faultOnly])]
    exact flag_event_same _ _ 0 (by simp) (by simp) (by simp [sourceOnly])
  · rw [State.cellUe, last_record _ (by decide)]
    exact congrArg _ (h3.regN (by simp [ueRegs, faultOnly]))

end Sys2Proof.Machine
end

section
/-!
PROOFS. The switch of a gate list, and its entry in force (R289, R291, R292).
-/
namespace Sys2Proof.Machine

/-! ### A gate list -/

theorem list_setList_same (s : State) (g : Nat) (l : GateList) : (s.setList g l).list g = l := by
  unfold State.setList State.list
  by_cases h : l = {} <;> simp [h]

theorem list_congr {s t : State} (h : t.traffic = s.traffic) (g : Nat) : t.list g = s.list g := by rw [State.list, h, State.list]

theorem gatesNow_congr {s t : State} (h : t.traffic = s.traffic) (htb : t.tb = s.tb) (g : Nat) : t.gatesNow g = s.gatesNow g := by
  rw [State.gatesNow, list_congr h, htb, State.gatesNow]

theorem gatesNow_settle (s : State) (g : Nat) : (settle s).gatesNow g = s.gatesNow g := gatesNow_congr (settle_traffic s) (settle_tb s) g

/-- The gates of an entry are eight bits, and its number is one of the list's. -/
theorem entryAt_bounds (es : List Nat) (o i b : Nat) : (entryAt es o i b).1 < 256 ∧ (entryAt es o i b).2.1 < i + max 1 es.length := by
  have hgates : ∀ e, entryGates e < 256 := fun e => Nat.mod_lt e (by omega)
  fun_induction entryAt es o i b with
  | case1 o i b => exact ⟨show 0xFF < 256 by omega, show i < i + max 1 0 by omega⟩
  | case2 e o i b => exact ⟨hgates e, show i < i + max 1 1 by omega⟩
  | case3 e es o i b => exact ⟨hgates e, show i < i + max 1 (es.length + 1) by omega⟩
  | case4 e es o i b hne hlt ih =>
    have hlen : es.length ≠ 0 := fun h => hne (List.length_eq_zero_iff.mp h)
    refine ⟨ih.1, ih.2.trans_le ?_⟩
    simp only [List.length_cons]
    omega

/-- The registers that follow the lists of gates. -/
def listShown : List Reg := [.GT_STS, .GT_COUNT, .GT_CYCLE, .GT_BASE_SEC, .GT_BASE_NS, .GT_SWITCH_SEC, .GT_SWITCH_NS]

/-- The state of a list is shown first, then its other registers. -/
theorem showList_eq (s : State) (g : Nat) : ∃ k, Touches [.GT_COUNT, .GT_CYCLE, .GT_BASE_SEC, .GT_BASE_NS, .GT_SWITCH_SEC, .GT_SWITCH_NS]
    (s.putN .GT_STS k g) (s.showList g) ∧
      k = (s.list g).oper.isSome.toNat + ((s.list g).oper.getD {}).lock.toNat * 2 + (s.list g).pending.isSome.toNat * 4 + (s.gatesNow g).2 * 256 +
        (s.gatesNow g).1 * 65536 := by
  refine ⟨_, ?_, rfl⟩
  unfold State.showList
  generalize s.gatesNow g = now
  obtain ⟨b, i⟩ := now
  dsimp only
  iterate 6 refine Touches.trans ?_ (touches_putN _ _ _ _ (by simp))
  exact Touches.refl _ _

theorem touches_listShown (s : State) (g : Nat) : Touches listShown s (s.showList g) := by
  obtain ⟨k, hk, -⟩ := showList_eq s g
  exact (touches_putN s .GT_STS k g (by simp [listShown])).trans (hk.mono (by simp [listShown]))

/-- The gates that are shown are those in force. -/
theorem gates_showList {s : State} {g : Nat} (hg : (s.gatesNow g).1 < 256) (hi : (s.gatesNow g).2 < 256) :
    (s.showList g).fld GT_STS_GATES g = (s.gatesNow g).1 := by
  obtain ⟨k, hk, he⟩ := showList_eq s g
  have h1 := Bool.toNat_le (s.list g).oper.isSome
  have h2 := Bool.toNat_le ((s.list g).oper.getD {}).lock
  have h3 := Bool.toNat_le (s.list g).pending.isSome
  rw [hk.fld (by simp) g]
  refine (fld_putN_same s GT_STS_GATES g (by omega)).trans ?_
  rw [Nat.shiftRight_eq_div_pow]
  simp only [GT_STS_GATES]
  omega

/-! ### The switch -/

theorem touches_showEntries (s : State) (r : Reg) (g : Nat) (es : List Nat) : Touches [r] s (s.showEntries r g es) :=
  touches_foldl (fun t e => by
    split
    · exact Touches.refl _ t
    · exact touches_putN t r _ _ (List.mem_singleton.mpr rfl)) _ s

/-- The list after its switch. -/
def GateList.switched (l : GateList) (now : Nat) : GateList :=
  { l with oper := if l.admin.entries.isEmpty then none else some l.admin, pending := none, start := now, after := none }

/-- The registers of a switch. -/
def switchRegs : List Reg :=
  [.GT_OPER, .GT_STS, .GT_COUNT, .GT_CYCLE, .GT_BASE_SEC, .GT_BASE_NS, .GT_SWITCH_SEC, .GT_SWITCH_NS, .GT_EVT, .IC_PEND, .IC_MERGE_CNT]

/-- A switch that no load waits for: the list is set, its registers follow, its generation counts. -/
theorem gateSwitch_eq {s : State} {g : Nat} (ha : (s.list g).after = none) :
    ∃ u, Touches switchRegs (s.setList g ((s.list g).switched s.tb.ns)) u ∧ u.flag GT_EVT_SWITCH g = true ∧ s.gateSwitch g = u.touch 9 g := by
  have hent := touches_showEntries (s.setList g ((s.list g).switched s.tb.ns)) .GT_OPER g (s.list g).admin.entries
  have hevt := touches_event_self ((s.setList g ((s.list g).switched s.tb.ns)).showEntries .GT_OPER g (s.list g).admin.entries) GT_EVT_SWITCH g
  have hshow := touches_listShown
    (((s.setList g ((s.list g).switched s.tb.ns)).showEntries .GT_OPER g (s.list g).admin.entries).event GT_EVT_SWITCH g) g
  refine ⟨_, ((hent.mono (by simp [switchRegs])).trans (hevt.mono (by simp [sourceOnly, switchRegs]))).trans
    (hshow.mono (by simp [listShown, switchRegs])), ?_, ?_⟩
  · rw [hshow.flag (by simp [listShown]) g]
    exact flag_event_same _ _ g (by simp) (by simp) (by simp [sourceOnly])
  · unfold State.gateSwitch
    dsimp only
    rw [ha]
    rfl

/-- At its instant the admin list becomes the oper list. -/
theorem gateListSwitch_switches {g w : Nat} {s : State} (hp : (s.list g).pending = some w) (hl : (s.list g).admin.lock = false)
    (ha : (s.list g).after = none) :
    Gives (.gateListSwitch g) s fun t =>
      (t.list g).oper = (if (s.list g).admin.entries = [] then none else some (s.list g).admin) ∧ (t.list g).pending = none ∧
      (t.list g).start = max s.tb.ns w ∧ t.tb.ns = max s.tb.ns w ∧ t.flag GT_EVT_SWITCH g = true ∧ t.net = s.net ∧ t.flows = s.flows ∧ SameMemory s t ∧
      SameRegs switchRegs s t := by
  have hx : exec (.gateListSwitch g) s = finish ((s.reach w).gateSwitch g) := by
    refine congrArg finish ?_
    simp only [hp, hl, Bool.false_eq_true, if_false]
  have hlist : (s.reach w).list g = s.list g := by rw [reach_frame]; rfl
  obtain ⟨u, hu, hflag, he⟩ := gateSwitch_eq (s := s.reach w) (g := g) (by rw [hlist, ha])
  have hset : (settle (u.touch 9 g)).list g = (s.list g).switched (max s.tb.ns w) := by
    show u.list g = _
    rw [list_congr hu.rest.traffic, list_setList_same, hlist, reach_ns_max]
  refine gives_finish hx ?_
  rw [he, hset]
  refine ⟨?_, rfl, rfl, ?_, ?_, ?_, ?_, ?_, ?_⟩
  · simp only [GateList.switched, List.isEmpty_iff]
  · exact (congrArg TimeBase.ns hu.tb).trans (reach_ns_max s w)
  · rw [flag_settle _ _ _ (by simp)]
    exact hflag
  · exact hu.rest.net.trans (by rw [reach_frame]; rfl)
  · exact hu.rest.flows.trans (by rw [reach_frame]; rfl)
  · exact ((keepsStores_reach s w).trans (KeepsStores.trans (t := u) hu.keepsStores ⟨rfl, rfl, rfl, rfl⟩)).settled.2
  · refine sameRegs_settle fun r i hr => (hu.2 r i hr).trans ?_
    rw [reach_frame]
    rfl

/-- A list with no switch pending, or whose switch waits for a tick, stays. -/
theorem execGateListSwitch_none {g : Nat} {s : State} (h : (s.list g).pending = none ∨ (s.list g).admin.lock = true) :
    exec (.gateListSwitch g) s = finish s := by
  refine congrArg finish ?_
  rcases h with h | h
  · simp only [h]
  · dsimp only
    rw [h]
    split <;> rfl

/-! ### The entry in force -/

/-- The gates in force, and the number of the entry, fit their fields. -/
theorem gatesNow_bounds {s : State} {g : Nat} {c : GateCopy} (ho : (s.list g).oper = some c) (hn : c.entries.length ≤ 256) :
    (s.gatesNow g).1 < 256 ∧ (s.gatesNow g).2 < 256 := by
  obtain ⟨hb, hi⟩ := entryAt_bounds c.entries (c.offset (s.list g).start s.tb.ns) 0 0
  rw [State.gatesNow, ho]
  exact ⟨hb, hi.trans_le (by omega)⟩

/-- The registers of a list follow time as the entry in force ends. -/
theorem gateEntryChange_follows {g : Nat} {c : GateCopy} {s : State} (ho : (s.list g).oper = some c) (hl : c.lock = false)
    (hn : c.entries.length ≤ 256) :
    Gives (.gateEntryChange g) s fun t =>
      t.tb.ns = max s.tb.ns (s.entryEnd c (s.list g).start) ∧ t.traffic = s.traffic ∧ t.fld GT_STS_GATES g = (t.gatesNow g).1 ∧ t.net = s.net ∧
      SameMemory s t ∧ SameRegs listShown s t := by
  have hx : exec (.gateEntryChange g) s = finish ((s.reach (s.entryEnd c (s.list g).start)).showList g) := by
    refine congrArg finish ?_
    simp only [ho, hl, Bool.false_eq_true, false_and, if_false]
  generalize s.entryEnd c (s.list g).start = e at hx ⊢
  have hf := reach_frame s e
  have hshow := touches_listShown (s.reach e) g
  obtain ⟨hb, hi⟩ := gatesNow_bounds (s := s.reach e) (g := g) (by rw [hf]; exact ho) hn
  refine gives_finish hx ⟨?_, ?_, ?_, ?_, ?_, sameRegs_settle fun r i hr => ?_⟩
  · rw [settle_tb, hshow.tb, reach_ns_max]
  · rw [settle_traffic, hshow.rest.traffic, hf]
  · rw [fld_settle _ _ _ (by simp), gates_showList hb hi, gatesNow_settle, gatesNow_congr hshow.rest.traffic hshow.tb]
  · rw [settle_net, hshow.rest.net, hf]
  · exact ((keepsStores_reach s e).trans hshow.keepsStores).settled.2
  · rw [hshow.2 r i hr, hf]
    rfl

theorem execGateEntryChange_none {g : Nat} {s : State} (h : (s.list g).oper = none) : exec (.gateEntryChange g) s = finish s := by
  refine congrArg finish ?_
  simp only [h]

end Sys2Proof.Machine
end

section
/-!
PROOFS. FRAME_SELECT: a frame that ends, and the frame that starts (R288, R299, R353).
-/
namespace Sys2Proof.Machine

/-! ### The choice of a frame -/

theorem frameEnds_idle {s : State} {k : Nat} (h : storeFind s.net.sending k = none) : s.frameEnds k = s := by rw [State.frameEnds, h]

/-- A head that fits a window stays. -/
theorem dropOversize_fits {s : State} {k q : Nat} {f : Frame} {rest : List Frame} (hf : s.frames q = f :: rest)
    (ho : s.oversize k (s.queueClass q) f.bytes = false) (n : Nat) : s.dropOversize k q n = s := by
  cases n with
  | zero => rfl
  | succ n =>
    rw [State.dropOversize, hf]
    exact if_neg (by simp [ho])

/-- The head of an eligible queue that no control shaper serves is not held. -/
theorem noteHeld_eligible {s : State} {k q : Nat} {f : Frame} {rest : List Frame} (hf : s.frames q = f :: rest) (hq : q < 2048)
    (he : s.eligible k q = true) : s.noteHeld k q = s := by
  rw [State.eligible, hf] at he
  simp only [Bool.and_eq_true] at he
  obtain ⟨⟨hopen, hfits⟩, -⟩ := he
  rw [State.noteHeld, hf]
  dsimp only
  rw [if_neg (by simp [hopen]), if_neg (by simp [hfits]), if_neg (by omega)]

theorem queueClass_lt (s : State) {q : Nat} (hq : q < 2048) : s.queueClass q < 8 := by
  rw [State.queueClass, if_pos hq]
  exact Nat.mod_lt _ (by decide)

/-- A search that only one element answers finds its answer. -/
theorem findSome?_unique {α β : Type} {g : α → Option β} {c : α} {y : β} (hc : g c = some y) :
    ∀ {l : List α}, c ∈ l → (∀ a ∈ l, a ≠ c → g a = none) → l.findSome? g = some y
  | a :: l, hm, hn => by
    by_cases ha : a = c
    · rw [List.findSome?_cons, ha, hc]
    · rw [List.findSome?_cons, hn a List.mem_cons_self ha]
      exact findSome?_unique hc ((List.mem_cons.mp hm).resolve_left (Ne.symm ha)) fun b hb => hn b (List.mem_cons_of_mem _ hb)

/-- The one queue that holds frames and is eligible is picked. -/
theorem pickFrame_only {s : State} {k q : Nat} (hp : s.portQueues k = [q]) (hq : q < 2048) (he : s.eligible k q = true) :
    s.pickFrame k = some q := by
  have hel : (s.portQueues k).filter (s.eligible k) = [q] := by rw [hp, List.filter_cons_of_pos he, List.filter_nil]
  unfold State.pickFrame
  dsimp only
  rw [hel]
  refine findSome?_unique (c := s.queueClass q) ?_ (by simpa using queueClass_lt s hq) fun c _ hc => ?_
  · rw [List.filter_cons_of_pos (by simp), List.filter_nil]
    rw [List.find?_singleton]
    split <;> rfl
  · rw [List.filter_cons_of_neg (by simpa using hc.symm), List.filter_nil]
    rfl

theorem pickFrame_none {s : State} {k : Nat} (hp : s.portQueues k = []) : s.pickFrame k = none := by
  unfold State.pickFrame
  dsimp only
  rw [hp]
  exact List.findSome?_eq_none_iff.mpr fun _ _ => rfl

/-- An eligible frame of the one queue that holds frames starts. -/
theorem execFrameSelect_starts {s : State} {k q : Nat} {f : Frame} {rest : List Frame} (hk : k < 6) (hs : storeFind s.net.sending k = none)
    (hc : s.canSend k = true) (hp : s.portQueues k = [q]) (hq : q < 2048) (hf : s.frames q = f :: rest) (he : s.eligible k q = true)
    (ho : s.oversize k (s.queueClass q) f.bytes = false) : exec (.frameSelect k) s = finish (s.startFrame k q f rest) := by
  refine congrArg finish ?_
  rw [if_neg (by omega)]
  dsimp only
  rw [frameEnds_idle hs, if_neg (by simp [hc]), hp, List.foldl_cons, List.foldl_nil, dropOversize_fits hf ho, hp, List.foldl_cons, List.foldl_nil,
    noteHeld_eligible hf hq he, pickFrame_only hp hq he]
  dsimp only
  rw [hf]

/-- A port or link that sends nothing and has nothing to send. -/
theorem execFrameSelect_idle {s : State} {k : Nat} (h : 6 ≤ k ∨ (storeFind s.net.sending k = none ∧ s.portQueues k = [])) :
    exec (.frameSelect k) s = finish s := by
  refine congrArg finish ?_
  rcases h with h | ⟨hs, hp⟩
  · exact if_pos h
  · by_cases hk : 6 ≤ k
    · exact if_pos hk
    rw [if_neg hk]
    dsimp only
    rw [frameEnds_idle hs, State.flushPort, hp, List.foldl_nil, List.foldl_nil, hp, List.foldl_nil, pickFrame_none hp]
    exact ite_self _

/-! ### A frame that starts -/

/-- The frames, the flows, the outputs, the streams, the memories and the free cells are as they were. -/
structure Sends (s t : State) : Prop where
  net : t.net = s.net
  flows : t.flows = s.flows
  sent : t.sent = s.sent
  stores : KeepsStores s t
  free : t.fld CELLQ_STS_FREE = s.fld CELLQ_STS_FREE

theorem Sends.trans {s t u : State} (h : Sends s t) (k : Sends t u) : Sends s u :=
  ⟨k.net.trans h.net, k.flows.trans h.flows, k.sent.trans h.sent, h.stores.trans k.stores, k.free.trans h.free⟩

theorem Touches.sends {rs : List Reg} {s t : State} (h : Touches rs s t) (hr : Reg.CELLQ_STS ∉ rs) : Sends s t :=
  ⟨h.rest.net, h.rest.flows, h.rest.sent, h.keepsStores, h.fld hr⟩

theorem Sends.refl (s : State) : Sends s s := (Touches.refl [] s).sends (by simp)

theorem sends_sample (s : State) (a b v : Nat) : Sends s (s.sample a b v) := by
  refine (touches_foldl (rs := monitorRegs) (fun t m => ?_) _ s).sends (by simp [monitorRegs])
  split
  · exact touches_fold t m _
  · exact Touches.refl _ t

/-- The registers of a shaper's credit. -/
def creditRegs : List Reg := [.SH_C_CREDIT, .SH_P_CREDIT]

theorem sends_setShaper (s : State) (q : Nat) (b : Buckets) : Sends s (s.setShaper q b) := by
  have hshown : ∀ (u : State) (c p : Nat), Touches creditRegs u ((u.putN .SH_C_CREDIT c q).putN .SH_P_CREDIT p q) := fun u c p =>
    (touches_putN u .SH_C_CREDIT c q (by simp [creditRegs])).trans (touches_putN _ .SH_P_CREDIT p q (by simp [creditRegs]))
  refine Sends.trans ?_ ((hshown _ _ _).sends (by simp [creditRegs]))
  exact ⟨rfl, rfl, rfl, ⟨rfl, rfl, rfl, rfl⟩, rfl⟩

theorem sends_shaperCharge (s : State) (q k n : Nat) : Sends s (s.shaperCharge q k n) := by
  unfold State.shaperCharge
  split
  · exact Sends.refl s
  · exact (sends_setShaper s q _).trans ((touches_eventIf _ _ SH_EVT_OVER k).sends (by simp [sourceOnly]))

/-- The state as a frame leaves its queue for the port. -/
def State.frameTaken (s : State) (k q : Nat) (f : Frame) (rest : List Frame) : State :=
  let fin := s.tb.run + ceilDiv ((f.bytes + 20) * 8) (max 1 (s.portRate k))
  { s.keepFrames q rest with net := { (s.keepFrames q rest).net with
      sending := storeInsert s.net.sending k (f, fin), served := storeInsert s.net.served (k * 8 + s.queueClass q) q } }

theorem frameTaken_facts (s : State) (k q : Nat) (f : Frame) (rest : List Frame) :
    (∃ x, storeFind (s.frameTaken k q f rest).net.sending k = some (f, x)) ∧
      ((s.frameTaken k q f rest).frames q).map (·.words) = rest.map (·.words) ∧ (s.frameTaken k q f rest).flows = s.flows ∧
      (s.frameTaken k q f rest).sent = s.sent ∧ KeepsStores s (s.frameTaken k q f rest) ∧
      (s.frameTaken k q f rest).fld CELLQ_STS_FREE = s.fld CELLQ_STS_FREE := by
  obtain ⟨l, hw, hk⟩ := keepFrames_eq s q rest
  have hp := pools_setFrames s q l
  have hf := frames_setFrames s q l
  unfold State.frameTaken
  rw [hk]
  generalize s.setFrames q l = u at hp hf ⊢
  refine ⟨⟨_, storeFind_insert_same ..⟩, ?_, hp.flows, hp.sent, hp.keepsStores, hp.fld (f := CELLQ_STS_FREE) (by simp)⟩
  rw [← hw, ← hf]
  rfl

/-- A packet of a flow is charged, sampled and counted as it starts; then its flow counts it, and it is sent. -/
theorem startFrame_eq (s : State) {k q : Nat} {f : Frame} (rest : List Frame) (hq : q < 2048) (hk : f.kind = 0) :
    ∃ u, Sends (s.frameTaken k q f rest) u ∧ s.startFrame k q f rest =
      ((u.setFlow q { u.flow q with packets := satAdd 0xFFFFFFFF (u.flow q).packets 1, bytes := satAdd (2 ^ 64 - 1) (u.flow q).bytes f.bytes }).arbGrant
        2 k).emit (.frame k q f.bytes) := by
  unfold State.startFrame
  extract_lets c ts f1 fin s0 n0 s1 s2 s3 s4 s5 s6 w s7 s8
  have h1 : ¬f.kind = 1 := by omega
  have h2 : ¬f.kind = 2 := by omega
  have htaken : s1 = s.frameTaken k q f rest := by
    have hf : f1 = f := if_neg h2
    unfold s1
    rw [hf]
    rfl
  have k2 : Sends s1 s2 := (touches_syncQueue s1 q).sends (by simp)
  have k3 : Sends s2 s3 := by
    unfold s3
    rw [if_pos hq]
    exact sends_shaperCharge ..
  have k5 : Sends s4 s5 := by
    unfold s5
    split
    · exact sends_sample ..
    · exact Sends.refl _
  have k6 : Sends s5 s6 := by
    unfold s6
    split
    · exact (touches_bump s5 .ETH_TX_FRAMES 1 k (List.mem_singleton.mpr rfl)).sends (by simp)
    · exact Sends.refl _
  refine ⟨s6, htaken ▸ k2.trans (k3.trans ((sends_sample ..).trans (k5.trans k6))), ?_⟩
  rw [if_neg h1, if_neg h2]
  unfold s8 s7
  rw [if_pos hq]

/-- A packet that starts is on the port, has left its queue, is counted by its flow and is sent. -/
theorem startFrame_facts (s : State) {k q : Nat} {f : Frame} (rest : List Frame) (hq : q < 2048) (hk : f.kind = 0) :
    (∃ x, storeFind (s.startFrame k q f rest).net.sending k = some (f, x)) ∧
      ((s.startFrame k q f rest).frames q).map (·.words) = rest.map (·.words) ∧
      (s.startFrame k q f rest).flow q =
        { s.flow q with packets := satAdd 0xFFFFFFFF (s.flow q).packets 1, bytes := satAdd (2 ^ 64 - 1) (s.flow q).bytes f.bytes } ∧
      (s.startFrame k q f rest).sent = .frame k q f.bytes :: s.sent ∧ KeepsStores s (s.startFrame k q f rest) ∧
      (s.startFrame k q f rest).fld CELLQ_STS_FREE = s.fld CELLQ_STS_FREE := by
  obtain ⟨hsend, hframes, hflows, hsent, hstores, hfree⟩ := frameTaken_facts s k q f rest
  obtain ⟨u, hu, he⟩ := startFrame_eq s (k := k) rest hq hk
  generalize s.frameTaken k q f rest = v at hsend hframes hflows hsent hstores hfree hu
  have hflow : u.flow q = s.flow q := by rw [State.flow, hu.flows, hflows, State.flow]
  have hg := pools_arbGrant (u.setFlow q { s.flow q with packets := satAdd 0xFFFFFFFF (s.flow q).packets 1, bytes := satAdd (2 ^ 64 - 1) (s.flow q).bytes f.bytes }) 2 k
  rw [he, hflow]
  refine ⟨?_, ?_, ?_, ?_, ?_, ?_⟩
  · rw [← hu.net] at hsend
    exact hsend
  · rw [← frames_congr hu.net] at hframes
    exact hframes
  · exact (hg.flow q).trans (flow_setFlow_same ..)
  · exact congrArg _ (hg.sent.trans (hu.sent.trans hsent))
  · exact ((hstores.trans hu.stores).trans ((keepsStores_setFlow u q _).trans hg.keepsStores)).trans ⟨rfl, rfl, rfl, rfl⟩
  · exact (hg.fld (f := CELLQ_STS_FREE) (by simp)).trans (hu.free.trans hfree)

/-! ### A frame that ends -/

/-- The state once a frame has left the port. -/
def State.frameGone (s : State) (k : Nat) (f : Frame) (x : Nat) : State :=
  (State.freeCells { s.reachRun x with net := { s.net with sending := storeDrop s.net.sending k } } f.cells).syncQueue f.queue

/-- The registers of a frame that ends. -/
def endRegs : List Reg := [.CELLQ_STS, .CELLQ_Q_DEPTH]

theorem frameGone_facts (s : State) (k : Nat) (f : Frame) (x : Nat) :
    Touches endRegs { s.reachRun x with net := { s.net with sending := storeDrop s.net.sending k } } (s.frameGone k f x) ∧
      (s.frameGone k f x).fld CELLQ_STS_FREE = min 16384 (s.fld CELLQ_STS_FREE + f.cells) := by
  have hf := touches_freeCells { s.reachRun x with net := { s.net with sending := storeDrop s.net.sending k } } f.cells
  have hq := touches_syncQueue (State.freeCells { s.reachRun x with net := { s.net with sending := storeDrop s.net.sending k } } f.cells) f.queue
  refine ⟨(hf.mono (by simp [endRegs])).trans (hq.mono (by simp [endRegs])), ?_⟩
  rw [State.frameGone, hq.fld (by simp), free_freeCells]
  refine congrArg (fun n => min 16384 (n + f.cells)) ?_
  exact congrArg (bitField · 0 15) (reg_reachRun s x .CELLQ_STS 0)

theorem frameEnds_eq {s : State} {k x : Nat} {f : Frame} (hs : storeFind s.net.sending k = some (f, x)) (hk : f.kind = 0)
    (hf : s.net.flushing = []) : s.frameEnds k = s.frameGone k f x := by
  have hnet : (s.frameGone k f x).net.flushing = [] := by
    rw [(frameGone_facts s k f x).1.rest.net]
    exact hf
  have hr : (s.reachRun x).net = s.net := by rw [reachRun_frame]
  unfold State.frameEnds
  rw [hs]
  dsimp only
  rw [if_neg (show ¬f.kind = 2 by omega), hr]
  refine if_neg fun h => ?_
  have hc : (s.frameGone k f x).net.flushing.contains f.queue = true := h.1
  rw [hnet] at hc
  cases hc

/-- Whether a port or link can send is told by registers of its own. -/
theorem canSend_congr {s t : State} {k : Nat} (he : t.flag ETH_STS_LINK k = s.flag ETH_STS_LINK k)
    (hl : t.fld FL_STS_STATE (k - 4) = s.fld FL_STS_STATE (k - 4)) : t.canSend k = s.canSend k := by
  rw [State.canSend, he, State.linkUp, hl]
  rfl

theorem portQueues_congr {s t : State} {k : Nat} (hq : t.net.queued = s.net.queued) (hf : t.flows = s.flows) : t.portQueues k = s.portQueues k := by
  have hp : t.queuePort = s.queuePort := by
    funext q
    rw [State.queuePort, State.flow, hf]
    rfl
  rw [State.portQueues, hq, hp]
  rfl

/-- A frame that ends on a port with nothing else to send. -/
theorem execFrameSelect_ends {s : State} {k x : Nat} {f : Frame} (hk : k < 6) (hs : storeFind s.net.sending k = some (f, x)) (hf : f.kind = 0)
    (hn : s.net.flushing = []) (hc : s.canSend k = true) (hp : s.portQueues k = []) :
    exec (.frameSelect k) s = finish (s.frameGone k f x) := by
  obtain ⟨ht, -⟩ := frameGone_facts s k f x
  have hc' : (s.frameGone k f x).canSend k = true := by
    rw [canSend_congr ((ht.flag (by simp [endRegs]) k).trans ?_) ((ht.fld (by simp [endRegs]) (k - 4)).trans ?_), hc]
    · rw [reachRun_frame]
      rfl
    · rw [reachRun_frame]
      rfl
  have hp' : (s.frameGone k f x).portQueues k = [] := by
    have hq : (s.frameGone k f x).net.queued = s.net.queued := by rw [ht.rest.net]
    rw [portQueues_congr hq (ht.rest.flows.trans (by rw [reachRun_frame])), hp]
  refine congrArg finish ?_
  rw [if_neg (by omega)]
  dsimp only
  rw [frameEnds_eq hs hf hn, if_neg (by simp [hc']), hp', List.foldl_nil, hp', List.foldl_nil, pickFrame_none hp']

end Sys2Proof.Machine
end

section
/-!
PROOFS. Frames that join their queues, packets, flushes, cell errors, and HALO and SEAM messages of past ticks (R235, R273, R296, R353 to R356,
R366).
-/
namespace Sys2Proof.Machine

/-! ### The next frame of a port or link -/

theorem frameSelect_starts {s : State} {k q : Nat} {f : Frame} {rest : List Frame} (hk : k < 6) (hs : storeFind s.net.sending k = none)
    (hc : s.canSend k = true) (hp : s.portQueues k = [q]) (hq : q < 2048) (hf : s.frames q = f :: rest) (hkind : f.kind = 0)
    (he : s.eligible k q = true) (ho : s.oversize k (s.queueClass q) f.bytes = false) :
    Gives (.frameSelect k) s fun t =>
      (storeFind t.net.sending k).any (fun x => decide (x.1 = f)) = true ∧ (t.frames q).map (·.words) = rest.map (·.words) ∧
      (t.flow q).packets = min 0xFFFFFFFF ((s.flow q).packets + 1) ∧ (t.flow q).bytes = min (2 ^ 64 - 1) ((s.flow q).bytes + f.bytes) ∧
      t.sent = Sent.frame k q f.bytes :: s.sent ∧ t.fld CELLQ_STS_FREE = s.fld CELLQ_STS_FREE ∧ t.streams = s.streams ∧ SameMemory s t := by
  obtain ⟨⟨x, hsend⟩, hframes, hflow, hsent, hstores, hfree⟩ := startFrame_facts s (k := k) rest hq hkind
  obtain ⟨hstr, hmem⟩ := hstores.settled
  refine gives_finish (execFrameSelect_starts hk hs hc hp hq hf he ho) ⟨?_, hframes, ?_, ?_, hsent, ?_, hstr, hmem⟩
  · rw [settle_net, hsend, Option.any_some]
    exact decide_eq_true rfl
  · rw [settle_flow, hflow]
    rfl
  · rw [settle_flow, hflow]
    rfl
  · rw [fld_settle _ _ _ (by simp), hfree]

theorem frameSelect_ends {s : State} {k x : Nat} {f : Frame} (hk : k < 6) (hs : storeFind s.net.sending k = some (f, x)) (hf : f.kind = 0)
    (hn : s.net.flushing = []) (hc : s.canSend k = true) (hp : s.portQueues k = []) :
    Gives (.frameSelect k) s fun t =>
      storeFind t.net.sending k = none ∧ t.fld CELLQ_STS_FREE = min 16384 (s.fld CELLQ_STS_FREE + f.cells) ∧ t.tb.run = max s.tb.run x ∧
      t.flows = s.flows ∧ t.streams = s.streams ∧ SameRegs [.CELLQ_STS, .CELLQ_Q_DEPTH] s t ∧ SameMemory s t := by
  obtain ⟨ht, hfree⟩ := frameGone_facts s k f x
  have hstores : KeepsStores s (s.frameGone k f x) :=
    (keepsStores_reachRun s x).trans (KeepsStores.trans ⟨rfl, rfl, rfl, rfl⟩ ht.keepsStores)
  obtain ⟨hstr, hmem⟩ := hstores.settled
  refine gives_finish (execFrameSelect_ends hk hs hf hn hc hp) ⟨?_, ?_, ?_, ?_, hstr, sameRegs_settle fun r i hr => ?_, hmem⟩
  · rw [settle_net, ht.rest.net]
    exact storeFind_drop_same ..
  · rw [fld_settle _ _ _ (by simp), hfree]
  · rw [settle_tb, ht.tb]
    exact reachRun_run s x
  · rw [settle_flows, ht.rest.flows, reachRun_frame]
  · exact (ht.2 r i hr).trans (reg_reachRun s x r i)

/-! ### A frame that waits for cells -/

/-- The state once a frame waits no more. -/
def State.waitOver (s : State) (f : Frame) : State := { s with net := { s.net with waiting := s.net.waiting.erase f } }

theorem pools_waitOver (rs : List Reg) (s : State) (f : Frame) : Pools rs s (s.waitOver f) := ⟨rfl, fun _ _ _ => rfl⟩

section
variable {q : Nat} {f : Frame} {s : State} (hw : s.net.waiting.find? (fun x => x.queue == q) = some f)
include hw

theorem execCellEnqueue_room (hr : s.cellRoom q f.cells = true) :
    exec (.cellEnqueue (.queue q)) s = finish (((s.waitOver f).arbGrant 1 f.requester).enqueue f) := by
  refine congrArg finish ?_
  simp only [hw, hr, if_true]
  rfl

theorem execCellEnqueue_drops (hr : s.cellRoom q f.cells = false) (hk : f.kind ≠ 2) (hl : f.relayed = true) :
    exec (.cellEnqueue (.queue q)) s = finish (((s.waitOver f).bump .CELLQ_Q_DROP_CNT 1 q).event CELLQ_EVT_DROP) := by
  refine congrArg finish ?_
  simp only [hw, hr, hl, Bool.false_eq_true, true_or, if_true, if_false, State.frameLost, if_neg hk]
  rfl

theorem execCellEnqueue_waits (hr : s.cellRoom q f.cells = false) (hk : f.kind ≠ 2) (hl : f.relayed = false) :
    exec (.cellEnqueue (.queue q)) s = finish s := by
  refine congrArg finish ?_
  simp only [hw, hr, hl, hk, Bool.false_eq_true, or_self, if_false]

theorem cellEnqueue_joins (hr : s.cellRoom q f.cells = true) :
    Gives (.cellEnqueue (.queue q)) s fun t =>
      t.frames q = s.frames q ++ [{ f with headAt := s.tb.run }] ∧ t.net.waiting = s.net.waiting.erase f ∧
      t.fld CELLQ_STS_FREE = s.fld CELLQ_STS_FREE - f.cells ∧ t.flows = s.flows ∧ t.streams = s.streams ∧
      SameRegs [.CELLQ_STS, .CELLQ_Q_DEPTH, .CELLQ_EVT, .ARB_STS, .IC_PEND, .IC_MERGE_CNT] s t ∧ SameMemory s t := by
  have hq : f.queue = q := by simpa using List.find?_some hw
  have hg : Pools [.ARB_STS] s ((s.waitOver f).arbGrant 1 f.requester) :=
    (pools_waitOver _ s f).trans (pools_arbGrant (s.waitOver f) 1 f.requester)
  have hnet : ((s.waitOver f).arbGrant 1 f.requester).net = (s.waitOver f).net := rfl
  have hx := execCellEnqueue_room hw hr
  generalize (s.waitOver f).arbGrant 1 f.requester = u at hg hnet hx
  have he := pools_enqueue u f
  obtain ⟨hflows, hstr, hregs, hmem⟩ := ((hg.mono (by simp)).trans (he.mono (by simp [enqueueRegs])) :
    Pools [.CELLQ_STS, .CELLQ_Q_DEPTH, .CELLQ_EVT, .ARB_STS, .IC_PEND, .IC_MERGE_CNT] s (u.enqueue f)).settled
  refine gives_finish hx ⟨?_, ?_, ?_, hflows, hstr, hregs, hmem⟩
  · subst hq
    rw [frames_congr (settle_net _), frames_enqueue, hg.tb, frames_congr hnet]
    rfl
  · rw [settle_net, waiting_enqueue, hnet]
    rfl
  · rw [fld_settle _ _ _ (by simp), free_enqueue, hg.fld (by simp)]

theorem cellEnqueue_drops (hr : s.cellRoom q f.cells = false) (hk : f.kind ≠ 2) (hl : f.relayed = true) :
    Gives (.cellEnqueue (.queue q)) s fun t =>
      t.regN .CELLQ_Q_DROP_CNT q = min 0xFFFFFFFF (s.regN .CELLQ_Q_DROP_CNT q + 1) ∧ t.flag CELLQ_EVT_DROP = true ∧
      t.net.waiting = s.net.waiting.erase f ∧
      OnlyRegs [.CELLQ_Q_DROP_CNT, .CELLQ_EVT, .IC_PEND, .IC_MERGE_CNT] { s with net := t.net } t := by
  have hb := touches_bump (rs := [.CELLQ_Q_DROP_CNT]) (s.waitOver f) .CELLQ_Q_DROP_CNT 1 q (by simp)
  have he := touches_event_self ((s.waitOver f).bump .CELLQ_Q_DROP_CNT 1 q) CELLQ_EVT_DROP 0
  have hnet : (((s.waitOver f).bump .CELLQ_Q_DROP_CNT 1 q).event CELLQ_EVT_DROP).net = (s.waitOver f).net := he.rest.net.trans hb.rest.net
  refine gives_finish (execCellEnqueue_drops hw hr hk hl) ⟨?_, ?_, ?_, ?_⟩
  · rw [regN_settle _ _ _ (by simp), he.regN (by simp [sourceOnly]) q, regN_bump_same]
    rfl
  · rw [flag_settle _ _ _ (by simp), flag_event_same _ _ 0 (by simp) (by simp) (by simp [sourceOnly])]
  · rw [settle_net, hnet]
    rfl
  · rw [settle_net, hnet]
    exact onlyRegs_of_touches (s := s.waitOver f) ((hb.mono (by simp)).trans (he.mono (by simp [sourceOnly])))

end

/-! ### A packet of a released record -/

theorem execCellEnqueue_noRecord {h : Nat} {us : List Nat} {s : State} (hu : s.unsentOf h = none) :
    exec (.cellEnqueue (.packet h us)) s = finish s := by
  refine congrArg finish ?_
  dsimp only
  unfold State.packetise
  rw [hu]

/-- What remains of a stream's records once a packet is made. -/
def afterPacket (o l : Nat) (rest : List (Nat × Nat)) (more : List Nat) : List (Nat × Nat) := if more.isEmpty then rest else (o, l) :: rest

/-- The state once a packet is made: the arbiter's turn, what remains of the stream, the flow. -/
def State.packetMade (s : State) (h f : Nat) (left : List (Nat × Nat)) (more : List Nat) (w : Flow) : State :=
  ((s.arbGrant 1 6).onStream h fun x => { x with unsent := left, pkts := more }).setFlow f w

theorem packetMade_objects (s : State) (h f : Nat) (left : List (Nat × Nat)) (more : List Nat) (w : Flow) :
    (s.packetMade h f left more w).flow f = w ∧ (∀ e, e ≠ f → (s.packetMade h f left more w).flow e = s.flow e) ∧
      (s.packetMade h f left more w).stream h = { s.stream h with unsent := left, pkts := more } ∧
      (∀ k, k ≠ h → (s.packetMade h f left more w).stream k = s.stream k) := by
  have hg := pools_arbGrant s 1 6
  unfold State.packetMade
  generalize s.arbGrant 1 6 = u at hg ⊢
  refine ⟨flow_setFlow_same .., fun e he => (flow_setFlow_ne _ w he).trans (hg.flow e), ?_, fun k hk => ?_⟩
  · rw [← hg.stream h]
    exact (stream_setFlow ..).trans (stream_onStream_same u h _)
  · rw [← hg.stream k]
    exact (stream_setFlow ..).trans (stream_onStream_ne u _ hk)

theorem packetMade_rest (s : State) (h f : Nat) (left : List (Nat × Nat)) (more : List Nat) (w : Flow) :
    (s.packetMade h f left more w).net = s.net ∧ (∀ r i, r ∉ [Reg.ARB_STS] → (s.packetMade h f left more w).reg r i = s.reg r i) ∧
      (s.packetMade h f left more w).mem = s.mem ∧ (s.packetMade h f left more w).hostMem = s.hostMem ∧
      (s.packetMade h f left more w).spad = s.spad := by
  have hg := pools_arbGrant s 1 6
  have hnet : (s.arbGrant 1 6).net = s.net := rfl
  unfold State.packetMade
  generalize s.arbGrant 1 6 = u at hg hnet ⊢
  obtain ⟨-, hmem, hhost, hspad⟩ := hg.keepsStores
  exact ⟨hnet, hg.2, hmem, hhost, hspad⟩

/-- The state once a packet is lost: its flow counts it as dropped, and as sent. -/
def State.packetLost (s : State) (h f : Nat) (left : List (Nat × Nat)) (more : List Nat) : State :=
  let s1 := s.packetMade h f left more { s.flow f with dropped := satAdd 0xFFFFFFFF (s.flow f).dropped 1 }
  s1.setFlow f { s1.flow f with sentPkts := (s.flow f).sentPkts + 1 }

section
variable {h f b o l n : Nat} {more : List Nat} {rest : List (Nat × Nat)} {s : State}
  (hu : s.unsentOf h = some (false, f, b, (o, l) :: rest, n :: more)) (hl : (s.flow f).live = true)
  (hk : (word (s.flow f).words 0).testBit 4 = false)
include hu hl hk

/-- The next packet of a record whose flow has no key: lost with its port down, in its flow's queue with room, waiting without. -/
theorem packetise_eq (us : List Nat) :
    ∃ fr : Frame, (fr.queue = f ∧ fr.bytes = packetBytes (s.flow f).words n ∧ fr.owner = h) ∧
      s.packetise h us =
        if s.flag ETH_STS_LINK (word (s.flow f).words 0 % 4) = false then s.packetLost h f (afterPacket o l rest more) more
        else if s.cellRoom f fr.cells then
          (s.packetMade h f (afterPacket o l rest more) more { s.flow f with sentPkts := (s.flow f).sentPkts + 1 }).enqueue fr
        else s.setUnsent h false ((o, l) :: rest) (n :: more) := by
  unfold State.packetise
  rw [hu]
  dsimp -zeta only
  extract_lets w p0 mk tick band flags pk1 s0 index srtp spent lost
  have hsrtp : srtp = false := hk
  have hspent : spent = false := by unfold spent; rw [hsrtp, Bool.false_and]
  have hlost : lost = !s.flag ETH_STS_LINK (word (s.flow f).words 0 % 4) := by
    unfold lost
    rw [hspent, hsrtp, Bool.false_or, Bool.false_and, Bool.or_false]
  rw [if_neg (by simp [w, hl])]
  have hpk : pk1 = n :: more := rfl
  clear_value pk1
  subst hpk
  dsimp -zeta only
  extract_lets next fr s1 w1 s2
  refine ⟨fr, ⟨rfl, rfl, rfl⟩, ?_⟩
  have hs2 : s2.eventIf spent SEC_EVT_KEY_EXPIRED = s.packetLost h f (afterPacket o l rest more) more := by
    unfold s2
    rw [hspent]
    rfl
  rw [hs2, hlost]
  cases s.flag ETH_STS_LINK (word (s.flow f).words 0 % 4)
  case true => rfl
  case false => rfl

/-- A packet with room joins its flow's queue. -/
theorem packet_joins (us : List Nat) (hup : s.flag ETH_STS_LINK (word (s.flow f).words 0 % 4) = true)
    (hr : s.cellRoom f (ceilDiv (packetBytes (s.flow f).words n) 256) = true) :
    Gives (.cellEnqueue (.packet h us)) s fun t =>
      (t.flow f).sentPkts = (s.flow f).sentPkts + 1 ∧ (t.frames f).length = (s.frames f).length + 1 ∧
      (t.frames f).getLast?.any (fun x => decide (x.bytes = packetBytes (s.flow f).words n) && decide (x.owner = h)) = true ∧
      (t.stream h).pkts = more ∧ (t.stream h).unsent = (if more = [] then rest else (o, l) :: rest) ∧
      t.fld CELLQ_STS_FREE = s.fld CELLQ_STS_FREE - ceilDiv (packetBytes (s.flow f).words n) 256 ∧ SameMemory s t ∧
      (∀ k, k ≠ h → t.stream k = s.stream k) ∧ (∀ e, e ≠ f → t.flow e = s.flow e) := by
  obtain ⟨fr, ⟨hq, hbytes, howner⟩, he⟩ := packetise_eq hu hl hk us
  have hcells : fr.cells = ceilDiv (packetBytes (s.flow f).words n) 256 := by rw [Frame.cells, hbytes]
  rw [hup, if_neg Bool.noConfusion, hcells, if_pos hr] at he
  obtain ⟨hflow, hflows, hstream, hstreams⟩ :=
    packetMade_objects s h f (afterPacket o l rest more) more { s.flow f with sentPkts := (s.flow f).sentPkts + 1 }
  obtain ⟨hnet, hregs, hmem, hhost, hspad⟩ :=
    packetMade_rest s h f (afterPacket o l rest more) more { s.flow f with sentPkts := (s.flow f).sentPkts + 1 }
  generalize s.packetMade h f (afterPacket o l rest more) more { s.flow f with sentPkts := (s.flow f).sentPkts + 1 } = u
    at he hflow hflows hstream hstreams hnet hregs hmem hhost hspad
  have hp := pools_enqueue u fr
  have hframes : (u.enqueue fr).frames f = s.frames f ++ [{ fr with headAt := u.tb.run }] := by
    rw [← hq, frames_enqueue, frames_congr hnet]
  have hfree : u.fld CELLQ_STS_FREE = s.fld CELLQ_STS_FREE := by rw [State.fld, hregs _ _ (by simp), State.fld]
  obtain ⟨-, hm, hh, hs⟩ := hp.keepsStores
  refine gives_finish (congrArg finish he) ⟨?_, ?_, ?_, ?_, ?_, ?_, ?_, fun k hkh => ?_, fun e hef => ?_⟩
  · rw [settle_flow, hp.flow, hflow]
  · rw [frames_congr (settle_net _), hframes, List.length_append, List.length_singleton]
  · rw [frames_congr (settle_net _), hframes, List.getLast?_concat, Option.any_some]
    simp [hbytes, howner]
  · rw [settle_stream, hp.stream, hstream]
  · rw [settle_stream, hp.stream, hstream]
    simp only [afterPacket, List.isEmpty_iff]
  · rw [fld_settle _ _ _ (by simp), free_enqueue, hfree, hcells]
  · exact sameMemory_of_mems (by rw [settle_mem, hm, hmem]) (by rw [settle_hostMem, hh, hhost]) (by rw [settle_spad, hs, hspad])
  · rw [settle_stream, hp.stream, hstreams k hkh]
  · rw [settle_flow, hp.flow, hflows e hef]

/-- A packet whose port is down is dropped. -/
theorem packet_lost (us : List Nat) (hdown : s.flag ETH_STS_LINK (word (s.flow f).words 0 % 4) = false) :
    Gives (.cellEnqueue (.packet h us)) s fun t =>
      (t.flow f).dropped = min 0xFFFFFFFF ((s.flow f).dropped + 1) ∧ (t.flow f).sentPkts = (s.flow f).sentPkts + 1 ∧ t.net = s.net ∧
      (t.stream h).pkts = more ∧ SameRegs [.ARB_STS] s t ∧ SameMemory s t := by
  obtain ⟨fr, -, he⟩ := packetise_eq hu hl hk us
  rw [if_pos hdown] at he
  unfold State.packetLost at he
  obtain ⟨hflow, -, hstream, -⟩ :=
    packetMade_objects s h f (afterPacket o l rest more) more { s.flow f with dropped := satAdd 0xFFFFFFFF (s.flow f).dropped 1 }
  obtain ⟨hnet, hregs, hmem, hhost, hspad⟩ :=
    packetMade_rest s h f (afterPacket o l rest more) more { s.flow f with dropped := satAdd 0xFFFFFFFF (s.flow f).dropped 1 }
  generalize s.packetMade h f (afterPacket o l rest more) more { s.flow f with dropped := satAdd 0xFFFFFFFF (s.flow f).dropped 1 } = u
    at he hflow hstream hnet hregs hmem hhost hspad
  dsimp only at he
  refine gives_finish (congrArg finish he) ⟨?_, ?_, hnet, ?_, sameRegs_settle hregs, sameMemory_of_mems hmem hhost hspad⟩
  · rw [settle_flow, flow_setFlow_same, hflow]
    rfl
  · rw [settle_flow, flow_setFlow_same]
  · rw [settle_stream, stream_setFlow, hstream]

end

end Sys2Proof.Machine
end

section
/-!
PROOFS. Flushes, errors of the cell pool and its sweep, and HALO and SEAM messages of past ticks (R235, R296, R355, R356, R366).
-/
namespace Sys2Proof.Machine

/-! ### A flush on command -/

/-- A write by an agent with PF0's authority flushes the queue it names. -/
theorem cellqFlushWrite_flushes {a : Agent} {v : Word} {s : State} (ha : s.actsAsPf0 a = true) (hq : v.toNat % 4096 < 2060) :
    Gives (.cellqFlushWrite a v) s fun t =>
      t.frames (v.toNat % 4096) = [] ∧ t.regN .CELLQ_FLUSH = v.toNat % 4096 ∧
      t.fld CELLQ_STS_FREE = min 16384 (s.fld CELLQ_STS_FREE + ((s.frames (v.toNat % 4096)).map Frame.cells).sum) ∧
      (s.flying (v.toNat % 4096) = [] → t.flag CELLQ_EVT_FLUSHED = true) ∧ t.flows = s.flows ∧ t.streams = s.streams := by
  generalize hn : v.toNat % 4096 = q at hq ⊢
  have hx : exec (.cellqFlushWrite a v) s = finish ((s.putN .CELLQ_FLUSH q).flushQueue q false) := by
    refine congrArg finish ((byAgent_pf0 ha ..).trans ?_)
    rw [if_neg (by simp), hn]
    exact if_pos hq
  have hput := touches_putN (rs := [.CELLQ_FLUSH]) s .CELLQ_FLUSH q 0 (by simp)
  have hreg : (s.putN .CELLQ_FLUSH q).regN .CELLQ_FLUSH = q := regN_putN_same s .CELLQ_FLUSH q 0 (by omega)
  generalize s.putN .CELLQ_FLUSH q = u at hx hput hreg
  obtain ⟨hflush, hframes, hfree, hend⟩ := flushQueue_facts u q
  have hs : u.frames q = s.frames q := frames_congr hput.rest.net q
  refine gives_finish hx ⟨?_, ?_, ?_, fun hf => ?_, ?_, ?_⟩
  · rw [frames_congr (settle_net _), hframes]
  · rw [regN_settle _ _ _ (by simp), hflush.regN (by simp [flushRegs]), hreg]
  · rw [fld_settle _ _ _ (by simp), hfree, hs, hput.fld (by simp)]
  · rw [flag_settle _ _ _ (by simp)]
    exact hend ((flying_congr (congrArg Net.sending hput.rest.net) q).trans hf)
  · rw [settle_flows, hflush.flows, hput.rest.flows]
  · rw [settle_streams, hflush.streams, hput.streams]

theorem execCellqFlushWrite_other {f : Nat} (v : Word) {s : State} (hf : f ≠ 0) : exec (.cellqFlushWrite (.func f) v) s = finish s :=
  congrArg finish ((byAgent_func ..).trans (if_pos hf))

/-! ### Errors of cells -/

theorem cellLinkError_corrected (q c : Nat) (s : State) :
    Gives (.cellLinkError q c .corrected) s fun t =>
      t.regN .CELLQ_CE_CNT = min 0xFFFFFFFF (s.regN .CELLQ_CE_CNT + 1) ∧ t.flag CELLQ_EVT_CE = true ∧
      OnlyRegs [.CELLQ_CE_CNT, .CELLQ_EVT, .IC_PEND, .IC_MERGE_CNT] s t := by
  have hb := touches_bump (rs := [.CELLQ_CE_CNT]) s .CELLQ_CE_CNT 1 0 (by simp)
  have he := touches_event_self (s.bump .CELLQ_CE_CNT) CELLQ_EVT_CE 0
  refine gives_finish rfl ⟨?_, ?_, onlyRegs_of_touches ((hb.mono (by simp)).trans (he.mono (by simp [sourceOnly])))⟩
  · rw [regN_settle _ _ _ (by simp), he.regN (by simp [sourceOnly]), regN_bump_same]
  · rw [flag_settle _ _ _ (by simp), flag_event_same _ _ 0 (by simp) (by simp) (by simp [sourceOnly])]

/-- An uncorrectable error of the frame in transmission: the frame's flow counts it as dropped. -/
theorem cellLinkError_data {q : Nat} (c : Nat) {s : State} (hq : q < 2048) (hf : s.flying q ≠ []) :
    Gives (.cellLinkError q c .data) s fun t =>
      t.regN .CELLQ_UE_CNT = min 0xFFFFFFFF (s.regN .CELLQ_UE_CNT + 1) ∧ t.flag CELLQ_EVT_UE = true ∧
      t.reg .FC_LAST = faultRecord 18 (c % 16384) false s.tickIndex ∧ (t.flow q).dropped = min 0xFFFFFFFF ((s.flow q).dropped + 1) ∧
      t.regN .SH_DROP_CNT q = min 0xFFFFFFFF (s.regN .SH_DROP_CNT q + 1) ∧ (∀ e, e ≠ q → t.flow e = s.flow e) ∧ t.net = s.net ∧ SameMemory s t ∧
      SameRegs ([.CELLQ_UE_CNT, .CELLQ_ERR_CELL, .CELLQ_EVT, .SH_DROP_CNT] ++ faultOnly) s t := by
  have hx : exec (.cellLinkError q c .data) s = finish (((s.cellUe c).bump .SH_DROP_CNT 1 q).flowDrops q 1) := by
    refine congrArg finish (if_pos ⟨hq, ?_⟩)
    simpa using hf
  obtain ⟨hue, hcnt, hevt, hlast⟩ := cellUe_facts s c
  have hb := touches_bump (rs := [.SH_DROP_CNT]) (s.cellUe c) .SH_DROP_CNT 1 q (by simp)
  have hdrop := regN_bump_same (s.cellUe c) .SH_DROP_CNT 1 q
  have hflows : ((s.cellUe c).bump .SH_DROP_CNT 1 q).flows = s.flows := hb.rest.flows.trans hue.rest.flows
  have hnet : ((s.cellUe c).bump .SH_DROP_CNT 1 q).net = s.net := hb.rest.net.trans hue.rest.net
  have hstores := hue.keepsStores.trans hb.keepsStores
  generalize (s.cellUe c).bump .SH_DROP_CNT 1 q = u at hx hb hdrop hflows hnet hstores
  have hflow : ∀ e, u.flow e = s.flow e := fun e => by rw [State.flow, hflows, State.flow]
  have hd : u.flowDrops q 1 = u.setFlow q { u.flow q with dropped := satAdd 0xFFFFFFFF (u.flow q).dropped 1 } := if_neg (by decide)
  rw [hd] at hx
  refine gives_finish hx ⟨?_, ?_, ?_, ?_, ?_, fun e he => ?_, hnet, ?_, sameRegs_settle fun r i hr => ?_⟩
  · rw [regN_settle _ _ _ (by simp), regN_setFlow, hb.regN (by simp), hcnt]
  · rw [flag_settle _ _ _ (by simp), flag_setFlow, hb.flag (by simp), hevt]
  · rw [reg_settle _ _ _ (by simp), reg_setFlow, hb.2 _ _ (by simp), hlast]
  · rw [settle_flow, flow_setFlow_same, hflow]
    rfl
  · rw [regN_settle _ _ _ (by simp), regN_setFlow, hdrop, hue.regN (by simp [ueRegs, faultOnly]) q]
  · rw [settle_flow, flow_setFlow_ne _ _ he, hflow]
  · exact (hstores.trans (keepsStores_setFlow u q _)).settled.2
  · simp only [List.mem_append, List.mem_cons, List.not_mem_nil, not_or] at hr
    rw [reg_setFlow, hb.2 r i (by simp [hr]), hue.2 r i (by simp [ueRegs, hr])]

/-- An uncorrectable error of a link entry: the queue is out until the sweep, and its cells stay taken. -/
theorem cellLinkError_link (q c : Nat) (s : State) :
    Gives (.cellLinkError q c .link) s fun t =>
      t.frames q = [] ∧ t.fld CELLQ_STS_FREE = s.fld CELLQ_STS_FREE ∧ t.net.sweep = some (q, ((s.frames q).map Frame.cells).sum, s.tb.run) ∧
      t.regN .CELLQ_UE_CNT = min 0xFFFFFFFF (s.regN .CELLQ_UE_CNT + 1) ∧ t.reg .FC_LAST = faultRecord 18 (c % 16384) false s.tickIndex ∧
      t.flows = s.flows ∧ t.streams = s.streams := by
  obtain ⟨hue, hcnt, -, hlast⟩ := cellUe_facts s c
  obtain ⟨hflush, hframes, -, -⟩ := flushQueue_facts (s.cellUe c) q
  have hset := touches_setFld (rs := [.CELLQ_STS]) ((s.cellUe c).flushQueue q false) CELLQ_STS_FREE (s.fld CELLQ_STS_FREE) 0 (by simp)
  have hfree : (((s.cellUe c).flushQueue q false).setFld CELLQ_STS_FREE (s.fld CELLQ_STS_FREE)).fld CELLQ_STS_FREE = s.fld CELLQ_STS_FREE := by
    rw [fld_setFld_same _ _ _ _ (by simp)]
    exact Nat.mod_eq_of_lt (bitField_lt _ _ 15)
  have hx : exec (.cellLinkError q c .link) s = finish
      { ((s.cellUe c).flushQueue q false).setFld CELLQ_STS_FREE (s.fld CELLQ_STS_FREE) with
        net := { (((s.cellUe c).flushQueue q false).setFld CELLQ_STS_FREE (s.fld CELLQ_STS_FREE)).net with
          sweep := some (q, ((s.frames q).map Frame.cells).sum,
            (((s.cellUe c).flushQueue q false).setFld CELLQ_STS_FREE (s.fld CELLQ_STS_FREE)).tb.run) } } := rfl
  generalize s.cellUe c = v at *
  generalize v.flushQueue q false = u at *
  generalize u.setFld CELLQ_STS_FREE (s.fld CELLQ_STS_FREE) = w at *
  refine gives_finish hx ⟨?_, ?_, ?_, ?_, ?_, ?_, ?_⟩
  · exact (frames_congr hset.rest.net q).trans hframes
  · rw [fld_settle _ _ _ (by simp)]
    exact hfree
  · rw [settle_net, hset.tb, hflush.tb, hue.tb]
  · rw [regN_settle _ _ _ (by simp)]
    exact (hset.regN (by simp)).trans ((hflush.regN (by simp [flushRegs])).trans hcnt)
  · rw [reg_settle _ _ _ (by simp)]
    exact (hset.2 _ _ (by simp)).trans ((hflush.2 _ _ (by simp [flushRegs])).trans hlast)
  · exact hset.rest.flows.trans (hflush.flows.trans hue.rest.flows)
  · exact hset.streams.trans (hflush.streams.trans hue.streams)

/-! ### The sweep -/

/-- Cells that the sweep finds bad are counted. -/
theorem touches_quarantine (u : State) (b : Nat) : Touches [.CELLQ_QUAR_CNT] u (if b = 0 then u else u.bump .CELLQ_QUAR_CNT b) := by
  split
  · exact Touches.refl _ u
  · exact touches_bump u .CELLQ_QUAR_CNT b 0 (by simp)

theorem cellSweepDone_frees {q n x : Nat} (b : Nat) {s : State} (hs : s.net.sweep = some (q, n, x)) :
    Gives (.cellSweepDone b) s fun t =>
      t.net.sweep = none ∧ t.fld CELLQ_STS_FREE = min 16384 (s.fld CELLQ_STS_FREE + (n - b)) ∧ t.flag CELLQ_EVT_SWEEP = true ∧
      t.tb.run = max s.tb.run (x + 13108) ∧ (b ≠ 0 → t.regN .CELLQ_QUAR_CNT = min 0xFFFFFFFF (s.regN .CELLQ_QUAR_CNT + b)) ∧
      SameRegs [.CELLQ_STS, .CELLQ_QUAR_CNT, .CELLQ_EVT, .IC_PEND, .IC_MERGE_CNT] s t ∧ SameMemory s t ∧ t.flows = s.flows := by
  have hx : ∃ u, (if b = 0 then (s.reachRun (x + 13108)).freeCells (n - b)
      else ((s.reachRun (x + 13108)).freeCells (n - b)).bump .CELLQ_QUAR_CNT b) = u ∧
        exec (.cellSweepDone b) s = finish (State.event { u with net := { u.net with sweep := none } } CELLQ_EVT_SWEEP) := by
    refine ⟨_, rfl, congrArg finish ?_⟩
    rw [hs]
  obtain ⟨u, hu, hx⟩ := hx
  have hfree := touches_freeCells (s.reachRun (x + 13108)) (n - b)
  have hcount : ((s.reachRun (x + 13108)).freeCells (n - b)).fld CELLQ_STS_FREE = min 16384 (s.fld CELLQ_STS_FREE + (n - b)) := by
    rw [free_freeCells, State.fld, reg_reachRun, State.fld]
  have hquar := touches_quarantine ((s.reachRun (x + 13108)).freeCells (n - b)) b
  have hbad : b ≠ 0 → u.regN .CELLQ_QUAR_CNT = min 0xFFFFFFFF (s.regN .CELLQ_QUAR_CNT + b) := fun hb => by
    rw [← hu, if_neg hb, regN_bump_same, hfree.regN (by simp), State.regN, reg_reachRun, State.regN]
  rw [hu] at hquar
  have hnet : ({ u with net := { u.net with sweep := none } } : State).net.sweep = none := rfl
  have hregs : ∀ r i, ({ u with net := { u.net with sweep := none } } : State).reg r i = u.reg r i := fun _ _ => rfl
  have hstores : KeepsStores u { u with net := { u.net with sweep := none } } := ⟨rfl, rfl, rfl, rfl⟩
  have htb : ({ u with net := { u.net with sweep := none } } : State).tb = u.tb := rfl
  have hflows : ({ u with net := { u.net with sweep := none } } : State).flows = u.flows := rfl
  generalize ({ u with net := { u.net with sweep := none } } : State) = v at hx hnet hregs hstores htb hflows
  have hevt := touches_event_self v CELLQ_EVT_SWEEP 0
  refine gives_finish hx ⟨?_, ?_, ?_, ?_, fun hb => ?_, sameRegs_settle fun r i hr => ?_, ?_, ?_⟩
  · rw [settle_net, hevt.rest.net, hnet]
  · rw [fld_settle _ _ _ (by simp), hevt.fld (by simp [sourceOnly]), State.fld, hregs, ← State.fld, hquar.fld (by simp), hcount]
  · rw [flag_settle _ _ _ (by simp), flag_event_same _ _ 0 (by simp) (by simp) (by simp [sourceOnly])]
  · rw [settle_tb, hevt.tb, htb, hquar.tb, hfree.tb, reachRun_run]
  · rw [regN_settle _ _ _ (by simp), hevt.regN (by simp [sourceOnly]), State.regN, hregs, ← State.regN, hbad hb]
  · simp only [List.mem_cons, List.not_mem_nil, or_false, not_or] at hr
    rw [hevt.2 r i (by simp [sourceOnly, hr]), hregs, hquar.2 r i (by simp [hr]), hfree.2 r i (by simp [hr]), reg_reachRun]
  · exact ((((keepsStores_reachRun s _).trans hfree.keepsStores).trans hquar.keepsStores).trans (hstores.trans hevt.keepsStores)).settled.2
  · rw [settle_flows, hevt.rest.flows, hflows, hquar.rest.flows, hfree.rest.flows, reachRun_frame]

theorem execCellSweepDone_none (b : Nat) {s : State} (hs : s.net.sweep = none) : exec (.cellSweepDone b) s = finish s := by
  refine congrArg finish ?_
  rw [hs]

/-! ### Messages of past ticks -/

/-- The state once the messages of past ticks wait no more. -/
def State.staleGone (s : State) : State := { s with net := { s.net with waiting := s.net.waiting.filter fun f => !s.staleHalo f } }

/-- One queue loses the messages that are of past ticks in state `s`. -/
def State.staleLeave (s t : State) (e : Nat × List Frame) : State :=
  if (e.2.filter s.staleHalo).isEmpty then t
  else (t.keepFrames e.1 (e.2.filter fun f => !s.staleHalo f)).freeCells ((e.2.filter s.staleHalo).map Frame.cells).sum

theorem dropStaleHalos_eq (s : State) : s.dropStaleHalos = s.net.queued.foldl s.staleLeave s.staleGone := rfl

theorem dropStaleHalos_idle {s : State} (h : s.net.queued = []) : s.dropStaleHalos = s.staleGone := by
  rw [dropStaleHalos_eq, h, List.foldl_nil]

theorem dropStaleHalos_one {s : State} {q : Nat} {l : List Frame} (h : s.net.queued = [(q, l)]) (hg : l.filter s.staleHalo ≠ []) :
    s.dropStaleHalos = (s.staleGone.keepFrames q (l.filter fun f => !s.staleHalo f)).freeCells ((l.filter s.staleHalo).map Frame.cells).sum := by
  rw [dropStaleHalos_eq, h, List.foldl_cons, List.foldl_nil]
  exact if_neg fun he => hg (List.isEmpty_iff.mp he)

theorem staleHaloDrop_one {s : State} {q : Nat} {l : List Frame} (h : s.net.queued = [(q, l)]) (hg : l.filter s.staleHalo ≠ []) :
    Gives .staleHaloDrop s fun t =>
      (t.frames q).map (·.words) = (l.filter fun f => !s.staleHalo f).map (·.words) ∧
      t.net.waiting = (s.net.waiting.filter fun f => !s.staleHalo f) ∧
      t.fld CELLQ_STS_FREE = min 16384 (s.fld CELLQ_STS_FREE + ((l.filter s.staleHalo).map Frame.cells).sum) ∧ t.flows = s.flows ∧
      t.streams = s.streams ∧ SameRegs [.CELLQ_STS, .CELLQ_Q_DEPTH] s t ∧ SameMemory s t := by
  obtain ⟨l', hw, hk⟩ := keepFrames_eq s.staleGone q (l.filter fun f => !s.staleHalo f)
  have hx : exec .staleHaloDrop s =
      finish ((s.staleGone.setFrames q l').freeCells ((l.filter s.staleHalo).map Frame.cells).sum) :=
    congrArg finish ((dropStaleHalos_one h hg).trans (by rw [hk]))
  have hgone : Pools [.CELLQ_Q_DEPTH] s s.staleGone := ⟨rfl, fun _ _ _ => rfl⟩
  have hset := hgone.trans (pools_setFrames s.staleGone q l')
  have hframes := frames_setFrames s.staleGone q l'
  have hwait : (s.staleGone.setFrames q l').net.waiting = s.net.waiting.filter fun f => !s.staleHalo f := setFrames_waiting ..
  generalize s.staleGone.setFrames q l' = u at hx hset hframes hwait
  have hfree := touches_freeCells u ((l.filter s.staleHalo).map Frame.cells).sum
  obtain ⟨hflows, hstr, hregs, hmem⟩ := ((hset.mono (by simp)).trans (hfree.pools.mono (by simp)) :
    Pools [.CELLQ_STS, .CELLQ_Q_DEPTH] s (u.freeCells ((l.filter s.staleHalo).map Frame.cells).sum)).settled
  refine gives_finish hx ⟨?_, ?_, ?_, hflows, hstr, hregs, hmem⟩
  · rw [frames_congr (settle_net _), frames_congr hfree.rest.net, hframes, hw]
  · rw [settle_net, hfree.rest.net, hwait]
  · rw [fld_settle _ _ _ (by simp), free_freeCells, hset.fld (by simp)]

/-! ### The obligation -/

/-- Settles O45: the switch of a list and the entry in force; then a frame from its wait for cells to its end; then flushes, errors, the sweep and
stale messages. -/
theorem cellsQueuesAndGatesMoveFrames : Obligations.CellsQueuesAndGatesMoveFrames := by
  unfold Obligations.CellsQueuesAndGatesMoveFrames
  refine ⟨fun g w s hp hl ha => gateListSwitch_switches hp hl ha, fun g s h => gives_unchanged (execGateListSwitch_none h),
    fun g c s ho hl hn => gateEntryChange_follows ho hl hn, fun g s h => gives_unchanged (execGateEntryChange_none h),
    fun k q f rest s hk hs hc hp hq hf hkind he ho => frameSelect_starts hk hs hc hp hq hf hkind he ho,
    fun k x f s hk hs hf hn hc hp => frameSelect_ends hk hs hf hn hc hp, fun k s h => gives_unchanged (execFrameSelect_idle h),
    fun q f s hw hr => cellEnqueue_joins hw hr,
    fun q f s hw hr => ⟨fun hk hl => cellEnqueue_drops hw hr hk hl, fun hk hl => gives_unchanged (execCellEnqueue_waits hw hr hk hl)⟩,
    fun h us s hu => gives_unchanged (execCellEnqueue_noRecord hu),
    fun h f b o l n us more rest s hu hl hk hup hr => packet_joins hu hl hk us hup hr,
    fun h f b o l n us more rest s hu hl hk hdown => packet_lost hu hl hk us hdown,
    fun a v s ha hq => cellqFlushWrite_flushes ha hq, fun f v s hf => gives_unchanged (execCellqFlushWrite_other v hf),
    cellLinkError_corrected, fun q c s hq hf => cellLinkError_data c hq hf, cellLinkError_link, fun b q n x s hs => cellSweepDone_frees b hs,
    fun b s hs => gives_unchanged (execCellSweepDone_none b hs),
    fun s h => gives_finish (congrArg finish (dropStaleHalos_idle h)) rfl, fun q l s h hg => staleHaloDrop_one h hg⟩

end Sys2Proof.Machine
end

section
/-!
PROOFS. A statement that fails where the release of a stream that is given away lets a waiting reply go: MIG_COMMIT_REQ (R191, R192, R249,
R437, R438).
-/
namespace Sys2Proof.Machine

/-- The header of a message of tick 0 from the ring member at position 1 to the one at position 0. -/
def fromMember1 : RingHdr := { link := 1, src := 1, epoch := 0, tick := 0 }

/-- No grid runs, and `netVoteOff` waits for NET to be OFF, as in `netDue`; its completion queue is enabled, in device memory from address 0.
The device is at position 0 of a ring of two, and has frozen stream 5, whose reservation votes for domain 8, for migration 7. -/
def giveAwayDue : State :=
  { ((((State.reset.setFld CPLQ_CFG_EN 1).setFld CPLQ_BASE_LOC 1).putN .RING_CFG (2 * 1024 + 2 ^ 16)).putN .AON_VOTE 2 8).setFld
      PM_DOM_STS_STATE 2 14 with
    streams := [(5, { st := .migrating, words := [0, 0, 0, 0, 1], res := { regions := [4096] } })]
    ring := { mig := [(5, { id := 7, role := 1, step := 1, peer := 1 })] }
    cmd := { outstanding := [{ cmd := netVoteOff, stage := .started }] } }

/-- The vote that goes with the stream makes the domains move: the VOTE_SET is answered, and its reply, which begins with its tag, stands at
the head of the ring. -/
theorem commitReq_writes_reply : readAfter (fun t => t.byte .device 0) (.migCommitReq fromMember1 7 3) giveAwayDue = some 2 := by
  decide +kernel

/-- Refutes O43: with no grid running, the release of the stream that a COMMIT_REQ asks for withdraws the stream's votes and makes the domains
move at once (R191, R437), which answers a VOTE_SET with WAIT (R438); its reply is written to memory, which the second clause says is as it
was. -/
theorem not_migrationsMoveAStream : ¬ Obligations.MigrationsMoveAStream := by
  unfold Obligations.MigrationsMoveAStream
  rintro ⟨-, hgive, -⟩
  obtain ⟨t, hx, -, -, -, -, -, hbytes, -⟩ := hgive fromMember1 7 3 5 giveAwayDue (by decide) (by decide) (by decide) (by decide)
  have hread := readAfter_next (fun t => t.byte .device 0) hx
  rw [commitReq_writes_reply, hbytes .device 0] at hread
  exact absurd hread (by decide)

end Sys2Proof.Machine
end

section
/-!
SUPPORT. The laws of lanes, links and ports: lanes that take a state, a port or link that goes down, and what that leaves of the state (R257 to
R267, R284, R355).
-/
namespace Sys2Proof.Machine

/-! ### Folds and fields -/

/-- What a step makes true of its element, and the other steps keep, is true of every element after the fold. -/
theorem foldl_establishes {α σ : Type} {P : α → σ → Prop} {f : σ → α → σ} (hset : ∀ t a, P a (f t a)) (hkeep : ∀ t a b, P a t → P a (f t b))
    {a : α} {l : List α} (ha : a ∈ l) (s : σ) : P a (l.foldl f s) := by
  induction l generalizing s with
  | nil => cases ha
  | cons b l ih =>
    rcases List.mem_cons.mp ha with rfl | ha
    · exact List.foldlRecOn l f (hset s a) fun t ht b _ => hkeep t a b ht
    · exact ih ha _

/-- The low bits of a field that is set. -/
theorem fld_setFld_low (s : State) (r : Reg) {lo w w' : Nat} (x i : Nat) (h : lo + w ≤ 64) (hw : w' ≤ w) :
    (s.setFld ⟨r, lo, w⟩ x i).fld ⟨r, lo, w'⟩ i = x % 2 ^ w' := by
  have hlow : ∀ v : DWord, bitField v lo w' = bitField v lo w % 2 ^ w' := fun v => (Nat.mod_mod_of_dvd _ (pow_dvd_pow 2 hw)).symm
  rw [State.fld, hlow]
  exact (congrArg (· % 2 ^ w') (fld_setFld_same s ⟨r, lo, w⟩ x i h)).trans (Nat.mod_mod_of_dvd _ (pow_dvd_pow 2 hw))

/-- A flag that is clear is left as it is by clearing it. -/
theorem reg_setFld_clear {s : State} {f : Field} {i : Nat} (hw : f.width = 1) (hc : s.flag f i = false) (r : Reg) (j : Nat) :
    (s.setFld f 0 i).reg r j = s.reg r j := by
  rw [reg_setFld]
  split
  next h =>
    obtain ⟨rfl, rfl⟩ := h
    have hbit : (s.reg f.reg i).getLsbD f.lo = false := by
      have h0 : bitField (s.reg f.reg i) f.lo f.width = 0 := by simpa [State.flag, State.fld] using hc
      rw [bitField, hw, pow_one, Nat.shiftRight_eq_div_pow] at h0
      rw [← BitVec.testBit_toNat, Nat.testBit_eq_decide_div_mod_eq, h0]
      rfl
    refine BitVec.eq_of_getLsbD_eq fun k hk => ?_
    by_cases hkl : k = f.lo
    · subst hkl
      simp [setBitField, hw, hbit]
    · have hmask : (decide (f.lo ≤ k) && Nat.testBit 1 (k - f.lo)) = false :=
        Bool.eq_false_iff.mpr fun hm => hkl (by
          rw [Bool.and_eq_true, decide_eq_true_iff, Nat.testBit_one_eq_true_iff_self_eq_zero] at hm
          omega)
      simp only [setBitField, hw, BitVec.getLsbD_or, BitVec.getLsbD_and, BitVec.getLsbD_not, BitVec.getLsbD_ofNat, Nat.testBit_shiftLeft]
      simp [hk, hmask]
  next => rfl

/-! ### Lanes that take a state -/

/-- The state of a lane once a lane has been given a state, a rate and a code. -/
theorem laneState_given (s : State) (l st rate code l' : Nat) :
    (((s.setFld LN_STS_STATE st l).setFld LN_STS_RATE25 rate l).setFld LN_STS_CTLE_NOW code l).fld LN_STS_STATE l' =
      if l = l' then st % 8 else s.fld LN_STS_STATE l' := by
  rw [fld_setFld_apart _ _ _ _ _ _ (by simp [Field.apart]), fld_setFld_apart _ _ _ _ _ _ (by simp [Field.apart])]
  split
  next h => exact h ▸ fld_setFld_same s LN_STS_STATE st l (by simp)
  next h => rw [fld_setFld_inst _ _ _ _ _ _ h]

/-- Every lane of a list that takes a state has it. -/
theorem laneState_setLanes (s : State) {ls : List Nat} {l : Nat} (hl : l ∈ ls) (st rate : Nat) : (s.setLanes ls st rate).fld LN_STS_STATE l = st % 8 := by
  refine foldl_establishes (P := fun a (t : State) => t.fld LN_STS_STATE a = st % 8) (fun t a => ?_) (fun t a b ha => ?_) hl s
  · rw [laneState_given, if_pos rfl]
  · rw [laneState_given, ha, ite_self]

/-- Every lane of a list that locks is LOCKED. -/
theorem laneState_lockLanes (s : State) {ls : List Nat} {l : Nat} (hl : l ∈ ls) (rate : Nat) : (s.lockLanes ls rate).fld LN_STS_STATE l = 3 := by
  refine foldl_establishes (P := fun a (t : State) => t.fld LN_STS_STATE a = 3) (fun t a => ?_) (fun t a b ha => ?_) hl s
  · rw [laneState_given, if_pos rfl]
  · rw [laneState_given]
    split
    · rfl
    · split
      · exact ha
      · exact ha

/-- Only registers of a list and the count of free values differ. -/
def Measures (rs : List Reg) (s t : State) : Prop :=
  t = { s with regs := t.regs, freeCtr := t.freeCtr } ∧ ∀ r i, r ∉ rs → t.reg r i = s.reg r i

theorem Measures.trans {rs : List Reg} {s t u : State} (h : Measures rs s t) (k : Measures rs t u) : Measures rs s u := by
  refine ⟨?_, fun r i hr => (k.2 r i hr).trans (h.2 r i hr)⟩
  have h1 := h.1
  have k1 := k.1
  rw [k1, h1]

theorem Measures.mono {rs rs' : List Reg} {s t : State} (h : Measures rs s t) (hs : ∀ r ∈ rs, r ∈ rs') : Measures rs' s t :=
  ⟨h.1, fun r i hr => h.2 r i (notMem_part hr hs)⟩

theorem Touches.measures {rs : List Reg} {s t : State} (h : Touches rs s t) : Measures rs s t := by
  refine ⟨?_, h.2⟩
  have h1 := h.1
  rw [h1]

/-- Lanes that lock change their status, and take free values. -/
theorem measures_lockLanes (ls : List Nat) (rate : Nat) : ∀ s : State, Measures [.LN_STS] s (s.lockLanes ls rate) := by
  have given : ∀ (u : State) (l code : Nat),
      Measures [.LN_STS] u (((u.setFld LN_STS_STATE 3 l).setFld LN_STS_RATE25 rate l).setFld LN_STS_CTLE_NOW code l) := fun u l code =>
    (((touches_setFld u _ _ l (by simp)).trans (touches_setFld _ _ _ l (by simp))).trans (touches_setFld _ _ _ l (by simp))).measures
  induction ls with
  | nil => exact fun s => (Touches.refl _ s).measures
  | cons l ls ih =>
    refine fun s => Measures.trans ?_ (ih _)
    dsimp only
    split
    · exact given s l _
    · exact Measures.trans (t := s.tookFree) ⟨rfl, fun _ _ _ => rfl⟩ (given _ l _)

/-- The use of a group is told by its register and the part. -/
theorem groupUse_congr {s t : State} {g : Nat} (hr : t.fld LN_GRP_CFG_USE g = s.fld LN_GRP_CFG_USE g) (hc : t.chip = s.chip) :
    t.groupUse g = s.groupUse g := by
  simp only [State.groupUse, State.packageB, State.fuse, hr, hc]
  rfl

/-- The lanes of a group that are bonded. -/
theorem mem_groupLanes {s : State} {l g : Nat} (hg : l / 4 = g) (hp : s.lanePresent l = true) : l ∈ s.groupLanes g := by
  refine List.mem_filter.mpr ⟨List.mem_map.mpr ⟨l % 4, List.mem_range.mpr (Nat.mod_lt _ (by omega)), ?_⟩, hp⟩
  omega

/-! ### What a port or a link that goes down leaves -/

/-- Only registers of a list, device memory, the frames, the flows, the ring's state and the instant differ. -/
def Falls (rs : List Reg) (s t : State) : Prop :=
  t = { s with regs := t.regs, mem := t.mem, net := t.net, flows := t.flows, ring := t.ring, tb := { s.tb with ns := t.tb.ns, run := t.tb.run } } ∧
    ∀ r i, r ∉ rs → t.reg r i = s.reg r i

theorem Falls.refl (rs : List Reg) (s : State) : Falls rs s s := ⟨rfl, fun _ _ _ => rfl⟩

theorem Falls.trans {rs : List Reg} {s t u : State} (h : Falls rs s t) (k : Falls rs t u) : Falls rs s u := by
  refine ⟨?_, fun r i hr => (k.2 r i hr).trans (h.2 r i hr)⟩
  have h1 := h.1
  have k1 := k.1
  rw [k1, h1]

theorem Falls.mono {rs rs' : List Reg} {s t : State} (h : Falls rs s t) (hs : ∀ r ∈ rs, r ∈ rs') : Falls rs' s t :=
  ⟨h.1, fun r i hr => h.2 r i (notMem_part hr hs)⟩

theorem Touches.falls {rs : List Reg} {s t : State} (h : Touches rs s t) : Falls rs s t := by
  refine ⟨?_, h.2⟩
  have h1 := h.1
  rw [h1]

theorem Flushes.falls {rs : List Reg} {s t : State} (h : Flushes rs s t) : Falls rs s t := by
  refine ⟨?_, h.2⟩
  have h1 := h.1
  rw [h1]

theorem Falls.chip {rs : List Reg} {s t : State} (h : Falls rs s t) : t.chip = s.chip := by rw [h.1]
theorem Falls.streams {rs : List Reg} {s t : State} (h : Falls rs s t) : t.streams = s.streams := by rw [h.1]
theorem Falls.refLost {rs : List Reg} {s t : State} (h : Falls rs s t) : t.tb.refLost = s.tb.refLost := by rw [h.1]
theorem Falls.regN {rs : List Reg} {s t : State} (h : Falls rs s t) {r : Reg} (hr : r ∉ rs) (i : Nat := 0) : t.regN r i = s.regN r i := by
  simp only [State.regN, h.2 r i hr]
theorem Falls.fld {rs : List Reg} {s t : State} (h : Falls rs s t) {f : Field} (hf : f.reg ∉ rs) (i : Nat := 0) : t.fld f i = s.fld f i := by
  simp only [State.fld, h.2 f.reg i hf]
theorem Falls.flag {rs : List Reg} {s t : State} (h : Falls rs s t) {f : Field} (hf : f.reg ∉ rs) (i : Nat := 0) : t.flag f i = s.flag f i := by
  simp only [State.flag, h.fld hf i]

theorem falls_foldl {α : Type} {rs : List Reg} {f : State → α → State} (hf : ∀ t a, Falls rs t (f t a)) (l : List α) (s : State) :
    Falls rs s (l.foldl f s) := by
  induction l generalizing s with
  | nil => exact Falls.refl rs s
  | cons a l ih => exact (hf s a).trans (ih _)

theorem falls_setFlow (rs : List Reg) (s : State) (h : Nat) (w : Flow) : Falls rs s (s.setFlow h w) := ⟨rfl, fun _ _ _ => rfl⟩
theorem falls_reachRun (rs : List Reg) (s : State) (n : Nat) : Falls rs s (s.reachRun n) := by
  refine ⟨?_, fun r i _ => reg_reachRun s n r i⟩
  unfold State.reachRun
  split <;> rfl

theorem falls_flowDrops (rs : List Reg) (s : State) (h n : Nat) : Falls rs s (s.flowDrops h n) := by
  unfold State.flowDrops
  split
  · exact Falls.refl rs s
  · exact falls_setFlow rs s h _

theorem falls_flushQueue (s : State) (q : Nat) (down : Bool) : Falls flushRegs s (s.flushQueue q down) := by
  unfold State.flushQueue
  extract_lets l s1 s2 s3
  have h1 : Falls flushRegs s s1 := ((framesLost_facts l s).1.falls.mono (by simp [ptpRegs, flushRegs])).trans
    ((touches_freeCells _ _).falls.mono (by simp [flushRegs]))
  have h2 : Falls flushRegs s1 s2 := by
    unfold s2
    split
    · exact falls_flowDrops _ _ _ _
    · exact Falls.refl _ _
  have h3 : Falls flushRegs s2 s3 := (flushes_setFrames s2 q []).falls.mono (by simp [flushRegs])
  refine ((h1.trans h2).trans h3).trans ?_
  split
  · exact (touches_event_self s3 CELLQ_EVT_FLUSHED 0).falls.mono (by simp [sourceOnly, flushRegs])
  · exact ⟨rfl, fun _ _ _ => rfl⟩

theorem falls_flushPort (s : State) (k : Nat) : Falls flushRegs s (s.flushPort k) := falls_foldl (fun t q => falls_flushQueue t q true) _ s

/-- A PTP entry is completed: bytes of device memory, then registers. -/
theorem falls_ptpDone (s : State) (k e : Nat) (x : Option Nat) : Falls ptpRegs s (s.ptpDone k e x) := by
  have done : ∀ u : State, Falls ptpRegs u ((u.ptpAdvance k 16).event ETH_EVT_PTP_TX k) := fun u =>
    ((touches_ptpAdvance k 16 u).trans (touches_event _ _ k (by simp [ptpRegs]) (by simp [sourceOnly, ptpRegs]))).falls
  cases x with
  | none => exact Falls.trans (t := s.store .device _ _) ⟨rfl, fun _ _ _ => rfl⟩ (done _)
  | some x => exact Falls.trans (t := (s.store .device _ _).store .device _ _) ⟨rfl, fun _ _ _ => rfl⟩ (done _)

/-- A frame that leaves its port or link returns its cells. -/
theorem falls_frameGone (s : State) (k : Nat) (f : Frame) (x : Nat) : Falls flushRegs s (s.frameGone k f x) := by
  have hnet : Falls flushRegs (s.reachRun x) { s.reachRun x with net := { s.net with sending := storeDrop s.net.sending k } } :=
    ⟨rfl, fun _ _ _ => rfl⟩
  exact ((falls_reachRun flushRegs s x).trans hnet).trans ((frameGone_facts s k f x).1.falls.mono (by simp [endRegs, flushRegs]))

/-- A PTP entry that has left is completed with its timestamp (R269). -/
def State.stamped (s : State) (f : Frame) : State :=
  if f.kind = 2 then s.ptpDone f.owner (word f.words 0) (some (word f.words 1)) else s

/-- A flush that waited for the last frame of its queue ends (R355). -/
def State.flushEnds (s : State) (q : Nat) : State :=
  if s.net.flushing.contains q ∧ (s.flying q).isEmpty then
    State.event { s with net := { s.net with flushing := s.net.flushing.filter (· != q) } } CELLQ_EVT_FLUSHED
  else s

theorem frameEnds_some {s : State} {k x : Nat} {f : Frame} (hs : storeFind s.net.sending k = some (f, x)) :
    s.frameEnds k = ((s.frameGone k f x).stamped f).flushEnds f.queue := by
  have hr : (s.reachRun x).net = s.net := by rw [reachRun_frame]
  unfold State.frameEnds
  rw [hs]
  dsimp only
  rw [hr]
  rfl

/-- The frame in transmission on a port or link ends. -/
theorem falls_frameEnds (s : State) (k : Nat) : Falls flushRegs s (s.frameEnds k) := by
  have hstamp : ∀ (u : State) (f : Frame), Falls flushRegs u (u.stamped f) := fun u f => by
    unfold State.stamped
    split
    · exact (falls_ptpDone u _ _ _).mono (by simp [ptpRegs, flushRegs])
    · exact Falls.refl _ u
  have hflush : ∀ (u : State) (q : Nat), Falls flushRegs u (u.flushEnds q) := fun u q => by
    unfold State.flushEnds
    split
    · exact Falls.trans (t := { u with net := _ }) ⟨rfl, fun _ _ _ => rfl⟩
        ((touches_event_self _ CELLQ_EVT_FLUSHED 0).falls.mono (by simp [sourceOnly, flushRegs]))
    · exact Falls.refl _ u
  cases hs : storeFind s.net.sending k with
  | none => exact (frameEnds_idle hs).symm ▸ Falls.refl _ s
  | some e => exact frameEnds_some hs ▸ ((falls_frameGone s k e.1 e.2).trans (hstamp _ e.1)).trans (hflush _ e.1.queue)

/-! ### A port that goes down -/

/-- A port that goes down clears LINK; the rest is the flush of its queues. -/
theorem falls_portDown (s : State) (p : Nat) : Falls flushRegs (s.setFld ETH_STS_LINK 0 p) (s.portDown p) := by
  unfold State.portDown
  split
  next h => exact ⟨rfl, fun r i _ => (reg_setFld_clear rfl (by simpa using h) r i).symm⟩
  next =>
    extract_lets ptp n s1 s2
    have h1 : Falls flushRegs (s.setFld ETH_STS_LINK 0 p) (s1.setFld ETH_STS_LINK 0 p) := ⟨rfl, fun _ _ _ => rfl⟩
    have h2 : Falls flushRegs (s1.setFld ETH_STS_LINK 0 p) s2 :=
      ((framesLost_facts ptp _).1.falls.mono (by simp [ptpRegs, flushRegs])).trans (falls_flushPort _ p)
    exact (h1.trans h2).trans ((touches_event_self s2 ETH_EVT_LINK p).falls.mono (by simp [sourceOnly, flushRegs]))

/-- The registers of a port that goes down. -/
def portRegs : List Reg := .ETH_STS :: flushRegs

theorem falls_portDown_all (s : State) (p : Nat) : Falls portRegs s (s.portDown p) :=
  (touches_setFld s ETH_STS_LINK 0 p (by simp [portRegs])).falls.trans ((falls_portDown s p).mono fun _ h => List.mem_cons_of_mem _ h)

/-- The fields of the status that stay when a port goes down. -/
theorem fld_portDown (s : State) (p : Nat) {f : Field} (hr : f.reg = .ETH_STS) (hf : ETH_STS_LINK.apart f) (i : Nat) :
    (s.portDown p).fld f i = s.fld f i := by
  rw [(falls_portDown s p).fld (by simp [hr, flushRegs]) i, fld_setFld_apart _ _ _ _ _ _ hf]

/-- A port that goes down is not up, and no other port comes up. -/
theorem link_portDown (s : State) (p q : Nat) : (s.portDown p).flag ETH_STS_LINK q = (s.flag ETH_STS_LINK q && p != q) := by
  rw [(falls_portDown s p).flag (by simp [flushRegs]) q]
  by_cases h : p = q
  · subst h
    simp [flag_setFld_zero]
  · rw [State.flag, fld_setFld_inst _ _ _ _ _ _ h, ← State.flag, bne_iff_ne.mpr h, Bool.and_true]

/-- A port that was up shows that it went down. -/
theorem event_portDown {s : State} {p : Nat} (h : s.flag ETH_STS_LINK p = true) : (s.portDown p).flag ETH_EVT_LINK p = true := by
  rw [State.portDown, if_neg (by rw [h]; exact Bool.noConfusion)]
  exact flag_event_same _ _ p (by simp) (by simp) (by simp [sourceOnly])

/-! ### A link that goes down -/

theorem falls_setLanes (s : State) (ls : List Nat) (st rate : Nat) : Falls [.LN_STS] s (s.setLanes ls st rate) :=
  (touches_foldl (fun t l => ((touches_setFld t LN_STS_STATE st l (by simp)).trans (touches_setFld _ LN_STS_RATE25 rate l (by simp))).trans
    (touches_setFld _ LN_STS_CTLE_NOW 0 l (by simp))) ls s : Touches [.LN_STS] s (s.setLanes ls st rate)).falls

theorem falls_trainLink (s : State) (k : Nat) : Falls linkRegs s (s.trainLink k) :=
  ((touches_setReg s .FL_STS 1 k (by simp [linkRegs])).trans (touches_setLanes (s.setReg .FL_STS 1 k) (s.groupLanes (linkGroup k)) 1 0)).falls.trans
    ⟨rfl, fun _ _ _ => rfl⟩

/-- The status of a link once a link restarts. -/
theorem sts_trainLink (s : State) (k j : Nat) : (s.trainLink k).reg .FL_STS j = if k = j then 1 else s.reg .FL_STS j := by
  refine ((falls_setLanes (s.setReg .FL_STS 1 k) (s.groupLanes (linkGroup k)) 1 0).2 .FL_STS j (by simp)).trans ?_
  rw [reg_setReg]
  simp

/-- A link that is down, before its neighbour counts as lost. -/
def State.linkLost (s : State) (k : Nat) : State :=
  (((((if (storeFind s.net.sending (4 + k)).isSome then s.frameEnds (4 + k) else s).trainLink k).flushPort (4 + k)).bump .FL_RETRAIN_CNT 1 k).event
    FL_EVT_DOWN k)

/-- The registers of a link that goes down. -/
def lostRegs : List Reg := .FL_STS :: .LN_STS :: .FL_RETRAIN_CNT :: .FL_EVT :: flushRegs

theorem linkLost_facts (s : State) (k : Nat) :
    Falls lostRegs s (s.linkLost k) ∧ (∀ j, (s.linkLost k).reg .FL_STS j = if k = j then 1 else s.reg .FL_STS j) ∧
      (s.linkLost k).regN .FL_RETRAIN_CNT k = min 0xFFFFFFFF (s.regN .FL_RETRAIN_CNT k + 1) ∧ (s.linkLost k).flag FL_EVT_DOWN k = true := by
  unfold State.linkLost
  have h1 : Falls flushRegs s (if (storeFind s.net.sending (4 + k)).isSome then s.frameEnds (4 + k) else s) := by
    split
    · exact falls_frameEnds s _
    · exact Falls.refl _ s
  generalize (if (storeFind s.net.sending (4 + k)).isSome then s.frameEnds (4 + k) else s) = s1 at h1 ⊢
  have h2 := falls_trainLink s1 k
  have hsts := sts_trainLink s1 k
  generalize s1.trainLink k = s2 at h2 hsts ⊢
  have h3 := falls_flushPort s2 (4 + k)
  generalize s2.flushPort (4 + k) = s3 at h3 ⊢
  have h4 := (touches_bump (rs := [.FL_RETRAIN_CNT]) s3 .FL_RETRAIN_CNT 1 k (by simp)).falls
  have h5 := (touches_event_self (s3.bump .FL_RETRAIN_CNT 1 k) FL_EVT_DOWN k).falls
  refine ⟨((h1.mono (by simp [flushRegs, lostRegs])).trans ((h2.mono (by simp [linkRegs, lostRegs])).trans
      (h3.mono (by simp [flushRegs, lostRegs])))).trans ((h4.mono (by simp [lostRegs])).trans
      (h5.mono (by simp [sourceOnly, flushRegs, lostRegs]))), fun j => ?_, ?_,
    flag_event_same _ _ k (by simp) (by simp) (by simp [sourceOnly])⟩
  · rw [h5.2 _ _ (by simp [sourceOnly]), h4.2 _ _ (by simp), h3.2 _ _ (by simp [flushRegs]), hsts, h1.2 _ _ (by simp [flushRegs])]
  · rw [h5.regN (by simp [sourceOnly]) k, regN_bump_same, h3.regN (by simp [flushRegs]) k, h2.regN (by simp [linkRegs]) k,
      h1.regN (by simp [flushRegs]) k]

theorem linkDown_eq (s : State) (k : Nat) : s.linkDown k = if s.joined then (s.linkLost k).partition k else s.linkLost k := by
  have hj : (s.linkLost k).joined = s.joined := (linkLost_facts s k).1.flag (by simp [lostRegs, flushRegs])
  rw [← hj]
  rfl

/-- The registers of a link that goes down in a ring. -/
def downRegs : List Reg := lostRegs ++ partitionRegs

/-- The loss of the neighbour, in a ring, is all that follows a link that is down. -/
theorem linkDown_facts (s : State) (k : Nat) : Falls partitionRegs (s.linkLost k) (s.linkDown k) ∧ Falls downRegs s (s.linkDown k) := by
  have hp : Falls partitionRegs (s.linkLost k) (s.linkDown k) := by
    rw [linkDown_eq]
    split
    · exact (touches_partition _ k).falls
    · exact Falls.refl _ _
  exact ⟨hp, ((linkLost_facts s k).1.mono fun _ h => List.mem_append_left _ h).trans (hp.mono fun _ h => List.mem_append_right _ h)⟩

/-- The status of a link once a link has gone down. -/
theorem sts_linkDown (s : State) (k j : Nat) : (s.linkDown k).reg .FL_STS j = if k = j then 1 else s.reg .FL_STS j := by
  rw [(linkDown_facts s k).1.2 _ _ (by simp [partitionRegs]), (linkLost_facts s k).2.1]

/-- A link that trains is not up. -/
theorem linkUp_of_training {s : State} {k : Nat} (h : s.reg .FL_STS k = 1) : s.linkUp k = false := by
  have hs : s.fld FL_STS_STATE k = 1 := congrArg (bitField · 0 3) h
  rw [State.linkUp, hs]
  rfl

end Sys2Proof.Machine
end

section
/-!
PROOFS. Lane groups, lanes under test, Fulet links and the lanes' reference clock (R257, R259, R261 to R265, R529).
-/
namespace Sys2Proof.Machine

/-! ### A lane group gets a new use -/

/-- A port loses what it showed, but for CFG_ERR (R266). -/
def State.portQuiet (s : State) (p : Nat) : State := (s.portDown p).setFld ⟨.ETH_STS, 0, 6⟩ 0 p

theorem falls_portQuiet (s : State) (p : Nat) : Falls portRegs s (s.portQuiet p) :=
  (falls_portDown_all s p).trans (touches_setFld _ ⟨.ETH_STS, 0, 6⟩ 0 p (by simp [portRegs])).falls

theorem cfgErr_portQuiet (s : State) (p i : Nat) : (s.portQuiet p).flag ETH_STS_CFG_ERR i = s.flag ETH_STS_CFG_ERR i := by
  rw [State.portQuiet, flag_setFld_apart _ _ _ _ _ _ (by simp [Field.apart]), State.flag, fld_portDown s p (by simp) (by simp [Field.apart]),
    State.flag]

/-- The ports that a group's lanes serve. -/
def State.groupPorts (s : State) (g : Nat) : List Nat := if s.packageB then List.range 4 else [g]

/-- The ports of a group are quiet, with no error of configuration, and USE is set. -/
def State.groupSet (s : State) (g u : Nat) : State :=
  ((s.groupPorts g).foldl State.portQuiet (s.setFld ETH_STS_CFG_ERR 0 (s.groupPort g))).putN .LN_GRP_CFG u g

/-- A group's lanes take their state in its new use, and their checkers are reset. -/
def State.groupRestarts (s : State) (g u : Nat) : State :=
  let t := (s.groupSet g u).setLanes (s.groupLanes g) (if (s.groupSet g u).groupUse g = 0 then 0 else 1) 0
  { t with prbs := storeErase (fun l => l / 4 == g) t.prbs }

section
variable {a : Agent} {g : Nat} {v : Word} {s : State} (ha : s.actsAsPf0 a = true) (hl : s.groupLanes g ≠ [])
include ha hl

theorem execLnGrpCfgWrite_unused (hu : s.groupInUse g = false) (hv : v.toNat % 4 ≠ s.fld LN_GRP_CFG_USE g) :
    exec (.lnGrpCfgWrite a g v) s = finish (s.groupRestarts g (v.toNat % 4)) := by
  refine congrArg finish ((byAgent_pf0 ha ..).trans ?_)
  rw [if_neg (by simpa using hl), if_neg (by simp [hu]), if_neg hv]
  rfl

theorem execLnGrpCfgWrite_used (hu : s.groupInUse g = true) :
    exec (.lnGrpCfgWrite a g v) s = finish (s.setFld ETH_STS_CFG_ERR 1 (s.groupPort g)) := by
  refine congrArg finish ((byAgent_pf0 ha ..).trans ?_)
  rw [if_neg (by simpa using hl), if_pos hu]

end

/-- The registers of a group that gets a new use. -/
def groupRegs : List Reg := .LN_GRP_CFG :: portRegs

theorem groupSet_facts (s : State) (g : Nat) {u : Nat} (hu : u < 4) :
    Falls groupRegs s (s.groupSet g u) ∧ (s.groupSet g u).fld LN_GRP_CFG_USE g = u ∧
      (s.groupSet g u).flag ETH_STS_CFG_ERR (s.groupPort g) = false := by
  have herr := flag_setFld_zero s ETH_STS_CFG_ERR (s.groupPort g) (by simp)
  have hclear := (touches_setFld (rs := portRegs) s ETH_STS_CFG_ERR 0 (s.groupPort g) (by simp [portRegs])).falls
  unfold State.groupSet
  generalize s.setFld ETH_STS_CFG_ERR 0 (s.groupPort g) = u1 at herr hclear ⊢
  have hquiet := falls_foldl falls_portQuiet (s.groupPorts g) u1
  have hkept := foldl_keeps (fun t : State => t.flag ETH_STS_CFG_ERR (s.groupPort g)) (fun t p => cfgErr_portQuiet t p _) (s.groupPorts g) u1
  generalize (s.groupPorts g).foldl State.portQuiet u1 = u2 at hquiet hkept ⊢
  have hput := touches_putN (rs := [.LN_GRP_CFG]) u2 .LN_GRP_CFG u g (by simp)
  refine ⟨((hclear.trans hquiet).mono fun _ h => List.mem_cons_of_mem _ h).trans (hput.falls.mono (by simp)), ?_, ?_⟩
  · refine (fld_putN_same u2 LN_GRP_CFG_USE g (show u < 2 ^ 32 by omega)).trans ?_
    exact Nat.mod_eq_of_lt hu
  · exact (hput.flag (by simp) _).trans (hkept.trans herr)

/-- A group that is not in use gets its new use. -/
theorem lnGrpCfgWrite_restarts {a : Agent} {g : Nat} {v : Word} {s : State} (ha : s.actsAsPf0 a = true) (hl : s.groupLanes g ≠ [])
    (hu : s.groupInUse g = false) (hv : v.toNat % 4 ≠ s.fld LN_GRP_CFG_USE g) :
    Gives (.lnGrpCfgWrite a g v) s fun t =>
      t.fld LN_GRP_CFG_USE g = v.toNat % 4 ∧ t.flag ETH_STS_CFG_ERR (s.groupPort g) = false ∧
      (∀ l : Nat, l < 16 → l / 4 = g → s.lanePresent l = true → t.fld LN_STS_STATE l = (if t.groupUse g = 0 then 0 else 1) ∧ storeFind t.prbs l = none) ∧
      t.streams = s.streams := by
  obtain ⟨hset, huse, herr⟩ := groupSet_facts s g (u := v.toNat % 4) (Nat.mod_lt _ (by omega))
  have hx := execLnGrpCfgWrite_unused ha hl hu hv
  unfold State.groupRestarts at hx
  generalize s.groupSet g (v.toNat % 4) = u at hx hset huse herr
  have hlanes := falls_setLanes u (s.groupLanes g) (if u.groupUse g = 0 then 0 else 1) 0
  have hgroup : (settle { u.setLanes (s.groupLanes g) (if u.groupUse g = 0 then 0 else 1) 0 with
      prbs := storeErase (fun l => l / 4 == g) (u.setLanes (s.groupLanes g) (if u.groupUse g = 0 then 0 else 1) 0).prbs }).groupUse g =
      u.groupUse g := groupUse_congr ((fld_settle _ _ _ (by simp)).trans (hlanes.fld (by simp) g)) hlanes.chip
  refine gives_finish hx ⟨?_, ?_, fun l _ hlg hp => ⟨?_, ?_⟩, hlanes.streams.trans hset.streams⟩
  · exact (fld_settle _ _ _ (by simp)).trans ((hlanes.fld (by simp) g).trans huse)
  · exact (flag_settle _ _ _ (by simp)).trans ((hlanes.flag (by simp) _).trans herr)
  · rw [hgroup]
    refine (fld_settle _ _ _ (by simp)).trans ((laneState_setLanes u (mem_groupLanes hlg hp) _ 0).trans ?_)
    split <;> rfl
  · exact (storeFind_erase (fun l => l / 4 == g) _ l).trans (if_pos (beq_iff_eq.mpr hlg))

/-- A group in use keeps its use. -/
theorem lnGrpCfgWrite_used {a : Agent} {g : Nat} (v : Word) {s : State} (ha : s.actsAsPf0 a = true) (hl : s.groupLanes g ≠ [])
    (hu : s.groupInUse g = true) :
    Gives (.lnGrpCfgWrite a g v) s fun t => t.flag ETH_STS_CFG_ERR (s.groupPort g) = true ∧ OnlyRegs [.ETH_STS] s t := by
  refine gives_finish (execLnGrpCfgWrite_used ha hl hu) ⟨?_, onlyRegs_of_touches (touches_setFld s ETH_STS_CFG_ERR 1 _ (by simp))⟩
  rw [flag_settle _ _ _ (by simp), flag_setFld_one _ _ _ (by simp) (by simp)]

theorem execLnGrpCfgWrite_other {f : Nat} (g : Nat) (v : Word) {s : State} (hf : f ≠ 0) : exec (.lnGrpCfgWrite (.func f) g v) s = finish s :=
  congrArg finish ((byAgent_func ..).trans (if_pos (.inl hf)))

/-! ### Lanes under test -/

theorem execLnPrbsInjWrite_other {f : Nat} (l : Nat) (v : Word) {s : State} (hf : f ≠ 0) : exec (.lnPrbsInjWrite (.func f) l v) s = finish s :=
  congrArg finish ((byAgent_func ..).trans (if_pos (.inl hf)))

/-- PERIOD is set, and ONE inverts one bit. -/
theorem lnPrbsInjWrite_injects {a : Agent} {l : Nat} (v : Word) {s : State} (ha : s.actsAsPf0 a = true) (hl : l < 16) (ht : s.underTest l = true) :
    Gives (.lnPrbsInjWrite a l v) s fun t =>
      t.regN .LN_PRBS_INJ l = v.toNat / 65536 * 65536 ∧ t.sent = (if v.toNat % 2 = 1 then Sent.bitError l :: s.sent else s.sent) ∧
      OnlyRegs [.LN_PRBS_INJ] { s with sent := t.sent } t := by
  have hx : exec (.lnPrbsInjWrite a l v) s = finish { s.putN .LN_PRBS_INJ (v.toNat / 65536 * 65536) l with
      sent := if v.toNat % 2 = 1 then Sent.bitError l :: s.sent else s.sent } := by
    refine congrArg finish ((byAgent_pf0 ha ..).trans ?_)
    rw [if_neg (by simp [ht, hl])]
    dsimp only
    split
    · rfl
    · rfl
  have hfit : v.toNat / 65536 * 65536 < 2 ^ 32 := lt_of_le_of_lt (Nat.div_mul_le_self _ _) v.isLt
  refine gives_finish hx ⟨?_, rfl, onlyRegs_of_touches
    (s := { s with sent := if v.toNat % 2 = 1 then Sent.bitError l :: s.sent else s.sent }) (touches_putN _ .LN_PRBS_INJ _ l (by simp))⟩
  exact (regN_settle _ _ _ (by simp)).trans (regN_putN_same s .LN_PRBS_INJ _ l hfit)

section
variable {l : Nat} {s : State} (ht : s.underTest l = true) (he : s.flag LN_PRBS_CFG_RX_EN l = true)
include ht he

/-- The checker of a lane under test locks. -/
theorem prbsCheckerLock_locks (n : Nat) (hn : storeFind s.prbs l = none) :
    Gives (.prbsCheckerLock l true n) s fun t => storeFind t.prbs l = some true ∧ t = settle { s with prbs := t.prbs } := by
  have hx : exec (.prbsCheckerLock l true n) s = finish { s with prbs := storeInsert s.prbs l true } := by
    refine congrArg finish ?_
    dsimp only
    rw [if_neg (by rw [hn, ht, he]; simp), if_pos rfl]
  exact gives_finish hx ⟨storeFind_insert_same _ _ _, rfl⟩

/-- The checker of a lane under test loses lock: its errors are counted. -/
theorem prbsCheckerLock_loses (n : Nat) (hn : storeFind s.prbs l = some true) :
    Gives (.prbsCheckerLock l false n) s fun t =>
      storeFind t.prbs l = none ∧ t.regN .LN_PRBS_ERR l = min 0xFFFFFFFF (s.regN .LN_PRBS_ERR l + n) ∧ t.flag LN_EVT_PRBS_LOSS l = true ∧
      OnlyRegs [.LN_PRBS_ERR, .LN_EVT, .IC_PEND, .IC_MERGE_CNT] { s with prbs := t.prbs } t := by
  have hx : exec (.prbsCheckerLock l false n) s =
      finish ((State.bump { s with prbs := storeDrop s.prbs l } .LN_PRBS_ERR n l).event LN_EVT_PRBS_LOSS l) := by
    refine congrArg finish ?_
    dsimp only
    rw [if_neg (by rw [hn, ht, he]; simp), if_neg (by simp)]
  have hb := touches_bump (rs := [.LN_PRBS_ERR]) { s with prbs := storeDrop s.prbs l } .LN_PRBS_ERR n l (by simp)
  have hcnt : (State.bump { s with prbs := storeDrop s.prbs l } .LN_PRBS_ERR n l).regN .LN_PRBS_ERR l = min 0xFFFFFFFF (s.regN .LN_PRBS_ERR l + n) :=
    regN_bump_same _ .LN_PRBS_ERR n l
  generalize State.bump { s with prbs := storeDrop s.prbs l } .LN_PRBS_ERR n l = u at hx hb hcnt
  have hevt := touches_event_self u LN_EVT_PRBS_LOSS l
  have hprbs : (u.event LN_EVT_PRBS_LOSS l).prbs = storeDrop s.prbs l := hevt.rest.prbs.trans hb.rest.prbs
  refine gives_finish hx ⟨?_, ?_, ?_, ?_⟩
  · rw [settle_prbs, hprbs, storeFind_drop_same]
  · rw [regN_settle _ _ _ (by simp), hevt.regN (by simp [sourceOnly]) l, hcnt]
  · rw [flag_settle _ _ _ (by simp), flag_event_same _ _ l (by simp) (by simp) (by simp [sourceOnly])]
  · rw [settle_prbs, hprbs]
    exact onlyRegs_of_touches ((hb.mono (by simp)).trans (hevt.mono (by simp [sourceOnly])))

end

/-! ### Fulet links -/

theorem execFuletLinkDown_idle {k : Nat} {s : State} (h : 2 ≤ k ∨ s.linkUp k = false) : exec (.fuletLinkDown k) s = finish s := by
  refine congrArg finish (if_neg fun hk => ?_)
  obtain ⟨hlt, hup⟩ := hk
  rcases h with h | h
  · omega
  · rw [h] at hup
    cases hup

theorem fuletLinkDown_retrains {k : Nat} {s : State} (hk : k < 2) (hu : s.linkUp k = true) :
    Gives (.fuletLinkDown k) s fun t =>
      t.reg .FL_STS k = 1 ∧ t.regN .FL_RETRAIN_CNT k = min 0xFFFFFFFF (s.regN .FL_RETRAIN_CNT k + 1) ∧ t.flag FL_EVT_DOWN k = true ∧
      (s.joined = true → t.flag RING_STS_PARTITIONED = true ∧ t.flag RING_EVT_NB_LOSS = true) ∧ t.streams = s.streams := by
  have hx : exec (.fuletLinkDown k) s = finish (s.linkDown k) := congrArg finish (if_pos ⟨hk, hu⟩)
  obtain ⟨-, -, hcnt, hevt⟩ := linkLost_facts s k
  obtain ⟨hpart, hdown⟩ := linkDown_facts s k
  refine gives_finish hx ⟨?_, ?_, ?_, fun hj => ?_, hdown.streams⟩
  · rw [reg_settle _ _ _ (by simp), sts_linkDown, if_pos rfl]
  · rw [regN_settle _ _ _ (by simp), hpart.regN (by simp [partitionRegs]) k, hcnt]
  · rw [flag_settle _ _ _ (by simp), hpart.flag (by simp [partitionRegs]) k, hevt]
  · rw [flag_settle _ _ _ (by simp), flag_settle _ _ _ (by simp), linkDown_eq, if_pos hj]
    exact partition_facts (s.linkLost k) k

theorem execFuletLinkUp_idle {k : Nat} (n x : Nat) (f d e r : Bool) {s : State} (h : 2 ≤ k ∨ s.fld FL_STS_STATE k = 0) :
    exec (.fuletLinkUp k n f d e r x) s = finish s :=
  congrArg finish (if_pos (h.imp_right Or.inl))

/-- The lanes of a link lock, and its status and skew are shown. -/
def State.linkLocked (s : State) (k n sts x : Nat) (fast : Bool) : State :=
  ((s.putN .FL_STS sts k).setFld FL_SKEW_SKEW x k).lockLanes ((s.groupLanes (linkGroup k)).take (2 ^ n)) fast.toNat

/-- The events of a link that is up. -/
def State.linkEvents (s : State) (k : Nat) (d e : Bool) : State :=
  ((s.event FL_EVT_UP k).eventIf d FL_EVT_DEGRADED k).eventIf e FL_EVT_STEP_FAIL k

/-- A member, and a device that joins, greets its neighbour. -/
def State.greets (s : State) (k : Nat) : State := if s.joined ∨ s.ring.joining.isSome then s.sendHello k 1 false else s

/-- What `FL_STS` shows of a link that is up: STATE 5, its rate, the lanes that run and what its bring-up found (R261). -/
def upStatus (fast : Bool) (n : Nat) (d e r : Bool) : Nat := 5 + fast.toNat * 8 + n * 16 + d.toNat * 64 + e.toNat * 128 + r.toNat * 512

theorem upStatus_mod (fast : Bool) (n : Nat) (d e r : Bool) : upStatus fast n d e r % 8 = 5 := by
  unfold upStatus
  omega

theorem upStatus_lt (fast : Bool) {n : Nat} (d e r : Bool) (hn : n ≤ 2) : upStatus fast n d e r < 2 ^ 32 := by
  have := fast.toNat_le
  have := d.toNat_le
  have := e.toNat_le
  have := r.toNat_le
  unfold upStatus
  omega

theorem execFuletLinkUp_up {k : Nat} (n x : Nat) (f d e r : Bool) {s : State} (hk : k < 2) (h0 : s.fld FL_STS_STATE k ≠ 0)
    (h5 : s.fld FL_STS_STATE k ≠ 5) (hu : s.groupUse (linkGroup k) = 2) :
    ∃ fast : Bool, exec (.fuletLinkUp k n f d e r x) s =
      finish (((s.linkLocked k (min (min n 2) (min 2 (s.fld FL_CFG_LANES k))) (upStatus fast (min (min n 2) (min 2 (s.fld FL_CFG_LANES k))) d e r)
        x fast).linkEvents k d e).greets k) := by
  refine ⟨f && s.flag FL_CFG_MAX25 k && !e, congrArg finish (if_neg ?_)⟩
  rintro (h | h | h | h)
  · omega
  · exact h0 h
  · exact h5 h
  · exact h hu

theorem linkLocked_facts (s : State) (k n : Nat) {sts : Nat} (x : Nat) (fast : Bool) (hs : sts < 2 ^ 32) :
    Measures [.FL_STS, .FL_SKEW, .LN_STS] s (s.linkLocked k n sts x fast) ∧ (s.linkLocked k n sts x fast).fld FL_STS_STATE k = sts % 8 ∧
      ∀ l ∈ (s.groupLanes (linkGroup k)).take (2 ^ n), (s.linkLocked k n sts x fast).fld LN_STS_STATE l = 3 := by
  have hput := touches_putN (rs := [.FL_STS]) s .FL_STS sts k (by simp)
  have hskew := touches_setFld (rs := [.FL_SKEW]) (s.putN .FL_STS sts k) FL_SKEW_SKEW x k (by simp)
  have hlock := measures_lockLanes ((s.groupLanes (linkGroup k)).take (2 ^ n)) fast.toNat ((s.putN .FL_STS sts k).setFld FL_SKEW_SKEW x k)
  refine ⟨((hput.mono (by simp)).trans (hskew.mono (by simp))).measures.trans (hlock.mono (by simp)), ?_,
    fun l hl => laneState_lockLanes _ hl _⟩
  have hsts : (s.putN .FL_STS sts k).fld FL_STS_STATE k = sts % 8 := fld_putN_same s FL_STS_STATE k hs
  rw [State.fld, State.linkLocked, hlock.2 _ _ (by simp), ← State.fld, hskew.fld (by simp) k, hsts]

/-- An event that has occurred stays when another of its register occurs. -/
theorem flag_eventIf_apart (s : State) (b : Bool) {f g : Field} (i : Nat) (hg : g.reg ∉ sourceOnly) (h : f.apart g) :
    (s.eventIf b f i).flag g i = s.flag g i := by
  cases b
  case false => rfl
  case true =>
    have hset := flag_setFld_apart s f g 1 i i h
    show (s.event f i).flag g i = _
    unfold State.event
    split
    · rfl
    · dsimp only
      split
      · split
        · exact ((touches_raise (rs := sourceOnly) (s.setFld f 1 i) _ fun _ hm => hm).flag hg i).trans hset
        · exact hset
      · exact hset

theorem linkEvents_facts (s : State) (k : Nat) (d e : Bool) :
    Touches [.FL_EVT, .IC_PEND, .IC_MERGE_CNT] s (s.linkEvents k d e) ∧ (s.linkEvents k d e).flag FL_EVT_UP k = true ∧
      (d = true → (s.linkEvents k d e).flag FL_EVT_DEGRADED k = true) ∧ (e = true → (s.linkEvents k d e).flag FL_EVT_STEP_FAIL k = true) := by
  refine ⟨((touches_event_self s FL_EVT_UP k).trans (touches_eventIf _ d FL_EVT_DEGRADED k)).trans (touches_eventIf _ e FL_EVT_STEP_FAIL k),
    ?_, fun hd => ?_, fun he => ?_⟩
  · rw [State.linkEvents, flag_eventIf_apart _ _ _ (by simp [sourceOnly]) (by simp [Field.apart]),
      flag_eventIf_apart _ _ _ (by simp [sourceOnly]) (by simp [Field.apart]),
      flag_event_same _ _ k (by simp) (by simp) (by simp [sourceOnly])]
  · rw [State.linkEvents, flag_eventIf_apart _ _ _ (by simp [sourceOnly]) (by simp [Field.apart]), hd]
    exact flag_event_same _ _ k (by simp) (by simp) (by simp [sourceOnly])
  · rw [State.linkEvents, he]
    exact flag_event_same _ _ k (by simp) (by simp) (by simp [sourceOnly])

theorem greets_frame (s : State) (k : Nat) : ∃ w, s.greets k = { s with net := w } := by
  unfold State.greets
  split
  · exact ⟨_, rfl⟩
  · exact ⟨s.net, rfl⟩

/-- A link that has finished its bring-up is UP, with its lanes LOCKED. -/
theorem fuletLinkUp_up {k : Nat} (n x : Nat) (f d e r : Bool) {s : State} (hk : k < 2) (h0 : s.fld FL_STS_STATE k ≠ 0)
    (h5 : s.fld FL_STS_STATE k ≠ 5) (hu : s.groupUse (linkGroup k) = 2) :
    Gives (.fuletLinkUp k n f d e r x) s fun t =>
      t.fld FL_STS_STATE k = 5 ∧ t.flag FL_EVT_UP k = true ∧ (d = true → t.flag FL_EVT_DEGRADED k = true) ∧
      (e = true → t.flag FL_EVT_STEP_FAIL k = true) ∧
      ((s.groupLanes (linkGroup k)).take (2 ^ min (min n 2) (min 2 (s.fld FL_CFG_LANES k)))).all (fun l => t.fld LN_STS_STATE l == 3) = true ∧
      t.streams = s.streams ∧ t.flows = s.flows ∧ SameMemory s t := by
  obtain ⟨fast, hx⟩ := execFuletLinkUp_up n x f d e r hk h0 h5 hu
  have hfit := upStatus_lt fast d e r (show min (min n 2) (min 2 (s.fld FL_CFG_LANES k)) ≤ 2 by omega)
  generalize min (min n 2) (min 2 (s.fld FL_CFG_LANES k)) = m at hx hfit ⊢
  obtain ⟨hlock, hsts, hlanes⟩ := linkLocked_facts s k m x fast hfit
  rw [upStatus_mod] at hsts
  generalize s.linkLocked k m (upStatus fast m d e r) x fast = u at hx hlock hsts hlanes
  obtain ⟨hevt, hup, hdeg, hfail⟩ := linkEvents_facts u k d e
  generalize u.linkEvents k d e = w at hx hevt hup hdeg hfail
  obtain ⟨net, hgreet⟩ := greets_frame w k
  rw [hgreet] at hx
  have hall : Measures [.FL_STS, .FL_SKEW, .LN_STS, .FL_EVT, .IC_PEND, .IC_MERGE_CNT] s w :=
    (hlock.mono (by simp)).trans (hevt.measures.mono (by simp))
  refine gives_finish hx ⟨?_, ?_, fun hd => ?_, fun he => ?_, ?_, ?_, ?_, ?_⟩
  · exact (fld_settle _ _ _ (by simp)).trans ((hevt.fld (by simp) k).trans hsts)
  · exact (flag_settle _ _ _ (by simp)).trans hup
  · exact (flag_settle _ _ _ (by simp)).trans (hdeg hd)
  · exact (flag_settle _ _ _ (by simp)).trans (hfail he)
  · refine List.all_eq_true.mpr fun l hl => beq_iff_eq.mpr ?_
    exact (fld_settle _ _ _ (by simp)).trans ((hevt.fld (by simp) l).trans (hlanes l hl))
  · rw [settle_streams, hall.1]
  · rw [settle_flows, hall.1]
  · exact sameMemory_of_mems (by rw [settle_mem, hall.1]) (by rw [settle_hostMem, hall.1]) (by rw [settle_spad, hall.1])

/-! ### The lanes' reference clock -/

theorem execRefclkLaneLoss_lost {s : State} (h : s.tb.refLost = true) : exec .refclkLaneLoss s = finish s := congrArg finish (if_pos h)

theorem execRefclkLaneReturn_kept {s : State} (h : s.tb.refLost = false) : exec .refclkLaneReturn s = finish s :=
  congrArg finish (if_pos (by simp [h]))

/-- The time base goes on from the backup clock (R24). -/
def State.clockLost (s : State) : State :=
  let s1 := if s.flag TB_STATUS_CLK_ALT then s else (s.setFld TB_STATUS_CLK_ALT 1).tbEvent 103
  { s1 with tb := { s1.tb with refLost := true } }

/-- A link that is up goes down. -/
def State.linkStops (s : State) (k : Nat) : State := if s.linkUp k then s.linkDown k else s

/-- Every port and link is down. -/
def State.lanesLost (s : State) : State := [0, 1].foldl State.linkStops ((List.range 4).foldl State.portDown s)

theorem clockLost_facts (s : State) : s.clockLost.tb.refLost = true ∧ s.clockLost.flag TB_STATUS_CLK_ALT = true ∧ s.clockLost.streams = s.streams := by
  unfold State.clockLost
  dsimp only
  split
  next h => exact ⟨rfl, h, rfl⟩
  next =>
    have ht := tbEvent_frame (s.setFld TB_STATUS_CLK_ALT 1) 103
    exact ⟨rfl, (ht.flag (by simp [tbEventRegs])).trans (flag_setFld_one s _ 0 (by simp) (by simp)), ht.streams⟩

theorem falls_linkStops (s : State) (k : Nat) : Falls downRegs s (s.linkStops k) := by
  unfold State.linkStops
  split
  · exact (linkDown_facts s k).2
  · exact Falls.refl _ s

/-- A link that stops is not up, and no other link comes up. -/
theorem linkUp_linkStops (s : State) (k j : Nat) : (s.linkStops k).linkUp j = (s.linkUp j && k != j) := by
  unfold State.linkStops
  by_cases hkj : k = j
  · subst hkj
    rw [bne_self_eq_false, Bool.and_false]
    split
    next => exact linkUp_of_training ((sts_linkDown s k k).trans (if_pos rfl))
    next h => exact Bool.eq_false_iff.mpr h
  · rw [bne_iff_ne.mpr hkj, Bool.and_true]
    split
    · have hsts : (s.linkDown k).fld FL_STS_STATE j = s.fld FL_STS_STATE j := congrArg (bitField · 0 3) ((sts_linkDown s k j).trans (if_neg hkj))
      rw [State.linkUp, hsts, State.linkUp]
    · rfl

/-- The registers of ports and links that go down. -/
def lanesRegs : List Reg := .ETH_STS :: downRegs

theorem lanesLost_facts (s : State) :
    Falls lanesRegs s s.lanesLost ∧ (∀ p < 4, s.lanesLost.flag ETH_STS_LINK p = false) ∧ ∀ k ∈ [0, 1], s.lanesLost.linkUp k = false := by
  have hports := falls_foldl falls_portDown_all (List.range 4) s
  have hdown : ∀ p < 4, ((List.range 4).foldl State.portDown s).flag ETH_STS_LINK p = false := fun p hp =>
    foldl_establishes (P := fun q (t : State) => t.flag ETH_STS_LINK q = false) (fun t q => by simp only [link_portDown, bne_self_eq_false, Bool.and_false])
      (fun t q b hq => by rw [link_portDown, hq, Bool.false_and]) (List.mem_range.mpr hp) s
  unfold State.lanesLost
  generalize (List.range 4).foldl State.portDown s = u at hports hdown ⊢
  have hlinks := falls_foldl falls_linkStops [0, 1] u
  refine ⟨(hports.mono fun r hr => ?_).trans (hlinks.mono fun _ h => List.mem_cons_of_mem _ h), fun p hp => ?_, fun k hk => ?_⟩
  · rcases List.mem_cons.mp hr with rfl | hr
    · exact List.mem_cons_self
    · exact List.mem_cons_of_mem _ (List.mem_append_left _ (by simp [lostRegs, hr]))
  · rw [hlinks.flag (by simp [downRegs, lostRegs, flushRegs, partitionRegs]) p, hdown p hp]
  · exact foldl_establishes (P := fun j (t : State) => t.linkUp j = false) (fun t j => by simp only [linkUp_linkStops, bne_self_eq_false, Bool.and_false])
      (fun t j b hj => by rw [linkUp_linkStops, hj, Bool.false_and]) hk u

theorem execRefclkLaneLoss_kept {s : State} (h : s.tb.refLost = false) :
    ∃ ls, exec .refclkLaneLoss s = finish (s.clockLost.lanesLost.setLanes ls 1 0) :=
  ⟨_, congrArg finish (if_neg (by simp [h]))⟩

/-- The lanes' reference is lost: every port and link is down. -/
theorem refclkLaneLoss_stops {s : State} (h : s.tb.refLost = false) :
    Gives .refclkLaneLoss s fun t =>
      t.tb.refLost = true ∧ t.flag TB_STATUS_CLK_ALT = true ∧ (∀ p : Nat, p < 4 → t.flag ETH_STS_LINK p = false) ∧
      t.linkUp 0 = false ∧ t.linkUp 1 = false ∧ t.streams = s.streams := by
  obtain ⟨ls, hx⟩ := execRefclkLaneLoss_kept h
  obtain ⟨hlost, halt, hstr⟩ := clockLost_facts s
  obtain ⟨hfall, hports, hlinks⟩ := lanesLost_facts s.clockLost
  have hset := falls_setLanes s.clockLost.lanesLost ls 1 0
  have hup : ∀ k ∈ [0, 1], (settle (s.clockLost.lanesLost.setLanes ls 1 0)).linkUp k = false := fun k hk => by
    rw [State.linkUp, fld_settle _ _ _ (by simp), hset.fld (by simp) k, ← State.linkUp, hlinks k hk]
  refine gives_finish hx ⟨?_, ?_, fun p hp => ?_, hup 0 (by simp), hup 1 (by simp), ?_⟩
  · rw [settle_tb, hset.refLost, hfall.refLost, hlost]
  · rw [flag_settle _ _ _ (by simp), hset.flag (by simp), hfall.flag (by simp [lanesRegs, downRegs, lostRegs, flushRegs, partitionRegs]), halt]
  · rw [flag_settle _ _ _ (by simp), hset.flag (by simp) p, hports p hp]
  · rw [settle_streams, hset.streams, hfall.streams, hstr]

/-- A link of a member trains again. -/
def State.linkTrains (s : State) (k : Nat) : State := if s.groupUse (linkGroup k) = 2 ∧ s.joined then s.trainLink k else s

theorem linkTrains_facts (s : State) (k : Nat) :
    Rings linkRegs s (s.linkTrains k) ∧
      ∀ j, (s.linkTrains k).reg .FL_STS j = if k = j ∧ s.groupUse (linkGroup k) = 2 ∧ s.joined = true then 1 else s.reg .FL_STS j := by
  unfold State.linkTrains
  split
  next h =>
    refine ⟨(trainLink_facts s k).1, fun j => ?_⟩
    rw [sts_trainLink]
    simp only [h, and_true]
  next h => exact ⟨(Touches.refl _ s).rings, fun j => (if_neg fun hj => h hj.2).symm⟩

/-- The lanes' reference is back: the links of a member train again. -/
theorem refclkLaneReturn_trains {s : State} (h : s.tb.refLost = true) :
    Gives .refclkLaneReturn s fun t =>
      t.tb.refLost = false ∧ (s.groupUse 1 = 2 → s.joined = true → t.reg .FL_STS 0 = 1) ∧ (s.groupUse 3 = 2 → s.joined = true → t.reg .FL_STS 1 = 1) ∧
      SameRegs [.FL_STS, .LN_STS] s t ∧ t.streams = s.streams ∧ t.flows = s.flows ∧ SameMemory s t := by
  obtain ⟨u, hu, hx⟩ : ∃ u, u = { s with tb := { s.tb with refLost := false } } ∧ exec .refclkLaneReturn s = finish ((u.linkTrains 0).linkTrains 1) :=
    ⟨_, rfl, congrArg finish (if_neg (by simp [h]))⟩
  obtain ⟨h0, hs0⟩ := linkTrains_facts u 0
  obtain ⟨h1, hs1⟩ := linkTrains_facts (u.linkTrains 0) 1
  have hall := h0.trans h1
  have hfld : ∀ {f : Field} (i : Nat), f.reg ∉ linkRegs → (u.linkTrains 0).fld f i = u.fld f i := fun i hf => by simp only [State.fld, h0.2 _ i hf]
  have huse : (u.linkTrains 0).groupUse (linkGroup 1) = u.groupUse (linkGroup 1) := groupUse_congr (hfld _ (by simp [linkRegs])) (by rw [h0.1])
  have hjoin : (u.linkTrains 0).joined = u.joined := by simp only [State.joined, State.flag, hfld 0 (show RING_CFG_JOINED.reg ∉ linkRegs by simp [linkRegs])]
  generalize (u.linkTrains 0).linkTrains 1 = w at hx hs1 hall
  subst hu
  refine gives_finish hx ⟨?_, fun hg hj => ?_, fun hg hj => ?_, sameRegs_settle hall.2, hall.streams, ?_, hall.sameMemory⟩
  · rw [settle_tb, hall.1]
  · rw [reg_settle _ _ _ (by simp), hs1, if_neg (by simp), hs0]
    exact if_pos ⟨rfl, hg, hj⟩
  · rw [reg_settle _ _ _ (by simp), hs1, huse, hjoin]
    exact if_pos ⟨rfl, hg, hj⟩
  · rw [settle_flows, hall.1]

end Sys2Proof.Machine
end

section
/-!
SUPPORT. A packet of an ingest flow: what the policer, the order of packets, access units and lines leave of the flows and of what they have
counted (R275 to R279, R301, R494).
-/
namespace Sys2Proof.Machine

/-! ### What a flow has counted -/

/-- A flow has counted the packets and bytes it had counted, and every other flow is as it was. -/
def KeepsTally (h : Nat) (s t : State) : Prop :=
  (t.flow h).packets = (s.flow h).packets ∧ (t.flow h).bytes = (s.flow h).bytes ∧ ∀ e, e ≠ h → t.flow e = s.flow e

theorem KeepsTally.trans {h : Nat} {s t u : State} (a : KeepsTally h s t) (b : KeepsTally h t u) : KeepsTally h s u :=
  ⟨b.1.trans a.1, b.2.1.trans a.2.1, fun e he => (b.2.2 e he).trans (a.2.2 e he)⟩

/-- What leaves the flows leaves what they have counted. -/
theorem keepsTally_of_flows {s t : State} (h : Nat) (hf : t.flows = s.flows) : KeepsTally h s t := by
  have hflow : ∀ e, t.flow e = s.flow e := fun e => by rw [State.flow, hf, State.flow]
  exact ⟨by rw [hflow], by rw [hflow], fun e _ => hflow e⟩

theorem KeepsTally.refl (h : Nat) (s : State) : KeepsTally h s s := keepsTally_of_flows h rfl

/-- Setting a flow to one that has counted the same. -/
theorem keepsTally_setFlow {h : Nat} {s : State} {w : Flow} (hp : w.packets = (s.flow h).packets) (hb : w.bytes = (s.flow h).bytes) :
    KeepsTally h s (s.setFlow h w) :=
  ⟨by rw [flow_setFlow_same, hp], by rw [flow_setFlow_same, hb], fun _ he => flow_setFlow_ne s w he⟩

theorem keepsTally_onFlow {h : Nat} (s : State) {f : Flow → Flow} (hp : ∀ w, (f w).packets = w.packets) (hb : ∀ w, (f w).bytes = w.bytes) :
    KeepsTally h s (s.onFlow h f) := keepsTally_setFlow (hp _) (hb _)

theorem keepsTally_flowDrops (s : State) (h n : Nat) : KeepsTally h s (s.flowDrops h n) := by
  unfold State.flowDrops
  split
  · exact KeepsTally.refl h s
  · exact keepsTally_setFlow (by rfl) (by rfl)

theorem keepsTally_foldl {α : Type} {h : Nat} {f : State → α → State} (hf : ∀ t a, KeepsTally h t (f t a)) (l : List α) (s : State) :
    KeepsTally h s (l.foldl f s) := by
  induction l generalizing s with
  | nil => exact KeepsTally.refl h s
  | cons a l ih => exact (hf s a).trans (ih _)

/-! ### Operations that leave the flows -/

theorem event_flows (s : State) (f : Field) (i : Nat) : (s.event f i).flows = s.flows := (touches_event_self s f i).rest.flows
theorem eventIf_flows (s : State) (b : Bool) (f : Field) (i : Nat) : (s.eventIf b f i).flows = s.flows := (touches_eventIf s b f i).rest.flows
theorem mark_flows (s : State) (d a b : Nat) : (s.mark d a b).flows = s.flows := rfl

theorem police_flows (s : State) (i n dscp : Nat) (dei : Bool) : (s.police i n dscp dei).2.flows = s.flows := by
  unfold State.police
  split
  · rfl
  · rfl

theorem passPolicer_flows (s : State) (h n dscp : Nat) (dei : Bool) (port : Nat) (c : Bool) : (s.passPolicer h n dscp dei port c).2.flows = s.flows := by
  unfold State.passPolicer
  extract_lets i
  have hp := police_flows s i n dscp dei
  generalize s.police i n dscp dei = r at hp ⊢
  obtain ⟨col, t⟩ := r
  dsimp only
  split
  · exact hp
  · split
    · exact (event_flows _ _ _).trans hp
    · exact hp
  · exact (event_flows _ _ _).trans hp

theorem bpOver_flows (s : State) (k n : Nat) : (s.bpOver k n).flows = s.flows := by
  unfold State.bpOver
  extract_lets hi was ovr s1
  split
  · rfl
  · exact event_flows s1 _ _

theorem bpSync_flows (s : State) (k i n : Nat) : (s.bpSync k i n).flows = s.flows := by
  unfold State.bpSync
  extract_lets s1 s2
  exact (store_flows ..).trans (bpOver_flows s1 k n)

theorem bpTake_flows (s : State) (k : Nat) (g : Bool) : (s.bpTake k g).2.flows = s.flows := by
  unfold State.bpTake
  dsimp only
  split
  · exact event_flows _ _ _
  · exact bpSync_flows _ _ _ _

theorem bpFree_flows (s : State) (k i : Nat) : (s.bpFree k i).flows = s.flows := by
  unfold State.bpFree
  split
  · exact event_flows _ _ _
  · split
    · exact event_flows _ _ _
    · exact bpSync_flows _ _ _ _

theorem bpFreeAll_flows (s : State) (l : List (Nat × Nat)) : (s.bpFreeAll l).flows = s.flows := by
  unfold State.bpFreeAll
  induction l generalizing s with
  | nil => rfl
  | cons b l ih => exact (ih _).trans (bpFree_flows s b.1 b.2)

theorem growChain_flows (n had : Nat) : ∀ (fuel : Nat) (bufs : List (Nat × Nat)) (s : State), (s.growChain n had fuel bufs).2.flows = s.flows
  | 0, _, _ => rfl
  | fuel + 1, bufs, s => by
    have htake := bpTake_flows s 1 true
    unfold State.growChain
    split
    · rfl
    · split
      · exact bpFreeAll_flows _ _
      · generalize s.bpTake 1 true = r at htake ⊢
        obtain ⟨_ | i, t⟩ := r
        · exact (bpFreeAll_flows _ _).trans htake
        · exact (growChain_flows n had fuel _ t).trans htake

theorem writeChain_flows (bufs : List (Nat × Nat)) : ∀ (fuel off : Nat) (bs : List Byte) (s : State), (s.writeChain bufs off bs fuel).flows = s.flows
  | 0, _, _, _ => rfl
  | fuel + 1, off, bs, s => by
    unfold State.writeChain
    split
    · rfl
    · exact (writeChain_flows bufs fuel _ _ _).trans (store_flows ..)

theorem setSlot_flows (s : State) (h : Nat) (k : KeySlot) : (s.setSlot h k).flows = s.flows := by
  unfold State.setSlot
  dsimp only
  split
  · rfl
  · rfl

theorem promoteKey_flows (s : State) (h : Nat) : (s.promoteKey h).flows = s.flows := by
  unfold State.promoteKey
  dsimp only
  split
  · rfl
  · exact (event_flows _ _ _).trans (setSlot_flows _ _ _)

/-! ### Compressed flows -/

theorem keepsTally_unitEnds (s : State) (h : Nat) : KeepsTally h s (s.unitEnds h) := by
  unfold State.unitEnds
  dsimp only
  split
  · exact KeepsTally.refl h s
  · split
    · exact keepsTally_setFlow (by rfl) (by rfl)
    · split
      · exact keepsTally_setFlow (by rfl) (by rfl)
      · exact KeepsTally.trans (keepsTally_setFlow (by rfl) (by rfl)) (keepsTally_of_flows h (bpFreeAll_flows _ _))

/-- The access unit that a packet belongs to is the current one. -/
theorem keepsTally_deliver (s : State) (h : Nat) (gap : Bool) (p : RxPkt) : KeepsTally h s (s.deliver h gap p) := by
  unfold State.deliver
  extract_lets w s1 u g tail s2
  have h1 : KeepsTally h s s1 := by
    unfold s1
    split
    · dsimp only
      split
      · exact keepsTally_setFlow (by rfl) (by rfl)
      · exact KeepsTally.trans (KeepsTally.trans (keepsTally_setFlow (by rfl) (by rfl)) (keepsTally_unitEnds _ h))
          (keepsTally_onFlow _ (fun _ => rfl) fun _ => rfl)
    · exact keepsTally_setFlow (by rfl) (by rfl)
  have h2 : KeepsTally h s1 s2 := by
    have hgrow := growChain_flows (u.bytes + p.data.length) u.bufs.length 513 u.bufs s1
    unfold s2
    split
    · exact KeepsTally.refl h s1
    · generalize s1.growChain (u.bytes + p.data.length) u.bufs.length 513 u.bufs = r at hgrow ⊢
      obtain ⟨_ | bufs, t⟩ := r
      · exact (keepsTally_of_flows h hgrow).trans (keepsTally_onFlow t (fun _ => rfl) fun _ => rfl)
      · have hset : ∀ v : RxUnit, KeepsTally h t (t.onFlow h fun w => { w with cur := some v }) := fun v =>
          keepsTally_onFlow t (fun _ => rfl) fun _ => rfl
        exact ((keepsTally_of_flows h hgrow).trans (hset _)).trans (keepsTally_of_flows h (writeChain_flows _ _ _ _ _))
  refine (h1.trans h2).trans ?_
  split
  · exact keepsTally_unitEnds s2 h
  · exact KeepsTally.refl h s2

theorem keepsTally_drain (h window : Nat) : ∀ (fuel : Nat) (gap : Bool) (s : State), KeepsTally h s (s.drain h window gap fuel)
  | 0, _, s => KeepsTally.refl h s
  | fuel + 1, gap, s => by
    unfold State.drain
    dsimp only
    split
    · exact KeepsTally.trans (KeepsTally.trans (keepsTally_setFlow (by rfl) (by rfl)) (keepsTally_deliver _ h gap _))
        (keepsTally_drain h window fuel false _)
    · split
      · exact KeepsTally.trans (keepsTally_setFlow (by rfl) (by rfl)) (keepsTally_drain h window fuel true _)
      · split
        · split
          · exact keepsTally_setFlow (by rfl) (by rfl)
          · exact KeepsTally.refl h s
        · exact KeepsTally.refl h s

theorem keepsTally_sequence (s : State) (h : Nat) (p : RxPkt) : KeepsTally h s (s.sequence h p) := by
  unfold State.sequence
  dsimp only
  split
  · exact keepsTally_flowDrops s h 1
  · exact KeepsTally.trans (keepsTally_setFlow (by rfl) (by rfl)) (keepsTally_drain h _ _ _ _)

/-! ### Flows of lines -/

theorem keepsTally_pictureEnds (s : State) (h : Nat) : KeepsTally h s (s.pictureEnds h) := by
  unfold State.pictureEnds
  extract_lets w n a
  split
  · exact KeepsTally.refl h s
  · extract_lets miss bytes s1
    have h1 : KeepsTally h s s1 := by
      unfold s1
      split
      · exact KeepsTally.refl h s
      · exact keepsTally_of_flows h (store_flows ..)
    have hset : KeepsTally h s1 (s1.setFlow h { w with
        pic := none, done := satAdd 0xFFFFFFFF w.done 1, missing := satAdd 0xFFFFFFFF w.missing miss.length }) :=
      keepsTally_setFlow h1.1.symm h1.2.1.symm
    exact (h1.trans hset).trans (keepsTally_of_flows h (mark_flows ..))

theorem keepsTally_pictureStarts (s : State) (h ts : Nat) : KeepsTally h s (s.pictureStarts h ts) := by
  unfold State.pictureStarts
  extract_lets w0 w fbs order
  have hw : w.packets = (s.flow h).packets ∧ w.bytes = (s.flow h).bytes := by
    unfold w
    split
    · exact ⟨rfl, rfl⟩
    · exact ⟨rfl, rfl⟩
  split
  · exact keepsTally_setFlow hw.1 hw.2
  · extract_lets d over_
    exact KeepsTally.trans (keepsTally_setFlow (by exact hw.1) (by exact hw.2)) (keepsTally_of_flows h (mark_flows ..))

theorem keepsTally_placeRow (s : State) (h field : Nat) (r : Srd) : KeepsTally h s (s.placeRow h field r) := by
  unfold State.placeRow
  extract_lets w row first
  split
  · exact KeepsTally.refl h s
  · extract_lets g n a got
    split
    · exact KeepsTally.refl h s
    · split
      · exact keepsTally_setFlow (by rfl) (by rfl)
      · exact KeepsTally.trans (keepsTally_setFlow (by rfl) (by rfl)) (keepsTally_of_flows h (store_flows ..))

theorem keepsTally_linePacket (s : State) (h : Nat) (p : RxPkt) : KeepsTally h s (s.linePacket h p) := by
  unfold State.linePacket
  extract_lets w s1 s2 inter
  have h1 : KeepsTally h s s1 := by
    unfold s1
    split
    · split
      · exact KeepsTally.refl h s
      · exact (keepsTally_pictureEnds s h).trans (keepsTally_pictureStarts _ h _)
    · split
      · exact KeepsTally.refl h s
      · exact keepsTally_pictureStarts s h _
  have h2 : KeepsTally h s1 s2 := keepsTally_foldl (fun t r => keepsTally_placeRow t h p.field r) p.srds s1
  refine (h1.trans h2).trans ?_
  split
  · exact keepsTally_pictureEnds s2 h
  · exact KeepsTally.refl h s2

/-! ### A packet that matches a flow -/

theorem keepsTally_srtpAccept (s : State) (h : Nat) (p : RxPkt) : KeepsTally h s (s.srtpAccept h p).2 := by
  unfold State.srtpAccept
  extract_lets w slot k i old good s1 top
  have h1 : KeepsTally h s s1 := by
    unfold s1
    split
    · exact keepsTally_of_flows h (promoteKey_flows ..)
    · exact KeepsTally.refl h s
  split
  · exact KeepsTally.trans (keepsTally_setFlow (by rfl) (by rfl)) (keepsTally_of_flows h (eventIf_flows ..))
  · split
    · exact keepsTally_of_flows h (event_flows ..)
    · split
      · exact keepsTally_of_flows h (event_flows ..)
      · exact h1.trans (keepsTally_onFlow s1 (fun _ => rfl) fun _ => rfl)

/-- The flow counts a packet. -/
def State.tallied (s : State) (h n : Nat) : State :=
  s.onFlow h fun w => { w with packets := satAdd 0xFFFFFFFF w.packets 1, bytes := satAdd (2 ^ 64 - 1) w.bytes n }

/-- A packet that matches a flow is counted once, whatever becomes of it. -/
theorem keepsTally_ingest (s : State) (port h : Nat) (p : RxPkt) : KeepsTally h (s.tallied h p.bytes) (s.ingest port h p) := by
  unfold State.ingest
  extract_lets s0 ws compressed
  show KeepsTally h s0 _
  have hpol := passPolicer_flows s0 h p.bytes p.dscp p.dei port compressed
  generalize s0.passPolicer h p.bytes p.dscp p.dei port compressed = r at hpol ⊢
  obtain ⟨_ | _, t⟩ := r
  · exact (keepsTally_of_flows h hpol).trans (keepsTally_flowDrops t h 1)
  · refine (keepsTally_of_flows h hpol).trans ?_
    have haccept : KeepsTally h t (if (word ws 0).testBit 4 then t.srtpAccept h p else (true, t)).2 := by
      split
      · exact keepsTally_srtpAccept t h p
      · exact KeepsTally.refl h t
    dsimp only
    generalize (if (word ws 0).testBit 4 then t.srtpAccept h p else (true, t)) = r at haccept ⊢
    obtain ⟨ok, t1⟩ := r
    refine haccept.trans ?_
    dsimp only
    split
    · exact keepsTally_flowDrops t1 h 1
    · split
      · exact keepsTally_sequence t1 h p
      · exact keepsTally_linePacket t1 h p

end Sys2Proof.Machine
end

section
/-!
PROOFS. Ethernet ports, the frames they receive, and PTP frames that are queued (R266 to R269, R275).
-/
namespace Sys2Proof.Machine

/-! ### A port comes up -/

/-- A port is up in its mode. -/
def State.portShown (s : State) (p : Nat) : State :=
  s.setFld ⟨.ETH_STS, 0, 6⟩ (3 + (if s.portMode p = 4 then 4 else 0) + (if 3 ≤ s.portMode p then 8 else 0)) p

theorem link_portShown (s : State) (p : Nat) : (s.portShown p).flag ETH_STS_LINK p = true := by
  have hodd : (3 + (if s.portMode p = 4 then 4 else 0) + (if 3 ≤ s.portMode p then 8 else 0)) % 2 ^ 1 = 1 := by
    split <;> split <;> rfl
  have hlow := fld_setFld_low s .ETH_STS (lo := 0) (w := 6) (w' := 1)
    (3 + (if s.portMode p = 4 then 4 else 0) + (if 3 ≤ s.portMode p then 8 else 0)) p (by omega) (by omega)
  rw [hodd] at hlow
  exact bne_iff_ne.mpr (ne_of_eq_of_ne hlow Nat.one_ne_zero)

theorem execEthLinkChange_up {p : Nat} (x : Nat) {s : State} (hp : p < 4) (hd : s.flag ETH_STS_LINK p = false) (hr : s.portReady p = true) :
    ∃ rate, exec (.ethLinkChange p true x) s = finish (((s.portShown p).lockLanes (s.portLanes p) rate).event ETH_EVT_LINK p) := by
  refine ⟨if s.portMode p = 1 then 0 else 1, congrArg finish ?_⟩
  rw [if_neg (by omega), if_pos rfl, if_neg (by rw [hd, hr]; simp)]
  rfl

theorem ethLinkChange_up {p : Nat} (x : Nat) {s : State} (hp : p < 4) (hd : s.flag ETH_STS_LINK p = false) (hr : s.portReady p = true) :
    Gives (.ethLinkChange p true x) s fun t =>
      t.flag ETH_STS_LINK p = true ∧ t.flag ETH_EVT_LINK p = true ∧ (∀ l ∈ s.portLanes p, t.fld LN_STS_STATE l = 3) ∧
      t.streams = s.streams ∧ t.flows = s.flows ∧ t.net = s.net ∧ SameMemory s t ∧ SameRegs [.ETH_STS, .ETH_EVT, .LN_STS, .IC_PEND, .IC_MERGE_CNT] s t := by
  obtain ⟨rate, hx⟩ := execEthLinkChange_up x hp hd hr
  have hshow := touches_setFld (rs := [.ETH_STS]) s ⟨.ETH_STS, 0, 6⟩
    (3 + (if s.portMode p = 4 then 4 else 0) + (if 3 ≤ s.portMode p then 8 else 0)) p (by simp)
  change Touches [.ETH_STS] s (s.portShown p) at hshow
  have hlink := link_portShown s p
  generalize s.portShown p = u at hx hshow hlink
  have hlock := measures_lockLanes (s.portLanes p) rate u
  have hlanes : ∀ l ∈ s.portLanes p, (u.lockLanes (s.portLanes p) rate).fld LN_STS_STATE l = 3 := fun l hl => laneState_lockLanes u hl rate
  generalize u.lockLanes (s.portLanes p) rate = v at hx hlock hlanes
  have hevt := touches_event_self v ETH_EVT_LINK p
  have hall : Measures [.ETH_STS, .ETH_EVT, .LN_STS, .IC_PEND, .IC_MERGE_CNT] s (v.event ETH_EVT_LINK p) :=
    ((hshow.measures.mono (by simp)).trans (hlock.mono (by simp))).trans (hevt.measures.mono (by simp [sourceOnly]))
  refine gives_finish hx ⟨?_, ?_, fun l hl => ?_, ?_, ?_, ?_, ?_, sameRegs_settle hall.2⟩
  · rw [flag_settle _ _ _ (by simp), hevt.flag (by simp [sourceOnly]) p, State.flag, State.fld, hlock.2 _ _ (by simp)]
    exact hlink
  · rw [flag_settle _ _ _ (by simp), flag_event_same _ _ p (by simp) (by simp) (by simp [sourceOnly])]
  · rw [fld_settle _ _ _ (by simp), hevt.fld (by simp [sourceOnly]) l, hlanes l hl]
  · rw [settle_streams, hall.1]
  · rw [settle_flows, hall.1]
  · rw [settle_net, hall.1]
  · exact sameMemory_of_mems (by rw [settle_mem, hall.1]) (by rw [settle_hostMem, hall.1]) (by rw [settle_spad, hall.1])

theorem execEthLinkChange_idle {p : Nat} (x : Nat) {s : State} (h : 4 ≤ p ∨ (s.flag ETH_STS_LINK p = false ∧ s.portReady p = false)) :
    exec (.ethLinkChange p true x) s = finish s := by
  refine congrArg finish ?_
  by_cases hp : 4 ≤ p
  · rw [if_pos hp]
  · obtain ⟨-, hr⟩ := h.resolve_left hp
    rw [if_neg hp, if_pos rfl, if_pos (.inr (by rw [hr]; rfl))]

/-! ### A port goes down -/

/-- The faults that brought a port down are shown. -/
def State.faultsShown (s : State) (p x : Nat) : State := (s.setFld ETH_STS_LOCAL_FAULT (x % 2) p).setFld ETH_STS_REMOTE_FAULT (x / 2 % 2) p

/-- The locks that are lost with the block lock are clear. -/
def State.locksShown (s : State) (p x : Nat) : State := if x.testBit 2 then s.setFld ⟨.ETH_STS, 1, 3⟩ 0 p else s

/-- A field of the status outside the locks stays. -/
theorem fld_locksShown (s : State) (p x : Nat) {f : Field} (hf : Field.apart ⟨.ETH_STS, 1, 3⟩ f) (i : Nat) :
    (s.locksShown p x).fld f i = s.fld f i := by
  unfold State.locksShown
  split
  · exact fld_setFld_apart s ⟨.ETH_STS, 1, 3⟩ f 0 p i hf
  · rfl

theorem downShown_facts (s : State) (p x : Nat) :
    ((s.faultsShown p x).locksShown p x).streams = s.streams ∧ ((s.faultsShown p x).locksShown p x).flag ETH_STS_LINK p = s.flag ETH_STS_LINK p ∧
      ((s.faultsShown p x).locksShown p x).fld ETH_STS_LOCAL_FAULT p = x % 2 ∧
      ((s.faultsShown p x).locksShown p x).fld ETH_STS_REMOTE_FAULT p = x / 2 % 2 := by
  refine ⟨?_, ?_, ?_, ?_⟩
  · unfold State.locksShown
    split <;> rfl
  · rw [State.flag, fld_locksShown _ _ _ (by simp [Field.apart]), ← State.flag, State.faultsShown, flag_setFld_apart _ _ _ _ _ _ (by simp [Field.apart]),
      flag_setFld_apart _ _ _ _ _ _ (by simp [Field.apart])]
  · rw [fld_locksShown _ _ _ (by simp [Field.apart]), State.faultsShown, fld_setFld_apart _ _ _ _ _ _ (by simp [Field.apart]),
      fld_setFld_same _ _ _ _ (by simp)]
    exact Nat.mod_mod _ _
  · rw [fld_locksShown _ _ _ (by simp [Field.apart]), State.faultsShown, fld_setFld_same _ _ _ _ (by simp)]
    exact Nat.mod_mod _ _

theorem execEthLinkChange_down {p : Nat} (x : Nat) {s : State} (hp : p < 4) (hr : s.portPresent p = true) :
    exec (.ethLinkChange p false x) s = finish (((s.faultsShown p x).locksShown p x).portDown p) := by
  refine congrArg finish ?_
  rw [if_neg (by omega), if_neg Bool.noConfusion]
  exact if_pos hr

theorem ethLinkChange_down {p : Nat} (x : Nat) {s : State} (hp : p < 4) (hu : s.flag ETH_STS_LINK p = true) (hr : s.portPresent p = true) :
    Gives (.ethLinkChange p false x) s fun t =>
      t.flag ETH_STS_LINK p = false ∧ t.fld ETH_STS_LOCAL_FAULT p = x % 2 ∧ t.fld ETH_STS_REMOTE_FAULT p = x / 2 % 2 ∧
      t.flag ETH_EVT_LINK p = true ∧ t.streams = s.streams := by
  have hx := execEthLinkChange_down x hp hr
  obtain ⟨hstr, hlink, hlocal, hremote⟩ := downShown_facts s p x
  generalize (s.faultsShown p x).locksShown p x = u at hx hstr hlink hlocal hremote
  refine gives_finish hx ⟨?_, ?_, ?_, ?_, ?_⟩
  · rw [flag_settle _ _ _ (by simp), link_portDown, bne_self_eq_false, Bool.and_false]
  · rw [fld_settle _ _ _ (by simp), fld_portDown u p (by simp) (by simp [Field.apart]), hlocal]
  · rw [fld_settle _ _ _ (by simp), fld_portDown u p (by simp) (by simp [Field.apart]), hremote]
  · rw [flag_settle _ _ _ (by simp), event_portDown (hlink.trans hu)]
  · rw [settle_streams, (falls_portDown_all u p).streams, hstr]

/-! ### Frames that are received -/

theorem execEthFrameReceive_down {p : Nat} (n : Nat) (f : RxFrame) {s : State} (h : 4 ≤ p ∨ s.flag ETH_STS_LINK p = false) :
    exec (.ethFrameReceive p n f) s = finish s :=
  congrArg finish (if_pos (h.imp_right fun hd => by rw [hd]; rfl))

section
variable {p : Nat} {s : State} (hp : p < 4) (hu : s.flag ETH_STS_LINK p = true)
include hp hu

theorem receives_of_up : ¬(4 ≤ p ∨ (!s.flag ETH_STS_LINK p) = true) := by
  rw [hu]
  simpa using hp

/-- A frame with a bad FCS is counted. -/
theorem ethFrameReceive_badFcs (n : Nat) :
    Gives (.ethFrameReceive p n .badFcs) s fun t =>
      t.regN .ETH_FCS_CNT p = min 0xFFFFFFFF (s.regN .ETH_FCS_CNT p + 1) ∧ t.flag ETH_EVT_FCS p = true ∧
      OnlyRegs [.ETH_FCS_CNT, .ETH_EVT, .IC_PEND, .IC_MERGE_CNT] s t := by
  have hx : exec (.ethFrameReceive p n .badFcs) s = finish ((s.bump .ETH_FCS_CNT 1 p).event ETH_EVT_FCS p) :=
    congrArg finish (if_neg (receives_of_up hp hu))
  have hb := touches_bump (rs := [.ETH_FCS_CNT]) s .ETH_FCS_CNT 1 p (by simp)
  have he := touches_event_self (s.bump .ETH_FCS_CNT 1 p) ETH_EVT_FCS p
  refine gives_finish hx ⟨?_, ?_, onlyRegs_of_touches ((hb.mono (by simp)).trans (he.mono (by simp [sourceOnly])))⟩
  · rw [regN_settle _ _ _ (by simp), he.regN (by simp [sourceOnly]) p, regN_bump_same]
  · rw [flag_settle _ _ _ (by simp), flag_event_same _ _ p (by simp) (by simp) (by simp [sourceOnly])]

/-- A frame that is too long is dropped, whatever it is. -/
theorem execEthFrameReceive_long {n : Nat} {f : RxFrame} (hf : f ≠ .badFcs) (hn : s.maxFrame p < n) :
    exec (.ethFrameReceive p n f) s = finish ((s.bump .ETH_RX_FRAMES 1 p).rxDrop p) := by
  refine congrArg finish ((if_neg (receives_of_up hp hu)).trans ?_)
  cases f with
  | badFcs => exact absurd rfl hf
  | ptp tr dom frame => exact if_pos (.inl hn)
  | rtp x => exact if_pos (.inl hn)
  | other => exact if_pos (.inl hn)

theorem ethFrameReceive_long {n : Nat} {f : RxFrame} (hf : f ≠ .badFcs) (hn : s.maxFrame p < n) :
    Gives (.ethFrameReceive p n f) s fun t =>
      t.regN .ETH_RX_DROP_CNT p = min 0xFFFFFFFF (s.regN .ETH_RX_DROP_CNT p + 1) ∧ t.regN .ETH_RX_FRAMES p = min 0xFFFFFFFF (s.regN .ETH_RX_FRAMES p + 1) ∧
      t.flag ETH_EVT_RX_DROP p = true ∧ OnlyRegs [.ETH_RX_DROP_CNT, .ETH_RX_FRAMES, .ETH_EVT, .IC_PEND, .IC_MERGE_CNT] s t := by
  have hx := execEthFrameReceive_long hp hu hf hn
  have hframes := regN_bump_same s .ETH_RX_FRAMES 1 p
  have hb := touches_bump (rs := [.ETH_RX_FRAMES]) s .ETH_RX_FRAMES 1 p (by simp)
  generalize s.bump .ETH_RX_FRAMES 1 p = u at hx hframes hb
  have hd := touches_bump (rs := [.ETH_RX_DROP_CNT]) u .ETH_RX_DROP_CNT 1 p (by simp)
  have he := touches_event_self (u.bump .ETH_RX_DROP_CNT 1 p) ETH_EVT_RX_DROP p
  refine gives_finish hx ⟨?_, ?_, ?_, onlyRegs_of_touches ((hb.mono (by simp)).trans ((hd.mono (by simp)).trans (he.mono (by simp [sourceOnly]))))⟩
  · rw [regN_settle _ _ _ (by simp), State.rxDrop, he.regN (by simp [sourceOnly]) p, regN_bump_same, hb.regN (by simp) p]
  · rw [regN_settle _ _ _ (by simp), State.rxDrop, he.regN (by simp [sourceOnly]) p, hd.regN (by simp) p, hframes]
  · rw [flag_settle _ _ _ (by simp)]
    exact flag_event_same _ _ p (by simp) (by simp) (by simp [sourceOnly])

end

/-! ### A PTP frame enters the receive ring -/

/-- The last of the bytes that are stored read back. -/
theorem load_store_suffix (s : State) (sp : Space) (a : Nat) (x y : List Byte) :
    (s.store sp a (x ++ y)).load sp (a + x.length) y.length = y := by
  have hlen : ((s.store sp a (x ++ y)).load sp (a + x.length) y.length).length = y.length := by
    cases sp <;> exact length_memReadList _ _ _
  refine List.ext_getElem hlen fun k h1 h2 => ?_
  have hbyte : ((s.store sp a (x ++ y)).load sp (a + x.length) y.length)[k] = (s.store sp a (x ++ y)).byte sp (a + x.length + k) := by
    cases sp <;> exact getElem_memReadList _ _ _ _ _
  rw [hbyte, Nat.add_assoc, byte_store_in s sp a (x.length + k) (x ++ y) (by rw [List.length_append]; omega), List.getElem_append_right (by omega)]
  simp

theorem length_ptpHeader (n f x : Nat) : (ptpHeader n f x).length = 32 := by
  simp [ptpHeader, stampBytes, zeros, length_leBytes]

/-- Bytes of one space that changed, with registers that changed after them. -/
theorem onlyBytes_of_mems {sp : Space} {a n : Nat} {s t u : State} (h : OnlyBytes sp a n s t) (hm : u.mem = t.mem) (hh : u.hostMem = t.hostMem)
    (hs : u.spad = t.spad) : OnlyBytes sp a n s u := by
  have hbyte : ∀ sp' b, u.byte sp' b = t.byte sp' b := fun sp' b => by
    cases sp'
    · simp only [State.byte, hh]
    · simp only [State.byte, hm]
  exact ⟨fun sp' b hb => (hbyte sp' b).trans (h.1 sp' b hb), fun b => by rw [hs, h.2 b]⟩

/-- A selected PTP frame with its timestamp stands in the receive ring, whose tail moves past it. -/
def State.ptpReceived (s : State) (p : Nat) (bs : List Byte) : State :=
  ((s.store .device (s.ptpRx p (s.regN .PTP_RX_TAIL p % 64)) (ptpHeader bs.length 0 (s.rxStamp p) ++ bs)).putN .PTP_RX_TAIL
    ((s.regN .PTP_RX_TAIL p % 64 + 1) % 64) p).event ETH_EVT_PTP_RX p

theorem ptpReceived_facts (s : State) (p : Nat) (bs : List Byte) :
    (s.ptpReceived p bs).regN .PTP_RX_TAIL p = (s.regN .PTP_RX_TAIL p % 64 + 1) % 64 ∧ (s.ptpReceived p bs).flag ETH_EVT_PTP_RX p = true ∧
      (s.ptpReceived p bs).load .device (s.ptpRx p (s.regN .PTP_RX_TAIL p % 64) + 32) bs.length = bs ∧
      OnlyBytes .device (s.ptpRx p (s.regN .PTP_RX_TAIL p % 64)) (32 + bs.length) s (s.ptpReceived p bs) ∧
      (∀ r i, r ∉ [Reg.PTP_RX_TAIL, .ETH_EVT, .IC_PEND, .IC_MERGE_CNT] → (s.ptpReceived p bs).reg r i = s.reg r i) ∧
      (s.ptpReceived p bs).flows = s.flows ∧ (s.ptpReceived p bs).streams = s.streams := by
  have hlen := length_ptpHeader bs.length 0 (s.rxStamp p)
  have hload := load_store_suffix s .device (s.ptpRx p (s.regN .PTP_RX_TAIL p % 64)) (ptpHeader bs.length 0 (s.rxStamp p)) bs
  have honly := onlyBytes_store s .device (s.ptpRx p (s.regN .PTP_RX_TAIL p % 64)) (bs := ptpHeader bs.length 0 (s.rxStamp p) ++ bs)
    (n := 32 + bs.length) (by rw [List.length_append, hlen])
  have hregs := reg_store s .device (s.ptpRx p (s.regN .PTP_RX_TAIL p % 64)) (ptpHeader bs.length 0 (s.rxStamp p) ++ bs)
  have hflows := store_flows s .device (s.ptpRx p (s.regN .PTP_RX_TAIL p % 64)) (ptpHeader bs.length 0 (s.rxStamp p) ++ bs)
  have hstr := store_streams s .device (s.ptpRx p (s.regN .PTP_RX_TAIL p % 64)) (ptpHeader bs.length 0 (s.rxStamp p) ++ bs)
  rw [hlen] at hload
  unfold State.ptpReceived
  generalize s.store .device (s.ptpRx p (s.regN .PTP_RX_TAIL p % 64)) (ptpHeader bs.length 0 (s.rxStamp p) ++ bs) = u at hload honly hregs hflows hstr ⊢
  have hput := touches_putN (rs := [.PTP_RX_TAIL]) u .PTP_RX_TAIL ((s.regN .PTP_RX_TAIL p % 64 + 1) % 64) p (by simp)
  have hevt := touches_event_self (u.putN .PTP_RX_TAIL ((s.regN .PTP_RX_TAIL p % 64 + 1) % 64) p) ETH_EVT_PTP_RX p
  have hall : Touches [.PTP_RX_TAIL, .ETH_EVT, .IC_PEND, .IC_MERGE_CNT] u
      ((u.putN .PTP_RX_TAIL ((s.regN .PTP_RX_TAIL p % 64 + 1) % 64) p).event ETH_EVT_PTP_RX p) :=
    (hput.mono (by simp)).trans (hevt.mono (by simp [sourceOnly]))
  refine ⟨?_, flag_event_same _ _ p (by simp) (by simp) (by simp [sourceOnly]), ?_, onlyBytes_of_mems honly hall.mem hall.hostMem hall.spad,
    fun r i hr => (hall.2 r i hr).trans (hregs r i), hall.rest.flows.trans hflows, hall.streams.trans hstr⟩
  · rw [hevt.regN (by simp [sourceOnly]) p]
    exact regN_putN_same u .PTP_RX_TAIL _ p (by omega)
  · exact (load_congr hall.mem hall.hostMem ..).trans hload

section
variable {p n : Nat} {s : State} (hp : p < 4) (hu : s.flag ETH_STS_LINK p = true) (hn : n ≤ s.maxFrame p)
  (hm : (s.regN .ARB_MASK).testBit (24 + p) = false)
include hp hu hn hm

theorem execEthFrameReceive_ptp {x d : Nat} {bs : List Byte} (hsel : s.ptpSelects p x d = true) (hlen : bs.length ≤ 224)
    (hroom : (s.regN .PTP_RX_TAIL p % 64 + 1) % 64 ≠ s.regN .PTP_RX_HEAD p % 64) :
    exec (.ethFrameReceive p n (.ptp x d bs)) s = finish ((s.bump .ETH_RX_FRAMES 1 p).ptpReceived p bs) := by
  have hb := touches_bump (rs := [.ETH_RX_FRAMES]) s .ETH_RX_FRAMES 1 p (by simp)
  refine congrArg finish ((if_neg (receives_of_up hp hu)).trans ((if_neg ?_).trans ((if_pos hsel).trans (if_neg ?_))))
  · rw [hm]
    simpa using hn
  · rw [hb.regN (by simp) p, hb.regN (by simp) p]
    exact not_or.mpr ⟨Nat.not_lt.mpr hlen, hroom⟩

theorem ethFrameReceive_ptp {x d : Nat} {bs : List Byte} (hsel : s.ptpSelects p x d = true) (hlen : bs.length ≤ 224)
    (hroom : (s.regN .PTP_RX_TAIL p % 64 + 1) % 64 ≠ s.regN .PTP_RX_HEAD p % 64) :
    Gives (.ethFrameReceive p n (.ptp x d bs)) s fun t =>
      t.regN .PTP_RX_TAIL p = (s.regN .PTP_RX_TAIL p % 64 + 1) % 64 ∧ t.flag ETH_EVT_PTP_RX p = true ∧
      t.load .device (s.ptpRx p (s.regN .PTP_RX_TAIL p % 64) + 32) bs.length = bs ∧
      OnlyBytes .device (s.ptpRx p (s.regN .PTP_RX_TAIL p % 64)) (32 + bs.length) s t ∧
      SameRegs [.PTP_RX_TAIL, .ETH_RX_FRAMES, .ETH_EVT, .IC_PEND, .IC_MERGE_CNT] s t ∧ t.flows = s.flows ∧ t.streams = s.streams := by
  have hx := execEthFrameReceive_ptp hp hu hn hm hsel hlen hroom
  have hb := touches_bump (rs := [.ETH_RX_FRAMES]) s .ETH_RX_FRAMES 1 p (by simp)
  have hfacts := ptpReceived_facts (s.bump .ETH_RX_FRAMES 1 p) p bs
  have hring : ∀ e, (s.bump .ETH_RX_FRAMES 1 p).ptpRx p e = s.ptpRx p e := fun e => congrArg (· + e * 256) (hb.regN (by simp) p)
  rw [hb.regN (by simp) p, hring] at hfacts
  obtain ⟨htail, hevt, hload, honly, hregs, hflows, hstr⟩ := hfacts
  generalize (s.bump .ETH_RX_FRAMES 1 p).ptpReceived p bs = t at hx htail hevt hload honly hregs hflows hstr
  refine gives_finish hx ⟨?_, ?_, hload, onlyBytes_of_mems honly rfl rfl rfl, sameRegs_settle fun r i hr => ?_, hflows, hstr⟩
  · rw [regN_settle _ _ _ (by simp), htail]
  · rw [flag_settle _ _ _ (by simp), hevt]
  · simp only [List.mem_cons, List.not_mem_nil, or_false, not_or] at hr
    rw [hregs r i (by simp [hr]), hb.2 r i (by simp [hr])]

/-! ### A packet of a flow -/

/-- A packet is counted by the flow that it matches, and by no other. -/
theorem ethFrameReceive_rtp {h : Nat} {w : Flow} {x : RxPkt}
    (hf : (s.flows.find? fun e => isIngest e.1 && e.2.live && matchesFlow e.2.words x) = some (h, w)) :
    Gives (.ethFrameReceive p n (.rtp x)) s fun t =>
      (t.flow h).packets = min 0xFFFFFFFF ((s.flow h).packets + 1) ∧ (t.flow h).bytes = min (2 ^ 64 - 1) ((s.flow h).bytes + n) ∧
      (∀ e, e ≠ h → t.flow e = s.flow e) := by
  have hx : exec (.ethFrameReceive p n (.rtp x)) s = finish ((s.bump .ETH_RX_FRAMES 1 p).ingest p h { x with bytes := n }) := by
    refine congrArg finish ((if_neg (receives_of_up hp hu)).trans ((if_neg ?_).trans ?_))
    · rw [hm]
      simpa using hn
    · dsimp only
      rw [hf]
  have hflow : ∀ e, (s.bump .ETH_RX_FRAMES 1 p).flow e = s.flow e := fun _ => rfl
  obtain ⟨hpackets, hbytes, hothers⟩ := keepsTally_ingest (s.bump .ETH_RX_FRAMES 1 p) p h { x with bytes := n }
  generalize s.bump .ETH_RX_FRAMES 1 p = u at hx hflow hpackets hbytes hothers
  refine gives_finish hx ⟨?_, ?_, fun e he => ?_⟩
  · rw [settle_flow, hpackets, State.tallied, State.onFlow, flow_setFlow_same, hflow]
    rfl
  · rw [settle_flow, hbytes, State.tallied, State.onFlow, flow_setFlow_same, hflow]
    rfl
  · rw [settle_flow, hothers e he, State.tallied, State.onFlow, flow_setFlow_ne _ _ he, hflow]

end

/-! ### A PTP frame is queued -/

theorem execPtpTxTailWrite_other {f : Nat} (p : Nat) (v : Word) {s : State} (h : s.servoOwner (.func f) = false) :
    exec (.ptpTxTailWrite (.func f) p v) s = finish s :=
  congrArg finish ((byAgent_func ..).trans (if_pos (.inr (by rw [h]; rfl))))

/-- The frame in which a transmit entry of a port leaves. -/
def State.ptpEntryFrame (s : State) (p e : Nat) : Frame :=
  { queue := 2048 + p, bytes := max 64 (leNat (s.load .device (s.ptpTx p e) 2) + 4), kind := 2, owner := p, words := [e] }

/-- The servo owner's write of the tail queues the entry that it passes. -/
theorem execPtpTxTailWrite_queues {a : Agent} {p : Nat} {v : Word} {s : State} (hp : p < 4) (ha : s.actsAsPf0 a = true)
    (ho : s.servoOwner a = true) (hu : s.flag ETH_STS_LINK p = true) (hv : v.toNat % 16 = (s.regN .PTP_TX_TAIL p % 16 + 1) % 16)
    (hlen : leNat (s.load .device (s.ptpTx p (s.regN .PTP_TX_TAIL p % 16)) 2) ≤ 224) :
    exec (.ptpTxTailWrite a p v) s =
      finish ((s.putN .PTP_TX_TAIL (v.toNat % 16) p).submit (s.ptpEntryFrame p (s.regN .PTP_TX_TAIL p % 16))) := by
  refine congrArg finish ((byAgent_pf0 ha ..).trans ((if_neg ?_).trans ?_))
  · rw [ho]
    simpa using hp
  have hput := touches_putN (rs := [.PTP_TX_TAIL]) s .PTP_TX_TAIL (v.toNat % 16) p (by simp)
  have hring : ∀ e, (s.putN .PTP_TX_TAIL (v.toNat % 16) p).ptpTx p e = s.ptpTx p e := fun e => congrArg (· + (64 + e) * 256) (hput.regN (by simp) p)
  have hcount : (v.toNat % 16 + 16 - s.regN .PTP_TX_TAIL p % 16) % 16 = 1 := by omega
  have hentry : (s.regN .PTP_TX_TAIL p % 16 + 0) % 16 = s.regN .PTP_TX_TAIL p % 16 := by omega
  dsimp only
  rw [hcount, List.range_one, List.foldl_cons, List.foldl_nil, hentry]
  unfold State.ptpQueue State.ptpEntryFrame
  rw [hring, load_congr hput.mem hput.hostMem, hput.flag (by simp) p, hu]
  exact if_neg (by simpa using hlen)

theorem ptpTxTailWrite_queues {a : Agent} {p : Nat} {v : Word} {s : State} (hp : p < 4) (ha : s.actsAsPf0 a = true) (ho : s.servoOwner a = true)
    (hu : s.flag ETH_STS_LINK p = true) (hv : v.toNat % 16 = (s.regN .PTP_TX_TAIL p % 16 + 1) % 16)
    (hlen : leNat (s.load .device (s.ptpTx p (s.regN .PTP_TX_TAIL p % 16)) 2) ≤ 224) :
    Gives (.ptpTxTailWrite a p v) s fun t =>
      t.regN .PTP_TX_TAIL p = v.toNat % 16 ∧ t.net.waiting = s.net.waiting ++ [s.ptpEntryFrame p (s.regN .PTP_TX_TAIL p % 16)] ∧
      OnlyRegs [.PTP_TX_TAIL] { s with net := t.net } t := by
  have hput : ∀ u : State, Touches [.PTP_TX_TAIL] u (u.putN .PTP_TX_TAIL (v.toNat % 16) p) := fun u => touches_putN u _ _ p (by simp)
  refine gives_finish (execPtpTxTailWrite_queues hp ha ho hu hv hlen) ⟨?_, rfl, ?_⟩
  · rw [regN_settle _ _ _ (by simp)]
    exact regN_putN_same s .PTP_TX_TAIL _ p (by omega)
  · exact onlyRegs_of_touches (hput { s with net := (s.submit (s.ptpEntryFrame p (s.regN .PTP_TX_TAIL p % 16))).net })

/-! ### The obligation -/

/-- Settles O44: lane groups and lanes under test; then Fulet links; then ports and the frames they receive or queue; then the lanes' reference
clock. -/
theorem lanesAndPortsComeAndGo : Obligations.LanesAndPortsComeAndGo := by
  unfold Obligations.LanesAndPortsComeAndGo
  refine ⟨fun a g v s ha hl hu hv => lnGrpCfgWrite_restarts ha hl hu hv, fun a g v s ha hl hu => lnGrpCfgWrite_used v ha hl hu,
    fun f g v s hf => ⟨gives_unchanged (execLnGrpCfgWrite_other g v hf), gives_unchanged (execLnPrbsInjWrite_other g v hf)⟩,
    fun a l v s ha hl ht => lnPrbsInjWrite_injects v ha hl ht, fun l n s ht he hn => prbsCheckerLock_locks ht he n hn,
    fun l n s ht he hn => prbsCheckerLock_loses ht he n hn, fun k s hk hu => fuletLinkDown_retrains hk hu,
    fun k n x f d e r s h => ⟨gives_unchanged (execFuletLinkDown_idle h), fun hu => gives_unchanged (execFuletLinkUp_idle n x f d e r hu)⟩,
    fun k n x f d e r s hk h0 h5 hu => fuletLinkUp_up n x f d e r hk h0 h5 hu, fun p x s hp hd hr => ethLinkChange_up x hp hd hr,
    fun p x s hp hu hr => ethLinkChange_down x hp hu hr, fun p x s h => gives_unchanged (execEthLinkChange_idle x h),
    fun p n f s h => gives_unchanged (execEthFrameReceive_down n f h), fun p n s hp hu => ethFrameReceive_badFcs hp hu n,
    fun p n f s hp hu hf hn => ethFrameReceive_long hp hu hf hn,
    fun p n x d bs s hp hu hn hm hsel hlen hroom => ethFrameReceive_ptp hp hu hn hm hsel hlen hroom,
    fun p n h w x s hp hu hn hm hf => ethFrameReceive_rtp hp hu hn hm hf,
    fun a p v s hp ha ho hu hv hlen => ptpTxTailWrite_queues hp ha ho hu hv hlen,
    fun f p v s h => gives_unchanged (execPtpTxTailWrite_other p v h), fun s h => refclkLaneLoss_stops h,
    fun s h => ⟨gives_unchanged (execRefclkLaneLoss_lost h), refclkLaneReturn_trains h⟩,
    fun s h => gives_unchanged (execRefclkLaneReturn_kept h)⟩

end Sys2Proof.Machine
end

section
/-!
SUPPORT. The laws of the memory controller's front end: which requests are candidates, which one an arbiter takes, and what a request that
stands and a grant leave of the state (R316 to R326, R377).
-/
namespace Sys2Proof.Machine

/-! ### What serving memory leaves -/

/-- Only registers of a list, the controller, the pointers of arbiters, the link, the outputs and the data last read differ. -/
def Serves (rs : List Reg) (s t : State) : Prop :=
  t = { s with regs := t.regs, memctl := t.memctl, arbPtr := t.arbPtr, cxl := t.cxl, sent := t.sent, lastRead := t.lastRead } ∧
    ∀ r i, r ∉ rs → t.reg r i = s.reg r i

theorem Serves.refl (rs : List Reg) (s : State) : Serves rs s s := ⟨rfl, fun _ _ _ => rfl⟩

theorem Serves.trans {rs : List Reg} {s t u : State} (h : Serves rs s t) (k : Serves rs t u) : Serves rs s u := by
  refine ⟨?_, fun r i hr => (k.2 r i hr).trans (h.2 r i hr)⟩
  have h1 := h.1
  have k1 := k.1
  rw [k1, h1]

theorem Serves.mono {rs rs' : List Reg} {s t : State} (h : Serves rs s t) (hs : ∀ r ∈ rs, r ∈ rs') : Serves rs' s t :=
  ⟨h.1, fun r i hr => h.2 r i (notMem_part hr hs)⟩

theorem Touches.serves {rs : List Reg} {s t : State} (h : Touches rs s t) : Serves rs s t := by
  refine ⟨?_, h.2⟩
  have h1 := h.1
  rw [h1]

theorem serves_memctl (rs : List Reg) (s : State) (m : MemCtl) : Serves rs s { s with memctl := m } := ⟨rfl, fun _ _ _ => rfl⟩

theorem serves_cxl (rs : List Reg) (s : State) (x : Cxl) : Serves rs s { s with cxl := x } := ⟨rfl, fun _ _ _ => rfl⟩

theorem serves_emit (rs : List Reg) (s : State) (x : Sent) : Serves rs s (s.emit x) := ⟨rfl, fun _ _ _ => rfl⟩

theorem serves_foldl {α : Type} {rs : List Reg} {f : State → α → State} (hf : ∀ t a, Serves rs t (f t a)) (l : List α) (s : State) :
    Serves rs s (l.foldl f s) := by
  induction l generalizing s with
  | nil => exact Serves.refl rs s
  | cons a l ih => exact (hf s a).trans (ih _)

theorem Serves.sameMemory {rs : List Reg} {s t : State} (h : Serves rs s t) : SameMemory s t :=
  sameMemory_of_mems (by rw [h.1]) (by rw [h.1]) (by rw [h.1])

theorem Serves.streams {rs : List Reg} {s t : State} (h : Serves rs s t) : t.streams = s.streams := by rw [h.1]

theorem Serves.groupOf {rs : List Reg} {s t : State} (h : Serves rs s t) (a : Nat) : t.groupOf a = s.groupOf a := by rw [h.1]; rfl

/-- What serving leaves once the outputs follow. -/
theorem Serves.settled {rs : List Reg} {s t : State} (h : Serves rs s t) : SameRegs rs s (settle t) ∧ SameMemory s (settle t) :=
  ⟨sameRegs_settle h.2, h.sameMemory⟩

/-! ### Groups -/

/-- The channels of a part are numbered below 16 (R315). -/
theorem channelOf_lt (s : State) (a : Nat) : s.channelOf a < 16 := by
  have h : ∀ x y w : Nat, w ≤ 4 → natField a x w ^^^ natField a y w < 2 ^ 4 := fun x y w hw =>
    lt_of_lt_of_le (Nat.xor_lt_two_pow (Nat.mod_lt _ (Nat.two_pow_pos w)) (Nat.mod_lt _ (Nat.two_pow_pos w))) (Nat.pow_le_pow_right (by omega) hw)
  unfold State.channelOf
  split
  · exact h 8 18 3 (by omega)
  · exact h 8 19 4 le_rfl

/-- There are four controller groups (R326). -/
theorem groupOf_lt (s : State) (a : Nat) : s.groupOf a < 4 := by
  have h := channelOf_lt s a
  unfold State.groupOf
  omega

/-! ### The choice of a request -/

/-- What a fold over optional choices picks is one of the list. -/
theorem mem_of_foldl_choice {α : Type} {f : Option α → α → Option α} (hf : ∀ b a x, f b a = some x → x = a ∨ b = some x) (l : List α) {b : Option α}
    {x : α} (h : l.foldl f b = some x) : x ∈ l ∨ b = some x := by
  induction l generalizing b with
  | nil => exact .inr h
  | cons a l ih =>
    rcases ih h with hm | hb
    · exact .inl (List.mem_cons_of_mem a hm)
    · exact (hf b a x hb).imp_left fun (e : x = a) => e ▸ List.mem_cons_self

/-- The request that is granted waits, and is a candidate. -/
theorem mem_of_pick {s : State} {g c : Nat} {r : MemReq} (h : s.pick g = some (r, c)) : r ∈ s.memctl.waiting := by
  unfold State.pick at h
  obtain ⟨q, hq, he⟩ := Option.map_eq_some_iff.mp h
  obtain ⟨rfl, -⟩ := Prod.mk.inj he
  have hm := mem_of_foldl_choice (fun b a x hx => ?_) _ hq
  · exact (List.mem_filter.mp (List.mem_filter.mp (hm.resolve_right (by simp))).1).1
  · cases b with
    | none => exact .inl (Option.some.inj hx).symm
    | some q => exact (ite_eq_or_eq _ _ _).elim (fun e => .inl (Option.some.inj (hx.symm.trans e))) fun e => .inr (e.symm.trans hx)

theorem pick_none {s : State} {g : Nat} (h : s.candidates g = []) : s.pick g = none := by simp [State.pick, h]

/-- A request that stands alone as a candidate is the one that is granted, in the class in which it is served. -/
theorem pick_alone {s : State} {g : Nat} {r : MemReq} (h : s.candidates g = [r]) (hc : s.servedClass r < 4) :
    s.pick g = some (r, s.servedClass r) := by
  simp [State.pick, h, Nat.min_eq_right hc.le]

/-- A class of the four is served as one of them (R317). -/
theorem servedClass_le (s : State) (r : MemReq) : s.servedClass r ≤ r.sc := by
  unfold State.servedClass
  dsimp only
  split
  · omega
  · split <;> omega

/-- A request that has not waited is served in its own class. -/
theorem servedClass_new {s : State} {r : MemReq} (h : s.tb.run ≤ r.since) : s.servedClass r = r.sc := by
  unfold State.servedClass
  dsimp only
  have h3 : ∀ f : Field, ¬ max 1 (s.fld f) * 1000 ≤ s.tb.run - r.since := fun f => by omega
  rw [if_neg fun x => h3 _ x.2, if_neg fun x => h3 _ x.2]

/-! ### The grant -/

/-- A request is granted in a group (R321): its burst starts, and the pointer of its class moves past its source. -/
def State.grantTo (s : State) (g : Nat) (r : MemReq) (c : Nat) : State :=
  let p := (r.src + 1) % 40
  let s1 := ((s.setFld ARB_STS_LAST_GRANT r.src).setFld ARB_STS_LAST_GROUP g).setFld ARB_STS_DRAINED 0
  { s1 with
    arbPtr := if p = 0 then storeDrop s.arbPtr (arb0Key c g) else storeInsert s.arbPtr (arb0Key c g) p
    memctl := { s.memctl with
      waiting := s.memctl.waiting.erase r
      bursts := s.memctl.bursts ++ [{ r with granted := s.tb.run, sc := c }]
      groups := s.memctl.groups ++ [g] } }

theorem grantGroup_pick {s : State} {g c : Nat} {r : MemReq} (hf : s.arbFrozen 0 = false) (hg : s.memctl.groups.contains g = false)
    (hp : s.pick g = some (r, c)) : s.grantGroup g = s.grantTo g r c := by
  unfold State.grantGroup
  rw [if_neg (not_or.mpr ⟨by simp [hf], ne_true_of_eq_false hg⟩), hp]
  rfl

/-- With no candidate, a burst in progress or a freeze, nothing is granted. -/
theorem grantGroup_idle {s : State} {g : Nat} (h : s.memctl.groups.contains g = true ∨ s.arbFrozen 0 = true ∨ s.candidates g = []) :
    s.grantGroup g = s := by
  unfold State.grantGroup
  split
  · rfl
  next hn =>
    rw [pick_none (h.elim (fun x => absurd (.inr x) hn) fun x => x.elim (fun y => absurd (.inl y) hn) id)]

theorem touches_grantTo (s : State) (g : Nat) (r : MemReq) (c : Nat) :
    Touches [.ARB_STS] { s with memctl := (s.grantTo g r c).memctl, arbPtr := (s.grantTo g r c).arbPtr } (s.grantTo g r c) := by
  refine ⟨rfl, fun r' i hr => ?_⟩
  have h := ((touches_setFld (rs := [.ARB_STS]) s ARB_STS_LAST_GRANT r.src 0 (by simp)).trans
    (touches_setFld _ ARB_STS_LAST_GROUP g 0 (by simp))).trans (touches_setFld _ ARB_STS_DRAINED 0 0 (by simp))
  exact h.2 r' i hr

theorem grantTo_last (s : State) (g : Nat) {r : MemReq} (c : Nat) (h : r.src < 64) : (s.grantTo g r c).fld ARB_STS_LAST_GRANT = r.src := by
  show (((s.setFld ARB_STS_LAST_GRANT r.src).setFld ARB_STS_LAST_GROUP g).setFld ARB_STS_DRAINED 0).fld ARB_STS_LAST_GRANT = _
  rw [fld_setFld_apart _ _ _ _ _ _ (by simp [Field.apart]), fld_setFld_apart _ _ _ _ _ _ (by simp [Field.apart]), fld_setFld_same _ _ _ _ (by simp),
    Nat.mod_eq_of_lt (by simpa using h)]

theorem serves_grantTo (s : State) (g : Nat) (r : MemReq) (c : Nat) : Serves [.ARB_STS] s (s.grantTo g r c) :=
  ⟨rfl, (touches_grantTo s g r c).2⟩

/-- The arbiter grants one of the requests that wait, or leaves the state. -/
theorem grantGroup_cases (s : State) (g : Nat) : s.grantGroup g = s ∨ ∃ r c, r ∈ s.memctl.waiting ∧ s.grantGroup g = s.grantTo g r c := by
  by_cases hi : s.memctl.groups.contains g = true ∨ s.arbFrozen 0 = true
  · exact .inl (grantGroup_idle (hi.imp_right .inl))
  · obtain ⟨hg, hf⟩ := not_or.mp hi
    rw [Bool.not_eq_true] at hg hf
    cases hp : s.pick g with
    | none => exact .inl (by rw [State.grantGroup, if_neg (not_or.mpr ⟨by simp [hf], ne_true_of_eq_false hg⟩), hp])
    | some x => exact .inr ⟨x.1, x.2, mem_of_pick hp, grantGroup_pick hf hg hp⟩

theorem touches_grantGroup (s : State) (g : Nat) :
    Touches [.ARB_STS] { s with memctl := (s.grantGroup g).memctl, arbPtr := (s.grantGroup g).arbPtr } (s.grantGroup g) := by
  obtain h | ⟨r, c, -, h⟩ := grantGroup_cases s g
  · rw [h]; exact Touches.refl _ _
  · rw [h]; exact touches_grantTo s g r c

theorem serves_grantGroup (s : State) (g : Nat) : Serves [.ARB_STS] s (s.grantGroup g) := by
  obtain h | ⟨r, c, -, h⟩ := grantGroup_cases s g
  · rw [h]; exact Serves.refl _ _
  · rw [h]; exact serves_grantTo s g r c

/-- The requests that the front end has taken and not completed. -/
def MemCtl.inside (m : MemCtl) : Nat := m.waiting.length + m.bursts.length

/-- A grant takes a request from those that wait and makes it a burst. -/
theorem inside_grantGroup (s : State) (g : Nat) : (s.grantGroup g).memctl.inside = s.memctl.inside := by
  obtain h | ⟨r, c, hm, h⟩ := grantGroup_cases s g
  · rw [h]
  · have hpos := List.length_pos_of_mem hm
    rw [h]
    simp only [State.grantTo, MemCtl.inside, List.length_erase_of_mem hm, List.length_append, List.length_singleton]
    omega

theorem grantGroup_cxl (s : State) (g : Nat) : (s.grantGroup g).cxl = s.cxl := by
  obtain h | ⟨r, c, -, h⟩ := grantGroup_cases s g <;> rw [h]
  rfl

/-! ### A request that stands -/

theorem serves_backInvalidate (s : State) (line : Nat) : Serves [.ARB_STS] s (s.backInvalidate line) := by
  unfold State.backInvalidate
  split
  · exact Serves.refl _ _
  · exact ⟨rfl, fun _ _ _ => rfl⟩

theorem serves_present (s : State) (r : MemReq) : Serves [.ARB_STS] s (s.present r) :=
  ((serves_memctl _ s _).trans (serves_foldl serves_backInvalidate r.lines _)).trans (serves_grantGroup _ _)

/-- The requests that wait once `r` stands: earlier ones of its source to its channel have its class (R319). -/
def State.waitingWith (s : State) (r : MemReq) : List MemReq :=
  (s.memctl.waiting.map fun q => if q.src = r.src ∧ s.channelOf q.addr = s.channelOf r.addr ∧ r.sc < q.sc then { q with sc := r.sc } else q) ++
    [{ r with since := s.tb.run }]

/-- A request that needs no line back from the host stands at once. -/
theorem present_noLines {r : MemReq} (s : State) (hl : r.lines = []) :
    s.present r = State.grantGroup { s with memctl := { s.memctl with waiting := s.waitingWith r } } (s.groupOf r.addr) := by
  have hnone : ∀ u : State, r.lines.foldl State.backInvalidate u = u := fun u => by rw [hl, List.foldl_nil]
  exact congrArg (fun u : State => u.grantGroup (s.groupOf r.addr)) (hnone { s with memctl := { s.memctl with waiting := s.waitingWith r } })

/-- The state in which a request stands that no other waits before. -/
def State.standing (s : State) (r : MemReq) : State := { s with memctl := { s.memctl with waiting := [{ r with since := s.tb.run }] } }

theorem present_standing {s : State} {r : MemReq} (hw : s.memctl.waiting = []) (hl : r.lines = []) :
    s.present r = (s.standing r).grantGroup (s.groupOf r.addr) := by
  rw [present_noLines s hl, State.waitingWith, hw]
  rfl

theorem candidates_standing {s : State} {r : MemReq} (hl : r.lines = []) (hm : s.maskedAt r.src = false) :
    (s.standing r).candidates (s.groupOf r.addr) = [{ r with since := s.tb.run }] := by
  have hg : (s.standing r).groupOf r.addr = s.groupOf r.addr := rfl
  have hk : (s.standing r).maskedAt r.src = false := hm
  simp [State.candidates, State.standing, hl] at hg hk ⊢
  exact ⟨hg, hk⟩

/-- A request that stands alone in a free group is granted at once (R321). -/
theorem present_granted {s : State} {r : MemReq} (hw : s.memctl.waiting = []) (hl : r.lines = []) (hc : r.sc < 4)
    (hg : s.memctl.groups.contains (s.groupOf r.addr) = false) (hf : s.arbFrozen 0 = false) (hm : s.maskedAt r.src = false) :
    s.present r = (s.standing r).grantTo (s.groupOf r.addr) { r with since := s.tb.run } r.sc := by
  have hs : (s.standing r).servedClass { r with since := s.tb.run } = r.sc := servedClass_new (show s.tb.run ≤ s.tb.run from le_rfl)
  have hp := pick_alone (candidates_standing hl hm) (by rw [hs]; exact hc)
  rw [hs] at hp
  rw [present_standing hw hl]
  exact grantGroup_pick hf hg hp

/-- A request waits behind a burst in its group, a freeze or a mask (R321, R323, R325). -/
theorem present_waits {s : State} {r : MemReq} (hw : s.memctl.waiting = []) (hl : r.lines = [])
    (h : s.memctl.groups.contains (s.groupOf r.addr) = true ∨ s.arbFrozen 0 = true ∨ s.maskedAt r.src = true) : s.present r = s.standing r := by
  rw [present_standing hw hl]
  refine grantGroup_idle (h.imp_right fun x => x.imp_right fun hm => ?_)
  have hk : (s.standing r).maskedAt r.src = true := hm
  simp [State.candidates, State.standing] at hk ⊢
  exact fun _ _ => hk

theorem touches_present {r : MemReq} (s : State) (hl : r.lines = []) :
    Touches [.ARB_STS] { s with memctl := (s.present r).memctl, arbPtr := (s.present r).arbPtr } (s.present r) := by
  rw [present_noLines s hl]
  exact touches_grantGroup _ _

/-- Registers that changed with the controller and the pointers, once the outputs follow. -/
theorem onlyRegs_served {rs : List Reg} {s u : State} (h : Touches rs { s with memctl := u.memctl, arbPtr := u.arbPtr } u) :
    OnlyRegs rs { s with memctl := (settle u).memctl, arbPtr := (settle u).arbPtr } (settle u) := onlyRegs_of_touches h

/-- The controller and the arbiter's status after a request that stands alone is granted (R321). -/
theorem granted_facts {s : State} {r : MemReq} (hw : s.memctl.waiting = []) (hl : r.lines = []) (hc : r.sc < 4) (hs : r.src < 64)
    (hg : s.memctl.groups.contains (s.groupOf r.addr) = false) (hf : s.arbFrozen 0 = false) (hm : s.maskedAt r.src = false) :
    (s.present r).memctl.bursts = s.memctl.bursts ++ [{ r with since := s.tb.run, granted := s.tb.run }] ∧ (s.present r).memctl.waiting = [] ∧
      (s.present r).memctl.groups = s.memctl.groups ++ [s.groupOf r.addr] ∧ (s.present r).fld ARB_STS_LAST_GRANT = r.src := by
  rw [present_granted hw hl hc hg hf hm]
  exact ⟨rfl, List.erase_cons_head .., rfl, grantTo_last _ _ _ hs⟩

/-- A request that stands is one more inside the front end. -/
theorem inside_present {r : MemReq} (s : State) (hl : r.lines = []) : (s.present r).memctl.inside = s.memctl.inside + 1 := by
  rw [present_noLines s hl, inside_grantGroup]
  simp only [MemCtl.inside, State.waitingWith, List.length_append, List.length_map, List.length_singleton]
  omega

theorem present_cxl {r : MemReq} (s : State) (hl : r.lines = []) : (s.present r).cxl = s.cxl := by
  rw [present_noLines s hl, grantGroup_cxl]

end Sys2Proof.Machine
end

section
/-!
PROOFS. Requests, the ends of bursts, freezes, errors, retraining and page retirement (R311 to R326).
-/
namespace Sys2Proof.Machine

/-! ### Requests -/

/-- The request that a source presents. -/
def requestOf (r : MemAccess) : MemReq := { src := r.src, sc := r.sc, addr := r.addr, bytes := r.bytes, data := r.data }

theorem canRequest_bounds {r : MemAccess} {s : State} (h : s.canRequest r = true) : r.src < 36 ∧ r.sc < 4 := by
  simp only [State.canRequest, Bool.and_eq_true, decide_eq_true_eq] at h
  obtain ⟨⟨⟨⟨⟨hsrc, hsc⟩, -⟩, -⟩, -⟩, -⟩ := h
  exact ⟨hsrc, hsc⟩

/-- A host that holds no line has none to give back. -/
theorem mustSnoop_none {s : State} (h : s.cxl.snoop = []) (w : Bool) : s.mustSnoop w = fun _ => false := by
  funext line
  simp [State.mustSnoop, h]

theorem execMemoryRequest_refused {r : MemAccess} {s : State} (h : s.canRequest r = false) : execMemoryRequest r s = finish s := by
  rw [execMemoryRequest, if_pos (by simp [h])]

/-- A request of another class than SC0 stands as it is, when the host holds no line. -/
theorem execMemoryRequest_stands {r : MemAccess} {s : State} (h : s.canRequest r = true) (hc : r.sc ≠ 0) (hn : s.cxl.snoop = []) :
    execMemoryRequest r s = finish (s.present (requestOf r)) := by
  rw [execMemoryRequest, if_neg (by simp [h])]
  simp only [hc, decide_false, Bool.false_and, Bool.false_eq_true, if_false, mustSnoop_none hn, List.filter_false]
  rfl

/-- An SC0 request beyond the budget of its channel is counted, and stands (R318). -/
theorem execMemoryRequest_excess {r : MemAccess} {s : State} (h : s.canRequest r = true) (hc : r.sc = 0)
    (hx : 8000 < s.sc0Demand (s.channelOf r.addr) + r.bytes) :
    ∃ m q, execMemoryRequest r s = finish ((State.bump { s with memctl := m } .MC_SC0_OVER_CNT).present q) := by
  rw [execMemoryRequest, if_neg (by simp [h])]
  simp only [hc, hx, decide_true, Bool.true_and, if_true]
  exact ⟨_, _, rfl⟩

theorem memoryRequest_counted {r : MemAccess} {s : State} (h : s.canRequest r = true) (hc : r.sc = 0)
    (hx : 8000 < s.sc0Demand (s.channelOf r.addr) + r.bytes) :
    Gives (.memoryRequest r) s fun t =>
      t.regN .MC_SC0_OVER_CNT = min 0xFFFFFFFF (s.regN .MC_SC0_OVER_CNT + 1) ∧ SameRegs [.MC_SC0_OVER_CNT, .ARB_STS] s t ∧ SameMemory s t := by
  obtain ⟨m, q, he⟩ := execMemoryRequest_excess h hc hx
  have hp := serves_present (State.bump { s with memctl := m } .MC_SC0_OVER_CNT) q
  have hb : Serves [.MC_SC0_OVER_CNT, .ARB_STS] s (State.bump { s with memctl := m } .MC_SC0_OVER_CNT) :=
    (serves_memctl _ s m).trans (touches_bump _ _ 1 0 (by simp)).serves
  refine gives_finish he ⟨?_, (hb.trans (hp.mono (by simp))).settled⟩
  rw [regN_settle _ _ _ (by simp), State.regN, hp.2 _ _ (by simp)]
  exact regN_bump_same _ _ 1 0

theorem memoryRequest_granted {r : MemAccess} {s : State} (h : s.canRequest r = true) (hc : r.sc ≠ 0) (hn : s.cxl.snoop = [])
    (hw : s.memctl.waiting = []) (hg : s.memctl.groups.contains (s.groupOf r.addr) = false) (hf : s.arbFrozen 0 = false)
    (hm : s.maskedAt r.src = false) :
    Gives (.memoryRequest r) s fun t =>
      t.memctl.bursts = s.memctl.bursts ++
        [{ src := r.src, sc := r.sc, addr := r.addr, bytes := r.bytes, data := r.data, since := s.tb.run, granted := s.tb.run }] ∧
      t.memctl.waiting = [] ∧ t.memctl.groups = s.memctl.groups ++ [s.groupOf r.addr] ∧ t.fld ARB_STS_LAST_GRANT = r.src ∧
      OnlyRegs [.ARB_STS] { s with memctl := t.memctl, arbPtr := t.arbPtr } t := by
  obtain ⟨hsrc, hsc⟩ := canRequest_bounds h
  obtain ⟨hb, hwt, hgr, hl⟩ := granted_facts (r := requestOf r) hw rfl hsc (by simp only [requestOf]; omega) hg hf hm
  exact gives_finish (execMemoryRequest_stands h hc hn)
    ⟨hb, hwt, hgr, (fld_settle _ _ _ (by simp)).trans hl, onlyRegs_served (touches_present s rfl)⟩

theorem memoryRequest_waits {r : MemAccess} {s : State} (h : s.canRequest r = true) (hc : r.sc ≠ 0) (hn : s.cxl.snoop = [])
    (hw : s.memctl.waiting = [])
    (hb : s.memctl.groups.contains (s.groupOf r.addr) = true ∨ s.arbFrozen 0 = true ∨ s.maskedAt r.src = true) :
    Gives (.memoryRequest r) s fun t =>
      t.memctl = { s.memctl with
        waiting := [{ src := r.src, sc := r.sc, addr := r.addr, bytes := r.bytes, data := r.data, since := s.tb.run }] } ∧
      t = settle { s with memctl := t.memctl } := by
  refine gives_finish (execMemoryRequest_stands h hc hn) ?_
  rw [present_waits (r := requestOf r) hw rfl hb]
  exact ⟨rfl, rfl⟩

/-! ### The end of a burst at an arbiter -/

/-- The registers of an arbiter that has drained (R323). -/
def drainedRegs : List Reg := [.ARB_STS, .ARB_EVT, .IC_PEND, .IC_MERGE_CNT]

theorem touches_drained (s : State) (i : Nat) : Touches drainedRegs s (s.drained i) := by
  unfold State.drained
  split
  · exact Touches.refl _ _
  · exact (touches_setFld s ARB_STS_DRAINED 1 i (by simp [drainedRegs])).trans ((touches_eventIf _ _ _ i).mono (by simp [sourceOnly, drainedRegs]))

/-- An arbiter that has drained shows it. -/
theorem flag_drained (s : State) (i : Nat) : (s.drained i).flag ARB_STS_DRAINED i = true := by
  unfold State.drained
  split
  next h => exact h
  next => rw [(touches_eventIf _ _ ARB_EVT_DRAINED i).flag (by simp [sourceOnly]) i, flag_setFld_one _ _ _ (by simp) (by simp)]

/-- The end of the wait of a freeze is an event (R323). -/
theorem event_drained {s : State} {i : Nat} (hd : s.flag ARB_STS_DRAINED i = false) (hf : s.arbFrozen i = true) :
    (s.drained i).flag ARB_EVT_DRAINED i = true := by
  rw [State.drained, if_neg (ne_true_of_eq_false hd), hf]
  exact flag_event_same _ _ i (by simp) (by simp) (by simp [sourceOnly])

theorem arbBurstEnd_drains {g c n : Nat} {h : Bool} {s : State} (hw : s.memctl.waiting = []) (hg : s.memctl.groups = [g]) :
    Gives (.arbBurstEnd 0 g c h n) s fun t =>
      t.memctl = { s.memctl with groups := [] } ∧ t.flag ARB_STS_DRAINED = true ∧
      OnlyRegs [.ARB_STS, .ARB_EVT, .IC_PEND, .IC_MERGE_CNT] { s with memctl := t.memctl } t := by
  let u : State := { s with memctl := { s.memctl with groups := [] } }
  have hidle : u.grantGroup g = u := grantGroup_idle (.inr (.inr (by simp [State.candidates, u, hw])))
  have he : execArbBurstEnd 0 g c h n s = finish (u.drained 0) := by
    have hr : s.memctl.groups.erase g = [] := by simp [hg]
    rw [execArbBurstEnd, if_neg (by omega), if_neg (by omega)]
    dsimp only
    rw [hr, hidle]
    rfl
  have hk := touches_drained u 0
  have hmem : (u.drained 0).memctl = { s.memctl with groups := [] } := by rw [hk.1]
  refine gives_finish he ⟨hmem, (flag_settle _ _ _ (by simp)).trans (flag_drained u 0), ?_⟩
  rw [settle_memctl, hmem]
  exact onlyRegs_of_touches hk

theorem execArbBurstEnd_small {i : Nat} (g c : Nat) (h : Bool) (n : Nat) (s : State) (h0 : 0 < i) (h8 : i < 8) :
    execArbBurstEnd i g c h n s = finish (s.smallGrant i c h n) := by
  rw [execArbBurstEnd, if_neg (by omega), if_pos h0]

theorem arbBurstEnd_frozen {i g c n : Nat} {h : Bool} {s : State} (h0 : 0 < i) (h8 : i < 8) (hf : s.arbFrozen i = true) :
    Gives (.arbBurstEnd i g c h n) s fun t =>
      t.flag ARB_STS_DRAINED i = true ∧ (s.flag ARB_STS_DRAINED i = false → t.flag ARB_EVT_DRAINED i = true) ∧
      OnlyRegs [.ARB_STS, .ARB_EVT, .IC_PEND, .IC_MERGE_CNT] s t := by
  have he : s.smallGrant i c h n = s.drained i := by rw [State.smallGrant, if_pos hf]
  refine gives_finish (execArbBurstEnd_small g c h n s h0 h8) ?_
  rw [he]
  exact ⟨(flag_settle _ _ _ (by simp)).trans (flag_drained s i), fun hd => (flag_settle _ _ _ (by simp)).trans (event_drained hd hf),
    onlyRegs_of_touches (touches_drained s i)⟩

/-- The requesters of an arbiter are at least one and at most eight, but for ARB0 (R326). -/
theorem arbRequesters_bounds {i : Nat} (h0 : 0 < i) (h8 : i < 8) : 0 < arbRequesters i ∧ arbRequesters i ≤ 8 := by
  interval_cases i <;> decide

theorem arbFirst_lt {n p c r : Nat} (hn : 0 < n) (h : arbFirst n p c = some r) : r < n := by
  obtain ⟨k, -, rfl⟩ := List.mem_map.mp (List.mem_of_find?_eq_some h)
  exact Nat.mod_lt _ hn

/-- A grant of ARB1 to ARB7 shows the requester, and the pointer moves past it (R321). -/
theorem arbGrant_facts (s : State) {i r : Nat} (hr : r < 64) :
    (s.arbGrant i r).fld ARB_STS_LAST_GRANT i = r ∧ (storeFind (s.arbGrant i r).arbPtr i).getD 0 = (r + 1) % arbRequesters i ∧
      Touches [.ARB_STS] { s with arbPtr := (s.arbGrant i r).arbPtr } (s.arbGrant i r) := by
  refine ⟨?_, ?_, rfl, (touches_setFld (rs := [.ARB_STS]) s ARB_STS_LAST_GRANT r i (by simp)).2⟩
  · show (s.setFld ARB_STS_LAST_GRANT r i).fld ARB_STS_LAST_GRANT i = r
    rw [fld_setFld_same _ _ _ _ (by simp), Nat.mod_eq_of_lt (by simpa using hr)]
  · by_cases h : (r + 1) % arbRequesters i = 0 <;> simp [State.arbGrant, h]

theorem arbBurstEnd_next {i g c n r : Nat} {s : State} (h0 : 0 < i) (h8 : i < 8) (hf : s.arbFrozen i = false)
    (hr : arbFirst (arbRequesters i) ((storeFind s.arbPtr i).getD 0) c = some r) :
    Gives (.arbBurstEnd i g c false n) s fun t =>
      t.fld ARB_STS_LAST_GRANT i = r ∧ t.flag ARB_STS_DRAINED i = false ∧ (storeFind t.arbPtr i).getD 0 = (r + 1) % arbRequesters i ∧
      OnlyRegs [.ARB_STS] { s with arbPtr := t.arbPtr } t := by
  obtain ⟨hpos, htop⟩ := arbRequesters_bounds h0 h8
  have hlt := arbFirst_lt hpos hr
  have he : s.smallGrant i c false n = (s.arbGrant i r).setFld ARB_STS_DRAINED 0 i := by
    simp only [State.smallGrant, hf, Bool.false_and, Bool.false_eq_true, if_false, false_and, hr]
  obtain ⟨hl, hp, hk⟩ := arbGrant_facts s (i := i) (show r < 64 by omega)
  refine gives_finish (execArbBurstEnd_small g c false n s h0 h8) ?_
  rw [he]
  refine ⟨?_, (flag_settle _ _ _ (by simp)).trans (flag_setFld_zero _ _ _ (by simp)), hp,
    onlyRegs_of_touches (hk.trans (touches_setFld _ ARB_STS_DRAINED 0 i (by simp)))⟩
  rw [fld_settle _ _ _ (by simp), fld_setFld_apart _ _ _ _ _ _ (by simp [Field.apart]), hl]

theorem arbBurstEnd_holds {i g c n : Nat} {s : State} (h0 : 0 < i) (h8 : i < 8) (hf : s.arbFrozen i = false)
    (hd : s.flag ARB_STS_DRAINED i = false) (hc : c.testBit (s.fld ARB_STS_LAST_GRANT i) = true) (hn : n < s.fld ARB_CTL_HOLD_MAX i) :
    Gives (.arbBurstEnd i g c true n) s fun t => Unchanged s t := by
  refine gives_unchanged ((execArbBurstEnd_small g c true n s h0 h8).trans (congrArg finish ?_))
  have hold : (true && decide (0 < s.fld ARB_CTL_HOLD_MAX i) && !s.flag ARB_STS_DRAINED i && c.testBit (s.fld ARB_STS_LAST_GRANT i)) = true := by
    rw [hd, hc, decide_eq_true (show 0 < s.fld ARB_CTL_HOLD_MAX i by omega)]
    rfl
  rw [State.smallGrant, if_neg (ne_true_of_eq_false hf), if_pos ⟨hold, hn⟩]

/-! ### Freezes -/

/-- The registers of an arbiter's control after a write of it (R323, R337): ARB0 has no HOLD_MAX. -/
def State.arbSet (s : State) (i v : Nat) : State :=
  let s1 := s.setFlag ARB_CTL_FREEZE (v.testBit 0) i
  let s2 := if i = 0 then s1 else s1.setFld ARB_CTL_HOLD_MAX (v / 65536) i
  s2.setFlag ARB_STS_FROZEN (s2.arbFrozen i) i

theorem touches_arbSet (s : State) (i v : Nat) : Touches [.ARB_CTL, .ARB_STS] s (s.arbSet i v) := by
  unfold State.arbSet
  dsimp only
  have h1 := touches_setFlag (rs := [.ARB_CTL, .ARB_STS]) s ARB_CTL_FREEZE (v.testBit 0) i (by simp)
  split
  · exact h1.trans (touches_setFlag _ ARB_STS_FROZEN _ i (by simp))
  · exact (h1.trans (touches_setFld _ ARB_CTL_HOLD_MAX _ i (by simp))).trans (touches_setFlag _ ARB_STS_FROZEN _ i (by simp))

/-- A write freezes an arbiter as it says, and FROZEN shows that or the firmware's freeze (R323). -/
theorem arbSet_freezes (s : State) (i v : Nat) :
    (s.arbSet i v).flag ARB_CTL_FREEZE i = v.testBit 0 ∧ (s.arbSet i v).flag ARB_STS_FROZEN i = (v.testBit 0 || s.flag ARB_STS_FW_FREEZE i) := by
  let s1 := s.setFlag ARB_CTL_FREEZE (v.testBit 0) i
  have hs : ∃ s2 : State, s.arbSet i v = s2.setFlag ARB_STS_FROZEN (s2.arbFrozen i) i ∧ s2.flag ARB_CTL_FREEZE i = s1.flag ARB_CTL_FREEZE i ∧
      s2.flag ARB_STS_FW_FREEZE i = s1.flag ARB_STS_FW_FREEZE i := by
    refine ⟨_, rfl, ?_, ?_⟩ <;> split
    · rfl
    · exact flag_setFld_apart _ _ _ _ _ _ (by simp [Field.apart])
    · rfl
    · exact (touches_setFld (rs := [.ARB_CTL]) s1 ARB_CTL_HOLD_MAX _ i (by simp)).flag (by simp) i
  have h1 : s1.flag ARB_CTL_FREEZE i = v.testBit 0 := flag_setFlag_same _ _ _ _ (by simp) (by simp)
  have h2 : s1.flag ARB_STS_FW_FREEZE i = s.flag ARB_STS_FW_FREEZE i :=
    (touches_setFlag (rs := [.ARB_CTL]) s ARB_CTL_FREEZE _ i (by simp)).flag (by simp) i
  obtain ⟨s2, he, hc, hw⟩ := hs
  rw [he]
  refine ⟨?_, ?_⟩
  · rw [(touches_setFlag (rs := [.ARB_STS]) s2 ARB_STS_FROZEN _ i (by simp)).flag (by simp) i, hc, h1]
  · rw [flag_setFlag_same _ _ _ _ (by simp) (by simp), State.arbFrozen, hc, hw, h1, h2]

/-- ARB1 to ARB7 have a HOLD_MAX of 16 bits (R324). -/
theorem arbSet_holdMax (s : State) {i v : Nat} (h0 : 0 < i) (hv : v < 2 ^ 32) : (s.arbSet i v).fld ARB_CTL_HOLD_MAX i = v / 65536 := by
  unfold State.arbSet
  dsimp only
  rw [(touches_setFlag (rs := [.ARB_STS]) _ ARB_STS_FROZEN _ i (by simp)).fld (by simp) i, if_neg (by omega), fld_setFld_same _ _ _ _ (by simp),
    Nat.mod_eq_of_lt (Nat.div_lt_of_lt_mul (by simpa using hv))]

/-- A write of the control of an arbiter by an agent with PF0's authority. -/
theorem execArbFreezeWrite_pf0 {a : Agent} {i : Nat} {s : State} (v : Word) (ha : s.actsAsPf0 a = true) (h8 : i < 8) :
    execArbFreezeWrite a i v s = finish (s.arbControl i v.toNat) := by
  rw [execArbFreezeWrite, byAgent_pf0 ha, if_neg (by omega)]

theorem arbFreezeWrite_small {a : Agent} {i : Nat} {v : Word} {s : State} (ha : s.actsAsPf0 a = true) (h0 : 0 < i) (h8 : i < 8) :
    Gives (.arbFreezeWrite a i v) s fun t =>
      t.flag ARB_CTL_FREEZE i = v.toNat.testBit 0 ∧ t.fld ARB_CTL_HOLD_MAX i = v.toNat / 65536 ∧
      t.flag ARB_STS_FROZEN i = (v.toNat.testBit 0 || s.flag ARB_STS_FW_FREEZE i) ∧ OnlyRegs [.ARB_CTL, .ARB_STS] s t := by
  have he : s.arbControl i v.toNat = s.arbSet i v.toNat := if_neg (by omega)
  obtain ⟨hf, hz⟩ := arbSet_freezes s i v.toNat
  refine gives_finish (execArbFreezeWrite_pf0 v ha h8) ?_
  rw [he]
  exact ⟨(flag_settle _ _ _ (by simp)).trans hf, (fld_settle _ _ _ (by simp)).trans (arbSet_holdMax s h0 v.isLt),
    (flag_settle _ _ _ (by simp)).trans hz, onlyRegs_of_touches (touches_arbSet s i _)⟩

theorem arbFreezeWrite_arb0 {a : Agent} {v : Word} {s : State} (ha : s.actsAsPf0 a = true) (hv : v.toNat.testBit 0 = true) :
    Gives (.arbFreezeWrite a 0 v) s fun t => t.flag ARB_CTL_FREEZE = true ∧ t.flag ARB_STS_FROZEN = true ∧ OnlyRegs [.ARB_CTL, .ARB_STS] s t := by
  obtain ⟨hf, hz⟩ := arbSet_freezes s 0 v.toNat
  rw [hv] at hf hz
  have hidle : ∀ g, (s.arbSet 0 v.toNat).grantGroup g = s.arbSet 0 v.toNat := fun g =>
    grantGroup_idle (.inr (.inl (by rw [State.arbFrozen, hf, Bool.true_or])))
  have he : s.arbControl 0 v.toNat = s.arbSet 0 v.toNat :=
    show (List.range 4).foldl State.grantGroup (s.arbSet 0 v.toNat) = _ from List.foldl_fixed' hidle _
  refine gives_finish (execArbFreezeWrite_pf0 v ha (by omega)) ?_
  rw [he]
  exact ⟨(flag_settle _ _ _ (by simp)).trans hf, (flag_settle _ _ _ (by simp)).trans hz, onlyRegs_of_touches (touches_arbSet s 0 _)⟩

theorem arbFreezeWrite_refused {f i : Nat} {v : Word} {s : State} (hf : f ≠ 0) : Gives (.arbFreezeWrite (.func f) i v) s fun t => Unchanged s t := by
  refine gives_unchanged (show execArbFreezeWrite (.func f) i v s = finish s from ?_)
  rw [execArbFreezeWrite, byAgent_func, if_pos (.inl hf)]

end Sys2Proof.Machine
end

section
/-!
PROOFS. Bursts that complete, errors, refresh, retraining and page retirement (R311 to R319).
-/
namespace Sys2Proof.Machine

/-! ### Faults that are recorded -/

/-- A record sets its bit of `FC_STATUS` and leaves the others. -/
theorem status_record (s : State) {n : Nat} (d : Nat) (hn : n < 37) : (s.record n d).reg .FC_STATUS = setBitField (s.reg .FC_STATUS) n 1 1 := by
  unfold State.record
  rw [if_neg (by omega)]
  extract_lets rec1 s1 s2 s3 s4
  have h3 : s3.reg .FC_STATUS = setBitField (s.reg .FC_STATUS) n 1 1 := by simp [s3, s2, s1]
  have h4 : Touches [.FC_FIRST] s3 s4 := by
    unfold s4
    split
    · exact Touches.refl _ _
    · exact touches_setReg s3 _ _ 0 (by simp)
  rw [(touches_raise (rs := sourceOnly) s4 _ fun _ h => h).2 _ _ (by simp [sourceOnly]), h4.2 _ _ (by simp), h3]

theorem getLsbD_record_same (s : State) {n : Nat} (d : Nat) (hn : n < 37) : ((s.record n d).reg .FC_STATUS).getLsbD n = true := by
  rw [← BitVec.testBit_toNat]
  exact testBit_record s d hn

/-- A fault that is recorded already stays so. -/
theorem getLsbD_record {s : State} {k n : Nat} (d : Nat) (hn : n < 37) (h : (s.reg .FC_STATUS).getLsbD k = true) :
    ((s.record n d).reg .FC_STATUS).getLsbD k = true := by
  by_cases hk : k = n
  · rw [hk]
    exact getLsbD_record_same s d hn
  · rw [status_record s d hn]
    simp [setBitField, h, BitVec.lt_of_getLsbD h]

/-! ### Granules -/

/-- The registers of an uncorrectable burst (R313, R314). -/
def uncorrectableRegs : List Reg := [.MC_CH_UE_CNT, .MC_UE_ADDR, .MC_CH_EVT, .MC_RETIRE_TBL] ++ faultOnly

theorem serves_markGranule (s : State) (g : Nat) (b : Bool) : Serves [.MC_RETIRE_TBL] s (s.markGranule g b) := by
  unfold State.markGranule
  split
  · exact (touches_setReg s _ _ _ (by simp)).serves
  · exact serves_memctl _ _ _

theorem bursts_markGranule (s : State) (g : Nat) (b : Bool) : (s.markGranule g b).memctl.bursts = s.memctl.bursts := by
  unfold State.markGranule
  split <;> rfl

theorem serves_cleanGranule (s : State) (g : Nat) : Serves [.MC_RETIRE_TBL] s (s.cleanGranule g) :=
  (serves_memctl _ s _).trans (serves_markGranule _ _ _)

/-- A write of bytes to device memory cleans granules of it, and nothing more. -/
theorem serves_memStore (s : State) (a : Nat) (bs : List Byte) : Serves [.MC_RETIRE_TBL] (s.store .device a bs) (s.memStore a bs) :=
  serves_foldl (fun t _ => serves_cleanGranule t _) _ _

theorem bursts_cleanGranule (s : State) (g : Nat) : (s.cleanGranule g).memctl.bursts = s.memctl.bursts := bursts_markGranule _ g false

theorem bursts_memStore (s : State) (a : Nat) (bs : List Byte) : (s.memStore a bs).memctl.bursts = s.memctl.bursts :=
  foldl_keeps (fun t : State => t.memctl.bursts) (fun t k => bursts_cleanGranule t ((a + 255) / 256 + k)) _ (s.store .device a bs)

theorem Serves.mems {rs : List Reg} {s t : State} (h : Serves rs s t) : t.mem = s.mem ∧ t.hostMem = s.hostMem ∧ t.spad = s.spad :=
  ⟨by rw [h.1], by rw [h.1], by rw [h.1]⟩

theorem reg_memStore (s : State) (a : Nat) (bs : List Byte) (r : Reg) (i : Nat) (h : r ∉ [Reg.MC_RETIRE_TBL]) :
    (s.memStore a bs).reg r i = s.reg r i := ((serves_memStore s a bs).2 r i h).trans (reg_store s .device a bs r i)

/-- The bytes that are written to device memory read back, and no others changed. -/
theorem memStore_bytes (s : State) (a : Nat) {bs : List Byte} {n : Nat} (hn : bs.length = n) :
    (s.memStore a bs).load .device a n = bs ∧ OnlyBytes .device a n s (s.memStore a bs) := by
  obtain ⟨hm, hh, hs⟩ := (serves_memStore s a bs).mems
  exact ⟨(load_congr hm hh .device a n).trans (load_store_same s .device a hn), onlyBytes_of_mems (onlyBytes_store s .device a hn) hm hh hs⟩

/-! ### Errors -/

theorem serves_schedule (rs : List Reg) (s : State) (p c : Nat) : Serves rs s (s.schedule p c) := by
  unfold State.schedule
  split
  · exact Serves.refl _ _
  · exact serves_memctl _ _ _

/-- The registers of a corrected burst (R313). -/
def correctedRegs : List Reg := [.MC_CH_CE_CNT, .MC_CH_EVT, .IC_PEND, .IC_MERGE_CNT]

/-- A corrected burst is counted, and its event occurs (R313). -/
theorem correctedRead_facts (s : State) (c p : Nat) : Serves correctedRegs s (s.correctedRead c p) ∧
    (s.correctedRead c p).regN .MC_CH_CE_CNT c = min 0xFFFFFFFF (s.regN .MC_CH_CE_CNT c + 1) ∧
    (s.correctedRead c p).flag MC_CH_EVT_CE c = true := by
  unfold State.correctedRead
  extract_lets n rest m s1 s2 top
  have h1 : Serves correctedRegs s s1 := serves_memctl _ s _
  have hb := touches_bump (rs := correctedRegs) s1 .MC_CH_CE_CNT 1 c (by simp [correctedRegs])
  have he := touches_event_self (s1.bump .MC_CH_CE_CNT 1 c) MC_CH_EVT_CE c
  have h2 : Serves correctedRegs s s2 := h1.trans (hb.trans (he.mono (by simp [sourceOnly, correctedRegs]))).serves
  have hn2 : s2.regN .MC_CH_CE_CNT c = min 0xFFFFFFFF (s.regN .MC_CH_CE_CNT c + 1) :=
    (he.regN (by simp [sourceOnly]) c).trans (regN_bump_same s1 .MC_CH_CE_CNT 1 c)
  have hf2 : s2.flag MC_CH_EVT_CE c = true := flag_event_same _ _ c (by simp) (by simp) (by simp [sourceOnly])
  have hk : Serves [] s2 (if 0 < top ∧ top ≤ n then s2.schedule p c else s2) := by
    split
    · exact serves_schedule _ _ _ _
    · exact Serves.refl _ _
  refine ⟨h2.trans (hk.mono (by simp)), ?_, ?_⟩
  · rw [State.regN, hk.2 _ _ (by simp), ← State.regN, hn2]
  · rw [State.flag, State.fld, hk.2 _ _ (by simp), ← State.fld, ← State.flag, hf2]

/-- An uncorrectable burst is counted, with its address, its event and FS3 (R313, R314). -/
theorem uncorrectable_facts (s : State) (c a : Nat) : Serves uncorrectableRegs s (s.uncorrectable c a) ∧
    (s.uncorrectable c a).regN .MC_CH_UE_CNT c = min 0xFFFFFFFF (s.regN .MC_CH_UE_CNT c + 1) ∧
    (s.uncorrectable c a).reg .MC_UE_ADDR = BitVec.ofNat 64 a ∧ (s.uncorrectable c a).flag MC_CH_EVT_UE c = true ∧
    ((s.uncorrectable c a).reg .FC_STATUS).getLsbD 3 = true := by
  unfold State.uncorrectable
  extract_lets s1
  have h0 : Touches uncorrectableRegs s ((s.bump .MC_CH_UE_CNT 1 c).putN .MC_UE_ADDR a) :=
    (touches_bump s .MC_CH_UE_CNT 1 c (by simp [uncorrectableRegs])).trans (touches_putN _ .MC_UE_ADDR a 0 (by simp [uncorrectableRegs]))
  have he := touches_event_self ((s.bump .MC_CH_UE_CNT 1 c).putN .MC_UE_ADDR a) MC_CH_EVT_UE c
  have hr := touches_record (rs := faultOnly) s1 3 c false fun _ h => h
  have hm : Serves [.MC_RETIRE_TBL] (s1.record 3 c) (((s1.record 3 c).markGranule (a / 256) true).schedule (a / 4096) c) :=
    (serves_markGranule _ _ _).trans (serves_schedule _ _ _ _)
  refine ⟨(h0.trans ((he.mono (by simp [sourceOnly, uncorrectableRegs, faultOnly])).trans (hr.mono fun _ h => List.mem_append_right _ h))).serves.trans
    (hm.mono (by simp [uncorrectableRegs])), ?_, ?_, ?_, ?_⟩
  · rw [State.regN, hm.2 _ _ (by simp), hr.2 _ _ (by simp [faultOnly]), he.2 _ _ (by simp [sourceOnly]), ← State.regN]
    exact ((touches_putN (rs := [.MC_UE_ADDR]) _ .MC_UE_ADDR a 0 (by simp)).regN (by simp) c).trans (regN_bump_same s .MC_CH_UE_CNT 1 c)
  · rw [hm.2 _ _ (by simp), hr.2 _ _ (by simp [faultOnly]), he.2 _ _ (by simp [sourceOnly]), reg_putN, if_pos ⟨rfl, rfl⟩]
    rfl
  · rw [State.flag, State.fld, hm.2 _ _ (by simp), hr.2 _ _ (by simp [faultOnly]), ← State.fld, ← State.flag]
    exact flag_event_same _ _ c (by simp) (by simp) (by simp [sourceOnly])
  · rw [hm.2 _ _ (by simp)]
    exact getLsbD_record_same s1 c (by omega)

/-! ### Completion -/

/-- A burst that is over, with its latency among those of SC0 (R318). -/
def State.burstEnded (s : State) (c : Nat) (r : MemReq) : State :=
  if r.sc = 0 then (s.burstOver c r).maxReg .MC_CH_LAT_MAX (s.tb.run - r.granted) c else s.burstOver c r

theorem touches_burstEnded (s : State) (c : Nat) (r : MemReq) : Touches [.MC_CH_LAT_MAX] (s.burstOver c r) (s.burstEnded c r) := by
  unfold State.burstEnded
  split
  · unfold State.maxReg
    split
    · exact touches_putN _ _ _ c (by simp)
    · exact Touches.refl _ _
  · exact Touches.refl _ _

theorem memctl_burstEnded (s : State) (c : Nat) (r : MemReq) :
    (s.burstEnded c r).memctl = { s.memctl with bursts := s.memctl.bursts.erase r, tries := storeDrop s.memctl.tries c } := by
  rw [(touches_burstEnded s c r).1]
  rfl

section
variable {s : State} {c x : Nat} {e : EccResult} {r : MemReq}

theorem completeBurst_none (h : (s.memctl.bursts.find? fun q => q.src == x && s.channelOf q.addr == c) = none) : s.completeBurst c x e = s := by
  rw [State.completeBurst, h]

theorem completeBurst_write {d : List Byte} (h : (s.memctl.bursts.find? fun q => q.src == x && s.channelOf q.addr == c) = some r)
    (hd : r.data = some d) : s.completeBurst c x e = (s.burstEnded c r).writeDone c r d (decide (e = .uncorrectable)) := by
  rw [State.completeBurst, h]
  dsimp only
  rw [hd]
  rfl

theorem completeBurst_read (h : (s.memctl.bursts.find? fun q => q.src == x && s.channelOf q.addr == c) = some r)
    (hd : r.data = none) : s.completeBurst c x e = (s.burstEnded c r).readDone c r e := by
  rw [State.completeBurst, h]
  dsimp only
  rw [hd]
  rfl

end

/-- A write burst of a channel that works lands at its address and nowhere else (R312, R319). -/
theorem memoryBurstComplete_write {s : State} {c x : Nat} {e : EccResult} {r : MemReq} {d : List Byte}
    (h : (s.memctl.bursts.find? fun q => q.src == x && s.channelOf q.addr == c) = some r) (hd : r.data = some d) (hp : r.poison = false)
    (hc : r.sc ≠ 0) (hf : s.channelFailed c = false) (he : e ≠ .uncorrectable) :
    Gives (.memoryBurstComplete c x e) s fun t =>
      t.load .device r.addr d.length = d ∧ OnlyBytes .device r.addr d.length s t ∧ t.memctl.bursts = s.memctl.bursts.erase r ∧
      SameRegs [.MC_RETIRE_TBL] s t ∧ t.streams = s.streams := by
  have hend : s.burstEnded c r = s.burstOver c r := if_neg hc
  have hfail : (s.burstOver c r).channelFailed c = false := hf
  have hx : s.completeBurst c x e = (s.burstOver c r).memStore r.addr d := by
    rw [completeBurst_write h hd, hend, State.writeDone, hfail, if_neg (by simp), if_neg (by simp [he]), hp, if_neg (by simp)]
  refine gives_finish (show execMemoryBurstComplete c x e s = finish _ from congrArg finish hx) ?_
  obtain ⟨hl, hb⟩ := memStore_bytes (s.burstOver c r) r.addr (rfl : d.length = d.length)
  exact ⟨hl, onlyBytes_of_mems hb rfl rfl rfl, bursts_memStore (s.burstOver c r) _ _,
    sameRegs_settle fun r' i hr => reg_memStore (s.burstOver c r) _ _ r' i hr,
    (serves_memStore (s.burstOver c r) r.addr d).streams⟩

/-! ### A read that completes -/

theorem touches_sample (s : State) (a b v : Nat) : Touches monitorRegs s (s.sample a b v) :=
  touches_foldl (fun t m => by
    split
    · exact touches_fold t m _
    · exact Touches.refl _ _) _ s

/-- The errors of a read burst on a channel that works (R313, R314). -/
def State.readErrors (s : State) (c : Nat) (r : MemReq) : EccResult → State
  | .clean => s
  | .corrected => s.correctedRead c (r.addr / 4096)
  | .uncorrectable => s.uncorrectable c r.addr

/-- The latency of a read is a sample, by its class (R458). -/
def State.latencySampled (s : State) (c : Nat) (r : MemReq) (n : Nat) : State :=
  if r.sc = 0 then s.sample 6 c n else if r.sc ≤ 2 then s.sample 7 c n else s

theorem touches_latencySampled (s : State) (c : Nat) (r : MemReq) (n : Nat) : Touches monitorRegs s (s.latencySampled c r n) := by
  unfold State.latencySampled
  split
  · exact touches_sample _ _ _ _
  · split
    · exact touches_sample _ _ _ _
    · exact Touches.refl _ _

/-- The registers that a read writes beside those of its errors: monitors, and FS21 (R382, R458). -/
def readRegs : List Reg := monitorRegs ++ faultOnly

/-- What a poisoned read is to the host, it leaves the controller, the data and the faults recorded before. -/
theorem poisonToHost_facts (s : State) : Serves faultOnly s s.poisonToHost ∧ s.poisonToHost.memctl = s.memctl ∧
    s.poisonToHost.lastRead = s.lastRead ∧ ∀ k, (s.reg .FC_STATUS).getLsbD k = true → (s.poisonToHost.reg .FC_STATUS).getLsbD k = true := by
  unfold State.poisonToHost
  extract_lets s1
  have h := touches_record (rs := faultOnly)
    { s1 with cxl := { s1.cxl with errors := { s1.cxl.errors with rasCorr := true, rasPoison := true } } } 21 0 false fun _ h => h
  exact ⟨((serves_emit _ s _).trans (serves_cxl _ s1 _)).trans h.serves, h.rest.memctl, h.rest.lastRead, fun k hk => getLsbD_record 0 (by omega) hk⟩

/-- The state in which a read has returned a value. -/
def State.returned (s : State) (v : DWord) : State := { s with lastRead := v }

/-- A read on a channel that works: its errors, its latency, and its bytes, which may be poisoned for the host (R313, R318, R382). -/
theorem readDone_eq {s : State} {c : Nat} (r : MemReq) (e : EccResult) (hf : s.channelFailed c = false) :
    let t := ((s.readErrors c r e).latencySampled c r (s.tb.run - r.granted)).returned
      (BitVec.ofNat 64 (leNat (s.load .device r.addr (min 8 r.bytes))))
    s.readDone c r e = t.poisonToHost ∨ s.readDone c r e = t := by
  unfold State.readDone
  rw [hf]
  cases e <;> exact ite_eq_or_eq _ _ _

/-- A read returns its bytes, and beside its errors writes monitors and what a poisoned read is to the host. -/
theorem readDone_facts {s : State} {c : Nat} (r : MemReq) (e : EccResult) (hf : s.channelFailed c = false) :
    Serves readRegs (s.readErrors c r e) (s.readDone c r e) ∧ (s.readDone c r e).memctl = (s.readErrors c r e).memctl ∧
      (s.readDone c r e).lastRead = BitVec.ofNat 64 (leNat (s.load .device r.addr (min 8 r.bytes))) ∧
      ∀ k, ((s.readErrors c r e).reg .FC_STATUS).getLsbD k = true → ((s.readDone c r e).reg .FC_STATUS).getLsbD k = true := by
  have hk := touches_latencySampled (s.readErrors c r e) c r (s.tb.run - r.granted)
  have he := readDone_eq r e hf
  generalize (s.readErrors c r e).latencySampled c r (s.tb.run - r.granted) = u at hk he
  generalize BitVec.ofNat 64 (leNat (s.load .device r.addr (min 8 r.bytes))) = v at he ⊢
  have hu : Serves readRegs (s.readErrors c r e) (u.returned v) :=
    (hk.serves.mono fun _ h => List.mem_append_left _ h).trans ⟨rfl, fun _ _ _ => rfl⟩
  have hs : (u.returned v).reg .FC_STATUS = (s.readErrors c r e).reg .FC_STATUS := hk.2 _ _ (by simp [monitorRegs])
  obtain ⟨h1, h2, h3, h4⟩ := poisonToHost_facts (u.returned v)
  rcases he with he | he <;> rw [he]
  · exact ⟨hu.trans (h1.mono fun _ h => List.mem_append_right _ h), h2.trans hk.rest.memctl, h3, fun k h => h4 k (by rw [hs, h])⟩
  · exact ⟨hu, hk.rest.memctl, rfl, fun k h => by rw [hs, h]⟩

end Sys2Proof.Machine
end

section
/-!
PROOFS. Reads, repeats, refresh, retraining and page retirement, and the statement of the device memory (R311 to R325).
-/
namespace Sys2Proof.Machine

/-! ### A read burst -/

theorem regN_congr {s t : State} {r : Reg} {i : Nat} (h : t.reg r i = s.reg r i) : t.regN r i = s.regN r i := congrArg BitVec.toNat h

theorem fld_congr {s t : State} {f : Field} {i : Nat} (h : t.reg f.reg i = s.reg f.reg i) : t.fld f i = s.fld f i := by rw [State.fld, h, State.fld]

theorem flag_congr {s t : State} {f : Field} {i : Nat} (h : t.reg f.reg i = s.reg f.reg i) : t.flag f i = s.flag f i := by
  rw [State.flag, fld_congr h, State.flag]

/-- An event leaves the registers of no source, or writes its bit. -/
theorem reg_event (s : State) (f : Field) (i : Nat) {r : Reg} (j : Nat) (hr : r ∉ sourceOnly) :
    (s.event f i).reg r j = s.reg r j ∨ (s.event f i).reg r j = (s.setFld f 1 i).reg r j := by
  unfold State.event
  split
  · exact .inl rfl
  · dsimp only
    split
    · split
      · exact .inr ((touches_raise (rs := sourceOnly) (s.setFld f 1 i) _ fun _ hm => hm).2 r j hr)
      · exact .inr rfl
    · exact .inr rfl

/-- An event leaves the fields apart from its bit. -/
theorem fld_event_apart (s : State) {f g : Field} (i j : Nat) (hg : g.reg ∉ sourceOnly) (h : f.apart g) : (s.event f i).fld g j = s.fld g j :=
  (reg_event s f i j hg).elim fld_congr fun he => (fld_congr he).trans (fld_setFld_apart s f g 1 i j h)

theorem flag_event_apart (s : State) {f g : Field} (i j : Nat) (hg : g.reg ∉ sourceOnly) (h : f.apart g) : (s.event f i).flag g j = s.flag g j := by
  rw [State.flag, fld_event_apart s i j hg h, State.flag]

section
variable {s : State} {c x : Nat} {r : MemReq} (hr : (s.memctl.bursts.find? fun q => q.src == x && s.channelOf q.addr == c) = some r)
  (hd : r.data = none) (hf : s.channelFailed c = false)

theorem serves_burstEnded (s : State) (c : Nat) (r : MemReq) : Serves [.MC_CH_LAT_MAX] s (s.burstEnded c r) :=
  (serves_memctl _ s _).trans (touches_burstEnded s c r).serves

include hf in
theorem channelFailed_burstEnded : (s.burstEnded c r).channelFailed c = false := by
  rw [State.channelFailed, fld_congr ((serves_burstEnded s c r).2 _ _ (by simp))]
  exact hf

include hr hd in
theorem execMemoryBurstComplete_read (e : EccResult) : execMemoryBurstComplete c x e s = finish ((s.burstEnded c r).readDone c r e) :=
  congrArg finish (completeBurst_read hr hd)

include hr hd hf in
theorem memoryBurstComplete_clean : Gives (.memoryBurstComplete c x .clean) s fun t =>
      t.lastRead = BitVec.ofNat 64 (leNat (s.load .device r.addr (min 8 r.bytes))) ∧
      t.memctl = { s.memctl with bursts := s.memctl.bursts.erase r, tries := storeDrop s.memctl.tries c } ∧ SameMemory s t ∧ t.streams = s.streams := by
  obtain ⟨hk, hm, hv, -⟩ := readDone_facts r .clean (channelFailed_burstEnded (r := r) hf)
  have hu := serves_burstEnded s c r
  have hall : Serves (.MC_CH_LAT_MAX :: readRegs) s _ := (hu.mono (by simp)).trans (hk.mono fun _ h => List.mem_cons_of_mem _ h)
  obtain ⟨hmem, hhost, -⟩ := hu.mems
  rw [load_congr hmem hhost] at hv
  exact gives_finish (execMemoryBurstComplete_read hr hd _) ⟨hv, hm.trans (memctl_burstEnded s c r), hall.settled.2, hall.streams⟩

include hr hd hf in
theorem memoryBurstComplete_corrected : Gives (.memoryBurstComplete c x .corrected) s fun t =>
      t.regN .MC_CH_CE_CNT c = min 0xFFFFFFFF (s.regN .MC_CH_CE_CNT c + 1) ∧ t.flag MC_CH_EVT_CE c = true ∧ SameMemory s t := by
  obtain ⟨hk, -⟩ := readDone_facts r .corrected (channelFailed_burstEnded (r := r) hf)
  have hu := serves_burstEnded s c r
  obtain ⟨he, hn, hfl⟩ := correctedRead_facts (s.burstEnded c r) c (r.addr / 4096)
  have hall : Serves (.MC_CH_LAT_MAX :: (correctedRegs ++ readRegs)) s _ := (hu.mono (by simp)).trans
    ((he.mono fun _ h => List.mem_cons_of_mem _ (List.mem_append_left _ h)).trans
      (hk.mono fun _ h => List.mem_cons_of_mem _ (List.mem_append_right _ h)))
  refine gives_finish (execMemoryBurstComplete_read hr hd _) ⟨?_, ?_, hall.settled.2⟩
  · rw [regN_settle _ _ _ (by simp), regN_congr (hk.2 _ _ (by simp [readRegs, monitorRegs, faultOnly]))]
    exact hn.trans (by rw [regN_congr (hu.2 _ _ (by simp))])
  · rw [flag_settle _ _ _ (by simp), flag_congr (hk.2 _ _ (by simp [readRegs, monitorRegs, faultOnly]))]
    exact hfl

include hr hd hf in
theorem memoryBurstComplete_uncorrectable : Gives (.memoryBurstComplete c x .uncorrectable) s fun t =>
      t.regN .MC_CH_UE_CNT c = min 0xFFFFFFFF (s.regN .MC_CH_UE_CNT c + 1) ∧ t.reg .MC_UE_ADDR = BitVec.ofNat 64 r.addr ∧
      t.flag MC_CH_EVT_UE c = true ∧ (t.reg .FC_STATUS).getLsbD 3 = true ∧ SameMemory s t := by
  obtain ⟨hk, -, -, hst⟩ := readDone_facts r .uncorrectable (channelFailed_burstEnded (r := r) hf)
  have hu := serves_burstEnded s c r
  obtain ⟨he, hn, ha, hfl, h3⟩ := uncorrectable_facts (s.burstEnded c r) c r.addr
  have hall : Serves (.MC_CH_LAT_MAX :: (uncorrectableRegs ++ readRegs)) s _ := (hu.mono (by simp)).trans
    ((he.mono fun _ h => List.mem_cons_of_mem _ (List.mem_append_left _ h)).trans
      (hk.mono fun _ h => List.mem_cons_of_mem _ (List.mem_append_right _ h)))
  refine gives_finish (execMemoryBurstComplete_read hr hd _) ⟨?_, ?_, ?_, ?_, hall.settled.2⟩
  · rw [regN_settle _ _ _ (by simp), regN_congr (hk.2 _ _ (by simp [readRegs, monitorRegs, faultOnly]))]
    exact hn.trans (by rw [regN_congr (hu.2 _ _ (by simp))])
  · rw [reg_settle _ _ _ (by simp), hk.2 _ _ (by simp [readRegs, monitorRegs, faultOnly])]
    exact ha
  · rw [flag_settle _ _ _ (by simp), flag_congr (hk.2 _ _ (by simp [readRegs, monitorRegs, faultOnly]))]
    exact hfl
  · rw [reg_settle _ _ _ (by simp)]
    exact hst 3 h3

end

/-! ### Repeats of a burst -/

/-- The channel retrains in an emergency (R312). -/
def State.crcRetrains (s : State) (c : Nat) : State := (s.bump .MC_CH_TRAIN_CNT 1 c).event MC_CH_EVT_RETRAIN c

/-- The channel fails its retraining (R312). -/
def State.crcFails (s : State) (c : Nat) : State := ((s.setFld MC_CH_STS_STATE 3 c).event MC_CH_EVT_FAIL c).level 2 c

/-- A burst is tried once more. -/
def State.tryAgain (s : State) (c n : Nat) : State := { s with memctl := { s.memctl with tries := storeInsert s.memctl.tries c (n + 1) } }

section
variable {s : State} {c x : Nat} {b : Bool}

theorem execMcCrcError_idle (h : s.fld MC_CH_STS_STATE c ≠ 2) : execMcCrcError c x b s = finish s := by rw [execMcCrcError, if_pos (.inl h)]

section
variable (hs : s.fld MC_CH_STS_STATE c = 2) (ha : (s.memctl.bursts.any fun q => q.src == x && s.channelOf q.addr == c) = true)
include hs ha

theorem execMcCrcError_repeats (hn : (storeFind s.memctl.tries c).getD 0 < 3) :
    execMcCrcError c x b s =
      finish (((s.bump .MC_CH_RETRY_CNT 1 c).event MC_CH_EVT_RETRY c).tryAgain c ((storeFind s.memctl.tries c).getD 0)) := by
  rw [execMcCrcError, if_neg (not_or.mpr ⟨not_not.mpr hs, by rw [ha]; exact Bool.false_ne_true⟩)]
  dsimp only
  rw [if_pos hn]
  rfl

theorem execMcCrcError_retrains (hn : storeFind s.memctl.tries c = some 3) :
    execMcCrcError c x true s = finish (State.tryAgain
      { s.crcRetrains c with memctl := { (s.crcRetrains c).memctl with
          trained := storeInsert (s.crcRetrains c).memctl.trained c ((s.crcRetrains c).tb.run, (s.crcRetrains c).fld MC_CH_STS_TEMP c) } } c 3) := by
  rw [execMcCrcError, if_neg (not_or.mpr ⟨not_not.mpr hs, by rw [ha]; exact Bool.false_ne_true⟩)]
  dsimp only
  rw [hn, Option.getD_some, if_neg (by omega), if_pos rfl, if_pos rfl]
  rfl

theorem execMcCrcError_fails (hn : storeFind s.memctl.tries c = some 3) :
    execMcCrcError c x false s = finish { (s.crcRetrains c).crcFails c with
      memctl := { ((s.crcRetrains c).crcFails c).memctl with tries := storeDrop ((s.crcRetrains c).crcFails c).memctl.tries c } } := by
  rw [execMcCrcError, if_neg (not_or.mpr ⟨not_not.mpr hs, by rw [ha]; exact Bool.false_ne_true⟩)]
  dsimp only
  rw [hn, Option.getD_some, if_neg (by omega), if_pos rfl, if_neg Bool.false_ne_true]
  rfl

end

/-- The registers of a channel that retrains after a CRC error (R312). -/
def crcRegs : List Reg := [.MC_CH_TRAIN_CNT, .MC_CH_EVT, .IC_PEND, .IC_MERGE_CNT]

theorem crcRetrains_facts (s : State) (c : Nat) : Touches crcRegs s (s.crcRetrains c) ∧
    (s.crcRetrains c).regN .MC_CH_TRAIN_CNT c = min 0xFFFFFFFF (s.regN .MC_CH_TRAIN_CNT c + 1) ∧
    (s.crcRetrains c).flag MC_CH_EVT_RETRAIN c = true := by
  have he := touches_event_self (s.bump .MC_CH_TRAIN_CNT 1 c) MC_CH_EVT_RETRAIN c
  exact ⟨(touches_bump s .MC_CH_TRAIN_CNT 1 c (by simp [crcRegs])).trans (he.mono (by simp [sourceOnly, crcRegs])),
    (he.regN (by simp [sourceOnly]) c).trans (regN_bump_same s .MC_CH_TRAIN_CNT 1 c),
    flag_event_same _ _ c (by simp) (by simp) (by simp [sourceOnly])⟩

/-- The registers of a channel that fails (R312). -/
def failRegs : List Reg := [.MC_CH_STS, .MC_CH_EVT] ++ faultOnly

theorem Touches.withLevels {rs : List Reg} {s t : State} (h : Touches rs s t) (l : BitVec 64) :
    Touches rs { s with levels := l } { t with levels := l } := by
  obtain ⟨h1, h2⟩ := h
  exact ⟨by rw [h1], h2⟩

/-- A channel that fails shows it, with its event and FS2 (R312). -/
theorem crcFails_facts {s : State} (c : Nat) (hl : s.levels.getLsbD 2 = false) :
    (∃ l, Touches failRegs { s with levels := l } (s.crcFails c)) ∧ (s.crcFails c).channelFailed c = true ∧
      (s.crcFails c).flag MC_CH_EVT_FAIL c = true ∧ (s.crcFails c).flag MC_CH_EVT_RETRAIN c = s.flag MC_CH_EVT_RETRAIN c ∧
      ((s.crcFails c).reg .FC_STATUS).getLsbD 2 = true := by
  let s1 := s.setFld MC_CH_STS_STATE 3 c
  let s2 := s1.event MC_CH_EVT_FAIL c
  let l := setBitField s2.levels 2 1 1
  have h1 : Touches [.MC_CH_STS] s s1 := touches_setFld s MC_CH_STS_STATE 3 c (by simp)
  have h2 := touches_event_self s1 MC_CH_EVT_FAIL c
  have hl2 : s2.levels = s.levels := h2.rest.levels
  have hr := touches_record (rs := faultOnly) { s2 with levels := l } 2 c false fun _ h => h
  have he : s.crcFails c = ({ s2 with levels := l }).record 2 c := if_neg (by rw [hl2, hl]; exact Bool.false_ne_true)
  have hall : Touches failRegs { s with levels := l } { s2 with levels := l } :=
    ((h1.mono (by simp [failRegs])).trans (h2.mono (by simp [sourceOnly, failRegs, faultOnly]))).withLevels l
  rw [he]
  refine ⟨⟨l, hall.trans (hr.mono fun _ h => List.mem_append_right _ h)⟩, ?_, ?_, ?_, getLsbD_record_same _ c (by omega)⟩
  · have hst : s2.fld MC_CH_STS_STATE c = 3 := (h2.fld (by simp [sourceOnly]) c).trans (fld_setFld_same _ _ _ _ (by simp))
    rw [State.channelFailed, hr.fld (by simp [faultOnly]) c]
    exact beq_iff_eq.mpr hst
  · rw [hr.flag (by simp [faultOnly]) c]
    exact flag_event_same s1 _ c (by simp) (by simp) (by simp [sourceOnly])
  · rw [hr.flag (by simp [faultOnly]) c]
    exact (flag_event_apart s1 c c (by simp [sourceOnly]) (by simp [Field.apart])).trans (h1.flag (by simp) c)

theorem mcCrcError_repeats (hs : s.fld MC_CH_STS_STATE c = 2)
    (ha : (s.memctl.bursts.any fun q => q.src == x && s.channelOf q.addr == c) = true) (hn : (storeFind s.memctl.tries c).getD 0 < 3) :
    Gives (.mcCrcError c x b) s fun t =>
      t.regN .MC_CH_RETRY_CNT c = min 0xFFFFFFFF (s.regN .MC_CH_RETRY_CNT c + 1) ∧ t.flag MC_CH_EVT_RETRY c = true ∧
      storeFind t.memctl.tries c = some ((storeFind s.memctl.tries c).getD 0 + 1) ∧ t.memctl.bursts = s.memctl.bursts ∧
      OnlyRegs [.MC_CH_RETRY_CNT, .MC_CH_EVT, .IC_PEND, .IC_MERGE_CNT] { s with memctl := t.memctl } t := by
  have he := touches_event_self (s.bump .MC_CH_RETRY_CNT 1 c) MC_CH_EVT_RETRY c
  have hk : Touches [.MC_CH_RETRY_CNT, .MC_CH_EVT, .IC_PEND, .IC_MERGE_CNT] s _ :=
    (touches_bump s .MC_CH_RETRY_CNT 1 c (by simp)).trans (he.mono (by simp [sourceOnly]))
  have hcnt := (he.regN (by simp [sourceOnly]) c).trans (regN_bump_same s .MC_CH_RETRY_CNT 1 c)
  have hev := flag_event_same (s.bump .MC_CH_RETRY_CNT 1 c) MC_CH_EVT_RETRY c (by simp) (by simp) (by simp [sourceOnly])
  have hx := execMcCrcError_repeats (b := b) hs ha hn
  generalize (s.bump .MC_CH_RETRY_CNT 1 c).event MC_CH_EVT_RETRY c = u at hk hcnt hev hx
  obtain ⟨hu, hreg⟩ := hk
  refine gives_finish hx ⟨(regN_settle _ _ _ (by simp)).trans hcnt, (flag_settle _ _ _ (by simp)).trans hev, storeFind_insert_same _ _ _, ?_,
    onlyRegs_of_touches ⟨?_, hreg⟩⟩
  · rw [hu]
    rfl
  · rw [hu]
    rfl

/-- An emergency retraining that succeeds has the burst tried once more, and one that fails leaves the channel FAILED (R312). -/
theorem mcCrcError_retrains (hs : s.fld MC_CH_STS_STATE c = 2)
    (ha : (s.memctl.bursts.any fun q => q.src == x && s.channelOf q.addr == c) = true) (hn : storeFind s.memctl.tries c = some 3)
    (hl : s.levels.getLsbD 2 = false) :
    Gives (.mcCrcError c x b) s fun t =>
      t.regN .MC_CH_TRAIN_CNT c = min 0xFFFFFFFF (s.regN .MC_CH_TRAIN_CNT c + 1) ∧ t.flag MC_CH_EVT_RETRAIN c = true ∧
      t.memctl.bursts = s.memctl.bursts ∧ SameMemory s t ∧
      (b = true → t.fld MC_CH_STS_STATE c = 2 ∧ (storeFind t.memctl.trained c).map Prod.fst = some s.tb.run) ∧
      (b = false → t.channelFailed c = true ∧ t.flag MC_CH_EVT_FAIL c = true ∧ (t.reg .FC_STATUS).getLsbD 2 = true) := by
  obtain ⟨hk, hcnt, hev⟩ := crcRetrains_facts s c
  have hok := execMcCrcError_retrains hs ha hn
  have hbad := execMcCrcError_fails hs ha hn
  generalize s.crcRetrains c = u at hk hcnt hev hok hbad
  have hb : u.memctl.bursts = s.memctl.bursts := congrArg MemCtl.bursts hk.rest.memctl
  cases b
  case true =>
    refine gives_finish hok ⟨(regN_settle _ _ _ (by simp)).trans hcnt, (flag_settle _ _ _ (by simp)).trans hev,
      hb, sameMemory_of_mems hk.mem hk.hostMem hk.spad, fun _ => ⟨?_, ?_⟩, nofun⟩
    · rw [fld_settle _ _ _ (by simp)]
      exact (hk.fld (by simp [crcRegs]) c).trans hs
    · show (storeFind (storeInsert _ c _) c).map Prod.fst = _
      rw [storeFind_insert_same, Option.map_some, hk.tb]
  case false =>
    obtain ⟨⟨l, hf⟩, hfail, hfe, hre, h2⟩ := crcFails_facts c (s := u) (by rw [hk.rest.levels, hl])
    generalize u.crcFails c = v at hf hfail hfe hre h2 hbad
    refine gives_finish hbad ⟨?_, ?_, ?_, ?_, nofun, fun _ => ⟨?_, ?_, ?_⟩⟩
    · rw [regN_settle _ _ _ (by simp)]
      exact (hf.regN (by simp [failRegs, faultOnly]) c).trans hcnt
    · rw [flag_settle _ _ _ (by simp)]
      exact hre.trans hev
    · exact (congrArg MemCtl.bursts hf.rest.memctl).trans hb
    · exact sameMemory_of_mems (hf.mem.trans hk.mem) (hf.hostMem.trans hk.hostMem) (hf.spad.trans hk.spad)
    · rw [State.channelFailed, fld_settle _ _ _ (by simp)]
      exact hfail
    · rw [flag_settle _ _ _ (by simp)]
      exact hfe
    · rw [reg_settle _ _ _ (by simp)]
      exact h2

end

/-! ### Refresh and retraining -/

theorem execMcRefresh_idle {c n : Nat} {b : Bool} {s : State} (h : 16 ≤ c ∨ s.fld MC_CH_STS_STATE c ≠ 2) : execMcRefresh c n b s = finish s := by
  rw [execMcRefresh, if_pos h.symm]

theorem execMcPeriodicRetrain_idle {c n : Nat} {s : State} (h : 16 ≤ c ∨ s.fld MC_CH_STS_STATE c ≠ 2) : execMcPeriodicRetrain c n s = finish s := by
  rw [execMcPeriodicRetrain, if_pos h.symm]

theorem mcRefresh_shows {c n : Nat} {b : Bool} {s : State} (hc : c < 16) (hs : s.fld MC_CH_STS_STATE c = 2) :
    Gives (.mcRefresh c n b) s fun t =>
      t.fld MC_CH_STS_TEMP c = n % 256 ∧ t.flag MC_CH_STS_REFX2 c = b ∧ t.fld MC_CH_STS_STATE c = 2 ∧ OnlyRegs [.MC_CH_STS] s t := by
  have he : execMcRefresh c n b s = finish ((s.setFld MC_CH_STS_TEMP n c).setFlag MC_CH_STS_REFX2 b c) := by
    rw [execMcRefresh, if_neg (not_or.mpr ⟨not_not.mpr hs, by omega⟩)]
  refine gives_finish he ⟨?_, ?_, ?_,
    onlyRegs_of_touches ((touches_setFld s MC_CH_STS_TEMP n c (by simp)).trans (touches_setFlag _ MC_CH_STS_REFX2 b c (by simp)))⟩
  · rw [fld_settle _ _ _ (by simp), State.setFlag, fld_setFld_apart _ _ _ _ _ _ (by simp [Field.apart]), fld_setFld_same _ _ _ _ (by simp)]
    rfl
  · rw [flag_settle _ _ _ (by simp), flag_setFlag_same _ _ _ _ (by simp) (by simp)]
  · rw [fld_settle _ _ _ (by simp), State.setFlag, fld_setFld_apart _ _ _ _ _ _ (by simp [Field.apart]),
      fld_setFld_apart _ _ _ _ _ _ (by simp [Field.apart]), hs]

/-- The largest of the numbers that a fold has met. -/
theorem le_foldl_max {α : Type} (f : α → Nat) (l : List α) (m : Nat) :
    m ≤ l.foldl (fun m e => max m (f e)) m ∧ ∀ e ∈ l, f e ≤ l.foldl (fun m e => max m (f e)) m := by
  induction l generalizing m with
  | nil => exact ⟨le_rfl, nofun⟩
  | cons a l ih =>
    obtain ⟨h1, h2⟩ := ih (max m (f a))
    refine ⟨(le_max_left _ _).trans h1, fun e he => ?_⟩
    rcases List.mem_cons.mp he with rfl | he
    · exact (le_max_right _ _).trans h1
    · exact h2 e he

/-- The instant from which no other channel has retrained within a µs (R311). -/
def State.othersQuiet (s : State) (c : Nat) : Nat := (s.memctl.trained.filter fun e => e.1 != c).foldl (fun m e => max m (e.2.1 + 1000)) 0

/-- The instant at which a channel retrains (R311): at once when its temperature has moved 8 °C, else 1 ms after the last, away from others. -/
def State.retrainReached (s : State) (c l : Nat) (moved : Bool) : State := if moved then s else (s.reachRun (l + 1000000)).reachRun (s.othersQuiet c)

theorem timeOnly_trans {s t u : State} (h : t = { s with tb := t.tb }) (k : u = { t with tb := u.tb }) : u = { s with tb := u.tb } := by
  rw [k, h]

theorem retrainReached_frame (s : State) (c l : Nat) (moved : Bool) :
    s.retrainReached c l moved = { s with tb := (s.retrainReached c l moved).tb } := by
  unfold State.retrainReached
  split
  · rfl
  · exact timeOnly_trans (reachRun_frame s _) (reachRun_frame _ _)

theorem retrainReached_run (s : State) (c l : Nat) :
    s.tb.run ≤ (s.retrainReached c l false).tb.run ∧ l + 1000000 ≤ (s.retrainReached c l false).tb.run ∧
      (s.memctl.trained.all fun e => e.1 == c || decide (e.2.1 + 1000 ≤ (s.retrainReached c l false).tb.run)) = true := by
  have hrun : (s.retrainReached c l false).tb.run = max (max s.tb.run (l + 1000000)) (s.othersQuiet c) := by
    rw [State.retrainReached, if_neg Bool.false_ne_true, reachRun_run, reachRun_run]
  rw [hrun]
  refine ⟨by omega, by omega, List.all_eq_true.mpr fun e he => ?_⟩
  by_cases hc : e.1 = c
  · simp [hc]
  · have hle : e.2.1 + 1000 ≤ s.othersQuiet c := (le_foldl_max (fun e : Nat × Nat × Nat => e.2.1 + 1000) _ 0).2 e
      (List.mem_filter.mpr ⟨he, by simpa using hc⟩)
    simp [hle]

/-- A channel has retrained, at a temperature (R311). -/
def State.retrained (s : State) (c n : Nat) : State :=
  let u := (s.bump .MC_CH_TRAIN_CNT 1 c).setFld MC_CH_STS_TEMP n c
  { u with memctl := { u.memctl with trained := storeInsert u.memctl.trained c (u.tb.run, n) } }

theorem execMcPeriodicRetrain_again {c n l x : Nat} {s : State} (hc : c < 16) (hs : s.fld MC_CH_STS_STATE c = 2)
    (ht : storeFind s.memctl.trained c = some (l, x)) :
    execMcPeriodicRetrain c n s = finish ((s.retrainReached c l (decide (8 ≤ max n x - min n x))).retrained c n) := by
  unfold State.retrained State.retrainReached State.othersQuiet
  rw [execMcPeriodicRetrain, if_neg (not_or.mpr ⟨not_not.mpr hs, by omega⟩), ht]
  rfl

theorem retrained_facts (s : State) (c n : Nat) :
    (s.retrained c n).regN .MC_CH_TRAIN_CNT c = min 0xFFFFFFFF (s.regN .MC_CH_TRAIN_CNT c + 1) ∧ (s.retrained c n).fld MC_CH_STS_TEMP c = n % 256 ∧
      storeFind (s.retrained c n).memctl.trained c = some (s.tb.run, n) ∧ (s.retrained c n).tb = s.tb ∧
      Touches [.MC_CH_TRAIN_CNT, .MC_CH_STS] { s with memctl := (s.retrained c n).memctl } (s.retrained c n) := by
  have hb := touches_bump (rs := [.MC_CH_TRAIN_CNT, .MC_CH_STS]) s .MC_CH_TRAIN_CNT 1 c (by simp)
  have hf := touches_setFld (rs := [.MC_CH_STS]) (s.bump .MC_CH_TRAIN_CNT 1 c) MC_CH_STS_TEMP n c (by simp)
  exact ⟨(hf.regN (by simp) c).trans (regN_bump_same s .MC_CH_TRAIN_CNT 1 c), fld_setFld_same (s.bump .MC_CH_TRAIN_CNT 1 c) MC_CH_STS_TEMP n c (by simp),
    storeFind_insert_same _ _ _, rfl, rfl, (hb.trans (hf.mono (by simp))).2⟩

/-- What changed after time had passed, changed with the time. -/
theorem touches_later {rs : List Reg} {s u v : State} (hu : u = { s with tb := u.tb }) (hv : Touches rs { u with memctl := v.memctl } v) :
    Touches rs { s with memctl := v.memctl, tb := v.tb } v := by
  obtain ⟨h1, h2⟩ := hv
  refine ⟨?_, fun r i hr => (h2 r i hr).trans ?_⟩
  · rw [h1, hu]
  · show u.reg r i = s.reg r i
    rw [hu]
    rfl

theorem mcPeriodicRetrain_again {c n l x : Nat} {s : State} (hc : c < 16) (hs : s.fld MC_CH_STS_STATE c = 2)
    (ht : storeFind s.memctl.trained c = some (l, x)) :
    Gives (.mcPeriodicRetrain c n) s fun t =>
      t.regN .MC_CH_TRAIN_CNT c = min 0xFFFFFFFF (s.regN .MC_CH_TRAIN_CNT c + 1) ∧ t.fld MC_CH_STS_TEMP c = n % 256 ∧
      storeFind t.memctl.trained c = some (t.tb.run, n) ∧ s.tb.run ≤ t.tb.run ∧
      (8 ≤ max n x - min n x → t.tb = s.tb) ∧
      (max n x - min n x < 8 → l + 1000000 ≤ t.tb.run ∧ (s.memctl.trained.all fun e => e.1 == c || decide (e.2.1 + 1000 ≤ t.tb.run)) = true) ∧
      OnlyRegs [.MC_CH_TRAIN_CNT, .MC_CH_STS] { s with memctl := t.memctl, tb := t.tb } t := by
  refine gives_finish (execMcPeriodicRetrain_again hc hs ht) ?_
  generalize hm : decide (8 ≤ max n x - min n x) = moved
  have hframe := retrainReached_frame s c l moved
  generalize hu : s.retrainReached c l moved = u at hframe
  obtain ⟨hcnt, htemp, htr, htb, hk⟩ := retrained_facts u c n
  generalize u.retrained c n = v at hcnt htemp htr htb hk
  have hreg : u.reg .MC_CH_TRAIN_CNT c = s.reg .MC_CH_TRAIN_CNT c := by rw [hframe]; rfl
  refine ⟨?_, (fld_settle _ _ _ (by simp)).trans htemp, ?_, ?_, fun h8 => ?_, fun h8 => ?_, onlyRegs_of_touches (touches_later hframe hk)⟩
  · rw [regN_settle _ _ _ (by simp), hcnt, regN_congr hreg]
  · rw [settle_memctl, settle_tb, htb, htr]
  · rw [settle_tb, htb, ← hu]
    cases moved
    case true => exact le_rfl
    case false => exact (retrainReached_run s c l).1
  · have h1 : moved = true := hm.symm.trans (decide_eq_true h8)
    rw [settle_tb, htb, ← hu, h1]
    rfl
  · have h0 : moved = false := hm.symm.trans (decide_eq_false (by omega))
    rw [settle_tb, htb, ← hu, h0]
    exact (retrainReached_run s c l).2

/-! ### Page retirement -/

/-- The copy of a page is done (R314): its entry is in force. -/
def State.copyDone (s : State) (i : Nat) : State :=
  let u := (s.setFld MC_RETIRE_TBL_COPYING 0 i).setFld MC_RETIRE_TBL_VALID 1 i
  { u with memctl := { s.memctl with retiring := storeDrop s.memctl.retiring i } }

theorem execPageRetireCopyDone_done {i : Nat} {s : State} (hi : i < 1024) (hc : s.flag MC_RETIRE_TBL_COPYING i = true) :
    execPageRetireCopyDone i s = finish (((s.copyDone i).logRepair 1 (s.fld MC_RETIRE_TBL_PAGE i)).event MC_CH_EVT_RETIRE
      ((storeFind s.memctl.retiring i).getD 0)) := by
  rw [execPageRetireCopyDone, if_neg (not_or.mpr ⟨by omega, by rw [hc]; exact Bool.false_ne_true⟩)]
  rfl

theorem copyDone_facts (s : State) (i : Nat) : (s.copyDone i).flag MC_RETIRE_TBL_COPYING i = false ∧
    (s.copyDone i).flag MC_RETIRE_TBL_VALID i = true ∧ (s.copyDone i).fld MC_RETIRE_TBL_PAGE i = s.fld MC_RETIRE_TBL_PAGE i ∧
    ∀ r j, r ∉ [Reg.MC_RETIRE_TBL] → (s.copyDone i).reg r j = s.reg r j := by
  let u := (s.setFld MC_RETIRE_TBL_COPYING 0 i).setFld MC_RETIRE_TBL_VALID 1 i
  have hk : Touches [.MC_RETIRE_TBL] s u := (touches_setFld s MC_RETIRE_TBL_COPYING 0 i (by simp)).trans (touches_setFld _ MC_RETIRE_TBL_VALID 1 i (by simp))
  refine ⟨show u.flag _ i = _ from ?_, show u.flag _ i = _ from ?_, show u.fld _ i = _ from ?_, hk.2⟩
  · exact (flag_setFld_apart _ _ _ _ _ _ (by simp [Field.apart])).trans (flag_setFld_zero _ _ _ (by simp))
  · exact flag_setFld_one _ _ _ (by simp) (by simp)
  · exact (fld_setFld_apart _ _ _ _ _ _ (by simp [Field.apart])).trans (fld_setFld_apart _ _ _ _ _ _ (by simp [Field.apart]))

/-- The registers of the repair log (R471). -/
def logRegs : List Reg := [.SPR_STS, .SPR_EVT, .IC_PEND, .IC_MERGE_CNT]

theorem touches_logRepair (s : State) (k p : Nat) : Touches logRegs { s with spare := (s.logRepair k p).spare } (s.logRepair k p) := by
  unfold State.logRepair
  split
  · have h := (touches_setFld (rs := logRegs) s SPR_STS_LOG_FULL 1 0 (by simp [logRegs])).trans
      ((touches_event_self (s.setFld SPR_STS_LOG_FULL 1) SPR_EVT_LOG_FULL 0).mono (by simp [sourceOnly, logRegs]))
    rw [h.rest.spare]
    exact h
  · exact touches_setFld _ SPR_STS_LOG_BUSY 1 0 (by simp [logRegs])

theorem pageRetireCopyDone_done {i : Nat} {s : State} (hi : i < 1024) (hc : s.flag MC_RETIRE_TBL_COPYING i = true) :
    Gives (.pageRetireCopyDone i) s fun t =>
      t.flag MC_RETIRE_TBL_COPYING i = false ∧ t.flag MC_RETIRE_TBL_VALID i = true ∧ t.fld MC_RETIRE_TBL_PAGE i = s.fld MC_RETIRE_TBL_PAGE i ∧
      t.flag MC_CH_EVT_RETIRE ((storeFind s.memctl.retiring i).getD 0) = true ∧ storeFind t.memctl.retiring i = none ∧ SameMemory s t ∧
      SameRegs [.MC_RETIRE_TBL, .SPR_STS, .SPR_EVT, .MC_CH_EVT, .IC_PEND, .IC_MERGE_CNT] s t := by
  obtain ⟨h0, h1, hp, hregs⟩ := copyDone_facts s i
  have hl := touches_logRepair (s.copyDone i) 1 (s.fld MC_RETIRE_TBL_PAGE i)
  have he := touches_event_self ((s.copyDone i).logRepair 1 (s.fld MC_RETIRE_TBL_PAGE i)) MC_CH_EVT_RETIRE ((storeFind s.memctl.retiring i).getD 0)
  have hreg : ∀ r j, r ∉ MC_CH_EVT_RETIRE.reg :: (sourceOnly ++ logRegs) → _ = (s.copyDone i).reg r j := fun r j hr =>
    (he.2 r j (notMem_part hr fun _ h => by simp only [List.mem_cons, List.mem_append] at h ⊢; tauto)).trans
      (hl.2 r j (notMem_part hr fun _ h => by simp only [List.mem_cons, List.mem_append]; tauto))
  have htbl := hreg .MC_RETIRE_TBL i (by simp [sourceOnly, logRegs])
  refine gives_finish (execPageRetireCopyDone_done hi hc) ⟨?_, ?_, ?_, ?_, ?_, ?_, sameRegs_settle fun r j hr => ?_⟩
  · rw [flag_settle _ _ _ (by simp), flag_congr htbl, h0]
  · rw [flag_settle _ _ _ (by simp), flag_congr htbl, h1]
  · rw [fld_settle _ _ _ (by simp), fld_congr htbl, hp]
  · rw [flag_settle _ _ _ (by simp)]
    exact flag_event_same _ _ _ (by simp) (by simp) (by simp [sourceOnly])
  · rw [settle_memctl, he.rest.memctl, hl.rest.memctl]
    exact storeFind_drop_same _ _
  · exact sameMemory_of_mems (he.mem.trans hl.mem) (he.hostMem.trans hl.hostMem) (he.spad.trans hl.spad)
  · rw [hreg r j (notMem_part hr (by simp [sourceOnly, logRegs])), hregs r j (notMem_part hr (by simp))]

theorem execPageRetireCopyDone_idle {i : Nat} {s : State} (h : 1024 ≤ i ∨ s.flag MC_RETIRE_TBL_COPYING i = false) :
    execPageRetireCopyDone i s = finish s := by
  rw [execPageRetireCopyDone, if_pos (h.imp_right fun x => by rw [x]; rfl)]

/-! ### The statement -/

/-- Settles O46: requests and the ends of bursts by what the arbiters choose, completions by the errors and the bytes of the burst, then repeats,
retraining and retirement. -/
theorem deviceMemoryIsServed : Obligations.DeviceMemoryIsServed :=
  ⟨fun _ _ h hc hn hw hg hf hm => memoryRequest_granted h hc hn hw hg hf hm,
    fun _ _ h hc hn hw hb => memoryRequest_waits h hc hn hw hb,
    fun _ _ h hc hx => memoryRequest_counted h hc hx,
    fun _ _ h => gives_unchanged (execMemoryRequest_refused h),
    fun _ _ _ _ _ hw hg => arbBurstEnd_drains hw hg,
    fun _ _ _ _ _ _ h0 h8 hf hr => arbBurstEnd_next h0 h8 hf hr,
    fun _ _ _ _ _ _ h0 h8 hf => arbBurstEnd_frozen h0 h8 hf,
    fun _ _ _ _ _ h0 h8 hf hd hc hn => arbBurstEnd_holds h0 h8 hf hd hc hn,
    fun _ _ _ _ ha h0 h8 => arbFreezeWrite_small ha h0 h8,
    fun _ _ _ ha hv => arbFreezeWrite_arb0 ha hv,
    fun _ _ _ _ hf => arbFreezeWrite_refused hf,
    fun _ _ _ _ _ _ h hd hp hc hf he => memoryBurstComplete_write h hd hp hc hf he,
    fun _ _ _ _ h hd hf _ => ⟨memoryBurstComplete_clean h hd hf, memoryBurstComplete_corrected h hd hf, memoryBurstComplete_uncorrectable h hd hf⟩,
    fun _ _ _ _ h => gives_unchanged (congrArg finish (completeBurst_none h)),
    fun _ _ _ _ hs ha hn => mcCrcError_repeats hs ha hn,
    fun _ _ _ _ hs ha hn hl => mcCrcError_retrains hs ha hn hl,
    fun _ _ _ _ h => gives_unchanged (execMcCrcError_idle h),
    fun _ _ _ _ hc hs => mcRefresh_shows hc hs,
    fun _ _ _ _ h => ⟨gives_unchanged (execMcRefresh_idle h), gives_unchanged (execMcPeriodicRetrain_idle h)⟩,
    fun _ _ _ _ _ hc hs ht => mcPeriodicRetrain_again hc hs ht,
    fun _ _ hi hc => pageRetireCopyDone_done hi hc,
    fun _ _ h => gives_unchanged (execPageRetireCopyDone_idle h)⟩

end Sys2Proof.Machine
end

section
/-!
SUPPORT. The laws of the DMA channels: what a write of its rows leaves, a channel's status, its stop with an error, its start and its descriptor
(R327 to R334).
-/
namespace Sys2Proof.Machine

/-! ### Registers that hold numbers -/

theorem regN_putN_wide (s : State) {r : Reg} (hr : (regInfo r).wide = true) (v i : Nat) : (s.putN r v i).regN r i = v % 2 ^ 64 := by
  rw [State.regN, reg_putN, if_pos ⟨rfl, rfl⟩, atWidth, hr, if_pos rfl, BitVec.toNat_ofNat]

theorem regN_putN_narrow (s : State) {r : Reg} (hr : (regInfo r).wide = false) (v i : Nat) : (s.putN r v i).regN r i = v % 2 ^ 32 := by
  rw [State.regN, reg_putN, if_pos ⟨rfl, rfl⟩, atWidth, hr, if_neg Bool.false_ne_true, BitVec.toNat_ofNat]
  omega

theorem reg_putN_wide (s : State) {r : Reg} (hr : (regInfo r).wide = true) (v i : Nat) : (s.putN r v i).reg r i = BitVec.ofNat 64 v := by
  rw [reg_putN, if_pos ⟨rfl, rfl⟩, atWidth, hr, if_pos rfl]

/-- The words of a set that are written in their order, each as its own number. -/
theorem regN_foldl_putN {r : Reg} (hr : (regInfo r).wide = false) (g : Nat → Nat) (b : Nat) (s : State) (k : Nat) :
    ∀ w < k, ((List.range k).foldl (fun t w => t.putN r (g w) (b + w)) s).regN r (b + w) = g w % 2 ^ 32 := by
  induction k with
  | zero => exact fun w h => absurd h (Nat.not_lt_zero w)
  | succ k ih =>
    intro w hw
    rw [List.range_succ, List.foldl_append, List.foldl_cons, List.foldl_nil]
    by_cases hk : w = k
    · rw [hk, regN_putN_narrow _ hr]
    · rw [State.regN, reg_putN, if_neg (by omega), ← State.regN, ih w (by omega)]

theorem leNat_lt (l : List Byte) : leNat l < 256 ^ l.length := by
  induction l with
  | nil => exact Nat.one_pos
  | cons b l ih =>
    have hb : b.toNat < 256 := b.isLt
    rw [leNat, List.length_cons, pow_succ]
    omega

/-! ### What the copy leaves -/

/-- Only registers of a list, the memories, the controller and the outputs differ. -/
def Moves (rs : List Reg) (s t : State) : Prop :=
  t = { s with regs := t.regs, mem := t.mem, hostMem := t.hostMem, spad := t.spad, memctl := t.memctl, sent := t.sent } ∧
    ∀ r i, r ∉ rs → t.reg r i = s.reg r i

theorem Moves.refl (rs : List Reg) (s : State) : Moves rs s s := ⟨rfl, fun _ _ _ => rfl⟩

theorem Moves.trans {rs : List Reg} {s t u : State} (h : Moves rs s t) (k : Moves rs t u) : Moves rs s u := by
  refine ⟨?_, fun r i hr => (k.2 r i hr).trans (h.2 r i hr)⟩
  have h1 := h.1
  have k1 := k.1
  rw [k1, h1]

theorem Moves.mono {rs rs' : List Reg} {s t : State} (h : Moves rs s t) (hs : ∀ r ∈ rs, r ∈ rs') : Moves rs' s t :=
  ⟨h.1, fun r i hr => h.2 r i (notMem_part hr hs)⟩

theorem Touches.moves {rs : List Reg} {s t : State} (h : Touches rs s t) : Moves rs s t := by
  refine ⟨?_, h.2⟩
  have h1 := h.1
  rw [h1]

theorem Moves.cxl {rs : List Reg} {s t : State} (h : Moves rs s t) : t.cxl = s.cxl := by rw [h.1]
theorem Moves.streams {rs : List Reg} {s t : State} (h : Moves rs s t) : t.streams = s.streams := by rw [h.1]

theorem moves_foldl {α : Type} {rs : List Reg} {f : State → α → State} (hf : ∀ t a, Moves rs t (f t a)) (l : List α) (s : State) :
    Moves rs s (l.foldl f s) := by
  induction l generalizing s with
  | nil => exact Moves.refl rs s
  | cons a l ih => exact (hf s a).trans (ih _)

/-- The registers that a copy writes: marks of granules, and accesses to banks that sleep (R314, R349). -/
def copyRegs : List Reg := [.MC_RETIRE_TBL, .SPD_EVT]

theorem moves_cleanGranule (s : State) (g : Nat) : Moves copyRegs s (s.cleanGranule g) := by
  unfold State.cleanGranule State.markGranule
  dsimp only
  split
  · exact Moves.trans (t := { s with memctl := _ }) ⟨rfl, fun _ _ _ => rfl⟩ (touches_setReg _ _ _ _ (by simp [copyRegs])).moves
  · exact ⟨rfl, fun _ _ _ => rfl⟩

theorem moves_store (rs : List Reg) (s : State) (sp : Space) (a : Nat) (bs : List Byte) : Moves rs s (s.store sp a bs) := by
  cases sp <;> exact ⟨rfl, fun _ _ _ => rfl⟩

theorem moves_memStore (s : State) (a : Nat) (bs : List Byte) : Moves copyRegs s (s.memStore a bs) :=
  (moves_store _ s .device a bs).trans (moves_foldl (fun t _ => moves_cleanGranule t _) _ _)

theorem moves_dmaWrite (s : State) (n a : Nat) (bs : List Byte) : Moves copyRegs s (s.dmaWrite n a bs) := by
  unfold State.dmaWrite
  split
  · exact moves_memStore s a bs
  · exact moves_store _ s .host a bs
  · exact ⟨rfl, fun _ _ _ => rfl⟩
  · split
    · exact ⟨rfl, fun _ _ _ => rfl⟩
    · exact ((touches_setFld s SPD_EVT_NOT_OWNER 1 0 (by simp [copyRegs])).trans (touches_setFld _ SPD_EVT_ASLEEP 1 0 (by simp [copyRegs]))).moves

theorem moves_dmaCopy (s : State) (n rows : Nat) (bs : List Byte) : Moves copyRegs s (s.dmaCopy n rows bs) :=
  moves_foldl (fun t r => moves_dmaWrite t n (t.dmaRow n r).2 (t.dmaRead n r (t.dmaRow n r).1 bs)) _ s

/-! ### The descriptor in the active set -/

section
variable {s t : State} (h : ∀ i, t.reg .DMA_ACT i = s.reg .DMA_ACT i) (n : Nat)
include h

theorem dmaWord_congr (w : Nat) : t.dmaWord n w = s.dmaWord n w := congrArg BitVec.toNat (h _)
theorem dmaWide_congr (w : Nat) : t.dmaWide n w = s.dmaWide n w := by simp only [State.dmaWide, dmaWord_congr h]
theorem dmaLen_congr : t.dmaLen n = s.dmaLen n := by simp only [State.dmaLen, dmaWord_congr h]
theorem dmaRows_congr : t.dmaRows n = s.dmaRows n := by simp only [State.dmaRows, dmaWord_congr h]
theorem dmaPlanes_congr : t.dmaPlanes n = s.dmaPlanes n := by simp only [State.dmaPlanes, dmaWord_congr h]
theorem dmaAll_congr : t.dmaAll n = s.dmaAll n := by simp only [State.dmaAll, dmaRows_congr h, dmaPlanes_congr h]
theorem dmaSrcSpace_congr : t.dmaSrcSpace n = s.dmaSrcSpace n := by simp only [State.dmaSrcSpace, dmaWord_congr h]
theorem dmaDstSpace_congr : t.dmaDstSpace n = s.dmaDstSpace n := by simp only [State.dmaDstSpace, dmaWord_congr h]
theorem dmaReserved_congr : t.dmaReserved n = s.dmaReserved n := by simp only [State.dmaReserved, dmaWord_congr h]
theorem dmaExtent_congr (a b c : Nat) : t.dmaExtent n a b c = s.dmaExtent n a b c := by
  simp only [State.dmaExtent, dmaRows_congr h, dmaPlanes_congr h, dmaLen_congr h]
theorem dmaSrc_congr : t.dmaSrc n = s.dmaSrc n := by simp only [State.dmaSrc, dmaExtent_congr h, dmaWide_congr h, dmaWord_congr h]
theorem dmaDst_congr : t.dmaDst n = s.dmaDst n := by simp only [State.dmaDst, dmaExtent_congr h, dmaWide_congr h, dmaWord_congr h]

end

/-- The registers that the checks of a descriptor read (R329, R334). -/
def checkRegs : List Reg := [.DMA_ACT, .MC_CAP, .SPD_BANK_OWN, .RING_DOM_DIR, .RING_CFG]

/-- The checks read the active set, what memory there is, the owners of banks and the domain directory. -/
theorem dmaCheck_congr {s t : State} (h : ∀ r ∈ checkRegs, ∀ i, t.reg r i = s.reg r i) (hc : t.chip = s.chip) (hm : t.mem = s.mem) (n : Nat) :
    t.dmaCheck n = s.dmaCheck n := by
  have hact := h .DMA_ACT (by simp [checkRegs])
  have hbank : ∀ u b, t.bankOwned u b = s.bankOwned u b := fun u b => by
    have hown := h .SPD_BANK_OWN (by simp [checkRegs]) b
    rw [State.bankOwned, fld_congr (f := SPD_BANK_OWN_OWNER) hown, flag_congr (f := SPD_BANK_OWN_PENDING) hown, State.bankOwned]
  have hbeyond : ∀ sp e, t.beyond sp e = s.beyond sp e := fun sp e => by
    rw [State.beyond, regN_congr (h .MC_CAP (by simp [checkRegs]) 0), State.beyond]
  have hforeign : ∀ sp e, t.foreignBank sp e = s.foreignBank sp e := fun sp e => by simp only [State.foreignBank, hbank]
  have hdir : ∀ p, t.dirEntry p = s.dirEntry p := fun p => by
    have hdom := fld_congr (f := RING_CFG_DOMAIN) (h .RING_CFG (by simp [checkRegs]) 0)
    have htab := regN_congr (h .RING_DOM_DIR (by simp [checkRegs]) 0)
    have hload : ∀ a k, t.load .device a k = s.load .device a k := fun a k => by rw [State.load, hm, State.load]
    unfold State.dirEntry
    dsimp only
    rw [hdom, htab, hload, hload]
  have hfuse : ∀ f, t.fuse f = s.fuse f := fun f => by simp only [State.fuse, hc]
  simp only [State.dmaCheck, dmaLen_congr hact, dmaReserved_congr hact, dmaWide_congr hact, dmaWord_congr hact, dmaSrc_congr hact, dmaDst_congr hact,
    dmaSrcSpace_congr hact, dmaDstSpace_congr hact, hbeyond, hforeign, hdir, hfuse]

theorem forall_mem_ite {P : Nat × Nat → Prop} {p : Prop} [Decidable p] {x : Nat × Nat} {o : Option (Nat × Nat)} (hx : P x) (ho : ∀ z ∈ o, P z) :
    ∀ z ∈ (if p then some x else o), P z := by
  split
  · exact fun z hz => Option.some.inj hz ▸ hx
  · exact ho

/-- The codes of the checks are at most 7 (R334). -/
theorem dmaCheck_code_le (s : State) (n : Nat) : ∀ x ∈ s.dmaCheck n, x.1 ≤ 7 := by
  unfold State.dmaCheck
  dsimp only
  iterate 8 refine forall_mem_ite (by simp) ?_
  exact nofun

/-! ### Channel status -/

/-- The count of busy channels is a register of its own. -/
theorem touches_showBusy (s : State) : Touches [.DMA_GLB_STS] s s.showBusy := touches_setFld s DMA_GLB_STS_BUSY _ 0 (by simp)

/-- The registers of a channel that starts or stops (R334, R338). -/
def stopRegs : List Reg := [.DMA_STS, .DMA_ERR_ADDR, .DMA_GLB_STS, .IC_PEND, .IC_MERGE_CNT]

theorem touches_dmaFail (s : State) (n c a : Nat) : Touches stopRegs s (s.dmaFail n c a) := by
  unfold State.dmaFail
  extract_lets s1
  have h1 : Touches stopRegs s s1 :=
    ((touches_setFld s DMA_STS_ERR_CODE c n (by simp [stopRegs])).trans (touches_putN _ .DMA_ERR_ADDR a n (by simp [stopRegs]))).trans
      ((touches_event_self _ DMA_STS_ERR n).mono (by simp [sourceOnly, stopRegs]))
  exact ((h1.trans (touches_setFld s1 DMA_STS_BUSY 0 n (by simp [stopRegs]))).trans (touches_setFld _ DMA_STS_LINKED 0 n (by simp [stopRegs]))).trans
    ((touches_showBusy _).mono (by simp [stopRegs]))

/-- The status of a channel that stops with an error is that of the event, but for BUSY and LINKED. -/
theorem fld_dmaFail (s : State) (n c a m : Nat) {f : Field} (hr : f.reg = .DMA_STS) (hb : DMA_STS_BUSY.apart f) (hl : DMA_STS_LINKED.apart f) :
    (s.dmaFail n c a).fld f m = (((s.setFld DMA_STS_ERR_CODE c n).putN .DMA_ERR_ADDR a n).event DMA_STS_ERR n).fld f m := by
  rw [State.dmaFail, (touches_showBusy _).fld (by simp [hr]) m, fld_setFld_apart _ _ _ _ _ _ hl, fld_setFld_apart _ _ _ _ _ _ hb]

/-- A channel that stops with an error shows its code and its address, and is not busy (R334). -/
theorem dmaFail_facts (s : State) (n : Nat) {c : Nat} (a : Nat) (hc : c < 256) :
    (s.dmaFail n c a).fld DMA_STS_ERR_CODE n = c ∧ (s.dmaFail n c a).reg .DMA_ERR_ADDR n = BitVec.ofNat 64 a ∧
      (s.dmaFail n c a).flag DMA_STS_ERR n = true ∧ (s.dmaFail n c a).flag DMA_STS_BUSY n = false := by
  let s1 := (s.setFld DMA_STS_ERR_CODE c n).putN .DMA_ERR_ADDR a n
  let s2 := (s1.event DMA_STS_ERR n).setFld DMA_STS_BUSY 0 n
  have hk2 : Touches [.DMA_STS, .DMA_GLB_STS, .IC_PEND, .IC_MERGE_CNT] s1 (s.dmaFail n c a) :=
    ((((touches_event_self s1 DMA_STS_ERR n).mono (by simp [sourceOnly])).trans (touches_setFld _ DMA_STS_BUSY 0 n (by simp))).trans
      (touches_setFld s2 DMA_STS_LINKED 0 n (by simp))).trans ((touches_showBusy _).mono (by simp))
  refine ⟨?_, ?_, ?_, ?_⟩
  · rw [fld_dmaFail s n c a n rfl (by simp [Field.apart]) (by simp [Field.apart]), fld_event_apart _ _ _ (by simp [sourceOnly]) (by simp [Field.apart]),
      fld_putN_ne _ _ _ _ _ _ (by simp), fld_setFld_same _ _ _ _ (by simp), Nat.mod_eq_of_lt (by simpa using hc)]
  · rw [hk2.2 _ _ (by simp)]
    exact reg_putN_wide _ rfl a n
  · rw [State.flag, fld_dmaFail s n c a n rfl (by simp [Field.apart]) (by simp [Field.apart])]
    exact flag_event_same s1 DMA_STS_ERR n (by simp) (by simp) (by simp [sourceOnly])
  · show ((s2.setFld DMA_STS_LINKED 0 n).showBusy).flag DMA_STS_BUSY n = false
    rw [(touches_showBusy _).flag (by simp) n, flag_setFld_apart _ _ _ _ _ _ (by simp [Field.apart])]
    exact flag_setFld_zero _ _ _ (by simp)

/-- The status bits beside those of an error stay. -/
theorem flag_dmaFail (s : State) (n c a : Nat) {f : Field} (hr : f.reg = .DMA_STS) (hb : DMA_STS_BUSY.apart f) (hl : DMA_STS_LINKED.apart f)
    (he : DMA_STS_ERR.apart f) (hc : DMA_STS_ERR_CODE.apart f) : (s.dmaFail n c a).flag f n = s.flag f n := by
  rw [State.flag, fld_dmaFail s n c a n hr hb hl, fld_event_apart _ _ _ (by simp [hr, sourceOnly]) he, fld_putN_ne _ _ _ _ _ _ (by simp [hr]),
    fld_setFld_apart _ _ _ _ _ _ hc, State.flag]

theorem reg_setFld_inst (s : State) (f : Field) (x : Nat) {i j : Nat} (h : i ≠ j) (r : Reg) : (s.setFld f x i).reg r j = s.reg r j := by
  rw [reg_setFld, if_neg fun k => h k.2]

theorem reg_event_inst (s : State) (f : Field) {i j : Nat} (h : i ≠ j) {r : Reg} (hr : r ∉ sourceOnly) : (s.event f i).reg r j = s.reg r j :=
  (reg_event s f i j hr).elim id fun he => he.trans (reg_setFld_inst s f 1 h r)

/-- A channel that stops leaves the status of the others. -/
theorem dmaFail_others (s : State) {n m : Nat} (c a : Nat) (h : n ≠ m) : (s.dmaFail n c a).reg .DMA_STS m = s.reg .DMA_STS m := by
  rw [State.dmaFail, (touches_showBusy _).2 _ _ (by simp), reg_setFld_inst _ _ _ h, reg_setFld_inst _ _ _ h, reg_event_inst _ _ h (by simp [sourceOnly]),
    reg_putN, if_neg (by simp), reg_setFld_inst _ _ _ h]

/-! ### Withdrawal -/

/-- Bytes that are counted as moved (R332, R333). -/
theorem regN_dmaDone (s : State) (n k : Nat) : (s.dmaDone n k).regN .DMA_DONE_BYTES n = min (2 ^ 64 - 1) (s.regN .DMA_DONE_BYTES n + k) := by
  rw [State.dmaDone, regN_putN_wide _ rfl, satAdd]
  omega

/-- The rows of a transfer that is withdrawn stand, and its bytes are counted (R333). -/
def State.dmaCut (s : State) (n : Nat) (p : DmaProgress) : State :=
  (((s.dmaCopy n (min p.rows (s.dmaAll n)) p.data).dmaDone n (min p.rows (s.dmaAll n) * s.dmaLen n)).putN .DMA_ORPHAN_BYTES p.orphan n).event
    DMA_STS_ORPHAN n

theorem dmaWithdraw_idle {s : State} {n c : Nat} {a : Option Nat} {p : DmaProgress} (h : s.flag DMA_STS_BUSY n = false) : s.dmaWithdraw n c a p = s := by
  rw [State.dmaWithdraw, h, if_pos (by rfl)]

theorem dmaWithdraw_busy {s : State} {n : Nat} (c : Nat) (a : Option Nat) (p : DmaProgress) (h : s.flag DMA_STS_BUSY n = true) :
    s.dmaWithdraw n c a p = (s.dmaCut n p).dmaFail n c (a.getD (s.dmaRow n (min p.rows (s.dmaAll n))).2) := by
  rw [State.dmaWithdraw, h, if_neg (by simp)]
  rfl

/-- The registers of a transfer that is withdrawn (R333). -/
def cutRegs : List Reg := [.MC_RETIRE_TBL, .SPD_EVT, .DMA_DONE_BYTES, .DMA_ORPHAN_BYTES, .DMA_STS, .IC_PEND, .IC_MERGE_CNT]

/-- What a transfer that is withdrawn has done: its bytes are counted, its status shows orphans, and nothing moved when no row was complete. -/
theorem dmaCut_facts (s : State) (n : Nat) (p : DmaProgress) : Moves cutRegs s (s.dmaCut n p) ∧
    (s.dmaCut n p).regN .DMA_DONE_BYTES n = min (2 ^ 64 - 1) (s.regN .DMA_DONE_BYTES n + min p.rows (s.dmaAll n) * s.dmaLen n) ∧
    (s.dmaCut n p).regN .DMA_ORPHAN_BYTES n = p.orphan % 2 ^ 64 ∧ (s.dmaCut n p).flag DMA_STS_ORPHAN n = true ∧
    (∀ m, n ≠ m → (s.dmaCut n p).reg .DMA_STS m = s.reg .DMA_STS m) ∧ (p.rows = 0 → SameMemory s (s.dmaCut n p)) := by
  unfold State.dmaCut
  have hc := moves_dmaCopy s n (min p.rows (s.dmaAll n)) p.data
  have h0 : p.rows = 0 → s.dmaCopy n (min p.rows (s.dmaAll n)) p.data = s := fun h => by rw [h, Nat.zero_min]; rfl
  generalize s.dmaCopy n (min p.rows (s.dmaAll n)) p.data = u at hc h0 ⊢
  have hcount := regN_dmaDone u n (min p.rows (s.dmaAll n) * s.dmaLen n)
  have hd : Touches [.DMA_DONE_BYTES] u (u.dmaDone n (min p.rows (s.dmaAll n) * s.dmaLen n)) := touches_putN u .DMA_DONE_BYTES _ n (by simp)
  generalize u.dmaDone n (min p.rows (s.dmaAll n) * s.dmaLen n) = v at hd hcount ⊢
  have ho := touches_putN (rs := [.DMA_ORPHAN_BYTES]) v .DMA_ORPHAN_BYTES p.orphan n (by simp)
  have he := touches_event_self (v.putN .DMA_ORPHAN_BYTES p.orphan n) DMA_STS_ORPHAN n
  have hall : Touches [.DMA_DONE_BYTES, .DMA_ORPHAN_BYTES, .DMA_STS, .IC_PEND, .IC_MERGE_CNT] u _ :=
    (hd.mono (by simp)).trans ((ho.mono (by simp)).trans (he.mono (by simp [sourceOnly])))
  refine ⟨(hc.mono (by simp [copyRegs, cutRegs])).trans (hall.moves.mono (by simp [cutRegs])), ?_, ?_,
    flag_event_same _ _ n (by simp) (by simp) (by simp [sourceOnly]), fun m hm => ?_, fun h => ?_⟩
  · rw [he.regN (by simp [sourceOnly]) n, ho.regN (by simp) n, hcount, regN_congr (hc.2 _ _ (by simp [copyRegs]))]
  · rw [he.regN (by simp [sourceOnly]) n, regN_putN_wide _ rfl]
  · rw [reg_event_inst _ _ hm (by simp [sourceOnly]), ho.2 _ _ (by simp), hd.2 _ _ (by simp), hc.2 _ _ (by simp [copyRegs])]
  · have hu := h0 h
    exact sameMemory_of_mems (hall.mem.trans (by rw [hu])) (hall.hostMem.trans (by rw [hu])) (hall.spad.trans (by rw [hu]))

/-- The registers of a transfer that is withdrawn with an error. -/
def withdrawRegs : List Reg := [.DMA_ERR_ADDR, .DMA_GLB_STS] ++ cutRegs

/-- A transfer that is withdrawn with a code (R333, R334). -/
structure Withdrawn (s t : State) (n c : Nat) (p : DmaProgress) : Prop where
  moves : Moves withdrawRegs s t
  code : t.fld DMA_STS_ERR_CODE n = c
  err : t.flag DMA_STS_ERR n = true
  orphan : t.flag DMA_STS_ORPHAN n = true
  idle : t.flag DMA_STS_BUSY n = false
  orphanBytes : t.regN .DMA_ORPHAN_BYTES n = p.orphan % 2 ^ 64
  bytes : t.regN .DMA_DONE_BYTES n = min (2 ^ 64 - 1) (s.regN .DMA_DONE_BYTES n + min p.rows (s.dmaAll n) * s.dmaLen n)
  others : ∀ m, n ≠ m → t.reg .DMA_STS m = s.reg .DMA_STS m
  same : p.rows = 0 → SameMemory s t

theorem SameMemory.trans {s t u : State} (h : SameMemory s t) (k : SameMemory t u) : SameMemory s u :=
  ⟨fun sp a => (k.1 sp a).trans (h.1 sp a), fun a => (k.2 a).trans (h.2 a)⟩

theorem Touches.sameMemory {rs : List Reg} {s t : State} (h : Touches rs s t) : SameMemory s t := sameMemory_of_mems h.mem h.hostMem h.spad

theorem dmaWithdraw_facts {s : State} {n c : Nat} (a : Option Nat) (p : DmaProgress) (hb : s.flag DMA_STS_BUSY n = true) (hc : c < 256) :
    Withdrawn s (s.dmaWithdraw n c a p) n c p ∧
      (s.dmaWithdraw n c a p).reg .DMA_ERR_ADDR n = BitVec.ofNat 64 (a.getD (s.dmaRow n (min p.rows (s.dmaAll n))).2) := by
  rw [dmaWithdraw_busy c a p hb]
  generalize a.getD (s.dmaRow n (min p.rows (s.dmaAll n))).2 = x
  obtain ⟨hm, hbytes, horph, hflag, hoth, hsame⟩ := dmaCut_facts s n p
  generalize s.dmaCut n p = u at hm hbytes horph hflag hoth hsame ⊢
  have hk := touches_dmaFail u n c x
  obtain ⟨hcode, haddr, herr, hidle⟩ := dmaFail_facts u n x hc
  exact ⟨{
    moves := (hm.mono fun _ h => List.mem_append_right _ h).trans (hk.moves.mono (by simp [stopRegs, cutRegs]))
    code := hcode
    err := herr
    orphan := (flag_dmaFail u n c x rfl (by simp [Field.apart]) (by simp [Field.apart]) (by simp [Field.apart]) (by simp [Field.apart])).trans hflag
    idle := hidle
    orphanBytes := (hk.regN (by simp [stopRegs]) n).trans horph
    bytes := (hk.regN (by simp [stopRegs]) n).trans hbytes
    others := fun m h => (dmaFail_others u c x h).trans (hoth m h)
    same := fun h => (hsame h).trans hk.sameMemory }, haddr⟩

/-! ### The start of a descriptor -/

/-- A channel is busy with a descriptor (R329). -/
def State.dmaBusy (s : State) (n : Nat) (linked : Bool) : State := ((s.setFld DMA_STS_BUSY 1 n).setFlag DMA_STS_LINKED linked n).showBusy

theorem dmaBusy_facts (s : State) (n : Nat) (linked : Bool) : Touches [.DMA_STS, .DMA_GLB_STS] s (s.dmaBusy n linked) ∧
    (s.dmaBusy n linked).flag DMA_STS_BUSY n = true ∧ (s.dmaBusy n linked).flag DMA_STS_LINKED n = linked ∧
    ∀ f : Field, f.reg = .DMA_STS → DMA_STS_BUSY.apart f → DMA_STS_LINKED.apart f → (s.dmaBusy n linked).flag f n = s.flag f n := by
  have hs := touches_showBusy ((s.setFld DMA_STS_BUSY 1 n).setFlag DMA_STS_LINKED linked n)
  refine ⟨((touches_setFld s DMA_STS_BUSY 1 n (by simp)).trans (touches_setFlag _ DMA_STS_LINKED linked n (by simp))).trans (hs.mono (by simp)), ?_, ?_,
    fun f hr hb hl => ?_⟩
  · rw [State.dmaBusy, hs.flag (by simp) n, State.setFlag, flag_setFld_apart _ _ _ _ _ _ (by simp [Field.apart]), flag_setFld_one _ _ _ (by simp) (by simp)]
  · rw [State.dmaBusy, hs.flag (by simp) n, flag_setFlag_same _ _ _ _ (by simp) (by simp)]
  · rw [State.dmaBusy, hs.flag (by simp [hr]) n, State.setFlag, flag_setFld_apart _ _ _ _ _ _ hl, flag_setFld_apart _ _ _ _ _ _ hb]

theorem dmaStart_eq (s : State) (n : Nat) (linked : Bool) :
    s.dmaStart n linked = match (s.dmaBusy n linked).dmaCheck n with
      | some (c, a) => (s.dmaBusy n linked).dmaFail n c a
      | none => s.dmaBusy n linked := rfl

/-- A descriptor that starts runs when it passes the checks, and else stops with what the checks find (R329, R334). -/
structure Started (s t : State) (n : Nat) (linked : Bool) : Prop where
  touches : Touches stopRegs s t
  check : t.dmaCheck n = s.dmaCheck n
  runs : s.dmaCheck n = none → t.flag DMA_STS_BUSY n = true ∧ t.flag DMA_STS_LINKED n = linked
  stops : ∀ x ∈ s.dmaCheck n, t.flag DMA_STS_BUSY n = false ∧ t.fld DMA_STS_ERR_CODE n = x.1 ∧ t.reg .DMA_ERR_ADDR n = BitVec.ofNat 64 x.2 ∧
    t.flag DMA_STS_ERR n = true
  keeps : ∀ f : Field, f.reg = .DMA_STS → DMA_STS_BUSY.apart f → DMA_STS_LINKED.apart f → DMA_STS_ERR.apart f → DMA_STS_ERR_CODE.apart f →
    t.flag f n = s.flag f n

theorem Touches.dmaCheck {rs : List Reg} {s t : State} (h : Touches rs s t) (hr : ∀ r ∈ checkRegs, r ∉ rs) (n : Nat) : t.dmaCheck n = s.dmaCheck n :=
  dmaCheck_congr (fun r hc i => h.2 r i (hr r hc)) h.rest.chip h.mem n

theorem dmaStart_starts (s : State) (n : Nat) (linked : Bool) : Started s (s.dmaStart n linked) n linked := by
  obtain ⟨hk, hbusy, hlink, hkeep⟩ := dmaBusy_facts s n linked
  rw [dmaStart_eq]
  generalize s.dmaBusy n linked = u at hk hbusy hlink hkeep ⊢
  have hcheck : u.dmaCheck n = s.dmaCheck n := hk.dmaCheck (by simp [checkRegs]) n
  have hk' : Touches stopRegs s u := hk.mono (by simp [stopRegs])
  split
  next c a hc =>
    obtain ⟨hcode, haddr, herr, hidle⟩ := dmaFail_facts u n a (show c < 256 by have := dmaCheck_code_le u n (c, a) hc; omega)
    have hf := touches_dmaFail u n c a
    rw [hcheck] at hc
    exact {
      touches := hk'.trans hf
      check := (hf.dmaCheck (by simp [checkRegs, stopRegs]) n).trans hcheck
      runs := fun h0 => by rw [hc] at h0; cases h0
      stops := fun x hx => by
        obtain rfl := Option.some.inj (hc.symm.trans hx)
        exact ⟨hidle, hcode, haddr, herr⟩
      keeps := fun f hr hb hl he hco => (flag_dmaFail u n c a hr hb hl he hco).trans (hkeep f hr hb hl) }
  next hc =>
    rw [hcheck] at hc
    exact {
      touches := hk'
      check := hcheck
      runs := fun _ => ⟨hbusy, hlink⟩
      stops := fun x hx => by rw [hc] at hx; cases hx
      keeps := fun f hr hb hl _ _ => hkeep f hr hb hl }

end Sys2Proof.Machine
end

section
/-!
PROOFS. DMA channels: who commands them, hand-overs, descriptors that complete and transfers that stop (R327 to R334, R338, R368).
-/
namespace Sys2Proof.Machine

/-! ### Who commands a channel -/

/-- The write of an agent that owns a channel is made (R327, R388). -/
theorem byAgent_owner {s : State} {a : Agent} {n : Nat} (h : s.ownsDma a n = true) (g : State → State) :
    s.byAgent a .DMA_CH_CTL n (fun _ t => if t.ownsDma a n then g t else t) = g s := by
  cases a with
  | func f => exact if_pos h
  | cpx k =>
    have hm : s.cpxMay k .DMA_CH_CTL n = true := by
      simp only [State.ownsDma, Bool.and_eq_true] at h
      exact h.2
    simp only [State.byAgent]
    rw [if_pos hm, if_pos h]

theorem byAgent_stranger {s : State} {f n : Nat} (h : s.ownsDma (.func f) n = false) (g : State → State) :
    s.byAgent (.func f) .DMA_CH_CTL n (fun _ t => if t.ownsDma (.func f) n then g t else t) = s := by
  rw [byAgent_func, h, if_neg Bool.false_ne_true]

section
variable {a : Agent} {n : Nat} {s : State} (h : s.ownsDma a n = true)
include h

theorem dmaArm_owner :
    Gives (.dmaArm a n) s fun t => t.flag DMA_CH_CTL_ARM n = true ∧ t.flag DMA_CH_CTL_EN n = s.flag DMA_CH_CTL_EN n ∧ OnlyRegs [.DMA_CH_CTL] s t :=
  gives_finish (show execDmaArm a n s = finish _ from congrArg finish (byAgent_owner h _))
    ⟨(flag_settle _ _ _ (by simp)).trans (flag_setFld_one _ _ _ (by simp) (by simp)),
      (flag_settle _ _ _ (by simp)).trans (flag_setFld_apart _ _ _ _ _ _ (by simp [Field.apart])),
      onlyRegs_of_touches (touches_setFld s DMA_CH_CTL_ARM 1 n (by simp))⟩

theorem dmaDisarm_owner :
    Gives (.dmaDisarm a n) s fun t => t.flag DMA_CH_CTL_ARM n = false ∧ t.flag DMA_CH_CTL_EN n = s.flag DMA_CH_CTL_EN n ∧ OnlyRegs [.DMA_CH_CTL] s t :=
  gives_finish (show execDmaDisarm a n s = finish _ from congrArg finish (byAgent_owner h _))
    ⟨(flag_settle _ _ _ (by simp)).trans (flag_setFld_zero _ _ _ (by simp)),
      (flag_settle _ _ _ (by simp)).trans (flag_setFld_apart _ _ _ _ _ _ (by simp [Field.apart])),
      onlyRegs_of_touches (touches_setFld s DMA_CH_CTL_ARM 0 n (by simp))⟩

theorem execDmaEnWrite_owner (b : Bool) (p : DmaProgress) : execDmaEnWrite a n b p s = finish (s.dmaEnable n b p) :=
  congrArg finish (byAgent_owner h fun t => t.dmaEnable n b p)

/-- A write of EN that stops no transfer (R333). -/
theorem dmaEnWrite_sets {b : Bool} {p : DmaProgress} (hb : b = true ∨ s.flag DMA_STS_BUSY n = false) :
    Gives (.dmaEnWrite a n b p) s fun t => t.flag DMA_CH_CTL_EN n = b ∧ OnlyRegs [.DMA_CH_CTL] s t := by
  have hk := touches_setFlag (rs := [.DMA_CH_CTL]) s DMA_CH_CTL_EN b n (by simp)
  have he : s.dmaEnable n b p = s.setFlag DMA_CH_CTL_EN b n := by
    cases b
    case true => rfl
    case false => exact dmaWithdraw_idle ((hk.flag (by simp) n).trans (hb.resolve_left Bool.false_ne_true))
  refine gives_finish (execDmaEnWrite_owner h b p) ?_
  rw [he]
  exact ⟨(flag_settle _ _ _ (by simp)).trans (flag_setFlag_same _ _ _ _ (by simp) (by simp)), onlyRegs_of_touches hk⟩

/-- Clearing EN withdraws a transfer that runs (R333). -/
theorem dmaEnWrite_withdraws {p : DmaProgress} (hb : s.flag DMA_STS_BUSY n = true) :
    Gives (.dmaEnWrite a n false p) s fun t =>
      t.flag DMA_CH_CTL_EN n = false ∧ t.flag DMA_STS_BUSY n = false ∧ t.fld DMA_STS_ERR_CODE n = 8 ∧ t.flag DMA_STS_ERR n = true ∧
      t.flag DMA_STS_ORPHAN n = true ∧
      t.regN .DMA_DONE_BYTES n = min (2 ^ 64 - 1) (s.regN .DMA_DONE_BYTES n + min p.rows (s.dmaAll n) * s.dmaLen n) ∧
      (p.rows = 0 → SameMemory s t) := by
  have hk := touches_setFlag (rs := [.DMA_CH_CTL]) s DMA_CH_CTL_EN false n (by simp)
  have hen : (s.setFlag DMA_CH_CTL_EN false n).flag DMA_CH_CTL_EN n = false := flag_setFlag_same _ _ _ _ (by simp) (by simp)
  refine gives_finish (execDmaEnWrite_owner h false p) ?_
  rw [show s.dmaEnable n false p = (s.setFlag DMA_CH_CTL_EN false n).dmaWithdraw n 8 none p from rfl]
  generalize s.setFlag DMA_CH_CTL_EN false n = u at hk hen ⊢
  obtain ⟨hw, -⟩ := dmaWithdraw_facts (c := 8) none p ((hk.flag (by simp) n).trans hb) (by omega)
  generalize u.dmaWithdraw n 8 none p = v at hw ⊢
  have hact : ∀ i, u.reg .DMA_ACT i = s.reg .DMA_ACT i := fun i => hk.2 _ i (by simp)
  refine ⟨?_, (flag_settle _ _ _ (by simp)).trans hw.idle, (fld_settle _ _ _ (by simp)).trans hw.code, (flag_settle _ _ _ (by simp)).trans hw.err,
    (flag_settle _ _ _ (by simp)).trans hw.orphan, ?_, fun h0 => hk.sameMemory.trans (hw.same h0)⟩
  · rw [flag_settle _ _ _ (by simp), flag_congr (hw.moves.2 _ _ (by simp [withdrawRegs, cutRegs])), hen]
  · rw [regN_settle _ _ _ (by simp), hw.bytes, regN_congr (hk.2 _ _ (by simp)), dmaAll_congr hact, dmaLen_congr hact]

end

theorem dma_strangers {f n : Nat} {b : Bool} {p : DmaProgress} {s : State} (h : s.ownsDma (.func f) n = false) :
    Gives (.dmaArm (.func f) n) s (fun t => Unchanged s t) ∧ Gives (.dmaDisarm (.func f) n) s (fun t => Unchanged s t) ∧
      Gives (.dmaEnWrite (.func f) n b p) s fun t => Unchanged s t :=
  ⟨gives_unchanged (congrArg finish (byAgent_stranger h fun t => t.setFld DMA_CH_CTL_ARM 1 n)),
    gives_unchanged (congrArg finish (byAgent_stranger h fun t => t.setFld DMA_CH_CTL_ARM 0 n)),
    gives_unchanged (congrArg finish (byAgent_stranger h fun t => t.dmaEnable n b p))⟩

/-! ### Hand-over -/

/-- The shadow set is the active set (R330). -/
def State.dmaLoaded (s : State) (n : Nat) : State :=
  (List.range 16).foldl (fun t w => t.putN .DMA_ACT (s.regN .DMA_SH (n * 16 + w)) (n * 16 + w)) s

/-- A channel whose sets are handed over, before its descriptor starts (R330). -/
def State.dmaHanded (s : State) (n : Nat) (arm late : Bool) : State := (s.setFlag DMA_CH_CTL_ARM arm n).eventIf late DMA_STS_SHADOW_LATE n

theorem dmaLoaded_facts (s : State) (n : Nat) : Touches [.DMA_ACT] s (s.dmaLoaded n) ∧
    ∀ w < 16, (s.dmaLoaded n).regN .DMA_ACT (n * 16 + w) = s.regN .DMA_SH (n * 16 + w) % 2 ^ 32 :=
  ⟨touches_foldl (fun t w => touches_putN t .DMA_ACT _ (n * 16 + w) (by simp)) _ s, regN_foldl_putN rfl _ _ s 16⟩

theorem dmaHanded_facts (s : State) (n : Nat) (arm late : Bool) : Touches [.DMA_CH_CTL, .DMA_STS, .IC_PEND, .IC_MERGE_CNT] s (s.dmaHanded n arm late) ∧
    (s.dmaHanded n arm late).flag DMA_CH_CTL_ARM n = arm ∧ (late = true → (s.dmaHanded n arm late).flag DMA_STS_SHADOW_LATE n = true) := by
  have he := touches_eventIf (s.setFlag DMA_CH_CTL_ARM arm n) late DMA_STS_SHADOW_LATE n
  refine ⟨(touches_setFlag s DMA_CH_CTL_ARM arm n (by simp)).trans (he.mono (by simp [sourceOnly])),
    (he.flag (by simp [sourceOnly]) n).trans (flag_setFlag_same _ _ _ _ (by simp) (by simp)), fun h => ?_⟩
  rw [State.dmaHanded, h]
  exact flag_event_same _ _ n (by simp) (by simp) (by simp [sourceOnly])

theorem execDmaHandover_idle {n : Nat} {l : List (Nat × BitVec 32)} {b : Bool} {s : State}
    (h : 64 ≤ n ∨ s.flag DMA_CH_CTL_EN n = false ∨ s.flag DMA_CH_CTL_ARM n = false ∨ s.flag DMA_STS_BUSY n = true) :
    execDmaHandover n l b s = finish s := by
  rw [execDmaHandover, if_pos]
  rcases h with h | h | h | h
  · exact .inl h
  · exact .inr (.inl (by rw [h]; rfl))
  · exact .inr (.inr (.inl (by rw [h]; rfl)))
  · exact .inr (.inr (.inr h))

section
variable {n : Nat} {s : State} (hn : n < 64) (hen : s.flag DMA_CH_CTL_EN n = true) (harm : s.flag DMA_CH_CTL_ARM n = true)
  (hb : s.flag DMA_STS_BUSY n = false)
include hn hen harm hb

theorem execDmaHandover_hands (l : List (Nat × BitVec 32)) (b : Bool) :
    execDmaHandover n l b s = finish (((l.foldl (fun t e => if e.1 < 16 then t.putN .DMA_SH e.2.toNat (n * 16 + e.1) else t) (s.dmaLoaded n)).dmaHanded n b
      (b || !l.isEmpty)).dmaStart n false) := by
  rw [execDmaHandover, if_neg]
  · rfl
  · rw [hen, harm, hb]
    simp [hn]

/-- The shadow set is handed over, ARM clears, and the descriptor starts or stops (R329, R330). -/
theorem dmaHandover_starts :
    Gives (.dmaHandover n [] false) s fun t =>
      (∀ w : Nat, w < 16 → t.regN .DMA_ACT (n * 16 + w) = s.regN .DMA_SH (n * 16 + w) % 2 ^ 32) ∧ t.flag DMA_CH_CTL_ARM n = false ∧
      (t.dmaCheck n = none → t.flag DMA_STS_BUSY n = true ∧ t.flag DMA_STS_LINKED n = false) ∧
      (∀ x ∈ (t.dmaCheck n).toList, t.flag DMA_STS_BUSY n = false ∧ t.fld DMA_STS_ERR_CODE n = x.1 ∧ t.reg .DMA_ERR_ADDR n = BitVec.ofNat 64 x.2 ∧
        t.flag DMA_STS_ERR n = true) ∧
      OnlyRegs [.DMA_ACT, .DMA_CH_CTL, .DMA_STS, .DMA_GLB_STS, .DMA_ERR_ADDR, .IC_PEND, .IC_MERGE_CNT] s t := by
  refine gives_finish (execDmaHandover_hands hn hen harm hb [] false) ?_
  rw [List.foldl_nil]
  obtain ⟨hl, hact⟩ := dmaLoaded_facts s n
  generalize s.dmaLoaded n = u at hl hact ⊢
  obtain ⟨hh, hclear, -⟩ := dmaHanded_facts u n false (false || !(List.isEmpty ([] : List (Nat × BitVec 32))))
  generalize u.dmaHanded n false _ = v at hh hclear ⊢
  have hs := dmaStart_starts v n false
  generalize v.dmaStart n false = x at hs ⊢
  have hcheck : (settle x).dmaCheck n = v.dmaCheck n :=
    (dmaCheck_congr (fun r hr i => reg_settle x r i (by rintro rfl; simp [checkRegs] at hr)) rfl rfl n).trans hs.check
  refine ⟨fun w hw => ?_, ?_, fun h0 => ?_, fun y hy => ?_, onlyRegs_of_touches ((hl.mono (by simp)).trans ((hh.mono (by simp)).trans
    (hs.touches.mono (by simp [stopRegs]))))⟩
  · rw [regN_settle _ _ _ (by simp), hs.touches.regN (by simp [stopRegs]) _, hh.regN (by simp) _, hact w hw]
  · rw [flag_settle _ _ _ (by simp), hs.touches.flag (by simp [stopRegs]) _, hclear]
  · rw [hcheck] at h0
    exact ⟨(flag_settle _ _ _ (by simp)).trans (hs.runs h0).1, (flag_settle _ _ _ (by simp)).trans (hs.runs h0).2⟩
  · rw [hcheck] at hy
    obtain ⟨hidle, hcode, haddr, herr⟩ := hs.stops y (Option.mem_toList.mp hy)
    exact ⟨(flag_settle _ _ _ (by simp)).trans hidle, (fld_settle _ _ _ (by simp)).trans hcode, (reg_settle _ _ _ (by simp)).trans haddr,
      (flag_settle _ _ _ (by simp)).trans herr⟩

/-- A write of the same cycle as the hand-over is for the next one (R330). -/
theorem dmaHandover_late {w : Nat} {v : Word} {b : Bool} (hw : w < 16) :
    Gives (.dmaHandover n [(w, v)] b) s fun t =>
      t.regN .DMA_SH (n * 16 + w) = v.toNat ∧ (∀ k : Nat, k < 16 → t.regN .DMA_ACT (n * 16 + k) = s.regN .DMA_SH (n * 16 + k) % 2 ^ 32) ∧
      t.flag DMA_CH_CTL_ARM n = b ∧ t.flag DMA_STS_SHADOW_LATE n = true ∧ SameMemory s t := by
  refine gives_finish (execDmaHandover_hands hn hen harm hb [(w, v)] b) ?_
  rw [List.foldl_cons, List.foldl_nil, if_pos hw]
  obtain ⟨hl, hact⟩ := dmaLoaded_facts s n
  generalize s.dmaLoaded n = u at hl hact ⊢
  have hp : Touches [.DMA_SH] u (u.putN .DMA_SH v.toNat (n * 16 + w)) := touches_putN u .DMA_SH _ _ (by simp)
  have hv : (u.putN .DMA_SH v.toNat (n * 16 + w)).regN .DMA_SH (n * 16 + w) = v.toNat := regN_putN_same u _ _ _ v.isLt
  generalize u.putN .DMA_SH v.toNat (n * 16 + w) = u' at hp hv ⊢
  obtain ⟨hh, harmed, hlate⟩ := dmaHanded_facts u' n b (b || !(List.isEmpty [(w, v)]))
  replace hlate := hlate (Bool.or_true b)
  generalize u'.dmaHanded n b _ = x at hh harmed hlate ⊢
  have hs := dmaStart_starts x n false
  generalize x.dmaStart n false = y at hs ⊢
  refine ⟨?_, fun k hk => ?_, ?_, ?_, ((hl.sameMemory.trans hp.sameMemory).trans hh.sameMemory).trans hs.touches.sameMemory⟩
  · rw [regN_settle _ _ _ (by simp), hs.touches.regN (by simp [stopRegs]) _, hh.regN (by simp) _, hv]
  · rw [regN_settle _ _ _ (by simp), hs.touches.regN (by simp [stopRegs]) _, hh.regN (by simp) _, hp.regN (by simp) _, hact k hk]
  · rw [flag_settle _ _ _ (by simp), hs.touches.flag (by simp [stopRegs]) _, harmed]
  · rw [flag_settle _ _ _ (by simp), hs.keeps _ rfl (by simp [Field.apart]) (by simp [Field.apart]) (by simp [Field.apart]) (by simp [Field.apart]), hlate]

end

/-! ### A descriptor that completes -/

/-- A descriptor that has moved all its rows: its bytes are counted, and DONE sets (R332). -/
def State.dmaCompleted (s : State) (n : Nat) (bs : List Byte) : State :=
  ((s.dmaCopy n (s.dmaAll n) bs).dmaDone n (s.dmaAll n * s.dmaLen n)).dmaDoneEvent n (s.dmaFlag n 21)

/-- The registers that completion writes beside those of the copy. -/
def doneRegs : List Reg := [.DMA_DONE_BYTES, .DMA_STS, .IC_PEND, .IC_MERGE_CNT]

theorem dmaDoneEvent_facts (s : State) (n : Nat) (irq : Bool) : Touches (.DMA_STS :: sourceOnly) s (s.dmaDoneEvent n irq) ∧
    (s.dmaDoneEvent n irq).flag DMA_STS_DONE n = true := by
  cases irq
  case false => exact ⟨touches_setFld s DMA_STS_DONE 1 n (by simp), flag_setFld_one s DMA_STS_DONE n (by simp) (by simp)⟩
  case true => exact ⟨touches_event_self s DMA_STS_DONE n, flag_event_same s DMA_STS_DONE n (by simp) (by simp) (by simp [sourceOnly])⟩

theorem dmaCompleted_facts (s : State) (n : Nat) (bs : List Byte) :
    Touches doneRegs (s.dmaCopy n (s.dmaAll n) bs) (s.dmaCompleted n bs) ∧
      (s.dmaCompleted n bs).regN .DMA_DONE_BYTES n = min (2 ^ 64 - 1) (s.regN .DMA_DONE_BYTES n + s.dmaAll n * s.dmaLen n) ∧
      (s.dmaCompleted n bs).flag DMA_STS_DONE n = true := by
  unfold State.dmaCompleted
  have hc := moves_dmaCopy s n (s.dmaAll n) bs
  generalize s.dmaCopy n (s.dmaAll n) bs = u at hc ⊢
  have hcount := regN_dmaDone u n (s.dmaAll n * s.dmaLen n)
  have hd : Touches [.DMA_DONE_BYTES] u (u.dmaDone n (s.dmaAll n * s.dmaLen n)) := touches_putN u .DMA_DONE_BYTES _ n (by simp)
  generalize u.dmaDone n (s.dmaAll n * s.dmaLen n) = v at hd hcount ⊢
  obtain ⟨he, hdone⟩ := dmaDoneEvent_facts v n (s.dmaFlag n 21)
  refine ⟨(hd.mono (by simp [doneRegs])).trans (he.mono (by simp [sourceOnly, doneRegs])), ?_, hdone⟩
  rw [he.regN (by simp [sourceOnly]) n, hcount, regN_congr (hc.2 _ _ (by simp [copyRegs]))]

theorem execDmaDescriptorComplete_idle {n : Nat} {bs : List (BitVec 8)} {s : State} (h : 64 ≤ n ∨ s.flag DMA_STS_BUSY n = false) :
    execDmaDescriptorComplete n bs s = finish s := by
  rw [execDmaDescriptorComplete, if_pos (h.imp_right fun x => by rw [x]; rfl)]

section
variable {n : Nat} {bs : List (BitVec 8)} {s : State} (hn : n < 64) (hb : s.flag DMA_STS_BUSY n = true)
include hn hb

theorem execDmaDescriptorComplete_linkDown (hx : s.dmaOverCxl n = true) (hl : s.cxl.linkUp = false) :
    execDmaDescriptorComplete n bs s = finish (s.dmaWithdraw n 5 none {}) := by
  rw [execDmaDescriptorComplete, if_neg (by rw [hb]; simp [hn]), if_pos ⟨hx, by rw [hl]; rfl⟩]

theorem execDmaDescriptorComplete_poison {r : Nat} (hx : s.dmaOverCxl n = false ∨ s.cxl.linkUp = true) (hp : s.poisonRow n = some r) :
    execDmaDescriptorComplete n bs s = finish (s.dmaWithdraw n 4 (some (s.dmaRow n r).1) { rows := r, data := bs }) := by
  rw [execDmaDescriptorComplete, if_neg (by rw [hb]; simp [hn]), if_neg (by rcases hx with h | h <;> rw [h] <;> simp), hp]

theorem execDmaDescriptorComplete_last (hx : s.dmaOverCxl n = false ∨ s.cxl.linkUp = true) (hp : s.poisonRow n = none) (hf : s.dmaFlag n 22 = false) :
    execDmaDescriptorComplete n bs s = finish ((((s.dmaCompleted n bs).setFld DMA_STS_BUSY 0 n).setFld DMA_STS_LINKED 0 n).showBusy) := by
  rw [execDmaDescriptorComplete, if_neg (by rw [hb]; simp [hn]), if_neg (by rcases hx with h | h <;> rw [h] <;> simp), hp]
  dsimp only
  rw [hf, if_neg Bool.false_ne_true]
  rfl

theorem execDmaDescriptorComplete_linked (hx : s.dmaOverCxl n = false ∨ s.cxl.linkUp = true) (hp : s.poisonRow n = none) (hf : s.dmaFlag n 22 = true) :
    execDmaDescriptorComplete n bs s = finish ((s.dmaCompleted n bs).dmaLink n) := by
  rw [execDmaDescriptorComplete, if_neg (by rw [hb]; simp [hn]), if_neg (by rcases hx with h | h <;> rw [h] <;> simp), hp]
  dsimp only
  rw [hf, if_pos rfl]
  rfl

end

/-- A descriptor of one row within device memory copies it (R329). -/
theorem dmaCopy_oneRow {s : State} {n : Nat} (bs : List (BitVec 8)) (hsrc : s.dmaSrcSpace n = 0) (hdst : s.dmaDstSpace n = 0) :
    s.dmaCopy n 1 bs = s.memStore (s.dmaRow n 0).2 (s.load .device (s.dmaRow n 0).1 (s.dmaLen n)) := by
  have hread : s.dmaRead n 0 (s.dmaRow n 0).1 bs = s.load .device (s.dmaRow n 0).1 (s.dmaLen n) := by
    rw [State.dmaRead, hsrc]
    rfl
  show s.dmaWrite n (s.dmaRow n 0).2 (s.dmaRead n 0 (s.dmaRow n 0).1 bs) = _
  rw [hread, State.dmaWrite, hdst]
  rfl

section
variable {n : Nat} {bs : List (BitVec 8)} {s : State} (hn : n < 64) (hb : s.flag DMA_STS_BUSY n = true)
include hn hb

theorem dmaDescriptorComplete_copies (hsrc : s.dmaSrcSpace n = 0) (hdst : s.dmaDstSpace n = 0) (hall : s.dmaAll n = 1) (hp : s.poisonRow n = none)
    (hf : s.dmaFlag n 22 = false) :
    Gives (.dmaDescriptorComplete n bs) s fun t =>
      t.load .device (s.dmaRow n 0).2 (s.dmaLen n) = s.load .device (s.dmaRow n 0).1 (s.dmaLen n) ∧
      OnlyBytes .device (s.dmaRow n 0).2 (s.dmaLen n) s t ∧
      t.regN .DMA_DONE_BYTES n = min (2 ^ 64 - 1) (s.regN .DMA_DONE_BYTES n + s.dmaLen n) ∧ t.flag DMA_STS_DONE n = true ∧
      t.flag DMA_STS_BUSY n = false ∧
      SameRegs [.DMA_STS, .DMA_DONE_BYTES, .DMA_GLB_STS, .MC_RETIRE_TBL, .IC_PEND, .IC_MERGE_CNT] s t := by
  have hover : s.dmaOverCxl n = false := by rw [State.dmaOverCxl, hsrc, hdst, hb]; rfl
  refine gives_finish (execDmaDescriptorComplete_last hn hb (.inl hover) hp hf) ?_
  obtain ⟨hk, hbytes, hdone⟩ := dmaCompleted_facts s n bs
  rw [hall, dmaCopy_oneRow bs hsrc hdst] at hk
  rw [hall, Nat.one_mul] at hbytes
  generalize s.dmaCompleted n bs = u at hk hbytes hdone ⊢
  obtain ⟨hload, hb8⟩ := memStore_bytes s (s.dmaRow n 0).2
    (show (s.load .device (s.dmaRow n 0).1 (s.dmaLen n)).length = s.dmaLen n from length_memReadList _ _ _)
  have hm := reg_memStore s (s.dmaRow n 0).2 (s.load .device (s.dmaRow n 0).1 (s.dmaLen n))
  generalize s.memStore (s.dmaRow n 0).2 (s.load .device (s.dmaRow n 0).1 (s.dmaLen n)) = m at hk hload hb8 hm
  have h0 := touches_setFld (rs := [.DMA_STS]) u DMA_STS_BUSY 0 n (by simp)
  have hz := touches_setFld (rs := [.DMA_STS]) (u.setFld DMA_STS_BUSY 0 n) DMA_STS_LINKED 0 n (by simp)
  have hs := touches_showBusy ((u.setFld DMA_STS_BUSY 0 n).setFld DMA_STS_LINKED 0 n)
  have hend : Touches [.DMA_STS, .DMA_GLB_STS] u _ := ((h0.mono (by simp)).trans (hz.mono (by simp))).trans (hs.mono (by simp))
  have hidle : (((u.setFld DMA_STS_BUSY 0 n).setFld DMA_STS_LINKED 0 n).showBusy).flag DMA_STS_BUSY n = false := by
    rw [hs.flag (by simp) n, flag_setFld_apart _ _ _ _ _ _ (by simp [Field.apart])]
    exact flag_setFld_zero _ _ _ (by simp)
  have hdone' : (((u.setFld DMA_STS_BUSY 0 n).setFld DMA_STS_LINKED 0 n).showBusy).flag DMA_STS_DONE n = true := by
    rw [hs.flag (by simp) n, flag_setFld_apart _ _ _ _ _ _ (by simp [Field.apart]), flag_setFld_apart _ _ _ _ _ _ (by simp [Field.apart]), hdone]
  generalize ((u.setFld DMA_STS_BUSY 0 n).setFld DMA_STS_LINKED 0 n).showBusy = x at hend hidle hdone' ⊢
  have hmem : x.mem = m.mem := hend.mem.trans hk.mem
  have hhost : x.hostMem = m.hostMem := hend.hostMem.trans hk.hostMem
  refine ⟨(load_congr hmem hhost _ _ _).trans hload, onlyBytes_of_mems hb8 hmem hhost (hend.spad.trans hk.spad), ?_,
    (flag_settle _ _ _ (by simp)).trans hdone', (flag_settle _ _ _ (by simp)).trans hidle, sameRegs_settle fun r i hr => ?_⟩
  · rw [regN_settle _ _ _ (by simp), hend.regN (by simp) n, hbytes]
  · rw [hend.2 r i (notMem_part hr (by simp)), hk.2 r i (notMem_part hr (by simp [doneRegs])), hm r i (notMem_part hr (by simp))]

/-- The link state of a chain: the words of the next descriptor, and whether it runs (R332). -/
theorem dmaDescriptorComplete_links (hl : s.cxl.linkUp = true) (hp : s.poisonRow n = none) (hf : s.dmaFlag n 22 = true) :
    Gives (.dmaDescriptorComplete n bs) s fun t =>
      t.regN .DMA_DONE_BYTES n = min (2 ^ 64 - 1) (s.regN .DMA_DONE_BYTES n + s.dmaAll n * s.dmaLen n) ∧ t.flag DMA_STS_DONE n = true ∧
      (∀ w : Nat, w < 16 → t.regN .DMA_ACT (n * 16 + w) = leNat (t.load .device (s.dmaWide n 10 + 4 * w) 4)) ∧
      (t.dmaCheck n = none → t.flag DMA_STS_BUSY n = true ∧ t.flag DMA_STS_LINKED n = true) := by
  refine gives_finish (execDmaDescriptorComplete_linked hn hb (.inr hl) hp hf) ?_
  obtain ⟨hk, hbytes, hdone⟩ := dmaCompleted_facts s n bs
  have hc := moves_dmaCopy s n (s.dmaAll n) bs
  have hact : ∀ i, (s.dmaCompleted n bs).reg .DMA_ACT i = s.reg .DMA_ACT i := fun i =>
    (hk.2 _ i (by simp [doneRegs])).trans (hc.2 _ i (by simp [copyRegs]))
  have ha : (s.dmaCompleted n bs).dmaWide n 10 = s.dmaWide n 10 := dmaWide_congr hact n 10
  generalize s.dmaCompleted n bs = u at hbytes hdone ha ⊢
  rw [State.dmaLink, ha]
  have hw := regN_foldl_putN (r := .DMA_ACT) rfl (fun w => leNat (u.load .device (s.dmaWide n 10 + 4 * w) 4)) (n * 16) u 16
  have hput : Touches [.DMA_ACT] u _ :=
    touches_foldl (fun t w => touches_putN t .DMA_ACT (leNat (u.load .device (s.dmaWide n 10 + 4 * w) 4)) (n * 16 + w) (by simp)) (List.range 16) u
  generalize (List.range 16).foldl (fun t w => t.putN .DMA_ACT (leNat (u.load .device (s.dmaWide n 10 + 4 * w) 4)) (n * 16 + w)) u = v at hw hput ⊢
  have hs := dmaStart_starts v n true
  generalize v.dmaStart n true = x at hs ⊢
  have hload : ∀ a, (settle x).load .device a 4 = u.load .device a 4 := fun a =>
    load_congr (t := settle x) (hs.touches.mem.trans hput.mem) (hs.touches.hostMem.trans hput.hostMem) _ _ _
  refine ⟨?_, ?_, fun w h16 => ?_, fun h0 => ?_⟩
  · rw [regN_settle _ _ _ (by simp), hs.touches.regN (by simp [stopRegs]) n, hput.regN (by simp) n, hbytes]
  · rw [flag_settle _ _ _ (by simp), hs.keeps _ rfl (by simp [Field.apart]) (by simp [Field.apart]) (by simp [Field.apart]) (by simp [Field.apart]),
      hput.flag (by simp) n, hdone]
  · have hlt := leNat_lt (u.load .device (s.dmaWide n 10 + 4 * w) 4)
    rw [show (u.load .device (s.dmaWide n 10 + 4 * w) 4).length = 4 from length_memReadList _ _ _] at hlt
    rw [regN_settle _ _ _ (by simp), hs.touches.regN (by simp [stopRegs]) _, hw w h16, hload, Nat.mod_eq_of_lt (by omega)]
  · have hcheck : (settle x).dmaCheck n = v.dmaCheck n :=
      (dmaCheck_congr (fun r hr i => reg_settle x r i (by rintro rfl; simp [checkRegs] at hr)) rfl rfl n).trans hs.check
    rw [hcheck] at h0
    exact ⟨(flag_settle _ _ _ (by simp)).trans (hs.runs h0).1, (flag_settle _ _ _ (by simp)).trans (hs.runs h0).2⟩

/-! ### Transfers that stop -/

theorem dmaDescriptorComplete_poisoned {r : Nat} (hl : s.cxl.linkUp = true) (hp : s.poisonRow n = some r) :
    Gives (.dmaDescriptorComplete n bs) s fun t =>
      t.fld DMA_STS_ERR_CODE n = 4 ∧ t.reg .DMA_ERR_ADDR n = BitVec.ofNat 64 (s.dmaRow n r).1 ∧ t.flag DMA_STS_ERR n = true ∧
      t.flag DMA_STS_BUSY n = false ∧
      t.regN .DMA_DONE_BYTES n = min (2 ^ 64 - 1) (s.regN .DMA_DONE_BYTES n + min r (s.dmaAll n) * s.dmaLen n) := by
  refine gives_finish (execDmaDescriptorComplete_poison hn hb (.inr hl) hp) ?_
  obtain ⟨hw, haddr⟩ := dmaWithdraw_facts (c := 4) (some (s.dmaRow n r).1) { rows := r, data := bs } hb (by omega)
  generalize s.dmaWithdraw n 4 (some (s.dmaRow n r).1) { rows := r, data := bs } = u at hw haddr ⊢
  exact ⟨(fld_settle _ _ _ (by simp)).trans hw.code, (reg_settle _ _ _ (by simp)).trans haddr, (flag_settle _ _ _ (by simp)).trans hw.err,
    (flag_settle _ _ _ (by simp)).trans hw.idle, (regN_settle _ _ _ (by simp)).trans hw.bytes⟩

theorem dmaDescriptorComplete_linkDown (hx : s.dmaOverCxl n = true) (hl : s.cxl.linkUp = false) :
    Gives (.dmaDescriptorComplete n bs) s fun t =>
      t.fld DMA_STS_ERR_CODE n = 5 ∧ t.flag DMA_STS_ERR n = true ∧ t.flag DMA_STS_BUSY n = false ∧ SameMemory s t := by
  refine gives_finish (execDmaDescriptorComplete_linkDown hn hb hx hl) ?_
  obtain ⟨hw, -⟩ := dmaWithdraw_facts (c := 5) none {} hb (by omega)
  generalize s.dmaWithdraw n 5 none {} = u at hw ⊢
  exact ⟨(fld_settle _ _ _ (by simp)).trans hw.code, (flag_settle _ _ _ (by simp)).trans hw.err, (flag_settle _ _ _ (by simp)).trans hw.idle,
    hw.same rfl⟩

end

theorem execDmaError_idle {n c a : Nat} {p : DmaProgress} {s : State} (h : 64 ≤ n ∨ c < 4 ∨ 6 < c ∨ s.flag DMA_STS_BUSY n = false) :
    execDmaError n c a p s = finish s := by
  rw [execDmaError, if_pos (h.imp_right fun x => x.imp_right fun y => y.imp_right fun z => by rw [z]; rfl)]

/-- The state in which a transfer is withdrawn: a CXL completion error is recorded first (R382). -/
def State.dmaErrored (s : State) (n c : Nat) : State := if c = 5 then s.requestError n else s

theorem dmaErrored_facts (s : State) (n c : Nat) : (∀ r i, r ∉ faultOnly → (s.dmaErrored n c).reg r i = s.reg r i) ∧ SameMemory s (s.dmaErrored n c) := by
  unfold State.dmaErrored
  split
  · obtain ⟨-, hm, hh, hs⟩ := requestError_frame s n
    exact ⟨reg_requestError s n, sameMemory_of_mems hm hh hs⟩
  · exact ⟨fun _ _ _ => rfl, sameMemory_of_mems rfl rfl rfl⟩

theorem dmaError_withdraws {n c a : Nat} {p : DmaProgress} {s : State} (hn : n < 64) (h4 : 4 ≤ c) (h6 : c ≤ 6) (hb : s.flag DMA_STS_BUSY n = true) :
    Gives (.dmaError n c a p) s fun t =>
      t.fld DMA_STS_ERR_CODE n = c ∧ t.reg .DMA_ERR_ADDR n = BitVec.ofNat 64 a ∧ t.flag DMA_STS_ERR n = true ∧ t.flag DMA_STS_ORPHAN n = true ∧
      t.flag DMA_STS_BUSY n = false ∧ t.regN .DMA_ORPHAN_BYTES n = p.orphan % 2 ^ 64 ∧
      t.regN .DMA_DONE_BYTES n = min (2 ^ 64 - 1) (s.regN .DMA_DONE_BYTES n + min p.rows (s.dmaAll n) * s.dmaLen n) ∧ (p.rows = 0 → SameMemory s t) := by
  have he : execDmaError n c a p s = finish ((s.dmaErrored n c).dmaWithdraw n c (some a) p) := by
    rw [execDmaError, if_neg]
    · rfl
    · rw [hb]
      simp only [Bool.not_true, Bool.false_eq_true, or_false]
      omega
  refine gives_finish he ?_
  obtain ⟨hregs, hsame⟩ := dmaErrored_facts s n c
  generalize s.dmaErrored n c = u at hregs hsame ⊢
  have hact : ∀ i, u.reg .DMA_ACT i = s.reg .DMA_ACT i := fun i => hregs _ i (by simp [faultOnly])
  obtain ⟨hw, haddr⟩ := dmaWithdraw_facts (some a) p ((flag_congr (hregs _ _ (by simp [faultOnly]))).trans hb) (show c < 256 by omega)
  generalize u.dmaWithdraw n c (some a) p = v at hw haddr ⊢
  refine ⟨(fld_settle _ _ _ (by simp)).trans hw.code, (reg_settle _ _ _ (by simp)).trans haddr, (flag_settle _ _ _ (by simp)).trans hw.err,
    (flag_settle _ _ _ (by simp)).trans hw.orphan, (flag_settle _ _ _ (by simp)).trans hw.idle, (regN_settle _ _ _ (by simp)).trans hw.orphanBytes, ?_,
    fun h0 => hsame.trans (hw.same h0)⟩
  rw [regN_settle _ _ _ (by simp), hw.bytes, regN_congr (hregs _ _ (by simp [faultOnly])), dmaAll_congr hact, dmaLen_congr hact]

/-! ### The statement -/

/-- Settles O47: the commands of the owner, then the hand-over and the descriptor by how it starts, then completion and withdrawal by what the copy
and the error leave. -/
theorem dmaChannelsCopyAndStop : Obligations.DmaChannelsCopyAndStop :=
  ⟨fun _ _ _ h => ⟨dmaArm_owner h, dmaDisarm_owner h⟩,
    fun _ _ _ _ _ h => dma_strangers h,
    fun _ _ _ _ _ h hb => dmaEnWrite_sets h hb,
    fun _ _ _ _ h hb => dmaEnWrite_withdraws h hb,
    fun _ _ hn hen harm hb => dmaHandover_starts hn hen harm hb,
    fun _ _ _ _ _ hn hw hen harm hb => dmaHandover_late hn hen harm hb hw,
    fun _ _ _ _ h => gives_unchanged (execDmaHandover_idle h),
    fun _ _ _ hn hb hsrc hdst hall hp hf => dmaDescriptorComplete_copies hn hb hsrc hdst hall hp hf,
    fun _ _ _ hn hb hl hp hf => dmaDescriptorComplete_links hn hb hl hp hf,
    fun _ _ _ _ hn hb hl hp => dmaDescriptorComplete_poisoned hn hb hl hp,
    fun _ _ _ hn hb hx hl => dmaDescriptorComplete_linkDown hn hb hx hl,
    fun _ _ _ h => gives_unchanged (execDmaDescriptorComplete_idle h),
    fun _ _ _ _ _ hn h4 h6 hb => dmaError_withdraws hn h4 h6 hb,
    fun _ _ _ _ _ h => gives_unchanged (execDmaError_idle h)⟩

end Sys2Proof.Machine
end

section
/-!
PROOFS. The host link: how it goes down and comes up, its power states, the host's accesses to device memory, its snoops, its errors and its
vectors (R334, R368, R369, R374 to R378, R382, R529).
-/
namespace Sys2Proof.Machine

/-! ### The link goes down and comes up -/

/-- One channel of a stop: its transfer is withdrawn if it runs and is one of those that stop. -/
def State.withdrawIf (p : Nat → Bool) (code : Nat) (l : List (Nat × DmaProgress)) (s : State) (n : Nat) : State :=
  if p n && s.flag DMA_STS_BUSY n then s.dmaWithdraw n code none (progressOf l n) else s

section
variable {p : Nat → Bool} {code : Nat} {l : List (Nat × DmaProgress)}

theorem withdrawIf_skips {s : State} {n : Nat} (h : p n = false ∨ s.flag DMA_STS_BUSY n = false) : s.withdrawIf p code l n = s :=
  if_neg (by rcases h with h | h <;> rw [h] <;> simp)

theorem withdrawIf_stops {s : State} {n : Nat} (hp : p n = true) (hb : s.flag DMA_STS_BUSY n = true) (hc : code < 256) :
    Withdrawn s (s.withdrawIf p code l n) n code (progressOf l n) := by
  rw [State.withdrawIf, if_pos (by rw [hp, hb]; rfl)]
  exact (dmaWithdraw_facts none _ hb hc).1

variable (hc : code < 256)
include hc

/-- A channel's step leaves the other channels, the link and the streams. -/
theorem withdrawIf_frame (s : State) (n : Nat) : Moves withdrawRegs s (s.withdrawIf p code l n) ∧
    ∀ m, n ≠ m → (s.withdrawIf p code l n).reg .DMA_STS m = s.reg .DMA_STS m := by
  by_cases h : p n = true ∧ s.flag DMA_STS_BUSY n = true
  · obtain ⟨hp, hb⟩ := h
    have hw := withdrawIf_stops (l := l) hp hb hc
    exact ⟨hw.moves, hw.others⟩
  · rw [withdrawIf_skips ((not_and_or.mp h).imp eq_false_of_ne_true eq_false_of_ne_true)]
    exact ⟨Moves.refl _ _, fun _ _ => rfl⟩

theorem moves_dmaStop (s : State) : Moves withdrawRegs s (s.dmaStop p code l) := moves_foldl (fun t n => (withdrawIf_frame hc t n).1) _ s

/-- A stop leaves the status of the channels that it does not concern. -/
theorem dmaStop_others {s : State} {n : Nat} (h : p n = false) : (s.dmaStop p code l).reg .DMA_STS n = s.reg .DMA_STS n := by
  refine foldl_keeps (f := State.withdrawIf p code l) (fun t : State => t.reg .DMA_STS n) (fun t m => ?_) (List.range 64) s
  by_cases hm : m = n
  · rw [hm, withdrawIf_skips (.inl h)]
  · exact (withdrawIf_frame hc t m).2 n hm

/-- A transfer that a stop concerns ends with its code. -/
theorem dmaStop_stops {s : State} {n : Nat} (hn : n < 64) (hp : p n = true) (hb : s.flag DMA_STS_BUSY n = true) :
    (s.dmaStop p code l).flag DMA_STS_BUSY n = false ∧ (s.dmaStop p code l).fld DMA_STS_ERR_CODE n = code := by
  have hidle : (s.dmaStop p code l).flag DMA_STS_BUSY n = false := by
    refine foldl_establishes (f := State.withdrawIf p code l) (P := fun m (t : State) => p m = true → t.flag DMA_STS_BUSY m = false)
      (fun t m hm => ?_) (fun t m k hm hpm => ?_) (List.mem_range.mpr hn) s hp
    · by_cases hbm : t.flag DMA_STS_BUSY m = true
      · exact (withdrawIf_stops hm hbm hc).idle
      · rw [withdrawIf_skips (.inr (eq_false_of_ne_true hbm)), eq_false_of_ne_true hbm]
    · by_cases hk : k = m
      · rw [hk, withdrawIf_skips (.inr (hm hpm)), hm hpm]
      · exact (flag_congr ((withdrawIf_frame hc t k).2 m hk)).trans (hm hpm)
  have hcode : (s.dmaStop p code l).flag DMA_STS_BUSY n = true ∨ (s.dmaStop p code l).fld DMA_STS_ERR_CODE n = code := by
    refine List.foldlRecOn (motive := fun t : State => t.flag DMA_STS_BUSY n = true ∨ t.fld DMA_STS_ERR_CODE n = code) (List.range 64)
      (State.withdrawIf p code l) (.inl hb) fun t ht m _ => ?_
    by_cases hm : m = n
    · by_cases hbn : t.flag DMA_STS_BUSY n = true
      · rw [hm]
        exact .inr (withdrawIf_stops hp hbn hc).code
      · rw [hm, withdrawIf_skips (.inr (eq_false_of_ne_true hbn))]
        exact ht
    · have hreg := (withdrawIf_frame hc t m (p := p) (l := l)).2 n hm
      exact ht.imp (flag_congr hreg).trans (fld_congr hreg).trans
  exact ⟨hidle, hcode.resolve_left (ne_true_of_eq_false hidle)⟩

end

/-- The state of the link's loss, before its transfers end. -/
def State.hostLinkLost (s : State) : State := { s with cxl := { s.cxl with linkUp := false, l1 := false } }

theorem cxlDown_up {s : State} (l : List (Nat × DmaProgress)) (h : s.cxl.linkUp = true) : s.cxlDown l = s.hostLinkLost.dmaStop s.dmaOverCxl 5 l := by
  rw [State.cxlDown, h]
  exact if_neg (by simp)

theorem cxlDown_down {s : State} (l : List (Nat × DmaProgress)) (h : s.cxl.linkUp = false) : s.cxlDown l = s := by
  rw [State.cxlDown, h]
  exact if_pos rfl

theorem execRefclkCxlLoss_idle {s : State} (l : List (Nat × DmaProgress)) (h : s.cxl.linkUp = false ∨ s.pins.perstN = false) :
    execRefclkCxlLoss l s = finish s := by
  rw [execRefclkCxlLoss]
  rcases h with h | h
  · rw [cxlDown_down l h, ite_self]
  · rw [h, if_neg Bool.false_ne_true]

theorem dmaOverCxl_busy {s : State} {n : Nat} (h : s.dmaOverCxl n = true) : s.flag DMA_STS_BUSY n = true := by
  rw [State.dmaOverCxl, Bool.and_eq_true] at h
  exact h.1

theorem cxlLink_goesDown {l : List (Nat × DmaProgress)} {i : Instr} {s : State} (hi : i ∈ [Instr.cxlLinkDown l, .refclkCxlLoss l])
    (hp : s.pins.perstN = true) (hl : s.cxl.linkUp = true) :
    Gives i s fun t =>
      t.cxl = { s.cxl with linkUp := false, l1 := false } ∧ t.streams = s.streams ∧
      (∀ n : Nat, n < 64 → s.dmaOverCxl n = true → t.flag DMA_STS_BUSY n = false ∧ t.fld DMA_STS_ERR_CODE n = 5) ∧
      (∀ n : Nat, n < 64 → s.dmaOverCxl n = false → t.reg .DMA_STS n = s.reg .DMA_STS n) := by
  have he : exec i s = finish (s.hostLinkLost.dmaStop s.dmaOverCxl 5 l) := by
    rw [← cxlDown_up l hl]
    simp only [List.mem_cons, List.not_mem_nil, or_false] at hi
    rcases hi with rfl | rfl
    · rfl
    · exact congrArg finish (if_pos hp)
  refine gives_finish he ?_
  have hm := moves_dmaStop (p := s.dmaOverCxl) (l := l) (show 5 < 256 by omega) s.hostLinkLost
  have hstop := fun n (hn : n < 64) (hx : s.dmaOverCxl n = true) =>
    dmaStop_stops (l := l) (show 5 < 256 by omega) (s := s.hostLinkLost) hn hx (dmaOverCxl_busy hx)
  have hstay := fun n (hx : s.dmaOverCxl n = false) => dmaStop_others (l := l) (show 5 < 256 by omega) (s := s.hostLinkLost) hx
  generalize s.hostLinkLost.dmaStop s.dmaOverCxl 5 l = u at hm hstop hstay ⊢
  exact ⟨hm.cxl, hm.streams, fun n hn hx => ⟨(flag_settle _ _ _ (by simp)).trans (hstop n hn hx).1, (fld_settle _ _ _ (by simp)).trans (hstop n hn hx).2⟩,
    fun n _ hx => (reg_settle _ _ _ (by simp)).trans (hstay n hx)⟩

/-- With no reply held, none is written as the link comes up. -/
theorem writeAllHeld_none {s : State} (h : ∀ q : Nat, q < 64 → s.heldFor q = []) : s.writeAllHeld = s := by
  refine List.foldlRecOn (motive := fun t : State => t = s) (List.range 64) _ rfl fun t ht q hq => ?_
  rw [ht, h q (List.mem_range.mp hq)]
  exact ite_self s

theorem execCxlLinkUp_trains {v w : Nat} {s : State} (hl : s.cxl.linkUp = false) (h0 : 0 < v) (h6 : v ≤ 6) (hw : w ∈ [1, 2, 4, 8, 16])
    (hheld : ∀ q : Nat, q < 64 → s.heldFor q = []) :
    execCxlLinkUp v w s = finish { s with
      cxl := { s.cxl with linkUp := true, speed := v, width := w, inUse := w, l1 := false }, pins := { s.pins with wakeN := true } } := by
  have hc : ([1, 2, 4, 8, 16].contains w) = true := List.contains_iff_mem.mpr hw
  rw [execCxlLinkUp, if_neg (by rw [hl, hc]; simp only [Bool.not_true, Bool.false_eq_true, false_or]; omega)]
  exact congrArg finish (writeAllHeld_none hheld)

theorem execCxlLinkUp_refused {v w : Nat} {s : State} (h : s.cxl.linkUp = true ∨ v = 0 ∨ 6 < v ∨ w ∉ [1, 2, 4, 8, 16]) :
    execCxlLinkUp v w s = finish s := by
  refine congrArg finish (if_pos ?_)
  rcases h with h | h | h | h
  · exact .inl h
  · exact .inr (.inr (.inl h))
  · exact .inr (.inr (.inr h))
  · exact .inr (.inl (by rw [Bool.not_eq_true', Bool.eq_false_iff]; exact fun hx => h (List.contains_iff_mem.mp hx)))

/-! ### The power states of the link -/

theorem execL1EntryRequest_enters {s : State} (hl : s.cxl.linkUp = true) (hb : s.cxlBusy = false) :
    execL1EntryRequest s = finish { s with cxl := { s.cxl with l1 := true } } :=
  congrArg finish (if_neg (by rw [hl, hb]; simp))

theorem execL1EntryRequest_refused {s : State} (h : s.cxl.linkUp = false ∨ s.cxlBusy = true) : execL1EntryRequest s = finish s :=
  congrArg finish (if_pos (h.imp_left fun x => by rw [x]; rfl))

theorem execL1Exit_leaves {h : Bool} (x : WakeInfo) {s : State} (hl : s.cxl.linkUp = true) (h1 : s.cxl.l1 = true)
    (hh : h = false ∨ (s.deep = false ∧ s.power.entry = none)) :
    execL1Exit h x s = finish { s with cxl := { s.cxl with l1 := false }, pins := { s.pins with wakeN := true } } := by
  refine congrArg finish ((if_neg (by rw [hl, h1]; simp)).trans (if_neg ?_))
  rcases hh with hf | ⟨hd, he⟩
  · rw [hf]
    exact fun k => Bool.false_ne_true k.1
  · rw [hd, he]
    exact fun k => k.2.elim Bool.false_ne_true Bool.false_ne_true

theorem execL1Exit_idle {h : Bool} (x : WakeInfo) {s : State} (hn : s.cxl.linkUp = false ∨ s.cxl.l1 = false) : execL1Exit h x s = finish s :=
  congrArg finish (if_pos (hn.imp (fun k => by rw [k]; rfl) fun k => by rw [k]; rfl))

theorem execL0pRequest_taken {w : Nat} {s : State} (hl : s.cxl.linkUp = true) (hw : w ∈ [4, 8, 16]) (hm : w ≤ s.cxl.width) :
    execL0pRequest w s = finish { s with cxl := { s.cxl with inUse := w } } := by
  have hc : ([4, 8, 16].contains w) = true := List.contains_iff_mem.mpr hw
  exact congrArg finish (if_neg (by rw [hl, hc]; simp only [Bool.not_true, Bool.false_eq_true, false_or]; omega))

theorem execL0pRequest_refused {w : Nat} {s : State} (h : s.cxl.linkUp = false ∨ w ∉ [4, 8, 16] ∨ s.cxl.width < w) : execL0pRequest w s = finish s := by
  refine congrArg finish (if_pos (h.imp (fun k => by rw [k]; rfl) (Or.imp_left fun k => ?_)))
  rw [Bool.not_eq_true', Bool.eq_false_iff]
  exact fun hx => k (List.contains_iff_mem.mp hx)

/-! ### Host accesses to device memory -/

/-- The host's access as the memory front end has it: requester 32 at SC2 (R375). -/
def hostRequest (x : CxlAccess) (a : Nat) : MemReq := { src := 32, sc := 2, addr := a, bytes := x.bytes, data := x.data, poison := x.poison }

/-- The line that the host keeps with an access, and whether exclusively (R377). -/
def hostHolds (x : CxlAccess) : Option Bool := if x.caches = 0 then none else some (decide (2 ≤ x.caches))

/-- A poisoned write is recorded (R382). -/
def State.poisonSeen (s : State) (x : CxlAccess) : State := if x.data.isSome && x.poison then s.record 22 0 else s

theorem touches_poisonSeen (s : State) (x : CxlAccess) : Touches faultOnly s (s.poisonSeen x) := by
  unfold State.poisonSeen
  split
  · exact touches_record s 22 0 false fun _ h => h
  · exact Touches.refl _ _

/-- The data of an access is not of the length that it says. -/
def badLength (x : CxlAccess) : Bool := match x.data with | some d => d.length != x.bytes | none => false

theorem badLength_false {x : CxlAccess} (h : (x.data.map List.length).getD x.bytes = x.bytes) : badLength x = false := by
  unfold badLength
  cases hx : x.data with
  | none => rfl
  | some d =>
    rw [hx] at h
    exact bne_eq_false_iff_eq.mpr h

section
variable {x : CxlAccess} {s : State} (hl : s.cxl.linkUp = true) (hb : 0 < x.bytes) (hs : x.addr % 64 + x.bytes ≤ 64)
  (hd : (x.data.map List.length).getD x.bytes = x.bytes)
include hl hb hs hd

/-- An access within a line, with the data that it says, is heeded while the link is up. -/
theorem cxlAccess_heeded : ¬((!s.cxl.linkUp) = true ∨ x.bytes = 0 ∨ 64 < x.addr % 64 + x.bytes ∨ badLength x = true) := by
  rw [hl, badLength_false hd]
  simp only [Bool.not_true, Bool.false_eq_true, false_or, or_false]
  omega

theorem execCxlMemRequest_outside (ha : s.hdmAddress x.addr = none) : execCxlMemRequest x s = finish (s.emit (.completion false true)) := by
  rw [execCxlMemRequest, ha]
  exact congrArg finish (if_neg (cxlAccess_heeded hl hb hs hd))

/-- An access through the decoder, with room in the snoop filter, has its line tracked and stands at the front end (R375 to R377). -/
theorem execCxlMemRequest_stands {a : Nat} (ha : s.hdmAddress x.addr = some a) (hn : s.cxl.snoop.length < snoopEntries) :
    execCxlMemRequest x s = finish (((s.poisonSeen x).trackLine (a / 64) (hostHolds x)).present (hostRequest x a)) := by
  have hroom : ∀ k : Bool, (k && decide (snoopEntries ≤ (s.poisonSeen x).cxl.snoop.length)) = false := fun k => by
    rw [(touches_poisonSeen s x).rest.cxl, decide_eq_false (by omega), Bool.and_false]
  rw [execCxlMemRequest, ha]
  refine congrArg finish ((if_neg (cxlAccess_heeded hl hb hs hd)).trans ?_)
  dsimp -zeta only
  extract_lets line s1 known full oldest held r
  have hfull : full = false := hroom _
  have hr : r = hostRequest x a := by
    simp only [r, oldest, hfull]
    rfl
  rw [hr, hfull]
  rfl

end

theorem execCxlMemRequest_dropped {x : CxlAccess} {s : State} (h : s.cxl.linkUp = false ∨ x.bytes = 0 ∨ 64 < x.addr % 64 + x.bytes) :
    execCxlMemRequest x s = finish s := by
  refine congrArg finish (if_pos ?_)
  rcases h with h | h | h
  · exact .inl (by rw [h]; rfl)
  · exact .inr (.inl h)
  · exact .inr (.inr (.inl h))

/-- With no line tracked there is none to forget. -/
theorem trackLine_none_empty {s : State} (l : Nat) (h : s.cxl.snoop = []) : s.trackLine l none = s := by
  rw [State.trackLine, h, List.filter_nil, ← h]

theorem serves_trackLine (rs : List Reg) (s : State) (l : Nat) (x : Option Bool) : Serves rs s (s.trackLine l x) := serves_cxl rs s _

theorem trackLine_memctl (s : State) (l : Nat) (x : Option Bool) : (s.trackLine l x).memctl = s.memctl := rfl

/-- A line that the host keeps is in the snoop filter (R377). -/
theorem trackLine_holds (s : State) (l : Nat) (x : Bool) : (s.trackLine l (some x)).cxl.snoop.contains (l, x) = true := by
  simp [State.trackLine]

section
variable {x : CxlAccess} {a : Nat} {s : State} (hl : s.cxl.linkUp = true) (hb : 0 < x.bytes) (hs : x.addr % 64 + x.bytes ≤ 64)
  (hd : (x.data.map List.length).getD x.bytes = x.bytes) (ha : s.hdmAddress x.addr = some a)
include hl hb hs hd ha

theorem cxlMemRequest_granted (hp : x.poison = false) (hc : x.caches = 0) (hn : s.cxl.snoop = []) (hw : s.memctl.waiting = [])
    (hg : s.memctl.groups.contains (s.groupOf a) = false) (hf : s.arbFrozen 0 = false) (hm : s.maskedAt 32 = false) :
    Gives (.cxlMemRequest x) s fun t =>
      t.memctl.bursts = s.memctl.bursts ++ [{ src := 32, sc := 2, addr := a, bytes := x.bytes, data := x.data, since := s.tb.run, granted := s.tb.run }] ∧
      t.memctl.groups = s.memctl.groups ++ [s.groupOf a] ∧ OnlyRegs [.ARB_STS] { s with memctl := t.memctl, arbPtr := t.arbPtr } t := by
  have hu : (s.poisonSeen x).trackLine (a / 64) (hostHolds x) = s := by
    rw [hostHolds, if_pos hc, State.poisonSeen, hp, Bool.and_false, if_neg Bool.false_ne_true, trackLine_none_empty _ hn]
  have he := execCxlMemRequest_stands hl hb hs hd ha (by rw [hn]; exact Nat.succ_pos _)
  rw [hu] at he
  refine gives_finish he ?_
  obtain ⟨hburst, -, hgroups, -⟩ := granted_facts (r := hostRequest x a) hw rfl (show 2 < 4 by omega) (show 32 < 64 by omega) hg hf hm
  have hk := touches_present (r := hostRequest x a) s rfl
  generalize s.present (hostRequest x a) = u at hburst hgroups hk ⊢
  refine ⟨hburst.trans ?_, hgroups, onlyRegs_served hk⟩
  rw [hostRequest, hp]

theorem cxlMemRequest_tracked (hr : s.cxl.snoop.length < snoopEntries) :
    Gives (.cxlMemRequest x) s fun t =>
      (0 < x.caches → t.cxl.snoop.contains (a / 64, decide (2 ≤ x.caches)) = true) ∧
      (x.poison = true → x.data ≠ none → (t.reg .FC_STATUS).getLsbD 22 = true) ∧ SameMemory s t ∧
      t.memctl.waiting.length + t.memctl.bursts.length = s.memctl.waiting.length + s.memctl.bursts.length + 1 := by
  refine gives_finish (execCxlMemRequest_stands hl hb hs hd ha hr) ?_
  have hseen : x.poison = true → x.data ≠ none → ((s.poisonSeen x).reg .FC_STATUS).getLsbD 22 = true := fun hp hn => by
    rw [State.poisonSeen, hp, Option.isSome_iff_ne_none.mpr hn, if_pos (by rfl)]
    exact getLsbD_record_same s 0 (by omega)
  have hk := touches_poisonSeen s x
  generalize s.poisonSeen x = u at hseen hk ⊢
  have hholds : 0 < x.caches → (u.trackLine (a / 64) (hostHolds x)).cxl.snoop.contains (a / 64, decide (2 ≤ x.caches)) = true := fun h0 => by
    rw [hostHolds, if_neg (by omega)]
    exact trackLine_holds u _ _
  have hline := serves_trackLine [] u (a / 64) (hostHolds x)
  have hctl := trackLine_memctl u (a / 64) (hostHolds x)
  generalize u.trackLine (a / 64) (hostHolds x) = v at hholds hline hctl ⊢
  have hin := inside_present (r := hostRequest x a) v rfl
  have hcxl := present_cxl (r := hostRequest x a) v rfl
  have hserve := serves_present v (hostRequest x a)
  generalize v.present (hostRequest x a) = w at hin hcxl hserve ⊢
  refine ⟨fun h0 => ?_, fun hp hn => ?_, (hk.sameMemory.trans hline.sameMemory).trans hserve.sameMemory, ?_⟩
  · rw [settle_cxl, hcxl]
    exact hholds h0
  · rw [reg_settle _ _ _ (by simp), hserve.2 _ _ (by simp), hline.2 _ _ (by simp)]
    exact hseen hp hn
  · rw [hctl, hk.rest.memctl] at hin
    exact hin

end

/-! ### Snoops -/

theorem execHostSnoop_answered {s : State} (l : Nat) (h : s.cxl.linkUp = true) : execHostSnoop l s = finish (s.emit (.invalid l)) :=
  congrArg finish (if_pos h)

theorem execHostSnoop_down {s : State} (l : Nat) (h : s.cxl.linkUp = false) : execHostSnoop l s = finish s :=
  congrArg finish (if_neg (ne_true_of_eq_false h))

/-- The arbiters of groups grant nothing when nothing waits. -/
theorem foldl_grantGroup_none {s : State} (h : s.memctl.waiting = []) (l : List Nat) : l.foldl State.grantGroup s = s :=
  List.foldl_fixed' (fun g => grantGroup_idle (.inr (.inr (by rw [State.candidates, h, List.filter_nil])))) l

/-- Of the arbiters of groups, that of the only request that waits grants it, and the others grant nothing. -/
theorem foldl_grantGroup_alone {s : State} {r : MemReq} (hw : s.memctl.waiting = [r]) (hl : r.lines = []) (hc : r.sc < 4)
    (hg : s.memctl.groups.contains (s.groupOf r.addr) = false) (hf : s.arbFrozen 0 = false) (hm : s.maskedAt r.src = false) {l : List Nat}
    (hmem : s.groupOf r.addr ∈ l) : l.foldl State.grantGroup s = s.grantTo (s.groupOf r.addr) r (s.servedClass r) := by
  induction l with
  | nil => cases hmem
  | cons g l ih =>
    rw [List.foldl_cons]
    by_cases hx : s.groupOf r.addr = g
    · have hcand : s.candidates g = [r] := by simp [State.candidates, hw, hl, hm, hx]
      rw [← hx] at hcand ⊢
      rw [grantGroup_pick hf hg (pick_alone hcand ((servedClass_le s r).trans_lt hc))]
      exact foldl_grantGroup_none (by simp [State.grantTo, hw]) l
    · have hcand : s.candidates g = [] := by simp [State.candidates, hw, hx]
      rw [grantGroup_idle (.inr (.inr hcand))]
      exact ih ((List.mem_cons.mp hmem).resolve_left hx)

/-- The state in which the only request that waits has had its line back (R377). -/
def State.lineFreed (s : State) (l : Nat) (r : MemReq) : State :=
  { s with
    cxl := { s.cxl with asked := s.cxl.asked.erase l, snoop := s.cxl.snoop.filter fun e => e.1 != l }
    memctl := { s.memctl with waiting := [{ r with lines := [] }] } }

theorem serves_lineFreed (rs : List Reg) (s : State) (l : Nat) (r : MemReq) : Serves rs s (s.lineFreed l r) := ⟨rfl, fun _ _ _ => rfl⟩

theorem execBackInvalidateResponse_frees {l : Nat} {r : MemReq} {s : State} (ha : s.cxl.asked.contains l = true) (hw : s.memctl.waiting = [r])
    (hl : r.lines = [l]) (ht : r.track = none) : execBackInvalidateResponse l s = finish ((List.range 4).foldl State.grantGroup (s.lineFreed l r)) := by
  refine congrArg finish ((if_neg (by rw [ha]; simp)).trans (congrArg (fun u : State => (List.range 4).foldl State.grantGroup u) ?_))
  simp [State.lineBack, State.trackLine, State.lineFreed, hw, hl, ht]

theorem execBackInvalidateResponse_unasked {l : Nat} {s : State} (h : s.cxl.asked.contains l = false) : execBackInvalidateResponse l s = finish s :=
  congrArg finish (if_pos (by rw [h]; rfl))

theorem backInvalidateResponse_lets {l : Nat} {r : MemReq} {s : State} (ha : s.cxl.asked.contains l = true) (hw : s.memctl.waiting = [r])
    (hl : r.lines = [l]) (ht : r.track = none) (hc : r.sc < 4) (hg : s.memctl.groups.contains (s.groupOf r.addr) = false) (hf : s.arbFrozen 0 = false)
    (hm : s.maskedAt r.src = false) :
    Gives (.backInvalidateResponse l) s fun t =>
      t.cxl.asked = s.cxl.asked.erase l ∧ t.cxl.snoop = (s.cxl.snoop.filter fun e => e.1 != l) ∧ t.memctl.waiting = [] ∧
      t.memctl.bursts.length = s.memctl.bursts.length + 1 ∧ SameRegs [.ARB_STS] s t ∧ SameMemory s t := by
  have hgrant := foldl_grantGroup_alone (s := s.lineFreed l r) (r := { r with lines := [] }) rfl rfl hc hg hf hm (l := List.range 4)
    (List.mem_range.mpr (groupOf_lt _ _))
  refine gives_finish ((execBackInvalidateResponse_frees ha hw hl ht).trans (congrArg finish hgrant)) ?_
  generalize (s.lineFreed l r).servedClass { r with lines := [] } = c
  generalize (s.lineFreed l r).groupOf _ = g
  have hserve := (serves_lineFreed [.ARB_STS] s l r).trans (serves_grantTo _ g { r with lines := [] } c)
  have hwait : ((s.lineFreed l r).grantTo g { r with lines := [] } c).memctl.waiting = [] := List.erase_cons_head ..
  have hburst : ((s.lineFreed l r).grantTo g { r with lines := [] } c).memctl.bursts.length = s.memctl.bursts.length + 1 := List.length_append
  exact ⟨rfl, rfl, hwait, hburst, hserve.settled.1, hserve.settled.2⟩

/-! ### Errors of the link -/

/-- Registers that changed with the link's state, once the outputs follow. -/
theorem onlyRegs_linked {rs : List Reg} {s u : State} {x : Cxl} (h : Touches rs { s with cxl := x } u) :
    OnlyRegs rs { s with cxl := (settle u).cxl } (settle u) := by
  rw [show (settle u).cxl = x from h.rest.cxl]
  exact onlyRegs_of_touches h

/-- The link with an internal error (R382). -/
def Cxl.broken (c : Cxl) : Cxl := { c with l1 := false, errors := { c.errors with fatal := true, rasUncorr := true } }

/-- The link with a completion that did not come (R382). -/
def Cxl.timedOut (c : Cxl) : Cxl := { c with errors := { c.errors with nonFatal := true } }

theorem cxlInternalError_recorded (s : State) : Gives .cxlInternalError s fun t =>
    t.cxl = { s.cxl with l1 := false, errors := { s.cxl.errors with fatal := true, rasUncorr := true } } ∧
    t.reg .FC_LAST = faultRecord 26 0 false s.tickIndex ∧ OnlyRegs faultOnly { s with cxl := t.cxl } t := by
  have he : exec .cxlInternalError s = finish (State.record { s with cxl := s.cxl.broken } 26 0) := rfl
  refine gives_finish he ?_
  have hk := touches_record (rs := faultOnly) { s with cxl := s.cxl.broken } 26 0 false fun _ h => h
  have hlast := last_record { s with cxl := s.cxl.broken } (show 26 < 37 by omega) 0 false
  generalize State.record { s with cxl := s.cxl.broken } 26 0 = u at hk hlast ⊢
  exact ⟨hk.rest.cxl, (reg_settle _ _ _ (by simp)).trans hlast, onlyRegs_linked hk⟩

/-- The state of a completion timeout that is recorded for a requester. -/
def State.timeoutSeen (s : State) (who : Nat) : State := State.record { s with cxl := s.cxl.timedOut } 24 who

theorem timeoutSeen_facts (s : State) (who : Nat) : Touches faultOnly { s with cxl := s.cxl.timedOut } (s.timeoutSeen who) ∧
    (s.timeoutSeen who).reg .FC_LAST = faultRecord 24 who false s.tickIndex :=
  ⟨touches_record _ 24 who false fun _ h => h, last_record { s with cxl := s.cxl.timedOut } (show 24 < 37 by omega) who false⟩

section
variable {q : Nat} {s : State} (hq : q < 64)
include hq

theorem execCompletionTimeout_fetch :
    execCompletionTimeout (.fetch q) s = finish ((s.timeoutSeen (s.fld CMDQ_OWNER_FUNC q)).queueError q CMDQ_STS_FETCH_ERR) :=
  congrArg finish (if_neg (by omega))

theorem execCompletionTimeout_reply :
    execCompletionTimeout (.reply q) s = finish ((s.timeoutSeen (s.fld CPLQ_OWNER_FUNC q)).setFld CPLQ_STS_WRITE_ERR 1 q) :=
  congrArg finish (if_neg (by omega))

theorem execCompletionTimeout_dma (a : Nat) (p : DmaProgress) :
    execCompletionTimeout (.dma q a p) s = finish ((s.timeoutSeen q).dmaWithdraw q 5 (some a) p) :=
  congrArg finish (if_neg (by omega))

theorem completionTimeout_fetch : Gives (.completionTimeout (.fetch q)) s fun t =>
    t.cxl.errors.nonFatal = true ∧ t.flag CMDQ_STS_FETCH_ERR q = true ∧ t.flag CMDQ_STS_ACTIVE q = false ∧
    t.reg .FC_LAST = faultRecord 24 (s.fld CMDQ_OWNER_FUNC q) false s.tickIndex ∧ OnlyRegs (.CMDQ_STS :: faultOnly) { s with cxl := t.cxl } t := by
  refine gives_finish (execCompletionTimeout_fetch hq) ?_
  obtain ⟨hk, hlast⟩ := timeoutSeen_facts s (s.fld CMDQ_OWNER_FUNC q)
  generalize s.timeoutSeen (s.fld CMDQ_OWNER_FUNC q) = u at hk hlast ⊢
  have ht := touches_queueError u q (f := CMDQ_STS_FETCH_ERR) rfl
  obtain ⟨hset, hidle⟩ := queueError_facts u q (f := CMDQ_STS_FETCH_ERR) rfl (by simp) (by simp) (by simp [Field.apart])
  generalize u.queueError q CMDQ_STS_FETCH_ERR = v at ht hset hidle ⊢
  have hall := (hk.mono (rs' := .CMDQ_STS :: faultOnly) (by simp +contextual)).trans (ht.mono (by simp [errorRegs, faultOnly]))
  refine ⟨congrArg (fun c : Cxl => c.errors.nonFatal) hall.rest.cxl, (flag_settle _ _ _ (by simp)).trans hset, (flag_settle _ _ _ (by simp)).trans hidle, ?_,
    onlyRegs_linked hall⟩
  rw [reg_settle _ _ _ (by simp), ht.2 _ _ (by simp [errorRegs]), hlast]

theorem completionTimeout_reply : Gives (.completionTimeout (.reply q)) s fun t =>
    t.cxl.errors.nonFatal = true ∧ t.flag CPLQ_STS_WRITE_ERR q = true ∧
    t.reg .FC_LAST = faultRecord 24 (s.fld CPLQ_OWNER_FUNC q) false s.tickIndex ∧ OnlyRegs (.CPLQ_STS :: faultOnly) { s with cxl := t.cxl } t := by
  refine gives_finish (execCompletionTimeout_reply hq) ?_
  obtain ⟨hk, hlast⟩ := timeoutSeen_facts s (s.fld CPLQ_OWNER_FUNC q)
  generalize s.timeoutSeen (s.fld CPLQ_OWNER_FUNC q) = u at hk hlast ⊢
  have ht := touches_setFld (rs := [.CPLQ_STS]) u CPLQ_STS_WRITE_ERR 1 q (by simp)
  have hset := flag_setFld_one u CPLQ_STS_WRITE_ERR q (by simp) (by simp)
  generalize u.setFld CPLQ_STS_WRITE_ERR 1 q = v at ht hset ⊢
  have hall := (hk.mono (rs' := .CPLQ_STS :: faultOnly) (by simp +contextual)).trans (ht.mono (by simp))
  refine ⟨congrArg (fun c : Cxl => c.errors.nonFatal) hall.rest.cxl, (flag_settle _ _ _ (by simp)).trans hset, ?_, onlyRegs_linked hall⟩
  rw [reg_settle _ _ _ (by simp), ht.2 _ _ (by simp), hlast]

theorem completionTimeout_dma (a : Nat) (p : DmaProgress) (hb : s.flag DMA_STS_BUSY q = true) : Gives (.completionTimeout (.dma q a p)) s fun t =>
    t.cxl.errors.nonFatal = true ∧ t.flag DMA_STS_BUSY q = false ∧ t.fld DMA_STS_ERR_CODE q = 5 ∧ t.reg .DMA_ERR_ADDR q = BitVec.ofNat 64 a ∧
    t.reg .FC_LAST = faultRecord 24 q false s.tickIndex := by
  refine gives_finish (execCompletionTimeout_dma hq a p) ?_
  obtain ⟨hk, hlast⟩ := timeoutSeen_facts s q
  generalize s.timeoutSeen q = u at hk hlast ⊢
  obtain ⟨hw, haddr⟩ := dmaWithdraw_facts (some a) p ((hk.flag (by simp [faultOnly]) q).trans hb) (show 5 < 256 by omega)
  generalize u.dmaWithdraw q 5 (some a) p = v at hw haddr ⊢
  refine ⟨congrArg (fun c : Cxl => c.errors.nonFatal) (hw.moves.cxl.trans hk.rest.cxl), (flag_settle _ _ _ (by simp)).trans hw.idle,
    (fld_settle _ _ _ (by simp)).trans hw.code, (reg_settle _ _ _ (by simp)).trans haddr, ?_⟩
  rw [reg_settle _ _ _ (by simp), hw.moves.2 _ _ (by simp [withdrawRegs, cutRegs]), hlast]

end

/-! ### Vectors -/

/-- The link with a vector unmasked (R374). -/
def Cxl.unmask (c : Cxl) (f v : Nat) : Cxl := { c with unmasked := storeInsert c.unmasked (vectorKey f v) true }

/-- The link with a vector unmasked and its message no longer pending (R374). -/
def Cxl.deliver (c : Cxl) (f v : Nat) : Cxl := { c.unmask f v with pba := storeDrop c.pba (vectorKey f v) }

section
variable {f v : Nat} {s : State}

theorem execMsixUnmask_pending (he : vectorExists f v = true) (hp : storeFind s.cxl.pba (vectorKey f v) = some true) :
    execMsixUnmask f v s = finish { s with cxl := s.cxl.deliver f v, sent := Sent.msix f v :: s.sent } := by
  refine congrArg finish ((if_neg (by rw [he]; simp)).trans (if_pos ?_))
  rw [hp]
  rfl

theorem execMsixUnmask_quiet (he : vectorExists f v = true) (hp : storeFind s.cxl.pba (vectorKey f v) = none) :
    execMsixUnmask f v s = finish { s with cxl := s.cxl.unmask f v } := by
  refine congrArg finish ((if_neg (by rw [he]; simp)).trans (if_neg ?_))
  rw [hp]
  exact Bool.false_ne_true

theorem execMsixUnmask_absent (he : vectorExists f v = false) : execMsixUnmask f v s = finish s := congrArg finish (if_pos (by rw [he]; rfl))

end

/-! ### The statement -/

/-- Settles O49: the link's loss by what each channel's withdrawal leaves, host accesses and freed lines by what the front end grants, errors by
their records, and the rest by the branch that the premises select. -/
theorem theHostLinkCarriesAndFails : Obligations.TheHostLinkCarriesAndFails :=
  ⟨fun _ _ _ hi hp hl => cxlLink_goesDown hi hp hl,
    fun l _ => ⟨fun h => gives_unchanged (congrArg finish (cxlDown_down l h)), fun h => gives_unchanged (execRefclkCxlLoss_idle l h)⟩,
    fun _ _ _ hl h0 h6 hw hh => gives_finish (execCxlLinkUp_trains hl h0 h6 hw hh) rfl,
    fun _ _ _ h => gives_unchanged (execCxlLinkUp_refused h),
    fun _ hl hb => gives_finish (execL1EntryRequest_enters hl hb) rfl,
    fun _ h => gives_unchanged (execL1EntryRequest_refused h),
    fun _ x _ hl h1 hh => gives_finish (execL1Exit_leaves x hl h1 hh) rfl,
    fun _ x _ h => gives_unchanged (execL1Exit_idle x h),
    fun _ _ hl hw hm => gives_finish (execL0pRequest_taken hl hw hm) rfl,
    fun _ _ h => gives_unchanged (execL0pRequest_refused h),
    fun _ _ _ hl hb hs hd ha hp hc hn hw hg hf hm => cxlMemRequest_granted hl hb hs hd ha hp hc hn hw hg hf hm,
    fun _ _ _ hl hb hs hd ha hr => cxlMemRequest_tracked hl hb hs hd ha hr,
    fun _ _ hl hb hs hd ha => gives_finish (execCxlMemRequest_outside hl hb hs hd ha) rfl,
    fun _ _ h => gives_unchanged (execCxlMemRequest_dropped h),
    fun l _ => ⟨fun h => gives_finish (execHostSnoop_answered l h) rfl, fun h => gives_unchanged (execHostSnoop_down l h)⟩,
    fun _ _ _ ha hw hl ht hc hg hf hm => backInvalidateResponse_lets ha hw hl ht hc hg hf hm,
    fun _ _ h => gives_unchanged (execBackInvalidateResponse_unasked h),
    cxlInternalError_recorded,
    fun _ _ hq => ⟨completionTimeout_fetch hq, completionTimeout_reply hq⟩,
    fun _ a p _ hn hb => completionTimeout_dma hn a p hb,
    fun _ _ _ he hp => gives_finish (execMsixUnmask_pending he hp) ⟨storeFind_insert_same _ _ _, storeFind_drop_same _ _, rfl⟩,
    fun _ _ _ he hp => gives_finish (execMsixUnmask_quiet he hp) ⟨storeFind_insert_same _ _ _, rfl⟩,
    fun _ _ _ h => gives_unchanged (execMsixUnmask_absent h)⟩

end Sys2Proof.Machine
end

section
/-!
PROOFS. Accesses to scratchpad banks: which are refused and which are served, what a served one reads and writes, accesses that collide, and
errors (R343, R344, R346 to R348, R465, R467).
-/
namespace Sys2Proof.Machine

/-! ### Commands that return a value -/

/-- What a command that returns the value `d` leaves of a state `v`: the value read, and the outputs that follow. -/
structure ReadEnds (d : DWord) (v t : State) : Prop where
  value : t.lastRead = d
  regs : ∀ r i, r ≠ .SEC_STS → t.reg r i = v.reg r i
  taken : t.bpTaken = v.bpTaken
  streams : t.streams = v.streams
  memory : SameMemory v t

theorem gives_read {c : Instr} {s v : State} {d : DWord} {P : State → Prop} (h : exec c s = finish { v with lastRead := d })
    (hp : ∀ t, ReadEnds d v t → P t) : Gives c s P :=
  gives_finish h (hp _ ⟨rfl, fun r i hr => reg_settle { v with lastRead := d } r i hr, rfl, rfl, sameMemory_of_mems rfl rfl rfl⟩)

/-! ### Single writes at a run of addresses -/

/-- Bytes written one by one, byte `i` at address `f i`. -/
def writeEach (f : Nat → Nat) (g : Nat → Byte) (m : Store Byte) (n : Nat) : Store Byte := (List.range n).foldl (fun m i => memWrite m (f i) (g i)) m

theorem writeEach_succ (f : Nat → Nat) (g : Nat → Byte) (m : Store Byte) (n : Nat) :
    writeEach f g m (n + 1) = memWrite (writeEach f g m n) (f n) (g n) := by
  rw [writeEach, List.range_succ, List.foldl_append]
  rfl

/-- A byte at none of the addresses reads as before. -/
theorem memRead_writeEach_out (f : Nat → Nat) (g : Nat → Byte) (m : Store Byte) {a n : Nat} (h : a ∉ (List.range n).map f) :
    memRead (writeEach f g m n) a = memRead m a := by
  induction n with
  | zero => rfl
  | succ n ih =>
    rw [List.range_succ, List.map_append, List.mem_append, not_or] at h
    rw [writeEach_succ, memRead_memWrite, if_neg fun e => h.2 (by simp [e]), ih h.1]

/-- At addresses that differ, each byte reads back. -/
theorem memRead_writeEach_in {f : Nat → Nat} (g : Nat → Byte) (m : Store Byte) {i n : Nat} (hi : i < n)
    (hf : ∀ j k, j < n → k < n → f j = f k → j = k) : memRead (writeEach f g m n) (f i) = g i := by
  induction n with
  | zero => omega
  | succ n ih =>
    rw [writeEach_succ, memRead_memWrite]
    split
    next he => rw [hf n i (by omega) hi he]
    next he =>
      have hin : i ≠ n := fun h => he (by rw [h])
      exact ih (by omega) fun j k hj hk => hf j k (by omega) (by omega)

/-! ### The bytes of an access -/

/-- The bytes of an access of at most one word's length lie at different places of its bank (R346). -/
theorem bankOffset_inj {s : State} {u b o j k : Nat} (hj : j < 64) (hk : k < 64) (h : s.bankOffset u b o j = s.bankOffset u b o k) : j = k := by
  unfold State.bankOffset at h
  split at h <;> omega

theorem spdWrite_eq (s : State) (u b o : Nat) (d : List Byte) : s.spdWrite u b o d =
    { s with spad := writeEach (fun i => spdAddr b (s.bankOffset u b o i)) (fun i => (d[i]?).getD 0) s.spad d.length } := rfl

/-- A write changes its bytes and no others. -/
theorem memRead_spdWrite_out (s : State) (u b o : Nat) (d : List Byte) {a : Nat}
    (h : a ∉ (List.range d.length).map fun i => spdAddr b (s.bankOffset u b o i)) : memRead (s.spdWrite u b o d).spad a = memRead s.spad a :=
  memRead_writeEach_out _ _ _ h

/-- What is written reads back. -/
theorem spdRead_spdWrite (s : State) (u b o : Nat) {d : List Byte} (h : d.length ≤ 64) : (s.spdWrite u b o d).spdRead u b o d.length = d := by
  refine List.ext_getElem (by simp [State.spdRead]) fun i h1 h2 => ?_
  have hin : memRead (s.spdWrite u b o d).spad (spdAddr b (s.bankOffset u b o i)) = (d[i]?).getD 0 :=
    memRead_writeEach_in (f := fun i => spdAddr b (s.bankOffset u b o i)) _ s.spad h2 fun j k hj hk he =>
      bankOffset_inj (s := s) (u := u) (b := b) (o := o) (by omega) (by omega) (Nat.add_left_cancel he)
  simp only [State.spdRead, List.getElem_map, List.getElem_range]
  exact hin.trans (by simp [h2])

/-- What is read depends on the bytes and on how the bank is configured. -/
theorem spdRead_congr {s t : State} {b : Nat} (hp : t.spad = s.spad) (hc : t.reg .SPD_BANK_CFG b = s.reg .SPD_BANK_CFG b) (u o n : Nat) :
    t.spdRead u b o n = s.spdRead u b o n := by
  have hr : t.flag SPD_BANK_CFG_ROTATE b = s.flag SPD_BANK_CFG_ROTATE b := flag_congr hc
  simp only [State.spdRead, State.bankOffset, hp, hr]

theorem spdRead_settle (s : State) (u b o n : Nat) : (settle s).spdRead u b o n = s.spdRead u b o n :=
  spdRead_congr (s := s) (t := settle s) rfl (reg_settle s .SPD_BANK_CFG b (by simp)) u o n

/-! ### Which accesses are heeded -/

/-- The data of an access is not of the length that it says. -/
def badBytes (x : SpdAccess) : Bool := match x.data with | some d => d.length != x.bytes | none => false

/-- An access within a bank, of 1 to 64 bytes, with the data that it says. -/
structure SoundAccess (x : SpdAccess) : Prop where
  bank : x.bank < 64
  some : 0 < x.bytes
  most : x.bytes ≤ 64
  offset : x.offset < 262144
  data : badBytes x = false

theorem badBytes_none {x : SpdAccess} (h : x.data = none) : badBytes x = false := by
  simp only [badBytes, h]

theorem badBytes_some {x : SpdAccess} {d : List Byte} (h : x.data = some d) (hd : d.length = x.bytes) : badBytes x = false := by
  simp only [badBytes, h]
  exact bne_eq_false_iff_eq.mpr hd

theorem badBytes_false {x : SpdAccess} (h : (x.data.map List.length).getD x.bytes = x.bytes) : badBytes x = false := by
  cases hx : x.data with
  | none => exact badBytes_none hx
  | some d =>
    rw [hx] at h
    exact badBytes_some hx h

theorem SoundAccess.heeded {x : SpdAccess} (h : SoundAccess x) :
    ¬(64 ≤ x.bank ∨ 64 < x.bytes ∨ x.bytes = 0 ∨ 262144 ≤ x.offset ∨ badBytes x = true) := by
  obtain ⟨h1, h2, h3, h4, h5⟩ := h
  rw [h5]
  simp only [Bool.false_eq_true, or_false]
  omega

theorem execSpdAccess_ignored {x : SpdAccess} {s : State} (h : 64 ≤ x.bank ∨ 64 < x.bytes ∨ x.bytes = 0 ∨ 262144 ≤ x.offset) :
    execSpdAccess x s = finish s := by
  refine congrArg finish (if_pos ?_)
  rcases h with h | h | h | h
  · exact .inl h
  · exact .inr (.inl h)
  · exact .inr (.inr (.inl h))
  · exact .inr (.inr (.inr (.inl h)))

/-! ### Refused accesses -/

theorem execSpdAccess_refused {x : SpdAccess} {s : State} (hx : SoundAccess x)
    (h : s.bankAwake x.bank = false ∨ s.bankServes x.who x.bank x.data.isSome = false) :
    execSpdAccess x s = finish (s.refuseBank x.bank x.data.isSome) :=
  congrArg finish ((if_neg hx.heeded).trans (if_pos (h.imp (fun k => by rw [k]; rfl) fun k => by rw [k]; rfl)))

/-- The events of a refused access. -/
def State.refusalSeen (s : State) (b : Nat) : State :=
  if s.bankAwake b then s.setFld SPD_EVT_NOT_OWNER 1 else (s.setFld SPD_EVT_NOT_OWNER 1).setFld SPD_EVT_ASLEEP 1

theorem refuseBank_eq (s : State) (b : Nat) (w : Bool) :
    s.refuseBank b w = { s.refusalSeen b with lastRead := if w then s.lastRead else 0 } := by
  unfold State.refuseBank State.refusalSeen
  cases w <;> cases s.bankAwake b <;> rfl

theorem refusalSeen_facts (s : State) (b : Nat) :
    (s.refusalSeen b).flag SPD_EVT_NOT_OWNER = true ∧ Touches [.SPD_EVT] s (s.refusalSeen b) := by
  have hset := flag_setFld_one s SPD_EVT_NOT_OWNER 0 (by simp) (by simp)
  have ht := touches_setFld (rs := [.SPD_EVT]) s SPD_EVT_NOT_OWNER 1 0 (by simp)
  unfold State.refusalSeen
  split
  · exact ⟨hset, ht⟩
  · exact ⟨(flag_setFld_apart _ _ _ _ _ _ (by simp [Field.apart])).trans hset, ht.trans (touches_setFld _ _ _ _ (by simp))⟩

theorem spdAccess_refused {x : SpdAccess} {s : State} (hx : SoundAccess x)
    (h : s.bankAwake x.bank = false ∨ s.bankServes x.who x.bank x.data.isSome = false) :
    Gives (.spdAccess x) s fun t =>
      t.flag SPD_EVT_NOT_OWNER = true ∧ (x.data = none → t.lastRead = 0) ∧ OnlyRegs [.SPD_EVT] { s with lastRead := t.lastRead } t := by
  refine gives_finish (execSpdAccess_refused hx h) ?_
  rw [refuseBank_eq]
  obtain ⟨hset, ht⟩ := refusalSeen_facts s x.bank
  generalize s.refusalSeen x.bank = u at hset ht ⊢
  refine ⟨(flag_settle _ _ _ (by simp)).trans hset, fun hd => by rw [hd]; rfl, onlyRegs_of_touches ⟨?_, ht.2⟩⟩
  rw [ht.1]
  rfl

/-! ### Served accesses -/

section
variable {x : SpdAccess} {s : State} (hx : SoundAccess x) (ha : s.bankAwake x.bank = true)
include hx ha

theorem execSpdAccess_reads (hs : s.bankServes x.who x.bank false = true) (hd : x.data = none) (ho : x.other = none) :
    execSpdAccess x s = finish { s.bankError x.bank x.offset x.ecc with
      lastRead := BitVec.ofNat 64 (leNat ((s.spdRead x.who x.bank x.offset x.bytes).take 8)) } := by
  refine congrArg finish ((if_neg hx.heeded).trans ?_)
  simp [hd, ho, ha, hs, State.otherPort]

theorem execSpdAccess_writes {d : List Byte} (hs : s.bankServes x.who x.bank true = true) (hd : x.data = some d) (ho : x.other = none) :
    execSpdAccess x s = finish (s.spdWrite x.who x.bank x.offset d) := by
  refine congrArg finish ((if_neg hx.heeded).trans ?_)
  simp [hd, ho, ha, hs, State.otherPort]

/-- Two writes of synchronous ports to one word: port SA's bytes are written last (R348). -/
theorem execSpdAccess_collides {o : Nat} {d e : List Byte} (hs : s.bankServes x.who x.bank true = true) (hw : x.who ≤ 6) (hd : x.data = some d)
    (ho : x.other = some (o, e)) (hc : s.collide x.who x.bank x.offset x.bytes o e.length = true) :
    execSpdAccess x s = finish (((s.otherPort x (s.fld SPD_BANK_OWN_OWNER x.bank)).setFld SPD_EVT_WCOLL 1).spdWrite x.who x.bank x.offset d) := by
  have howner : s.fld SPD_BANK_OWN_OWNER x.bank = x.who := by
    simp only [State.bankServes, State.bankOwned, Bool.not_true, Bool.false_and, Bool.or_false, Bool.and_eq_true, beq_iff_eq] at hs
    exact hs.2.1
  refine congrArg finish ((if_neg hx.heeded).trans ?_)
  simp only [hd, ho, ha, hs, hc, hw, howner, Option.isSome_some, Bool.not_true, Bool.false_eq_true, or_self, if_false, decide_true, Bool.and_self,
    if_true]

/-- A bridge read of a word that a synchronous port writes (R348). -/
theorem execSpdAccess_busy {o : Nat} {e : List Byte} (hs : s.bankServes x.who x.bank false = true) (hw : 6 < x.who) (hd : x.data = none)
    (ho : x.other = some (o, e)) (hown : s.fld SPD_BANK_OWN_OWNER x.bank ≤ 6) (hc : s.collide x.who x.bank x.offset x.bytes o e.length = true) :
    execSpdAccess x s = finish (State.tookFree { (s.otherPort x (s.fld SPD_BANK_OWN_OWNER x.bank)).bump .SPD_BUSY_CNT with
      lastRead := (s.otherPort x (s.fld SPD_BANK_OWN_OWNER x.bank)).free }) := by
  refine congrArg finish ((if_neg hx.heeded).trans ?_)
  simp only [hd, ho, ha, hs, hc, hown, decide_eq_false (show ¬x.who ≤ 6 by omega), Option.isSome_none, Bool.not_true, Bool.not_false,
    Bool.false_eq_true, or_self, if_false, decide_true, Bool.and_self, if_true]

end

/-- The write of the other port changes the scratchpads alone. -/
theorem otherPort_eq (s : State) (x : SpdAccess) (u : Nat) : s.otherPort x u = { s with spad := (s.otherPort x u).spad } := by
  unfold State.otherPort
  split
  · split <;> rfl
  · rfl

theorem spdAccess_writes {x : SpdAccess} {d : List Byte} {s : State} (hx : SoundAccess x) (ha : s.bankAwake x.bank = true)
    (hs : s.bankServes x.who x.bank true = true) (hd : x.data = some d) (hl : d.length = x.bytes) (ho : x.other = none) :
    Gives (.spdAccess x) s fun t =>
      t.spdRead x.who x.bank x.offset x.bytes = d ∧ t = settle { s with spad := t.spad } ∧
      ∀ a, a ∉ (List.range x.bytes).map (fun i => spdAddr x.bank (s.bankOffset x.who x.bank x.offset i)) → memRead t.spad a = memRead s.spad a := by
  refine gives_finish (execSpdAccess_writes hx ha hs hd ho) ⟨?_, rfl, fun a h => ?_⟩
  · rw [spdRead_settle, ← hl, spdRead_spdWrite _ _ _ _ (by have := hx.most; omega)]
  · rw [← hl] at h
    exact memRead_spdWrite_out s _ _ _ d h

theorem spdAccess_collides {x : SpdAccess} {o : Nat} {d e : List Byte} {s : State} (hx : SoundAccess x) (ha : s.bankAwake x.bank = true)
    (hs : s.bankServes x.who x.bank true = true) (hw : x.who ≤ 6) (hd : x.data = some d) (hl : d.length = x.bytes) (ho : x.other = some (o, e))
    (hc : s.collide x.who x.bank x.offset x.bytes o e.length = true) :
    Gives (.spdAccess x) s fun t =>
      t.spdRead x.who x.bank x.offset x.bytes = d ∧ t.flag SPD_EVT_WCOLL = true ∧ OnlyRegs [.SPD_EVT] { s with spad := t.spad } t := by
  refine gives_finish (execSpdAccess_collides hx ha hs hw hd ho hc) ?_
  rw [otherPort_eq]
  generalize (s.otherPort x _).spad = m
  generalize hv : ({ s with spad := m } : State) = v
  have hset := flag_setFld_one v SPD_EVT_WCOLL 0 (by simp) (by simp)
  have ht := touches_setFld (rs := [.SPD_EVT]) v SPD_EVT_WCOLL 1 0 (by simp)
  subst hv
  refine ⟨?_, (flag_settle _ _ _ (by simp)).trans hset, onlyRegs_of_touches ⟨rfl, ht.2⟩⟩
  rw [spdRead_settle, ← hl, spdRead_spdWrite _ _ _ _ (by have := hx.most; omega)]

theorem spdAccess_busy {x : SpdAccess} {o : Nat} {e : List Byte} {s : State} (hx : SoundAccess x) (ha : s.bankAwake x.bank = true)
    (hs : s.bankServes x.who x.bank false = true) (hw : 6 < x.who) (hd : x.data = none) (ho : x.other = some (o, e))
    (hown : s.fld SPD_BANK_OWN_OWNER x.bank ≤ 6) (hc : s.collide x.who x.bank x.offset x.bytes o e.length = true) :
    Gives (.spdAccess x) s fun t => t.regN .SPD_BUSY_CNT = min 0xFFFFFFFF (s.regN .SPD_BUSY_CNT + 1) ∧ SameRegs [.SPD_BUSY_CNT] s t := by
  refine gives_finish (execSpdAccess_busy hx ha hs hw hd ho hown hc) ?_
  rw [otherPort_eq]
  generalize (s.otherPort x _).spad = m
  exact ⟨(regN_settle _ _ _ (by simp)).trans (regN_bump_same { s with spad := m } _ _ _),
    sameRegs_settle (touches_bump (rs := [.SPD_BUSY_CNT]) { s with spad := m } _ _ _ (by simp)).2⟩

/-! ### Errors of a bank -/

/-- The registers of a spare that is claimed for a bank, or is not there (R465 to R467). -/
def claimRegs : List Reg := .SPR_EVT :: .SPR_PENDING :: faultOnly

theorem touches_noSpare (s : State) (u : Nat) : Touches claimRegs s (s.noSpare u) :=
  (touches_record s 19 u false (by simp [faultOnly, claimRegs])).trans (touches_event _ _ 0 (by simp [claimRegs]) (by simp [sourceOnly, claimRegs, faultOnly]))

theorem touches_ask (s : State) (r : SpareReq) : Touches [.SPR_PENDING] { s with spare := (s.ask r).spare } (s.ask r) := by
  unfold State.ask
  dsimp only
  split
  · exact touches_setReg _ _ _ 0 (by simp)
  · split <;> exact touches_setFld _ _ _ 0 (by simp)

/-- What a failing bank does: its spare is claimed, or there is none (R465, R467). -/
theorem touches_bankFails (s : State) (b : Nat) : Touches claimRegs { s with spare := (s.bankFails b).spare } (s.bankFails b) := by
  unfold State.bankFails
  split
  · exact Touches.refl _ _
  · split
    · have h := touches_noSpare s b
      rw [h.rest.spare]
      exact h
    · exact (touches_ask s _).mono (by simp [claimRegs])

/-- A fault that is recorded stays so when its bank fails. -/
theorem getLsbD_bankFails {s : State} {k : Nat} (b : Nat) (h : (s.reg .FC_STATUS).getLsbD k = true) : ((s.bankFails b).reg .FC_STATUS).getLsbD k = true := by
  unfold State.bankFails
  split
  · exact h
  · split
    · rw [State.noSpare, (touches_event_self _ _ _).2 _ _ (by simp [sourceOnly])]
      exact getLsbD_record b (by omega) h
    · rw [(touches_ask s _).2 _ _ (by simp)]
      exact h

/-- The counters and the address of an uncorrectable error (R347). -/
def State.errorSeen (s : State) (b o : Nat) : State := ((s.bump .SPD_UE_CNT).putN .SPD_ERR_ADDR (b % 64 + o % 262144 * 256)).setFld SPD_EVT_UE 1

theorem errorSeen_facts (s : State) {b o : Nat} (hb : b < 64) (ho : o < 262144) :
    (s.errorSeen b o).regN .SPD_UE_CNT = min 0xFFFFFFFF (s.regN .SPD_UE_CNT + 1) ∧ (s.errorSeen b o).flag SPD_EVT_UE = true ∧
      (s.errorSeen b o).regN .SPD_ERR_ADDR = b + o * 256 ∧ Touches [.SPD_UE_CNT, .SPD_ERR_ADDR, .SPD_EVT] s (s.errorSeen b o) := by
  refine ⟨?_, flag_setFld_one _ _ _ (by simp) (by simp), ?_, ((touches_bump s _ _ _ (by simp)).trans (touches_putN _ _ _ _ (by simp))).trans
    (touches_setFld _ _ _ _ (by simp))⟩
  · rw [State.errorSeen, (touches_setFld (rs := [.SPD_EVT]) _ SPD_EVT_UE 1 0 (by simp)).regN (by simp),
      (touches_putN (rs := [.SPD_ERR_ADDR]) _ _ _ 0 (by simp)).regN (by simp), regN_bump_same]
  · rw [State.errorSeen, (touches_setFld (rs := [.SPD_EVT]) _ SPD_EVT_UE 1 0 (by simp)).regN (by simp), regN_putN_same _ _ _ _ (by omega)]
    omega

theorem bankError_uncorrectable (s : State) (b o : Nat) : s.bankError b o .uncorrectable = ((s.errorSeen b o).record 16 b).bankFails b := rfl

theorem spdAccess_reads {x : SpdAccess} {s : State} (hx : SoundAccess x) (ha : s.bankAwake x.bank = true)
    (hs : s.bankServes x.who x.bank false = true) (hd : x.data = none) (ho : x.other = none) :
    (x.ecc = .clean → Gives (.spdAccess x) s fun t =>
      t = settle { s with lastRead := BitVec.ofNat 64 (leNat ((s.spdRead x.who x.bank x.offset x.bytes).take 8)) }) ∧
    (x.ecc = .corrected → s.fld SPR_CFG_BANK_CE = 0 → Gives (.spdAccess x) s fun t =>
      t.regN .SPD_CE_CNT = min 0xFFFFFFFF (s.regN .SPD_CE_CNT + 1) ∧ SameRegs [.SPD_CE_CNT] s t ∧ SameMemory s t ∧
      t.lastRead = BitVec.ofNat 64 (leNat ((s.spdRead x.who x.bank x.offset x.bytes).take 8))) ∧
    (x.ecc = .uncorrectable → Gives (.spdAccess x) s fun t =>
      t.regN .SPD_UE_CNT = min 0xFFFFFFFF (s.regN .SPD_UE_CNT + 1) ∧ t.flag SPD_EVT_UE = true ∧ (t.reg .FC_STATUS).getLsbD 16 = true ∧
      t.regN .SPD_ERR_ADDR = x.bank + x.offset * 256 ∧ SameMemory s t) := by
  have he := execSpdAccess_reads hx ha hs hd ho
  refine ⟨fun hc => ?_, fun hc h0 => ?_, fun hc => ?_⟩ <;> rw [hc] at he
  · exact gives_finish he rfl
  · have hcount : s.bankError x.bank x.offset .corrected =
        { s.bump .SPD_CE_CNT with spare := { s.spare with
          bankCe := storeInsert s.spare.bankCe x.bank ((storeFind s.spare.bankCe x.bank).getD 0 + 1) } } :=
      if_neg fun h => absurd h.1 (by rw [h0]; exact Nat.lt_irrefl 0)
    have hk := touches_bump (rs := [.SPD_CE_CNT]) s .SPD_CE_CNT 1 0 (by simp)
    rw [hcount] at he
    refine gives_read he fun t ht => ⟨?_, fun r i hr hs => (ht.regs r i hs).trans (hk.2 r i hr), hk.sameMemory.trans ht.memory, ht.value⟩
    exact (regN_congr (ht.regs _ _ (by simp))).trans (regN_bump_same s _ _ _)
  · rw [bankError_uncorrectable] at he
    obtain ⟨hcnt, hevt, haddr, hk⟩ := errorSeen_facts s hx.bank hx.offset
    generalize s.errorSeen x.bank x.offset = u at he hcnt hevt haddr hk
    have hrec := touches_record u 16 x.bank false fun _ h => h
    have hbit := getLsbD_bankFails x.bank (getLsbD_record_same u x.bank (show 16 < 37 by omega))
    have hf := touches_bankFails (u.record 16 x.bank) x.bank
    have hreg : ∀ r i, r ∉ claimRegs → ((u.record 16 x.bank).bankFails x.bank).reg r i = u.reg r i := fun r i hr =>
      (hf.2 r i hr).trans (hrec.2 r i (notMem_part hr (by simp [claimRegs, faultOnly])))
    refine gives_read he fun t ht => ?_
    have hall : ∀ r i, r ∉ Reg.SEC_STS :: claimRegs → t.reg r i = u.reg r i := fun r i hr =>
      (ht.regs r i (List.ne_of_not_mem_cons hr)).trans (hreg r i (List.not_mem_of_not_mem_cons hr))
    exact ⟨(regN_congr (hall _ _ (by simp [claimRegs, faultOnly]))).trans hcnt, (flag_congr (hall _ _ (by simp [claimRegs, faultOnly]))).trans hevt,
      (congrArg (BitVec.getLsbD · 16) (ht.regs _ _ (by simp))).trans hbit, (regN_congr (hall _ _ (by simp [claimRegs, faultOnly]))).trans haddr,
      ((hk.sameMemory.trans hrec.sameMemory).trans hf.sameMemory).trans ht.memory⟩

end Sys2Proof.Machine
end

section
/-!
PROOFS. Scratchpad banks change owner and state, and the copy of one to the spare bank ends (R344, R345, R349, R467).
-/
namespace Sys2Proof.Machine

/-- A command processor that writes with PF0's authority is that of the lead half (R388). -/
theorem actsAsPf0_leads {s : State} {h : Nat} (ha : s.actsAsPf0 (.cpx h) = true) : h = s.leadHalf := by
  simp only [State.actsAsPf0, Bool.and_eq_true, beq_iff_eq] at ha
  exact ha.1.symm

/-! ### A hand-over starts -/

theorem execSpdBankOwnWrite_pf0 {a : Agent} {b : Nat} {s : State} (v : Word) (ha : s.actsAsPf0 a = true) (hb : b < 64) :
    execSpdBankOwnWrite a b v s = finish (s.bankOwn b v.toNat) := by
  rw [execSpdBankOwnWrite, byAgent_pf0 ha]
  refine congrArg finish (if_neg (not_or.mpr ⟨?_, by omega⟩))
  cases a with
  | func f => simp
  | cpx h => simp [actsAsPf0_leads ha]

/-- The register of a bank whose hand-over is asked for (R345). -/
def State.ownAsked (s : State) (b u : Nat) (clear : Bool) : State :=
  ((s.setFld SPD_BANK_OWN_TARGET u b).setFld SPD_BANK_OWN_PENDING 1 b).setFlag SPD_BANK_OWN_CLEARING clear b

theorem ownAsked_facts (s : State) (b : Nat) {u : Nat} (clear : Bool) (hu : u < 16) :
    (s.ownAsked b u clear).fld SPD_BANK_OWN_TARGET b = u ∧ (s.ownAsked b u clear).flag SPD_BANK_OWN_PENDING b = true ∧
      (s.ownAsked b u clear).flag SPD_BANK_OWN_CLEARING b = clear ∧
      (s.ownAsked b u clear).fld SPD_BANK_OWN_OWNER b = s.fld SPD_BANK_OWN_OWNER b ∧ Touches [.SPD_BANK_OWN] s (s.ownAsked b u clear) := by
  refine ⟨?_, ?_, flag_setFlag_same _ _ _ _ (by simp) (by simp), ?_, ((touches_setFld s _ _ b (by simp)).trans
    (touches_setFld _ _ _ b (by simp))).trans (touches_setFlag _ _ _ b (by simp))⟩ <;> unfold State.ownAsked State.setFlag
  · rw [fld_setFld_apart _ _ _ _ _ _ (by simp [Field.apart]), fld_setFld_apart _ _ _ _ _ _ (by simp [Field.apart]), fld_setFld_same _ _ _ _ (by simp)]
    exact Nat.mod_eq_of_lt hu
  · exact (flag_setFld_apart _ _ _ _ _ _ (by simp [Field.apart])).trans (flag_setFld_one _ _ _ (by simp) (by simp))
  · rw [fld_setFld_apart _ _ _ _ _ _ (by simp [Field.apart]), fld_setFld_apart _ _ _ _ _ _ (by simp [Field.apart]),
      fld_setFld_apart _ _ _ _ _ _ (by simp [Field.apart])]

/-- A write that names another unit, or comes before the take-over, starts a hand-over or replaces its target (R345). -/
theorem bankOwn_asks {s : State} {b v : Nat} (hp : s.ownerPresent (v % 16) = true)
    (h : s.flag SPD_BANK_OWN_PENDING b = true ∨ s.fld SPD_BANK_OWN_OWNER b ≠ v % 16) :
    ∃ x, s.bankOwn b v = { s.ownAsked b (v % 16) (v.testBit 4) with banks := x } :=
  ⟨_, (if_neg (by rw [hp]; simp)).trans (if_neg fun k => h.elim (fun hf => by rw [hf] at k; exact Bool.false_ne_true k.1) fun hn => hn k.2)⟩

theorem spdBankOwnWrite_asks {a : Agent} {b : Nat} {v : Word} {s : State} (ha : s.actsAsPf0 a = true) (hb : b < 64)
    (hp : s.ownerPresent (v.toNat % 16) = true) (h : s.flag SPD_BANK_OWN_PENDING b = true ∨ s.fld SPD_BANK_OWN_OWNER b ≠ v.toNat % 16) :
    Gives (.spdBankOwnWrite a b v) s fun t =>
      t.fld SPD_BANK_OWN_TARGET b = v.toNat % 16 ∧ t.flag SPD_BANK_OWN_PENDING b = true ∧ t.flag SPD_BANK_OWN_CLEARING b = v.toNat.testBit 4 ∧
      t.fld SPD_BANK_OWN_OWNER b = s.fld SPD_BANK_OWN_OWNER b ∧ OnlyRegs [.SPD_BANK_OWN] { s with banks := t.banks } t := by
  obtain ⟨x, hx⟩ := bankOwn_asks hp h
  refine gives_finish ((execSpdBankOwnWrite_pf0 v ha hb).trans (congrArg finish hx)) ?_
  obtain ⟨htarget, hpend, hclear, howner, ht⟩ := ownAsked_facts s b (v.toNat.testBit 4) (show v.toNat % 16 < 16 by omega)
  generalize s.ownAsked b (v.toNat % 16) (v.toNat.testBit 4) = u at htarget hpend hclear howner ht ⊢
  refine ⟨(fld_settle _ _ _ (by simp)).trans htarget, (flag_settle _ _ _ (by simp)).trans hpend, (flag_settle _ _ _ (by simp)).trans hclear,
    (fld_settle _ _ _ (by simp)).trans howner, onlyRegs_of_touches ⟨?_, ht.2⟩⟩
  rw [ht.1]
  rfl

theorem spdBankOwnWrite_absent {a : Agent} {b : Nat} {v : Word} {s : State} (ha : s.actsAsPf0 a = true) (hb : b < 64)
    (hp : s.ownerPresent (v.toNat % 16) = false) :
    Gives (.spdBankOwnWrite a b v) s fun t => t.flag SPD_EVT_BAD_OWNER = true ∧ OnlyRegs [.SPD_EVT] s t :=
  gives_finish ((execSpdBankOwnWrite_pf0 v ha hb).trans (congrArg finish (if_pos (by rw [hp]; rfl))))
    ⟨(flag_settle _ _ _ (by simp)).trans (flag_setFld_one _ _ _ (by simp) (by simp)), onlyRegs_of_touches (touches_setFld _ _ _ _ (by simp))⟩

/-! ### A hand-over ends -/

/-- The contents of a bank, erased when `c` holds. -/
def erasedIf (c : Bool) (b : Nat) (m : Store Byte) : Store Byte := if c then storeErase (fun k => decide (k / 262144 = b)) m else m

/-- A bank that is erased lists no byte. -/
theorem erasedIf_none {c : Bool} (b : Nat) (m : Store Byte) (h : c = true) : ((erasedIf c b m).all fun e => decide (e.1 / 262144 ≠ b)) = true := by
  rw [h]
  simp [erasedIf, storeErase]

theorem erasedIf_same {c : Bool} (b : Nat) (m : Store Byte) (h : c = false) : erasedIf c b m = m := by
  rw [h]
  rfl

/-- The owner of a bank takes it over (R345). -/
def State.takenOver (s : State) (b : Nat) : State :=
  ((s.setFld SPD_BANK_OWN_OWNER (s.fld SPD_BANK_OWN_TARGET b) b).setFld SPD_BANK_OWN_PENDING 0 b).setFld SPD_BANK_OWN_CLEARING 0 b

theorem takenOver_facts (s : State) (b : Nat) :
    (s.takenOver b).fld SPD_BANK_OWN_OWNER b = s.fld SPD_BANK_OWN_TARGET b ∧ (s.takenOver b).flag SPD_BANK_OWN_PENDING b = false ∧
      (s.takenOver b).flag SPD_BANK_OWN_CLEARING b = false ∧ Touches [.SPD_BANK_OWN] s (s.takenOver b) := by
  refine ⟨?_, ?_, flag_setFld_zero _ _ _ (by simp), ((touches_setFld s _ _ b (by simp)).trans (touches_setFld _ _ _ b (by simp))).trans
    (touches_setFld _ _ _ b (by simp))⟩ <;> unfold State.takenOver
  · rw [fld_setFld_apart _ _ _ _ _ _ (by simp [Field.apart]), fld_setFld_apart _ _ _ _ _ _ (by simp [Field.apart]), fld_setFld_same _ _ _ _ (by simp)]
    exact Nat.mod_eq_of_lt (bitField_lt _ _ _)
  · exact (flag_setFld_apart _ _ _ _ _ _ (by simp [Field.apart])).trans (flag_setFld_zero _ _ _ (by simp))

/-- The instant at which a hand-over that began at `x` ends (R345). -/
def handoverEnd (x : Nat) (c : Bool) : Nat := x + cyclesNs (if c then 4160 else 64)

/-- A hand-over's drain and clearing have passed (R345). -/
def State.handoverWaited (s : State) (b x : Nat) (c : Bool) : State :=
  { s with tb := (s.reachRun (handoverEnd x c)).tb, spad := erasedIf c b s.spad }

theorem execSpdHandoverDone_takes {b x : Nat} {c : Bool} {s : State} (h : storeFind s.banks.handover b = some (x, c)) :
    execSpdHandoverDone b s =
      finish { (s.handoverWaited b x c).takenOver b with banks := { s.banks with handover := storeDrop s.banks.handover b } } := by
  have hw : (if c then (s.reachRun (x + cyclesNs (if c then 64 + 4096 else 64))).zeroBank b
      else s.reachRun (x + cyclesNs (if c then 64 + 4096 else 64))) = s.handoverWaited b x c := by
    rw [reachRun_frame]
    cases c <;> rfl
  rw [execSpdHandoverDone, h]
  dsimp only
  rw [hw]
  rfl

theorem spdHandoverDone_takes {b x : Nat} {c : Bool} {s : State} (h : storeFind s.banks.handover b = some (x, c)) :
    Gives (.spdHandoverDone b) s fun t =>
      t.fld SPD_BANK_OWN_OWNER b = s.fld SPD_BANK_OWN_TARGET b ∧ t.flag SPD_BANK_OWN_PENDING b = false ∧ t.flag SPD_BANK_OWN_CLEARING b = false ∧
      storeFind t.banks.handover b = none ∧ t.tb.run = max s.tb.run (x + cyclesNs (if c then 4160 else 64)) ∧
      (c = true → (t.spad.all fun e => decide (e.1 / 262144 ≠ b)) = true) ∧ (c = false → t.spad = s.spad) ∧ t.mem = s.mem ∧
      SameRegs [.SPD_BANK_OWN] s t := by
  refine gives_finish (execSpdHandoverDone_takes h) ?_
  obtain ⟨howner, hpend, hclear, ht⟩ := takenOver_facts (s.handoverWaited b x c) b
  have hspad : ((s.handoverWaited b x c).takenOver b).spad = erasedIf c b s.spad := rfl
  have hrun : ((s.handoverWaited b x c).takenOver b).tb.run = max s.tb.run (handoverEnd x c) := reachRun_run s _
  have hmem : ((s.handoverWaited b x c).takenOver b).mem = s.mem := rfl
  generalize (s.handoverWaited b x c).takenOver b = u at howner hpend hclear ht hspad hrun hmem ⊢
  refine ⟨(fld_settle _ _ _ (by simp)).trans howner, (flag_settle _ _ _ (by simp)).trans hpend, (flag_settle _ _ _ (by simp)).trans hclear,
    storeFind_drop_same _ _, hrun, fun hc => ?_, fun hc => ?_, hmem, sameRegs_settle ht.2⟩
  · rw [settle_spad, hspad]
    exact erasedIf_none b _ hc
  · rw [settle_spad, hspad]
    exact erasedIf_same b _ hc

/-! ### A change of state starts -/

theorem execSpdBankStateWrite_pf0 {a : Agent} {b : Nat} {s : State} (v : Word) (ha : s.actsAsPf0 a = true) (hb : b < 64) :
    execSpdBankStateWrite a b v s = finish (s.bankConfig b v.toNat) := by
  rw [execSpdBankStateWrite, byAgent_pf0 ha]
  refine congrArg finish (if_neg (not_or.mpr ⟨?_, by omega⟩))
  cases a with
  | func f => simp
  | cpx h => simp [actsAsPf0_leads ha]

/-- The registers of a bank that starts towards a state (R349). -/
def State.bankSent (s : State) (b v : Nat) : State := (s.putN .SPD_BANK_CFG (v % 16) b).setFld SPD_BANK_STS_TRANSIT 1 b

theorem bankSent_facts (s : State) (b v : Nat) : (s.bankSent b v).regN .SPD_BANK_CFG b = v % 16 ∧ (s.bankSent b v).flag SPD_BANK_STS_TRANSIT b = true ∧
    (s.bankSent b v).fld SPD_BANK_STS_STATE_NOW b = s.fld SPD_BANK_STS_STATE_NOW b ∧ Touches [.SPD_BANK_CFG, .SPD_BANK_STS] s (s.bankSent b v) := by
  refine ⟨?_, flag_setFld_one _ _ _ (by simp) (by simp), ?_, (touches_putN s _ _ b (by simp)).trans (touches_setFld _ _ _ b (by simp))⟩ <;>
    unfold State.bankSent
  · rw [(touches_setFld (rs := [.SPD_BANK_STS]) _ SPD_BANK_STS_TRANSIT 1 b (by simp)).regN (by simp) b, regN_putN_same _ _ _ _ (by omega)]
  · rw [fld_setFld_apart _ _ _ _ _ _ (by simp [Field.apart]), fld_putN_ne _ _ _ _ _ _ (by simp)]

theorem bankConfig_sends {s : State} {b v : Nat} (h3 : v % 4 ≠ 3) (ht : s.flag SPD_BANK_STS_TRANSIT b = false)
    (hc : (bankCycles (s.fld SPD_BANK_STS_STATE_NOW b) (v % 4)).isSome = true) : s.bankConfig b v =
      { s.bankSent b v with banks := { s.banks with moving := storeInsert s.banks.moving b (s.tb.run, v % 4) } } := by
  have hk := touches_putN (rs := [.SPD_BANK_CFG]) s .SPD_BANK_CFG (v % 16) b (by simp)
  refine (if_neg h3).trans (if_neg (not_or.mpr ⟨?_, ?_⟩))
  · rw [hk.flag (by simp) b, ht]
    exact Bool.false_ne_true
  · rw [hk.fld (by simp) b, ← Option.not_isSome, hc]
    exact Bool.false_ne_true

/-- A state written during a transition is kept for its end (R349). -/
theorem bankConfig_keeps {s : State} {b v : Nat} (h3 : v % 4 ≠ 3) (ht : s.flag SPD_BANK_STS_TRANSIT b = true) :
    s.bankConfig b v = s.putN .SPD_BANK_CFG (v % 16) b := by
  have hk := touches_putN (rs := [.SPD_BANK_CFG]) s .SPD_BANK_CFG (v % 16) b (by simp)
  exact (if_neg h3).trans (if_pos (.inl (by rw [hk.flag (by simp) b, ht])))

theorem spdBankStateWrite_sends {a : Agent} {b : Nat} {v : Word} {s : State} (ha : s.actsAsPf0 a = true) (hb : b < 64) (h3 : v.toNat % 4 ≠ 3)
    (ht : s.flag SPD_BANK_STS_TRANSIT b = false) (hc : (bankCycles (s.fld SPD_BANK_STS_STATE_NOW b) (v.toNat % 4)).isSome = true) :
    Gives (.spdBankStateWrite a b v) s fun t =>
      t.regN .SPD_BANK_CFG b = v.toNat % 16 ∧ t.flag SPD_BANK_STS_TRANSIT b = true ∧ storeFind t.banks.moving b = some (s.tb.run, v.toNat % 4) ∧
      t.fld SPD_BANK_STS_STATE_NOW b = s.fld SPD_BANK_STS_STATE_NOW b ∧ OnlyRegs [.SPD_BANK_CFG, .SPD_BANK_STS] { s with banks := t.banks } t := by
  refine gives_finish ((execSpdBankStateWrite_pf0 v ha hb).trans (congrArg finish (bankConfig_sends h3 ht hc))) ?_
  obtain ⟨hcfg, htransit, hnow, hk⟩ := bankSent_facts s b v.toNat
  generalize s.bankSent b v.toNat = u at hcfg htransit hnow hk ⊢
  refine ⟨(regN_settle _ _ _ (by simp)).trans hcfg, (flag_settle _ _ _ (by simp)).trans htransit, storeFind_insert_same _ _ _,
    (fld_settle _ _ _ (by simp)).trans hnow, onlyRegs_of_touches ⟨?_, hk.2⟩⟩
  rw [hk.1]
  rfl

theorem spdBankStateWrite_waits {a : Agent} {b : Nat} {v : Word} {s : State} (ha : s.actsAsPf0 a = true) (hb : b < 64) (h3 : v.toNat % 4 ≠ 3)
    (ht : s.flag SPD_BANK_STS_TRANSIT b = true) :
    Gives (.spdBankStateWrite a b v) s fun t => t.regN .SPD_BANK_CFG b = v.toNat % 16 ∧ OnlyRegs [.SPD_BANK_CFG] s t :=
  gives_finish ((execSpdBankStateWrite_pf0 v ha hb).trans (congrArg finish (bankConfig_keeps h3 ht)))
    ⟨(regN_settle _ _ _ (by simp)).trans (regN_putN_same _ _ _ _ (by omega)), onlyRegs_of_touches (touches_putN _ _ _ _ (by simp))⟩

/-! ### A change of state ends -/

/-- No transition leads from a state to itself. -/
theorem bankCycles_self {m : Nat} (h : m < 3) : bankCycles m m = none := by
  interval_cases m <;> rfl

/-- The status of a bank that has come to a state (R349). -/
def State.bankCame (s : State) (b m : Nat) : State := (s.setFld SPD_BANK_STS_STATE_NOW m b).setFld SPD_BANK_STS_TRANSIT 0 b

theorem bankCame_facts (s : State) (b : Nat) {m : Nat} (hm : m < 3) : (s.bankCame b m).fld SPD_BANK_STS_STATE_NOW b = m ∧
    (s.bankCame b m).flag SPD_BANK_STS_TRANSIT b = false ∧ Touches [.SPD_BANK_STS] s (s.bankCame b m) := by
  refine ⟨?_, flag_setFld_zero _ _ _ (by simp), (touches_setFld s _ _ b (by simp)).trans (touches_setFld _ _ _ b (by simp))⟩
  rw [State.bankCame, fld_setFld_apart _ _ _ _ _ _ (by simp [Field.apart]), fld_setFld_same _ _ _ _ (by simp)]
  exact Nat.mod_eq_of_lt (by simp; omega)

/-- A bank at the end of its transition; OFF has lost its contents (R349). -/
def State.bankArrived (s : State) (b m : Nat) : State :=
  { s.bankCame b m with
    banks := { s.banks with moving := storeDrop s.banks.moving b }
    spad := erasedIf (decide (m = 2)) b s.spad }

theorem bankArrive_settles {s : State} {b x m : Nat} (h : storeFind s.banks.moving b = some (x, m)) (hm : m < 3) (hp : s.fld PM_STATE_STATE < 2)
    (hc : s.fld SPD_BANK_CFG_STATE b = m) : s.bankArrive b = s.bankArrived b m := by
  obtain ⟨hnow, -, hk⟩ := bankCame_facts s b hm
  have hz : ∀ u : State, (if m = 2 then u.zeroBank b else u) = { u with spad := erasedIf (decide (m = 2)) b u.spad } := fun u => by
    by_cases h2 : m = 2
    · rw [if_pos h2, decide_eq_true h2]
      rfl
    · rw [if_neg h2, decide_eq_false h2]
      rfl
  rw [State.bankArrive, h]
  dsimp only
  rw [if_neg (by omega), hz]
  refine if_pos (.inr ?_)
  show (bankCycles ((s.bankCame b m).fld SPD_BANK_STS_STATE_NOW b) ((s.bankCame b m).fld SPD_BANK_CFG_STATE b)).isNone = true
  rw [hnow, hk.fld (by simp) b, hc, bankCycles_self hm]
  rfl

theorem spdBankTransitionDone_settles {b x m : Nat} {s : State} (h : storeFind s.banks.moving b = some (x, m)) (hm : m < 3)
    (hp : s.fld PM_STATE_STATE < 2) (hc : s.fld SPD_BANK_CFG_STATE b = m) :
    Gives (.spdBankTransitionDone b) s fun t =>
      t.fld SPD_BANK_STS_STATE_NOW b = m ∧ t.flag SPD_BANK_STS_TRANSIT b = false ∧ storeFind t.banks.moving b = none ∧
      t.tb.run = max s.tb.run (x + cyclesNs ((bankCycles (s.fld SPD_BANK_STS_STATE_NOW b) m).getD 0)) ∧
      (m = 2 → (t.spad.all fun e => decide (e.1 / 262144 ≠ b)) = true) ∧ (m ≠ 2 → t.spad = s.spad) ∧ SameRegs [.SPD_BANK_STS] s t := by
  generalize hn : x + cyclesNs ((bankCycles (s.fld SPD_BANK_STS_STATE_NOW b) m).getD 0) = n
  have he : exec (.spdBankTransitionDone b) s = finish ((s.reachRun n).bankArrive b) := by
    show execSpdBankTransitionDone b s = _
    rw [execSpdBankTransitionDone, h, ← hn]
  have hreg : ∀ r i, (s.reachRun n).reg r i = s.reg r i := reg_reachRun s n
  have hrun := reachRun_run s n
  have hspad := reachRun_spad s n
  have hbanks : (s.reachRun n).banks = s.banks := by rw [reachRun_frame]
  generalize s.reachRun n = v at he hreg hrun hspad hbanks
  rw [bankArrive_settles (by rw [hbanks, h]) hm (by rw [fld_congr (hreg _ _)]; exact hp) ((fld_congr (hreg _ _)).trans hc)] at he
  refine gives_finish he ?_
  obtain ⟨hnow, hidle, hk⟩ := bankCame_facts v b hm
  refine ⟨(fld_settle _ _ _ (by simp)).trans hnow, (flag_settle _ _ _ (by simp)).trans hidle, storeFind_drop_same _ _, hrun, fun h2 => ?_, fun h2 => ?_,
    sameRegs_settle fun r i hr => (hk.2 r i hr).trans (hreg r i)⟩
  · exact erasedIf_none b _ (decide_eq_true h2)
  · exact (erasedIf_same b _ (decide_eq_false h2)).trans hspad

/-! ### The copy to the spare bank ends -/

theorem rest_answerLater (s : State) (c : Option Cmd) (st d w : Nat) : Rest replyOnly s (s.answerLater c st d w) := by
  unfold State.answerLater
  split
  · split
    · exact answer_rest _ _ _ _ _
    · exact Rest.refl _ _
  · exact Rest.refl _ _

theorem logRepair_copy (s : State) (k p : Nat) : (s.logRepair k p).spare.copy = s.spare.copy := by
  unfold State.logRepair
  split
  · rw [(touches_event_self _ _ _).rest.spare]
    rfl
  · rfl

/-- A bank that the spare bank carries (R467). -/
def State.bankCopied (s : State) (b : Nat) : State :=
  ({ s with spare := { s.spare with copy := none } }.setFld SPD_BANK_STS_PHYS 64 b).setFlag SPR_PENDING_BANK
    (s.spare.reqs.any fun q => decide (24 ≤ q.handle) && decide (q.handle < 88))

theorem bankCopied_phys (s : State) (b : Nat) : (s.bankCopied b).fld SPD_BANK_STS_PHYS b = 64 := by
  rw [State.bankCopied, State.setFlag, fld_setFld_reg _ _ _ _ _ _ (by simp), fld_setFld_same _ _ _ _ (by simp)]
  rfl

theorem execSpdBankCopyDone_copied {b : Nat} {c : Option Cmd} {s : State} (h : s.spare.copy = some (b, c)) : execSpdBankCopyDone s =
    finish ((((s.bankCopied b).logRepair 3 b).event SPR_EVT_SWAP).answerLater c 0 0 (s.tickIndex % 2 ^ 32)) := by
  rw [execSpdBankCopyDone, h]
  rfl

theorem spdBankCopyDone_swaps {b : Nat} {c : Option Cmd} {s : State} (h : s.spare.copy = some (b, c)) :
    Gives .spdBankCopyDone s fun t =>
      t.spare.copy = none ∧ t.fld SPD_BANK_STS_PHYS b = 64 ∧ t.flag SPR_EVT_SWAP = true ∧ t.streams = s.streams := by
  refine gives_finish (execSpdBankCopyDone_copied h) ?_
  have hphys := bankCopied_phys s b
  have hlog := touches_logRepair (s.bankCopied b) 3 b
  have hcopy : ((s.bankCopied b).logRepair 3 b).spare.copy = none := logRepair_copy _ _ _
  have hev := touches_event_self ((s.bankCopied b).logRepair 3 b) SPR_EVT_SWAP 0
  have hset := flag_event_same ((s.bankCopied b).logRepair 3 b) SPR_EVT_SWAP 0 (by simp) (by simp) (by simp [sourceOnly])
  have hstreams : (((s.bankCopied b).logRepair 3 b).event SPR_EVT_SWAP).streams = s.streams := hev.streams.trans hlog.streams
  have hregs : (((s.bankCopied b).logRepair 3 b).event SPR_EVT_SWAP).reg .SPD_BANK_STS b = (s.bankCopied b).reg .SPD_BANK_STS b :=
    (hev.2 _ _ (by simp [sourceOnly])).trans (hlog.2 _ _ (by simp [logRegs]))
  rw [← hev.rest.spare] at hcopy
  generalize ((s.bankCopied b).logRepair 3 b).event SPR_EVT_SWAP = u at hset hstreams hregs hcopy ⊢
  have ha := rest_answerLater u c 0 0 (s.tickIndex % 2 ^ 32)
  refine ⟨?_, ?_, ?_, ha.streams.trans hstreams⟩
  · rw [settle_spare, ha.spare, hcopy]
  · rw [fld_settle _ _ _ (by simp), fld_congr ((ha.2 _ _ (by simp [replyOnly])).trans hregs), hphys]
  · rw [flag_settle _ _ _ (by simp), flag_congr (ha.2 _ _ (by simp [replyOnly])), hset]

end Sys2Proof.Machine
end

section
/-!
PROOFS. The background test of the window caches: how a region's test starts, how it ends, and a row that fails (R350, R351, R468).
-/
namespace Sys2Proof.Machine

/-! ### A test starts -/

/-- The status of the tests while a region is tested (R351). -/
def State.testShown (s : State) (u r : Nat) : State :=
  ((s.setFld SPD_WCT_STS_PIPE u).setFld SPD_WCT_STS_REGION r).setFld SPD_WCT_STS_BUSY 1

theorem testShown_facts (s : State) {u r : Nat} (hu : u < 32) (hr : r < 128) : (s.testShown u r).flag SPD_WCT_STS_BUSY = true ∧
    (s.testShown u r).fld SPD_WCT_STS_PIPE = u ∧ (s.testShown u r).fld SPD_WCT_STS_REGION = r ∧ Touches [.SPD_WCT_STS] s (s.testShown u r) := by
  refine ⟨flag_setFld_one _ _ _ (by simp) (by simp), ?_, ?_, ((touches_setFld s _ _ 0 (by simp)).trans (touches_setFld _ _ _ 0 (by simp))).trans
    (touches_setFld _ _ _ 0 (by simp))⟩ <;> unfold State.testShown
  · rw [fld_setFld_apart _ _ _ _ _ _ (by simp [Field.apart]), fld_setFld_apart _ _ _ _ _ _ (by simp [Field.apart]), fld_setFld_same _ _ _ _ (by simp)]
    exact Nat.mod_eq_of_lt hu
  · rw [fld_setFld_apart _ _ _ _ _ _ (by simp [Field.apart]), fld_setFld_same _ _ _ _ (by simp)]
    exact Nat.mod_eq_of_lt hr

/-- Saving a context changes the contexts that are resident alone. -/
theorem evict_eq (s : State) (u r : Nat) : s.evict u r = { s with codec := (s.evict u r).codec } := by
  unfold State.evict
  split
  · split <;> rfl
  · rfl

theorem regionFor_lt (s : State) (u : Nat) : s.regionFor u 0 < 128 := by
  unfold State.regionFor
  split
  · omega
  · split <;> omega

/-- The tests and the next regions with one more test of a pipe (R350). -/
def Banks.startTest (x : Banks) (u r t : Nat) : Banks :=
  { x with testing := storeInsert x.testing (unitCluster u) (u, r, t), nextRegion := storeInsert x.nextRegion u (r, t) }

section
variable {u : Nat} {s : State} (hu : u < 20) (he : s.flag SPD_WCT_CFG_EN = true) (hp : s.clusterPresent (unitCluster u) = true)
  (hd : s.domOn (unitCluster u) = true) (ht : storeFind s.banks.testing (unitCluster u) = none) (hn : storeFind s.banks.nextRegion u = none)
  (hx : s.testable u = true)
include hu he hp hd ht hn hx

theorem execWindowCacheTestStart_starts : execWindowCacheTestStart u s =
    finish { (s.evict u (s.regionFor u 0)).testShown u (s.regionFor u 0) with banks := s.banks.startTest u (s.regionFor u 0) s.tb.run } := by
  have hheeded : ¬(20 ≤ u ∨ (!s.flag SPD_WCT_CFG_EN) = true ∨ (!s.clusterPresent (unitCluster u)) = true ∨ (!s.domOn (unitCluster u)) = true ∨
      (storeFind s.banks.testing (unitCluster u)).isSome = true) := by
    rw [he, hp, hd, ht]
    simp only [Bool.not_true, Option.isSome_none, Bool.false_eq_true, or_false]
    omega
  rw [execWindowCacheTestStart]
  refine congrArg finish ((if_neg hheeded).trans ?_)
  rw [hn]
  refine (if_neg (by rw [hx]; exact Bool.false_ne_true)).trans ?_
  show ({ (s.evict u (s.regionFor u 0)).testShown u (s.regionFor u 0) with
    banks := (s.evict u (s.regionFor u 0)).banks.startTest u (s.regionFor u 0) (s.evict u (s.regionFor u 0)).tb.run } : State) = _
  rw [evict_eq]

theorem windowCacheTestStart_starts : Gives (.windowCacheTestStart u) s fun t =>
    t.flag SPD_WCT_STS_BUSY = true ∧ t.fld SPD_WCT_STS_PIPE = u ∧ t.fld SPD_WCT_STS_REGION = s.regionFor u 0 ∧
    storeFind t.banks.testing (unitCluster u) = some (u, s.regionFor u 0, s.tb.run) ∧
    OnlyRegs [.SPD_WCT_STS] { s with banks := t.banks, codec := t.codec } t := by
  refine gives_finish (execWindowCacheTestStart_starts hu he hp hd ht hn hx) ?_
  have hr := regionFor_lt s u
  generalize s.regionFor u 0 = r at hr ⊢
  rw [evict_eq]
  obtain ⟨hbusy, hpipe, hregion, hk⟩ := testShown_facts { s with codec := (s.evict u r).codec } (show u < 32 by omega) hr
  generalize State.testShown { s with codec := (s.evict u r).codec } u r = v at hbusy hpipe hregion hk ⊢
  refine ⟨(flag_settle _ _ _ (by simp)).trans hbusy, (fld_settle _ _ _ (by simp)).trans hpipe, (fld_settle _ _ _ (by simp)).trans hregion,
    storeFind_insert_same _ _ _, onlyRegs_of_touches ⟨?_, hk.2⟩⟩
  rw [hk.1]
  rfl

end

theorem execWindowCacheTestStart_disabled {s : State} (c : Nat) (h : s.flag SPD_WCT_CFG_EN = false) : execWindowCacheTestStart c s = finish s :=
  congrArg finish (if_pos (.inr (.inl (by rw [h]; rfl))))

/-! ### A test ends -/

/-- The tests and the next regions once the test of a cluster is over (R350). -/
def Banks.endTest (x : Banks) (c u r t : Nat) : Banks :=
  { x with testing := storeDrop x.testing c, nextRegion := storeInsert x.nextRegion u ((r + 1) % 128, t) }

/-- The state once the test of a cluster is over: BUSY shows whether another runs. -/
def State.testEnded (s : State) (c u r t : Nat) : State :=
  State.setFlag { s with banks := s.banks.endTest c u r t } SPD_WCT_STS_BUSY (!(storeDrop s.banks.testing c).isEmpty)

/-- What the rows that fail leave is what the end of the test starts from. -/
theorem execWindowCacheTestDone_ends {c u r x : Nat} {s : State} (rows : List Nat) (h : storeFind s.banks.testing c = some (u, r, x)) :
    execWindowCacheTestDone c rows s = finish ((rows.foldl (fun (v : State) row => v.rowFails u r row) (s.reachRun (x + 2048))).testEnded c u r x) := by
  rw [execWindowCacheTestDone, h]
  rfl

theorem testEnded_touches (s : State) (c u r t : Nat) : Touches [.SPD_WCT_STS] { s with banks := s.banks.endTest c u r t } (s.testEnded c u r t) :=
  touches_setFlag _ _ _ 0 (by simp)

theorem windowCacheTestDone_passes {c u r x : Nat} {s : State} (h : storeFind s.banks.testing c = some (u, r, x)) :
    Gives (.windowCacheTestDone c []) s fun t =>
      storeFind t.banks.testing c = none ∧ storeFind t.banks.nextRegion u = some ((r + 1) % 128, x) ∧
      t.tb.run = max s.tb.run (x + 2048) ∧ t.flag SPD_WCT_STS_BUSY = !t.banks.testing.isEmpty ∧
      OnlyRegs [.SPD_WCT_STS] { s with banks := t.banks, tb := t.tb } t := by
  refine gives_finish (execWindowCacheTestDone_ends [] h) ?_
  rw [List.foldl_nil, reachRun_frame]
  have hrun := reachRun_run s (x + 2048)
  generalize (s.reachRun (x + 2048)).tb = y at hrun ⊢
  exact ⟨storeFind_drop_same _ _, storeFind_insert_same _ _ _, hrun,
    (flag_settle _ _ _ (by simp)).trans (flag_setFlag_same _ _ _ _ (by simp) (by simp)), onlyRegs_of_touches (testEnded_touches { s with tb := y } c u r x)⟩

/-! ### A row fails -/

/-- A row that failed is counted and recorded (R351). -/
def State.rowSeen (s : State) (u place : Nat) : State := ((s.bump .SPD_WCT_FAIL_CNT).putN .SPD_WCT_LAST place).record 17 u

/-- The registers of a row that failed (R351, R427). -/
def rowRegs : List Reg := .SPD_WCT_FAIL_CNT :: .SPD_WCT_LAST :: faultOnly

theorem rowSeen_facts (s : State) (u place : Nat) : (s.rowSeen u place).regN .SPD_WCT_FAIL_CNT = min 0xFFFFFFFF (s.regN .SPD_WCT_FAIL_CNT + 1) ∧
    ((s.rowSeen u place).reg .FC_STATUS).getLsbD 17 = true ∧ (s.rowSeen u place).reg .FC_LAST = faultRecord 17 u false s.tickIndex ∧
    Touches rowRegs s (s.rowSeen u place) := by
  have hk : Touches [.SPD_WCT_FAIL_CNT, .SPD_WCT_LAST] s ((s.bump .SPD_WCT_FAIL_CNT).putN .SPD_WCT_LAST place) :=
    (touches_bump s _ _ 0 (by simp)).trans (touches_putN _ _ _ 0 (by simp))
  have hcount : ((s.bump .SPD_WCT_FAIL_CNT).putN .SPD_WCT_LAST place).regN .SPD_WCT_FAIL_CNT = min 0xFFFFFFFF (s.regN .SPD_WCT_FAIL_CNT + 1) := by
    rw [(touches_putN (rs := [.SPD_WCT_LAST]) _ .SPD_WCT_LAST _ 0 (by simp)).regN (by simp), regN_bump_same]
  have htick : ((s.bump .SPD_WCT_FAIL_CNT).putN .SPD_WCT_LAST place).tickIndex = s.tickIndex := hk.regN (by simp)
  unfold State.rowSeen
  generalize (s.bump .SPD_WCT_FAIL_CNT).putN .SPD_WCT_LAST place = v at hk hcount htick ⊢
  have hrec := touches_record (rs := faultOnly) v 17 u false fun _ h => h
  refine ⟨(hrec.regN (by simp [faultOnly])).trans hcount, getLsbD_record_same v u (by omega), ?_,
    (hk.mono (by simp [rowRegs])).trans (hrec.mono (by simp +contextual [rowRegs]))⟩
  rw [last_record v (by omega), htick]

/-- A spare row takes the place of one that failed, and the repair log has it (R468, R471). -/
def State.rowReplaced (s : State) (u n place : Nat) : State :=
  (((s.setFld SPR_WC_ROWS_ROWS n u).logRepair 2 place).event SPR_EVT_WC_ROW).event SPR_EVT_SWAP

theorem rowReplaced_facts (s : State) (u place : Nat) {n : Nat} (hn : n < 64) : (s.rowReplaced u n place).fld SPR_WC_ROWS_ROWS u = n ∧
    (s.rowReplaced u n place).flag SPR_EVT_WC_ROW = true ∧
    Touches (.SPR_WC_ROWS :: logRegs) { s with spare := (s.rowReplaced u n place).spare } (s.rowReplaced u n place) := by
  have hrows : (s.setFld SPR_WC_ROWS_ROWS n u).fld SPR_WC_ROWS_ROWS u = n :=
    (fld_setFld_same _ _ _ _ (by simp)).trans (Nat.mod_eq_of_lt hn)
  have h1 := touches_setFld (rs := [.SPR_WC_ROWS]) s SPR_WC_ROWS_ROWS n u (by simp)
  unfold State.rowReplaced
  generalize s.setFld SPR_WC_ROWS_ROWS n u = a at hrows h1 ⊢
  have h2 := touches_logRepair a 2 place
  generalize a.logRepair 2 place = b at h2 ⊢
  have h3 := touches_event_self b SPR_EVT_WC_ROW 0
  have hset := flag_event_same b SPR_EVT_WC_ROW 0 (by simp) (by simp) (by simp [sourceOnly])
  generalize b.event SPR_EVT_WC_ROW = d at h3 hset ⊢
  have h4 := touches_event_self d SPR_EVT_SWAP 0
  have hshape : d.event SPR_EVT_SWAP = { s with spare := (d.event SPR_EVT_SWAP).spare, regs := (d.event SPR_EVT_SWAP).regs } := by
    have k1 := h1.1
    have k2 := h2.1
    have k3 := h3.1
    have k4 := h4.1
    rw [k4, k3, k2, k1]
  have hlog : ∀ r i, r ∉ logRegs → (d.event SPR_EVT_SWAP).reg r i = a.reg r i := fun r i hr =>
    ((h4.2 r i (notMem_part hr (by simp [sourceOnly, logRegs]))).trans (h3.2 r i (notMem_part hr (by simp [sourceOnly, logRegs])))).trans (h2.2 r i hr)
  refine ⟨?_, ?_, hshape, fun r i hr => ?_⟩
  · rw [fld_congr (hlog _ _ (by simp [logRegs])), hrows]
  · rw [flag_event_apart _ _ _ (by simp [sourceOnly]) (by simp [Field.apart]), hset]
  · rw [hlog r i (notMem_part hr (by simp +contextual)), h1.2 r i (notMem_part hr (by simp))]
    rfl

/-- Where a row lies, as `SPD_WCT_LAST` has it (R351). -/
def rowPlace (u r w : Nat) : Nat := u + r * 32 + w % 256 * 4096

/-- With a spare row left, a row that fails is recorded and replaced (R468). -/
theorem rowFails_replaced {s : State} {u : Nat} (r w : Nat) (h : s.fld SPR_WC_ROWS_ROWS u < 32) :
    s.rowFails u r w = (s.rowSeen u (rowPlace u r w)).rowReplaced u (s.fld SPR_WC_ROWS_ROWS u + 1) (rowPlace u r w) := by
  have hn : (s.rowSeen u (rowPlace u r w)).fld SPR_WC_ROWS_ROWS u = s.fld SPR_WC_ROWS_ROWS u :=
    (rowSeen_facts s u (rowPlace u r w)).2.2.2.fld (by simp [rowRegs, faultOnly]) u
  show (if (s.rowSeen u (rowPlace u r w)).fld SPR_WC_ROWS_ROWS u < 32 then
    (s.rowSeen u (rowPlace u r w)).rowReplaced u ((s.rowSeen u (rowPlace u r w)).fld SPR_WC_ROWS_ROWS u + 1) (rowPlace u r w) else _) = _
  rw [hn, if_pos h]

theorem windowCacheTestDone_fails {c u r x w : Nat} {s : State} (h : storeFind s.banks.testing c = some (u, r, x))
    (hr : s.fld SPR_WC_ROWS_ROWS u < 32) :
    Gives (.windowCacheTestDone c [w]) s fun t =>
      t.regN .SPD_WCT_FAIL_CNT = min 0xFFFFFFFF (s.regN .SPD_WCT_FAIL_CNT + 1) ∧ t.fld SPR_WC_ROWS_ROWS u = s.fld SPR_WC_ROWS_ROWS u + 1 ∧
      (t.reg .FC_STATUS).getLsbD 17 = true ∧ t.reg .FC_LAST = faultRecord 17 u false s.tickIndex ∧ t.flag SPR_EVT_WC_ROW = true ∧ SameMemory s t := by
  refine gives_finish (execWindowCacheTestDone_ends [w] h) ?_
  rw [List.foldl_cons, List.foldl_nil, reachRun_frame]
  generalize (s.reachRun (x + 2048)).tb = y
  rw [rowFails_replaced (s := { s with tb := y }) r w hr]
  obtain ⟨hcount, hstatus, hlast, hseen⟩ := rowSeen_facts { s with tb := y } u (rowPlace u r w)
  generalize State.rowSeen { s with tb := y } u (rowPlace u r w) = v at hcount hstatus hlast hseen ⊢
  obtain ⟨hrows, hevent, hrep⟩ := rowReplaced_facts v u (rowPlace u r w) (show State.fld { s with tb := y } SPR_WC_ROWS_ROWS u + 1 < 64 from by
    exact Nat.lt_of_le_of_lt hr (by omega))
  generalize v.rowReplaced u _ (rowPlace u r w) = z at hrows hevent hrep ⊢
  have hend := testEnded_touches z c u r x
  have hregs : ∀ q i, q ∉ [Reg.SPR_WC_ROWS, .SPR_STS, .SPR_EVT, .IC_PEND, .IC_MERGE_CNT, .SPD_WCT_STS] → (z.testEnded c u r x).reg q i = v.reg q i :=
    fun q i hq => (hend.2 q i (notMem_part hq (by simp))).trans (hrep.2 q i (notMem_part hq (by simp [logRegs])))
  refine ⟨?_, ?_, ?_, ?_, ?_, (hseen.sameMemory.trans hrep.sameMemory).trans hend.sameMemory⟩
  · rw [regN_settle _ _ _ (by simp), regN_congr (hregs _ _ (by simp)), hcount]
    rfl
  · rw [fld_settle _ _ _ (by simp), hend.fld (by simp) u]
    exact hrows
  · rw [reg_settle _ _ _ (by simp), hregs _ _ (by simp), hstatus]
  · rw [reg_settle _ _ _ (by simp), hregs _ _ (by simp), hlast]
    rfl
  · rw [flag_settle _ _ _ (by simp), hend.flag (by simp)]
    exact hevent

end Sys2Proof.Machine
end

section
/-!
PROOFS. Buffer pools: a pool that grants a buffer, one that answers EMPTY, a free that is taken or refused, and what a write of `BP_CFG` changes
(R357 to R360).
-/
namespace Sys2Proof.Machine

/-! ### What a pool's state depends on -/

theorem poolCount_congr {s t : State} {k : Nat} (h : t.reg .BP_CFG k = s.reg .BP_CFG k) : t.poolCount k = s.poolCount k := by
  rw [State.poolCount, fld_congr h, State.poolCount]

theorem bpLowest_congr {s t : State} (h : t.bpTaken = s.bpTaken) (k : Nat) : t.bpLowest k = s.bpLowest k := by
  rw [State.bpLowest, h, State.bpLowest]

theorem bpIsTaken_congr {s t : State} (h : t.bpTaken = s.bpTaken) (k i : Nat) : t.bpIsTaken k i = s.bpIsTaken k i := by
  rw [State.bpIsTaken, h, State.bpIsTaken]

theorem bpIsTaken_settle (s : State) (k i : Nat) : (settle s).bpIsTaken k i = s.bpIsTaken k i := bpIsTaken_congr (settle_bpTaken s) k i

/-- A pool holds at most 65,536 buffers (R363). -/
theorem poolCount_le (s : State) (k : Nat) : s.poolCount k ≤ 65536 := by
  rw [State.poolCount, clampNat]
  omega

/-! ### The status of a pool follows a change -/

/-- The registers that a pool's status and its events write (R358, R359). -/
def poolRegs : List Reg := [.BP_STS, .BP_EVT, .IC_PEND, .IC_MERGE_CNT]

theorem bpOver_facts (s : State) (k n : Nat) : (s.bpOver k n).fld BP_STS_IN_USE k = s.fld BP_STS_IN_USE k ∧ Touches poolRegs s (s.bpOver k n) := by
  have hset : ∀ b, Touches [.BP_STS] s (s.setFlag BP_STS_OVER b k) := fun b => touches_setFlag s _ b k (by simp)
  have hfld : ∀ b, (s.setFlag BP_STS_OVER b k).fld BP_STS_IN_USE k = s.fld BP_STS_IN_USE k := fun b =>
    fld_setFld_apart _ _ _ _ _ _ (by simp [Field.apart])
  unfold State.bpOver
  extract_lets hi was ovr s1
  have h1 : Touches poolRegs s s1 := (hset ovr).mono (by simp [poolRegs])
  split
  · exact ⟨hfld ovr, h1⟩
  · have hev := touches_event_self s1 BP_EVT_OVER k
    exact ⟨(hev.fld (by simp [sourceOnly]) k).trans (hfld ovr), h1.trans (hev.mono (by simp [sourceOnly, poolRegs]))⟩

/-- The registers of a pool's status after a change of IN_USE (R358, R359). -/
def State.poolShown (s : State) (k n : Nat) : State :=
  ((s.setFld BP_STS_IN_USE n k).setFlag BP_STS_EMPTY (decide (s.poolCount k ≤ n)) k).bpOver k n

theorem poolShown_facts (s : State) (k : Nat) {n : Nat} (hn : n < 131072) :
    (s.poolShown k n).fld BP_STS_IN_USE k = n ∧ Touches poolRegs s (s.poolShown k n) := by
  have hk : ∀ b, Touches poolRegs s ((s.setFld BP_STS_IN_USE n k).setFlag BP_STS_EMPTY b k) := fun b =>
    (touches_setFld s _ _ k (by simp [poolRegs])).trans (touches_setFlag _ _ _ k (by simp [poolRegs]))
  obtain ⟨huse, hover⟩ := bpOver_facts ((s.setFld BP_STS_IN_USE n k).setFlag BP_STS_EMPTY (decide (s.poolCount k ≤ n)) k) k n
  refine ⟨huse.trans ?_, (hk _).trans hover⟩
  rw [State.setFlag, fld_setFld_apart _ _ _ _ _ _ (by simp [Field.apart]), fld_setFld_same _ _ _ _ (by simp)]
  exact Nat.mod_eq_of_lt hn

theorem bpSync_eq (s : State) (k i n : Nat) : s.bpSync k i n =
    (s.poolShown k n).store .device (s.fld BP_MIRROR_ADDR k * 4096 + i / 8) [(s.poolShown k n).bpMapByte k i] := rfl

/-- A change of a pool's map shows in its status, and in the byte of its mirror that holds the buffer. -/
theorem bpSync_facts (s : State) (k i : Nat) {n : Nat} (hn : n < 131072) : (s.bpSync k i n).fld BP_STS_IN_USE k = n ∧
    Rest poolRegs s (s.bpSync k i n) ∧ OnlyBytes .device (s.fld BP_MIRROR_ADDR k * 4096 + i / 8) 1 s (s.bpSync k i n) := by
  rw [bpSync_eq]
  obtain ⟨huse, hk⟩ := poolShown_facts s k hn
  generalize (s.poolShown k n).bpMapByte k i = d
  generalize s.poolShown k n = u at huse hk ⊢
  generalize s.fld BP_MIRROR_ADDR k * 4096 + i / 8 = a
  have hst := rest_store poolRegs u .device a [d]
  refine ⟨huse, hk.rest.trans hst, fun sp b hb => ?_, fun b => by rw [hst.spad, hk.spad]⟩
  rw [byte_store_out u .device sp a b [d] (hb.imp_left Ne.symm), hk.sameMemory.1]

/-! ### A pool grants a buffer, or answers EMPTY -/

/-- A pool that has granted its lowest free buffer (R358). -/
def State.bpGranted (s : State) (k : Nat) : State :=
  State.bpSync { s with bpTaken := storeInsert s.bpTaken (k * 131072 + s.bpLowest k) true } k (s.bpLowest k) (s.fld BP_STS_IN_USE k + 1)

theorem bpGranted_facts {s : State} {k : Nat} (hr : s.fld BP_STS_IN_USE k < s.poolCount k) :
    (s.bpGranted k).bpIsTaken k (s.bpLowest k) = true ∧ (s.bpGranted k).fld BP_STS_IN_USE k = s.fld BP_STS_IN_USE k + 1 ∧
      (s.bpGranted k).streams = s.streams ∧ OnlyBytes .device (s.fld BP_MIRROR_ADDR k * 4096 + s.bpLowest k / 8) 1 s (s.bpGranted k) ∧
      ∀ r i, r ∉ poolRegs → (s.bpGranted k).reg r i = s.reg r i := by
  obtain ⟨huse, hrest, hbytes⟩ := bpSync_facts { s with bpTaken := storeInsert s.bpTaken (k * 131072 + s.bpLowest k) true } k (s.bpLowest k)
    (show s.fld BP_STS_IN_USE k + 1 < 131072 by have := poolCount_le s k; omega)
  refine ⟨?_, huse, hrest.streams, hbytes, hrest.2⟩
  refine (bpIsTaken_congr hrest.bpTaken k _).trans ?_
  exact congrArg (Option.getD · false) (storeFind_insert_same _ _ _)

theorem bpTake_grants {s : State} {k : Nat} {g : Bool} (he : s.flag BP_CFG_EN k = true) (hr : s.fld BP_STS_IN_USE k < s.poolCount k)
    (ho : g = false ∨ s.flag BP_STS_OVER k = false) : s.bpTake k g = (some (s.bpLowest k), s.bpGranted k) := by
  refine if_neg ?_
  rintro (h | h | ⟨h1, h2⟩)
  · rw [he] at h
    exact Bool.false_ne_true h
  · omega
  · exact ho.elim (ne_true_of_eq_false · h1) (ne_true_of_eq_false · h2)

theorem bpTake_empty {s : State} {k : Nat} {g : Bool}
    (h : s.flag BP_CFG_EN k = false ∨ s.poolCount k ≤ s.fld BP_STS_IN_USE k ∨ g = true ∧ s.flag BP_STS_OVER k = true) :
    s.bpTake k g = (none, s.bpEmpty k) :=
  if_pos (h.imp_left fun k => by rw [k]; rfl)

theorem bpEmpty_facts (s : State) (k : Nat) : (s.bpEmpty k).regN .BP_EMPTY_CNT k = min 0xFFFFFFFF (s.regN .BP_EMPTY_CNT k + 1) ∧
    (s.bpEmpty k).flag BP_EVT_EMPTY k = true ∧ Touches (.BP_EMPTY_CNT :: poolRegs) s (s.bpEmpty k) := by
  have hev := touches_event_self (s.bump .BP_EMPTY_CNT 1 k) BP_EVT_EMPTY k
  refine ⟨(hev.regN (by simp [sourceOnly]) k).trans (regN_bump_same _ _ _ _), flag_event_same _ _ _ (by simp) (by simp) (by simp [sourceOnly]),
    (touches_bump s _ _ k (by simp)).trans (hev.mono (by simp [sourceOnly, poolRegs]))⟩

/-- An allocation tries its own pool first (R360). -/
theorem poolsFrom_cons {k : Nat} (hk : k < 4) : ∃ l, poolsFrom k = k :: l ∧ (k = 3 → l = []) := by
  interval_cases k <;> exact ⟨_, rfl, by simp⟩

theorem bpAlloc_grants {s t : State} {k i : Nat} {g : Bool} {l : List Nat} (h : s.bpTake k g = (some i, t)) :
    s.bpAlloc g (k :: l) = (some (k, i), t) := by
  rw [State.bpAlloc, h]

/-- Without SPILL, or with no larger pool, EMPTY is the answer (R360). -/
theorem bpAlloc_empty {s t : State} {k : Nat} {g : Bool} {l : List Nat} (h : s.bpTake k g = (none, t)) (hl : l = [] ∨ s.flag BP_CFG_SPILL k = false) :
    s.bpAlloc g (k :: l) = (none, t) := by
  rw [State.bpAlloc, h]
  refine if_pos (hl.imp (fun e => by rw [e]; rfl) fun e => .inr (by rw [e]; rfl))

section
variable {s u : State} {k : Nat} {g : Bool} (ha : Touches [.ARB_STS] { s with arbPtr := u.arbPtr } u)
include ha

/-- A grant of the arbiter leaves the pools: a pool that had a buffer to grant grants it (R358). -/
theorem bpTake_afterGrant_grants (he : s.flag BP_CFG_EN k = true) (hu : s.fld BP_STS_IN_USE k < s.poolCount k)
    (ho : g = false ∨ s.flag BP_STS_OVER k = false) :
    ∃ v, u.bpTake k g = (some (s.bpLowest k), v) ∧ v.bpIsTaken k (s.bpLowest k) = true ∧ v.fld BP_STS_IN_USE k = s.fld BP_STS_IN_USE k + 1 ∧
      v.streams = s.streams ∧ OnlyBytes .device (s.fld BP_MIRROR_ADDR k * 4096 + s.bpLowest k / 8) 1 s v ∧
      ∀ r i, r ∉ .ARB_STS :: poolRegs → v.reg r i = s.reg r i := by
  have hen : u.flag BP_CFG_EN k = s.flag BP_CFG_EN k := ha.flag (by simp) k
  have huse : u.fld BP_STS_IN_USE k = s.fld BP_STS_IN_USE k := ha.fld (by simp) k
  have hover : u.flag BP_STS_OVER k = s.flag BP_STS_OVER k := ha.flag (by simp) k
  have hmirror : u.fld BP_MIRROR_ADDR k = s.fld BP_MIRROR_ADDR k := ha.fld (by simp) k
  have hcount : u.poolCount k = s.poolCount k := poolCount_congr (ha.2 _ _ (by simp))
  have hlow : u.bpLowest k = s.bpLowest k := bpLowest_congr ha.rest.bpTaken k
  have hroom : u.fld BP_STS_IN_USE k < u.poolCount k := by rw [huse, hcount]; exact hu
  obtain ⟨htaken, hnow, hstreams, hbytes, hregs⟩ := bpGranted_facts hroom
  rw [hlow] at htaken hbytes
  rw [hmirror] at hbytes
  refine ⟨u.bpGranted k, ?_, htaken, hnow.trans (congrArg (· + 1) huse), hstreams.trans ha.streams, ⟨fun sp b hb => ?_, fun b => ?_⟩, fun r i hr => ?_⟩
  · rw [← hlow]
    exact bpTake_grants (hen.trans he) hroom (ho.imp_right hover.trans)
  · exact (hbytes.1 sp b hb).trans (ha.sameMemory.1 sp b)
  · exact (hbytes.2 b).trans (ha.sameMemory.2 b)
  · exact (hregs r i (notMem_part hr (by simp +contextual))).trans (ha.2 r i (notMem_part hr (by simp)))

/-- A grant of the arbiter leaves the pools: a pool that had none to grant answers EMPTY (R360). -/
theorem bpTake_afterGrant_empty
    (h : s.flag BP_CFG_EN k = false ∨ s.poolCount k ≤ s.fld BP_STS_IN_USE k ∨ g = true ∧ s.flag BP_STS_OVER k = true) :
    ∃ v, u.bpTake k g = (none, v) ∧ v.regN .BP_EMPTY_CNT k = min 0xFFFFFFFF (s.regN .BP_EMPTY_CNT k + 1) ∧ v.flag BP_EVT_EMPTY k = true ∧
      SameMemory s v ∧ v.bpTaken = s.bpTaken := by
  have hen : u.flag BP_CFG_EN k = s.flag BP_CFG_EN k := ha.flag (by simp) k
  have huse : u.fld BP_STS_IN_USE k = s.fld BP_STS_IN_USE k := ha.fld (by simp) k
  have hover : u.flag BP_STS_OVER k = s.flag BP_STS_OVER k := ha.flag (by simp) k
  have hcount : u.poolCount k = s.poolCount k := poolCount_congr (ha.2 _ _ (by simp))
  have hcnt : u.regN .BP_EMPTY_CNT k = s.regN .BP_EMPTY_CNT k := ha.regN (by simp) k
  obtain ⟨hbump, hevt, hk⟩ := bpEmpty_facts u k
  refine ⟨u.bpEmpty k, bpTake_empty ?_, by rw [hbump, hcnt], hevt, ha.sameMemory.trans hk.sameMemory, hk.rest.bpTaken.trans ha.rest.bpTaken⟩
  rw [hen, hcount, huse, hover]
  exact h

end

/-! ### Allocations -/

/-- The arbiter of the pools grants a requester. -/
theorem touches_poolGrant (s : State) (r : Nat) : Touches [.ARB_STS] { s with arbPtr := (s.arbGrant 3 (r % 8)).arbPtr } (s.arbGrant 3 (r % 8)) :=
  (arbGrant_facts s (show r % 8 < 64 by omega)).2.2

theorem execBpAllocate_some {k r p i : Nat} {s t : State} (h : (s.arbGrant 3 (r % 8)).bpAlloc (decide (r < 6)) (poolsFrom k) = (some (p, i), t)) :
    execBpAllocate k r s = finish { t with lastRead := BitVec.ofNat 64 (i + p * 2 ^ 24) } := by
  rw [execBpAllocate, h]

theorem execBpAllocate_none {k r : Nat} {s t : State} (h : (s.arbGrant 3 (r % 8)).bpAlloc (decide (r < 6)) (poolsFrom k) = (none, t)) :
    execBpAllocate k r s = finish { t with lastRead := 0x80000000 } := by
  rw [execBpAllocate, h]

theorem execBpAllocRead_some {k i : Nat} {s t : State} (h : (s.arbGrant 3 (7 % 8)).bpTake k false = (some i, t)) :
    execBpAllocRead k s = finish { t with lastRead := BitVec.ofNat 64 i } := by
  rw [execBpAllocRead, h]

theorem execBpAllocRead_none {k : Nat} {s t : State} (h : (s.arbGrant 3 (7 % 8)).bpTake k false = (none, t)) :
    execBpAllocRead k s = finish { t with lastRead := 0x80000000 } := by
  rw [execBpAllocRead, h]

theorem bpAllocate_grants {k r : Nat} {s : State} (hk : k < 4) (he : s.flag BP_CFG_EN k = true) (hu : s.fld BP_STS_IN_USE k < s.poolCount k)
    (ho : 6 ≤ r ∨ s.flag BP_STS_OVER k = false) :
    Gives (.bpAllocate k r) s fun t =>
      t.lastRead = BitVec.ofNat 64 (s.bpLowest k + k * 2 ^ 24) ∧ t.bpIsTaken k (s.bpLowest k) = true ∧
      t.fld BP_STS_IN_USE k = s.fld BP_STS_IN_USE k + 1 ∧ t.streams = s.streams ∧
      OnlyBytes .device (s.fld BP_MIRROR_ADDR k * 4096 + s.bpLowest k / 8) 1 s t ∧ SameRegs [.BP_STS, .BP_EVT, .ARB_STS, .IC_PEND, .IC_MERGE_CNT] s t := by
  obtain ⟨l, hl, -⟩ := poolsFrom_cons hk
  obtain ⟨v, htake, htaken, hnow, hstreams, hbytes, hregs⟩ := bpTake_afterGrant_grants (touches_poolGrant s r) (g := decide (r < 6)) he hu
    (ho.imp_left fun h => decide_eq_false (by omega))
  refine gives_read (execBpAllocate_some (by rw [hl]; exact bpAlloc_grants htake)) fun t ht => ?_
  exact ⟨ht.value, (bpIsTaken_congr ht.taken k _).trans htaken, (fld_congr (ht.regs _ _ (by simp))).trans hnow, ht.streams.trans hstreams,
    ⟨fun sp b hb => (ht.memory.1 sp b).trans (hbytes.1 sp b hb), fun b => (ht.memory.2 b).trans (hbytes.2 b)⟩,
    fun q i hq hs => (ht.regs q i hs).trans (hregs q i (notMem_part hq (by simp [poolRegs])))⟩

theorem bpAllocate_empty {k r : Nat} {s : State} (hk : k < 4)
    (h : s.flag BP_CFG_EN k = false ∨ s.poolCount k ≤ s.fld BP_STS_IN_USE k ∨ r < 6 ∧ s.flag BP_STS_OVER k = true)
    (hs : k = 3 ∨ s.flag BP_CFG_SPILL k = false) :
    Gives (.bpAllocate k r) s fun t =>
      t.lastRead = 0x80000000 ∧ t.regN .BP_EMPTY_CNT k = min 0xFFFFFFFF (s.regN .BP_EMPTY_CNT k + 1) ∧ t.flag BP_EVT_EMPTY k = true ∧ SameMemory s t ∧
      t.bpTaken = s.bpTaken := by
  obtain ⟨l, hl, hlast⟩ := poolsFrom_cons hk
  have ha := touches_poolGrant s r
  obtain ⟨v, htake, hcnt, hevt, hmem, htaken⟩ := bpTake_afterGrant_empty ha (g := decide (r < 6)) (by rw [decide_eq_true_iff]; exact h)
  refine gives_read (execBpAllocate_none (by rw [hl]; exact bpAlloc_empty htake (hs.imp hlast (ha.flag (by simp) k).trans))) fun t ht => ?_
  exact ⟨ht.value, (regN_congr (ht.regs _ _ (by simp))).trans hcnt, (flag_congr (ht.regs _ _ (by simp))).trans hevt, hmem.trans ht.memory,
    ht.taken.trans htaken⟩

theorem bpAllocRead_grants {k : Nat} {s : State} (he : s.flag BP_CFG_EN k = true) (hu : s.fld BP_STS_IN_USE k < s.poolCount k) :
    Gives (.bpAllocRead k) s fun t =>
      t.lastRead = BitVec.ofNat 64 (s.bpLowest k) ∧ t.bpIsTaken k (s.bpLowest k) = true ∧ t.fld BP_STS_IN_USE k = s.fld BP_STS_IN_USE k + 1 := by
  obtain ⟨v, htake, htaken, hnow, -⟩ := bpTake_afterGrant_grants (touches_poolGrant s 7) he hu (.inl rfl)
  exact gives_read (execBpAllocRead_some htake) fun t ht =>
    ⟨ht.value, (bpIsTaken_congr ht.taken k _).trans htaken, (fld_congr (ht.regs _ _ (by simp))).trans hnow⟩

theorem bpAllocRead_empty {k : Nat} {s : State} (h : s.flag BP_CFG_EN k = false ∨ s.poolCount k ≤ s.fld BP_STS_IN_USE k) :
    Gives (.bpAllocRead k) s fun t =>
      t.lastRead = 0x80000000 ∧ t.regN .BP_EMPTY_CNT k = min 0xFFFFFFFF (s.regN .BP_EMPTY_CNT k + 1) ∧ t.bpTaken = s.bpTaken := by
  obtain ⟨v, htake, hcnt, -, -, htaken⟩ := bpTake_afterGrant_empty (touches_poolGrant s 7) (h.imp_right .inl)
  exact gives_read (execBpAllocRead_none htake) fun t ht =>
    ⟨ht.value, (regN_congr (ht.regs _ _ (by simp))).trans hcnt, ht.taken.trans htaken⟩

/-! ### Frees -/

theorem execBpFreeWrite_pf0 {a : Agent} {s : State} (k : Nat) (v : Word) (ha : s.actsAsPf0 a = true) :
    execBpFreeWrite a k v s = finish ((s.setFld BP_FREE_INDEX (v.toNat % 131072) k).bpFree k (v.toNat % 131072)) := by
  rw [execBpFreeWrite, byAgent_pf0 ha]
  exact congrArg finish (if_neg (not_not.mpr rfl))

/-- A pool that has taken a buffer back (R358). -/
def State.bpReturned (s : State) (k i : Nat) : State :=
  State.bpSync { s with bpTaken := storeDrop s.bpTaken (k * 131072 + i) } k i (s.fld BP_STS_IN_USE k - 1)

theorem bpReturned_facts (s : State) (k i : Nat) :
    (s.bpReturned k i).bpIsTaken k i = false ∧ (s.bpReturned k i).fld BP_STS_IN_USE k = s.fld BP_STS_IN_USE k - 1 := by
  obtain ⟨huse, hrest, -⟩ := bpSync_facts { s with bpTaken := storeDrop s.bpTaken (k * 131072 + i) } k i
    (show s.fld BP_STS_IN_USE k - 1 < 131072 from Nat.lt_of_le_of_lt (Nat.sub_le _ _) (bitField_lt _ _ _))
  refine ⟨(bpIsTaken_congr hrest.bpTaken k i).trans ?_, huse⟩
  exact congrArg (Option.getD · false) (storeFind_drop_same _ _)

theorem bpFree_returns {s : State} {k i : Nat} (hi : i < s.poolCount k) (ht : s.bpIsTaken k i = true) : s.bpFree k i = s.bpReturned k i :=
  (if_neg (by omega)).trans (if_neg (by rw [ht]; exact Bool.false_ne_true))

theorem bpFree_double {s : State} {k i : Nat} (hi : i < s.poolCount k) (ht : s.bpIsTaken k i = false) :
    s.bpFree k i = ((s.event BP_EVT_DOUBLE_FREE k).bump .BP_DFREE_CNT 1 k).setFld BP_ERR_IDX_INDEX i k :=
  (if_neg (by omega)).trans (if_pos (by rw [ht]; rfl))

theorem bpFree_outside {s : State} {k i : Nat} (hi : s.poolCount k ≤ i) : s.bpFree k i = (s.event BP_EVT_BAD_FREE k).setFld BP_ERR_IDX_INDEX i k :=
  if_pos hi

section
variable {a : Agent} {k : Nat} {v : Word} {s : State} (ha : s.actsAsPf0 a = true)
include ha

theorem bpFreeWrite_returns (hi : v.toNat % 131072 < s.poolCount k) (ht : s.bpIsTaken k (v.toNat % 131072) = true) :
    Gives (.bpFreeWrite a k v) s fun t => t.bpIsTaken k (v.toNat % 131072) = false ∧ t.fld BP_STS_IN_USE k = s.fld BP_STS_IN_USE k - 1 := by
  refine gives_finish (execBpFreeWrite_pf0 k v ha) ?_
  generalize v.toNat % 131072 = i at hi ht ⊢
  have hk := touches_setFld (rs := [.BP_FREE]) s BP_FREE_INDEX i k (by simp)
  generalize s.setFld BP_FREE_INDEX i k = u at hk ⊢
  rw [bpFree_returns (by rw [poolCount_congr (hk.2 _ _ (by simp))]; exact hi) ((bpIsTaken_congr hk.rest.bpTaken k i).trans ht)]
  obtain ⟨hfree, huse⟩ := bpReturned_facts u k i
  exact ⟨(bpIsTaken_settle _ k i).trans hfree, (fld_settle _ _ _ (by simp)).trans (huse.trans (congrArg (· - 1) (hk.fld (by simp) k)))⟩

theorem bpFreeWrite_double (hi : v.toNat % 131072 < s.poolCount k) (ht : s.bpIsTaken k (v.toNat % 131072) = false) :
    Gives (.bpFreeWrite a k v) s fun t =>
      t.flag BP_EVT_DOUBLE_FREE k = true ∧ t.regN .BP_DFREE_CNT k = min 0xFFFFFFFF (s.regN .BP_DFREE_CNT k + 1) ∧
      t.fld BP_ERR_IDX_INDEX k = v.toNat % 131072 ∧ t.bpTaken = s.bpTaken ∧ SameMemory s t := by
  refine gives_finish (execBpFreeWrite_pf0 k v ha) ?_
  have hlt : v.toNat % 131072 < 131072 := by omega
  generalize v.toNat % 131072 = i at hi ht hlt ⊢
  have hk := touches_setFld (rs := [.BP_FREE]) s BP_FREE_INDEX i k (by simp)
  generalize s.setFld BP_FREE_INDEX i k = u at hk ⊢
  rw [bpFree_double (by rw [poolCount_congr (hk.2 _ _ (by simp))]; exact hi) ((bpIsTaken_congr hk.rest.bpTaken k i).trans ht)]
  have hev := touches_event_self u BP_EVT_DOUBLE_FREE k
  have hset := flag_event_same u BP_EVT_DOUBLE_FREE k (by simp) (by simp) (by simp [sourceOnly])
  generalize u.event BP_EVT_DOUBLE_FREE k = w at hev hset ⊢
  have hcnt := touches_bump (rs := [.BP_DFREE_CNT]) w .BP_DFREE_CNT 1 k (by simp)
  have hidx := touches_setFld (rs := [.BP_ERR_IDX]) (w.bump .BP_DFREE_CNT 1 k) BP_ERR_IDX_INDEX i k (by simp)
  refine ⟨?_, ?_, ?_, ?_, ((hk.sameMemory.trans hev.sameMemory).trans hcnt.sameMemory).trans hidx.sameMemory⟩
  · rw [flag_settle _ _ _ (by simp), hidx.flag (by simp) k, hcnt.flag (by simp) k, hset]
  · rw [regN_settle _ _ _ (by simp), hidx.regN (by simp) k, regN_bump_same, hev.regN (by simp [sourceOnly]) k, hk.regN (by simp) k]
  · rw [fld_settle _ _ _ (by simp), fld_setFld_same _ _ _ _ (by simp)]
    exact Nat.mod_eq_of_lt hlt
  · exact hev.rest.bpTaken.trans hk.rest.bpTaken

theorem bpFreeWrite_outside (hi : s.poolCount k ≤ v.toNat % 131072) :
    Gives (.bpFreeWrite a k v) s fun t =>
      t.flag BP_EVT_BAD_FREE k = true ∧ t.fld BP_ERR_IDX_INDEX k = v.toNat % 131072 ∧ t.bpTaken = s.bpTaken ∧ SameMemory s t := by
  refine gives_finish (execBpFreeWrite_pf0 k v ha) ?_
  have hlt : v.toNat % 131072 < 131072 := by omega
  generalize v.toNat % 131072 = i at hi hlt ⊢
  have hk := touches_setFld (rs := [.BP_FREE]) s BP_FREE_INDEX i k (by simp)
  generalize s.setFld BP_FREE_INDEX i k = u at hk ⊢
  rw [bpFree_outside (by rw [poolCount_congr (hk.2 _ _ (by simp))]; exact hi)]
  have hev := touches_event_self u BP_EVT_BAD_FREE k
  have hset := flag_event_same u BP_EVT_BAD_FREE k (by simp) (by simp) (by simp [sourceOnly])
  generalize u.event BP_EVT_BAD_FREE k = w at hev hset ⊢
  have hidx := touches_setFld (rs := [.BP_ERR_IDX]) w BP_ERR_IDX_INDEX i k (by simp)
  refine ⟨?_, ?_, ?_, (hk.sameMemory.trans hev.sameMemory).trans hidx.sameMemory⟩
  · rw [flag_settle _ _ _ (by simp), hidx.flag (by simp) k, hset]
  · rw [fld_settle _ _ _ (by simp), fld_setFld_same _ _ _ _ (by simp)]
    exact Nat.mod_eq_of_lt hlt
  · exact hev.rest.bpTaken.trans hk.rest.bpTaken

end

/-! ### The configuration of a pool -/

/-- EN of a written word, as the model reads it. -/
theorem writtenEn_iff (n : Nat) : (n >>> 18) % 2 = 1 ↔ n.testBit 18 = true := by
  rw [Nat.testBit_eq_decide_div_mod_eq, Nat.shiftRight_eq_div_pow, decide_eq_true_iff]

/-- A pool's configuration as written, with EN still 0 (R357). -/
def State.cfgStored (s : State) (k n : Nat) : State := s.putN .BP_CFG (n % 2 ^ 18) k

theorem touches_cfgStored (s : State) (k n : Nat) : Touches [.BP_CFG] s (s.cfgStored k n) := touches_putN s _ _ k (by simp)

theorem cfgStored_facts (s : State) (k n : Nat) : (s.cfgStored k n).regN .BP_CFG k = n % 2 ^ 18 ∧ (s.cfgStored k n).flag BP_CFG_EN k = false ∧
    (s.cfgStored k n).fld BP_CFG_COUNT k = n % 2 ^ 17 := by
  have hlt : n % 2 ^ 18 < 2 ^ 32 := by omega
  have hfld := fun f : Field => fld_putN_same s f k hlt
  refine ⟨regN_putN_same _ _ _ _ hlt, ?_, (hfld BP_CFG_COUNT).trans ?_⟩
  · rw [State.flag, bne_eq_false_iff_eq]
    refine (hfld BP_CFG_EN).trans ?_
    show (n % 2 ^ 18) >>> 18 % 2 ^ 1 = 0
    rw [Nat.shiftRight_eq_div_pow]
    omega
  · show (n % 2 ^ 18) >>> 0 % 2 ^ 17 = n % 2 ^ 17
    rw [Nat.shiftRight_zero]
    omega

/-- With every pool disabled, writing a configuration enables none. -/
theorem cfgStored_disabled {s : State} (k n : Nat) {j : Nat} (h : s.flag BP_CFG_EN j = false) : (s.cfgStored k n).flag BP_CFG_EN j = false := by
  by_cases hj : k = j
  · rw [← hj]
    exact (cfgStored_facts s k n).2.1
  · refine (flag_congr (t := s.cfgStored k n) (s := s) ?_).trans h
    rw [State.cfgStored, reg_putN, if_neg fun x => hj x.2]

/-- A pool's region overlaps that of another enabled pool (R357). -/
def State.poolClash (s : State) (k : Nat) : Bool :=
  (List.range 4).any fun j => j != k && s.flag BP_CFG_EN j && decide (s.regN .BP_BASE j < s.regN .BP_BASE k + s.poolCount k * poolSize k) &&
    decide (s.regN .BP_BASE k < s.regN .BP_BASE j + s.poolCount j * poolSize j)

/-- A pool cannot be enabled: its base is not aligned, its region or mirror lies beyond the memory, or its region overlaps another (R357). -/
def State.poolWrong (s : State) (k : Nat) : Prop :=
  s.regN .BP_BASE k % poolSize k ≠ 0 ∨ s.regN .MC_CAP < s.regN .BP_BASE k + s.poolCount k * poolSize k ∨
    s.regN .MC_CAP < s.fld BP_MIRROR_ADDR k * 4096 + ceilDiv (s.poolCount k) 8 ∨ s.poolClash k = true

section
variable {a : Agent} {k : Nat} {v : Word} {s : State} (ha : s.actsAsPf0 a = true)
include ha

/-- While EN is 1 a write clears EN alone, and only with nothing in use (R357). -/
theorem execBpCfgWrite_enabled (he : s.flag BP_CFG_EN k = true) : execBpCfgWrite a k v s =
    finish (if v.toNat.testBit 18 = true ∨ s.fld BP_STS_IN_USE k ≠ 0 then s else s.setFld BP_CFG_EN 0 k) := by
  rw [execBpCfgWrite, byAgent_pf0 ha]
  refine congrArg finish ((if_neg (not_not.mpr rfl)).trans ((if_pos he).trans ?_))
  simp only [writtenEn_iff]

theorem execBpCfgWrite_stores (he : s.flag BP_CFG_EN k = false) (hb : v.toNat.testBit 18 = false) :
    execBpCfgWrite a k v s = finish (s.cfgStored k v.toNat) := by
  rw [execBpCfgWrite, byAgent_pf0 ha]
  refine congrArg finish ((if_neg (not_not.mpr rfl)).trans ((if_neg (ne_true_of_eq_false he)).trans (if_pos ?_)))
  rw [Bool.not_eq_true', decide_eq_false_iff_not, writtenEn_iff, hb]
  exact Bool.false_ne_true

theorem execBpCfgWrite_enables (he : s.flag BP_CFG_EN k = false) (hb : v.toNat.testBit 18 = true) (hw : ¬(s.cfgStored k v.toNat).poolWrong k) :
    execBpCfgWrite a k v s = finish ((s.cfgStored k v.toNat).setFld BP_CFG_EN 1 k) := by
  rw [execBpCfgWrite, byAgent_pf0 ha]
  refine congrArg finish ((if_neg (not_not.mpr rfl)).trans ((if_neg (ne_true_of_eq_false he)).trans ((if_neg ?_).trans (if_neg hw))))
  rw [decide_eq_true ((writtenEn_iff _).mpr hb)]
  exact Bool.false_ne_true

theorem execBpCfgWrite_fails (he : s.flag BP_CFG_EN k = false) (hb : v.toNat.testBit 18 = true) (hw : (s.cfgStored k v.toNat).poolWrong k) :
    execBpCfgWrite a k v s = finish ((s.cfgStored k v.toNat).event BP_EVT_CFG_ERR k) := by
  rw [execBpCfgWrite, byAgent_pf0 ha]
  refine congrArg finish ((if_neg (not_not.mpr rfl)).trans ((if_neg (ne_true_of_eq_false he)).trans ((if_neg ?_).trans (if_pos hw))))
  rw [decide_eq_true ((writtenEn_iff _).mpr hb)]
  exact Bool.false_ne_true

theorem bpCfgWrite_ignored (he : s.flag BP_CFG_EN k = true) (h : v.toNat.testBit 18 = true ∨ s.fld BP_STS_IN_USE k ≠ 0) :
    Gives (.bpCfgWrite a k v) s fun t => Unchanged s t :=
  gives_unchanged ((execBpCfgWrite_enabled ha he).trans (congrArg finish (if_pos h)))

theorem bpCfgWrite_disables (he : s.flag BP_CFG_EN k = true) (hb : v.toNat.testBit 18 = false) (hu : s.fld BP_STS_IN_USE k = 0) :
    Gives (.bpCfgWrite a k v) s fun t =>
      t.flag BP_CFG_EN k = false ∧ t.fld BP_CFG_COUNT k = s.fld BP_CFG_COUNT k ∧ OnlyRegs [.BP_CFG] s t := by
  have hno : ¬(v.toNat.testBit 18 = true ∨ s.fld BP_STS_IN_USE k ≠ 0) := by
    rw [hb, hu]
    simp
  exact gives_finish ((execBpCfgWrite_enabled ha he).trans (congrArg finish (if_neg hno)))
    ⟨(flag_settle _ _ _ (by simp)).trans (flag_setFld_zero _ _ _ (by simp)),
      (fld_settle _ _ _ (by simp)).trans (fld_setFld_apart _ _ _ _ _ _ (by simp [Field.apart])), onlyRegs_of_touches (touches_setFld _ _ _ _ (by simp))⟩

theorem bpCfgWrite_stores (he : s.flag BP_CFG_EN k = false) (hb : v.toNat.testBit 18 = false) :
    Gives (.bpCfgWrite a k v) s fun t => t.regN .BP_CFG k = v.toNat % 2 ^ 18 ∧ OnlyRegs [.BP_CFG] s t :=
  gives_finish (execBpCfgWrite_stores ha he hb)
    ⟨(regN_settle _ _ _ (by simp)).trans (cfgStored_facts s k v.toNat).1, onlyRegs_of_touches (touches_cfgStored s k v.toNat)⟩

theorem bpCfgWrite_enables (he : s.flag BP_CFG_EN k = false) (hb : v.toNat.testBit 18 = true) (halign : s.regN .BP_BASE k % poolSize k = 0)
    (hall : ∀ j : Nat, j < 4 → s.flag BP_CFG_EN j = false)
    (hend : s.regN .BP_BASE k + clampNat 1 65536 (v.toNat % 2 ^ 17) * poolSize k ≤ s.regN .MC_CAP)
    (hmirror : s.fld BP_MIRROR_ADDR k * 4096 + ceilDiv (clampNat 1 65536 (v.toNat % 2 ^ 17)) 8 ≤ s.regN .MC_CAP) :
    Gives (.bpCfgWrite a k v) s fun t => t.flag BP_CFG_EN k = true ∧ t.fld BP_CFG_COUNT k = v.toNat % 2 ^ 17 ∧ OnlyRegs [.BP_CFG] s t := by
  have hk := touches_cfgStored s k v.toNat
  obtain ⟨-, -, hcount⟩ := cfgStored_facts s k v.toNat
  have hclash : (s.cfgStored k v.toNat).poolClash k = false := by
    refine List.any_eq_false.mpr fun j hj => ?_
    rw [cfgStored_disabled k v.toNat (hall j (List.mem_range.mp hj))]
    simp
  have hright : ¬(s.cfgStored k v.toNat).poolWrong k := by
    rw [State.poolWrong, State.poolCount, hclash, hcount, hk.regN (by simp) k, hk.regN (by simp), hk.fld (by simp) k]
    simp only [ne_eq, halign, not_true_eq_false, false_or, Bool.false_eq_true, or_false, not_or, Nat.not_lt]
    exact ⟨hend, hmirror⟩
  exact gives_finish (execBpCfgWrite_enables ha he hb hright)
    ⟨(flag_settle _ _ _ (by simp)).trans (flag_setFld_one _ _ _ (by simp) (by simp)),
      (fld_settle _ _ _ (by simp)).trans ((fld_setFld_apart _ _ _ _ _ _ (by simp [Field.apart])).trans hcount),
      onlyRegs_of_touches (hk.trans (touches_setFld _ _ _ _ (by simp)))⟩

theorem bpCfgWrite_misaligned (he : s.flag BP_CFG_EN k = false) (hb : v.toNat.testBit 18 = true) (halign : s.regN .BP_BASE k % poolSize k ≠ 0) :
    Gives (.bpCfgWrite a k v) s fun t =>
      t.flag BP_CFG_EN k = false ∧ t.flag BP_EVT_CFG_ERR k = true ∧ OnlyRegs [.BP_CFG, .BP_EVT, .IC_PEND, .IC_MERGE_CNT] s t := by
  have hk := touches_cfgStored s k v.toNat
  have hoff := (cfgStored_facts s k v.toNat).2.1
  have hwrong : (s.cfgStored k v.toNat).poolWrong k := .inl (by rw [hk.regN (by simp) k]; exact halign)
  refine gives_finish (execBpCfgWrite_fails ha he hb hwrong) ?_
  generalize s.cfgStored k v.toNat = u at hk hoff ⊢
  have hev := touches_event_self u BP_EVT_CFG_ERR k
  refine ⟨(flag_settle _ _ _ (by simp)).trans ((hev.flag (by simp [sourceOnly]) k).trans hoff),
    (flag_settle _ _ _ (by simp)).trans (flag_event_same _ _ _ (by simp) (by simp) (by simp [sourceOnly])),
    onlyRegs_of_touches ((hk.mono (by simp)).trans (hev.mono (by simp [sourceOnly])))⟩

end

end Sys2Proof.Machine
end

section
/-!
PROOFS. On-chip storage: the statement about scratchpad banks, window caches and buffer pools (R344 to R351, R357 to R360).
-/
namespace Sys2Proof.Machine

/-- What a function other than PF0 writes changes nothing (R345, R349, R357). -/
theorem storageWrites_othersIgnored {f : Nat} (b k i : Nat) (v : Word) (s : State) (h : f ≠ 0) :
    Gives (.spdBankOwnWrite (.func f) b v) s (fun t => Unchanged s t) ∧ Gives (.spdBankStateWrite (.func f) b v) s (fun t => Unchanged s t) ∧
    Gives (.bpFreeWrite (.func f) k v) s (fun t => Unchanged s t) ∧ Gives (.bpCfgWrite (.func f) i v) s fun t => Unchanged s t := by
  have hno : (!(f == 0)) = true := by simpa using h
  exact ⟨gives_unchanged (congrArg finish (if_pos (.inl hno))), gives_unchanged (congrArg finish (if_pos (.inl hno))),
    gives_unchanged (congrArg finish (if_pos h)), gives_unchanged (congrArg finish (if_pos h))⟩

/-- An end that nothing waits for changes nothing. -/
theorem storageEnds_idle (b c : Nat) (rs : List Nat) (s : State) :
    (storeFind s.banks.handover b = none → Gives (.spdHandoverDone b) s fun t => Unchanged s t) ∧
    (storeFind s.banks.moving b = none → Gives (.spdBankTransitionDone b) s fun t => Unchanged s t) ∧
    (storeFind s.banks.testing c = none → Gives (.windowCacheTestDone c rs) s fun t => Unchanged s t) ∧
    (s.spare.copy = none → Gives .spdBankCopyDone s fun t => Unchanged s t) ∧
    (s.flag SPD_WCT_CFG_EN = false → Gives (.windowCacheTestStart c) s fun t => Unchanged s t) := by
  refine ⟨fun h => gives_unchanged ?_, fun h => gives_unchanged ?_, fun h => gives_unchanged ?_, fun h => gives_unchanged ?_,
    fun h => gives_unchanged (execWindowCacheTestStart_disabled c h)⟩
  · show execSpdHandoverDone b s = _
    rw [execSpdHandoverDone, h]
  · show execSpdBankTransitionDone b s = _
    rw [execSpdBankTransitionDone, h]
  · show execWindowCacheTestDone c rs s = _
    rw [execWindowCacheTestDone, h]
  · show execSpdBankCopyDone s = _
    rw [execSpdBankCopyDone, h]

/-- Settles O48: accesses by whether the bank serves them and whether they collide; owners, states and tests by what their start writes and their
end leaves; pools by the branch that an allocation, a free or a write of their configuration takes. -/
theorem onChipStorageIsOwnedAndTested : Obligations.OnChipStorageIsOwnedAndTested :=
  ⟨fun _ _ hb h0 h64 ho hl h => spdAccess_refused ⟨hb, h0, h64, ho, badBytes_false hl⟩ h,
    fun _ _ hb h0 h64 ho ha hs hd hx => spdAccess_reads ⟨hb, h0, h64, ho, badBytes_none hd⟩ ha hs hd hx,
    fun _ _ _ hb h0 h64 ho ha hs hd hl hx => spdAccess_writes ⟨hb, h0, h64, ho, badBytes_some hd hl⟩ ha hs hd hl hx,
    fun _ _ _ _ _ hb h0 h64 ho ha hs hw hd hl hx hc => spdAccess_collides ⟨hb, h0, h64, ho, badBytes_some hd hl⟩ ha hs hw hd hl hx hc,
    fun _ _ _ _ hb h0 h64 ho ha hs hw hd hx hown hc => spdAccess_busy ⟨hb, h0, h64, ho, badBytes_none hd⟩ ha hs hw hd hx hown hc,
    fun _ _ h => gives_unchanged (execSpdAccess_ignored h),
    fun _ _ _ _ ha hb hp h => spdBankOwnWrite_asks ha hb hp h,
    fun _ _ _ _ ha hb hp => spdBankOwnWrite_absent ha hb hp,
    fun _ b k i v s hf => storageWrites_othersIgnored b k i v s hf,
    fun _ _ _ _ h => spdHandoverDone_takes h,
    fun _ _ _ _ ha hb h3 ht hc => spdBankStateWrite_sends ha hb h3 ht hc,
    fun _ _ v _ ha hb => ⟨fun h3 => gives_unchanged ((execSpdBankStateWrite_pf0 v ha hb).trans (congrArg finish (if_pos h3))),
      fun h3 ht => spdBankStateWrite_waits ha hb h3 ht⟩,
    fun _ _ _ _ h hm hp hc => spdBankTransitionDone_settles h hm hp hc,
    storageEnds_idle,
    fun _ _ hu he hp hd ht hn hx => windowCacheTestStart_starts hu he hp hd ht hn hx,
    fun _ _ _ _ _ h => windowCacheTestDone_passes h,
    fun _ _ _ _ _ _ h hr => windowCacheTestDone_fails h hr,
    fun _ _ _ hk he hu ho => bpAllocate_grants hk he hu ho,
    fun _ _ _ hk h hs => bpAllocate_empty hk h hs,
    fun _ _ _ => ⟨bpAllocRead_grants, bpAllocRead_empty⟩,
    fun _ _ _ _ ha _ => ⟨bpFreeWrite_returns ha, bpFreeWrite_double ha, bpFreeWrite_outside ha⟩,
    fun _ _ _ _ ha _ => ⟨bpCfgWrite_ignored ha, bpCfgWrite_disables ha, bpCfgWrite_stores ha, bpCfgWrite_enables ha, bpCfgWrite_misaligned ha⟩,
    fun _ _ _ h => spdBankCopyDone_swaps h⟩

end Sys2Proof.Machine
end

section
/-!
SUPPORT. The laws of the security module: its status, its key store, its sessions and link IDE (R383, R482 to R502).
-/
namespace Sys2Proof.Machine

/-! ### The status of the module -/

/-- The outputs that follow leave the fields of the status but APPROVED. -/
theorem fld_settle_apart (s : State) (f : Field) (i : Nat) (h : SEC_STS_APPROVED.apart f) : (settle s).fld f i = s.fld f i :=
  fld_setFld_apart s SEC_STS_APPROVED f s.approvedNow.toNat 0 i h

theorem flag_settle_apart (s : State) (f : Field) (i : Nat) (h : SEC_STS_APPROVED.apart f) : (settle s).flag f i = s.flag f i := by
  rw [State.flag, fld_settle_apart s f i h, State.flag]

/-! ### What the module's operations leave -/

/-- Only registers of a list, the key store, the generations of objects, the state of link IDE and the count of free values differ. -/
def Secures (rs : List Reg) (s t : State) : Prop :=
  t = { s with
    regs := t.regs, security := t.security, gens := t.gens, freeCtr := t.freeCtr
    cxl := { s.cxl with insecure := t.cxl.insecure, ideSet := t.cxl.ideSet } } ∧
  ∀ r i, r ∉ rs → t.reg r i = s.reg r i

theorem Secures.refl (rs : List Reg) (s : State) : Secures rs s s := ⟨rfl, fun _ _ _ => rfl⟩

theorem Secures.trans {rs : List Reg} {s t u : State} (h : Secures rs s t) (k : Secures rs t u) : Secures rs s u := by
  refine ⟨?_, fun r i hr => (k.2 r i hr).trans (h.2 r i hr)⟩
  have h1 := h.1
  have k1 := k.1
  rw [k1, h1]

theorem Secures.mono {rs rs' : List Reg} {s t : State} (h : Secures rs s t) (hs : ∀ r ∈ rs, r ∈ rs') : Secures rs' s t :=
  ⟨h.1, fun r i hr => h.2 r i (notMem_part hr hs)⟩

theorem Touches.secures {rs : List Reg} {s t : State} (h : Touches rs s t) : Secures rs s t := by
  refine ⟨?_, h.2⟩
  have h1 := h.1
  rw [h1]

theorem secures_foldl {α : Type} {rs : List Reg} {f : State → α → State} (hf : ∀ t a, Secures rs t (f t a)) (l : List α) (s : State) :
    Secures rs s (l.foldl f s) := by
  induction l generalizing s with
  | nil => exact Secures.refl rs s
  | cons a l ih => exact (hf s a).trans (ih _)

theorem Secures.flows {rs : List Reg} {s t : State} (h : Secures rs s t) : t.flows = s.flows := by rw [h.1]
theorem Secures.streams {rs : List Reg} {s t : State} (h : Secures rs s t) : t.streams = s.streams := by rw [h.1]
theorem Secures.levels {rs : List Reg} {s t : State} (h : Secures rs s t) : t.levels = s.levels := by rw [h.1]
theorem Secures.sent {rs : List Reg} {s t : State} (h : Secures rs s t) : t.sent = s.sent := by rw [h.1]
theorem Secures.sameMemory {rs : List Reg} {s t : State} (h : Secures rs s t) : SameMemory s t :=
  sameMemory_of_mems (by rw [h.1]) (by rw [h.1]) (by rw [h.1])
theorem Secures.regN {rs : List Reg} {s t : State} (h : Secures rs s t) {r : Reg} (hr : r ∉ rs) (i : Nat := 0) : t.regN r i = s.regN r i :=
  regN_congr (h.2 r i hr)
theorem Secures.fld {rs : List Reg} {s t : State} (h : Secures rs s t) {f : Field} (hf : f.reg ∉ rs) (i : Nat := 0) : t.fld f i = s.fld f i :=
  fld_congr (h.2 f.reg i hf)
theorem Secures.flag {rs : List Reg} {s t : State} (h : Secures rs s t) {f : Field} (hf : f.reg ∉ rs) (i : Nat := 0) : t.flag f i = s.flag f i :=
  flag_congr (h.2 f.reg i hf)

/-- What the module's operations leave, once the outputs follow. -/
theorem Secures.settled {rs : List Reg} {s t : State} (h : Secures rs s t) : SameRegs rs s (settle t) ∧ SameMemory s (settle t) :=
  ⟨sameRegs_settle h.2, fun sp a => (byte_settle t sp a).trans (h.sameMemory.1 sp a), h.sameMemory.2⟩

/-! ### Key slots -/

/-- What a key reads as is listed. -/
theorem mem_of_storeFind {α : Type} {st : Store α} {i : Nat} {x : α} (h : storeFind st i = some x) : (i, x) ∈ st := by
  induction st with
  | nil => cases h
  | cons e rest ih =>
    obtain ⟨k, v⟩ := e
    rw [storeFind] at h
    split at h
    next hk =>
      cases h
      rw [hk]
      exact List.mem_cons_self
    next => exact List.mem_cons_of_mem _ (ih h)

/-- A slot that holds no key. -/
def KeySlot.Keyless (k : KeySlot) : Prop := k.cur = none ∧ k.next = none

/-- The key store with a slot set (R490). -/
def State.slotPut (s : State) (h : Nat) (k : KeySlot) : State :=
  { s with security := { s.security with
      slots := if k = ({} : KeySlot) then storeDrop s.security.slots h else storeInsert s.security.slots h k } }

/-- The register that counts the keys, and the generation of the slot, follow (R88, R501). -/
def State.slotCounted (s : State) (h : Nat) : State := (s.putN .SEC_KEYS_USED s.keysUsed).touch 15 h

theorem setSlot_eq (s : State) (h : Nat) (k : KeySlot) : s.setSlot h k =
    if h = 0xE00 then ((s.slotPut h k).slotCounted h).setFlag SEC_STS_TRANSPORT k.cur.isSome else (s.slotPut h k).slotCounted h := rfl

theorem secures_slotCounted (s : State) (h : Nat) (k : KeySlot) : Secures [.SEC_KEYS_USED] s ((s.slotPut h k).slotCounted h) :=
  Secures.trans (t := s.slotPut h k) ⟨rfl, fun _ _ _ => rfl⟩ (Secures.trans (touches_putN _ .SEC_KEYS_USED _ 0 (by simp)).secures ⟨rfl, fun _ _ _ => rfl⟩)

theorem secures_setSlot_ne (s : State) {h : Nat} (k : KeySlot) (hh : h ≠ 0xE00) : Secures [.SEC_KEYS_USED] s (s.setSlot h k) := by
  rw [setSlot_eq, if_neg hh]
  exact secures_slotCounted s h k

theorem secures_setSlot (s : State) (h : Nat) (k : KeySlot) : Secures [.SEC_KEYS_USED, .SEC_STS] s (s.setSlot h k) := by
  by_cases hh : h = 0xE00
  · rw [setSlot_eq, if_pos hh]
    exact ((secures_slotCounted s h k).mono (by simp)).trans (touches_setFlag _ SEC_STS_TRANSPORT _ 0 (by simp)).secures
  · exact (secures_setSlot_ne s k hh).mono (by simp)

/-- The fields of the status but TRANSPORT, when a slot is set. -/
theorem fld_setSlot (s : State) (h : Nat) (k : KeySlot) (f : Field) (i : Nat) (hr : f.reg ≠ .SEC_KEYS_USED) (ha : SEC_STS_TRANSPORT.apart f) :
    (s.setSlot h k).fld f i = s.fld f i := by
  have hc := (secures_slotCounted s h k).fld (f := f) (by simpa using hr) i
  rw [setSlot_eq]
  split
  · exact (fld_setFld_apart _ SEC_STS_TRANSPORT f _ 0 i ha).trans hc
  · exact hc

theorem setSlot_slots (s : State) (h : Nat) (k : KeySlot) : (s.setSlot h k).security = (s.slotPut h k).security := by
  rw [setSlot_eq]
  split <;> rfl

theorem slot_setSlot_same (s : State) (h : Nat) (k : KeySlot) : (s.setSlot h k).slot h = k := by
  rw [State.slot, setSlot_slots, State.slotPut]
  by_cases hk : k = {}
  · simp [hk]
  · simp [hk]

theorem slot_setSlot_ne (s : State) {h e : Nat} (k : KeySlot) (he : e ≠ h) : (s.setSlot h k).slot e = s.slot e := by
  rw [State.slot, setSlot_slots, State.slotPut, State.slot]
  by_cases hk : k = {}
  · simp [hk, storeFind_drop_ne _ he.symm]
  · simp [hk, storeFind_insert_ne _ _ he.symm]

/-! ### Keys that are zeroised -/

/-- A slot that is zeroised is set anew, or was never used. -/
theorem eraseSlot_cases (s : State) (h : Nat) : (s.eraseSlot h = s ∧ s.slot h = {}) ∨ ∃ k, k.Keyless ∧ s.eraseSlot h = s.setSlot h k := by
  unfold State.eraseSlot State.slot
  cases storeFind s.security.slots h with
  | none => exact .inl ⟨rfl, rfl⟩
  | some k => exact .inr ⟨{ k with cur := none, next := none }, ⟨rfl, rfl⟩, rfl⟩

theorem eraseSlot_keyless (s : State) (h : Nat) : ((s.eraseSlot h).slot h).Keyless := by
  rcases eraseSlot_cases s h with ⟨he, hs⟩ | ⟨k, hk, he⟩
  · rw [he, hs]
    exact ⟨rfl, rfl⟩
  · rw [he, slot_setSlot_same]
    exact hk

theorem slot_eraseSlot_ne (s : State) {h e : Nat} (he : e ≠ h) : (s.eraseSlot h).slot e = s.slot e := by
  rcases eraseSlot_cases s h with ⟨hx, -⟩ | ⟨k, -, hx⟩ <;> rw [hx]
  exact slot_setSlot_ne s k he

theorem secures_eraseSlot_ne (s : State) {h : Nat} (hh : h ≠ 0xE00) : Secures [.SEC_KEYS_USED] s (s.eraseSlot h) := by
  rcases eraseSlot_cases s h with ⟨hx, -⟩ | ⟨k, -, hx⟩ <;> rw [hx]
  · exact Secures.refl _ s
  · exact secures_setSlot_ne s k hh

theorem secures_eraseSlot (s : State) (h : Nat) : Secures [.SEC_KEYS_USED, .SEC_STS] s (s.eraseSlot h) := by
  rcases eraseSlot_cases s h with ⟨hx, -⟩ | ⟨k, -, hx⟩ <;> rw [hx]
  · exact Secures.refl _ s
  · exact secures_setSlot s h k

theorem fld_eraseSlot (s : State) (h : Nat) (f : Field) (i : Nat) (hr : f.reg ≠ .SEC_KEYS_USED) (ha : SEC_STS_TRANSPORT.apart f) :
    (s.eraseSlot h).fld f i = s.fld f i := by
  rcases eraseSlot_cases s h with ⟨hx, -⟩ | ⟨k, -, hx⟩ <;> rw [hx]
  exact fld_setSlot s h k f i hr ha

/-- One entry of the key store, as `eraseSlots` treats it. -/
def State.eraseEntry (p : Nat → KeySlot → Bool) (s : State) (e : Nat × KeySlot) : State :=
  if p e.1 e.2 && (e.2.cur.isSome || e.2.next.isSome) then s.eraseSlot e.1 else s

theorem eraseSlots_eq (s : State) (p : Nat → KeySlot → Bool) : s.eraseSlots p = s.security.slots.foldl (State.eraseEntry p) s := rfl

theorem secures_eraseSlots (s : State) (p : Nat → KeySlot → Bool) : Secures [.SEC_KEYS_USED, .SEC_STS] s (s.eraseSlots p) := by
  refine secures_foldl (f := State.eraseEntry p) (fun t e => ?_) _ s
  unfold State.eraseEntry
  split
  · exact secures_eraseSlot t e.1
  · exact Secures.refl _ t

theorem fld_eraseSlots (s : State) (p : Nat → KeySlot → Bool) (f : Field) (i : Nat) (hr : f.reg ≠ .SEC_KEYS_USED) (ha : SEC_STS_TRANSPORT.apart f) :
    (s.eraseSlots p).fld f i = s.fld f i := by
  refine foldl_keeps (f := State.eraseEntry p) (fun t : State => t.fld f i) (fun t e => ?_) _ s
  unfold State.eraseEntry
  split
  · exact fld_eraseSlot t e.1 f i hr ha
  · rfl

/-- A slot without a key stays so when others are zeroised. -/
theorem eraseEntry_keyless {s : State} {h : Nat} (hk : (s.slot h).Keyless) (p : Nat → KeySlot → Bool) (e : Nat × KeySlot) :
    ((s.eraseEntry p e).slot h).Keyless := by
  unfold State.eraseEntry
  split
  · by_cases he : h = e.1
    · rw [he]
      exact eraseSlot_keyless s e.1
    · rw [slot_eraseSlot_ne s he]
      exact hk
  · exact hk

/-- No slot holds a key once all are zeroised. -/
theorem eraseSlots_all (s : State) (h : Nat) : ((s.eraseSlots fun _ _ => true).slot h).Keyless := by
  rw [eraseSlots_eq]
  by_cases hk : (s.slot h).Keyless
  · exact List.foldlRecOn (motive := fun t : State => (t.slot h).Keyless) _ _ hk fun t ht e _ => eraseEntry_keyless ht _ e
  · obtain ⟨k, hf⟩ : ∃ k, storeFind s.security.slots h = some k := by
      cases hf : storeFind s.security.slots h with
      | none => exact absurd (by rw [State.slot, hf]; exact ⟨rfl, rfl⟩) hk
      | some k => exact ⟨k, rfl⟩
    rw [State.slot, hf, Option.getD_some] at hk
    have hused : (k.cur.isSome || k.next.isSome) = true := by
      by_contra hn
      simp only [Bool.or_eq_true, not_or, Bool.not_eq_true, Option.isSome_eq_false_iff, Option.isNone_iff_eq_none] at hn
      exact hk hn
    refine foldl_establishes (f := State.eraseEntry fun _ _ => true) (P := fun (e : Nat × KeySlot) (t : State) => (e.2.cur.isSome || e.2.next.isSome) = true → (t.slot e.1).Keyless)
      (fun t e he => ?_) (fun t e b he hs => eraseEntry_keyless (he hs) _ b) (mem_of_storeFind hf) s hused
    rw [State.eraseEntry, he, if_pos (by rfl)]
    exact eraseSlot_keyless t e.1

/-! ### Sessions, link IDE, and the state of the module -/

/-- The registers of sessions that end. -/
def sessionRegs : List Reg := .SEC_SESSIONS :: .SEC_EVT :: sourceOnly

theorem touches_endSessions (s : State) : Touches sessionRegs s s.endSessions := by
  unfold State.endSessions
  split
  · exact Touches.refl _ s
  · exact (touches_putN s _ 0 0 (by simp [sessionRegs])).trans ((touches_event_self _ SEC_EVT_SPDM_SESSION 0).mono (by simp [sessionRegs, sourceOnly]))

/-- The events of the module but those of sessions, when the sessions end. -/
theorem flag_endSessions (s : State) {f : Field} (hr : f.reg ≠ .SEC_SESSIONS) (hs : f.reg ∉ sourceOnly) (ha : SEC_EVT_SPDM_SESSION.apart f) :
    s.endSessions.flag f = s.flag f := by
  unfold State.endSessions
  split
  · rfl
  · exact (flag_event_apart _ 0 0 hs ha).trans (flag_congr ((touches_putN (rs := [.SEC_SESSIONS]) s _ 0 0 (by simp)).2 _ 0 (by simpa using hr)))

/-- Link IDE ends insecure where it was set up, and it is no longer. -/
theorem ideInsecure_facts (s : State) : Secures [.SEC_STS] s s.ideInsecure ∧ s.ideInsecure.flag SEC_STS_IDE_IO = false ∧
    s.ideInsecure.flag SEC_STS_IDE_CM = false ∧ (s.flag SEC_STS_IDE_IO = true ∨ s.flag SEC_STS_IDE_CM = true → s.ideInsecure.cxl.insecure = true) ∧
    s.ideInsecure.security = s.security := by
  unfold State.ideInsecure
  split
  next h =>
    refine ⟨Secures.trans (t := { s with cxl := { s.cxl with insecure := true, ideSet := [] } }) ⟨rfl, fun _ _ _ => rfl⟩
      ((touches_setFld _ SEC_STS_IDE_IO 0 0 (by simp)).trans (touches_setFld _ SEC_STS_IDE_CM 0 0 (by simp))).secures, ?_, ?_, fun _ => rfl, rfl⟩
    · rw [flag_setFld_apart _ _ _ _ _ _ (by simp [Field.apart]), flag_setFld_zero _ _ _ (by simp)]
    · exact flag_setFld_zero _ _ _ (by simp)
  next h =>
    rw [not_or, Bool.not_eq_true, Bool.not_eq_true] at h
    refine ⟨Secures.refl _ s, h.1, h.2, fun k => ?_, rfl⟩
    rw [h.1, h.2] at k
    exact absurd k (by simp)

/-- The fields of the status but those of link IDE. -/
theorem fld_ideInsecure (s : State) {f : Field} (hi : SEC_STS_IDE_IO.apart f) (hc : SEC_STS_IDE_CM.apart f) : s.ideInsecure.fld f = s.fld f := by
  unfold State.ideInsecure
  split
  · rw [fld_setFld_apart _ _ _ _ _ _ hc, fld_setFld_apart _ _ _ _ _ _ hi]
    rfl
  · rfl

/-- The module takes a state, and a change has its event (R483). -/
theorem touches_secState (s : State) (n : Nat) : Touches (.SEC_STS :: .SEC_EVT :: sourceOnly) s (s.secState n) := by
  unfold State.secState
  split
  · exact Touches.refl _ s
  · exact (touches_setFld s SEC_STS_STATE n 0 (by simp)).trans ((touches_event_self _ SEC_EVT_STATE 0).mono (by simp [sourceOnly]))

theorem fld_secState (s : State) {n : Nat} (hn : n < 8) : (s.secState n).fld SEC_STS_STATE = n := by
  unfold State.secState
  split
  next h => exact h
  next =>
    rw [(touches_event_self _ SEC_EVT_STATE 0).fld (by simp [sourceOnly]), fld_setFld_same _ _ _ _ (by simp)]
    exact Nat.mod_eq_of_lt hn

theorem fld_secState_apart (s : State) (n : Nat) {f : Field} (hr : f.reg = .SEC_STS) (ha : SEC_STS_STATE.apart f) : (s.secState n).fld f = s.fld f := by
  unfold State.secState
  split
  · rfl
  · rw [(touches_event_self _ SEC_EVT_STATE 0).fld (by simp [hr, sourceOnly]), fld_setFld_apart _ _ _ _ _ _ ha]

end Sys2Proof.Machine
end

section
/-!
PROOFS. Aging, a PLL that loses lock, the repair log, failed tests and slots of the security module, and the board's ports (R383, R464, R465,
R469, R471, R475, R485, R486, R495, R497, R532, R533).
-/
namespace Sys2Proof.Machine

/-! ### An aging measurement -/

/-- A unit's measurement (R464). -/
def State.measured (s : State) (u : Nat) (ppm : Int) (worn : Bool) : State :=
  ((s.setFld MON_AGE_SHIFT_PPM (unsigned 16 ppm) u).setFld MON_AGE_VALID 1 u).setFlag MON_AGE_WORN worn u

theorem unsigned_lt (w : Nat) (x : Int) : unsigned w x < 2 ^ w := by
  have hpos : (0 : Int) < ((2 ^ w : Nat) : Int) := by exact_mod_cast Nat.two_pow_pos w
  unfold unsigned
  have h1 := Int.emod_lt_of_pos x hpos
  have h2 := Int.emod_nonneg x hpos.ne'
  omega

theorem measured_facts (s : State) (u : Nat) (ppm : Int) (worn : Bool) : Touches [.MON_AGE] s (s.measured u ppm worn) ∧
    (s.measured u ppm worn).fld MON_AGE_SHIFT_PPM u = unsigned 16 ppm ∧ (s.measured u ppm worn).flag MON_AGE_VALID u = true ∧
    (s.measured u ppm worn).flag MON_AGE_WORN u = worn ∧ ∀ e, e ≠ u → (s.measured u ppm worn).reg .MON_AGE e = s.reg .MON_AGE e := by
  unfold State.measured
  refine ⟨((touches_setFld s _ _ u (by simp)).trans (touches_setFld _ _ _ u (by simp))).trans (touches_setFlag _ _ _ u (by simp)), ?_, ?_,
    flag_setFlag_same _ _ _ _ (by simp) (by simp), fun e he => ?_⟩
  · rw [State.setFlag, fld_setFld_apart _ _ _ _ _ _ (by simp [Field.apart]), fld_setFld_apart _ _ _ _ _ _ (by simp [Field.apart]),
      fld_setFld_same _ _ _ _ (by simp)]
    exact Nat.mod_eq_of_lt (unsigned_lt 16 ppm)
  · rw [State.setFlag, flag_setFld_apart _ _ _ _ _ _ (by simp [Field.apart]), flag_setFld_one _ _ _ (by simp) (by simp)]
  · have hn : ∀ f : Field, ¬(f.reg = .MON_AGE ∧ u = e) := fun _ h => he h.2.symm
    rw [State.setFlag, reg_setFld, if_neg (hn _), reg_setFld, if_neg (hn _), reg_setFld, if_neg (hn _)]

/-- The events of a worn unit (R464, R465). -/
def State.wornSeen (s : State) : State := (s.event MON_GLB_EVT_AGE).event SPR_EVT_WORN

/-- The registers of the events of a worn unit. -/
def wornRegs : List Reg := .MON_GLB_EVT :: .SPR_EVT :: sourceOnly

theorem wornSeen_facts (s : State) : Touches wornRegs s s.wornSeen ∧ s.wornSeen.flag MON_GLB_EVT_AGE = true ∧ s.wornSeen.flag SPR_EVT_WORN = true := by
  have h1 := touches_event_self s MON_GLB_EVT_AGE 0
  have h2 := touches_event_self (s.event MON_GLB_EVT_AGE) SPR_EVT_WORN 0
  exact ⟨(h1.mono (by simp [wornRegs, sourceOnly])).trans (h2.mono (by simp [wornRegs, sourceOnly])),
    (h2.flag (by simp [sourceOnly])).trans (flag_event_same s _ 0 (by simp) (by simp) (by simp [sourceOnly])),
    flag_event_same _ _ 0 (by simp) (by simp) (by simp [sourceOnly])⟩

/-- What AUTO_AGE does for a worn unit (R465): the spare of its PLL or pipe is claimed. -/
def State.claimWorn (s : State) (u : Nat) : State :=
  if !s.flag SPR_CFG_AUTO_AGE then s
  else if u = 32 then
    if s.flag SPR_STS_PLL_SEL ∨ s.swapAsked 88 then s
    else if s.pllBOk then s.ask { handle := 88, why := 2 } else s.noSpare 32
  else match s.pipeOfUnit u with
    | some p => s.claimSpare p 2
    | none => s

theorem execAgingMeasure_eq {u : Nat} (ppm : Int) (s : State) (hu : u < 34) : execAgingMeasure u ppm s = finish
    (if ppm ≤ -((max 1 (s.fld SPR_CFG_AGE_LIMIT) : Nat) : Int) then (s.measured u ppm true).wornSeen.claimWorn u else s.measured u ppm false) := by
  unfold execAgingMeasure
  rw [if_neg (by omega)]
  by_cases h : ppm ≤ -((max 1 (s.fld SPR_CFG_AGE_LIMIT) : Nat) : Int)
  · simp only [h, decide_true, Bool.not_true, Bool.false_eq_true, if_false, if_true]
    rfl
  · simp only [h, decide_false, Bool.not_false, if_false, if_true]
    rfl

/-- The claim of a spare changes nothing, or finds none, or asks for it. -/
theorem claimSpare_worn (s : State) (p : Nat) : s.claimSpare p 2 = s ∨ (∃ n, s.claimSpare p 2 = s.noSpare n) ∨ ∃ r, s.claimSpare p 2 = s.ask r := by
  unfold State.claimSpare
  split
  · exact .inl rfl
  · split
    · exact .inr (.inl ⟨p, if_neg (by omega)⟩)
    · split
      · exact .inr (.inr ⟨_, rfl⟩)
      · exact .inr (.inl ⟨p, rfl⟩)

theorem claimWorn_cases (s : State) (u : Nat) : s.claimWorn u = s ∨ (∃ n, s.claimWorn u = s.noSpare n) ∨ ∃ r, s.claimWorn u = s.ask r := by
  unfold State.claimWorn
  split
  · exact .inl rfl
  · split
    · split
      · exact .inl rfl
      · split
        · exact .inr (.inr ⟨_, rfl⟩)
        · exact .inr (.inl ⟨_, rfl⟩)
    · split
      · exact claimSpare_worn s _
      · exact .inl rfl

/-- Claiming a spare writes its registers and the requests for spares, and leaves the event of wear. -/
theorem claimWorn_frame (s : State) (u : Nat) : Touches claimRegs { s with spare := (s.claimWorn u).spare } (s.claimWorn u) ∧
    (s.claimWorn u).flag SPR_EVT_WORN = s.flag SPR_EVT_WORN := by
  rcases claimWorn_cases s u with h | ⟨n, h⟩ | ⟨r, h⟩ <;> rw [h]
  · exact ⟨Touches.refl _ _, rfl⟩
  · have hn := touches_noSpare s n
    refine ⟨by rw [hn.rest.spare]; exact hn, ?_⟩
    exact (flag_event_apart _ 0 0 (by simp [sourceOnly]) (by simp [Field.apart])).trans
      ((touches_record (rs := faultOnly) s 19 n false fun _ h => h).flag (by simp [faultOnly]))
  · exact ⟨(touches_ask s r).mono (by simp [claimRegs]), flag_congr ((touches_ask s r).2 _ 0 (by simp))⟩

/-- The spare of the PLL is asked for (R465, R469, R475). -/
theorem claimWorn_pll {s : State} (ha : s.flag SPR_CFG_AUTO_AGE = true) (hp : s.flag SPR_STS_PLL_SEL = false) (hq : s.swapAsked 88 = false)
    (hb : s.pllBOk = true) : (s.claimWorn 32).swapAsked 88 = true ∧ (s.claimWorn 32).flag SPR_PENDING_PLL = true := by
  have he : s.claimWorn 32 = s.ask { handle := 88, why := 2 } := by
    rw [State.claimWorn, ha, hp, hq, hb]
    rfl
  rw [he]
  refine ⟨?_, flag_setFld_one _ _ _ (by simp) (by simp)⟩
  simp [State.swapAsked, State.ask]

/-- A worn unit (R464, R465). -/
theorem wornUnit_facts (s : State) (u : Nat) : let t := s.wornSeen.claimWorn u
    Touches (.MON_GLB_EVT :: claimRegs) { s with spare := t.spare } t ∧ t.flag MON_GLB_EVT_AGE = true ∧ t.flag SPR_EVT_WORN = true ∧
    (s.flag SPR_CFG_AUTO_AGE = true → u = 32 → s.flag SPR_STS_PLL_SEL = false → s.swapAsked 88 = false → s.pllBOk = true →
      t.swapAsked 88 = true ∧ t.flag SPR_PENDING_PLL = true) := by
  intro t
  obtain ⟨hw, hage, hworn⟩ := wornSeen_facts s
  obtain ⟨hc, hkeep⟩ := claimWorn_frame s.wornSeen u
  have hspare : Touches (.MON_GLB_EVT :: claimRegs) { s with spare := t.spare } { s.wornSeen with spare := t.spare } := by
    refine ⟨?_, fun r i hr => hw.2 r i (notMem_part hr (by simp [wornRegs, claimRegs, sourceOnly, faultOnly]))⟩
    rw [hw.1]
  refine ⟨hspare.trans (hc.mono (by simp +contextual)), (hc.flag (by simp [claimRegs, faultOnly])).trans hage, hkeep.trans hworn, ?_⟩
  intro ha hu hp hq hb
  have hread : ∀ f : Field, f.reg ∉ wornRegs → s.wornSeen.flag f = s.flag f := fun f hf => hw.flag hf
  have hok : s.wornSeen.pllBOk = true := by
    rw [State.pllBOk, hread _ (by simp [wornRegs, sourceOnly]), hread _ (by simp [wornRegs, sourceOnly])]
    exact hb
  show (s.wornSeen.claimWorn u).swapAsked 88 = true ∧ (s.wornSeen.claimWorn u).flag SPR_PENDING_PLL = true
  rw [hu]
  exact claimWorn_pll ((hread _ (by simp [wornRegs, sourceOnly])).trans ha) ((hread _ (by simp [wornRegs, sourceOnly])).trans hp)
    ((by rw [State.swapAsked, hw.rest.spare]; rfl : s.wornSeen.swapAsked 88 = s.swapAsked 88).trans hq) hok

theorem agingMeasure_measures {u : Nat} (ppm : Int) (s : State) (hu : u < 34) :
    Gives (.agingMeasure u ppm) s fun t =>
      t.fld MON_AGE_SHIFT_PPM u = unsigned 16 ppm ∧ t.flag MON_AGE_VALID u = true ∧
      t.flag MON_AGE_WORN u = decide (ppm ≤ -((max 1 (s.fld SPR_CFG_AGE_LIMIT) : Nat) : Int)) ∧
      (-((max 1 (s.fld SPR_CFG_AGE_LIMIT) : Nat) : Int) < ppm → OnlyRegs [.MON_AGE] s t) ∧
      (ppm ≤ -((max 1 (s.fld SPR_CFG_AGE_LIMIT) : Nat) : Int) → t.flag MON_GLB_EVT_AGE = true ∧ t.flag SPR_EVT_WORN = true) ∧
      (ppm ≤ -((max 1 (s.fld SPR_CFG_AGE_LIMIT) : Nat) : Int) → s.flag SPR_CFG_AUTO_AGE = true → u = 32 → s.flag SPR_STS_PLL_SEL = false →
        s.swapAsked 88 = false → s.pllBOk = true → t.swapAsked 88 = true ∧ t.flag SPR_PENDING_PLL = true) ∧
      (∀ e, e ≠ u → t.reg .MON_AGE e = s.reg .MON_AGE e) ∧ SameMemory s t := by
  refine gives_finish (execAgingMeasure_eq ppm s hu) ?_
  generalize -((max 1 (s.fld SPR_CFG_AGE_LIMIT) : Nat) : Int) = limit
  by_cases h : ppm ≤ limit
  · rw [if_pos h]
    obtain ⟨hm, hshift, hvalid, hworn, hothers⟩ := measured_facts s u ppm true
    have hpll : (s.measured u ppm true).pllBOk = s.pllBOk := by rw [State.pllBOk, hm.flag (by simp), hm.flag (by simp), State.pllBOk]
    have hask : (s.measured u ppm true).swapAsked 88 = s.swapAsked 88 := by rw [State.swapAsked, hm.rest.spare, State.swapAsked]
    have hauto : (s.measured u ppm true).flag SPR_CFG_AUTO_AGE = s.flag SPR_CFG_AUTO_AGE := hm.flag (by simp)
    have hsel : (s.measured u ppm true).flag SPR_STS_PLL_SEL = s.flag SPR_STS_PLL_SEL := hm.flag (by simp)
    generalize s.measured u ppm true = m at hm hshift hvalid hworn hothers hpll hask hauto hsel ⊢
    obtain ⟨hk, hage, hevt, hclaim⟩ := wornUnit_facts m u
    generalize m.wornSeen.claimWorn u = w at hk hage hevt hclaim ⊢
    have hreg : ∀ i, (settle w).reg .MON_AGE i = m.reg .MON_AGE i := fun i =>
      (reg_settle _ _ _ (by simp)).trans (hk.2 _ i (by simp [claimRegs, faultOnly]))
    refine ⟨(fld_congr (hreg u)).trans hshift, (flag_congr (hreg u)).trans hvalid, ?_, fun hn => absurd h (by omega), fun _ =>
      ⟨(flag_settle _ _ _ (by simp)).trans hage, (flag_settle _ _ _ (by simp)).trans hevt⟩, fun _ ha hu' hp hq hb => ?_,
      fun e he => (hreg e).trans (hothers e he), hm.sameMemory.trans hk.sameMemory⟩
    · rw [decide_eq_true h]
      exact (flag_congr (hreg u)).trans hworn
    · obtain ⟨h1, h2⟩ := hclaim (hauto.trans ha) hu' (hsel.trans hp) (hask.trans hq) (hpll.trans hb)
      exact ⟨h1, (flag_settle _ _ _ (by simp)).trans h2⟩
  · rw [if_neg h]
    obtain ⟨hm, hshift, hvalid, hworn, hothers⟩ := measured_facts s u ppm false
    generalize s.measured u ppm false = m at hm hshift hvalid hworn hothers ⊢
    refine ⟨(fld_settle _ _ _ (by simp)).trans hshift, (flag_settle _ _ _ (by simp)).trans hvalid, ?_, fun _ => onlyRegs_of_touches hm,
      fun hn => absurd hn h, fun hn => absurd hn h, fun e he => (reg_settle _ _ _ (by simp)).trans (hothers e he), hm.sameMemory⟩
    rw [decide_eq_false h]
    exact (flag_settle _ _ _ (by simp)).trans hworn

/-! ### The core PLL -/

/-- PLL A is marked failed (R466, R469). -/
theorem markFailed_pllA (s : State) : s.markFailed 32 = s.setFld SPR_FAILED_PLL_A 1 := rfl

/-- The registers of a change of the core PLL. -/
def pllRegs : List Reg := [.SPR_STS, .SPR_FAILED, .SPR_EVT, .IC_PEND, .IC_MERGE_CNT]

/-- PLL A is marked failed and PLL B in use (R469). -/
def State.onPllB (s : State) : State := (s.markFailed 32).usePll true

theorem onPllB_facts (s : State) : Touches pllRegs s s.onPllB ∧ s.onPllB.flag SPR_STS_PLL_SEL = true ∧ s.onPllB.flag SPR_FAILED_PLL_A = true ∧
    s.onPllB.flag SPR_EVT_PLL_SWITCH = true ∧ s.onPllB.flag SPR_EVT_SWAP = true := by
  rw [State.onPllB, State.usePll, markFailed_pllA]
  have h1 := touches_setFld (rs := [.SPR_FAILED]) s SPR_FAILED_PLL_A 1 0 (by simp)
  have hf := flag_setFld_one s SPR_FAILED_PLL_A 0 (by simp) (by simp)
  generalize s.setFld SPR_FAILED_PLL_A 1 = s1 at h1 hf ⊢
  have h2 := touches_setFlag (rs := [.SPR_STS]) s1 SPR_STS_PLL_SEL true 0 (by simp)
  have hsel := flag_setFlag_same s1 SPR_STS_PLL_SEL true 0 (by simp) (by simp)
  generalize s1.setFlag SPR_STS_PLL_SEL true = s2 at h2 hsel ⊢
  have h3 := touches_event_self s2 SPR_EVT_PLL_SWITCH 0
  have hsw := flag_event_same s2 SPR_EVT_PLL_SWITCH 0 (by simp) (by simp) (by simp [sourceOnly])
  generalize s2.event SPR_EVT_PLL_SWITCH = s3 at h3 hsw ⊢
  have h4 := touches_event_self s3 SPR_EVT_SWAP 0
  have h34 := (h3.mono (rs' := pllRegs) (by simp [pllRegs, sourceOnly])).trans (h4.mono (by simp [pllRegs, sourceOnly]))
  refine ⟨((h1.mono (by simp [pllRegs])).trans (h2.mono (by simp [pllRegs]))).trans h34, ?_, ?_, ?_,
    flag_event_same s3 _ 0 (by simp) (by simp) (by simp [sourceOnly])⟩
  · exact (h4.flag (by simp [sourceOnly])).trans ((h3.flag (by simp [sourceOnly])).trans hsel)
  · exact (h4.flag (by simp [sourceOnly])).trans ((h3.flag (by simp [sourceOnly])).trans ((h2.flag (by simp)).trans hf))
  · exact (flag_event_apart _ _ _ (by simp [sourceOnly]) (by simp [Field.apart])).trans hsw

/-- A repair enters the log while it has room (R471). -/
theorem logRepair_room {s : State} (k p : Nat) (h : s.spare.log.length + s.spare.writing.length < 2048) :
    s.logRepair k p = State.setFld { s with spare := { s.spare with writing := s.spare.writing ++ [logEntry k p] } } SPR_STS_LOG_BUSY 1 :=
  if_neg (Nat.not_le.mpr h)

theorem logRepair_full {s : State} (k p : Nat) (h : 2048 ≤ s.spare.log.length + s.spare.writing.length) :
    s.logRepair k p = (s.setFld SPR_STS_LOG_FULL 1).event SPR_EVT_LOG_FULL := if_pos h

/-- A repair that is logged leaves the other fields of the status and of the events. -/
theorem logRepair_keeps (s : State) (k p : Nat) :
    (∀ f : Field, f.reg = .SPR_STS → SPR_STS_LOG_BUSY.apart f → SPR_STS_LOG_FULL.apart f → (s.logRepair k p).flag f = s.flag f) ∧
    (∀ f : Field, f.reg = .SPR_EVT → SPR_EVT_LOG_FULL.apart f → (s.logRepair k p).flag f = s.flag f) := by
  by_cases h : 2048 ≤ s.spare.log.length + s.spare.writing.length
  · rw [logRepair_full k p h]
    have h1 := touches_setFld (rs := [.SPR_STS]) s SPR_STS_LOG_FULL 1 0 (by simp)
    refine ⟨fun f hf _ ha => ?_, fun f hf ha => ?_⟩
    · exact ((touches_event_self _ SPR_EVT_LOG_FULL 0).flag (by simp [hf, sourceOnly])).trans (flag_setFld_apart s SPR_STS_LOG_FULL f 1 0 0 ha)
    · exact (flag_event_apart _ 0 0 (by simp [hf, sourceOnly]) ha).trans (h1.flag (by simp [hf]))
  · rw [logRepair_room k p (Nat.lt_of_not_le h)]
    refine ⟨fun f _ ha _ => flag_setFld_apart _ SPR_STS_LOG_BUSY f 1 0 0 ha, fun f hf _ => ?_⟩
    exact (touches_setFld (rs := [.SPR_STS]) _ SPR_STS_LOG_BUSY 1 0 (by simp)).flag (by simp [hf])

theorem pllLockLoss_switches {s : State} (hs : s.flag SPR_STS_PLL_SEL = false) (hb : s.pllBOk = true) :
    Gives .pllLockLoss s fun t =>
      t.flag SPR_STS_PLL_SEL = true ∧ t.flag SPR_FAILED_PLL_A = true ∧ t.flag SPR_EVT_PLL_SWITCH = true ∧ t.flag SPR_EVT_SWAP = true ∧
      (s.spare.log.length + s.spare.writing.length < 2048 → t.spare.writing = s.spare.writing ++ [logEntry 6 1] ∧ t.flag SPR_STS_LOG_BUSY = true) ∧
      (2048 ≤ s.spare.log.length + s.spare.writing.length → t.flag SPR_STS_LOG_FULL = true ∧ t.flag SPR_EVT_LOG_FULL = true) ∧
      t.power = s.power ∧ SameRegs [.SPR_STS, .SPR_FAILED, .SPR_EVT, .IC_PEND, .IC_MERGE_CNT] s t ∧ SameMemory s t := by
  have he : exec .pllLockLoss s = finish (s.onPllB.logRepair 6 1) := by
    show execPllLockLoss s = _
    rw [execPllLockLoss, hs, hb]
    rfl
  refine gives_finish he ?_
  obtain ⟨hk, hsel, hfail, hsw, hswap⟩ := onPllB_facts s
  have hspare : s.onPllB.spare = s.spare := hk.rest.spare
  generalize s.onPllB = u at hk hsel hfail hsw hswap hspare ⊢
  have hl := touches_logRepair u 6 1
  obtain ⟨hsts, hevt⟩ := logRepair_keeps u 6 1
  have hroom := logRepair_room (s := u) 6 1
  have hfull := logRepair_full (s := u) 6 1
  rw [hspare] at hroom hfull
  refine ⟨?_, ?_, ?_, ?_, fun h => ?_, fun h => ?_, hl.rest.power.trans hk.rest.power,
    sameRegs_settle fun r i hr => (hl.2 r i (notMem_part hr (by simp [logRegs]))).trans (hk.2 r i hr), hk.sameMemory.trans hl.sameMemory⟩
  · exact (flag_settle _ _ _ (by simp)).trans ((hsts _ rfl (by simp [Field.apart]) (by simp [Field.apart])).trans hsel)
  · exact (flag_settle _ _ _ (by simp)).trans ((hl.flag (by simp [logRegs])).trans hfail)
  · exact (flag_settle _ _ _ (by simp)).trans ((hevt _ rfl (by simp [Field.apart])).trans hsw)
  · exact (flag_settle _ _ _ (by simp)).trans ((hevt _ rfl (by simp [Field.apart])).trans hswap)
  · rw [hroom h]
    exact ⟨rfl, (flag_settle _ _ _ (by simp)).trans (flag_setFld_one _ _ _ (by simp) (by simp))⟩
  · rw [hfull h]
    exact ⟨(flag_settle _ _ _ (by simp)).trans (((touches_event_self _ SPR_EVT_LOG_FULL 0).flag (by simp [sourceOnly])).trans
      (flag_setFld_one u _ _ (by simp) (by simp))), (flag_settle _ _ _ (by simp)).trans (flag_event_same _ _ 0 (by simp) (by simp) (by simp [sourceOnly]))⟩

end Sys2Proof.Machine
end

section
/-!
PROOFS. A device without a core PLL, entries of the repair log, failed tests and slots of the security module, and the statement about wear
(R383, R469, R471, R485, R486, R495, R497, R532, R533).
-/
namespace Sys2Proof.Machine

/-! ### Regions that run slowed -/

/-- The status of a logical pipe shows that its region runs slowed. -/
def State.pipeSlowed (s : State) (p : Nat) : Bool := if p < 16 then s.flag ENC_EP_STS_SLOWED p else s.flag DEC_DP_STS_SLOWED (p - 16)

/-- A pipe's status with the slowing of its region (R448). -/
def State.putSlowed (s : State) (p : Nat) (b : Bool) : State :=
  if p < 16 then s.setFlag ENC_EP_STS_SLOWED b p else s.setFlag DEC_DP_STS_SLOWED b (p - 16)

/-- One pipe of a region that is shown: its work follows the clock, and its status the slowing (R97, R448, R450). -/
def State.slowPipe (r : Nat) (b : Bool) (s : State) (p : Nat) : State :=
  if pipeRegion p ≠ r then s else (if s.pipeSlowed p = b then s else s.reclock p b).putSlowed p b

theorem showSlowed_eq (s : State) (r : Nat) : s.showSlowed r = (List.range 24).foldl (State.slowPipe r (s.slowedRegion r)) s := rfl

/-- The registers that show slowed pipes. -/
def slowedRegs : List Reg := [.ENC_EP_STS, .DEC_DP_STS]

theorem touches_putSlowed (s : State) (p : Nat) (b : Bool) : Touches slowedRegs s (s.putSlowed p b) := by
  unfold State.putSlowed
  split
  · exact touches_setFlag s _ _ _ (by simp [slowedRegs])
  · exact touches_setFlag s _ _ _ (by simp [slowedRegs])

theorem pipeSlowed_putSlowed (s : State) (p q : Nat) (b : Bool) : (s.putSlowed p b).pipeSlowed q = if p = q then b else s.pipeSlowed q := by
  unfold State.putSlowed
  by_cases hp : p < 16
  · rw [if_pos hp]
    by_cases hq : p = q
    · rw [if_pos hq, ← hq, State.pipeSlowed, if_pos hp]
      exact flag_setFlag_same s _ b p (by simp) (by simp)
    · rw [if_neg hq, State.pipeSlowed, State.pipeSlowed, State.setFlag]
      split
      · rw [State.flag, fld_setFld_inst _ _ _ _ _ _ hq, State.flag]
      · exact (touches_setFld (rs := [.ENC_EP_STS]) s ENC_EP_STS_SLOWED _ p (by simp)).flag (by simp) _
  · rw [if_neg hp]
    by_cases hq : p = q
    · rw [if_pos hq, ← hq, State.pipeSlowed, if_neg hp]
      exact flag_setFlag_same s _ b _ (by simp) (by simp)
    · rw [if_neg hq, State.pipeSlowed, State.pipeSlowed, State.setFlag]
      split
      · exact (touches_setFld (rs := [.DEC_DP_STS]) s DEC_DP_STS_SLOWED _ _ (by simp)).flag (by simp) q
      · rw [State.flag, fld_setFld_inst _ _ _ _ _ _ (by omega), State.flag]

theorem codes_reclock (rs : List Reg) (s : State) (p : Nat) (b : Bool) : Codes rs s (s.reclock p b) := ⟨rfl, fun _ _ _ => rfl⟩

theorem codes_slowPipe (r : Nat) (b : Bool) (s : State) (p : Nat) : Codes slowedRegs s (s.slowPipe r b p) := by
  unfold State.slowPipe
  split
  · exact (Touches.refl _ s).codes
  · split
    · exact (touches_putSlowed s p b).codes
    · exact (codes_reclock _ s p b).trans (touches_putSlowed _ p b).codes

theorem pipeSlowed_slowPipe (r : Nat) (b : Bool) (s : State) (p q : Nat) :
    (s.slowPipe r b p).pipeSlowed q = if p = q ∧ pipeRegion p = r then b else s.pipeSlowed q := by
  unfold State.slowPipe
  by_cases hr : pipeRegion p = r
  · rw [if_neg (not_not.mpr hr), pipeSlowed_putSlowed]
    by_cases hq : p = q
    · rw [if_pos hq, if_pos ⟨hq, hr⟩]
    · rw [if_neg hq, if_neg (not_and.mpr fun h => absurd h hq), apply_ite (State.pipeSlowed · q)]
      exact ite_self _
  · rw [if_pos hr, if_neg (fun h => hr h.2)]

/-- A region that is shown shows its slowing in its own pipes and changes no other pipe's status. -/
theorem showSlowed_facts (s : State) (r : Nat) : Codes slowedRegs s (s.showSlowed r) ∧ (s.showSlowed r).power = s.power ∧
    (∀ p, p < 24 → pipeRegion p = r → (s.showSlowed r).pipeSlowed p = s.slowedRegion r) ∧
    (∀ p, pipeRegion p ≠ r → (s.showSlowed r).pipeSlowed p = s.pipeSlowed p) := by
  rw [showSlowed_eq]
  generalize s.slowedRegion r = b
  have hcodes : Codes slowedRegs s ((List.range 24).foldl (State.slowPipe r b) s) :=
    List.foldlRecOn (motive := fun t => Codes slowedRegs s t) _ _ (Touches.refl _ s).codes fun t ht p _ => ht.trans (codes_slowPipe r b t p)
  refine ⟨hcodes, by rw [hcodes.1], fun p hp hr => ?_, fun p hr => ?_⟩
  · refine foldl_establishes (f := State.slowPipe r b) (P := fun p (t : State) => pipeRegion p = r → t.pipeSlowed p = b) (fun t p h => ?_)
      (fun t p q h hx => ?_) (List.mem_range.mpr hp) s hr
    · rw [pipeSlowed_slowPipe, if_pos ⟨rfl, h⟩]
    · rw [pipeSlowed_slowPipe]
      split
      · rfl
      · exact h hx
  · refine foldl_keeps (f := State.slowPipe r b) (fun t : State => t.pipeSlowed p) (fun t q => ?_) _ s
    rw [pipeSlowed_slowPipe, if_neg]
    rintro ⟨rfl, h⟩
    exact hr h

/-- With no core PLL every region of a pipe runs slowed, and shows it (R469). -/
theorem showSlowed_all {s : State} (hs : s.power.pllSlow = true) : let t := (List.range 8).foldl State.showSlowed s
    Codes slowedRegs s t ∧ t.power = s.power ∧ ∀ p, p < 24 → t.pipeSlowed p = true := by
  have hslow : ∀ (t : State) (r : Nat), t.power.pllSlow = true → t.slowedRegion r = true := fun t r h => by rw [State.slowedRegion, h, Bool.or_true]
  have hcodes : ∀ l : List Nat, Codes slowedRegs s (l.foldl State.showSlowed s) := fun l =>
    List.foldlRecOn (motive := fun t => Codes slowedRegs s t) _ _ (Touches.refl _ s).codes fun t ht r _ => ht.trans (showSlowed_facts t r).1
  refine ⟨hcodes _, by rw [(hcodes _).1], fun p hp => ?_⟩
  refine foldl_establishes (f := State.showSlowed) (a := pipeRegion p) (P := fun r (t : State) => t.power.pllSlow = true → pipeRegion p = r → t.pipeSlowed p = true)
    (fun t r h hr => ?_) (fun t r q h hx hr => ?_) (List.mem_range.mpr ?_) s (by rw [(hcodes _).1]; exact hs) rfl
  · rw [(showSlowed_facts t r).2.1] at h
    rw [(showSlowed_facts t r).2.2.1 p hp hr, hslow t r h]
  · rw [(showSlowed_facts t q).2.1] at hx
    by_cases hq : pipeRegion p = q
    · rw [(showSlowed_facts t q).2.2.1 p hp hq, hslow t q hx]
    · rw [(showSlowed_facts t q).2.2.2 p hq, h hx hr]
  · unfold pipeRegion
    split <;> omega

/-- The state in which PLL A has failed and PLL B cannot take over (R466, R469). -/
def State.noPll (s : State) : State := State.noSpare { s.markFailed 32 with power := { s.power with pllSlow := true } } 32

theorem noPll_facts (s : State) : Touches (.SPR_FAILED :: .SPR_EVT :: faultOnly) { s with power := { s.power with pllSlow := true } } s.noPll ∧
    s.noPll.flag SPR_FAILED_PLL_A = true ∧ s.noPll.reg .FC_LAST = faultRecord 19 32 false s.tickIndex ∧ s.noPll.flag SPR_EVT_SPARE_NONE = true := by
  have h1 : Touches [.SPR_FAILED] { s with power := { s.power with pllSlow := true } } { s.markFailed 32 with power := { s.power with pllSlow := true } } :=
    ⟨rfl, (touches_setFld (rs := [.SPR_FAILED]) s SPR_FAILED_PLL_A 1 0 (by simp)).2⟩
  have hf : ({ s.markFailed 32 with power := { s.power with pllSlow := true } } : State).flag SPR_FAILED_PLL_A = true :=
    flag_setFld_one s SPR_FAILED_PLL_A 0 (by simp) (by simp)
  have hidx : ({ s.markFailed 32 with power := { s.power with pllSlow := true } } : State).tickIndex = s.tickIndex := h1.regN (by simp)
  rw [State.noPll, State.noSpare]
  generalize ({ s.markFailed 32 with power := { s.power with pllSlow := true } } : State) = u at h1 hf hidx ⊢
  have h2 := touches_record (rs := faultOnly) u 19 32 false fun _ h => h
  have hlast := last_record u (show 19 < 37 by omega) 32 false
  generalize u.record 19 32 = v at h2 hlast ⊢
  have h3 := touches_event_self v SPR_EVT_SPARE_NONE 0
  refine ⟨((h1.mono (by simp)).trans (h2.mono (by simp +contextual))).trans (h3.mono (by simp [sourceOnly, faultOnly])), ?_, ?_,
    flag_event_same v _ 0 (by simp) (by simp) (by simp [sourceOnly])⟩
  · exact (h3.flag (by simp [sourceOnly])).trans ((h2.flag (by simp [faultOnly])).trans hf)
  · rw [h3.2 _ _ (by simp [sourceOnly]), hlast, hidx]

theorem pllLockLoss_slows {s : State} (hs : s.flag SPR_STS_PLL_SEL = false) (hb : s.pllBOk = false) :
    Gives .pllLockLoss s fun t =>
      t.power.pllSlow = true ∧ t.flag SPR_FAILED_PLL_A = true ∧ t.reg .FC_LAST = faultRecord 19 32 false s.tickIndex ∧ t.flag SPR_EVT_SPARE_NONE = true ∧
      (∀ p : Nat, p < 16 → t.flag ENC_EP_STS_SLOWED p = true) ∧ (∀ p : Nat, p < 8 → t.flag DEC_DP_STS_SLOWED p = true) ∧
      SameRegs ([.SPR_STS, .SPR_FAILED, .SPR_EVT, .ENC_EP_STS, .DEC_DP_STS] ++ faultOnly) s t ∧ SameMemory s t := by
  have he : exec .pllLockLoss s = finish ((List.range 8).foldl State.showSlowed s.noPll) := by
    show execPllLockLoss s = _
    rw [execPllLockLoss, hs, hb]
    rfl
  refine gives_finish he ?_
  obtain ⟨hk, hfail, hlast, hevt⟩ := noPll_facts s
  have hpow : s.noPll.power.pllSlow = true := by rw [hk.rest.power]
  generalize s.noPll = u at hk hfail hlast hevt hpow ⊢
  obtain ⟨hc, hp, hslow⟩ := showSlowed_all hpow
  generalize (List.range 8).foldl State.showSlowed u = v at hc hp hslow ⊢
  have hkeep : ∀ {r : Reg}, r ∉ slowedRegs → r ≠ .SEC_STS → ∀ i, (settle v).reg r i = u.reg r i := fun hr hs i => (reg_settle _ _ _ hs).trans (hc.2 _ i hr)
  refine ⟨?_, (flag_congr (hkeep (by simp [slowedRegs]) (by simp) 0)).trans hfail, (hkeep (by simp [slowedRegs]) (by simp) 0).trans hlast,
    (flag_congr (hkeep (by simp [slowedRegs]) (by simp) 0)).trans hevt, fun p h => ?_, fun p h => ?_, fun r i hr hs => ?_,
    hk.sameMemory.trans hc.settled.2.2⟩
  · rw [settle_power, hp]
    exact hpow
  · have := hslow p (by omega)
    rw [State.pipeSlowed, if_pos h] at this
    exact (flag_settle _ _ _ (by simp)).trans this
  · have := hslow (p + 16) (by omega)
    rw [State.pipeSlowed, if_neg (by omega), Nat.add_sub_cancel] at this
    exact (flag_settle _ _ _ (by simp)).trans this
  · exact (hkeep (notMem_part hr (by simp [slowedRegs])) hs i).trans (hk.2 r i (notMem_part hr (by simp +contextual [faultOnly])))

/-! ### Entries of the repair log -/

/-- The oldest entry that is programmed is in the log (R471). -/
def State.entryLogged (s : State) (e : Nat) (rest : List Nat) : State :=
  (State.setFld { s with spare := { s.spare with log := s.spare.log ++ [e], writing := rest } } SPR_LOG_USED_USED (s.spare.log.length + 1)).setFlag
    SPR_STS_LOG_BUSY (!rest.isEmpty)

theorem execRepairLogProgrammed_logs {e : Nat} {rest : List Nat} {s : State} (h : s.spare.writing = e :: rest) :
    execRepairLogProgrammed s = finish (s.entryLogged e rest) := by
  rw [execRepairLogProgrammed, h]
  simp only [List.length_append, List.length_singleton]
  rfl

theorem execRepairLogProgrammed_idle {s : State} (h : s.spare.writing = []) : execRepairLogProgrammed s = finish s := by
  rw [execRepairLogProgrammed, h]

theorem repairLogProgrammed_logs {e : Nat} {rest : List Nat} {s : State} (h : s.spare.writing = e :: rest) (hn : s.spare.log.length < 2048) :
    Gives .repairLogProgrammed s fun t =>
      t.spare.log = s.spare.log ++ [e] ∧ t.spare.writing = rest ∧ t.fld SPR_LOG_USED_USED = s.spare.log.length + 1 ∧
      t.flag SPR_STS_LOG_BUSY = !rest.isEmpty ∧ SameRegs [.SPR_LOG_USED, .SPR_STS] s t ∧ SameMemory s t := by
  refine gives_finish (execRepairLogProgrammed_logs h) ⟨rfl, rfl, ?_, ?_, ?_, sameMemory_of_mems rfl rfl rfl⟩
  · rw [fld_settle _ _ _ (by simp), State.entryLogged, State.setFlag, fld_setFld_reg _ _ _ _ _ _ (by simp), fld_setFld_same _ _ _ _ (by simp)]
    exact Nat.mod_eq_of_lt (by simp only [SPR_LOG_USED_USED]; omega)
  · exact (flag_settle _ _ _ (by simp)).trans (flag_setFlag_same _ _ _ _ (by simp) (by simp))
  · refine sameRegs_settle fun r i hr => ?_
    exact ((touches_setFlag (rs := [.SPR_LOG_USED, .SPR_STS]) _ SPR_STS_LOG_BUSY _ 0 (by simp)).2 r i hr).trans
      ((touches_setFld (rs := [.SPR_LOG_USED, .SPR_STS]) _ SPR_LOG_USED_USED _ 0 (by simp)).2 r i hr)

/-! ### A test that fails -/

/-- The module in ERROR, with the failed test and its event, before the fault is recorded (R486). -/
def State.testFailed (s : State) (bit : Nat) : State := ((s.secState 3).setFld SEC_STS_ERR_TEST bit).event SEC_EVT_SELFTEST_FAIL

/-- Every key ends: those of the slots, of sessions and of link IDE (R383, R495). -/
def State.keysGone (s : State) : State := ((s.eraseSlots fun _ _ => true).endSessions).ideInsecure

/-- The registers of the module's error. -/
def errorStateRegs : List Reg := .SEC_STS :: .SEC_EVT :: sourceOnly

theorem touches_testFailed (s : State) (bit : Nat) : Touches errorStateRegs s (s.testFailed bit) :=
  ((touches_secState s 3).trans (touches_setFld _ SEC_STS_ERR_TEST bit 0 (by simp))).trans
    ((touches_event_self _ SEC_EVT_SELFTEST_FAIL 0).mono (by simp [sourceOnly]))

theorem testFailed_facts (s : State) {bit : Nat} (hb : bit < 16) : (s.testFailed bit).fld SEC_STS_STATE = 3 ∧ (s.testFailed bit).fld SEC_STS_ERR_TEST = bit ∧
    (s.testFailed bit).flag SEC_EVT_SELFTEST_FAIL = true ∧ (s.testFailed bit).flag SEC_STS_IDE_IO = s.flag SEC_STS_IDE_IO ∧
    (s.testFailed bit).flag SEC_STS_IDE_CM = s.flag SEC_STS_IDE_CM := by
  have he := touches_event_self ((s.secState 3).setFld SEC_STS_ERR_TEST bit) SEC_EVT_SELFTEST_FAIL 0
  have hide : ∀ f : Field, f.reg = .SEC_STS → SEC_STS_STATE.apart f → SEC_STS_ERR_TEST.apart f → (s.testFailed bit).flag f = s.flag f := fun f hr h1 h2 => by
    refine (he.flag (by simp [hr, sourceOnly])).trans ((flag_setFld_apart _ _ _ _ _ _ h2).trans ?_)
    rw [State.flag, fld_secState_apart s 3 hr h1, State.flag]
  refine ⟨?_, ?_, flag_event_same _ _ 0 (by simp) (by simp) (by simp [sourceOnly]), hide _ rfl (by simp [Field.apart]) (by simp [Field.apart]),
    hide _ rfl (by simp [Field.apart]) (by simp [Field.apart])⟩
  · exact (he.fld (by simp [sourceOnly])).trans ((fld_setFld_apart _ _ _ _ _ _ (by simp [Field.apart])).trans (fld_secState s (by omega)))
  · exact (he.fld (by simp [sourceOnly])).trans ((fld_setFld_same _ _ _ _ (by simp)).trans (Nat.mod_eq_of_lt hb))

/-- The registers of keys that end. -/
def keyRegs : List Reg := .SEC_STS :: .SEC_EVT :: .SEC_SESSIONS :: .SEC_KEYS_USED :: sourceOnly

theorem keysGone_facts (s : State) : Secures keyRegs s s.keysGone ∧ (∀ h, (s.keysGone.slot h).Keyless) ∧ s.keysGone.flag SEC_STS_IDE_IO = false ∧
    s.keysGone.flag SEC_STS_IDE_CM = false ∧ (s.flag SEC_STS_IDE_IO = true ∨ s.flag SEC_STS_IDE_CM = true → s.keysGone.cxl.insecure = true) ∧
    (∀ f : Field, f.reg = .SEC_STS → SEC_STS_TRANSPORT.apart f → SEC_STS_IDE_IO.apart f → SEC_STS_IDE_CM.apart f → s.keysGone.fld f = s.fld f) ∧
    s.keysGone.flag SEC_EVT_SELFTEST_FAIL = s.flag SEC_EVT_SELFTEST_FAIL := by
  rw [State.keysGone]
  have h1 := secures_eraseSlots s fun _ _ => true
  have hslots := eraseSlots_all s
  have hsts := fun f (hr : f.reg = .SEC_STS) => fld_eraseSlots s (fun _ _ => true) f 0 (by simp [hr])
  generalize (s.eraseSlots fun _ _ => true) = s1 at h1 hslots hsts ⊢
  have h2 := touches_endSessions s1
  have hevt := flag_endSessions s1 (f := SEC_EVT_SELFTEST_FAIL) (by simp) (by simp [sourceOnly]) (by simp [Field.apart])
  generalize s1.endSessions = s2 at h2 hevt ⊢
  obtain ⟨h3, hio, hcm, hins, hsec⟩ := ideInsecure_facts s2
  have hide := fun f => fld_ideInsecure s2 (f := f)
  generalize s2.ideInsecure = s3 at h3 hio hcm hins hsec hide ⊢
  have hkeep : ∀ f : Field, f.reg = .SEC_STS → SEC_STS_TRANSPORT.apart f → s2.fld f = s.fld f := fun f hr ha =>
    (h2.fld (by simp [hr, sessionRegs, sourceOnly])).trans (hsts f hr ha)
  have hflag : ∀ f : Field, f.reg = .SEC_STS → SEC_STS_TRANSPORT.apart f → s2.flag f = s.flag f := fun f hr ha => by
    rw [State.flag, hkeep f hr ha, State.flag]
  refine ⟨((h1.mono (by simp [keyRegs])).trans (h2.secures.mono (by simp +contextual [keyRegs, sessionRegs]))).trans (h3.mono (by simp [keyRegs])), fun h => ?_, hio, hcm,
    fun h => hins ?_, fun f hr ht hi hc => (hide f hi hc).trans (hkeep f hr ht), ?_⟩
  · have hslot : s3.slot h = s1.slot h := by rw [State.slot, hsec, h2.rest.security, State.slot]
    rw [hslot]
    exact hslots h
  · rwa [hflag _ rfl (by simp [Field.apart]), hflag _ rfl (by simp [Field.apart])]
  · exact (h3.flag (by simp)).trans (hevt.trans (h1.flag (by simp)))

theorem enterError_steps (s : State) (bit : Nat) : s.enterError bit = ((s.testFailed bit).level 29 0).keysGone.dropSrtp := rfl

theorem enterError_eq {s : State} (bit : Nat) (hf : s.flows = []) (hl : s.levels.getLsbD 29 = false) :
    s.enterError bit = (State.record { s.testFailed bit with levels := setBitField s.levels 29 1 1 } 29 0).keysGone := by
  have hk := touches_testFailed s bit
  have hlevel : (s.testFailed bit).level 29 0 = State.record { s.testFailed bit with levels := setBitField s.levels 29 1 1 } 29 0 := by
    rw [State.level, hk.rest.levels, hl, if_neg Bool.false_ne_true]
  have hflows : (State.record { s.testFailed bit with levels := setBitField s.levels 29 1 1 } 29 0).keysGone.flows = [] := by
    rw [(keysGone_facts _).1.flows, (touches_record _ 29 0 false fun _ h => h).rest.flows]
    exact hk.rest.flows.trans hf
  rw [enterError_steps, hlevel, State.dropSrtp, hflows, List.foldl_nil]


theorem secConditionalTestFail_errs {s : State} (hs : s.fld SEC_STS_STATE = 2) (hl : s.levels.getLsbD 29 = false) (hf : s.flows = []) :
    Gives .secConditionalTestFail s fun t =>
      t.fld SEC_STS_STATE = 3 ∧ t.fld SEC_STS_ERR_TEST = 15 ∧ t.flag SEC_EVT_SELFTEST_FAIL = true ∧ t.levels.getLsbD 29 = true ∧
      t.reg .FC_LAST = faultRecord 29 0 false s.tickIndex ∧ (∀ h : Nat, (t.slot h).cur = none ∧ (t.slot h).next = none) ∧
      (s.flag SEC_STS_IDE_IO = true ∨ s.flag SEC_STS_IDE_CM = true → t.cxl.insecure = true ∧ t.flag SEC_STS_IDE_IO = false ∧ t.flag SEC_STS_IDE_CM = false) ∧
      SameRegs ([.SEC_STS, .SEC_EVT, .SEC_SESSIONS, .SEC_KEYS_USED] ++ faultOnly) s t ∧ SameMemory s t := by
  have he : exec .secConditionalTestFail s = finish (State.record { s.testFailed 15 with levels := setBitField s.levels 29 1 1 } 29 0).keysGone :=
    congrArg finish ((if_pos hs).trans (enterError_eq 15 hf hl))
  refine gives_finish he ?_
  have hk := (touches_testFailed s 15).withLevels (setBitField s.levels 29 1 1)
  obtain ⟨hst, herr, hevt, hio, hcm⟩ := testFailed_facts s (show 15 < 16 by omega)
  have hbit : (setBitField s.levels 29 1 1).getLsbD 29 = true := by
    have h := testBit_setBitField_one s.levels (show 29 < 64 by omega)
    rwa [BitVec.testBit_toNat] at h
  have hread : ∀ f i, State.fld { s.testFailed 15 with levels := setBitField s.levels 29 1 1 } f i = (s.testFailed 15).fld f i := fun _ _ => rfl
  have hflag : ∀ f i, State.flag { s.testFailed 15 with levels := setBitField s.levels 29 1 1 } f i = (s.testFailed 15).flag f i := fun _ _ => rfl
  have hlev : ({ s.testFailed 15 with levels := setBitField s.levels 29 1 1 } : State).levels = setBitField s.levels 29 1 1 := rfl
  have hidx : ({ s.testFailed 15 with levels := setBitField s.levels 29 1 1 } : State).tickIndex = s.tickIndex := hk.regN (by simp [errorStateRegs, sourceOnly])
  generalize ({ s.testFailed 15 with levels := setBitField s.levels 29 1 1 } : State) = u at hk hread hflag hlev hidx ⊢
  have hr := touches_record (rs := faultOnly) u 29 0 false fun _ h => h
  have hlast := last_record u (show 29 < 37 by omega) 0 false
  generalize u.record 29 0 = v at hr hlast ⊢
  obtain ⟨hg, hslots, gio, gcm, hins, hsts, hself⟩ := keysGone_facts v
  generalize v.keysGone = w at hg hslots gio gcm hins hsts hself ⊢
  have hide : ∀ f : Field, f.reg = .SEC_STS → v.flag f = (s.testFailed 15).flag f := fun f h => (hr.flag (by simp [h, faultOnly])).trans (hflag f 0)
  refine ⟨?_, ?_, ?_, ?_, ?_, hslots, fun h => ⟨hins ?_, ?_, ?_⟩, sameRegs_settle fun r i hn => ?_, (hk.sameMemory.trans hr.sameMemory).trans hg.sameMemory⟩
  · rw [fld_settle_apart _ _ _ (by simp [Field.apart]), hsts _ rfl (by simp [Field.apart]) (by simp [Field.apart]) (by simp [Field.apart]),
      hr.fld (by simp [faultOnly]), hread, hst]
  · rw [fld_settle_apart _ _ _ (by simp [Field.apart]), hsts _ rfl (by simp [Field.apart]) (by simp [Field.apart]) (by simp [Field.apart]),
      hr.fld (by simp [faultOnly]), hread, herr]
  · rw [flag_settle _ _ _ (by simp), hself, hr.flag (by simp [faultOnly]), hflag, hevt]
  · rw [settle_levels, hg.levels, hr.rest.levels, hlev, hbit]
  · rw [reg_settle _ _ _ (by simp), hg.2 _ _ (by simp [keyRegs, sourceOnly]), hlast, hidx]
  · rwa [hide _ rfl, hide _ rfl, hio, hcm]
  · exact (flag_settle_apart _ _ _ (by simp [Field.apart])).trans gio
  · exact (flag_settle_apart _ _ _ (by simp [Field.apart])).trans gcm
  · rw [hg.2 r i (notMem_part hn (by simp [keyRegs, sourceOnly, faultOnly])), hr.2 r i (notMem_part hn (by simp +contextual)),
      hk.2 r i (notMem_part hn (by simp [errorStateRegs, sourceOnly, faultOnly]))]
    rfl

/-! ### An error in a slot -/

/-- A slot whose error is found is zeroised, with FS31 and its event (R497). -/
def State.slotLost (s : State) (h : Nat) : State := ((s.eraseSlot h).record 31 h).event SEC_EVT_ZEROIZED

theorem execKeystoreEccError_slot {h : Nat} {s : State} (hh : keyHandle h = true) (hn : h ≠ 0xD00) :
    execKeystoreEccError h s = finish (if 0xC00 ≤ h ∧ h < 0xC20 then (s.slotLost h).ideInsecure else s.slotLost h) :=
  congrArg finish ((if_neg hn).trans (if_neg (by rw [hh]; simp)))

theorem execKeystoreEccError_other {h : Nat} {s : State} (hh : keyHandle h = false) (hn : h ≠ 0xD00) : execKeystoreEccError h s = finish s :=
  congrArg finish ((if_neg hn).trans (if_pos (by rw [hh]; rfl)))

theorem slotLost_facts (s : State) (h : Nat) : Secures ([.SEC_STS, .SEC_EVT, .SEC_KEYS_USED] ++ faultOnly) s (s.slotLost h) ∧
    ((s.slotLost h).slot h).Keyless ∧ (∀ e, e ≠ h → (s.slotLost h).slot e = s.slot e) ∧ (s.slotLost h).reg .FC_LAST = faultRecord 31 h false s.tickIndex ∧
    (s.slotLost h).flag SEC_EVT_ZEROIZED = true ∧ (s.slotLost h).flag SEC_STS_IDE_IO = s.flag SEC_STS_IDE_IO ∧
    (s.slotLost h).flag SEC_STS_IDE_CM = s.flag SEC_STS_IDE_CM ∧ (h ≠ 0xE00 → Secures ([.SEC_EVT, .SEC_KEYS_USED] ++ faultOnly) s (s.slotLost h)) := by
  rw [State.slotLost]
  have h1 := secures_eraseSlot s h
  have h1' := secures_eraseSlot_ne s (h := h)
  have hkey := eraseSlot_keyless s h
  have hother := fun e => slot_eraseSlot_ne s (h := h) (e := e)
  have hfld := fun f (hr : f.reg = .SEC_STS) => fld_eraseSlot s h f 0 (by simp [hr])
  generalize s.eraseSlot h = s1 at h1 h1' hkey hother hfld ⊢
  have h2 := touches_record (rs := faultOnly) s1 31 h false fun _ k => k
  have hlast := last_record s1 (show 31 < 37 by omega) h false
  generalize s1.record 31 h = s2 at h2 hlast ⊢
  have h3 := touches_event_self s2 SEC_EVT_ZEROIZED 0
  have hslot : ∀ e, (s2.event SEC_EVT_ZEROIZED).slot e = s1.slot e := fun e => by rw [State.slot, h3.rest.security, h2.rest.security, State.slot]
  have hide : ∀ f : Field, f.reg = .SEC_STS → SEC_STS_TRANSPORT.apart f → (s2.event SEC_EVT_ZEROIZED).flag f = s.flag f := fun f hr ha => by
    rw [h3.flag (by simp [hr, sourceOnly]), h2.flag (by simp [hr, faultOnly]), State.flag, hfld f hr ha, State.flag]
  have h23 : Secures ([.SEC_EVT, .SEC_KEYS_USED] ++ faultOnly) s1 (s2.event SEC_EVT_ZEROIZED) :=
    (h2.secures.mono (by simp +contextual)).trans (h3.secures.mono (by simp [sourceOnly, faultOnly]))
  refine ⟨(h1.mono (by simp)).trans (h23.mono (by simp +contextual)), by rw [hslot]; exact hkey, fun e he => (hslot e).trans (hother e he), ?_,
    flag_event_same s2 _ 0 (by simp) (by simp) (by simp [sourceOnly]), hide _ rfl (by simp [Field.apart]), hide _ rfl (by simp [Field.apart]),
    fun hn => ((h1' hn).mono (by simp)).trans h23⟩
  rw [h3.2 _ _ (by simp [sourceOnly]), hlast, State.tickIndex, h1.regN (by simp), State.tickIndex]

theorem keystoreEccError_zeroises {h : Nat} {s : State} (hh : keyHandle h = true) (hn : h ≠ 0xD00) :
    Gives (.keystoreEccError h) s fun t =>
      (t.slot h).cur = none ∧ (t.slot h).next = none ∧ (∀ e : Nat, e ≠ h → t.slot e = s.slot e) ∧
      t.reg .FC_LAST = faultRecord 31 h false s.tickIndex ∧ t.flag SEC_EVT_ZEROIZED = true ∧ SameMemory s t ∧
      (h < 0xC00 → SameRegs ([.SEC_EVT, .SEC_KEYS_USED] ++ faultOnly) s t) ∧
      (0xC00 ≤ h → h < 0xC20 → s.flag SEC_STS_IDE_IO = true ∨ s.flag SEC_STS_IDE_CM = true → t.cxl.insecure = true) := by
  refine gives_finish (execKeystoreEccError_slot hh hn) ?_
  obtain ⟨hk, ⟨hcur, hnext⟩, hother, hlast, hevt, hio, hcm, hsrtp⟩ := slotLost_facts s h
  generalize s.slotLost h = u at hk hcur hnext hother hlast hevt hio hcm hsrtp ⊢
  by_cases hr : 0xC00 ≤ h ∧ h < 0xC20
  · rw [if_pos hr]
    obtain ⟨hi, -, -, hins, hsec⟩ := ideInsecure_facts u
    have hslot : ∀ e, (settle u.ideInsecure).slot e = u.slot e := fun e => by rw [State.slot, settle_security, hsec, State.slot]
    refine ⟨by rw [hslot, hcur], by rw [hslot, hnext], fun e he => (hslot e).trans (hother e he), ?_, ?_, hk.sameMemory.trans hi.sameMemory,
      fun hl => absurd hr.1 (by omega), fun _ _ hf => hins (by rwa [hio, hcm])⟩
    · rw [reg_settle _ _ _ (by simp), hi.2 _ _ (by simp), hlast]
    · rw [flag_settle _ _ _ (by simp), hi.flag (by simp), hevt]
  · rw [if_neg hr]
    exact ⟨hcur, hnext, hother, (reg_settle _ _ _ (by simp)).trans hlast, (flag_settle _ _ _ (by simp)).trans hevt, hk.sameMemory,
      fun hl => (hsrtp (by omega)).settled.1, fun h1 h2 => absurd ⟨h1, h2⟩ hr⟩

/-- The device without its identity (R497). -/
def State.seedLost (s : State) : State := State.showIdentity { s with security := { s.security with seedBad := true } }

theorem seedLost_facts (s : State) : s.seedLost.noIdentity = true ∧ s.seedLost.flag SEC_STS_DECOMMISSIONED = true ∧
    s.seedLost.security = { s.security with seedBad := true } ∧ s.seedLost.tickIndex = s.tickIndex := by
  have hno : State.noIdentity { s with security := { s.security with seedBad := true } } = true := Bool.or_true _
  rw [State.seedLost, State.showIdentity, hno]
  exact ⟨hno, flag_setFlag_same _ _ _ _ (by simp) (by simp), rfl, (touches_setFlag (rs := [.SEC_STS]) _ SEC_STS_DECOMMISSIONED true 0 (by simp)).regN (by simp)⟩

theorem burned_eraseSlot (s : State) (h : Nat) : (s.eraseSlot h).security.burned = s.security.burned := by
  rcases eraseSlot_cases s h with ⟨hx, -⟩ | ⟨k, -, hx⟩ <;> rw [hx]
  rw [setSlot_slots, State.slotPut]

theorem execKeystoreEccError_seed (s : State) : execKeystoreEccError 0xD00 s = finish ((s.eraseSlot 0xD00).seedLost.record 31 0xD00) :=
  congrArg finish (if_pos rfl)

theorem keystoreEccError_seed (s : State) : Gives (.keystoreEccError 0xD00) s fun t =>
    (t.slot 0xD00).cur = none ∧ t.noIdentity = true ∧ t.security.burned = s.security.burned ∧ t.flag SEC_STS_DECOMMISSIONED = true ∧
    t.reg .FC_LAST = faultRecord 31 0xD00 false s.tickIndex := by
  refine gives_finish (execKeystoreEccError_seed s) ?_
  have hkey := (eraseSlot_keyless s 0xD00).1
  have hburned := burned_eraseSlot s 0xD00
  have hidx0 : (s.eraseSlot 0xD00).tickIndex = s.tickIndex := (secures_eraseSlot s 0xD00).regN (by simp)
  generalize s.eraseSlot 0xD00 = e at hkey hburned hidx0 ⊢
  obtain ⟨hnone, hflag, hsec, hidx⟩ := seedLost_facts e
  generalize e.seedLost = u at hnone hflag hsec hidx ⊢
  have hr := touches_record (rs := faultOnly) u 31 0xD00 false fun _ h => h
  have hlast := last_record u (show 31 < 37 by omega) 0xD00 false
  generalize u.record 31 0xD00 = v at hr hlast ⊢
  have hsecv : (settle v).security = { e.security with seedBad := true } := hr.rest.security.trans hsec
  refine ⟨?_, ?_, ?_, ?_, ?_⟩
  · rw [State.slot, hsecv]
    exact hkey
  · rw [State.noIdentity, hsecv, Bool.or_true]
  · rw [hsecv, hburned]
  · rw [flag_settle_apart _ _ _ (by simp [Field.apart]), hr.flag (by simp [faultOnly]), hflag]
  · rw [reg_settle _ _ _ (by simp), hlast, hidx, hidx0]

/-! ### The statement -/

theorem execSmbusRead_reads {r : Reg} {n : Nat} (s : State)
    (h : (n, r) ∈ [(0, Reg.AON_LEAD), (1, Reg.FC_STATUS), (2, Reg.PM_TEMP), (3, Reg.PM_STATE), (4, Reg.GLB_RST_STS)]) :
    execSmbusRead n s = finish { s with lastRead := s.reg r } := by
  have hr : smbusReg n = some r := by
    simp only [List.mem_cons, List.not_mem_nil, or_false, Prod.mk.injEq] at h
    rcases h with ⟨rfl, rfl⟩ | ⟨rfl, rfl⟩ | ⟨rfl, rfl⟩ | ⟨rfl, rfl⟩ | ⟨rfl, rfl⟩ <;> rfl
  rw [execSmbusRead, hr]

/-- Settles O58: the measurement and what it claims, then the PLL by whether its spare can be used, the log, the failed test by the keys that
end, a slot's error by the kind of slot, and the board's ports as they act. -/
theorem wearAndFailuresAreFound : Obligations.WearAndFailuresAreFound :=
  ⟨fun _ ppm s hu => agingMeasure_measures ppm s hu,
    fun _ _ _ hu => gives_unchanged (congrArg finish (if_pos hu)),
    fun _ hs hb => pllLockLoss_switches hs hb,
    fun _ hs hb => pllLockLoss_slows hs hb,
    fun _ hs => gives_unchanged (congrArg finish (if_pos hs)),
    fun _ _ _ h hn => repairLogProgrammed_logs h hn,
    fun _ h => gives_unchanged (execRepairLogProgrammed_idle h),
    fun _ hs hl hf => secConditionalTestFail_errs hs hl hf,
    fun _ hs => gives_unchanged (congrArg finish (if_neg hs)),
    fun _ _ hh hn => keystoreEccError_zeroises hh hn,
    keystoreEccError_seed,
    fun _ _ hh hn => gives_unchanged (execKeystoreEccError_other hh hn),
    fun _ _ s h => gives_finish (execSmbusRead_reads s h) rfl,
    fun _ _ => gives_finish rfl rfl⟩

end Sys2Proof.Machine
end

section
/-!
SUPPORT. What the end of a stream or a flow leaves: the other streams and flows, and the registers that say which queues are enabled and who owns
queues and channels (R192, R272, R505).
-/
namespace Sys2Proof.Machine

/-! ### The frame -/

/-- The registers of the host's queues and channels that neither a stream nor a flow writes. -/
def queueRegs : List Reg := [.CMDQ_CFG, .CPLQ_CFG, .CMDQ_OWNER, .CPLQ_OWNER, .DMA_CH_OWNER]

/-- The streams with `P`, the flows with `Q`, and the queues' registers are as they were. -/
def Spares (P Q : Nat → Prop) (s t : State) : Prop :=
  (∀ k, P k → t.stream k = s.stream k) ∧ (∀ e, Q e → t.flow e = s.flow e) ∧ ∀ r i, r ∈ queueRegs → t.reg r i = s.reg r i

section
variable {P Q : Nat → Prop}

theorem Spares.refl (s : State) : Spares P Q s s := ⟨fun _ _ => rfl, fun _ _ => rfl, fun _ _ _ => rfl⟩

theorem Spares.trans {s t u : State} (h : Spares P Q s t) (k : Spares P Q t u) : Spares P Q s u :=
  ⟨fun i hi => (k.1 i hi).trans (h.1 i hi), fun i hi => (k.2.1 i hi).trans (h.2.1 i hi), fun r i hr => (k.2.2 r i hr).trans (h.2.2 r i hr)⟩

theorem Spares.mono {P' Q' : Nat → Prop} {s t : State} (h : Spares P Q s t) (hp : ∀ i, P' i → P i) (hq : ∀ i, Q' i → Q i) : Spares P' Q' s t :=
  ⟨fun i hi => h.1 i (hp i hi), fun i hi => h.2.1 i (hq i hi), h.2.2⟩

theorem spares_foldl {α : Type} {f : State → α → State} (hf : ∀ t a, Spares P Q t (f t a)) (l : List α) (s : State) : Spares P Q s (l.foldl f s) := by
  induction l generalizing s with
  | nil => exact Spares.refl s
  | cons a l ih => exact (hf s a).trans (ih _)

theorem spares_foldl_mem {α : Type} {f : State → α → State} {l : List α} (hf : ∀ t, ∀ a ∈ l, Spares P Q t (f t a)) (s : State) :
    Spares P Q s (l.foldl f s) :=
  List.foldlRecOn (motive := fun t => Spares P Q s t) l f (Spares.refl s) fun t ht a ha => ht.trans (hf t a ha)

/-- A change that keeps the streams, the flows and the queues' registers. -/
theorem spares_of_same {s t : State} (hs : t.streams = s.streams) (hf : t.flows = s.flows) (hr : ∀ r i, r ∈ queueRegs → t.reg r i = s.reg r i) :
    Spares P Q s t :=
  ⟨fun k _ => by rw [State.stream, hs, State.stream], fun e _ => by rw [State.flow, hf, State.flow], hr⟩

/-- A change outside the streams, the flows and the registers. -/
theorem spares_of_rest {s t : State} (hs : t.streams = s.streams) (hf : t.flows = s.flows) (hr : t.regs = s.regs) : Spares P Q s t :=
  spares_of_same hs hf fun r i _ => reg_congr hr r i

theorem Touches.spares {rs : List Reg} {s t : State} (h : Touches rs s t) (hr : ∀ r ∈ queueRegs, r ∉ rs) : Spares P Q s t :=
  spares_of_same h.streams h.rest.flows fun r i hm => h.2 r i (hr r hm)

theorem Rest.spares {rs : List Reg} {s t : State} (h : Rest rs s t) (hr : ∀ r ∈ queueRegs, r ∉ rs) : Spares P Q s t :=
  spares_of_same h.streams h.flows fun r i hm => h.2 r i (hr r hm)

/-! ### Registers, objects and answers -/

theorem spares_setReg (s : State) (r : Reg) (v : DWord) (i : Nat) (h : r ∉ queueRegs) : Spares P Q s (s.setReg r v i) :=
  (touches_setReg (rs := [r]) s r v i (by simp)).spares fun _ hm hr => h (List.mem_singleton.mp hr ▸ hm)

theorem spares_putN (s : State) (r : Reg) (v i : Nat) (h : r ∉ queueRegs) : Spares P Q s (s.putN r v i) := spares_setReg s r _ i h

theorem spares_setFld (s : State) (f : Field) (v i : Nat) (h : f.reg ∉ queueRegs) : Spares P Q s (s.setFld f v i) := spares_setReg s f.reg _ i h

theorem spares_resetReg (s : State) (r : Reg) (i : Nat) (h : r ∉ queueRegs) : Spares P Q s (s.resetReg r i) :=
  spares_of_same rfl rfl fun r' i' hm => by
    have hn : ¬(r = r' ∧ i = i') := fun hx => h (hx.1 ▸ hm)
    rw [reg_resetReg, if_neg hn]

theorem spares_event (s : State) (f : Field) (i : Nat) (h : f.reg ∉ queueRegs) : Spares P Q s (s.event f i) :=
  (touches_event_self s f i).spares fun r hm hr => by
    rcases List.mem_cons.mp hr with rfl | hr
    · exact h hm
    · simp only [sourceOnly, List.mem_cons, List.not_mem_nil, or_false] at hr
      rcases hr with rfl | rfl <;> simp [queueRegs] at hm

theorem spares_touch (s : State) (k h : Nat) : Spares P Q s (s.touch k h) := spares_of_rest rfl rfl rfl

theorem spares_answer (s : State) (c : Cmd) (st d w : Nat) : Spares P Q s (s.answer c st d w) := (answer_rest s c st d w).spares (by decide)

theorem spares_answerLater (s : State) (c : Option Cmd) (st d w : Nat) : Spares P Q s (s.answerLater c st d w) :=
  (rest_answerLater s c st d w).spares (by decide)

theorem spares_mark (s : State) (d a b : Nat) : Spares P Q s (s.mark d a b) :=
  (spares_putN s .FB_DESC_MARKS _ d (by decide)).trans (spares_touch _ 6 d)

/-! ### Buffers -/

theorem spares_poolShown (s : State) (k n : Nat) : Spares P Q s (s.poolShown k n) :=
  ((spares_setFld s BP_STS_IN_USE n k (by decide)).trans (spares_setFld _ BP_STS_EMPTY _ k (by decide))).trans
    ((bpOver_facts _ k n).2.spares (by simp [queueRegs, poolRegs]))

theorem spares_bpSync (s : State) (k i n : Nat) : Spares P Q s (s.bpSync k i n) := by
  rw [bpSync_eq]
  exact (spares_poolShown s k n).trans ((rest_store [] _ .device _ _).spares (by simp))

theorem spares_bpFree (s : State) (k i : Nat) : Spares P Q s (s.bpFree k i) := by
  unfold State.bpFree
  split
  · exact (spares_event s BP_EVT_BAD_FREE k (by decide)).trans (spares_setFld _ BP_ERR_IDX_INDEX i k (by decide))
  · split
    · exact ((spares_event s BP_EVT_DOUBLE_FREE k (by decide)).trans (spares_putN _ .BP_DFREE_CNT _ k (by decide))).trans
        (spares_setFld _ BP_ERR_IDX_INDEX i k (by decide))
    · exact Spares.trans (t := { s with bpTaken := _ }) (spares_of_rest rfl rfl rfl) (spares_bpSync _ k i _)

theorem spares_bpFreeAll (s : State) (l : List (Nat × Nat)) : Spares P Q s (s.bpFreeAll l) := by
  unfold State.bpFreeAll
  exact spares_foldl (f := fun t (b : Nat × Nat) => t.bpFree b.1 b.2) (fun t b => spares_bpFree t b.1 b.2) l s

theorem spares_freePool (s : State) (l : List Nat) : Spares P Q s (s.freePool l) :=
  spares_foldl (fun t d => ((spares_putN t .FB_DESC_OWN _ d (by decide)).trans (spares_putN _ .FB_DESC_MARKS _ d (by decide))).trans (spares_touch _ 6 d)) l s

/-! ### Votes -/

theorem spares_setDom (s : State) (d st : Nat) : Spares P Q s (s.setDom d st) :=
  (spares_setFld s PM_DOM_STS_STATE st d (by decide)).trans (spares_of_rest rfl rfl rfl)

theorem spares_domMove (s : State) (d : Nat) : Spares P Q s (s.domMove d) := by
  unfold State.domMove
  split
  · exact Spares.refl s
  · split
    · exact (spares_setDom s d domTransit).trans (spares_of_rest rfl rfl rfl)
    · split
      · exact (spares_setDom s d domOff).trans (spares_event _ PM_EVT_DOM_OFF 0 (by decide))
      · exact Spares.refl s

theorem spares_dependVote (s : State) : Spares P Q s s.dependVote := spares_setReg s .AON_VOTE _ 14 (by decide)

theorem spares_activeState (s : State) : Spares P Q s s.activeState := by
  unfold State.activeState
  split
  · exact Spares.refl s
  · exact spares_setFld s PM_STATE_STATE _ 0 (by decide)

theorem touches_syncMasks (s : State) : Touches (.ARB_MASK :: .ARB_MASK_FENCE :: .ARB_EVT :: sourceOnly) s s.syncMasks :=
  ((touches_putN s .ARB_MASK _ 0 (by simp)).trans (touches_putN _ .ARB_MASK_FENCE _ 0 (by simp))).trans
    ((touches_eventIf _ _ ARB_EVT_MASK_CHANGE 0).mono (by simp [sourceOnly]))

theorem spares_settleVotes (s : State) : Spares P Q s s.settleVotes := spares_foldl (fun t _ => spares_answer t _ 0 0 _) _ s

theorem spares_netFollows (s : State) : Spares P Q s s.netFollows := by
  unfold State.netFollows
  split
  · exact Spares.refl s
  · exact spares_domMove s 14

theorem spares_domainsMove (s : State) : Spares P Q s s.domainsMove := by
  unfold State.domainsMove
  split
  · exact Spares.refl s
  · have h1 := ((spares_foldl (P := P) (Q := Q) spares_domMove (List.range 24) s).trans (spares_dependVote _)).trans (spares_netFollows _)
    have h2 := (h1.trans (spares_activeState _)).trans ((touches_syncMasks _).spares (by decide))
    exact h2.trans (spares_settleVotes _)

theorem spares_vote (s : State) (c d : Nat) (b : Bool) : Spares P Q s (s.vote c d b) := by
  unfold State.vote
  split
  · exact Spares.refl s
  · dsimp only
    split
    · exact Spares.refl s
    · split
      · exact spares_setReg s .AON_VOTE _ d (by decide)
      · exact (spares_setReg s .AON_VOTE _ d (by decide)).trans (spares_domainsMove _)

theorem spares_streamVotes (s : State) : Spares P Q s s.streamVotes := spares_foldl (fun t d => spares_vote t 1 d _) _ s

theorem spares_flowVotes (s : State) : Spares P Q s s.flowVotes := spares_foldl (fun t g => spares_vote t 2 (10 + g) _) _ s

end

/-! ### One stream -/

section
variable {Q : Nat → Prop}

theorem spares_setStream (s : State) (h : Nat) (x : Stream) : Spares (· ≠ h) Q s (s.setStream h x) :=
  ⟨fun _ hk => stream_onStream_ne s (fun _ => x) hk, fun _ _ => rfl, fun _ _ _ => rfl⟩

theorem spares_onStream (s : State) (h : Nat) (f : Stream → Stream) : Spares (· ≠ h) Q s (s.onStream h f) := spares_setStream s h _

theorem spares_showSurv {P : Nat → Prop} (s : State) : Spares P Q s s.showSurv := spares_putN s .GLB_SURV _ 0 (by decide)

/-- The last steps of a configuration that comes into force: the pool it leaves, its rings' pointers, and its registers. -/
theorem spares_configShown {P : Nat → Prop} (s : State) (h : Nat) (l : List Nat) (c d e f : Prop) [Decidable c] [Decidable d] [Decidable e] [Decidable f] :
    let s2 := if c then s else s.freePool l
    Spares P Q s (((if d then if e then s2 else (s2.resetReg .DEC_S_REC_HEAD h).resetReg .DEC_S_REC_TAIL h
      else if f then ((s2.putN .FB_S_RING_WR 0 h).putN .FB_S_RING_RD 0 h).setFld FB_S_RING_CFG_PHASE 1 h else s2).showStream h).streamVotes) := by
  intro s2
  have h2 : Spares P Q s s2 := by
    unfold s2
    split
    · exact Spares.refl s
    · exact spares_freePool s l
  refine ((h2.trans ?_).trans ((touches_showStream _ h).spares (by decide))).trans (spares_streamVotes _)
  split
  · split
    · exact Spares.refl s2
    · exact (spares_resetReg s2 .DEC_S_REC_HEAD h (by decide)).trans (spares_resetReg _ .DEC_S_REC_TAIL h (by decide))
  · split
    · exact ((spares_putN s2 .FB_S_RING_WR 0 h (by decide)).trans (spares_putN _ .FB_S_RING_RD 0 h (by decide))).trans
        (spares_setFld _ FB_S_RING_CFG_PHASE 1 h (by decide))
    · exact Spares.refl s2

theorem spares_applyConfig (s : State) (h : Nat) (ws : List Nat) (r : Resv) : Spares (· ≠ h) Q s (s.applyConfig h ws r) :=
  (spares_setStream s h _).trans (spares_configShown _ h _ _ _ _ _)

theorem spares_settleConfig (s : State) (h : Nat) : Spares (· ≠ h) Q s (s.settleConfig h) := by
  unfold State.settleConfig
  dsimp only
  split
  · split
    · exact Spares.refl s
    · exact spares_applyConfig s h _ _
  · exact Spares.refl s

theorem spares_clearSlots {P : Nat → Prop} (s : State) (h : Nat) : Spares P Q s (s.clearSlots h) := by
  refine spares_foldl (fun t p => ?_) _ s
  dsimp only
  split
  · exact Spares.refl t
  · have ha := fun l => spares_foldl (P := P) (Q := Q) (fun u (e : Nat) => spares_putN u .SLT_ACT 0 (p * 64 + e) (by decide)) l t
    have hb := fun u l => spares_foldl (P := P) (Q := Q) (fun u (e : Nat) => spares_putN u .SLT_NEXT 0 (p * 64 + e) (by decide)) l u
    exact (((ha _).trans (hb _ _)).trans (spares_touch _ 5 p)).trans (spares_touch _ 0x105 p)

theorem spares_resetRegs {P : Nat → Prop} (s : State) (i : Nat) {l : List Reg} (h : ∀ r ∈ l, r ∉ queueRegs) :
    Spares P Q s (l.foldl (fun t r => t.resetReg r i) s) :=
  spares_foldl_mem (fun t r hr => spares_resetReg t r i (h r hr)) s

/-- The registers of a stream that ends, and its votes (R192). -/
theorem spares_streamCleared {P : Nat → Prop} (s : State) (h : Nat) :
    Spares P Q s ((((s.clearStreamRegs h).touch 4 h).touch 7 h).streamVotes.showSurv) :=
  ((((spares_resetRegs s h (by decide)).trans (spares_touch _ 4 h)).trans (spares_touch _ 7 h)).trans (spares_streamVotes _)).trans (spares_showSurv _)

/-- The reservation of a ring stream that ends (R192). -/
theorem spares_ringLeft {P : Nat → Prop} (s : State) (c : Prop) [Decidable c] (i : Nat) :
    Spares P Q s (if c then s else
      ([Reg.RING_RS_STS, .RING_RS_SHARE, .RING_RS_TOKENS_IN, .RING_RS_TOKENS_OUT, .RING_RS_CARRY, .RING_RS_POOL, .RING_RS_PLAN_TICK].foldl
        (fun t r => t.resetReg r i) s).dropRs i) := by
  split
  · exact Spares.refl s
  · exact (spares_resetRegs s i (by decide)).trans (spares_of_rest rfl rfl rfl)

theorem endStream_facts (s : State) (h : Nat) : Spares (· ≠ h) Q s (s.endStream h) ∧ (s.endStream h).stream h = {} := by
  have h1 : ∀ l c, Spares (· ≠ h) Q s { (s.clearSlots h).freePool l with codec := c } := fun l c =>
    ((spares_clearSlots s h).trans (spares_freePool _ l)).trans (spares_of_rest rfl rfl rfl)
  refine ⟨(((h1 _ _).trans (spares_ringLeft _ _ _)).trans (spares_setStream _ h {})).trans (spares_streamCleared _ h), ?_⟩
  exact ((spares_streamCleared (P := fun _ => True) (Q := Q) _ h).1 h trivial).trans (stream_setStream_same _ h {})

theorem spares_settleClose (s : State) (h : Nat) : Spares (· ≠ h) Q s (s.settleClose h) := by
  unfold State.settleClose
  dsimp only
  split
  · split
    · exact (endStream_facts s h).1.trans (spares_answer _ _ 0 0 0)
    · exact Spares.refl s
  · exact Spares.refl s

/-- Pictures that are output change their own stream alone (R178). -/
theorem spares_output (h fuel : Nat) (s : State) : Spares (· ≠ h) Q s (s.output h fuel).1 := by
  induction fuel generalizing s with
  | zero => exact Spares.refl s
  | succ n ih =>
    rw [State.output]
    dsimp only
    split
    · exact Spares.refl s
    · split
      · exact Spares.refl s
      · split
        · exact spares_setFld s DEC_S_ERR_REC_FULL 1 h (by decide)
        · refine Spares.trans ?_ (ih _)
          refine Spares.trans (Spares.trans (Spares.trans ?_ (spares_putN _ .FB_DESC_MARKS _ _ (by decide))) (spares_touch _ 6 _)) (spares_onStream _ h _)
          have hs := fun a bs => Spares.trans (P := (· ≠ h)) (Q := Q) ((rest_store [] s (recSpace (s.stream h).words) a bs).spares (by decide))
            (spares_setFld _ DEC_S_REC_TAIL_TAIL ((s.fld DEC_S_REC_TAIL_TAIL h + 1) % recCount (s.stream h).words) h (by decide))
          split
          · exact (hs _ _).trans (spares_setFld _ DEC_S_REC_TAIL_PHASE _ h (by decide))
          · exact hs _ _

theorem spares_outputDue (s : State) (h : Nat) : Spares (· ≠ h) Q s (s.outputDue h).1 := by
  refine (spares_output h 64 s).trans ?_
  show Spares (· ≠ h) Q (s.output h 64).1 ((s.output h 64).1.showPool h)
  unfold State.showPool
  dsimp only
  split
  · exact Spares.refl _
  · exact spares_putN _ .DEC_S_STS _ h (by decide)

theorem spares_closePair (s : State) (h : Nat) : Spares (· ≠ h) Q s (s.closePair h) := by
  unfold State.closePair
  dsimp only
  split
  · exact Spares.refl s
  · split
    · exact (spares_onStream s h _).trans (spares_putN _ .DEC_S_CONC_CNT _ h (by decide))
    · exact spares_onStream s h _

theorem spares_settleFlush (s : State) (h : Nat) : Spares (· ≠ h) Q s (s.settleFlush h) := by
  unfold State.settleFlush
  dsimp only
  split
  · exact Spares.refl s
  · split
    · exact Spares.refl s
    · refine Spares.trans (Spares.trans (Spares.trans ?_ (spares_outputDue _ h)) (spares_touch _ 4 h)) (spares_answer _ _ 0 0 _)
      exact ((spares_closePair s h).trans (spares_onStream _ h _)).trans (spares_foldl (fun t d => spares_mark t d 0 mkRefAll) _ _)

/-! ### Pictures that end -/

theorem spares_pipeOff {P : Nat → Prop} (s : State) (p : Nat) : Spares P Q s (s.pipeOff p) := by
  unfold State.pipeOff
  dsimp only
  split
  · exact ((spares_setFld s SLT_BANK_HOLD 0 p (by decide)).trans (spares_setFld _ ENC_EP_STS_BUSY 0 p (by decide))).trans
      (spares_setReg _ .ENC_CL_STS _ _ (by decide))
  · exact ((spares_setFld s SLT_BANK_HOLD 0 p (by decide)).trans (spares_setFld _ DEC_DP_STS_BUSY 0 _ (by decide))).trans
      (spares_setReg _ .DEC_STS _ _ (by decide))

theorem spares_encLeave {P : Nat → Prop} (s : State) (q : EncPic) : Spares P Q s (s.encLeave q) := by
  unfold State.encLeave
  extract_lets s1 _ s2 s3 s4
  have h1 : Spares P Q s s1 := spares_foldl (fun t (w : PipeWork) => spares_pipeOff t w.pipe) _ s
  have h2 : Spares P Q s1 s2 := spares_of_rest rfl rfl rfl
  have h3 : Spares P Q s2 s3 := spares_foldl (fun t u => by
    split
    · exact spares_setFld t SCT_STS_BUSY 0 u (by decide)
    · exact Spares.refl t) _ s2
  have h4 : Spares P Q s3 s4 := by
    unfold s4
    split
    · exact spares_mark s3 _ 0 mkSrc
    · exact Spares.refl s3
  exact (((h1.trans h2).trans h3).trans h4).trans (spares_setFld s4 RC_STS_IN_FLIGHT _ 0 (by decide))

theorem spares_decLeave {P : Nat → Prop} (s : State) (q : DecPic) : Spares P Q s (s.decLeave q) := by
  unfold State.decLeave
  extract_lets s1
  have h1 : Spares P Q s s1 := spares_foldl (fun t (w : PipeWork) => spares_pipeOff t w.pipe) _ s
  exact (h1.trans (spares_of_rest rfl rfl rfl)).trans (spares_bpFreeAll _ _)

theorem spares_abortEnc (s : State) (q : EncPic) : Spares (· ≠ q.stream) Q s (s.abortEnc q) := by
  unfold State.abortEnc
  dsimp only
  refine Spares.trans ?_ (spares_settleClose _ _)
  refine Spares.trans ?_ (spares_touch _ 4 _)
  refine Spares.trans ?_ (spares_settleConfig _ _)
  refine Spares.trans ?_ (spares_answerLater _ _ _ _ _)
  exact ((spares_encLeave s q).trans (spares_mark _ _ 0 mkCur)).trans (spares_onStream _ _ _)

theorem spares_abortDec (s : State) (q : DecPic) : Spares (· ≠ q.stream) Q s (s.abortDec q) := by
  unfold State.abortDec
  dsimp only
  refine Spares.trans ?_ (spares_settleClose _ _)
  refine Spares.trans ?_ (spares_touch _ 4 _)
  refine Spares.trans ?_ (spares_settleConfig _ _)
  refine Spares.trans ?_ (spares_settleFlush _ _)
  refine Spares.trans ?_ (spares_answerLater _ _ _ _ _)
  split
  · exact (spares_decLeave s q).trans (spares_mark _ _ 0 mkCur)
  · exact spares_decLeave s q

theorem spares_abortStream (s : State) (h : Nat) : Spares (· ≠ h) Q s (s.abortStream h) := by
  have hpic : ∀ {b : Bool} {k : Nat}, (b && k == h) = true → k = h := fun {b k} hx => by
    rw [Bool.and_eq_true, beq_iff_eq] at hx
    exact hx.2
  unfold State.abortStream
  dsimp only
  refine Spares.trans (spares_foldl_mem (fun t q hq => ?_) s) (spares_foldl_mem (fun t q hq => ?_) _)
  · have := spares_abortEnc (Q := Q) t q
    rwa [hpic (List.mem_filter.mp hq).2] at this
  · have := spares_abortDec (Q := Q) t q
    rwa [hpic (List.mem_filter.mp hq).2] at this

theorem spares_discardAccepted {P : Nat → Prop} (s : State) (h st d : Nat) : Spares P Q s (s.discardAccepted h st d) := by
  have h1 : ∀ c, Spares P Q s { s with codec := c } := fun c => spares_of_rest rfl rfl rfl
  have h2 := fun u l => spares_foldl (P := P) (Q := Q) (fun t (p : EncPic) => spares_answerLater t p.cmd st d 0) l u
  have h3 := fun u l => spares_foldl (P := P) (Q := Q)
    (fun t (p : DecPic) => (spares_bpFreeAll t p.staged).trans (spares_answerLater _ p.cmd st d 0)) l u
  exact ((h1 _).trans (h2 _ _)).trans (h3 _ _)

/-- One stream of a function that is reset. -/
def State.streamGone (s : State) (h : Nat) : State := ((s.discardAccepted h 0x31 0).abortStream h).endStream h

theorem streamGone_facts (s : State) (h : Nat) : Spares (· ≠ h) Q s (s.streamGone h) ∧ (s.streamGone h).stream h = {} := by
  obtain ⟨hk, he⟩ := endStream_facts (Q := Q) ((s.discardAccepted h 0x31 0).abortStream h) h
  exact ⟨((spares_discardAccepted s h 0x31 0).trans (spares_abortStream _ h)).trans hk, he⟩

end

/-! ### One flow -/

/-- A flow that ends is empty, and leaves the other flows, the streams and the queues' registers. -/
theorem dropFlow_facts (s : State) (h : Nat) : Spares (fun _ => True) (· ≠ h) s (s.dropFlow h) ∧ (s.dropFlow h).flow h = {} := by
  unfold State.dropFlow
  extract_lets w s1 bufs s2 s3
  have h1 : Spares (fun _ => True) (fun _ => True) s s1 := by
    unfold s1
    split
    · exact Spares.refl s
    · have hq := (flushQueue_facts s h).1
      exact spares_of_same hq.streams hq.flows fun r i hr => hq.2 r i fun hm => by
        revert hm
        revert r
        decide
  have h2 : Spares (fun _ => True) (· ≠ h) s1 s2 := (spares_bpFreeAll s1 bufs).trans
    ⟨fun k _ => rfl, fun e he => flow_setFlow_ne _ {} he, fun _ _ _ => rfl⟩
  have h3 : ∀ Q : Nat → Prop, Spares (fun _ => True) Q s2 ((s3.touch 8 h).flowVotes) := fun Q => by
    refine Spares.trans (Spares.trans ?_ (spares_touch s3 8 h)) (spares_flowVotes _)
    unfold s3
    split
    · exact (spares_setFld s2 _ 0 _ (by decide)).trans (spares_setFld _ _ 0 _ (by decide))
    · exact ((spares_setFld s2 SH_CFG_TC 0 h (by decide)).trans (spares_setFld _ SH_CFG_PORT 0 h (by decide))).trans
        (spares_setFld _ SH_CFG_BOUND 0 h (by decide))
  refine ⟨((h1.mono (fun _ h => h) fun _ _ => trivial).trans h2).trans (h3 _), ?_⟩
  exact ((h3 fun _ => True).2.1 h trivial).trans (flow_setFlow_same _ h {})

end Sys2Proof.Machine
end

section
/-!
SUPPORT. What a function-level reset does to the streams, the flows, the queues, the channels and the vectors of a function (R93, R342, R374, R505).
-/
namespace Sys2Proof.Machine

/-! ### Ranges of registers -/

/-- A stored register belongs to the registers of a list when the list names it. -/
theorem keyOf_regKey (l : List Reg) (r : Reg) (i : Nat) : keyOf l (regKey r i) = decide (r ∈ l) := by
  have hlt := Reg.ctorIdx_lt r
  have hmod : regKey r i % 512 = r.ctorIdx := by unfold regKey; omega
  rw [keyOf, hmod, Bool.eq_iff_iff, List.any_eq_true, decide_eq_true_eq]
  refine ⟨fun ⟨r', hm, he⟩ => ?_, fun hm => ⟨r, hm, beq_self_eq_true _⟩⟩
  rwa [← Reg.ofNat_ctorIdx r, ← beq_iff_eq.mp he, Reg.ofNat_ctorIdx]

/-- The registers of a list, from number `lo` up to `hi`, take their reset values; every other register keeps its own. -/
theorem reg_resetRange (s : State) (rs : List Reg) (lo hi : Nat) (r : Reg) (i : Nat) :
    (s.resetRange rs lo hi).reg r i = if (lo ≤ i ∧ i < hi) ∧ r ∈ rs then regReset r i else s.reg r i := by
  have hlt := Reg.ctorIdx_lt r
  have hdiv : regKey r i / 512 = i := by unfold regKey; omega
  have hkey : (rs.any fun r' => r'.ctorIdx == regKey r i % 512) = decide (r ∈ rs) := keyOf_regKey rs r i
  unfold State.resetRange State.reg
  simp only [storeFind_erase, hdiv, hkey, Bool.and_eq_true, decide_eq_true_eq]
  split <;> rfl

theorem spares_resetRange {P Q : Nat → Prop} (s : State) {rs : List Reg} (lo hi : Nat) (h : ∀ r ∈ rs, r ∉ queueRegs) :
    Spares P Q s (s.resetRange rs lo hi) :=
  spares_of_same rfl rfl fun r i hm => by rw [reg_resetRange, if_neg fun hx => h r hx.2 hm]

/-! ### Queues -/

/-- The registers of a submission queue that a reset of its function puts back (R93). -/
def subRegs : List Reg := [.CMDQ_BASE, .CMDQ_CFG, .CMDQ_TAIL, .CMDQ_HEAD, .CMDQ_STS]

/-- The registers of a completion queue that a reset of its function puts back (R93). -/
def cplRegs : List Reg := [.CPLQ_BASE, .CPLQ_CFG, .CPLQ_HEAD, .CPLQ_TAIL, .CPLQ_STS]

/-- The two queues with one number, put back where they are to be. -/
def State.queuesBack (mine own : Nat → Bool) (t : State) (q : Nat) : State :=
  let t1 := if mine q then t.resetRange subRegs q (q + 1) else t
  if own q then t1.resetRange cplRegs q (q + 1) else t1

theorem reg_queuesBack (mine own : Nat → Bool) (t : State) (q : Nat) (r : Reg) (i : Nat) : (t.queuesBack mine own q).reg r i =
    if i = q ∧ ((mine q = true ∧ r ∈ subRegs) ∨ (own q = true ∧ r ∈ cplRegs)) then regReset r i else t.reg r i := by
  have hq : (q ≤ i ∧ i < q + 1) ↔ i = q := by omega
  unfold State.queuesBack
  cases hm : mine q <;> cases ho : own q <;> simp only [Bool.false_eq_true, if_true, if_false, reg_resetRange, hq] <;> grind

theorem queuesBack_keeps (mine own : Nat → Bool) (t : State) (q : Nat) : t.queuesBack mine own q =
    { t with regs := (t.queuesBack mine own q).regs, lowHeld := (t.queuesBack mine own q).lowHeld } := by
  unfold State.queuesBack
  dsimp only
  split <;> split <;> rfl

/-- A register has its own value or that of reset. -/
def Backed (s t : State) (r : Reg) (i : Nat) : Prop := t.reg r i = regReset r i ∨ t.reg r i = s.reg r i

/-- The queues of a function are put back, and the owners of all queues stay (R93). -/
structure QueuesGone (s t : State) (f : Nat) : Prop where
  submission : ∀ q, q < 64 → s.fld CMDQ_OWNER_FUNC q = f → t.reg .CMDQ_CFG q = regReset .CMDQ_CFG q
  completion : ∀ q, q < 64 → s.fld CPLQ_OWNER_FUNC q = f → t.reg .CPLQ_CFG q = regReset .CPLQ_CFG q
  backed : ∀ q, Backed s t .CMDQ_CFG q
  others : ∀ r i, r ∉ subRegs ++ cplRegs ++ [.CMDQ_HELD] → t.reg r i = s.reg r i
  streams : t.streams = s.streams
  flows : t.flows = s.flows

theorem dropQueues_facts (s : State) (f : Nat) : QueuesGone s (s.dropQueues f) f := by
  unfold State.dropQueues
  extract_lets mine own s1 c s2
  have hs1 : s1 = (List.range 64).foldl (State.queuesBack mine own) s := rfl
  have hfold : ∀ r i, r ∉ [Reg.CMDQ_HELD] → (s2.setFld CMDQ_HELD_COUNT s2.heldCount).reg r i = s1.reg r i := fun r i hr =>
    (touches_setFld (rs := [.CMDQ_HELD]) s2 CMDQ_HELD_COUNT s2.heldCount 0 (by simp)).2 r i hr
  have hback : ∀ (r : Reg) (q : Nat), q < 64 → ((mine q = true ∧ r ∈ subRegs) ∨ (own q = true ∧ r ∈ cplRegs)) → s1.reg r q = regReset r q := by
    intro r q hq hc
    rw [hs1]
    refine foldl_establishes (P := fun a t => a = q → State.reg t r q = regReset r q) ?_ ?_ (List.mem_range.mpr hq) s rfl
    · rintro t a rfl
      rw [reg_queuesBack, if_pos ⟨rfl, hc⟩]
    · intro t a b ha haq
      rw [reg_queuesBack]
      split
      · rfl
      · exact ha haq
  refine ⟨fun q hq hf => ?_, fun q hq hf => ?_, fun q => ?_, fun r i hr => ?_, ?_, ?_⟩
  · exact (hfold .CMDQ_CFG q (by decide)).trans (hback .CMDQ_CFG q hq (.inl ⟨beq_iff_eq.mpr hf, by decide⟩))
  · exact (hfold .CPLQ_CFG q (by decide)).trans (hback .CPLQ_CFG q hq (.inr ⟨beq_iff_eq.mpr hf, by decide⟩))
  · unfold Backed
    rw [hfold .CMDQ_CFG q (by decide), hs1]
    refine List.foldlRecOn (motive := fun t => Backed s t .CMDQ_CFG q) _ _ (.inr rfl) fun t ht a _ => ?_
    unfold Backed
    rw [reg_queuesBack]
    split
    · exact .inl rfl
    · exact ht
  · rw [List.mem_append, List.mem_append, not_or, not_or] at hr
    obtain ⟨⟨hsub, hcpl⟩, hheld⟩ := hr
    rw [hfold r i hheld, hs1]
    refine foldl_keeps (fun t : State => t.reg r i) (fun t q => ?_) _ s
    rw [reg_queuesBack, if_neg]
    rintro ⟨-, ⟨-, h⟩ | ⟨-, h⟩⟩
    · exact hsub h
    · exact hcpl h
  · exact foldl_keeps (f := State.queuesBack mine own) (fun t : State => t.streams) (fun t q => by rw [queuesBack_keeps]) _ s
  · exact foldl_keeps (f := State.queuesBack mine own) (fun t : State => t.flows) (fun t q => by rw [queuesBack_keeps]) _ s

/-! ### Streams and flows -/

theorem free_of_notListed {s : State} {h : Nat} (hs : storeFind s.streams h = none) : (s.stream h).st = .free := by
  rw [State.stream, hs]
  rfl

/-- The streams and the flows of a function end (R217, R286, R512). -/
theorem dropStreams_facts (s : State) (f : Nat) : Spares (fun _ => False) (fun _ => False) s (s.dropStreams f) ∧
    (∀ h, (s.stream h).st ≠ .free → (s.stream h).func = f → (s.dropStreams f).stream h = {}) ∧
    ∀ e, (s.flow e).live = true → (s.flow e).func = f → ((s.dropStreams f).flow e).live = false := by
  unfold State.dropStreams
  extract_lets hs s1 s2
  have hstep := fun t h => streamGone_facts (Q := fun _ => True) t h
  have h1 : Spares (fun _ => False) (fun _ => True) s s1 := spares_foldl (f := State.streamGone) (fun t h => (hstep t h).1.mono nofun fun _ h => h) hs s
  have h2 : Spares (fun _ => True) (fun _ => True) s1 s2 := Spares.trans (spares_of_rest rfl rfl rfl) (spares_showSurv _)
  have h3 := fun l => spares_foldl (f := State.dropFlow) (fun t h => (dropFlow_facts t h).1.mono (Q' := fun _ => False) (fun _ h => h) nofun) l s2
  refine ⟨((h1.mono (fun _ h => h) nofun).trans (h2.mono nofun nofun)).trans ((h3 _).mono nofun fun _ h => h), fun h hst hf => ?_, fun e hlive hf => ?_⟩
  · have hm : h ∈ hs := by
      cases hx : storeFind s.streams h with
      | none => exact absurd (free_of_notListed hx) hst
      | some x =>
        have hxs : s.stream h = x := by rw [State.stream, hx]; rfl
        rw [hxs] at hst hf
        exact List.mem_map.mpr ⟨(h, x), List.mem_filter.mpr ⟨mem_of_storeFind hx, by simp [hst, hf]⟩, rfl⟩
    rw [(h3 _).1 h trivial, h2.1 h trivial]
    refine foldl_establishes (P := fun a t => State.stream t a = {}) (f := State.streamGone) (fun t a => (hstep t a).2) (fun t a b ha => ?_) hm s
    by_cases hab : a = b
    · rw [hab]
      exact (hstep t b).2
    · exact ((hstep t b).1.1 a hab).trans ha
  · have hkeep : s2.flow e = s.flow e := (h2.2.1 e trivial).trans (h1.2.1 e trivial)
    rw [← hkeep] at hlive hf
    have hm : e ∈ (s2.flows.filter fun e => e.2.live && e.2.func == f).map Prod.fst := by
      cases hx : storeFind s2.flows e with
      | none => rw [State.flow, hx] at hlive; cases hlive
      | some x =>
        have hxs : s2.flow e = x := by rw [State.flow, hx]; rfl
        rw [hxs] at hlive hf
        exact List.mem_map.mpr ⟨(e, x), List.mem_filter.mpr ⟨mem_of_storeFind hx, by simp [hlive, hf]⟩, rfl⟩
    refine foldl_establishes (P := fun a t => (State.flow t a).live = false) (f := State.dropFlow) (fun t a => ?_) (fun t a b ha => ?_) hm s2
    · rw [(dropFlow_facts t a).2]
    · by_cases hab : a = b
      · rw [hab, (dropFlow_facts t b).2]
      · rw [(dropFlow_facts t b).1.2.1 a hab]
        exact ha

/-! ### Descriptors, channels and vectors -/

theorem spares_dropDescs {P Q : Nat → Prop} (s : State) (f : Nat) : Spares P Q s (s.dropDescs f) := by
  unfold State.dropDescs
  generalize (List.range 8192).filter _ = ds
  have h1 := spares_foldl (P := P) (Q := Q)
    (fun t d => spares_resetRange t (rs := [.FB_DESC_BASE, .FB_DESC_DIM, .FB_DESC_FMT, .FB_DESC_MARKS]) d (d + 1) (by decide)) ds s
  exact h1.trans (spares_of_rest rfl rfl rfl)

/-- The registers of a channel that a reset of its function puts back (R342). -/
def State.channelBack (t : State) (n : Nat) : State :=
  (t.resetRange [.DMA_CH_CTL, .DMA_STS, .DMA_CH_CFG, .DMA_ERR_ADDR, .DMA_CH_EVT_EN] n (n + 1)).resetRange [.DMA_SH, .DMA_ACT] (n * 16) (n * 16 + 16)

theorem reg_channelBack (t : State) (n : Nat) {r : Reg} (i : Nat) (hr : r ∈ [Reg.DMA_CH_CTL, .DMA_STS]) :
    (t.channelBack n).reg r i = if i = n then regReset r i else t.reg r i := by
  have hn : (n ≤ i ∧ i < n + 1) ↔ i = n := by omega
  obtain ⟨hin, hout⟩ : r ∈ [Reg.DMA_CH_CTL, .DMA_STS, .DMA_CH_CFG, .DMA_ERR_ADDR, .DMA_CH_EVT_EN] ∧ r ∉ [Reg.DMA_SH, .DMA_ACT] := by
    revert hr
    revert r
    decide
  rw [State.channelBack, reg_resetRange, reg_resetRange, if_neg fun h => hout h.2]
  simp only [hn, hin, and_true]

theorem spares_of_moves {P Q : Nat → Prop} {rs : List Reg} {s t : State} (h : Moves rs s t) (hr : ∀ r ∈ queueRegs, r ∉ rs) : Spares P Q s t :=
  spares_of_same h.streams (by rw [h.1]) fun r i hm => h.2 r i (hr r hm)

/-- The channels of a function are put back. -/
theorem dropDma_facts {P Q : Nat → Prop} (s : State) (f : Nat) (l : List (Nat × DmaProgress)) : Spares P Q s (s.dropDma f l) ∧
    ∀ n r, n < 64 → s.fld DMA_CH_OWNER_FUNC n = f → r ∈ [Reg.DMA_CH_CTL, .DMA_STS] → (s.dropDma f l).reg r n = regReset r n := by
  unfold State.dropDma
  extract_lets ns s1
  have h1 : Spares P Q s s1 := spares_of_moves (moves_dmaStop (by omega) s) (by decide)
  have h2 : Spares P Q s1 (ns.foldl State.channelBack s1) := spares_foldl
    (fun t n => (spares_resetRange t n (n + 1) (by decide)).trans (spares_resetRange _ _ _ (by decide))) ns s1
  refine ⟨(h1.trans h2).trans ((touches_showBusy _).spares (by decide)), fun n r hn hf hr => ?_⟩
  have hm : n ∈ ns := List.mem_filter.mpr ⟨List.mem_range.mpr hn, beq_iff_eq.mpr hf⟩
  refine ((touches_showBusy _).2 r n (by revert hr; revert r; decide)).trans ?_
  refine foldl_establishes (P := fun a t => State.reg t r a = regReset r a) (f := State.channelBack) (fun t a => ?_) (fun t a b ha => ?_) hm s1
  · rw [reg_channelBack t a a hr, if_pos rfl]
  · rw [reg_channelBack t b a hr]
    split
    · rfl
    · exact ha

/-- The registers that show what waits at the vectors. -/
def vectorRegs : List Reg := [.IC_TGT_STS, .IC_PEND, .IC_ACTIVE]

/-- The streams and the flows are as they were, and no other register differs. -/
def AtVectors (s t : State) : Prop := t.streams = s.streams ∧ t.flows = s.flows ∧ ∀ r i, r ∉ vectorRegs → t.reg r i = s.reg r i

theorem AtVectors.trans {s t u : State} (h : AtVectors s t) (k : AtVectors t u) : AtVectors s u :=
  ⟨k.1.trans h.1, k.2.1.trans h.2.1, fun r i hr => (k.2.2 r i hr).trans (h.2.2 r i hr)⟩

theorem atVectors_foldl {α : Type} {f : State → α → State} (hf : ∀ t a, AtVectors t (f t a)) (l : List α) (s : State) : AtVectors s (l.foldl f s) :=
  List.foldlRecOn (motive := AtVectors s) l f ⟨rfl, rfl, fun _ _ _ => rfl⟩ fun _ ht a _ => ht.trans (hf _ a)

/-- The vectors of a function are masked, and no stream, flow or other register changes (R374, R434). -/
theorem dropVectors_facts (s : State) (f : Nat) : AtVectors s (s.dropVectors f) ∧
    ((s.dropVectors f).cxl.unmasked.all fun e => decide (e.1 / 256 ≠ f)) = true := by
  unfold State.dropVectors
  extract_lets ts routed claimed s1 s2 s3 mine c
  have htgt : ∀ (t : State) k x, AtVectors t (t.setTarget k x) := fun t k x =>
    ⟨rfl, rfl, (touches_setReg { t with targets := _ } .IC_TGT_STS _ k (by decide)).2⟩
  have hbit : ∀ (r : Reg) (hr : r ∈ vectorRegs) (t : State) n, AtVectors t (t.srcBit r n false) := fun r hr t n =>
    ⟨rfl, rfl, (touches_setReg t r _ _ hr).2⟩
  have h3 : AtVectors s s3 := ((atVectors_foldl (fun t k => htgt t k {}) ts s).trans (atVectors_foldl (hbit .IC_PEND (by decide)) routed s1)).trans
    (atVectors_foldl (hbit .IC_ACTIVE (by decide)) claimed s2)
  refine ⟨⟨h3.1, h3.2.1, h3.2.2⟩, ?_⟩
  rw [List.all_eq_true]
  intro e he
  have hmine : (!mine e.1) = true := (List.mem_filter.mp he).2
  rw [Bool.not_eq_true'] at hmine
  exact decide_eq_true (beq_eq_false_iff_ne.mp hmine)

/-! ### The whole reset -/

/-- What a function-level reset leaves (R505, R507). -/
structure FunctionGone (s t : State) (f : Nat) : Prop where
  streams : ∀ h, (s.stream h).st ≠ .free → (s.stream h).func = f → t.stream h = {}
  flows : ∀ e, (s.flow e).live = true → (s.flow e).func = f → (t.flow e).live = false
  submission : ∀ q, q < 64 → s.fld CMDQ_OWNER_FUNC q = f → t.reg .CMDQ_CFG q = regReset .CMDQ_CFG q
  completion : ∀ q, q < 64 → s.fld CPLQ_OWNER_FUNC q = f → t.reg .CPLQ_CFG q = regReset .CPLQ_CFG q
  channels : ∀ n r, n < 64 → s.fld DMA_CH_OWNER_FUNC n = f → r ∈ [Reg.DMA_CH_CTL, .DMA_STS] → t.reg r n = regReset r n
  vectors : (t.cxl.unmasked.all fun e => decide (e.1 / 256 ≠ f)) = true
  owners : ∀ q, t.reg .CMDQ_OWNER q = s.reg .CMDQ_OWNER q
  backed : ∀ q, Backed s t .CMDQ_CFG q

theorem flr_facts (s : State) (f : Nat) (l : List (Nat × DmaProgress)) : FunctionGone s (s.flr f l) f := by
  have hq := dropQueues_facts s f
  obtain ⟨hkd, hsd, hfd⟩ := dropStreams_facts (s.dropQueues f) f
  have hdesc := spares_dropDescs (P := fun _ => True) (Q := fun _ => True) ((s.dropQueues f).dropStreams f) f
  obtain ⟨hdma, hch⟩ := dropDma_facts (P := fun _ => True) (Q := fun _ => True) (((s.dropQueues f).dropStreams f).dropDescs f) f l
  obtain ⟨⟨hvs, hvf, hvr⟩, hvm⟩ := dropVectors_facts ((((s.dropQueues f).dropStreams f).dropDescs f).dropDma f l) f
  have hsec := secures_eraseSlots (((((s.dropQueues f).dropStreams f).dropDescs f).dropDma f l).dropVectors f) fun h k => decide (h < 0xC00) && k.func == f
  have hvec : Spares (fun _ => True) (fun _ => True) ((((s.dropQueues f).dropStreams f).dropDescs f).dropDma f l) (s.flr f l) :=
    (spares_of_same hvs hvf fun r i hr => hvr r i (by revert hr; revert r; decide)).trans
      (spares_of_same hsec.streams hsec.flows fun r i hr => hsec.2 r i (by revert hr; revert r; decide))
  have hlate := (hdesc.trans hdma).trans hvec
  have hreg : ∀ r i, r ∈ queueRegs → (s.flr f l).reg r i = (s.dropQueues f).reg r i := fun r i hr =>
    (hlate.2.2 r i hr).trans (hkd.2.2 r i hr)
  have hst : ∀ h, (s.dropQueues f).stream h = s.stream h := fun h => by rw [State.stream, hq.streams, State.stream]
  have hfl : ∀ e, (s.dropQueues f).flow e = s.flow e := fun e => by rw [State.flow, hq.flows, State.flow]
  refine ⟨fun h hs hf => ?_, fun e hl hf => ?_, fun q hn hf => ?_, fun q hn hf => ?_, fun n r hn hf hr => ?_, ?_, fun q => ?_, fun q => ?_⟩
  · rw [← hst] at hs hf
    exact (hlate.1 h trivial).trans (hsd h hs hf)
  · rw [← hfl] at hl hf
    rw [hlate.2.1 e trivial]
    exact hfd e hl hf
  · exact (hreg .CMDQ_CFG q (by decide)).trans (hq.submission q hn hf)
  · exact (hreg .CPLQ_CFG q (by decide)).trans (hq.completion q hn hf)
  · have howner : (((s.dropQueues f).dropStreams f).dropDescs f).fld DMA_CH_OWNER_FUNC n = s.fld DMA_CH_OWNER_FUNC n :=
      fld_congr ((hdesc.2.2 .DMA_CH_OWNER n (by decide)).trans ((hkd.2.2 .DMA_CH_OWNER n (by decide)).trans (hq.others _ n (by decide))))
    have hne : r ∉ vectorRegs ∧ r ∉ [Reg.SEC_KEYS_USED, .SEC_STS] := by revert hr; revert r; decide
    exact ((hsec.2 r n hne.2).trans (hvr r n hne.1)).trans (hch n r hn (howner.trans hf) hr)
  · have hcxl : (s.flr f l).cxl.unmasked = (((((s.dropQueues f).dropStreams f).dropDescs f).dropDma f l).dropVectors f).cxl.unmasked := by
      unfold State.flr
      rw [hsec.1]
    rw [hcxl]
    exact hvm
  · exact (hreg .CMDQ_OWNER q (by decide)).trans (hq.others _ q (by decide))
  · unfold Backed
    rw [hreg .CMDQ_CFG q (by decide)]
    exact hq.backed q

/-- A field whose register stands at a reset value of zero. -/
theorem flag_of_reset {s : State} {f : Field} {i : Nat} (h : s.reg f.reg i = regReset f.reg i) (h0 : regReset f.reg i = 0) : s.flag f i = false := by
  rw [State.flag, State.fld, h, h0]
  simp [bitField]

theorem cmdqCfg_reset {s : State} {q : Nat} (h : s.reg .CMDQ_CFG q = regReset .CMDQ_CFG q) : s.flag CMDQ_CFG_EN q = false :=
  flag_of_reset (f := CMDQ_CFG_EN) h rfl

theorem cplqCfg_reset {s : State} {q : Nat} (h : s.reg .CPLQ_CFG q = regReset .CPLQ_CFG q) : s.flag CPLQ_CFG_EN q = false :=
  flag_of_reset (f := CPLQ_CFG_EN) h rfl

theorem dmaSts_reset {s : State} {n : Nat} (h : s.reg .DMA_STS n = regReset .DMA_STS n) : s.flag DMA_STS_BUSY n = false :=
  flag_of_reset (f := DMA_STS_BUSY) h rfl

theorem dmaCtl_reset {s : State} {n : Nat} (h : s.reg .DMA_CH_CTL n = regReset .DMA_CH_CTL n) : s.flag DMA_CH_CTL_EN n = false :=
  flag_of_reset (f := DMA_CH_CTL_EN) h rfl

/-- A reset of one function enables no queue. -/
theorem Backed.stays_disabled {s t : State} {q : Nat} (h : Backed s t .CMDQ_CFG q) (hd : s.flag CMDQ_CFG_EN q = false) : t.flag CMDQ_CFG_EN q = false :=
  h.elim cmdqCfg_reset fun h => (flag_congr h).trans hd

/-- Functions that are reset one after another have no queue enabled (R385). -/
theorem functionsGone_queues (s : State) (n q : Nat) (l : List (Nat × DmaProgress)) (hq : q < 64) (h0 : 0 < s.fld CMDQ_OWNER_FUNC q)
    (hn : s.fld CMDQ_OWNER_FUNC q ≤ n) : (((List.range n).map (· + 1)).foldl (fun (t : State) f => t.flr f l) s).flag CMDQ_CFG_EN q = false := by
  have hm : s.fld CMDQ_OWNER_FUNC q ∈ (List.range n).map (· + 1) :=
    List.mem_map.mpr ⟨s.fld CMDQ_OWNER_FUNC q - 1, List.mem_range.mpr (by omega), by omega⟩
  have howner : (((List.range n).map (· + 1)).foldl (fun (t : State) f => t.flr f l) s).fld CMDQ_OWNER_FUNC q = s.fld CMDQ_OWNER_FUNC q :=
    foldl_keeps (fun t : State => t.fld CMDQ_OWNER_FUNC q) (fun t f => fld_congr ((flr_facts t f l).owners q)) _ s
  refine foldl_establishes (P := fun f t => State.fld t CMDQ_OWNER_FUNC q = f → State.flag t CMDQ_CFG_EN q = false) (fun t f hf => ?_)
    (fun t f g ht hf => ?_) hm s howner
  · have hk := flr_facts t f l
    exact cmdqCfg_reset (hk.submission q hq ((fld_congr (hk.owners q)).symm.trans hf))
  · have hk := flr_facts t g l
    exact (hk.backed q).stays_disabled (ht ((fld_congr (hk.owners q)).symm.trans hf))

end Sys2Proof.Machine
end

section
/-!
SUPPORT. What the start-up after a warm or CXL reset leaves: the commands, the pictures, the flows, the memories, the resets, the link and the
survivors (R508, R509, R512).
-/
namespace Sys2Proof.Machine

/-! ### The frame -/

/-- Registers that no step of the start-up writes but the last ones. -/
def stillRegs : List Reg := [.GLB_RST_STS, .CMDQ_CFG, .CPLQ_CFG, .DMA_STS]

/-- What no step of the start-up writes is as it was. -/
structure Stays (s t : State) : Prop where
  cmd : t.cmd = s.cmd
  codec : t.codec = s.codec
  flows : t.flows = s.flows
  mem : t.mem = s.mem
  hostMem : t.hostMem = s.hostMem
  resets : t.resets = s.resets
  linkUp : t.cxl.linkUp = s.cxl.linkUp
  survivors : t.survivors = s.survivors
  regs : ∀ r i, r ∈ stillRegs → t.reg r i = s.reg r i

theorem Stays.refl (s : State) : Stays s s := ⟨rfl, rfl, rfl, rfl, rfl, rfl, rfl, rfl, fun _ _ _ => rfl⟩

theorem Stays.trans {s t u : State} (h : Stays s t) (k : Stays t u) : Stays s u where
  cmd := k.cmd.trans h.cmd
  codec := k.codec.trans h.codec
  flows := k.flows.trans h.flows
  mem := k.mem.trans h.mem
  hostMem := k.hostMem.trans h.hostMem
  resets := k.resets.trans h.resets
  linkUp := k.linkUp.trans h.linkUp
  survivors := k.survivors.trans h.survivors
  regs := fun r i hr => (k.regs r i hr).trans (h.regs r i hr)

/-- A change of what a start-up may change: registers, time, contexts of streams, power, keys, levels, targets and what is retained. -/
theorem stays_of_rest {s t : State} (h : t = { s with
      regs := t.regs, tb := t.tb, streams := t.streams, power := t.power, security := t.security, levels := t.levels
      targets := t.targets, ctl := t.ctl, freeCtr := t.freeCtr }) (hr : ∀ r i, r ∈ stillRegs → t.reg r i = s.reg r i) : Stays s t := by
  constructor
  case regs => exact hr
  all_goals rw [h]

theorem stays_foldl {α : Type} {f : State → α → State} (hf : ∀ t a, Stays t (f t a)) (l : List α) (s : State) : Stays s (l.foldl f s) :=
  List.foldlRecOn (motive := Stays s) l f (Stays.refl s) fun _ ht a _ => ht.trans (hf _ a)

theorem Touches.stays {rs : List Reg} {s t : State} (h : Touches rs s t) (hr : ∀ r ∈ stillRegs, r ∉ rs) : Stays s t := by
  have hregs : ∀ r i, r ∈ stillRegs → t.reg r i = s.reg r i := fun r i hm => h.2 r i (hr r hm)
  have h1 := h.1
  constructor
  case regs => exact hregs
  all_goals rw [h1]

theorem Secures.stays {rs : List Reg} {s t : State} (h : Secures rs s t) (hr : ∀ r ∈ stillRegs, r ∉ rs) : Stays s t := by
  have hregs : ∀ r i, r ∈ stillRegs → t.reg r i = s.reg r i := fun r i hm => h.2 r i (hr r hm)
  have h1 := h.1
  constructor
  case regs => exact hregs
  all_goals rw [h1]

/-! ### Registers, events and records -/

theorem stays_setReg (s : State) (r : Reg) (v : DWord) (i : Nat) (h : r ∉ stillRegs) : Stays s (s.setReg r v i) :=
  (touches_setReg (rs := [r]) s r v i (by simp)).stays fun _ hm hr => h (List.mem_singleton.mp hr ▸ hm)

theorem stays_putN (s : State) (r : Reg) (v i : Nat) (h : r ∉ stillRegs) : Stays s (s.putN r v i) := stays_setReg s r _ i h

theorem stays_setFld (s : State) (f : Field) (v i : Nat) (h : f.reg ∉ stillRegs) : Stays s (s.setFld f v i) := stays_setReg s f.reg _ i h

theorem stays_event (s : State) (f : Field) (i : Nat) (h : f.reg ∉ stillRegs) : Stays s (s.event f i) :=
  (touches_event_self s f i).stays fun r hm hr => by
    rcases List.mem_cons.mp hr with rfl | hr
    · exact h hm
    · simp only [sourceOnly, List.mem_cons, List.not_mem_nil, or_false] at hr
      rcases hr with rfl | rfl <;> simp [stillRegs] at hm

theorem stays_record (s : State) (n d : Nat) : Stays s (s.record n d) := (touches_record s n d false fun _ h => h).stays (by decide)

theorem stays_level (s : State) (n d : Nat) : Stays s (s.level n d) := by
  unfold State.level
  split
  · exact Stays.refl s
  · exact Stays.trans (t := { s with levels := setBitField s.levels n 1 1 }) (stays_of_rest rfl fun _ _ _ => rfl) (stays_record _ n d)

theorem stays_syncMasks (s : State) : Stays s s.syncMasks := (touches_syncMasks s).stays (by decide)

theorem stays_showSurv (s : State) : Stays s s.showSurv := stays_putN s .GLB_SURV _ 0 (by decide)

/-! ### Domains -/

theorem stays_domPut (s : State) (d st : Nat) : Stays s (s.domPut d st) := by
  have h1 : Stays s { s.setDom d st with power := { (s.setDom d st).power with onAt := storeDrop (s.setDom d st).power.onAt d } } :=
    (stays_setFld s PM_DOM_STS_STATE st d (by decide)).trans (stays_of_rest rfl fun _ _ _ => rfl)
  unfold State.domPut
  dsimp only
  split
  · exact Stays.refl s
  · split
    · exact h1.trans (stays_event _ PM_EVT_DOM_ON 0 (by decide))
    · split
      · exact h1.trans (stays_event _ PM_EVT_DOM_OFF 0 (by decide))
      · exact h1

theorem stays_standingVotes (s : State) : Stays s s.standingVotes := by
  refine stays_foldl (fun t d => ?_) _ s
  split
  · exact Stays.refl t
  · exact stays_putN t .AON_VOTE _ d (by decide)

theorem stays_activeState (s : State) : Stays s s.activeState := by
  unfold State.activeState
  split
  · exact Stays.refl s
  · exact stays_setFld s PM_STATE_STATE _ 0 (by decide)

theorem stays_startDomains (s : State) : Stays s s.startDomains := by
  have hput : ∀ (t : State) d b st, Stays t ((t.setFlag PM_DOM_STS_ABSENT b d).domPut d st) := fun t d b st =>
    (stays_setFld t PM_DOM_STS_ABSENT _ d (by decide)).trans (stays_domPut _ d st)
  have h1 := fun l => stays_foldl (fun t d => hput t d (!t.domPresent d) (if t.wanted d then domIsOn else domOff)) l s
  have h2 := fun (u : State) b st => (stays_setReg u .AON_VOTE _ 14 (by decide)).trans (hput u.dependVote 14 b st)
  exact (((h1 _).trans (h2 _ _ _)).trans (stays_activeState _)).trans (stays_syncMasks _)

/-! ### Device time after Deep -/

theorem stays_setLocked (s : State) (b : Bool) : Stays s (s.setLocked b) := by
  have hr : ∀ r i, r ∈ stillRegs → (s.setLocked b).reg r i = s.reg r i := fun r i hm => reg_setLocked s b r i (by revert hm; revert r; decide)
  obtain ⟨rs, ss, w, x, h⟩ := setLocked_shape s b
  rw [h] at hr ⊢
  exact stays_of_rest rfl hr

theorem stays_tbEvent (s : State) (n : Nat) : Stays s (s.tbEvent n) := (tbEvent_frame s n).stays (by decide)

/-- The ticks that are counted missed answer no picture when none waits (R39, R45). -/
theorem stays_missTicks {s : State} (he : s.codec.enc = []) (hd : s.codec.dec = []) : Stays s s.missTicks := by
  by_cases hen : s.flag TK_CTRL_EN = true
  · by_cases hlo : s.tickIndex < s.lastIndex s.tb.ns
    · rw [missTicks_count hen rfl hlo he hd]
      have hgrid : Stays s (s.setGrid (s.lastIndex s.tb.ns)) :=
        stays_of_rest rfl fun r i hm => reg_setGrid s _ r i (by revert hm; revert r; decide)
      exact (hgrid.trans (stays_putN _ .TK_MISSED _ 0 (by decide))).trans (stays_tbEvent _ 96)
    · unfold State.missTicks
      rw [hen]
      dsimp only
      rw [if_pos (Nat.not_lt.mp hlo)]
      exact Stays.refl s
  · rw [missTicks_no_grid (eq_false_of_ne_true hen)]
    exact Stays.refl s

theorem stays_waitLocked (s : State) : Stays s s.waitLocked := by
  refine stays_foldl (fun t p => ?_) _ s
  obtain ⟨h, x⟩ := p
  dsimp only
  split
  · exact stays_of_rest rfl fun _ _ _ => rfl
  · exact Stays.refl t

/-- The time that was counted in Deep is put in force (R52). -/
theorem stays_wakeTime {s : State} (he : s.codec.enc = []) (hd : s.codec.dec = []) : Stays s s.wakeTime := by
  unfold State.wakeTime
  extract_lets ref rc sat span err new s1 tb s2 s3 s4
  have h1 : Stays s s1 := (stays_putN s .TB_SLEEP_SPAN span 0 (by decide)).trans (stays_putN _ .TB_SLEEP_ERR err 0 (by decide))
  have h2 : Stays s1 s2 := stays_of_rest rfl fun _ _ _ => rfl
  have h3 : Stays s2 s3 := by
    unfold s3
    split
    · exact ((stays_setFld s2 TB_STATUS_SLEEP_SAT 1 0 (by decide)).trans (stays_setFld _ TB_STATUS_SLEEP_VALID 0 0 (by decide))).trans
        (stays_setFld _ TB_STATUS_TIME_VALID 0 0 (by decide))
    · exact stays_setFld s2 TB_STATUS_SLEEP_VALID 1 0 (by decide)
  have h5 := (((h1.trans h2).trans h3).trans (stays_setLocked s3 false)).trans (stays_tbEvent _ 102)
  have h6 := (h5.trans (stays_missTicks (by rw [h5.codec]; exact he) (by rw [h5.codec]; exact hd))).trans (stays_waitLocked _)
  exact (h6.trans ((touches_showGates _).stays (by decide))).trans ((touches_overruns _ s).stays (by decide))

/-! ### The security module -/

theorem stays_secState (s : State) (n : Nat) : Stays s (s.secState n) := (touches_secState s n).stays (by decide)

/-- A self-test that fails leaves what a start-up leaves, when there is no flow (R486). -/
theorem stays_enterError {s : State} (bit : Nat) (hf : s.flows = []) : Stays s (s.enterError bit) := by
  have h1 : Stays s (s.testFailed bit) := (touches_testFailed s bit).stays (by decide)
  have h2 := h1.trans (stays_level (s.testFailed bit) 29 0)
  rw [enterError_steps]
  generalize (s.testFailed bit).level 29 0 = u at h2 ⊢
  have h3 : Stays u u.keysGone := (((secures_eraseSlots u fun _ _ => true).stays (by decide)).trans ((touches_endSessions _).stays (by decide))).trans
    ((ideInsecure_facts _).1.stays (by decide))
  have h4 := h2.trans h3
  rw [State.dropSrtp, h4.flows, hf]
  exact h4

theorem stays_testsRan {s : State} (n : Nat) (hf : s.flows = []) : Stays s (s.testsRan n) := by
  unfold State.testsRan
  split
  · exact (stays_putN s .SEC_SELFTEST _ 0 (by decide)).trans (stays_secState _ 2)
  · have h1 := stays_putN s .SEC_SELFTEST (n + 2 ^ 31) 0 (by decide)
    exact h1.trans (stays_enterError _ (h1.flows.trans hf))

theorem stays_loadKey (s : State) (h f : Nat) (b : Bool) (l : List Byte) (n : Nat) : Stays s ((s.loadKey h f b l).tookFree n) :=
  ((secures_setSlot s h _).stays (by decide)).trans (stays_of_rest rfl fun _ _ _ => rfl)

theorem stays_startModule {s : State} (n : Nat) (hf : s.flows = []) : Stays s (s.startModule n) := by
  have h1 := fun x : Security => (stays_secState s 1).trans
    (show Stays (s.secState 1) { s.secState 1 with security := x } from stays_of_rest rfl fun _ _ _ => rfl)
  have hid : ∀ u : State, Stays u u.showIdentity := fun u => stays_setFld u SEC_STS_DECOMMISSIONED _ 0 (by decide)
  have h2 := fun x m => (h1 x).trans (stays_testsRan m ((h1 x).flows.trans hf))
  unfold State.startModule
  dsimp only
  split
  · exact ((h2 _ _).trans (stays_loadKey _ _ _ _ _ _)).trans (hid _)
  · exact (h2 _ _).trans (hid _)

theorem stays_startSecurity {s : State} (x : StartUp) (hf : s.flows = []) : Stays s (s.startSecurity x) := by
  have h1 : ∀ y : Security, Stays s { s with security := y } := fun _ => stays_of_rest rfl fun _ _ _ => rfl
  unfold State.startSecurity
  dsimp only
  split
  · have h2 := fun y => (h1 y).trans (stays_record { s with security := y } 31 0xD00)
    exact (h2 _).trans (stays_startModule _ ((h2 _).flows.trans hf))
  · exact (h1 _).trans (stays_startModule _ hf)

/-! ### Memory, processors and survivors -/

theorem stays_channelsPut (s : State) (st : Nat) : Stays s (s.channelsPut st) := by
  refine stays_foldl (fun t n => ?_) _ s
  split
  · exact stays_setFld t MC_CH_STS_STATE st n (by decide)
  · exact Stays.refl t

theorem stays_copyBelief (s : State) (h : Nat) : Stays s (s.copyBelief h) := stays_setReg s .CPX_BELIEF _ h (by decide)

theorem stays_setTarget (s : State) (k : Nat) (x : IntTarget) : Stays s (s.setTarget k x) :=
  stays_of_rest rfl (stays_setReg { s with targets := _ } .IC_TGT_STS _ k (by decide)).regs

theorem stays_startCpx (s : State) (h : Nat) : Stays s (s.startCpx h) := by
  have h1 := ((stays_setFld s CPX_STS_RUNNING 1 h (by decide)).trans (stays_setFld _ CPX_STS_HALTED 0 h (by decide))).trans
    (stays_setFld _ CPX_STS_FENCED 0 h (by decide))
  have h2 := (h1.trans (stays_setFld _ CPX_CTL_HALT 0 h (by decide))).trans (stays_copyBelief _ h)
  exact (h2.trans (stays_setTarget _ _ _)).trans (stays_syncMasks _)

theorem stays_digestFail (s : State) : Stays s s.digestFail := by
  have h1 := (stays_setFld s CPX_BOOT_STS_STATE 5 0 (by decide)).trans (stays_setFld _ CPX_BOOT_STS_ERR 6 0 (by decide))
  have h2 := (h1.trans (stays_setFld _ CPX_STS_RUNNING 0 0 (by decide))).trans (stays_setFld _ CPX_STS_RUNNING 0 1 (by decide))
  unfold State.digestFail
  dsimp only
  generalize (((s.setFld CPX_BOOT_STS_STATE 5).setFld CPX_BOOT_STS_ERR 6).setFld CPX_STS_RUNNING 0 0).setFld CPX_STS_RUNNING 0 1 = u at h2 ⊢
  have h3 : Stays u { u with ctl := { u.ctl with retained := false } } := stays_of_rest rfl fun _ _ _ => rfl
  exact (h2.trans h3).trans (stays_record _ 15 0)

theorem stays_restartRetained (s : State) (ok : Bool) : Stays s (s.restartRetained ok) := by
  unfold State.restartRetained
  split
  · exact Stays.refl s
  · split
    · exact stays_digestFail s
    · refine ((stays_setFld s CPX_BOOT_STS_STATE 4 0 (by decide)).trans (stays_foldl (fun t u => ?_) _ _)).trans
        ((stays_startCpx _ 0).trans (stays_startCpx _ 1))
      dsimp only
      split
      · exact Stays.refl t
      · split
        · exact (stays_setFld t USQ_STS_RUN 1 u (by decide)).trans (stays_setFld _ ENC_CL_STS_USQ_RUN 1 u (by decide))
        · exact stays_setFld t USQ_STS_RUN 1 u (by decide)

/-- The start-up before the survivors are checked. -/
def State.startedWarm (s : State) (x : StartUp) : State :=
  let s1 := if s.domOn 15 then s else ((s.domsOn [22, 15, 21]).sleepCount x.cycles).wakeTime
  ((s1.standingVotes.startDomains.startSecurity x).channelsPut (if s1.flag MC_CFG_TRAINED then 2 else 0)).restartRetained x.digestOk

theorem startWarm_eq (s : State) (x : StartUp) : s.startWarm x = (s.startedWarm x).dropCopies x.badCopies := rfl

theorem stays_sleepCount (s : State) (n : Nat) : Stays s (s.sleepCount n) := by
  unfold State.sleepCount
  split <;> exact stays_of_rest rfl fun _ _ _ => rfl

theorem stays_startedWarm {s : State} (x : StartUp) (hf : s.flows = []) (he : s.codec.enc = []) (hd : s.codec.dec = []) : Stays s (s.startedWarm x) := by
  unfold State.startedWarm
  extract_lets s1
  have h1 : Stays s s1 := by
    unfold s1
    split
    · exact Stays.refl s
    · have h := (stays_foldl (fun t d => stays_domPut t d domIsOn) [22, 15, 21] s).trans (stays_sleepCount _ x.cycles)
      exact h.trans (stays_wakeTime (by rw [h.codec, he]) (by rw [h.codec, hd]))
  have h2 := (h1.trans (stays_standingVotes s1)).trans (stays_startDomains _)
  exact ((h2.trans (stays_startSecurity x (h2.flows.trans hf))).trans (stays_channelsPut _ _)).trans (stays_restartRetained _ _)

end Sys2Proof.Machine
end

section
/-!
SUPPORT. What a CXL reset wipes, and the state that its start-up reaches (R371, R385, R505, R508).
-/
namespace Sys2Proof.Machine

/-! ### Transfers -/

/-- A transfer of which no row was complete is withdrawn: only registers change (R333). -/
theorem touches_dmaWithdraw_nothing (s : State) (n c : Nat) (a : Option Nat) : Touches withdrawRegs s (s.dmaWithdraw n c a {}) := by
  by_cases hb : s.flag DMA_STS_BUSY n = true
  · have h0 : s.dmaCopy n (min 0 (s.dmaAll n)) [] = s := by
      rw [Nat.zero_min]
      rfl
    have h1 : ∀ k, Touches withdrawRegs s ((s.dmaCopy n (min 0 (s.dmaAll n)) []).dmaDone n k) := fun k => by
      rw [h0]
      exact touches_putN s .DMA_DONE_BYTES _ n (by simp [withdrawRegs, cutRegs])
    have h2 := fun k => (h1 k).trans (touches_putN _ .DMA_ORPHAN_BYTES 0 n (by simp [withdrawRegs, cutRegs]))
    have h3 := fun k => (h2 k).trans ((touches_event_self _ DMA_STS_ORPHAN n).mono (by simp [withdrawRegs, cutRegs, sourceOnly]))
    rw [dmaWithdraw_busy c a {} hb]
    exact (h3 _).trans ((touches_dmaFail _ n c _).mono (by simp [withdrawRegs, cutRegs, stopRegs]))
  · rw [dmaWithdraw_idle (eq_false_of_ne_true hb)]
    exact Touches.refl _ s

theorem touches_dmaStop_nothing (s : State) (p : Nat → Bool) (c : Nat) : Touches withdrawRegs s (s.dmaStop p c []) := by
  refine touches_foldl (fun t n => ?_) _ s
  split
  · exact touches_dmaWithdraw_nothing t n c none
  · exact Touches.refl _ t

/-! ### The wipe -/

/-- The registers that are kept, and no other, survive a wipe. -/
theorem reg_wiped (l : List Reg) (rs : Store DWord) {t : State} (ht : t.regs = storeErase (fun k => !keyOf l k) rs) {r : Reg} (hr : r ∉ l) (i : Nat) :
    t.reg r i = regReset r i := by
  rw [State.reg, ht, storeFind_erase, keyOf_regKey, decide_eq_false hr]
  rfl

theorem stays_levelsAfter (s : State) : Stays s s.levelsAfter := stays_of_rest rfl fun _ _ _ => rfl

theorem stays_retain (s : State) : Stays s s.retain := stays_foldl (fun t u => stays_putN t .USQ_STS _ u (by decide)) _ s

theorem stays_clearVotes (s : State) : Stays s s.clearVotes := stays_foldl (fun t d => stays_putN t .AON_VOTE _ d (by decide)) _ s

theorem stays_showRepairs (s b : State) : Stays s (s.showRepairs b) := by
  unfold State.showRepairs
  refine (stays_foldl (fun t p => ?_) (List.range 24) s).trans (stays_foldl (fun t k => ?_) (List.range 64) _)
  · split
    · exact Stays.refl t
    · split
      · exact stays_setFld t ENC_EP_STS_ON_SPARE 1 p (by decide)
      · exact stays_setFld t DEC_DP_STS_ON_SPARE 1 _ (by decide)
  · split
    · exact stays_setFld t SPD_BANK_STS_PHYS 64 k (by decide)
    · exact Stays.refl t

theorem stays_showLead (s : State) : Stays s s.showLead := by
  unfold State.showLead
  split
  · exact ((stays_putN s .AON_LEAD _ 0 (by decide)).trans (stays_setFld _ CPX_STS_LEAD _ 0 (by decide))).trans
      (stays_setFld _ CPX_STS_LEAD _ 1 (by decide))
  · exact Stays.refl s

/-- What a CXL reset has wiped, before its cause is set (R505). -/
structure Wiped (s t : State) (clear : Bool) : Prop where
  cmd : t.cmd = {}
  codec : t.codec = {}
  flows : t.flows = []
  mem : t.mem = if clear then [] else s.mem
  hostMem : t.hostMem = s.hostMem
  shut : t.resets.shut = s.resets.shut
  rail : t.resets.rail = s.resets.rail
  linkUp : t.cxl.linkUp = s.cxl.linkUp
  survivors : clear = true → t.survivors = []
  regs : ∀ r i, r ∈ [Reg.CMDQ_CFG, .CPLQ_CFG, .DMA_STS] → t.reg r i = regReset r i

theorem Wiped.stays {s t u : State} {c : Bool} (h : Wiped s t c) (k : Stays t u) : Wiped s u c where
  cmd := k.cmd.trans h.cmd
  codec := k.codec.trans h.codec
  flows := k.flows.trans h.flows
  mem := k.mem.trans h.mem
  hostMem := k.hostMem.trans h.hostMem
  shut := (congrArg ResetState.shut k.resets).trans h.shut
  rail := (congrArg ResetState.rail k.resets).trans h.rail
  linkUp := k.linkUp.trans h.linkUp
  survivors := fun hc => k.survivors.trans (h.survivors hc)
  regs := fun r i hr => (k.regs r i (List.mem_cons_of_mem _ hr)).trans (h.regs r i hr)

/-- The cause of a reset is set, and its start-up is due (R508). -/
theorem dueFor_facts {s t : State} {c : Bool} (h : Wiped s t c) {n : Nat} (hn : n < 8) :
    Wiped s (t.dueFor n) c ∧ (t.dueFor n).resets.due = some n ∧ (t.dueFor n).fld GLB_RST_STS_CAUSE = n := by
  have hlead := h.stays (stays_showLead t)
  unfold State.dueFor
  generalize t.showLead = u at hlead ⊢
  have hset : Wiped s (u.setFld GLB_RST_STS_CAUSE n) c :=
    ⟨hlead.cmd, hlead.codec, hlead.flows, hlead.mem, hlead.hostMem, hlead.shut, hlead.rail, hlead.linkUp, hlead.survivors, fun r i hr =>
      ((touches_setFld (rs := [.GLB_RST_STS]) u GLB_RST_STS_CAUSE n 0 (by simp)).2 r i (by revert hr; revert r; decide)).trans (hlead.regs r i hr)⟩
  have hcause : (u.setFld GLB_RST_STS_CAUSE n).fld GLB_RST_STS_CAUSE = n := by
    rw [fld_setFld_same _ _ _ _ (by simp)]
    exact Nat.mod_eq_of_lt (show n < 2 ^ 4 by omega)
  have hsurv := stays_showSurv (u.setFld GLB_RST_STS_CAUSE n)
  have hall := hset.stays hsurv
  refine ⟨⟨hall.cmd, hall.codec, hall.flows, hall.mem, hall.hostMem, hall.shut, hall.rail, hall.linkUp, hall.survivors, hall.regs⟩, rfl, ?_⟩
  exact (fld_congr (hsurv.regs .GLB_RST_STS 0 (by decide))).trans hcause

/-- The votes, levels, repairs and counts that a warm reset shows after its wipe (R457, R475, R519). -/
theorem stays_wipeShown (s b : State) (n : Nat) (c d : Prop) [Decidable c] [Decidable d] :
    let t1 := ((if c then s.retain else s).clearVotes.levelsAfter).setFld CELLQ_STS_FREE n
    let t2 := if d then t1.bumpFld AON_SLEEP_CNT_ABORTS else t1
    Stays s ((t2.showRepairs b).bumpFld GLB_RST_CNT_WARM) := by
  intro t1 t2
  have h0 : Stays s (if c then s.retain else s) := by
    split
    · exact stays_retain s
    · exact Stays.refl s
  have h1 : Stays s t1 := ((h0.trans (stays_clearVotes _)).trans (stays_levelsAfter _)).trans (stays_setFld _ CELLQ_STS_FREE n 0 (by decide))
  have h2 : Stays t1 t2 := by
    unfold t2
    split
    · exact stays_setFld t1 AON_SLEEP_CNT_ABORTS _ 0 (by decide)
    · exact Stays.refl t1
  exact ((h1.trans h2).trans (stays_showRepairs t2 b)).trans (stays_setFld _ GLB_RST_CNT_WARM _ 0 (by decide))

theorem wipeWarm_facts (s : State) (clear : Bool) {n : Nat} (hn : n < 8) :
    Wiped s (s.wipeWarm n clear true) clear ∧ (s.wipeWarm n clear true).resets.due = some n ∧ (s.wipeWarm n clear true).fld GLB_RST_STS_CAUSE = n := by
  have hkeep : ∀ b : Bool, ∀ r ∈ [Reg.CMDQ_CFG, .CPLQ_CFG, .DMA_STS], r ∉ if b then warmKept ++ retainedRegs else warmKept := by decide
  refine dueFor_facts (Wiped.stays ?_ (stays_wipeShown _ s _ _ _)) hn
  exact ⟨rfl, rfl, rfl, rfl, rfl, rfl, rfl, rfl, fun hc => if_pos (by rw [hc]; rfl), fun r i hr => reg_wiped _ s.regs rfl (hkeep _ r hr) i⟩

/-! ### The start-up -/

/-- Survivor copies that are dropped are survivors no more, and no other state but SURV_CRC and `GLB_SURV` differs (R512). -/
theorem dropCopies_facts {s t : State} {c : Bool} (h : Wiped s t c) (l : List Nat) : Wiped s (t.dropCopies l) c ∧
    (t.dropCopies l).resets = t.resets ∧ (t.dropCopies l).fld GLB_RST_STS_CAUSE = t.fld GLB_RST_STS_CAUSE := by
  unfold State.dropCopies
  extract_lets gone
  have hx : ∀ u : State, Wiped s u c ∧ u.resets = t.resets ∧ u.fld GLB_RST_STS_CAUSE = t.fld GLB_RST_STS_CAUSE →
      Wiped s u.showSurv c ∧ u.showSurv.resets = t.resets ∧ u.showSurv.fld GLB_RST_STS_CAUSE = t.fld GLB_RST_STS_CAUSE := fun u ⟨hw, hr, hf⟩ =>
    ⟨hw.stays (stays_showSurv u), hr, (fld_congr ((stays_showSurv u).regs .GLB_RST_STS 0 (by decide))).trans hf⟩
  refine hx _ ?_
  split
  · exact ⟨h, rfl, rfl⟩
  · refine ⟨⟨h.cmd, h.codec, h.flows, h.mem, h.hostMem, h.shut, h.rail, h.linkUp, fun hc => ?_, fun r i hr => ?_⟩, rfl, ?_⟩
    · show storeErase gone.contains t.survivors = []
      rw [h.survivors hc]
      rfl
    · exact ((touches_setFld (rs := [.GLB_RST_STS]) { t with survivors := storeErase gone.contains t.survivors } GLB_RST_STS_SURV_CRC 1 0 (by simp)).2 r i
        (by revert hr; revert r; decide)).trans (h.regs r i hr)
    · exact fld_setFld_apart { t with survivors := storeErase gone.contains t.survivors } _ _ _ _ _ (by simp [Field.apart])

/-- The start-up after a CXL reset runs to READY (R509). -/
theorem startUp_facts {s t : State} {c : Bool} {n : Nat} (x : StartUp) (h : Wiped s t c) (hdue : t.resets.due = some n) (hn : 3 ≤ n)
    (hs : s.resets.shut = false) (hr : s.resets.rail = false) (hcause : t.fld GLB_RST_STS_CAUSE = n) :
    Wiped s (t.startUp x) c ∧ (t.startUp x).resets.due = none ∧ (t.startUp x).fld GLB_RST_STS_CAUSE = n ∧ (t.startUp x).flag GLB_RST_STS_READY = true := by
  have hk := stays_startedWarm x h.flows (by rw [h.codec]) (by rw [h.codec])
  obtain ⟨hw, hres, hfld⟩ := dropCopies_facts (h.stays hk) x.badCopies
  have hcause' : ((t.startedWarm x).dropCopies x.badCopies).fld GLB_RST_STS_CAUSE = n :=
    hfld.trans ((fld_congr (hk.regs .GLB_RST_STS 0 (by decide))).trans hcause)
  have heq : t.startUp x = State.setFld { t.startWarm x with resets := { (t.startWarm x).resets with due := none } } GLB_RST_STS_READY 1 := by
    have hheld : ¬(t.resets.shut = true ∨ t.resets.rail = true) := by
      rw [h.shut, h.rail, hs, hr]
      simp
    unfold State.startUp
    rw [hdue]
    dsimp only
    rw [if_neg hheld, if_neg (Nat.not_lt.mpr hn)]
  rw [heq, startWarm_eq]
  generalize (t.startedWarm x).dropCopies x.badCopies = u at hw hres hcause' ⊢
  refine ⟨⟨hw.cmd, hw.codec, hw.flows, hw.mem, hw.hostMem, hw.shut, hw.rail, hw.linkUp, hw.survivors, fun r i hr => ?_⟩, rfl, ?_, ?_⟩
  · exact ((touches_setFld (rs := [.GLB_RST_STS]) { u with resets := { u.resets with due := none } } GLB_RST_STS_READY 1 0 (by simp)).2 r i
      (by revert hr; revert r; decide)).trans (hw.regs r i hr)
  · exact (fld_setFld_apart { u with resets := { u.resets with due := none } } _ _ _ _ _ (by simp [Field.apart])).trans hcause'
  · exact flag_setFld_one { u with resets := { u.resets with due := none } } GLB_RST_STS_READY 0 (by simp) (by simp)

/-- What a CXL reset reaches: all that runs has ended, and the device has started again (R385, R505, R509). -/
theorem cxlReset_facts {s : State} (c : Bool) (x : StartUp) (hs : s.inReset = false) :
    let t := (s.warmReset (if c then 6 else 5) c true []).thenStart s x
    Wiped s t c ∧ t.resets.due = none ∧ t.fld GLB_RST_STS_CAUSE = (if c then 6 else 5) ∧ t.flag GLB_RST_STS_READY = true := by
  have hin : (s.resets.due.isSome = false ∧ s.resets.shut = false) ∧ s.resets.rail = false := by
    rwa [State.inReset, Bool.or_eq_false_iff, Bool.or_eq_false_iff] at hs
  obtain ⟨⟨-, hshut⟩, hrail⟩ := hin
  have hcause : 3 ≤ (if c then 6 else 5) ∧ (if c then 6 else 5) < 8 := by cases c <;> decide
  intro t
  have ht : t = ((s.dmaStop (fun _ => true) 8 []).wipeWarm (if c then 6 else 5) c true).startUp x := by
    unfold t
    rw [State.thenStart, State.warmReset, hs]
    rfl
  have hd := (touches_dmaStop_nothing s (fun _ => true) 8).rest
  rw [ht]
  generalize (if c = true then 6 else 5) = n at hcause ⊢
  have hmem := (touches_dmaStop_nothing s (fun _ => true) 8).mem
  have hhost := (touches_dmaStop_nothing s (fun _ => true) 8).hostMem
  generalize s.dmaStop (fun _ => true) 8 [] = u at hd hmem hhost ⊢
  obtain ⟨hw, hdue, hfld⟩ := wipeWarm_facts u c hcause.2
  have hws : Wiped s (u.wipeWarm n c true) c :=
    ⟨hw.cmd, hw.codec, hw.flows, by rw [hw.mem, hmem], by rw [hw.hostMem, hhost], by rw [hw.shut, hd.resets], by rw [hw.rail, hd.resets],
      by rw [hw.linkUp, hd.cxl], hw.survivors, hw.regs⟩
  exact startUp_facts x hws hdue hcause.1 hshut hrail hfld

end Sys2Proof.Machine
end

section
/-!
PROOFS. The HDM decoder, the virtual functions, the function-level and CXL reset, DOE, and link IDE (R371, R373, R376, R383 to R385, R505).
-/
namespace Sys2Proof.Machine

/-! ### The HDM decoder (R376) -/

section
variable {b n w g : Nat} {s : State}

/-- A commit that the decoder takes asks for whole units inside the memory, in a known interleave. -/
def hdmFits (b n w g : Nat) (s : State) : Bool :=
  decide (0 < n) && decide (n ≤ s.hdmSize) && decide (n % 2 ^ 28 = 0) && decide (b % 2 ^ 28 = 0) &&
    [1, 2, 4, 8].contains w && [256, 512, 1024, 2048, 4096, 8192, 16384].contains g

theorem execHdmDecoderCommit_open (hc : s.cxl.hdm.committed = false) : exec (.hdmDecoderCommit b n w g) s =
    finish { s with cxl := { s.cxl with
      hdm := if hdmFits b n w g s then { committed := true, base := b, size := n, ways := w, gran := g } else { s.cxl.hdm with err := true } } } :=
  congrArg finish (if_neg (ne_true_of_eq_false hc))

theorem hdmDecoderCommit_commits (hc : s.cxl.hdm.committed = false) (h0 : 0 < n) (hn : n ≤ s.hdmSize) (hu : n % 2 ^ 28 = 0) (hb : b % 2 ^ 28 = 0)
    (hw : w ∈ [1, 2, 4, 8]) (hg : g ∈ [256, 512, 1024, 2048, 4096, 8192, 16384]) :
    Gives (.hdmDecoderCommit b n w g) s fun t =>
      t = settle { s with cxl := { s.cxl with hdm := { committed := true, base := b, size := n, ways := w, gran := g } } } := by
  refine gives_finish (execHdmDecoderCommit_open hc) ?_
  have hfit : hdmFits b n w g s = true := by
    simp only [hdmFits, Bool.and_eq_true, decide_eq_true_eq, List.contains_iff_mem]
    exact ⟨⟨⟨⟨⟨h0, hn⟩, hu⟩, hb⟩, hw⟩, hg⟩
  rw [if_pos hfit]

theorem hdmDecoderCommit_errs (hc : s.cxl.hdm.committed = false) (hbad : n = 0 ∨ s.hdmSize < n ∨ w ∉ [1, 2, 4, 8]) :
    Gives (.hdmDecoderCommit b n w g) s fun t => t = settle { s with cxl := { s.cxl with hdm := { s.cxl.hdm with err := true } } } := by
  refine gives_finish (execHdmDecoderCommit_open hc) ?_
  have hfit : ¬hdmFits b n w g s = true := by
    simp only [hdmFits, Bool.and_eq_true, decide_eq_true_eq, List.contains_iff_mem]
    rintro ⟨⟨⟨⟨⟨h0, hn⟩, -⟩, -⟩, hw⟩, -⟩
    rcases hbad with h | h | h
    · omega
    · omega
    · exact h hw
  rw [if_neg hfit]

theorem hdmDecoderCommit_locked (hc : s.cxl.hdm.committed = true) : Gives (.hdmDecoderCommit b n w g) s fun t => Unchanged s t :=
  gives_unchanged (congrArg finish (if_pos hc))

end

/-! ### Virtual functions and the function-level reset (R385, R505) -/

section
variable {n f : Nat} {l : List (Nat × DmaProgress)} {s : State}

theorem vfEnableWrite_enables (he : s.cxl.vfEnable = false) (hn : n ≤ 32) (hr : s.vfsRetained = 0) :
    Gives (.vfEnableWrite n true l) s fun t => t = settle { s with vfs := n, cxl := { s.cxl with numVfs := n, vfEnable := true } } := by
  refine gives_finish (u := { s with vfs := n, cxl := { s.cxl with numVfs := n, vfEnable := true } })
    (congrArg finish ((if_neg (ne_true_of_eq_false he)).trans ((if_neg (by omega)).trans ((if_neg (by decide)).trans ?_)))) rfl
  have hgone : ((List.range s.vfsRetained).map (· + 1)).filter (fun f => decide (n < f)) = [] := by
    rw [hr]
    rfl
  dsimp only
  rw [hgone, List.foldl_nil, ← hr]

theorem vfEnableWrite_sizes (he : s.cxl.vfEnable = false) (hn : n ≤ 32) :
    Gives (.vfEnableWrite n false l) s fun t => t = settle { s with cxl := { s.cxl with numVfs := n } } :=
  gives_finish (congrArg finish ((if_neg (ne_true_of_eq_false he)).trans ((if_neg (by omega)).trans (if_pos rfl)))) rfl

theorem vfEnableWrite_again (he : s.cxl.vfEnable = true) : Gives (.vfEnableWrite n true l) s fun t => Unchanged s t :=
  gives_unchanged (congrArg finish ((if_pos he).trans (if_pos rfl)))

theorem vfEnableWrite_clears (he : s.cxl.vfEnable = true) : Gives (.vfEnableWrite n false l) s fun t =>
    t.vfs = 0 ∧ t.cxl.vfEnable = false ∧
      ∀ q : Nat, q < 64 → 0 < s.fld CMDQ_OWNER_FUNC q → s.fld CMDQ_OWNER_FUNC q ≤ s.vfs → t.flag CMDQ_CFG_EN q = false := by
  refine gives_finish (congrArg finish ((if_pos he).trans (if_neg (by decide)))) ⟨rfl, rfl, fun q hq h0 hv => ?_⟩
  exact (flag_settle _ _ _ (by simp)).trans (functionsGone_queues s s.vfs q l hq h0 hv)

theorem functionLevelReset_ends (hin : s.inReset = false) (hf : s.funcEnabled f = true) : Gives (.functionLevelReset f l) s fun t =>
    (∀ h : Nat, h < 512 → (s.stream h).st ≠ .free → (s.stream h).func = f → t.stream h = {}) ∧
    (∀ q : Nat, q < 64 → (s.fld CMDQ_OWNER_FUNC q = f → t.flag CMDQ_CFG_EN q = false) ∧ (s.fld CPLQ_OWNER_FUNC q = f → t.flag CPLQ_CFG_EN q = false)) ∧
    (∀ n : Nat, n < 64 → s.fld DMA_CH_OWNER_FUNC n = f → t.flag DMA_STS_BUSY n = false ∧ t.flag DMA_CH_CTL_EN n = false) ∧
    (t.cxl.unmasked.all fun e => decide (e.1 / 256 ≠ f)) = true ∧
    (∀ e : Nat, e < 4096 → (s.flow e).live = true → (s.flow e).func = f → (t.flow e).live = false) := by
  have hgo : ¬(s.inReset = true ∨ (!s.funcEnabled f) = true) := by
    rw [hin, hf]
    simp
  have hk := flr_facts s f l
  refine gives_finish (congrArg finish (if_neg hgo)) ⟨fun h _ hs hf => hk.streams h hs hf, fun q hq => ⟨fun ho => ?_, fun ho => ?_⟩, fun m hm ho => ⟨?_, ?_⟩,
    hk.vectors, fun e _ hl hf => hk.flows e hl hf⟩
  · exact (flag_settle _ _ _ (by simp)).trans (cmdqCfg_reset (hk.submission q hq ho))
  · exact (flag_settle _ _ _ (by simp)).trans (cplqCfg_reset (hk.completion q hq ho))
  · exact (flag_settle _ _ _ (by simp)).trans (dmaSts_reset (hk.channels m .DMA_STS hm ho (by decide)))
  · exact (flag_settle _ _ _ (by simp)).trans (dmaCtl_reset (hk.channels m .DMA_CH_CTL hm ho (by decide)))

theorem functionLevelReset_ignored (h : s.inReset = true ∨ s.funcEnabled f = false) : Gives (.functionLevelReset f l) s fun t => Unchanged s t :=
  gives_unchanged (congrArg finish (if_pos (h.imp_right fun h => by rw [h]; rfl)))

end

/-! ### The CXL reset (R371, R505, R509) -/

theorem cxlReset_restarts (c : Bool) (x : StartUp) {s : State} (hs : s.inReset = false) : Gives (.cxlReset c [] x) s fun t =>
    t.fld GLB_RST_STS_CAUSE = (if c then 6 else 5) ∧ t.flag GLB_RST_STS_READY = true ∧ t.resets.due = none ∧ t.codec.enc = [] ∧ t.codec.dec = [] ∧
    t.cmd.outstanding = [] ∧ (∀ q : Nat, q < 64 → t.flag CMDQ_CFG_EN q = false ∧ t.flag CPLQ_CFG_EN q = false) ∧
    (∀ n : Nat, n < 64 → t.flag DMA_STS_BUSY n = false) ∧ t.cxl.linkUp = s.cxl.linkUp ∧ t.flows = [] ∧ t.hostMem = s.hostMem ∧
    (c = true → t.mem = [] ∧ t.survivors = []) ∧ (c = false → t.mem = s.mem) := by
  obtain ⟨hw, hdue, hcause, hready⟩ := cxlReset_facts c x hs
  refine gives_finish (u := (s.warmReset (if c then 6 else 5) c true []).thenStart s x) rfl ?_
  generalize (s.warmReset (if c then 6 else 5) c true []).thenStart s x = u at hw hdue hcause hready ⊢
  refine ⟨(fld_settle _ _ _ (by simp)).trans hcause, (flag_settle _ _ _ (by simp)).trans hready, hdue, congrArg Codec.enc hw.codec,
    congrArg Codec.dec hw.codec, ?_, fun q _ => ⟨?_, ?_⟩, fun n _ => ?_, hw.linkUp, hw.flows, hw.hostMem, fun hc => ⟨?_, hw.survivors hc⟩, fun hc => ?_⟩
  · rw [settle_cmd, hw.cmd]
  · exact (flag_settle _ _ _ (by simp)).trans (cmdqCfg_reset (hw.regs .CMDQ_CFG q (by decide)))
  · exact (flag_settle _ _ _ (by simp)).trans (cplqCfg_reset (hw.regs .CPLQ_CFG q (by decide)))
  · exact (flag_settle _ _ _ (by simp)).trans (dmaSts_reset (hw.regs .DMA_STS n (by decide)))
  · exact hw.mem.trans (if_pos hc)
  · exact hw.mem.trans (if_neg (ne_true_of_eq_false hc))

theorem cxlReset_ignored (c : Bool) (l : List (Nat × DmaProgress)) (x : StartUp) {s : State} (hs : s.inReset = true) :
    Gives (.cxlReset c l x) s fun t => Unchanged s t := by
  refine gives_unchanged (congrArg finish ?_)
  rw [State.thenStart, State.warmReset, hs]
  rfl

/-! ### DOE (R384, R498) -/

/-- An operation of the module, and its response. -/
theorem doeAnswer_settled {rs : List Reg} {s u : State} (h : Secures rs s u) (b : Bool) :
    (settle (u.doeAnswer b)).sent = Sent.doe b :: s.sent ∧ SameRegs rs s (settle (u.doeAnswer b)) ∧ SameMemory s (settle (u.doeAnswer b)) :=
  ⟨congrArg (Sent.doe b :: ·) h.sent, sameRegs_settle h.2,
    (h.sameMemory.trans (sameMemory_of_mems rfl rfl rfl : SameMemory u (u.doeAnswer b))).trans
      (sameMemory_of_mems rfl rfl rfl : SameMemory (u.doeAnswer b) (settle (u.doeAnswer b)))⟩

section
variable {x : DoeObject} {s : State}

theorem doeRequest_errs (h : 4096 < x.bytes ∨ (s.cxl.doePending = true ∧ x.taken = false)) :
    Gives (.doeRequest x) s fun t => t = settle { s with cxl := { s.cxl with doeErr := true } } :=
  gives_finish (congrArg finish (if_pos (h.imp_right (And.imp_right fun h => by rw [h]; rfl)))) rfl

variable (hb : x.bytes ≤ 4096) (ht : s.cxl.doePending = false ∨ x.taken = true)
include hb ht

theorem doeRequest_taken : ¬(4096 < x.bytes ∨ (s.cxl.doePending = true ∧ (!x.taken) = true)) := by
  rintro (h | ⟨hp, hk⟩)
  · omega
  · rcases ht with h | h
    · rw [h] at hp
      cases hp
    · rw [h] at hk
      cases hk

theorem doeRequest_plain (hx : x.what = .plain) :
    Gives (.doeRequest x) s fun t => t = settle { s with cxl := { s.cxl with doePending := true }, sent := Sent.doe false :: s.sent } := by
  refine gives_finish (u := s.doeAnswer false) (congrArg finish ((if_neg (doeRequest_taken hb ht)).trans ?_)) rfl
  rw [hx]

end

/-- The count of sessions changes, and its event says so (R498). -/
def State.sessionsNow (s : State) (n : Nat) : State := ((s.putN .SEC_SESSIONS n).event SEC_EVT_SPDM_SESSION).service 0 0

/-- The registers of a session that opens or closes. -/
def doeSessionRegs : List Reg := [.SEC_SESSIONS, .SEC_EVT, .SEC_SVC_IND, .IC_PEND, .IC_MERGE_CNT]

theorem sessionsNow_facts (s : State) {n : Nat} (hn : n < 2 ^ 32) : Touches doeSessionRegs s (s.sessionsNow n) ∧
    (s.sessionsNow n).regN .SEC_SESSIONS = n ∧ (s.sessionsNow n).flag SEC_EVT_SPDM_SESSION = true := by
  unfold State.sessionsNow
  have h1 := touches_putN (rs := doeSessionRegs) s .SEC_SESSIONS n 0 (by simp [doeSessionRegs])
  have hput := regN_putN_same s .SEC_SESSIONS n 0 hn
  generalize s.putN .SEC_SESSIONS n = u at h1 hput ⊢
  have h2 := touches_event_self u SEC_EVT_SPDM_SESSION 0
  have hevt := flag_event_same u SEC_EVT_SPDM_SESSION 0 (by simp) (by simp) (by simp [sourceOnly])
  generalize u.event SEC_EVT_SPDM_SESSION = v at h2 hevt ⊢
  have h3 : Touches [.SEC_SVC_IND] v (v.service 0 0) := touches_putN v .SEC_SVC_IND _ 0 (by simp)
  exact ⟨(h1.trans (h2.mono (by simp [doeSessionRegs, sourceOnly]))).trans (h3.mono (by simp [doeSessionRegs])),
    (h3.regN (by simp) 0).trans ((h2.regN (by simp [sourceOnly]) 0).trans hput), (h3.flag (by simp) 0).trans hevt⟩

section
variable {x : DoeObject} {s : State} (hb : x.bytes ≤ 4096) (ht : s.cxl.doePending = false ∨ x.taken = true)
include hb ht

theorem doeRequest_opens (hx : x.what = .openSession) (he : s.secError = false) (hw : s.secWaits = false) (hi : s.noIdentity = false)
    (hn : s.regN .SEC_SESSIONS < 4) : Gives (.doeRequest x) s fun t =>
      t.regN .SEC_SESSIONS = s.regN .SEC_SESSIONS + 1 ∧ t.flag SEC_EVT_SPDM_SESSION = true ∧ t.sent = Sent.doe false :: s.sent ∧
      t.cxl.doePending = true ∧ SameRegs [.SEC_SESSIONS, .SEC_EVT, .SEC_SVC_IND, .IC_PEND, .IC_MERGE_CNT] s t := by
  have hgo : ¬(s.secError = true ∨ s.secWaits = true ∨ s.noIdentity = true ∨ 4 ≤ s.regN .SEC_SESSIONS) := by
    rw [he, hw, hi]
    simp only [Bool.false_eq_true, false_or]
    omega
  have hexec : exec (.doeRequest x) s = finish ((s.sessionsNow (s.regN .SEC_SESSIONS + 1)).doeAnswer false) := by
    refine congrArg finish ((if_neg (doeRequest_taken hb ht)).trans ?_)
    rw [hx]
    exact if_neg hgo
  obtain ⟨hk, hcount, hevt⟩ := sessionsNow_facts s (show s.regN .SEC_SESSIONS + 1 < 2 ^ 32 by omega)
  obtain ⟨hsent, hregs, -⟩ := doeAnswer_settled hk.secures false
  exact gives_finish hexec ⟨(regN_settle _ _ _ (by decide)).trans hcount, (flag_settle _ _ _ (by simp)).trans hevt, hsent, rfl, hregs⟩

theorem doeRequest_opensNone (hx : x.what = .openSession)
    (h : s.secError = true ∨ s.secWaits = true ∨ s.noIdentity = true ∨ 4 ≤ s.regN .SEC_SESSIONS) :
    Gives (.doeRequest x) s fun t => t = settle { s with cxl := { s.cxl with doePending := true }, sent := Sent.doe true :: s.sent } := by
  refine gives_finish (u := s.doeAnswer true) (congrArg finish ((if_neg (doeRequest_taken hb ht)).trans ?_)) rfl
  rw [hx]
  exact if_pos h

theorem doeRequest_closes (hx : x.what = .closeSession) (h0 : s.regN .SEC_SESSIONS ≠ 0) (hn : s.regN .SEC_SESSIONS < 2 ^ 32) :
    Gives (.doeRequest x) s fun t =>
      t.regN .SEC_SESSIONS = s.regN .SEC_SESSIONS - 1 ∧ t.flag SEC_EVT_SPDM_SESSION = true ∧ t.sent = Sent.doe false :: s.sent := by
  have hexec : exec (.doeRequest x) s = finish ((s.sessionsNow (s.regN .SEC_SESSIONS - 1)).doeAnswer false) := by
    refine congrArg finish ((if_neg (doeRequest_taken hb ht)).trans ?_)
    rw [hx]
    exact if_neg h0
  obtain ⟨hk, hcount, hevt⟩ := sessionsNow_facts s (show s.regN .SEC_SESSIONS - 1 < 2 ^ 32 by omega)
  exact gives_finish hexec ⟨(regN_settle _ _ _ (by decide)).trans hcount, (flag_settle _ _ _ (by simp)).trans hevt, (doeAnswer_settled hk.secures false).1⟩

theorem doeRequest_loadsKey {h : Nat} {k : List (BitVec 8)} (hx : x.what = .ideKey h k) (he : s.secError = false) (hw : s.secWaits = false)
    (h0 : s.regN .SEC_SESSIONS ≠ 0) (hc : s.fuse GLB_FUSE_CFG_CRYPTO ≠ 0) (hs : ideSlot h = true) : Gives (.doeRequest x) s fun t =>
      (t.slot h).cur.map (·.bytes) = some k ∧ (t.slot h).loads = ((s.slot h).loads + 1) % 65536 ∧ t.sent = Sent.doe false :: s.sent ∧
      SameRegs [.SEC_SVC_IND, .SEC_KEYS_USED] s t ∧ SameMemory s t := by
  have hgo : ¬(s.secError = true ∨ s.secWaits = true ∨ s.regN .SEC_SESSIONS = 0 ∨ s.fuse GLB_FUSE_CFG_CRYPTO = 0 ∨ (!ideSlot h) = true) := by
    rw [he, hw, hs]
    rintro (h | h | h | h | h)
    · cases h
    · cases h
    · exact h0 h
    · exact hc h
    · cases h
  have hexec : exec (.doeRequest x) s = finish (((s.loadKey h 0 false k).service 0 0).doeAnswer false) := by
    refine congrArg finish ((if_neg (doeRequest_taken hb ht)).trans ?_)
    rw [hx]
    exact if_neg hgo
  have hne : h ≠ 0xE00 := by
    rintro rfl
    revert hs
    decide
  obtain ⟨y, hload, hcur, hloads⟩ : ∃ y, s.loadKey h 0 false k = s.setSlot h y ∧ y.cur.map (·.bytes) = some k ∧ y.loads = ((s.slot h).loads + 1) % 65536 :=
    ⟨_, rfl, rfl, rfl⟩
  rw [hload] at hexec
  have h1 := secures_setSlot_ne s y hne
  have hslot := slot_setSlot_same s h y
  generalize s.setSlot h y = u at h1 hslot hexec
  have h2 : Secures [.SEC_SVC_IND] u (u.service 0 0) := (touches_putN u .SEC_SVC_IND _ 0 (by simp)).secures
  obtain ⟨hsent, hregs, hmem⟩ := doeAnswer_settled ((h1.mono (by simp)).trans (h2.mono (rs' := [.SEC_SVC_IND, .SEC_KEYS_USED]) (by simp))) false
  have hread : (settle ((u.service 0 0).doeAnswer false)).slot h = y := hslot
  exact gives_finish hexec ⟨by rw [hread]; exact hcur, by rw [hread]; exact hloads, hsent, hregs, hmem⟩

end

/-! ### Link IDE (R383) -/

theorem Touches.withCxl {rs : List Reg} {s t : State} (h : Touches rs s t) (x : Cxl) : Touches rs { s with cxl := x } { t with cxl := x } := by
  refine ⟨?_, h.2⟩
  have h1 := h.1
  rw [h1]

section
variable {p d k : Nat} {s : State}

theorem ideKeySetSwitch_switches (hp : p < 2) (hd : d < 2) (hk : k < 2) (hc : s.fuse GLB_FUSE_CFG_CRYPTO ≠ 0)
    (hs : (s.slot (0xC00 + 16 * p + 8 * d + 4 * k)).cur ≠ none) : Gives (.ideKeySetSwitch p d k) s fun t =>
      storeFind t.cxl.ideSet (p * 2 + d) = some k ∧ t.cxl.insecure = false ∧ (p = 0 → t.flag SEC_STS_IDE_IO = true) ∧
      (p = 1 → t.flag SEC_STS_IDE_CM = true) ∧ t.flag SEC_EVT_IDE_SWITCH = true ∧
      OnlyRegs [.SEC_STS, .SEC_EVT, .IC_PEND, .IC_MERGE_CNT] { s with cxl := t.cxl } t := by
  have hgo : ¬(2 ≤ p ∨ 2 ≤ d ∨ 2 ≤ k ∨ s.fuse GLB_FUSE_CFG_CRYPTO = 0 ∨ (s.slot (0xC00 + 16 * p + 8 * d + 4 * k)).cur.isNone = true) := by
    rw [Option.isNone_iff_eq_none]
    rintro (h | h | h | h | h)
    · omega
    · omega
    · omega
    · exact hc h
    · exact hs h
  refine gives_finish (congrArg finish (if_neg hgo)) ?_
  generalize hx : ({ s.cxl with ideSet := storeInsert s.cxl.ideSet (p * 2 + d) k, insecure := false } : Cxl) = x
  have hset : storeFind x.ideSet (p * 2 + d) = some k := by
    rw [← hx]
    exact storeFind_insert_same _ _ _
  have hins : x.insecure = false := by rw [← hx]
  dsimp only
  generalize hu : (if p = 0 then ({ s with cxl := x } : State).setFld SEC_STS_IDE_IO 1 else ({ s with cxl := x } : State).setFld SEC_STS_IDE_CM 1) = u
  have h1 : Touches [.SEC_STS] { s with cxl := x } u := by
    rw [← hu]
    split
    · exact touches_setFld _ SEC_STS_IDE_IO 1 0 (by simp)
    · exact touches_setFld _ SEC_STS_IDE_CM 1 0 (by simp)
  have hio : p = 0 → u.flag SEC_STS_IDE_IO = true := fun h => by
    rw [← hu, if_pos h]
    exact flag_setFld_one _ _ _ (by simp) (by simp)
  have hcm : p = 1 → u.flag SEC_STS_IDE_CM = true := fun h => by
    rw [← hu, if_neg (by omega)]
    exact flag_setFld_one _ _ _ (by simp) (by simp)
  have h2 := touches_event_self u SEC_EVT_IDE_SWITCH 0
  have hevt := flag_event_same u SEC_EVT_IDE_SWITCH 0 (by simp) (by simp) (by simp [sourceOnly])
  generalize u.event SEC_EVT_IDE_SWITCH = v at h2 hevt ⊢
  have hall := (h1.mono (rs' := [.SEC_STS, .SEC_EVT, .IC_PEND, .IC_MERGE_CNT]) (by simp)).trans (h2.mono (by simp [sourceOnly]))
  have hcxl : (settle v).cxl = x := hall.rest.cxl
  refine ⟨by rw [hcxl]; exact hset, by rw [hcxl]; exact hins, fun h => ?_, fun h => ?_, (flag_settle _ _ _ (by simp)).trans hevt, onlyRegs_linked hall⟩
  · exact (flag_settle_apart _ _ _ (by simp [Field.apart])).trans ((h2.flag (by simp [sourceOnly]) 0).trans (hio h))
  · exact (flag_settle_apart _ _ _ (by simp [Field.apart])).trans ((h2.flag (by simp [sourceOnly]) 0).trans (hcm h))

theorem ideKeySetSwitch_ignored (h : 2 ≤ p ∨ 2 ≤ d ∨ 2 ≤ k ∨ s.fuse GLB_FUSE_CFG_CRYPTO = 0) :
    Gives (.ideKeySetSwitch p d k) s fun t => Unchanged s t :=
  gives_unchanged (congrArg finish (if_pos (by omega)))

/-- Link IDE that ends insecure changes the state of the link and its two flags. -/
theorem ideInsecure_linked (s : State) : ∃ x : Cxl, Touches [.SEC_STS] { s with cxl := x } s.ideInsecure := by
  unfold State.ideInsecure
  split
  · exact ⟨_, (touches_setFld { s with cxl := { s.cxl with insecure := true, ideSet := [] } } SEC_STS_IDE_IO 0 0 (by simp)).trans
      (touches_setFld _ SEC_STS_IDE_CM 0 0 (by simp))⟩
  · exact ⟨s.cxl, Touches.refl _ s⟩

/-- The event and the record of an integrity failure, over a link whose state is `x`. -/
theorem ideFailed_facts {s u : State} {x : Cxl} (hk : Touches [.SEC_STS] { s with cxl := x } u) (hio : u.flag SEC_STS_IDE_IO = false)
    (hcm : u.flag SEC_STS_IDE_CM = false) : let t := settle ((u.event SEC_EVT_IDE_FAIL).record 27 0)
    t.cxl = x ∧ t.flag SEC_STS_IDE_IO = false ∧ t.flag SEC_STS_IDE_CM = false ∧ t.flag SEC_EVT_IDE_FAIL = true ∧
      t.reg .FC_LAST = faultRecord 27 0 false s.tickIndex ∧ OnlyRegs ([.SEC_STS, .SEC_EVT] ++ faultOnly) { s with cxl := t.cxl } t := by
  have h2 := touches_event_self u SEC_EVT_IDE_FAIL 0
  have hevt := flag_event_same u SEC_EVT_IDE_FAIL 0 (by simp) (by simp) (by simp [sourceOnly])
  have hidx : (u.event SEC_EVT_IDE_FAIL).tickIndex = s.tickIndex := (h2.regN (by simp [sourceOnly]) 0).trans (hk.regN (by simp) 0)
  generalize u.event SEC_EVT_IDE_FAIL = v at h2 hevt hidx ⊢
  have h3 := touches_record (rs := faultOnly) v 27 0 false fun _ h => h
  have hlast := last_record v (show 27 < 37 by omega) 0 false
  generalize v.record 27 0 = w at h3 hlast ⊢
  have hall : Touches ([.SEC_STS, .SEC_EVT] ++ faultOnly) { s with cxl := x } w :=
    ((hk.mono (by simp)).trans (h2.mono (by simp [sourceOnly, faultOnly]))).trans (h3.mono fun _ h => List.mem_append_right _ h)
  have hflag : ∀ f : Field, f.reg = .SEC_STS → SEC_STS_APPROVED.apart f → (settle w).flag f = u.flag f := fun f hr ha =>
    (flag_settle_apart w f 0 ha).trans ((h3.flag (by simp [hr, faultOnly]) 0).trans (h2.flag (by simp [hr, sourceOnly]) 0))
  refine ⟨hall.rest.cxl, (hflag _ rfl (by simp [Field.apart])).trans hio, (hflag _ rfl (by simp [Field.apart])).trans hcm,
    (flag_settle _ _ _ (by simp)).trans ((h3.flag (by simp [faultOnly]) 0).trans hevt), ?_, onlyRegs_linked hall⟩
  rw [reg_settle _ _ _ (by decide), hlast, hidx]

theorem ideIntegrityFail_records (hc : s.fuse GLB_FUSE_CFG_CRYPTO ≠ 0) : Gives .ideIntegrityFail s fun t =>
    t.cxl.insecure = true ∧ t.cxl.errors.fatal = true ∧ t.flag SEC_STS_IDE_IO = false ∧ t.flag SEC_STS_IDE_CM = false ∧ t.flag SEC_EVT_IDE_FAIL = true ∧
    t.reg .FC_LAST = faultRecord 27 0 false s.tickIndex ∧ OnlyRegs ([.SEC_STS, .SEC_EVT] ++ faultOnly) { s with cxl := t.cxl } t := by
  refine gives_finish (congrArg finish (if_neg hc)) ?_
  obtain ⟨-, hio, hcm, -, -⟩ := ideInsecure_facts s
  obtain ⟨y, hy⟩ := ideInsecure_linked s
  generalize s.ideInsecure = u at hio hcm hy ⊢
  have h1 := hy.withCxl { u.cxl with insecure := true, errors := { u.cxl.errors with fatal := true } }
  obtain ⟨hcxl, hall⟩ := ideFailed_facts h1 hio hcm
  exact ⟨congrArg Cxl.insecure hcxl, congrArg (fun c : Cxl => c.errors.fatal) hcxl, hall⟩

theorem ideIntegrityFail_ignored (hc : s.fuse GLB_FUSE_CFG_CRYPTO = 0) : Gives .ideIntegrityFail s fun t => Unchanged s t :=
  gives_unchanged (congrArg finish (if_pos hc))

end

/-- Settles O50, clause by clause: a function's reset by what each of its steps ends and what the later steps leave, and a CXL reset by what its wipe
leaves and what no step of the start-up writes. -/
theorem functionsKeysAndDecodersAreSetUp : Obligations.FunctionsKeysAndDecodersAreSetUp :=
  ⟨fun _ _ _ _ _ hc h0 hn hu hb hw hg => hdmDecoderCommit_commits hc h0 hn hu hb hw hg,
    fun _ _ _ _ _ hc hbad => hdmDecoderCommit_errs hc hbad,
    fun _ _ _ _ _ hc => hdmDecoderCommit_locked hc,
    fun _ _ _ he hn hr => ⟨vfEnableWrite_enables he hn hr, vfEnableWrite_sizes he hn⟩,
    fun _ _ _ he => ⟨vfEnableWrite_again he, vfEnableWrite_clears he⟩,
    fun _ _ _ hin hf => functionLevelReset_ends hin hf,
    fun _ _ _ h => functionLevelReset_ignored h,
    fun c x _ hs => cxlReset_restarts c x hs,
    fun c l x _ hs => cxlReset_ignored c l x hs,
    fun _ _ h => doeRequest_errs h,
    fun _ _ hb ht hx => doeRequest_plain hb ht hx,
    fun _ _ hb ht hx => ⟨fun he hw hi hn => doeRequest_opens hb ht hx he hw hi hn, fun h => doeRequest_opensNone hb ht hx h⟩,
    fun _ _ hb ht hx h0 hn => doeRequest_closes hb ht hx h0 hn,
    fun _ _ _ _ hb ht hx he hw h0 hc hs => doeRequest_loadsKey hb ht hx he hw h0 hc hs,
    fun _ => gives_finish rfl rfl,
    fun _ _ _ _ hp hd hk hc hs => ideKeySetSwitch_switches hp hd hk hc hs,
    fun _ _ _ _ h => ideKeySetSwitch_ignored h,
    fun _ hc => ideIntegrityFail_records hc,
    fun _ hc => ideIntegrityFail_ignored hc⟩

end Sys2Proof.Machine
end
